-- ==== Sys2Proof/Word.lean ====
section
/-! DEFINITION. The word types of the PL16K: a byte of memory, a 32-bit register word and an 8-byte table word. -/
namespace Sys2Proof

/-- A byte of host memory or of a set-up table. -/
abbrev Byte := BitVec 8

/-- A 32-bit register word (R6). -/
abbrev Word := BitVec 32

/-- An 8-byte word of a set-up table (R64). -/
abbrev DWord := BitVec 64

end Sys2Proof
end

