-- ==== Sys2Proof/Syntax.lean ====
section
/-! DEFINITION. The commands of the PL16K: one constructor for each row of the table of operations and events, with
the row's operands. A write to a register that has a row of its own carries the die whose endpoint takes it and the
value written. A step the device makes by itself carries the object it happens at and what the world outside the model
supplies (converter readings, frames, results of analogue checks). A descriptor's step carries the number the Host
Port gave the descriptor when it accepted it. -/
namespace Sys2Proof

/-- Where a Loop Instruction Set instruction runs (R244): the die and the loop core, with the instruction's guard
(R253). -/
structure LisAt where
  die : Fin 2
  core : Fin 64
  pg : Fin 4
  pn : Bool
  deriving DecidableEq, Repr

/-- A Meridian time as registers and slots show it (R318). -/
structure Stamp where
  sec : BitVec 48
  ns : BitVec 32
  frac : BitVec 16
  deriving DecidableEq, Repr

/-- The role command in the control slots of a downstream link frame (R386, R388, R384). -/
inductive DownCmd where
  | none | release | follow | hold
  deriving DecidableEq, Repr

/-- A valid downstream link frame: whether it is an idle frame (R377), and its role command. The slots' contents are
those the state holds as sent. -/
structure DownFrame where
  idle : Bool
  cmd : DownCmd
  deriving DecidableEq, Repr

/-- An upstream link frame as a die receives it (R349, R385): whether it is valid, whether the tile receives valid frames
from die A and from die B, whether its VDD_TILE is in range and no triplicated word differs in all three copies, and its
VHV reading in mV and mean current in mA (R166, R469). -/
structure UpFrame where
  valid : Bool
  linkA : Bool
  linkB : Bool
  vddOk : Bool
  wordsOk : Bool
  vhv : BitVec 14
  imean : BitVec 16
  deriving DecidableEq, Repr

/-- What a channel measurement finds (R299, R300): the errors at codes 4,096 and 61,440, in units of 1 / (den + 1) code,
and in AX mode the steps of the three choices of each cell group, in the same unit, group by group. -/
structure CalMeasure where
  eLo : Int
  eHi : Int
  den : Nat
  steps : List Int
  deriving DecidableEq, Repr

/-- A word that a command reads and finds with an uncorrectable error (R402): its memory group and address, and which of
the command's items it spoils. -/
structure EccHit where
  group : Fin 16
  addr : BitVec 19
  item : Nat
  deriving DecidableEq, Repr

/-- What reading one word of a scrub range finds on one die (R410). -/
structure ScrubWord where
  die : Fin 2
  offset : Nat
  uncorrectable : Bool
  deriving DecidableEq, Repr

/-- An access request pending at a Bus Matrix target in a cycle (R429). -/
structure BusReq where
  master : Fin 16
  write : Bool
  addr : Word
  bytes : Fin 65
  deriving DecidableEq, Repr

/-- What the world shows a Dawn (R477): whether the fuses check, whether every rail comes up, the memory groups whose
checkers and voters pass on each die, the tiles whose checkers pass, whether the Dawn word image of each flash die passes
its check, and the end of each step in µs from the start. -/
structure DawnIn where
  fuses : Bool
  rails : Bool
  checkA : BitVec 16
  checkB : BitVec 16
  tiles : BitVec 8
  wordsA : Bool
  wordsB : Bool
  ends : List Nat
  deriving DecidableEq, Repr

/-- What a rail's monitor reads (R465). -/
structure RailRead where
  rail : Fin 8
  ok : Bool
  vout : BitVec 16
  iout : BitVec 15
  deriving DecidableEq, Repr


/-- The spaces of an endpoint that accesses reach (R40, R43): the three base address registers and configuration space. -/
inductive Space where
  | bar0 | bar2 | bar4 | config
  deriving DecidableEq, Repr

/-- Where an access of the host at an endpoint begins. -/
structure HostAddr where
  space : Space
  addr : Word
  deriving DecidableEq, Repr

/-- A read of the host at an endpoint (R10, R46): the aligned words it takes, and how far into the frame it comes, in
1/65,536 ns. -/
structure HostSpan where
  space : Space
  addr : Word
  words : Nat
  sub : BitVec 22
  deriving DecidableEq, Repr

/-- What a read of host memory brings: its data, and whether a TLP of it was poisoned (R39). -/
structure HostRead (α : Type) where
  data : α
  poisoned : Bool
  deriving DecidableEq, Repr

/-- What has come of a plan's load (R92): its data, whether a TLP of it was poisoned, and whether the checks come no further than
step 6. -/
structure PlanRead where
  data : List Byte
  poisoned : Bool
  half : Bool
  deriving DecidableEq, Repr

/-- The commands of the block, in the order of the table. -/
inductive Instr where
  /-- DOORBELL_SQ_TAIL (R52). -/
  | doorbellSqTail (die : Fin 2) (page : Fin 64) (value : Word)
  /-- DOORBELL_CQ_HEAD (R52). -/
  | doorbellCqHead (die : Fin 2) (page : Fin 64) (value : Word)
  /-- DOORBELL_TQ_HEAD (R52). -/
  | doorbellTqHead (die : Fin 2) (page : Fin 64) (value : Word)
  /-- DESCRIPTOR_FETCH (R53). -/
  | descriptorFetch (ring : Fin 64)
  /-- DESCRIPTOR_ACCEPT (R58). -/
  | descriptorAccept (ring : Fin 64) (read : HostRead (Option (List Byte)))
  /-- NOP (R60). -/
  | nop (id : Nat)
  /-- FENCE (R61). -/
  | fence (id : Nat)
  /-- TABLE_DMA (R64). -/
  | tableDma (id : Nat) (read : HostRead (List DWord)) (ecc : Option EccHit)
  /-- TELEMETRY_CFG_CREATE (R75). -/
  | telemetryCfgCreate (id : Nat)
  /-- TELEMETRY_CFG_REMOVE (R75). -/
  | telemetryCfgRemove (id : Nat)
  /-- COMPLETION_WRITE (R70). -/
  | completionWrite (cq : Fin 64)
  /-- TELEMETRY_RECORD (R76). -/
  | telemetryRecord (tq : Fin 16)
  /-- COAL_TIME_EXPIRY (R78). -/
  | coalTimeExpiry (telemetry : Bool) (ring : Fin 64)
  /-- PERST_ASSERT (R79). -/
  | perstAssert (die : Fin 2)
  /-- PERST_RELEASE (R478). -/
  | perstRelease (die : Fin 2)
  /-- HOT_RESET (R79). -/
  | hotReset (die : Fin 2)
  /-- LINK_DISABLE (R79). -/
  | linkDisable (die : Fin 2)
  /-- DATA_LINK_LOSS (R79). -/
  | dataLinkLoss (die : Fin 2)
  /-- FUNCTION_LEVEL_RESET (R79). -/
  | functionLevelReset (die : Fin 2)
  /-- RETURN_FROM_D3HOT (R79). -/
  | returnFromD3hot (die : Fin 2)
  /-- LINK_TRAINED (R80). -/
  | linkTrained (die : Fin 2) (width : Fin 5) (speed : Fin 6)
  /-- HPT_CTL_ENABLE (R81). -/
  | hptCtlEnable (die : Fin 2) (value : Bool)
  /-- SQ_ENABLE (R82). -/
  | sqEnable (die : Fin 2) (ring : Fin 64) (value : Bool)
  /-- CQ_ENABLE (R68). -/
  | cqEnable (die : Fin 2) (ring : Fin 64) (value : Bool)
  /-- TQ_ENABLE (R83). -/
  | tqEnable (die : Fin 2) (ring : Fin 16) (value : Bool)
  /-- REGISTER_WRITE (R9). -/
  | registerWrite (die : Fin 2) (target : HostAddr) (be : BitVec 4) (values : List Word)
  /-- FABRIC_TABLE_WRITE (R18). -/
  | fabricTableWrite (die : Fin 2) (addr : Word) (value : Word)
  /-- DARK_SET (R30). -/
  | darkSet (die : Fin 2) (port : Fin 2048)
  /-- DARK_CLEAR (R31). -/
  | darkClear (die : Fin 2) (port : Fin 2048) (domain : Fin 17)
  /-- VALIDATE (R34). -/
  | validate (die : Fin 2)
  /-- VALIDATION_DONE (R35). -/
  | validationDone
  /-- CROSSING_SET_DONE (R26). -/
  | crossingSetDone
  /-- PLAN_LOAD (R91). -/
  | planLoad (id : Nat)
  /-- PLAN_CHECK (R92). -/
  | planCheck (id : Nat) (read : PlanRead) (ecc : Option EccHit)
  /-- PLAN_COMMIT (R98). -/
  | planCommit (id : Nat)
  /-- PLAN_ABORT (R109). -/
  | planAbort (id : Nat)
  /-- PLAN_FREE (R96). -/
  | planFree (id : Nat)
  /-- COMMIT_ADMIT (R116). -/
  | commitAdmit (ecc : Option EccHit)
  /-- COMMIT_STAGING (R102). -/
  | commitStaging
  /-- COMMIT_SWAP (R101). -/
  | commitSwap
  /-- MAKEBB_TARGET (R90). -/
  | makebbTarget
  /-- VERIFY_SAMPLE (R103). -/
  | verifySample (raws : List (Fin 1024 × BitVec 12))
  /-- VERIFY_DECISION (R105). -/
  | verifyDecision
  /-- COMMIT_RESOLVE (R106). -/
  | commitResolve
  /-- PLN_ENABLE_WRITE (R111). -/
  | plnEnableWrite (die : Fin 2) (value : Bool)
  /-- PLN_ENABLE_APPLY (R111). -/
  | plnEnableApply
  /-- CHANGE_EXPIRY (R141). -/
  | changeExpiry (tile : Fin 8) (ch : Fin 2048)
  /-- REAPPLY_ADMIT (R373). -/
  | reapplyAdmit
  /-- QUEUE_SAMPLE (R125). -/
  | queueSample
  /-- BUCKET_BURST_WRITE (R123). -/
  | bucketBurstWrite (die : Fin 2) (bucket : Fin 10) (burst : BitVec 24)
  /-- STAT_CLR (R136). -/
  | statClr (die : Fin 2)
  /-- ORBIT_LOAD (R130). -/
  | orbitLoad (id : Nat) (read : HostRead (List Byte))
  /-- ORBIT_START (R132). -/
  | orbitStart (id : Nat)
  /-- ORBIT_LIST_START (R132). -/
  | orbitListStart
  /-- ORBIT_STOP (R133). -/
  | orbitStop (id : Nat)
  /-- ORBIT_ENTRY_PREP (R128). -/
  | orbitEntryPrep (ecc : Option EccHit)
  /-- ORBIT_SWAP (R131). -/
  | orbitSwap
  /-- ORBIT_STOP_EFFECT (R133). -/
  | orbitStopEffect
  /-- TILE_LINK_FRAME (R144). -/
  | tileLinkFrame (tile : Fin 8) (die : Fin 2) (frame : DownFrame)
  /-- LIVE_UPDATE_APPLY (R145). -/
  | liveUpdateApply (tile : Fin 8) (ecc : Option EccHit)
  /-- TILE_ORPHAN (R148). -/
  | tileOrphan (tile : Fin 8)
  /-- TILE_LINK_RESUME (R148). -/
  | tileLinkResume (tile : Fin 8) (die : Fin 2)
  /-- DITHER_WRITE (R151). -/
  | ditherWrite (die : Fin 2) (tile : Fin 8) (ch : Fin 2048) (value : Word)
  /-- FOLDBACK_STEP (R153). -/
  | foldbackStep (tile : Fin 8) (mean : BitVec 16)
  /-- FOLD_CLEAR (R155). -/
  | foldClear (die : Fin 2) (tile : Fin 8) (mean : BitVec 16)
  /-- GUARD_TRIP (R157). -/
  | guardTrip (tile : Fin 8) (input : Fin 128)
  /-- GUARD_PERSIST (R160). -/
  | guardPersist (tile : Fin 8) (input : Fin 128)
  /-- GUARD_TRIP_CLEAR (R161). -/
  | guardTripClear (die : Fin 2) (tile : Fin 8) (w : Fin 4) (value : Word)
  /-- OUTPUT_CHECK_VISIT (R162). -/
  | outputCheckVisit (tile : Fin 8) (ch : Fin 2048) (measured : BitVec 16)
  /-- FAILED_RETEST (R164). -/
  | failedRetest (die : Fin 2) (tile : Fin 8) (group : Fin 64) (value : Word)
  /-- RETEST_DONE (R164). -/
  | retestDone (tile : Fin 8) (ch : Fin 2048) (pass : Bool)
  /-- RANGE_APPLY (R169). -/
  | rangeApply (tile : Fin 8)
  /-- FINE_SLOT_END (R175). -/
  | fineSlotEnd (tile : Fin 8) (modulator : Fin 16) (stream : List (BitVec 24))
  /-- FINE_TRIGGER (R178). -/
  | fineTrigger (die : Fin 2) (tile : Fin 8) (w : Fin 4) (value : Word)
  /-- GUARD_ARM (R182). -/
  | guardArm (tile : Fin 8) (input : Fin 128)
  /-- LOSS_TRIP (R183). -/
  | lossTrip (tile : Fin 8) (input : Fin 128)
  /-- LOSS_TRIP_CLEAR (R183). -/
  | lossTripClear (die : Fin 2) (tile : Fin 8) (input : Fin 128)
  /-- SYSCAL_DARK (R184). -/
  | syscalDark (die : Fin 2) (tile : Fin 8) (input : Fin 128) (range : Fin 4)
  /-- SYSCAL_REFERENCE (R184). -/
  | syscalReference (die : Fin 2) (tile : Fin 8) (input : Fin 128) (range : Fin 4)
  /-- SYSCAL_APPLY (R185). -/
  | syscalApply (die : Fin 2) (tile : Fin 8) (input : Fin 128) (range : Fin 4)
  /-- SYSCAL_STEP_DONE (R184). -/
  | syscalStepDone (tile : Fin 8)
  /-- CAPTURE_ENABLE (R188). -/
  | captureEnable (die : Fin 2) (tile : Fin 8) (value : Bool)
  /-- CAPTURE_SW_TRIGGER (R189). -/
  | captureSwTrigger (die : Fin 2) (tile : Fin 8)
  /-- CAPTURE_TIME_ARM (R190). -/
  | captureTimeArm (die : Fin 2) (tile : Fin 8) (hi : Word)
  /-- CAPTURE_TIME_TRIGGER (R190). -/
  | captureTimeTrigger (tile : Fin 8)
  /-- CAPTURE_BANK_FULL (R188). -/
  | captureBankFull (tile : Fin 8)
  /-- CAPTURE_RELEASE (R188). -/
  | captureRelease (die : Fin 2) (tile : Fin 8) (value : BitVec 2)
  /-- TONE_PUBLISH (R202). -/
  | tonePublish (elements : Bool) (ecc : Option EccHit)
  /-- SAMPLE_RING_GAP (R198). -/
  | sampleRingGap (tile : Fin 8)
  /-- PATH_BIT_CLEAR (R210). -/
  | pathBitClear (die : Fin 2) (foreign : Bool) (w : Fin 32) (value : Word)
  /-- TON_FIRST_CLR (R214). -/
  | tonFirstClr (die : Fin 2)
  /-- PERIOD_RELEASE (R224). -/
  | periodRelease (cls : Fin 4)
  /-- JOB_DISPATCH (R244). -/
  | jobDispatch (die : Fin 2) (core : Fin 64) (ecc : Option EccHit)
  /-- JOB_STEAL (R225). -/
  | jobSteal (die : Fin 2) (core : Fin 64)
  /-- PREFETCH_FILL (R428). -/
  | prefetchFill (die : Fin 2) (core : Fin 64)
  /-- CANDIDATE_PUBLISH (R220). -/
  | candidatePublish (cls : Fin 4)
  /-- COMBINED_OUTPUT_SEND (R221). -/
  | combinedOutputSend
  /-- CLASS_CHANGE (R222). -/
  | classChange (ch : Fin 16384)
  /-- JOB_WCET_STOP (R232). -/
  | jobWcetStop (die : Fin 2) (core : Fin 64)
  /-- CTX_WRITE (R237). -/
  | ctxWrite (id : Nat) (read : HostRead (List Byte))
  /-- ACTIVATE (R233). -/
  | activate (id : Nat) (read : HostRead (List Byte))
  /-- DEACTIVATE (R237). -/
  | deactivate (id : Nat) (read : HostRead (List Byte))
  /-- SET_CLASS (R237). -/
  | setClass (id : Nat) (read : HostRead (List Byte))
  /-- CTX_READ (R239). -/
  | ctxRead (id : Nat)
  /-- LPA_ENABLE (R229). -/
  | lpaEnable (die : Fin 2) (value : Bool)
  /-- LIS_NOP (R252). -/
  | lisNop (at_ : LisAt)
  /-- END (R244). -/
  | lisEnd (at_ : LisAt)
  /-- BR (R257). -/
  | lisBr (at_ : LisAt) (off : Fin 1024)
  /-- DONE (R247). -/
  | lisDone (at_ : LisAt)
  /-- WCAND (R247). -/
  | lisWcand (at_ : LisAt) (ra : Fin 16)
  /-- ADD (R248). -/
  | lisAdd (at_ : LisAt) (rd ra rb : Fin 16)
  /-- SUB (R248). -/
  | lisSub (at_ : LisAt) (rd ra rb : Fin 16)
  /-- ADDI (R248). -/
  | lisAddi (at_ : LisAt) (rd ra : Fin 16) (imm : BitVec 15)
  /-- MOVI (R252). -/
  | lisMovi (at_ : LisAt) (rd : Fin 16) (imm : BitVec 15)
  /-- MOVHI (R252). -/
  | lisMovhi (at_ : LisAt) (rd : Fin 16) (imm : BitVec 16)
  /-- MOVLO (R252). -/
  | lisMovlo (at_ : LisAt) (rd : Fin 16) (imm : BitVec 16)
  /-- MUL (R248). -/
  | lisMul (at_ : LisAt) (rd ra rb : Fin 16)
  /-- MULQ (R252). -/
  | lisMulq (at_ : LisAt) (rd ra rb : Fin 16) (sh : Fin 32)
  /-- DIV (R254). -/
  | lisDiv (at_ : LisAt) (rd ra rb : Fin 16)
  /-- MIN (R252). -/
  | lisMin (at_ : LisAt) (rd ra rb : Fin 16)
  /-- MAX (R252). -/
  | lisMax (at_ : LisAt) (rd ra rb : Fin 16)
  /-- CLMP (R252). -/
  | lisClmp (at_ : LisAt) (rd ra rb : Fin 16)
  /-- ABS (R254). -/
  | lisAbs (at_ : LisAt) (rd ra : Fin 16)
  /-- AND (R252). -/
  | lisAnd (at_ : LisAt) (rd ra rb : Fin 16)
  /-- OR (R252). -/
  | lisOr (at_ : LisAt) (rd ra rb : Fin 16)
  /-- XOR (R252). -/
  | lisXor (at_ : LisAt) (rd ra rb : Fin 16)
  /-- SHL (R248). -/
  | lisShl (at_ : LisAt) (rd ra : Fin 16) (sh : Fin 32)
  /-- ASR (R254). -/
  | lisAsr (at_ : LisAt) (rd ra : Fin 16) (sh : Fin 32) (rnd : Bool)
  /-- SEL (R252). -/
  | lisSel (at_ : LisAt) (rd ra rb : Fin 16) (p : Fin 4)
  /-- CMPLT (R252). -/
  | lisCmplt (at_ : LisAt) (pd : Fin 4) (ra rb : Fin 16)
  /-- CMPLE (R252). -/
  | lisCmple (at_ : LisAt) (pd : Fin 4) (ra rb : Fin 16)
  /-- CMPEQ (R252). -/
  | lisCmpeq (at_ : LisAt) (pd : Fin 4) (ra rb : Fin 16)
  /-- TBIT (R252). -/
  | lisTbit (at_ : LisAt) (pd : Fin 4) (ra : Fin 16) (b : Fin 32)
  /-- CMPLTI (R252). -/
  | lisCmplti (at_ : LisAt) (pd : Fin 4) (ra : Fin 16) (imm : BitVec 15)
  /-- CMPGTI (R252). -/
  | lisCmpgti (at_ : LisAt) (pd : Fin 4) (ra : Fin 16) (imm : BitVec 15)
  /-- LDI (R249). -/
  | lisLdi (at_ : LisAt) (rd : Fin 16) (sel : Fin 32) (idx : BitVec 14)
  /-- LDX (R249). -/
  | lisLdx (at_ : LisAt) (rd : Fin 16) (sel : Fin 32) (ra : Fin 16)
  /-- LDK (R246). -/
  | lisLdk (at_ : LisAt) (rd : Fin 16) (k : Fin 8)
  /-- STK (R246). -/
  | lisStk (at_ : LisAt) (ra : Fin 16) (k : Fin 8)
  /-- RDPC (R255). -/
  | lisRdpc (at_ : LisAt) (rd : Fin 16) (n : Fin 8)
  /-- PUBLISH (R263). -/
  | publish (die : Fin 2) (prog : Fin 4096)
  /-- RETIRE (R263). -/
  | retire (die : Fin 2) (prog : Fin 4096)
  /-- PROG_CMD_DONE (R264). -/
  | progCmdDone
  /-- PROFILE_UPDATE (R270). -/
  | profileUpdate (gen : Fin 4096)
  /-- STREAM_OPEN (R288). -/
  | streamOpen (id : Nat)
  /-- STREAM_START (R288). -/
  | streamStart (player : Fin 32)
  /-- STREAM_CLOSE (R289). -/
  | streamClose (id : Nat)
  /-- STREAM_STOP (R289). -/
  | streamStop (player : Fin 32)
  /-- PLAYER_PASS_END (R279). -/
  | playerPassEnd (player : Fin 32)
  /-- PLAYER_TRIGGER (R279). -/
  | playerTrigger (die : Fin 2) (player : Fin 32)
  /-- PLAYER_JUMP (R282). -/
  | playerJump (die : Fin 2) (player : Fin 32)
  /-- JUMP_APPLY (R282). -/
  | jumpApply (player : Fin 32)
  /-- RATE_WRITE (R281). -/
  | rateWrite (die : Fin 2) (player : Fin 32) (value : Word)
  /-- STREAM_FETCH (R283). -/
  | streamFetch (player : Fin 32) (tail : HostRead (Option Word))
  /-- STREAM_FETCH_DONE (R283). -/
  | streamFetchDone (player : Fin 32) (samples : HostRead (Option (List (BitVec 16))))
  /-- UNDERRUN (R284). -/
  | underrun (player : Fin 32)
  /-- UNDERRUN_RESUME (R285). -/
  | underrunResume (player : Fin 32)
  /-- TEMP_CONVERSION (R296). -/
  | tempConversion (readings : List (Fin 72 × BitVec 16)) (case_ : Option (BitVec 16))
  /-- ZONE_PASS_START (R298). -/
  | zonePassStart (zone : Fin 72)
  /-- CHANNEL_MEASURE_START (R302). -/
  | channelMeasureStart (tile : Fin 8) (group : Fin 64)
  /-- CHANNEL_MEASURE_DONE (R299). -/
  | channelMeasureDone (tile : Fin 8) (group : Fin 64) (m : CalMeasure)
  /-- LOG_APPEND (R308). -/
  | logAppend (okA okB : Bool)
  /-- CAL_ENABLE (R297). -/
  | calEnable (die : Fin 2) (value : Bool)
  /-- ZONES (R312). -/
  | zones (id : Nat)
  /-- CHANNELS (R312). -/
  | channels (id : Nat)
  /-- IMPORT (R313). -/
  | importRecs (id : Nat) (read : HostRead (List Byte))
  /-- CURVE_WRITE (R312). -/
  | curveWrite (id : Nat) (read : HostRead (List Byte)) (okA okB : Bool)
  /-- CURVE_SWEEP (R314). -/
  | curveSweep (id : Nat)
  /-- SWEEP_POINT_DONE (R314). -/
  | sweepPointDone
  /-- MON_SAVE (R312). -/
  | monSave (id : Nat) (okA okB : Bool)
  /-- INCR_COMMIT (R320). -/
  | incrCommit (die : Fin 2) (hi : BitVec 16)
  /-- SLEW_WRITE (R321). -/
  | slewWrite (die : Fin 2) (value : Word)
  /-- SLEW_DONE (R321). -/
  | slewDone
  /-- STEP_ARM (R322). -/
  | stepArm (die : Fin 2) (hi : Word)
  /-- SET_ARM (R322). -/
  | setArm (die : Fin 2) (hi : BitVec 16)
  /-- TIME_STEP_APPLY (R323). -/
  | timeStepApply
  /-- TIME_SET_APPLY (R322). -/
  | timeSetApply
  /-- HOLDOVER_TIMEOUT (R324). -/
  | holdoverTimeout
  /-- REFCLK_LOSS (R325). -/
  | refclkLoss
  /-- REFCLK_RECOVER (R325). -/
  | refclkRecover
  /-- FRAME_RECEIVE (R329). -/
  | frameReceive (port : Fin 2) (bytes : List Byte) (fcsOk : Bool) (pcs : Stamp)
  /-- SEND (R332). -/
  | send (die : Fin 2) (port : Fin 2) (slot : Fin 4) (len : Byte)
  /-- SEND_AND_STAMP (R332). -/
  | sendAndStamp (die : Fin 2) (port : Fin 2) (slot : Fin 4) (len : Byte)
  /-- ONE_STEP (R333). -/
  | oneStep (die : Fin 2) (port : Fin 2) (slot : Fin 4) (len : Byte)
  /-- TX_COMPLETE (R332). -/
  | txComplete (port : Fin 2) (pcs : Stamp)
  /-- TIMING_LINK_CHANGE (R332). -/
  | timingLinkChange (port : Fin 2) (up : Bool)
  /-- SYNC_TIMEOUT (R334). -/
  | syncTimeout (port : Fin 2)
  /-- PPS_OUT_PULSE (R335). -/
  | ppsOutPulse
  /-- PPS_IN_EDGE (R337). -/
  | ppsInEdge (at_ : Stamp)
  /-- PPSIN_POP (R337). -/
  | ppsinPop (die : Fin 2)
  /-- FAULT_OCCURRENCE (R354). -/
  | faultOccurrence (source : Fin 384) (info : BitVec 16) (die : Fin 2)
  /-- BLOCK_RESET_DONE (R352). -/
  | blockResetDone (target : Fin 8)
  /-- CONSEQ_WINDOW_END (R363). -/
  | conseqWindowEnd
  /-- FAULT_PAIR_REFRESH_TIMEOUT (R368). -/
  | faultPairRefreshTimeout
  /-- SAFE_N_REQUEST (R367). -/
  | safeNRequest
  /-- SAFE_N_RELEASE (R367). -/
  | safeNRelease
  /-- SAF_CLR_SOURCE (R370). -/
  | safClrSource (die : Fin 2) (source : Fin 512)
  /-- SAF_CLR_ALL (R370). -/
  | safClrAll (die : Fin 2)
  /-- ECLIPSE_CLEAR_SOURCES (R372). -/
  | eclipseClearSources (id : Nat)
  /-- ECLIPSE_CLEAR_ALL (R372). -/
  | eclipseClearAll (id : Nat)
  /-- INJECT_RECORD (R361). -/
  | injectRecord (die : Fin 2) (source : Fin 512) (info : BitVec 16)
  /-- INJECT_REACT (R361). -/
  | injectReact (die : Fin 2) (source : Fin 512) (info : BitVec 16)
  /-- SW_ECLIPSE (R347). -/
  | swEclipse (die : Fin 2) (value : Bool)
  /-- SAF_FIRST_CLR (R358). -/
  | safFirstClr (die : Fin 2)
  /-- SAF_HIST_POP (R357). -/
  | safHistPop (die : Fin 2)
  /-- LOCKSTEP_MISMATCH (R381). -/
  | lockstepMismatch (tile : Fin 8) (kind : Fin 8) (channel : Fin 16384)
  /-- MISMATCH_RESOLVE (R383). -/
  | mismatchResolve (failA failB : Bool)
  /-- HEARTBEAT_MISS (R385). -/
  | heartbeatMiss (observer : Fin 2)
  /-- SWITCH (R386). -/
  | switch (id : Nat)
  /-- DETACH (R395). -/
  | detach (id : Nat)
  /-- RESYNC (R396). -/
  | resync (id : Nat)
  /-- KEEP (R384). -/
  | keep (id : Nat)
  /-- LKS_CMD_SWITCH (R395). -/
  | lksCmdSwitch (die : Fin 2)
  /-- LKS_CMD_DETACH (R395). -/
  | lksCmdDetach (die : Fin 2)
  /-- LKS_CMD_RESYNC (R395). -/
  | lksCmdResync (die : Fin 2)
  /-- LKS_CMD_KEEP (R395). -/
  | lksCmdKeep (die : Fin 2) (keep : Fin 2)
  /-- SWITCH_EFFECT (R386). -/
  | switchEffect
  /-- LAG_CLOSE (R390). -/
  | lagClose
  /-- RESYNC_JOIN (R396). -/
  | resyncJoin (ok : Bool)
  /-- DIE_RESTART (R378). -/
  | dieRestart (die : Fin 2)
  /-- BUCKET_LEAK (R405). -/
  | bucketLeak (die : Fin 2) (group : Fin 16)
  /-- REMAP_SWITCH (R407). -/
  | remapSwitch (die : Fin 2)
  /-- SCRUB_RANGE (R410). -/
  | scrubRange (id : Nat) (results : List ScrubWord)
  /-- SCRUB_DONE (R410). -/
  | scrubDone
  /-- SOFTWARE_EVENT (R413). -/
  | softwareEvent (die : Fin 2) (w : Fin 2) (value : Word)
  /-- EVENT_FIRE (R414). -/
  | eventFire (source : Fin 640)
  /-- SOURCE_REARM (R415). -/
  | sourceRearm (source : Fin 640)
  /-- LOOP_REENABLE (R419). -/
  | loopReenable (die : Fin 2) (w : Fin 8) (value : Word)
  /-- TIMER_ARM (R422). -/
  | timerArm (die : Fin 2) (timer : Fin 64) (hi : Word)
  /-- TIMER_FIRE (R422). -/
  | timerFire (timer : Fin 64)
  /-- BUS_ACCESS (R429). -/
  | busAccess (die : Fin 2) (target : Fin 18) (requests : List BusReq)
  /-- KEY_LOAD (R435). -/
  | keyLoad (die : Fin 2) (slot : Fin 32)
  /-- KEY_ERASE (R435). -/
  | keyErase (die : Fin 2) (slot : Fin 32)
  /-- TAMPER_ALARM (R439). -/
  | tamperAlarm (cond : Fin 5)
  /-- ALARM_LOCK (R439). -/
  | alarmLock (die : Fin 2)
  /-- FW_WRITE (R444). -/
  | fwWrite (die : Fin 2) (read : HostRead (List Byte))
  /-- FW_WRITE_DONE (R444). -/
  | fwWriteDone (flashOk : Bool)
  /-- RAISE_MIN (R444). -/
  | raiseMin (die : Fin 2)
  /-- DBG_CHALLENGE (R446). -/
  | dbgChallenge (die : Fin 2) (nonce : BitVec 128)
  /-- DBG_LEVEL_REQUEST (R446). -/
  | dbgLevelRequest (die : Fin 2) (level : Fin 4)
  /-- DBG_RELOCK (R446). -/
  | dbgRelock (die : Fin 2)
  /-- COUNTER_SNAP (R460). -/
  | counterSnap (id : Nat)
  /-- SNAP_CAPTURE (R460). -/
  | snapCapture (id : Nat)
  /-- COUNTER_OVERFLOW (R452). -/
  | counterOverflow (die : Fin 2) (core : Fin 64) (k : Fin 6)
  /-- PMC_SAMPLE (R454). -/
  | pmcSample (die : Fin 2) (cluster : Fin 8)
  /-- PMC_CLEAR (R463). -/
  | pmcClear (die : Fin 2)
  /-- PMC_SMP_POP (R456). -/
  | pmcSmpPop (die : Fin 2) (cluster : Fin 8)
  /-- VAON_POWER_ON (R477). -/
  | vaonPowerOn (dawn : DawnIn)
  /-- RAIL_RETRY (R466). -/
  | railRetry (dawn : DawnIn)
  /-- RST_N_ASSERT (R482). -/
  | rstNAssert
  /-- RST_N_RELEASE (R482). -/
  | rstNRelease (dawn : DawnIn)
  /-- VAON_LOSS (R483). -/
  | vaonLoss
  /-- SHUTDOWN (R467). -/
  | shutdown (die : Fin 2) (key : BitVec 16)
  /-- VHV_SET_WRITE (R468). -/
  | vhvSetWrite (die : Fin 2) (mv : BitVec 14)
  /-- VHV_COMMAND (R468). -/
  | vhvCommand
  /-- VHV_RAMP_END (R469). -/
  | vhvRampEnd
  /-- PMBUS_POLL (R465). -/
  | pmbusPoll (readings : List RailRead) (vaonOk : Bool)
  /-- PMB_ALERT (R465). -/
  | pmbAlert (status : List (BitVec 16))
  /-- LOSS_COMPUTE (R471). -/
  | lossCompute
  /-- DUSK_REQUEST (R473). -/
  | duskRequest (die : Fin 2)
  /-- DUSK_ENTRY (R473). -/
  | duskEntry
  /-- DUSK_EXIT (R475). -/
  | duskExit (die : Fin 2)
  /-- CLOCK_RESTART (R474). -/
  | clockRestart (die : Fin 2) (dom : Fin 22)
  /-- ARM (R480). -/
  | arm (die : Fin 2) (key : BitVec 16)
  /-- DISARM (R481). -/
  | disarm (die : Fin 2) (key : BitVec 16)
  /-- ARM_EFFECT (R480). -/
  | armEffect
  /-- FAST_SAMPLE (R171). -/
  | fastSample (raws : List (Fin 1024 × BitVec 12)) (currents : List (Fin 1024 × Word))
  /-- ORBIT_ENTRY_START (R128). -/
  | orbitEntryStart
  /-- PLAYER_FRAME_OUTPUT (R280). -/
  | playerFrameOutput (player : Fin 32) (ecc : Option EccHit)
  /-- TAMPER_CONDITION_END (R438). -/
  | tamperConditionEnd (cond : Fin 5)
  /-- SNAPSHOT_READ (R10). -/
  | snapshotRead (die : Fin 2) (requester : Fin 3) (target : HostSpan)
  /-- IPEAK_READ (R166). -/
  | ipeakRead (die : Fin 2) (tile : Fin 8)
  /-- UPSTREAM_LINK_FRAME (R380). -/
  | upstreamLinkFrame (die : Fin 2) (tile : Fin 8) (frame : UpFrame)
  deriving DecidableEq, Repr

end Sys2Proof
end

