-- ==== Sys2Proof/Config.lean ====
section
/-! DEFINITION. What the module fixes: the constants of the manual, the values fused into one module, and the free
values that stand where the manual gives no value. -/
namespace Sys2Proof.Config

/-- FREE VALUE: the value that stands where the manual leaves a result of `w` bits open. Nothing constrains it; the
argument is the draw counter of the state (assumption 1). -/
opaque freeValue (w : Nat) : Nat → BitVec w

/-- Ticks in one drive frame of 50 ns (R3, R5). -/
def ticksPerFrame : Nat := 12800

/-- Frames in one microsecond, one millisecond and one second (R5). -/
def framesPerUs : Nat := 20
@[inherit_doc framesPerUs] def framesPerMs : Nat := 20000
@[inherit_doc framesPerUs] def framesPerSec : Nat := 20000000

/-- Frames in a Hold period of 50 µs (R150). -/
def framesPerHold : Nat := 1000

/-- Frames from preparation start to the earliest commit frame (R99). -/
def prepFrames : Nat := 40

/-- Accepted descriptors the Host Port holds at most (R54). -/
def maxAccepted : Nat := 4096

/-- Completions a completion ring holds waiting at most (R70). -/
def cqHeld : Nat := 64

/-- Telemetry bindings of a die (R74). -/
def maxBindings : Nat := 64

/-- Slots of the Route Plan Store (R94). -/
def storeSlots : Nat := 131072

/-- Fused at test: the internal path delays, in ticks, of die `d` to port `p` at line rate `mode` (R330). -/
opaque pathDelay (rx : Bool) (d p mode : Nat) : Nat

/-- Fused at test: the Subsystem Vendor ID and the Subsystem ID of both endpoints (R40). -/
opaque subsystemId : BitVec 32

/-- Fused at test: the SHA-384 of the firmware key (R443). -/
opaque fusedKeyHash : List (BitVec 8)

end Sys2Proof.Config
end

