-- ==== Sys2Proof/Machine/Maps.lean ====
section
/-! DEFINITION. Sparse data held as sorted lists of key and value pairs: look-up, removal and insertion. Insertion
keeps the keys strictly rising when they were, and a value equal to what an unlisted key reads as is never listed. -/
namespace Sys2Proof

/-- The value listed at `k`. -/
def aget {β : Type} (m : List (Nat × β)) (k : Nat) : Option β :=
  match m with
  | [] => none
  | (a, v) :: t => if a = k then some v else aget t k

/-- The list without the entries at `k`. -/
def adel {β : Type} (m : List (Nat × β)) (k : Nat) : List (Nat × β) :=
  match m with
  | [] => []
  | (a, v) :: t => if a = k then adel t k else (a, v) :: adel t k

/-- The list with `(k, v)` put before the first key above `k`. -/
def ains {β : Type} (m : List (Nat × β)) (k : Nat) (v : β) : List (Nat × β) :=
  match m with
  | [] => [(k, v)]
  | (a, w) :: t => if k < a then (k, v) :: (a, w) :: t else (a, w) :: ains t k v

/-- The list with the value at `k` replaced by `v`. -/
def aput {β : Type} (m : List (Nat × β)) (k : Nat) (v : β) : List (Nat × β) := ains (adel m k) k v

/-- The list with the value at `k` replaced by `v`, which is listed only where it differs from `dflt`. -/
def aset {β : Type} [DecidableEq β] (dflt : β) (m : List (Nat × β)) (k : Nat) (v : β) : List (Nat × β) :=
  if v = dflt then adel m k else ains (adel m k) k v

/-- The number at `k` of a sparse list of numbers, 0 where it lists none. -/
def nget (m : List (Nat × Nat)) (k : Nat) : Nat := (aget m k).getD 0

/-- The list with the number at `k` replaced by `v`. -/
def nset (m : List (Nat × Nat)) (k v : Nat) : List (Nat × Nat) := aset 0 m k v

/-- The keys rise strictly. -/
def risingKeys {β : Type} : List (Nat × β) → Bool
  | [] => true
  | [_] => true
  | (a, _) :: (b, w) :: t => decide (a < b) && risingKeys ((b, w) :: t)

end Sys2Proof
end

