-- ==== Sys2Proof/Machine/Regs.lean ====
section
/-! DEFINITION. The register fields of the register map (R6, R44): one constant per field, with its place and its
reset value, transcribed from the register tables of the chapters. A field of a register that the spec gives
several times (per die, ring, tile, channel, input, core) has up to three indices. -/
namespace Sys2Proof

/-- One field of a register, at every place the register map gives it. `base` is the register's BAR0 offset at
index 0, `lo` and `w` are the field's lowest bit and its width, `s1 n1 s2 n2 s3 n3` are the strides and counts of
up to three indices, `rst` is the reset value and `tab` its reset values along the last index where they differ. A
per-die register has the die as its first index, at a stride of 0x1000_0000 (the model's own, R41). -/
structure Fld where
  base : Nat
  lo : Nat
  w : Nat
  s1 : Nat := 0
  n1 : Nat := 1
  s2 : Nat := 0
  n2 : Nat := 1
  s3 : Nat := 0
  n3 : Nat := 1
  rst : Nat := 0
  tab : List Nat := []
  deriving DecidableEq, Repr

/-- The bit address that keys the field in the register file. -/
def Fld.key (f : Fld) (i j k : Nat) : Nat :=
  (f.base + f.s1 * (i % f.n1) + f.s2 * (j % f.n2) + f.s3 * (k % f.n3)) * 8 + f.lo

/-- The value the field has after reset. -/
def Fld.reset (f : Fld) (i j k : Nat) : Nat :=
  match f.tab with
  | [] => f.rst
  | t => t.getD (if f.n3 ≠ 1 then k else if f.n2 ≠ 1 then j else i) f.rst

/-- WO, class L. -/
def PLN_FMAP_CTL.VALIDATE : Fld := { base := 0x010F000, lo := 0, w := 1 }
/-- RO. -/
def PLN_FMAP_STATUS.ERR_TABLE : Fld := { base := 0x010F004, lo := 8, w := 2 }
/-- RO. -/
def PLN_FMAP_STATUS.ERROR : Fld := { base := 0x010F004, lo := 4, w := 4 }
/-- RO. -/
def PLN_FMAP_STATUS.VALID : Fld := { base := 0x010F004, lo := 1, w := 1 }
/-- RO. -/
def PLN_FMAP_STATUS.BUSY : Fld := { base := 0x010F004, lo := 0, w := 1 }
/-- RO. -/
def PLN_FMAP_ERR.ERR_INDEX : Fld := { base := 0x010F008, lo := 0, w := 16 }
/-- RO. -/
def PLN_REACH_CNT.COUNT : Fld := { base := 0x010F010, lo := 0, w := 11, s1 := 0x4, n1 := 8 }
/-- RO. -/
def HPT_ID.DEVICE : Fld := { base := 0x0000000, lo := 16, w := 16, rst := 0x1610 }
/-- RO. -/
def HPT_ID.REV : Fld := { base := 0x0000000, lo := 8, w := 8, rst := 0x1 }
/-- RO. -/
def HPT_ID.DIE : Fld := { base := 0x0000000, lo := 0, w := 1, s1 := 0x10000000, n1 := 2, tab := [0, 1] }
/-- RW, class L. -/
def HPT_CTL.ENABLE : Fld := { base := 0x0000004, lo := 0, w := 1 }
/-- RO. -/
def HPT_STATUS.LINK_WIDTH : Fld := { base := 0x0000008, lo := 12, w := 3, s1 := 0x10000000, n1 := 2 }
/-- RO. -/
def HPT_STATUS.LINK_SPEED : Fld := { base := 0x0000008, lo := 8, w := 4, s1 := 0x10000000, n1 := 2 }
/-- W1C. -/
def HPT_STATUS.CFG_REJECT : Fld := { base := 0x0000008, lo := 4, w := 1 }
/-- RO. -/
def HPT_STATUS.HEADLESS : Fld := { base := 0x0000008, lo := 3, w := 1, s1 := 0x10000000, n1 := 2, rst := 0x1 }
/-- RO. -/
def HPT_STATUS.LINK_UP : Fld := { base := 0x0000008, lo := 2, w := 1, s1 := 0x10000000, n1 := 2 }
/-- RO. -/
def HPT_STATUS.ACTIVE : Fld := { base := 0x0000008, lo := 1, w := 1, s1 := 0x10000000, n1 := 2 }
/-- RO. -/
def HPT_STATUS.READY : Fld := { base := 0x0000008, lo := 0, w := 1 }
/-- W1C. -/
def HPT_ERR_STATUS.TQ_LOST : Fld := { base := 0x000000C, lo := 7, w := 1, s1 := 0x10000000, n1 := 2 }
/-- W1C. -/
def HPT_ERR_STATUS.CQ_STALL : Fld := { base := 0x000000C, lo := 6, w := 1, s1 := 0x10000000, n1 := 2 }
/-- W1C. -/
def HPT_ERR_STATUS.POISONED : Fld := { base := 0x000000C, lo := 5, w := 1, s1 := 0x10000000, n1 := 2 }
/-- W1C. -/
def HPT_ERR_STATUS.FETCH_ERR : Fld := { base := 0x000000C, lo := 4, w := 1, s1 := 0x10000000, n1 := 2 }
/-- W1C. -/
def HPT_ERR_STATUS.STANDBY_WR : Fld := { base := 0x000000C, lo := 3, w := 1, s1 := 0x10000000, n1 := 2 }
/-- W1C. -/
def HPT_ERR_STATUS.DB_STANDBY : Fld := { base := 0x000000C, lo := 2, w := 1, s1 := 0x10000000, n1 := 2 }
/-- W1C. -/
def HPT_ERR_STATUS.DB_RANGE : Fld := { base := 0x000000C, lo := 1, w := 1, s1 := 0x10000000, n1 := 2 }
/-- W1C. -/
def HPT_ERR_STATUS.PARTIAL_WR : Fld := { base := 0x000000C, lo := 0, w := 1, s1 := 0x10000000, n1 := 2 }
/-- RO. -/
def HPT_ERR_INFO.RING : Fld := { base := 0x0000010, lo := 8, w := 6, s1 := 0x10000000, n1 := 2 }
/-- RO. -/
def HPT_ERR_INFO.BIT : Fld := { base := 0x0000010, lo := 0, w := 3, s1 := 0x10000000, n1 := 2 }
/-- RO. -/
def HPT_ERR_ADDR_LO.ADDR : Fld := { base := 0x0000014, lo := 0, w := 32, s1 := 0x10000000, n1 := 2 }
/-- RO. -/
def HPT_ERR_ADDR_HI.ADDR : Fld := { base := 0x0000018, lo := 0, w := 32, s1 := 0x10000000, n1 := 2 }
/-- RW, class L. -/
def HPT_ERR_VEC.VECTOR : Fld := { base := 0x000001C, lo := 0, w := 8 }
/-- RW, class S. -/
def HPT_DMA_CFG.RO_TELEM : Fld := { base := 0x0000020, lo := 9, w := 1 }
/-- RW, class S. -/
def HPT_DMA_CFG.MAX_RD_OUT : Fld := { base := 0x0000020, lo := 0, w := 9, rst := 0x100 }
/-- RO. -/
def HPT_HEADLESS_CNT.COUNT : Fld := { base := 0x0000024, lo := 0, w := 32, s1 := 0x10000000, n1 := 2 }
/-- RO. -/
def HPT_LOST_COMP.COUNT : Fld := { base := 0x0000028, lo := 0, w := 32, s1 := 0x10000000, n1 := 2 }
/-- RO. -/
def HPT_INFLIGHT.COUNT : Fld := { base := 0x000002C, lo := 0, w := 32 }
/-- RW, class S. -/
def HPT_RING_DOMAIN.DOMAIN : Fld := { base := 0x0000400, lo := 0, w := 5, s1 := 0x4, n1 := 64 }
/-- RW, class S. -/
def HPT_SQ_BASE_LO.BASE : Fld := { base := 0x0001000, lo := 12, w := 20, s1 := 0x40, n1 := 64 }
/-- RW, class S. -/
def HPT_SQ_BASE_HI.BASE : Fld := { base := 0x0001004, lo := 0, w := 32, s1 := 0x40, n1 := 64 }
/-- RW, class S. -/
def HPT_SQ_CFG.MAX_INFLIGHT : Fld := { base := 0x0001008, lo := 16, w := 9, s1 := 0x40, n1 := 64, rst := 0x100 }
/-- RW, class S. -/
def HPT_SQ_CFG.URGENT : Fld := { base := 0x0001008, lo := 15, w := 1, s1 := 0x40, n1 := 64 }
/-- RW, class S. -/
def HPT_SQ_CFG.CQ : Fld := { base := 0x0001008, lo := 9, w := 6, s1 := 0x40, n1 := 64 }
/-- RW, class S. -/
def HPT_SQ_CFG.SIZE_LOG2 : Fld := { base := 0x0001008, lo := 4, w := 5, s1 := 0x40, n1 := 64, rst := 0x4 }
/-- RW, class L. -/
def HPT_SQ_CFG.ENABLE : Fld := { base := 0x0001008, lo := 0, w := 1, s1 := 0x40, n1 := 64 }
/-- RO. -/
def HPT_SQ_HEAD.HEAD : Fld := { base := 0x000100C, lo := 0, w := 16, s1 := 0x40, n1 := 64 }
/-- RO. -/
def HPT_SQ_TAIL.TAIL : Fld := { base := 0x0001010, lo := 0, w := 16, s1 := 0x40, n1 := 64 }
/-- RO. -/
def HPT_SQ_STATUS.INFLIGHT : Fld := { base := 0x0001014, lo := 16, w := 9, s1 := 0x40, n1 := 64 }
/-- RO. -/
def HPT_SQ_STATUS.PAUSED : Fld := { base := 0x0001014, lo := 2, w := 1, s1 := 0x40, n1 := 64 }
/-- W1C. -/
def HPT_SQ_STATUS.DB_RANGE : Fld := { base := 0x0001014, lo := 1, w := 1, s1 := 0x40, n1 := 64 }
/-- RO. -/
def HPT_SQ_STATUS.ERROR : Fld := { base := 0x0001014, lo := 0, w := 1, s1 := 0x40, n1 := 64 }
/-- RW, class S. -/
def HPT_CQ_BASE_LO.BASE : Fld := { base := 0x0002000, lo := 12, w := 20, s1 := 0x40, n1 := 64 }
/-- RW, class S. -/
def HPT_CQ_BASE_HI.BASE : Fld := { base := 0x0002004, lo := 0, w := 32, s1 := 0x40, n1 := 64 }
/-- RW, class L. -/
def HPT_CQ_CFG.VECTOR : Fld := { base := 0x0002008, lo := 16, w := 8, s1 := 0x40, n1 := 64 }
/-- RW, class S. -/
def HPT_CQ_CFG.SIZE_LOG2 : Fld := { base := 0x0002008, lo := 4, w := 5, s1 := 0x40, n1 := 64, rst := 0x4 }
/-- RW, class L. -/
def HPT_CQ_CFG.ENABLE : Fld := { base := 0x0002008, lo := 0, w := 1, s1 := 0x40, n1 := 64 }
/-- RW, class L. -/
def HPT_CQ_COAL.COAL_TIME : Fld := { base := 0x000200C, lo := 8, w := 8, s1 := 0x40, n1 := 64 }
/-- RW, class L. -/
def HPT_CQ_COAL.COAL_COUNT : Fld := { base := 0x000200C, lo := 0, w := 8, s1 := 0x40, n1 := 64, rst := 0x1 }
/-- RO. -/
def HPT_CQ_TAIL.PHASE : Fld := { base := 0x0002010, lo := 16, w := 1, s1 := 0x40, n1 := 64, rst := 0x1 }
/-- RO. -/
def HPT_CQ_TAIL.TAIL : Fld := { base := 0x0002010, lo := 0, w := 16, s1 := 0x40, n1 := 64 }
/-- RO. -/
def HPT_CQ_HEAD.HEAD : Fld := { base := 0x0002014, lo := 0, w := 16, s1 := 0x40, n1 := 64 }
/-- RO. -/
def HPT_CQ_SEQ.SEQ : Fld := { base := 0x0002018, lo := 0, w := 32, s1 := 0x40, n1 := 64 }
/-- RO. -/
def HPT_CQ_STATUS.HELD : Fld := { base := 0x000201C, lo := 8, w := 8, s1 := 0x40, n1 := 64 }
/-- W1C. -/
def HPT_CQ_STATUS.DB_RANGE : Fld := { base := 0x000201C, lo := 1, w := 1, s1 := 0x40, n1 := 64 }
/-- RO. -/
def HPT_CQ_STATUS.STALL : Fld := { base := 0x000201C, lo := 0, w := 1, s1 := 0x40, n1 := 64 }
/-- RW, class F. -/
def PLN_CTL.ENABLE : Fld := { base := 0x0100000, lo := 0, w := 1 }
/-- RO. -/
def PLN_STATUS.ENABLED : Fld := { base := 0x0100004, lo := 4, w := 1 }
/-- RO. -/
def PLN_STATUS.PHASE : Fld := { base := 0x0100004, lo := 1, w := 3 }
/-- W1C. -/
def PLN_STATUS.CFG_REJECT : Fld := { base := 0x0100004, lo := 0, w := 1 }
/-- RW, class F. -/
def PLN_SETTLE_DEF.SETTLE : Fld := { base := 0x0100008, lo := 0, w := 16, rst := 0x1E }
/-- RW, class F. -/
def PLN_MAKEBB_DWELL.DWELL : Fld := { base := 0x010000C, lo := 0, w := 12, rst := 0x14 }
/-- RO. -/
def PLN_LIVE.VALID : Fld := { base := 0x0100010, lo := 31, w := 1 }
/-- RO. -/
def PLN_LIVE.FB : Fld := { base := 0x0100010, lo := 16, w := 1 }
/-- RO. -/
def PLN_LIVE.LIVE_ID : Fld := { base := 0x0100010, lo := 0, w := 10 }
/-- RO. -/
def PLN_LAST_C_LO.TICKS : Fld := { base := 0x0100014, lo := 0, w := 32 }
/-- RO. -/
def PLN_LAST_C_HI.TICKS : Fld := { base := 0x0100018, lo := 0, w := 32 }
/-- RO. -/
def PLN_VFY_RESULT.EVALUATED : Fld := { base := 0x010001C, lo := 16, w := 11 }
/-- RO. -/
def PLN_VFY_RESULT.FAILED : Fld := { base := 0x010001C, lo := 0, w := 11 }
/-- RO. -/
def PLN_VFY_FIRST.VALID : Fld := { base := 0x0100020, lo := 31, w := 1 }
/-- RO. -/
def PLN_VFY_FIRST.SAMPLE : Fld := { base := 0x0100020, lo := 16, w := 12 }
/-- RO. -/
def PLN_VFY_FIRST.MONITOR : Fld := { base := 0x0100020, lo := 0, w := 10 }
/-- RO. -/
def PLN_STORE_FREE.COUNT : Fld := { base := 0x0100024, lo := 0, w := 18 }
/-- RO. -/
def PLN_STORE_LARGEST.COUNT : Fld := { base := 0x0100028, lo := 0, w := 18 }
/-- RO. -/
def PLN_PLANS.COUNT : Fld := { base := 0x010002C, lo := 0, w := 18 }
/-- RO. -/
def PLN_CNT_COMMIT.COUNT : Fld := { base := 0x0100030, lo := 0, w := 32 }
/-- RO. -/
def PLN_CNT_FALLBACK.COUNT : Fld := { base := 0x0100034, lo := 0, w := 32 }
/-- RO. -/
def PLN_CNT_LATE.COUNT : Fld := { base := 0x0100038, lo := 0, w := 32 }
/-- RW, class L. -/
def PLN_SERIAL.SERIAL : Fld := { base := 0x0100100, lo := 0, w := 32, s1 := 0x4, n1 := 17 }
/-- RO. -/
def PLN_DIR_A.BASE : Fld := { base := 0x0104000, lo := 15, w := 17, s1 := 0x8, n1 := 1024 }
/-- RO. -/
def PLN_DIR_A.DOMAIN : Fld := { base := 0x0104000, lo := 8, w := 5, s1 := 0x8, n1 := 1024 }
/-- RO. -/
def PLN_DIR_A.PINNED : Fld := { base := 0x0104000, lo := 4, w := 1, s1 := 0x8, n1 := 1024 }
/-- RO. -/
def PLN_DIR_A.LIVE : Fld := { base := 0x0104000, lo := 3, w := 1, s1 := 0x8, n1 := 1024 }
/-- RO. -/
def PLN_DIR_A.STATE : Fld := { base := 0x0104000, lo := 0, w := 3, s1 := 0x8, n1 := 1024 }
/-- RO. -/
def PLN_DIR_B.SLOW : Fld := { base := 0x0104004, lo := 16, w := 16, s1 := 0x8, n1 := 1024 }
/-- RO. -/
def PLN_DIR_B.SLOTS : Fld := { base := 0x0104004, lo := 0, w := 16, s1 := 0x8, n1 := 1024 }
/-- WO, class L. -/
def ORB_CTL.STAT_CLR : Fld := { base := 0x0200000, lo := 1, w := 1 }
/-- RW, class L. -/
def ORB_CTL.LOOKAHEAD : Fld := { base := 0x0200000, lo := 0, w := 1, rst := 0x1 }
/-- RO. -/
def ORB_STATUS.GLOBAL_HOLD : Fld := { base := 0x0200004, lo := 5, w := 1 }
/-- RO. -/
def ORB_STATUS.LAST_CLASS : Fld := { base := 0x0200004, lo := 2, w := 3 }
/-- RO. -/
def ORB_STATUS.ENGINE_BUSY : Fld := { base := 0x0200004, lo := 1, w := 1 }
/-- W1C. -/
def ORB_STATUS.CFG_REJECT : Fld := { base := 0x0200004, lo := 0, w := 1 }
/-- RW, class L. -/
def ORB_RING_WEIGHT.WEIGHT : Fld := { base := 0x0200100, lo := 0, w := 8, s1 := 0x4, n1 := 64, rst := 0x1 }
/-- RW, class L. -/
def ORB_TB_CFG.EN : Fld := { base := 0x0200200, lo := 31, w := 1, s1 := 0x10, n1 := 8 }
/-- RW, class L. -/
def ORB_TB_CFG.BURST : Fld := { base := 0x0200200, lo := 0, w := 24, s1 := 0x10, n1 := 8, rst := 0x8000 }
/-- RW, class L. -/
def ORB_TB_RATE.RATE : Fld := { base := 0x0200204, lo := 0, w := 24, s1 := 0x10, n1 := 8 }
/-- RO. -/
def ORB_TB_LEVEL.LEVEL : Fld := { base := 0x0200208, lo := 0, w := 32, s1 := 0x10, n1 := 8 }
/-- RO. -/
def ORB_VTIME.VTIME : Fld := { base := 0x020020C, lo := 0, w := 32, s1 := 0x10, n1 := 8 }
/-- RW, class L. -/
def ORB_GTB_CFG.EN : Fld := { base := 0x0200300, lo := 31, w := 1 }
/-- RW, class L. -/
def ORB_GTB_CFG.BURST : Fld := { base := 0x0200300, lo := 0, w := 24, rst := 0x8000 }
/-- RW, class L. -/
def ORB_GTB_RATE.RATE : Fld := { base := 0x0200304, lo := 0, w := 24 }
/-- RO. -/
def ORB_GTB_LEVEL.LEVEL : Fld := { base := 0x0200308, lo := 0, w := 32 }
/-- RW, class L. -/
def ORB_GEB_CFG.EN : Fld := { base := 0x0200310, lo := 31, w := 1 }
/-- RW, class L. -/
def ORB_GEB_CFG.BURST : Fld := { base := 0x0200310, lo := 0, w := 24, rst := 0x1388 }
/-- RW, class L. -/
def ORB_GEB_RATE.RATE : Fld := { base := 0x0200314, lo := 0, w := 24 }
/-- RO. -/
def ORB_GEB_LEVEL.LEVEL : Fld := { base := 0x0200318, lo := 0, w := 32 }
/-- RO. -/
def ORB_CLASS_STAT.MAX_HOL_US : Fld := { base := 0x0200400, lo := 16, w := 16, s1 := 0x4, n1 := 8 }
/-- RO. -/
def ORB_CLASS_STAT.DEPTH : Fld := { base := 0x0200400, lo := 0, w := 13, s1 := 0x4, n1 := 8 }
/-- RO. -/
def ORB_ORBIT_STATUS.SHADOW_COUNT : Fld := { base := 0x0200800, lo := 22, w := 10 }
/-- RO. -/
def ORB_ORBIT_STATUS.ACTIVE_COUNT : Fld := { base := 0x0200800, lo := 12, w := 10 }
/-- RO. -/
def ORB_ORBIT_STATUS.ENTRY : Fld := { base := 0x0200800, lo := 3, w := 9 }
/-- RO. -/
def ORB_ORBIT_STATUS.STOP_PENDING : Fld := { base := 0x0200800, lo := 2, w := 1 }
/-- RO. -/
def ORB_ORBIT_STATUS.SWAP_PENDING : Fld := { base := 0x0200800, lo := 1, w := 1 }
/-- RO. -/
def ORB_ORBIT_STATUS.RUNNING : Fld := { base := 0x0200800, lo := 0, w := 1 }
/-- RW, class L. -/
def DRV_CTL.CHK_EN : Fld := { base := 0x1000000, lo := 1, w := 1, s1 := 0x200000, n1 := 8, rst := 0x1 }
/-- RW, class L. -/
def DRV_CTL.SPARE_AUTO : Fld := { base := 0x1000000, lo := 0, w := 1, s1 := 0x200000, n1 := 8, rst := 0x1 }
/-- W1C. -/
def DRV_STATUS.CLR_REFUSED : Fld := { base := 0x1000004, lo := 9, w := 1, s1 := 0x200000, n1 := 8 }
/-- RO. -/
def DRV_STATUS.ORPHAN : Fld := { base := 0x1000004, lo := 8, w := 1, s1 := 0x200000, n1 := 8 }
/-- RO. -/
def DRV_STATUS.LINK_B : Fld := { base := 0x1000004, lo := 7, w := 1, s1 := 0x200000, n1 := 8 }
/-- RO. -/
def DRV_STATUS.LINK_A : Fld := { base := 0x1000004, lo := 6, w := 1, s1 := 0x200000, n1 := 8 }
/-- RO. -/
def DRV_STATUS.SRC : Fld := { base := 0x1000004, lo := 5, w := 1, s1 := 0x200000, n1 := 8 }
/-- RO. -/
def DRV_STATUS.TWILIGHT : Fld := { base := 0x1000004, lo := 4, w := 1, s1 := 0x200000, n1 := 8 }
/-- RO. -/
def DRV_STATUS.FOLD_FLOOR : Fld := { base := 0x1000004, lo := 3, w := 1, s1 := 0x200000, n1 := 8 }
/-- RO. -/
def DRV_STATUS.FOLD_ACTIVE : Fld := { base := 0x1000004, lo := 2, w := 1, s1 := 0x200000, n1 := 8 }
/-- RO. -/
def DRV_STATUS.ARMED : Fld := { base := 0x1000004, lo := 1, w := 1, s1 := 0x200000, n1 := 8 }
/-- W1C. -/
def DRV_STATUS.CFG_REJECT : Fld := { base := 0x1000004, lo := 0, w := 1, s1 := 0x200000, n1 := 8 }
/-- RW, class L. -/
def DRV_FOLD_CFG.ICAP : Fld := { base := 0x1000008, lo := 0, w := 12, s1 := 0x200000, n1 := 8, rst := 0x4E2 }
/-- RO. -/
def DRV_FOLD_STATUS.STEPS : Fld := { base := 0x100000C, lo := 24, w := 5, s1 := 0x200000, n1 := 8 }
/-- RO. -/
def DRV_FOLD_STATUS.FACTOR : Fld := { base := 0x100000C, lo := 0, w := 17, s1 := 0x200000, n1 := 8, rst := 0x10000 }
/-- WO, class L. -/
def DRV_FOLD_CLR.CLEAR : Fld := { base := 0x1000010, lo := 0, w := 1, s1 := 0x200000, n1 := 8 }
/-- RO. -/
def DRV_IVHV.IPEAK : Fld := { base := 0x1000014, lo := 16, w := 16, s1 := 0x200000, n1 := 8 }
/-- RO. -/
def DRV_IVHV.IMEAN : Fld := { base := 0x1000014, lo := 0, w := 16, s1 := 0x200000, n1 := 8 }
/-- RO. -/
def DRV_QUEUE.MAX_DEPTH : Fld := { base := 0x1000018, lo := 16, w := 13, s1 := 0x200000, n1 := 8 }
/-- RO. -/
def DRV_QUEUE.DEPTH : Fld := { base := 0x1000018, lo := 0, w := 13, s1 := 0x200000, n1 := 8 }
/-- RO. -/
def DRV_CNT_LATE.COUNT : Fld := { base := 0x100001C, lo := 0, w := 32, s1 := 0x200000, n1 := 8 }
/-- RO. -/
def DRV_CNT_OVERRIDE.COUNT : Fld := { base := 0x1000020, lo := 0, w := 32, s1 := 0x200000, n1 := 8 }
/-- RO. -/
def DRV_CNT_CLAMP.COUNT : Fld := { base := 0x1000024, lo := 0, w := 32, s1 := 0x200000, n1 := 8 }
/-- RW, class L. -/
def DRV_CHK_TOL.TOL : Fld := { base := 0x1000028, lo := 0, w := 16, s1 := 0x200000, n1 := 8, rst := 0x200 }
/-- W1C. -/
def DRV_GUARD_TRIP.TRIP : Fld := { base := 0x1000030, lo := 0, w := 32, s1 := 0x200000, n1 := 8, s2 := 0x4, n2 := 4 }
/-- RO. -/
def DRV_GUARD_PERSIST.PERSIST : Fld := { base := 0x1000040, lo := 0, w := 32, s1 := 0x200000, n1 := 8, s2 := 0x4, n2 := 4 }
/-- RO. -/
def DRV_SPARE.REASON : Fld := { base := 0x1000080, lo := 6, w := 2, s1 := 0x200000, n1 := 8, s2 := 0x4, n2 := 64 }
/-- RO. -/
def DRV_SPARE.POSITION : Fld := { base := 0x1000080, lo := 0, w := 5, s1 := 0x200000, n1 := 8, s2 := 0x4, n2 := 64 }
/-- W1C. -/
def DRV_FAILED.FAILED : Fld := { base := 0x1000200, lo := 0, w := 32, s1 := 0x200000, n1 := 8, s2 := 0x4, n2 := 64 }
/-- RO. -/
def DRV_CH_LIVE.APPLIED : Fld := { base := 0x1010000, lo := 16, w := 16, s1 := 0x200000, n1 := 8, s2 := 0x20, n2 := 2048 }
/-- RO. -/
def DRV_CH_LIVE.LIVE : Fld := { base := 0x1010000, lo := 0, w := 16, s1 := 0x200000, n1 := 8, s2 := 0x20, n2 := 2048 }
/-- RO. -/
def DRV_CH_BANKS.FALLBACK : Fld := { base := 0x1010004, lo := 16, w := 16, s1 := 0x200000, n1 := 8, s2 := 0x20, n2 := 2048 }
/-- RO. -/
def DRV_CH_BANKS.NEXT : Fld := { base := 0x1010004, lo := 0, w := 16, s1 := 0x200000, n1 := 8, s2 := 0x20, n2 := 2048 }
/-- RO. -/
def DRV_CH_STATE.CAL : Fld := { base := 0x1010008, lo := 10, w := 1, s1 := 0x200000, n1 := 8, s2 := 0x20, n2 := 2048 }
/-- RO. -/
def DRV_CH_STATE.FOLDED : Fld := { base := 0x1010008, lo := 9, w := 1, s1 := 0x200000, n1 := 8, s2 := 0x20, n2 := 2048 }
/-- RO. -/
def DRV_CH_STATE.CLAMPED : Fld := { base := 0x1010008, lo := 8, w := 1, s1 := 0x200000, n1 := 8, s2 := 0x20, n2 := 2048 }
/-- RO. -/
def DRV_CH_STATE.BLOCKED : Fld := { base := 0x1010008, lo := 7, w := 1, s1 := 0x200000, n1 := 8, s2 := 0x20, n2 := 2048 }
/-- RO. -/
def DRV_CH_STATE.KEEP : Fld := { base := 0x1010008, lo := 6, w := 1, s1 := 0x200000, n1 := 8, s2 := 0x20, n2 := 2048 }
/-- RO. -/
def DRV_CH_STATE.ARM : Fld := { base := 0x1010008, lo := 5, w := 1, s1 := 0x200000, n1 := 8, s2 := 0x20, n2 := 2048 }
/-- RO. -/
def DRV_CH_STATE.RANGE : Fld := { base := 0x1010008, lo := 4, w := 1, s1 := 0x200000, n1 := 8, s2 := 0x20, n2 := 2048 }
/-- RO. -/
def DRV_CH_STATE.MODE : Fld := { base := 0x1010008, lo := 3, w := 1, s1 := 0x200000, n1 := 8, s2 := 0x20, n2 := 2048 }
/-- RO. -/
def DRV_CH_STATE.STATE : Fld := { base := 0x1010008, lo := 0, w := 3, s1 := 0x200000, n1 := 8, s2 := 0x20, n2 := 2048 }
/-- RW, class L. -/
def DRV_CH_DITHER.DMODE : Fld := { base := 0x101000C, lo := 30, w := 2, s1 := 0x200000, n1 := 8, s2 := 0x20, n2 := 2048 }
/-- WO, class L. -/
def DRV_CH_DITHER.COHERENT : Fld := { base := 0x101000C, lo := 29, w := 1, s1 := 0x200000, n1 := 8, s2 := 0x20, n2 := 2048 }
/-- RW, class L. -/
def DRV_CH_DITHER.AMP : Fld := { base := 0x101000C, lo := 8, w := 8, s1 := 0x200000, n1 := 8, s2 := 0x20, n2 := 2048 }
/-- RW, class L. -/
def DRV_CH_DITHER.TONE : Fld := { base := 0x101000C, lo := 0, w := 7, s1 := 0x200000, n1 := 8, s2 := 0x20, n2 := 2048 }
/-- RW, class L. -/
def DRV_CH_DINC.INC : Fld := { base := 0x1010010, lo := 0, w := 32, s1 := 0x200000, n1 := 8, s2 := 0x20, n2 := 2048 }
/-- RW, class L. -/
def DRV_CH_PHASE0.PHASE0 : Fld := { base := 0x1010014, lo := 0, w := 32, s1 := 0x200000, n1 := 8, s2 := 0x20, n2 := 2048 }
/-- RO. -/
def DRV_CH_GUARDW.BLOCK_CODE : Fld := { base := 0x1010018, lo := 16, w := 16, s1 := 0x200000, n1 := 8, s2 := 0x20, n2 := 2048 }
/-- RO. -/
def DRV_CH_GUARDW.CAP : Fld := { base := 0x1010018, lo := 0, w := 16, s1 := 0x200000, n1 := 8, s2 := 0x20, n2 := 2048 }
/-- RO. -/
def DRV_CH_GATEW.MONV : Fld := { base := 0x101001C, lo := 15, w := 1, s1 := 0x200000, n1 := 8, s2 := 0x20, n2 := 2048 }
/-- RO. -/
def DRV_CH_GATEW.MON : Fld := { base := 0x101001C, lo := 8, w := 7, s1 := 0x200000, n1 := 8, s2 := 0x20, n2 := 2048 }
/-- RO. -/
def DRV_CH_GATEW.ORPH : Fld := { base := 0x101001C, lo := 6, w := 1, s1 := 0x200000, n1 := 8, s2 := 0x20, n2 := 2048 }
/-- RO. -/
def DRV_CH_GATEW.DKHOLD : Fld := { base := 0x101001C, lo := 5, w := 1, s1 := 0x200000, n1 := 8, s2 := 0x20, n2 := 2048 }
/-- RO. -/
def DRV_CH_GATEW.TRIP : Fld := { base := 0x101001C, lo := 4, w := 1, s1 := 0x200000, n1 := 8, s2 := 0x20, n2 := 2048 }
/-- RO. -/
def DRV_CH_GATEW.LOSTBLK : Fld := { base := 0x101001C, lo := 3, w := 1, s1 := 0x200000, n1 := 8, s2 := 0x20, n2 := 2048 }
/-- RO. -/
def DRV_CH_GATEW.ESC : Fld := { base := 0x101001C, lo := 2, w := 1, s1 := 0x200000, n1 := 8, s2 := 0x20, n2 := 2048 }
/-- RO. -/
def DRV_CH_GATEW.DARK : Fld := { base := 0x101001C, lo := 1, w := 1, s1 := 0x200000, n1 := 8, s2 := 0x20, n2 := 2048 }
/-- RO. -/
def DRV_CH_GATEW.GATE : Fld := { base := 0x101001C, lo := 0, w := 1, s1 := 0x200000, n1 := 8, s2 := 0x20, n2 := 2048 }
/-- RW, class L. -/
def MON_CTL.FINE_RUN : Fld := { base := 0x2000000, lo := 0, w := 1, s1 := 0x200000, n1 := 8, rst := 0x1 }
/-- W1C. -/
def MON_STATUS.CLR_REFUSED : Fld := { base := 0x2000004, lo := 1, w := 1, s1 := 0x200000, n1 := 8 }
/-- W1C. -/
def MON_STATUS.CFG_REJECT : Fld := { base := 0x2000004, lo := 0, w := 1, s1 := 0x200000, n1 := 8 }
/-- RW, class L. -/
def MON_GUARD_CFG.ARM_DLY : Fld := { base := 0x2000008, lo := 0, w := 10, s1 := 0x200000, n1 := 8, rst := 0x10 }
/-- RW, class L. -/
def MON_REF_CFG.REF_TOL : Fld := { base := 0x200000C, lo := 0, w := 16, s1 := 0x200000, n1 := 8, rst := 0x400 }
/-- RO. -/
def MON_REF_STATUS.PAIR_MISMATCH : Fld := { base := 0x2000010, lo := 16, w := 8, s1 := 0x200000, n1 := 8 }
/-- RO. -/
def MON_REF_STATUS.REF_BAD : Fld := { base := 0x2000010, lo := 0, w := 16, s1 := 0x200000, n1 := 8 }
/-- W1C. -/
def MON_REF_LATCH.PAIR_MISMATCH : Fld := { base := 0x2000014, lo := 16, w := 8, s1 := 0x200000, n1 := 8 }
/-- W1C. -/
def MON_REF_LATCH.REF_BAD : Fld := { base := 0x2000014, lo := 0, w := 16, s1 := 0x200000, n1 := 8 }
/-- WO, class L. -/
def MON_FINE_TRIG.TRIG : Fld := { base := 0x2000020, lo := 0, w := 32, s1 := 0x200000, n1 := 8, s2 := 0x4, n2 := 4 }
/-- RO. -/
def MON_REF_RESULT.RESULT : Fld := { base := 0x2000040, lo := 0, w := 24, s1 := 0x200000, n1 := 8, s2 := 0x4, n2 := 16 }
/-- WO, class L. -/
def MON_SYSCAL_CTL.STEP : Fld := { base := 0x2000200, lo := 12, w := 2, s1 := 0x200000, n1 := 8 }
/-- WO, class L. -/
def MON_SYSCAL_CTL.RANGE : Fld := { base := 0x2000200, lo := 8, w := 2, s1 := 0x200000, n1 := 8 }
/-- WO, class L. -/
def MON_SYSCAL_CTL.INPUT : Fld := { base := 0x2000200, lo := 0, w := 7, s1 := 0x200000, n1 := 8 }
/-- RW, class L. -/
def MON_SYSCAL_REF.REF : Fld := { base := 0x2000204, lo := 0, w := 24, s1 := 0x200000, n1 := 8, rst := 0x300000 }
/-- RO. -/
def MON_SYSCAL_STATUS.RANGE : Fld := { base := 0x2000208, lo := 24, w := 2, s1 := 0x200000, n1 := 8 }
/-- RO. -/
def MON_SYSCAL_STATUS.INPUT : Fld := { base := 0x2000208, lo := 16, w := 7, s1 := 0x200000, n1 := 8 }
/-- RO. -/
def MON_SYSCAL_STATUS.ERROR : Fld := { base := 0x2000208, lo := 8, w := 4, s1 := 0x200000, n1 := 8 }
/-- W1C. -/
def MON_SYSCAL_STATUS.OVERRUN : Fld := { base := 0x2000208, lo := 4, w := 1, s1 := 0x200000, n1 := 8 }
/-- RO. -/
def MON_SYSCAL_STATUS.REF_DONE : Fld := { base := 0x2000208, lo := 3, w := 1, s1 := 0x200000, n1 := 8 }
/-- RO. -/
def MON_SYSCAL_STATUS.DARK_DONE : Fld := { base := 0x2000208, lo := 2, w := 1, s1 := 0x200000, n1 := 8 }
/-- RO. -/
def MON_SYSCAL_STATUS.PENDING : Fld := { base := 0x2000208, lo := 1, w := 1, s1 := 0x200000, n1 := 8 }
/-- RO. -/
def MON_SYSCAL_STATUS.BUSY : Fld := { base := 0x2000208, lo := 0, w := 1, s1 := 0x200000, n1 := 8 }
/-- RO. -/
def MON_SYSCAL_RES_FAST.GAIN : Fld := { base := 0x200020C, lo := 16, w := 16, s1 := 0x200000, n1 := 8, rst := 0x4440 }
/-- RO. -/
def MON_SYSCAL_RES_FAST.OFF : Fld := { base := 0x200020C, lo := 0, w := 12, s1 := 0x200000, n1 := 8, rst := 0x80 }
/-- RO. -/
def MON_SYSCAL_RES_FOFF.FOFF : Fld := { base := 0x2000210, lo := 0, w := 24, s1 := 0x200000, n1 := 8 }
/-- RO. -/
def MON_SYSCAL_RES_FGAIN.FGAIN : Fld := { base := 0x2000214, lo := 0, w := 24, s1 := 0x200000, n1 := 8, rst := 0x400000 }
/-- RO. -/
def MON_SYSCAL_SPREAD.SPREAD : Fld := { base := 0x2000218, lo := 0, w := 24, s1 := 0x200000, n1 := 8 }
/-- RW, class F. -/
def MON_CAP_CTL.DECIM : Fld := { base := 0x2000300, lo := 16, w := 8, s1 := 0x200000, n1 := 8 }
/-- RW, class L. -/
def MON_CAP_CTL.SGF_CH : Fld := { base := 0x2000300, lo := 8, w := 8, s1 := 0x200000, n1 := 8 }
/-- RW, class F. -/
def MON_CAP_CTL.COUNT : Fld := { base := 0x2000300, lo := 3, w := 2, s1 := 0x200000, n1 := 8 }
/-- RW, class L. -/
def MON_CAP_CTL.TRIG : Fld := { base := 0x2000300, lo := 1, w := 2, s1 := 0x200000, n1 := 8 }
/-- RW, class L. -/
def MON_CAP_CTL.EN : Fld := { base := 0x2000300, lo := 0, w := 1, s1 := 0x200000, n1 := 8 }
/-- RW, class F. -/
def MON_CAP_LIST0.INPUTS : Fld := { base := 0x2000304, lo := 0, w := 32, s1 := 0x200000, n1 := 8 }
/-- RW, class F. -/
def MON_CAP_LIST1.INPUTS : Fld := { base := 0x2000308, lo := 0, w := 32, s1 := 0x200000, n1 := 8 }
/-- RW, class F. -/
def MON_CAP_PRE.PRE : Fld := { base := 0x200030C, lo := 0, w := 12, s1 := 0x200000, n1 := 8 }
/-- RW, class L. -/
def MON_CAP_TIME_LO.TICKS : Fld := { base := 0x2000310, lo := 0, w := 32, s1 := 0x200000, n1 := 8 }
/-- RW, class L. -/
def MON_CAP_TIME_HI.TICKS : Fld := { base := 0x2000314, lo := 0, w := 32, s1 := 0x200000, n1 := 8 }
/-- WO, class L. -/
def MON_CAP_SWTRIG.TRIG : Fld := { base := 0x2000318, lo := 0, w := 1, s1 := 0x200000, n1 := 8 }
/-- WO, class L. -/
def MON_CAP_REL.REL : Fld := { base := 0x2000320, lo := 0, w := 2, s1 := 0x200000, n1 := 8 }
/-- W1C. -/
def MON_CAP_STATUS.TIME_ERR : Fld := { base := 0x200031C, lo := 7, w := 1, s1 := 0x200000, n1 := 8 }
/-- W1C. -/
def MON_CAP_STATUS.LATE : Fld := { base := 0x200031C, lo := 6, w := 1, s1 := 0x200000, n1 := 8 }
/-- W1C. -/
def MON_CAP_STATUS.OVERRUN : Fld := { base := 0x200031C, lo := 5, w := 1, s1 := 0x200000, n1 := 8 }
/-- RO. -/
def MON_CAP_STATUS.PENDING : Fld := { base := 0x200031C, lo := 4, w := 1, s1 := 0x200000, n1 := 8 }
/-- RO. -/
def MON_CAP_STATUS.BANK1 : Fld := { base := 0x200031C, lo := 2, w := 2, s1 := 0x200000, n1 := 8 }
/-- RO. -/
def MON_CAP_STATUS.BANK0 : Fld := { base := 0x200031C, lo := 0, w := 2, s1 := 0x200000, n1 := 8 }
/-- RO. -/
def MON_CAP_STAMP_LO.TICKS : Fld := { base := 0x2000330, lo := 0, w := 32, s1 := 0x200000, n1 := 8, s2 := 0x8, n2 := 2 }
/-- RO. -/
def MON_CAP_STAMP_HI.TICKS : Fld := { base := 0x2000334, lo := 0, w := 32, s1 := 0x200000, n1 := 8, s2 := 0x8, n2 := 2 }
/-- RO. -/
def MON_CAP_INFO.PRE_VALID : Fld := { base := 0x2000340, lo := 0, w := 12, s1 := 0x200000, n1 := 8, s2 := 0x4, n2 := 2 }
/-- RW, class L. -/
def MON_IN_CFG.SGF_CH : Fld := { base := 0x2010000, lo := 16, w := 8, s1 := 0x200000, n1 := 8, s2 := 0x80, n2 := 128 }
/-- RW, class L. -/
def MON_IN_CFG.TRIG_SGF : Fld := { base := 0x2010000, lo := 10, w := 1, s1 := 0x200000, n1 := 8, s2 := 0x80, n2 := 128 }
/-- RW, class L. -/
def MON_IN_CFG.LOSS_EN : Fld := { base := 0x2010000, lo := 9, w := 1, s1 := 0x200000, n1 := 8, s2 := 0x80, n2 := 128 }
/-- RW, class L. -/
def MON_IN_CFG.DARK_EN : Fld := { base := 0x2010000, lo := 8, w := 1, s1 := 0x200000, n1 := 8, s2 := 0x80, n2 := 128 }
/-- RW, class F. -/
def MON_IN_CFG.ODR : Fld := { base := 0x2010000, lo := 4, w := 3, s1 := 0x200000, n1 := 8, s2 := 0x80, n2 := 128 }
/-- RW, class F. -/
def MON_IN_CFG.FMODE : Fld := { base := 0x2010000, lo := 2, w := 2, s1 := 0x200000, n1 := 8, s2 := 0x80, n2 := 128, rst := 0x1 }
/-- RW, class F. -/
def MON_IN_CFG.RANGE : Fld := { base := 0x2010000, lo := 0, w := 2, s1 := 0x200000, n1 := 8, s2 := 0x80, n2 := 128 }
/-- RW, class L. -/
def MON_IN_DARK.THRESH : Fld := { base := 0x2010004, lo := 0, w := 18, s1 := 0x200000, n1 := 8, s2 := 0x80, n2 := 128, rst := 0x3E8 }
/-- RW, class L. -/
def MON_IN_LOSS.THRESH : Fld := { base := 0x2010008, lo := 0, w := 18, s1 := 0x200000, n1 := 8, s2 := 0x80, n2 := 128, rst := 0x64 }
/-- RW, class L. -/
def MON_IN_LOSSQ.QUAL : Fld := { base := 0x201000C, lo := 0, w := 16, s1 := 0x200000, n1 := 8, s2 := 0x80, n2 := 128, rst := 0x64 }
/-- RO. -/
def MON_IN_FAST.RAW : Fld := { base := 0x2010010, lo := 16, w := 12, s1 := 0x200000, n1 := 8, s2 := 0x80, n2 := 128 }
/-- RO. -/
def MON_IN_FAST.OVR : Fld := { base := 0x2010010, lo := 15, w := 1, s1 := 0x200000, n1 := 8, s2 := 0x80, n2 := 128 }
/-- RO. -/
def MON_IN_FAST.UNDER : Fld := { base := 0x2010010, lo := 14, w := 1, s1 := 0x200000, n1 := 8, s2 := 0x80, n2 := 128 }
/-- RO. -/
def MON_IN_FAST.SETTLING : Fld := { base := 0x2010010, lo := 13, w := 1, s1 := 0x200000, n1 := 8, s2 := 0x80, n2 := 128 }
/-- RO. -/
def MON_IN_FAST.CODE : Fld := { base := 0x2010010, lo := 0, w := 12, s1 := 0x200000, n1 := 8, s2 := 0x80, n2 := 128 }
/-- RO. -/
def MON_IN_FINE.SUSPECT : Fld := { base := 0x2010014, lo := 31, w := 1, s1 := 0x200000, n1 := 8, s2 := 0x80, n2 := 128 }
/-- RO. -/
def MON_IN_FINE.OVR : Fld := { base := 0x2010014, lo := 30, w := 1, s1 := 0x200000, n1 := 8, s2 := 0x80, n2 := 128 }
/-- RO. -/
def MON_IN_FINE.TRIGGERED : Fld := { base := 0x2010014, lo := 29, w := 1, s1 := 0x200000, n1 := 8, s2 := 0x80, n2 := 128 }
/-- RO. -/
def MON_IN_FINE.SEQ : Fld := { base := 0x2010014, lo := 24, w := 4, s1 := 0x200000, n1 := 8, s2 := 0x80, n2 := 128 }
/-- RO. -/
def MON_IN_FINE.VALUE : Fld := { base := 0x2010014, lo := 0, w := 24, s1 := 0x200000, n1 := 8, s2 := 0x80, n2 := 128 }
/-- RO. -/
def MON_IN_FINE_RAW.RAW : Fld := { base := 0x2010018, lo := 0, w := 24, s1 := 0x200000, n1 := 8, s2 := 0x80, n2 := 128 }
/-- W1C. -/
def MON_IN_STATUS.OVERRUN : Fld := { base := 0x201001C, lo := 9, w := 1, s1 := 0x200000, n1 := 8, s2 := 0x80, n2 := 128 }
/-- RO. -/
def MON_IN_STATUS.BUSY : Fld := { base := 0x201001C, lo := 8, w := 1, s1 := 0x200000, n1 := 8, s2 := 0x80, n2 := 128 }
/-- RO. -/
def MON_IN_STATUS.PENDING : Fld := { base := 0x201001C, lo := 7, w := 1, s1 := 0x200000, n1 := 8, s2 := 0x80, n2 := 128 }
/-- RO. -/
def MON_IN_STATUS.SETTLING : Fld := { base := 0x201001C, lo := 6, w := 1, s1 := 0x200000, n1 := 8, s2 := 0x80, n2 := 128 }
/-- W1C. -/
def MON_IN_STATUS.LOSS_TRIP : Fld := { base := 0x201001C, lo := 5, w := 1, s1 := 0x200000, n1 := 8, s2 := 0x80, n2 := 128 }
/-- RO. -/
def MON_IN_STATUS.LOSS_ARMED : Fld := { base := 0x201001C, lo := 4, w := 1, s1 := 0x200000, n1 := 8, s2 := 0x80, n2 := 128 }
/-- RO. -/
def MON_IN_STATUS.LOSS_OUT : Fld := { base := 0x201001C, lo := 3, w := 1, s1 := 0x200000, n1 := 8, s2 := 0x80, n2 := 128 }
/-- RO. -/
def MON_IN_STATUS.GUARD : Fld := { base := 0x201001C, lo := 2, w := 1, s1 := 0x200000, n1 := 8, s2 := 0x80, n2 := 128 }
/-- RO. -/
def MON_IN_STATUS.DARK_ARMED : Fld := { base := 0x201001C, lo := 1, w := 1, s1 := 0x200000, n1 := 8, s2 := 0x80, n2 := 128 }
/-- RO. -/
def MON_IN_STATUS.DARK_OUT : Fld := { base := 0x201001C, lo := 0, w := 1, s1 := 0x200000, n1 := 8, s2 := 0x80, n2 := 128 }
/-- RW, class F. -/
def MON_IN_CF_FAST.GAIN : Fld := { base := 0x2010040, lo := 16, w := 16, s1 := 0x200000, n1 := 8, s2 := 0x80, n2 := 128, s3 := 0x10, n3 := 4, rst := 0x4440 }
/-- RW, class F. -/
def MON_IN_CF_FAST.OFF : Fld := { base := 0x2010040, lo := 0, w := 12, s1 := 0x200000, n1 := 8, s2 := 0x80, n2 := 128, s3 := 0x10, n3 := 4, rst := 0x80 }
/-- RW, class F. -/
def MON_IN_CF_FOFF.FOFF : Fld := { base := 0x2010044, lo := 0, w := 24, s1 := 0x200000, n1 := 8, s2 := 0x80, n2 := 128, s3 := 0x10, n3 := 4 }
/-- RW, class F. -/
def MON_IN_CF_FGAIN.FGAIN : Fld := { base := 0x2010048, lo := 0, w := 24, s1 := 0x200000, n1 := 8, s2 := 0x80, n2 := 128, s3 := 0x10, n3 := 4, rst := 0x400000 }
/-- WO, class L. -/
def TON_CTL.FIRST_CLR : Fld := { base := 0x0500000, lo := 1, w := 1 }
/-- RW, class L. -/
def TON_CTL.PT_EN : Fld := { base := 0x0500000, lo := 0, w := 1, rst := 0x1 }
/-- RO. -/
def TON_STATUS.PT_FOREIGN : Fld := { base := 0x0500004, lo := 4, w := 1 }
/-- RO. -/
def TON_STATUS.PT_LOSS : Fld := { base := 0x0500004, lo := 3, w := 1 }
/-- W1C. -/
def TON_STATUS.RING_ERR : Fld := { base := 0x0500004, lo := 2, w := 1 }
/-- W1C. -/
def TON_STATUS.CLR_REFUSED : Fld := { base := 0x0500004, lo := 1, w := 1 }
/-- W1C. -/
def TON_STATUS.CFG_REJECT : Fld := { base := 0x0500004, lo := 0, w := 1 }
/-- RW, class L. -/
def TON_PT_CFG.QUAL : Fld := { base := 0x0500008, lo := 0, w := 4, rst := 0x1 }
/-- RO. -/
def TON_PT_FIRST.VALID : Fld := { base := 0x050000C, lo := 31, w := 1 }
/-- RO. -/
def TON_PT_FIRST.KIND : Fld := { base := 0x050000C, lo := 30, w := 1 }
/-- RO. -/
def TON_PT_FIRST.TONE : Fld := { base := 0x050000C, lo := 16, w := 7 }
/-- RO. -/
def TON_PT_FIRST.MONITOR : Fld := { base := 0x050000C, lo := 0, w := 10 }
/-- RO. -/
def TON_CNT_LOSS.COUNT : Fld := { base := 0x0500010, lo := 0, w := 32 }
/-- RO. -/
def TON_CNT_FOREIGN.COUNT : Fld := { base := 0x0500014, lo := 0, w := 32 }
/-- RO. -/
def TON_CNT_ABANDON.COUNT : Fld := { base := 0x0500018, lo := 0, w := 32 }
/-- RO. -/
def TON_CNT_GAP.COUNT : Fld := { base := 0x050001C, lo := 0, w := 32 }
/-- RW, class F. -/
def TON_TONE_ROT.ROT : Fld := { base := 0x0500100, lo := 0, w := 16, s1 := 0x4, n1 := 71, tab := [1802, 2163, 2523, 2884, 3244, 3604, 3965, 4325, 4686, 5046, 5407, 5767, 6128, 6488, 6849, 7209, 7569, 7930, 8290, 8651, 9011, 9372, 9732, 10093, 10453, 10813, 11174, 11534, 11895, 12255, 12616, 12976, 13337, 13697, 14057, 14418, 14778, 15139, 15499, 15860, 16220, 16581, 16941, 17302, 17662, 18022, 18383, 18743, 19104, 19464, 19825, 20185, 20546, 20906, 21266, 21627, 21987, 22348, 22708, 23069, 23429, 23790, 24150, 24510, 24871, 25231, 25592, 25952, 26313, 26673, 27034] }
/-- W1C. -/
def TON_PT_LOSS.LOSS : Fld := { base := 0x0500400, lo := 0, w := 32, s1 := 0x4, n1 := 32 }
/-- W1C. -/
def TON_PT_FOREIGN.FOREIGN : Fld := { base := 0x0500480, lo := 0, w := 32, s1 := 0x4, n1 := 32 }
/-- RO. -/
def TON_PT_CONF.CONF : Fld := { base := 0x0500500, lo := 0, w := 32, s1 := 0x4, n1 := 32 }
/-- RO. -/
def TON_PT_EXPECT.VALID : Fld := { base := 0x0501000, lo := 31, w := 1, s1 := 0x4, n1 := 1024 }
/-- RO. -/
def TON_PT_EXPECT.SUSPENDED : Fld := { base := 0x0501000, lo := 30, w := 1, s1 := 0x4, n1 := 1024 }
/-- RO. -/
def TON_PT_EXPECT.K : Fld := { base := 0x0501000, lo := 24, w := 6, s1 := 0x4, n1 := 1024 }
/-- RO. -/
def TON_PT_EXPECT.TONE : Fld := { base := 0x0501000, lo := 0, w := 7, s1 := 0x4, n1 := 1024 }
/-- RW, class L. -/
def LPA_CTL.ENABLE : Fld := { base := 0x0300000, lo := 0, w := 1 }
/-- RO. -/
def LPA_STATUS.OPEN_ANY : Fld := { base := 0x0300004, lo := 3, w := 1 }
/-- RO. -/
def LPA_STATUS.OVR_ANY : Fld := { base := 0x0300004, lo := 2, w := 1 }
/-- RO. -/
def LPA_STATUS.ENABLED : Fld := { base := 0x0300004, lo := 1, w := 1 }
/-- W1C. -/
def LPA_STATUS.CFG_REJECT : Fld := { base := 0x0300004, lo := 0, w := 1 }
/-- RW, class S. -/
def LPA_ADMIT_CFG.WCET_MAX : Fld := { base := 0x0300008, lo := 16, w := 10, rst := 0x12C }
/-- RW, class S. -/
def LPA_ADMIT_CFG.PCT : Fld := { base := 0x0300008, lo := 0, w := 7, rst := 0x46 }
/-- RW, class S. -/
def LPA_CAPS.TRACK_CAP : Fld := { base := 0x030000C, lo := 16, w := 12, rst := 0x200 }
/-- RW, class S. -/
def LPA_CAPS.SETTLE_CAP : Fld := { base := 0x030000C, lo := 0, w := 10, rst := 0x200 }
/-- RW, class L. -/
def LPA_DWELL.TRACK_DWELL : Fld := { base := 0x0300010, lo := 16, w := 16, rst := 0x32 }
/-- RW, class L. -/
def LPA_DWELL.SETTLE_MAX : Fld := { base := 0x0300010, lo := 0, w := 16, rst := 0x1F4 }
/-- RW, class L. -/
def LPA_OVR_LIMIT.LIMIT : Fld := { base := 0x0300014, lo := 0, w := 4, rst := 0x3 }
/-- RO. -/
def LPA_LOAD.LOAD : Fld := { base := 0x0300020, lo := 0, w := 28, s1 := 0x4, n1 := 4 }
/-- RO. -/
def LPA_UTIL.UTIL : Fld := { base := 0x0300030, lo := 0, w := 14, s1 := 0x4, n1 := 4 }
/-- RO. -/
def LPA_CLASS_CNT.TRACK : Fld := { base := 0x0300040, lo := 16, w := 12 }
/-- RO. -/
def LPA_CLASS_CNT.SETTLE : Fld := { base := 0x0300040, lo := 0, w := 10 }
/-- RO. -/
def LPA_WAIT.TWAIT : Fld := { base := 0x0300044, lo := 16, w := 15 }
/-- RO. -/
def LPA_WAIT.SWAIT : Fld := { base := 0x0300044, lo := 0, w := 15 }
/-- RO. -/
def LPA_CNT_OVR.COUNT : Fld := { base := 0x0300050, lo := 0, w := 32 }
/-- RO. -/
def LPA_CNT_STEAL_LOCAL.COUNT : Fld := { base := 0x0300054, lo := 0, w := 32 }
/-- RO. -/
def LPA_CNT_STEAL_REMOTE.COUNT : Fld := { base := 0x0300058, lo := 0, w := 32 }
/-- RO. -/
def LPA_CNT_CLIP.COUNT : Fld := { base := 0x030005C, lo := 0, w := 32 }
/-- RO. -/
def LPA_CNT_DISCARD.COUNT : Fld := { base := 0x0300060, lo := 0, w := 32 }
/-- RO. -/
def LPA_CNT_SKIP.COUNT : Fld := { base := 0x0300064, lo := 0, w := 32 }
/-- W1C. -/
def LPA_FIRST_OVR.VALID : Fld := { base := 0x0300068, lo := 31, w := 1 }
/-- RO. -/
def LPA_FIRST_OVR.CLASS : Fld := { base := 0x0300068, lo := 16, w := 2 }
/-- RO. -/
def LPA_FIRST_OVR.CONTEXT : Fld := { base := 0x0300068, lo := 0, w := 16 }
/-- RO. -/
def LPA_CORE_STATUS.BUSY : Fld := { base := 0x0300100, lo := 31, w := 1, s1 := 0x4, n1 := 64 }
/-- RO. -/
def LPA_CORE_STATUS.FAULT : Fld := { base := 0x0300100, lo := 30, w := 1, s1 := 0x4, n1 := 64 }
/-- RO. -/
def LPA_CORE_STATUS.QJOBS : Fld := { base := 0x0300100, lo := 16, w := 12, s1 := 0x4, n1 := 64 }
/-- RO. -/
def LPA_CORE_STATUS.QWORK : Fld := { base := 0x0300100, lo := 0, w := 16, s1 := 0x4, n1 := 64 }
/-- RO. -/
def LPA_OPEN_LOOP.OPEN : Fld := { base := 0x0300400, lo := 0, w := 32, s1 := 0x4, n1 := 1536 }
/-- WO, class L. -/
def LPA_PROG_CMD.OP : Fld := { base := 0x0302000, lo := 16, w := 2 }
/-- WO, class L. -/
def LPA_PROG_CMD.PROG : Fld := { base := 0x0302000, lo := 0, w := 12 }
/-- RO. -/
def LPA_PROG_STATUS.PROG : Fld := { base := 0x0302004, lo := 16, w := 12 }
/-- RO. -/
def LPA_PROG_STATUS.ERROR : Fld := { base := 0x0302004, lo := 8, w := 4 }
/-- W1C. -/
def LPA_PROG_STATUS.OVERRUN : Fld := { base := 0x0302004, lo := 3, w := 1 }
/-- RO. -/
def LPA_PROG_STATUS.PENDING : Fld := { base := 0x0302004, lo := 2, w := 1 }
/-- RO. -/
def LPA_PROG_STATUS.BUSY : Fld := { base := 0x0302004, lo := 0, w := 1 }
/-- RO. -/
def LPA_PROG_COUNT.VALID : Fld := { base := 0x0302008, lo := 0, w := 13 }
/-- RO. -/
def LPA_PROG_WORDS.FREE : Fld := { base := 0x030200C, lo := 0, w := 18, rst := 0x3C000 }
/-- RO. -/
def LPA_CNT_LISSAT.COUNT : Fld := { base := 0x0302010, lo := 0, w := 32 }
/-- RO. -/
def LPA_CNT_IMGERR.COUNT : Fld := { base := 0x0302014, lo := 0, w := 32 }
/-- RO. -/
def LPA_CNT_RDPC_DENY.COUNT : Fld := { base := 0x0302018, lo := 0, w := 32 }
/-- W1C. -/
def PRF_STATUS.CFG_REJECT : Fld := { base := 0x0400000, lo := 0, w := 1 }
/-- RO. -/
def PRF_GEN_USE.MAX : Fld := { base := 0x0400004, lo := 16, w := 13 }
/-- RO. -/
def PRF_GEN_USE.IN_USE : Fld := { base := 0x0400004, lo := 0, w := 13 }
/-- RO. -/
def PRF_CNT_BUSY.COUNT : Fld := { base := 0x0400008, lo := 0, w := 32 }
/-- RW, class L. -/
def PRF_DEV_LIMIT.DEV : Fld := { base := 0x0400100, lo := 0, w := 16, s1 := 0x4, n1 := 17 }
/-- RW, class S. -/
def PRF_PL_OWNER.DOMAIN : Fld := { base := 0x0401000, lo := 0, w := 5, s1 := 0x40, n1 := 32 }
/-- RW, class L. -/
def PRF_PL_CTL.JUMP_SRC : Fld := { base := 0x0401004, lo := 21, w := 1, s1 := 0x40, n1 := 32 }
/-- RW, class L. -/
def PRF_PL_CTL.TRIG_SRC : Fld := { base := 0x0401004, lo := 20, w := 1, s1 := 0x40, n1 := 32 }
/-- RW, class L. -/
def PRF_PL_CTL.JUMP_SEG : Fld := { base := 0x0401004, lo := 16, w := 4, s1 := 0x40, n1 := 32 }
/-- RW, class L. -/
def PRF_PL_CTL.JUMP_SGF : Fld := { base := 0x0401004, lo := 8, w := 8, s1 := 0x40, n1 := 32 }
/-- RW, class L. -/
def PRF_PL_CTL.TRIG_SGF : Fld := { base := 0x0401004, lo := 0, w := 8, s1 := 0x40, n1 := 32 }
/-- WO, class L. -/
def PRF_PL_CMD.JUMP : Fld := { base := 0x0401008, lo := 1, w := 1, s1 := 0x40, n1 := 32 }
/-- WO, class L. -/
def PRF_PL_CMD.TRIG : Fld := { base := 0x0401008, lo := 0, w := 1, s1 := 0x40, n1 := 32 }
/-- WO, class L. -/
def PRF_PL_RATE.COHERENT : Fld := { base := 0x040100C, lo := 31, w := 1, s1 := 0x40, n1 := 32 }
/-- RW, class F. -/
def PRF_PL_RATE.INC : Fld := { base := 0x040100C, lo := 0, w := 25, s1 := 0x40, n1 := 32 }
/-- RO. -/
def PRF_PL_STATUS.SEG : Fld := { base := 0x0401010, lo := 9, w := 4, s1 := 0x40, n1 := 32 }
/-- RO. -/
def PRF_PL_STATUS.FETCH_ERR : Fld := { base := 0x0401010, lo := 8, w := 1, s1 := 0x40, n1 := 32 }
/-- W1C. -/
def PRF_PL_STATUS.JUMP_OVERRUN : Fld := { base := 0x0401010, lo := 7, w := 1, s1 := 0x40, n1 := 32 }
/-- RO. -/
def PRF_PL_STATUS.JUMP_PENDING : Fld := { base := 0x0401010, lo := 6, w := 1, s1 := 0x40, n1 := 32 }
/-- W1C. -/
def PRF_PL_STATUS.TRIG_OVERRUN : Fld := { base := 0x0401010, lo := 5, w := 1, s1 := 0x40, n1 := 32 }
/-- RO. -/
def PRF_PL_STATUS.TRIG_PENDING : Fld := { base := 0x0401010, lo := 4, w := 1, s1 := 0x40, n1 := 32 }
/-- W1C. -/
def PRF_PL_STATUS.UNDERRUN : Fld := { base := 0x0401010, lo := 3, w := 1, s1 := 0x40, n1 := 32 }
/-- RO. -/
def PRF_PL_STATUS.STARVED : Fld := { base := 0x0401010, lo := 2, w := 1, s1 := 0x40, n1 := 32 }
/-- RO. -/
def PRF_PL_STATUS.WAITING : Fld := { base := 0x0401010, lo := 1, w := 1, s1 := 0x40, n1 := 32 }
/-- RO. -/
def PRF_PL_STATUS.OPEN : Fld := { base := 0x0401010, lo := 0, w := 1, s1 := 0x40, n1 := 32 }
/-- RO. -/
def PRF_PL_PASS.PASS : Fld := { base := 0x0401014, lo := 0, w := 32, s1 := 0x40, n1 := 32 }
/-- RO. -/
def PRF_PL_POS.POS : Fld := { base := 0x0401018, lo := 0, w := 24, s1 := 0x40, n1 := 32 }
/-- RO. -/
def PRF_PL_FILL.FILL : Fld := { base := 0x040101C, lo := 0, w := 14, s1 := 0x40, n1 := 32 }
/-- RO. -/
def PRF_PL_MISSED.COUNT : Fld := { base := 0x0401020, lo := 0, w := 32, s1 := 0x40, n1 := 32 }
/-- RO. -/
def PRF_PL_UNDERRUNS.COUNT : Fld := { base := 0x0401024, lo := 0, w := 32, s1 := 0x40, n1 := 32 }
/-- RO. -/
def PRF_PL_CODE.CHANNEL : Fld := { base := 0x0401028, lo := 16, w := 14, s1 := 0x40, n1 := 32 }
/-- RO. -/
def PRF_PL_CODE.CODE : Fld := { base := 0x0401028, lo := 0, w := 16, s1 := 0x40, n1 := 32 }
/-- RW, class S. -/
def CAL_CTL.AXMODE : Fld := { base := 0x0600000, lo := 2, w := 1 }
/-- RW, class L. -/
def CAL_CTL.AUTO : Fld := { base := 0x0600000, lo := 1, w := 1, rst := 0x1 }
/-- RW, class L. -/
def CAL_CTL.ENABLE : Fld := { base := 0x0600000, lo := 0, w := 1 }
/-- W1C. -/
def CAL_STATUS.TRIM_LIMIT : Fld := { base := 0x0600004, lo := 6, w := 1 }
/-- W1C. -/
def CAL_STATUS.ALMANAC_ERR : Fld := { base := 0x0600004, lo := 5, w := 1 }
/-- W1C. -/
def CAL_STATUS.FLASH_ERR : Fld := { base := 0x0600004, lo := 4, w := 1 }
/-- W1C. -/
def CAL_STATUS.OVERRUN : Fld := { base := 0x0600004, lo := 3, w := 1 }
/-- RO. -/
def CAL_STATUS.DUSK_WAIT : Fld := { base := 0x0600004, lo := 2, w := 1 }
/-- RO. -/
def CAL_STATUS.BUSY : Fld := { base := 0x0600004, lo := 1, w := 1 }
/-- W1C. -/
def CAL_STATUS.CFG_REJECT : Fld := { base := 0x0600004, lo := 0, w := 1 }
/-- RW, class L. -/
def CAL_DELTA.DELTA : Fld := { base := 0x0600008, lo := 0, w := 16, rst := 0xC8 }
/-- RO. -/
def CAL_COUNT.COUNT : Fld := { base := 0x060000C, lo := 0, w := 32 }
/-- RO. -/
def CAL_SKIP.COUNT : Fld := { base := 0x060001C, lo := 0, w := 32 }
/-- RO. -/
def CAL_UNSAVED.COUNT : Fld := { base := 0x0600020, lo := 0, w := 32 }
/-- RO. -/
def CAL_LAST_TIME_LO.TICKS : Fld := { base := 0x0600010, lo := 0, w := 32 }
/-- RO. -/
def CAL_LAST_TIME_HI.TICKS : Fld := { base := 0x0600014, lo := 0, w := 32 }
/-- RO. -/
def CAL_UNCAL.COUNT : Fld := { base := 0x0600018, lo := 0, w := 15 }
/-- RO. -/
def CAL_WEAR.TRAVERSALS : Fld := { base := 0x0600024, lo := 0, w := 32, s1 := 0x10000000, n1 := 2 }
/-- RO. -/
def CAL_LOG_HEAD.HEAD : Fld := { base := 0x0600028, lo := 0, w := 23, s1 := 0x10000000, n1 := 2 }
/-- RO. -/
def CAL_PENDING.PENDING : Fld := { base := 0x0600030, lo := 0, w := 32, s1 := 0x4, n1 := 3 }
/-- RO. -/
def CAL_ZONE.PENDING : Fld := { base := 0x0600100, lo := 31, w := 1, s1 := 0x4, n1 := 72 }
/-- RO. -/
def CAL_ZONE.RUNNING : Fld := { base := 0x0600100, lo := 30, w := 1, s1 := 0x4, n1 := 72 }
/-- RO. -/
def CAL_ZONE.REF : Fld := { base := 0x0600100, lo := 0, w := 16, s1 := 0x4, n1 := 72 }
/-- RO. -/
def CAL_TEMP.VALID : Fld := { base := 0x0600300, lo := 31, w := 1, s1 := 0x4, n1 := 72 }
/-- RO. -/
def CAL_TEMP.SENSOR_BAD : Fld := { base := 0x0600300, lo := 30, w := 1, s1 := 0x4, n1 := 72 }
/-- RO. -/
def CAL_TEMP.TEMP : Fld := { base := 0x0600300, lo := 0, w := 16, s1 := 0x4, n1 := 72 }
/-- RW, class L. -/
def MER_CTL.PPS_IN_EN : Fld := { base := 0x0700000, lo := 2, w := 1 }
/-- RW, class L. -/
def MER_CTL.CLK10_EN : Fld := { base := 0x0700000, lo := 1, w := 1 }
/-- RW, class L. -/
def MER_CTL.PPS_OUT_EN : Fld := { base := 0x0700000, lo := 0, w := 1 }
/-- W1C. -/
def MER_STATUS.PPS_OVERRUN : Fld := { base := 0x0700004, lo := 8, w := 1 }
/-- W1C. -/
def MER_STATUS.STEPPED : Fld := { base := 0x0700004, lo := 7, w := 1 }
/-- RO. -/
def MER_STATUS.REFCLK_BAD : Fld := { base := 0x0700004, lo := 6, w := 1 }
/-- RO. -/
def MER_STATUS.HOLDOVER : Fld := { base := 0x0700004, lo := 5, w := 1 }
/-- RO. -/
def MER_STATUS.SLEWING : Fld := { base := 0x0700004, lo := 4, w := 1 }
/-- RO. -/
def MER_STATUS.STEP_PENDING : Fld := { base := 0x0700004, lo := 3, w := 1 }
/-- RO. -/
def MER_STATUS.SET : Fld := { base := 0x0700004, lo := 2, w := 1 }
/-- W1C. -/
def MER_STATUS.CFG_REJECT : Fld := { base := 0x0700004, lo := 0, w := 1 }
/-- RW, class F. -/
def MER_INCR_LO.INCR : Fld := { base := 0x0700010, lo := 0, w := 32, rst := 0x66666666 }
/-- RW, class F. -/
def MER_INCR_HI.INCR : Fld := { base := 0x0700014, lo := 0, w := 16, rst := 0x666 }
/-- RW, class L. -/
def MER_SLEW.AMOUNT : Fld := { base := 0x0700018, lo := 0, w := 32 }
/-- RW, class L. -/
def MER_SLEW_CFG.PPM : Fld := { base := 0x070001C, lo := 0, w := 10, rst := 0x64 }
/-- RW, class F. -/
def MER_STEP_LO.STEP : Fld := { base := 0x0700020, lo := 0, w := 32 }
/-- RW, class F. -/
def MER_STEP_HI.STEP : Fld := { base := 0x0700024, lo := 0, w := 32 }
/-- RW, class F. -/
def MER_SET_NS.NS : Fld := { base := 0x0700028, lo := 0, w := 30 }
/-- RW, class F. -/
def MER_SET_SEC_LO.SEC : Fld := { base := 0x070002C, lo := 0, w := 32 }
/-- RW, class F. -/
def MER_SET_SEC_HI.SEC : Fld := { base := 0x0700030, lo := 0, w := 16 }
/-- RO. -/
def MER_TIME_W0.NS : Fld := { base := 0x0700040, lo := 0, w := 30 }
/-- RO. -/
def MER_TIME_W1.SEC_FRAC : Fld := { base := 0x0700044, lo := 0, w := 32 }
/-- RO. -/
def MER_TIME_W2.SEC : Fld := { base := 0x0700048, lo := 0, w := 32 }
/-- RO. -/
def MER_TICKS_LO.TICKS : Fld := { base := 0x070004C, lo := 0, w := 32 }
/-- RO. -/
def MER_TICKS_HI.TICKS : Fld := { base := 0x0700050, lo := 0, w := 32 }
/-- RW, class L. -/
def MER_SERVO_TMO.MS : Fld := { base := 0x0700054, lo := 0, w := 16, rst := 0x7D0 }
/-- RO. -/
def MER_LAST_STEP_LO.STEP : Fld := { base := 0x0700058, lo := 0, w := 32 }
/-- RO. -/
def MER_LAST_STEP_HI.STEP : Fld := { base := 0x070005C, lo := 0, w := 32 }
/-- RO. -/
def MER_CNT_STEP.COUNT : Fld := { base := 0x0700060, lo := 0, w := 32 }
/-- RW, class L. -/
def MER_PPS_OUT_CFG.WIDTH : Fld := { base := 0x0700070, lo := 0, w := 10, rst := 0x64 }
/-- RW, class L. -/
def MER_PPS_OUT_OFS.OFS : Fld := { base := 0x0700074, lo := 0, w := 32 }
/-- RW, class L. -/
def MER_PPS_IN_DLY.DLY : Fld := { base := 0x0700078, lo := 0, w := 32 }
/-- RO. -/
def MER_PPSIN_W0.NS : Fld := { base := 0x0700080, lo := 0, w := 32 }
/-- RO. -/
def MER_PPSIN_W1.X : Fld := { base := 0x0700084, lo := 0, w := 32 }
/-- RO. -/
def MER_PPSIN_W2.X : Fld := { base := 0x0700088, lo := 0, w := 32 }
/-- WO, class L. -/
def MER_PPSIN_STATUS.POP : Fld := { base := 0x070008C, lo := 8, w := 1 }
/-- RO. -/
def MER_PPSIN_STATUS.COUNT : Fld := { base := 0x070008C, lo := 0, w := 3 }
/-- RO. -/
def MER_PPS_GLITCH.COUNT : Fld := { base := 0x0700090, lo := 0, w := 32 }
/-- RW, class L. -/
def MER_PORT_CFG.RX_ALL : Fld := { base := 0x0700100, lo := 3, w := 1, s1 := 0x80, n1 := 2 }
/-- RW, class S. -/
def MER_PORT_CFG.AN : Fld := { base := 0x0700100, lo := 2, w := 1, s1 := 0x80, n1 := 2, rst := 0x1 }
/-- RW, class S. -/
def MER_PORT_CFG.MODE : Fld := { base := 0x0700100, lo := 1, w := 1, s1 := 0x80, n1 := 2 }
/-- RW, class L. -/
def MER_PORT_CFG.ENABLE : Fld := { base := 0x0700100, lo := 0, w := 1, s1 := 0x80, n1 := 2 }
/-- RO. -/
def MER_PORT_STATUS.SYNC_LOST : Fld := { base := 0x0700104, lo := 3, w := 1, s1 := 0x80, n1 := 2 }
/-- RO. -/
def MER_PORT_STATUS.PATH : Fld := { base := 0x0700104, lo := 2, w := 1, s1 := 0x80, n1 := 2 }
/-- RO. -/
def MER_PORT_STATUS.OWNER : Fld := { base := 0x0700104, lo := 1, w := 1, s1 := 0x80, n1 := 2 }
/-- RO. -/
def MER_PORT_STATUS.LINK : Fld := { base := 0x0700104, lo := 0, w := 1, s1 := 0x80, n1 := 2 }
/-- RW, class S. -/
def MER_PORT_MAC_LO.MAC : Fld := { base := 0x0700108, lo := 0, w := 32, s1 := 0x80, n1 := 2 }
/-- RW, class S. -/
def MER_PORT_MAC_HI.MAC : Fld := { base := 0x070010C, lo := 0, w := 16, s1 := 0x80, n1 := 2 }
/-- RW, class L. -/
def MER_PORT_ASYM.ASYM : Fld := { base := 0x0700110, lo := 0, w := 32, s1 := 0x80, n1 := 2 }
/-- RW, class L. -/
def MER_PORT_TXDLY.TXDLY : Fld := { base := 0x0700114, lo := 0, w := 32, s1 := 0x80, n1 := 2 }
/-- RW, class L. -/
def MER_PORT_RXDLY.RXDLY : Fld := { base := 0x0700118, lo := 0, w := 32, s1 := 0x80, n1 := 2 }
/-- RW, class L. -/
def MER_PORT_SYNC_CFG.SYNC_TMO : Fld := { base := 0x070011C, lo := 16, w := 16, s1 := 0x80, n1 := 2 }
/-- RW, class L. -/
def MER_PORT_SYNC_CFG.DOMAIN : Fld := { base := 0x070011C, lo := 0, w := 8, s1 := 0x80, n1 := 2, rst := 0x18 }
/-- RO. -/
def MER_RX_HEAD.HEAD : Fld := { base := 0x0700120, lo := 0, w := 5, s1 := 0x80, n1 := 2 }
/-- RW, class L. -/
def MER_RX_TAIL.TAIL : Fld := { base := 0x0700124, lo := 0, w := 5, s1 := 0x80, n1 := 2 }
/-- RO. -/
def MER_RX_DROP.COUNT : Fld := { base := 0x0700128, lo := 0, w := 32, s1 := 0x80, n1 := 2 }
/-- RO. -/
def MER_RX_FILTERED.COUNT : Fld := { base := 0x070012C, lo := 0, w := 32, s1 := 0x80, n1 := 2 }
/-- WO, class L. -/
def MER_TX_CMD.LENGTH : Fld := { base := 0x0700130, lo := 16, w := 8, s1 := 0x80, n1 := 2 }
/-- WO, class L. -/
def MER_TX_CMD.MODE : Fld := { base := 0x0700130, lo := 4, w := 2, s1 := 0x80, n1 := 2 }
/-- WO, class L. -/
def MER_TX_CMD.SLOT : Fld := { base := 0x0700130, lo := 0, w := 2, s1 := 0x80, n1 := 2 }
/-- RO. -/
def MER_TX_STATUS.STATE : Fld := { base := 0x0700134, lo := 0, w := 8, s1 := 0x80, n1 := 2 }
/-- RO. -/
def MER_TX_CNT.COUNT : Fld := { base := 0x0700138, lo := 0, w := 32, s1 := 0x80, n1 := 2 }
/-- WO, class L. -/
def SAF_CTL.FIRST_CLR : Fld := { base := 0x0800000, lo := 2, w := 1 }
/-- RW, class L. -/
def SAF_CTL.SW_ECLIPSE : Fld := { base := 0x0800000, lo := 1, w := 1 }
/-- RW, class L. -/
def SAF_CTL.INJ_EN : Fld := { base := 0x0800000, lo := 0, w := 1 }
/-- RO. -/
def SAF_STATUS.STATE : Fld := { base := 0x0800004, lo := 9, w := 3 }
/-- RO. -/
def SAF_STATUS.SAFE_N_REQ : Fld := { base := 0x0800004, lo := 8, w := 1 }
/-- RO. -/
def SAF_STATUS.CONSEQ : Fld := { base := 0x0800004, lo := 7, w := 1 }
/-- RO. -/
def SAF_STATUS.REAPPLY : Fld := { base := 0x0800004, lo := 6, w := 1 }
/-- RO. -/
def SAF_STATUS.GLOBAL_ECLIPSE : Fld := { base := 0x0800004, lo := 5, w := 1 }
/-- RO. -/
def SAF_STATUS.PAIR_FAULT : Fld := { base := 0x0800004, lo := 4, w := 1 }
/-- RO. -/
def SAF_STATUS.HIST_FULL : Fld := { base := 0x0800004, lo := 3, w := 1 }
/-- W1C. -/
def SAF_STATUS.INJ_REFUSED : Fld := { base := 0x0800004, lo := 2, w := 1 }
/-- W1C. -/
def SAF_STATUS.CLR_REFUSED : Fld := { base := 0x0800004, lo := 1, w := 1 }
/-- W1C. -/
def SAF_STATUS.CFG_REJECT : Fld := { base := 0x0800004, lo := 0, w := 1 }
/-- RW, class L. -/
def SAF_CONSEQ_WIN.FRAMES : Fld := { base := 0x0800008, lo := 0, w := 11, rst := 0x28 }
/-- RW, class L. -/
def SAF_VEC.VECTOR : Fld := { base := 0x080000C, lo := 0, w := 8 }
/-- WO, class L. -/
def SAF_CLR.ALL : Fld := { base := 0x0800010, lo := 31, w := 1 }
/-- WO, class L. -/
def SAF_CLR.SOURCE : Fld := { base := 0x0800010, lo := 0, w := 9 }
/-- WO, class L. -/
def SAF_INJECT.INFO : Fld := { base := 0x0800014, lo := 16, w := 16 }
/-- WO, class L. -/
def SAF_INJECT.MODE : Fld := { base := 0x0800014, lo := 12, w := 1 }
/-- WO, class L. -/
def SAF_INJECT.SOURCE : Fld := { base := 0x0800014, lo := 0, w := 9 }
/-- RO. -/
def SAF_HIST_STATUS.COUNT : Fld := { base := 0x0800018, lo := 0, w := 6 }
/-- RO. -/
def SAF_HIST_OVF.COUNT : Fld := { base := 0x080001C, lo := 0, w := 32 }
/-- RO. -/
def SAF_HIST_W0.ENTRY : Fld := { base := 0x0800020, lo := 0, w := 32 }
/-- RO. -/
def SAF_HIST_W1.ENTRY : Fld := { base := 0x0800024, lo := 0, w := 32 }
/-- RO. -/
def SAF_HIST_W2.ENTRY : Fld := { base := 0x0800028, lo := 0, w := 32 }
/-- RO. -/
def SAF_HIST_W3.ENTRY : Fld := { base := 0x080002C, lo := 0, w := 32 }
/-- WO, class L. -/
def SAF_HIST_POP.POP : Fld := { base := 0x0800030, lo := 0, w := 1 }
/-- RO. -/
def SAF_FIRST_W0.ENTRY : Fld := { base := 0x0800040, lo := 0, w := 32 }
/-- RO. -/
def SAF_FIRST_W1.ENTRY : Fld := { base := 0x0800044, lo := 0, w := 32 }
/-- RO. -/
def SAF_FIRST_W2.ENTRY : Fld := { base := 0x0800048, lo := 0, w := 32 }
/-- RO. -/
def SAF_FIRST_W3.ENTRY : Fld := { base := 0x080004C, lo := 0, w := 32 }
/-- RO. -/
def SAF_CNT_ECLIPSE.COUNT : Fld := { base := 0x0800050, lo := 0, w := 32 }
/-- RO. -/
def SAF_CNT_REAPPLY.COUNT : Fld := { base := 0x0800054, lo := 0, w := 32 }
/-- RO. -/
def SAF_SEQ.SEQ : Fld := { base := 0x0800058, lo := 0, w := 32 }
/-- RW, class L. -/
def LKS_CTL.RESOLVE_WIN : Fld := { base := 0x0900000, lo := 8, w := 4, rst := 0x6 }
/-- RW, class L. -/
def LKS_CTL.CMP_EN : Fld := { base := 0x0900000, lo := 0, w := 1, rst := 0x1 }
/-- WO, class L. -/
def LKS_CMD.DIE : Fld := { base := 0x0900004, lo := 8, w := 1 }
/-- WO, class L. -/
def LKS_CMD.OP : Fld := { base := 0x0900004, lo := 0, w := 3 }
/-- RO. -/
def LKS_CMD_STATUS.BUSY : Fld := { base := 0x0900008, lo := 31, w := 1 }
/-- RO. -/
def LKS_CMD_STATUS.STATUS : Fld := { base := 0x0900008, lo := 0, w := 16 }
/-- RO. -/
def LKS_STATUS.PEER_ROLE : Fld := { base := 0x090000C, lo := 10, w := 2, s1 := 0x10000000, n1 := 2 }
/-- RO. -/
def LKS_STATUS.ROLE : Fld := { base := 0x090000C, lo := 8, w := 2, s1 := 0x10000000, n1 := 2 }
/-- RO. -/
def LKS_STATUS.DIE_LINK : Fld := { base := 0x090000C, lo := 7, w := 1, s1 := 0x10000000, n1 := 2 }
/-- RO. -/
def LKS_STATUS.RESYNC : Fld := { base := 0x090000C, lo := 6, w := 1, s1 := 0x10000000, n1 := 2 }
/-- RO. -/
def LKS_STATUS.LAGGING : Fld := { base := 0x090000C, lo := 5, w := 1, s1 := 0x10000000, n1 := 2 }
/-- RO. -/
def LKS_STATUS.HOLD : Fld := { base := 0x090000C, lo := 4, w := 1, s1 := 0x10000000, n1 := 2 }
/-- RO. -/
def LKS_STATUS.SELFCHECK : Fld := { base := 0x090000C, lo := 3, w := 1, s1 := 0x10000000, n1 := 2 }
/-- W1C. -/
def LKS_STATUS.CFG_REJECT : Fld := { base := 0x090000C, lo := 0, w := 1, s1 := 0x10000000, n1 := 2 }
/-- RO. -/
def LKS_TIMELINE.FRAME : Fld := { base := 0x0900010, lo := 0, w := 32, s1 := 0x10000000, n1 := 2 }
/-- RO. -/
def LKS_TILE_HOLD.FOLLOW_B : Fld := { base := 0x0900014, lo := 8, w := 8 }
/-- RO. -/
def LKS_TILE_HOLD.FROZEN : Fld := { base := 0x0900014, lo := 0, w := 8 }
/-- W1C. -/
def LKS_MISMATCH.VALID : Fld := { base := 0x0900018, lo := 31, w := 1 }
/-- RO. -/
def LKS_MISMATCH.TILE : Fld := { base := 0x0900018, lo := 28, w := 3 }
/-- RO. -/
def LKS_MISMATCH.KIND : Fld := { base := 0x0900018, lo := 25, w := 3 }
/-- RO. -/
def LKS_MISMATCH.CHANNEL : Fld := { base := 0x0900018, lo := 0, w := 14 }
/-- RO. -/
def LKS_MISMATCH_FRAME.FRAME : Fld := { base := 0x090001C, lo := 0, w := 32 }
/-- RO. -/
def LKS_LAST_FO.TWILIGHT : Fld := { base := 0x0900020, lo := 12, w := 2 }
/-- RO. -/
def LKS_LAST_FO.GAP : Fld := { base := 0x0900020, lo := 8, w := 4 }
/-- RO. -/
def LKS_LAST_FO.TO : Fld := { base := 0x0900020, lo := 5, w := 1 }
/-- RO. -/
def LKS_LAST_FO.FROM : Fld := { base := 0x0900020, lo := 4, w := 1 }
/-- RO. -/
def LKS_LAST_FO.TRIGGER : Fld := { base := 0x0900020, lo := 0, w := 3 }
/-- RO. -/
def LKS_LAST_FO_LO.TICKS : Fld := { base := 0x0900024, lo := 0, w := 32 }
/-- RO. -/
def LKS_LAST_FO_HI.TICKS : Fld := { base := 0x0900028, lo := 0, w := 32 }
/-- RO. -/
def LKS_CNT_FAILOVER.COUNT : Fld := { base := 0x0900030, lo := 0, w := 32 }
/-- RO. -/
def LKS_CNT_MISMATCH.COUNT : Fld := { base := 0x0900034, lo := 0, w := 32 }
/-- RO. -/
def LKS_CNT_HB_MISS.COUNT : Fld := { base := 0x0900038, lo := 0, w := 32 }
/-- RO. -/
def LKS_CNT_HOLD.COUNT : Fld := { base := 0x090003C, lo := 0, w := 32 }
/-- RW, class L. -/
def LKS_VEC.VECTOR : Fld := { base := 0x0900040, lo := 0, w := 8 }
/-- RW, class L. -/
def MEM_CTL.REMAP_EN : Fld := { base := 0x0A00000, lo := 0, w := 1, s1 := 0x10000000, n1 := 2, rst := 0x1 }
/-- RO. -/
def MEM_STATUS.REMAP_FULL : Fld := { base := 0x0A00004, lo := 3, w := 1, s1 := 0x10000000, n1 := 2 }
/-- RO. -/
def MEM_STATUS.SCRUB_BUSY : Fld := { base := 0x0A00004, lo := 2, w := 1, s1 := 0x10000000, n1 := 2 }
/-- RO. -/
def MEM_STATUS.SELFTEST_OK : Fld := { base := 0x0A00004, lo := 1, w := 1, s1 := 0x10000000, n1 := 2 }
/-- W1C. -/
def MEM_STATUS.CFG_REJECT : Fld := { base := 0x0A00004, lo := 0, w := 1, s1 := 0x10000000, n1 := 2 }
/-- RO. -/
def MEM_SELFTEST.PASS : Fld := { base := 0x0A00008, lo := 0, w := 16, s1 := 0x10000000, n1 := 2 }
/-- RO. -/
def MEM_UNCORR_LAST.GROUP : Fld := { base := 0x0A0000C, lo := 28, w := 4, s1 := 0x10000000, n1 := 2 }
/-- RO. -/
def MEM_UNCORR_LAST.TILE : Fld := { base := 0x0A0000C, lo := 24, w := 3, s1 := 0x10000000, n1 := 2 }
/-- RO. -/
def MEM_UNCORR_LAST.ADDR : Fld := { base := 0x0A0000C, lo := 0, w := 19, s1 := 0x10000000, n1 := 2 }
/-- RO. -/
def MEM_UNCORR_CNT.COUNT : Fld := { base := 0x0A00010, lo := 0, w := 32, s1 := 0x10000000, n1 := 2 }
/-- RO. -/
def MEM_PERSIST_OVF.COUNT : Fld := { base := 0x0A00014, lo := 0, w := 32, s1 := 0x10000000, n1 := 2 }
/-- RO. -/
def MEM_REMAP_USED.ROWS : Fld := { base := 0x0A00018, lo := 0, w := 5, s1 := 0x10000000, n1 := 2 }
/-- RW, class L. -/
def MEM_BKT_CFG.LEAK_MS : Fld := { base := 0x0A00040, lo := 16, w := 16, s1 := 0x10000000, n1 := 2, s2 := 0x4, n2 := 16, rst := 0x3E8 }
/-- RW, class L. -/
def MEM_BKT_CFG.CAP : Fld := { base := 0x0A00040, lo := 0, w := 8, s1 := 0x10000000, n1 := 2, s2 := 0x4, n2 := 16, rst := 0x10 }
/-- RO. -/
def MEM_BKT_LEVEL.TOTAL : Fld := { base := 0x0A00080, lo := 8, w := 24, s1 := 0x10000000, n1 := 2, s2 := 0x4, n2 := 16 }
/-- RO. -/
def MEM_BKT_LEVEL.LEVEL : Fld := { base := 0x0A00080, lo := 0, w := 8, s1 := 0x10000000, n1 := 2, s2 := 0x4, n2 := 16 }
/-- W1C. -/
def MEM_PERSIST_W0.VALID : Fld := { base := 0x0A00100, lo := 31, w := 1, s1 := 0x10000000, n1 := 2, s2 := 0x10, n2 := 8 }
/-- RO. -/
def MEM_PERSIST_W0.REMAP : Fld := { base := 0x0A00100, lo := 28, w := 3, s1 := 0x10000000, n1 := 2, s2 := 0x10, n2 := 8 }
/-- RO. -/
def MEM_PERSIST_W0.GROUP : Fld := { base := 0x0A00100, lo := 24, w := 4, s1 := 0x10000000, n1 := 2, s2 := 0x10, n2 := 8 }
/-- RO. -/
def MEM_PERSIST_W0.TILE : Fld := { base := 0x0A00100, lo := 20, w := 3, s1 := 0x10000000, n1 := 2, s2 := 0x10, n2 := 8 }
/-- RO. -/
def MEM_PERSIST_W0.ADDR : Fld := { base := 0x0A00100, lo := 0, w := 19, s1 := 0x10000000, n1 := 2, s2 := 0x10, n2 := 8 }
/-- RO. -/
def MEM_PERSIST_W1.TICKS : Fld := { base := 0x0A00104, lo := 0, w := 32, s1 := 0x10000000, n1 := 2, s2 := 0x10, n2 := 8 }
/-- RO. -/
def MEM_PERSIST_W2.TICKS : Fld := { base := 0x0A00108, lo := 0, w := 32, s1 := 0x10000000, n1 := 2, s2 := 0x10, n2 := 8 }
/-- W1C. -/
def SGF_STATUS.DENY : Fld := { base := 0x0B00000, lo := 2, w := 1 }
/-- RO. -/
def SGF_STATUS.LOOP_ANY : Fld := { base := 0x0B00000, lo := 1, w := 1 }
/-- W1C. -/
def SGF_STATUS.CFG_REJECT : Fld := { base := 0x0B00000, lo := 0, w := 1 }
/-- RW, class L. -/
def SGF_VEC.VECTOR : Fld := { base := 0x0B00004, lo := 0, w := 8 }
/-- WO, class L. -/
def SGF_SWEV.FIRE : Fld := { base := 0x0B00010, lo := 0, w := 32, s1 := 0x4, n1 := 2 }
/-- W1C. -/
def SGF_WATCH.WATCH : Fld := { base := 0x0B00020, lo := 0, w := 32, s1 := 0x4, n1 := 8 }
/-- RW, class L. -/
def SGF_WATCH_EN.EN : Fld := { base := 0x0B00040, lo := 0, w := 32, s1 := 0x4, n1 := 8 }
/-- W1C. -/
def SGF_LOOP_OFF.OFF : Fld := { base := 0x0B00060, lo := 0, w := 32, s1 := 0x4, n1 := 8 }
/-- W1C. -/
def SGF_LOOP_FIRST.VALID : Fld := { base := 0x0B00080, lo := 31, w := 1 }
/-- RO. -/
def SGF_LOOP_FIRST.CHANNEL : Fld := { base := 0x0B00080, lo := 0, w := 8 }
/-- RO. -/
def SGF_CNT_SUPPRESS.COUNT : Fld := { base := 0x0B00084, lo := 0, w := 32 }
/-- RO. -/
def SGF_CNT_COINCIDE.COUNT : Fld := { base := 0x0B00088, lo := 0, w := 32 }
/-- RO. -/
def SGF_CNT_DENY.COUNT : Fld := { base := 0x0B0008C, lo := 0, w := 32 }
/-- RO. -/
def SGF_CNT_CONSOVR.COUNT : Fld := { base := 0x0B00090, lo := 0, w := 32 }
/-- RO. -/
def SGF_CNT_DROP.COUNT : Fld := { base := 0x0B00094, lo := 0, w := 32 }
/-- W1C. -/
def SGF_TMR_CTL.TIME_ERR : Fld := { base := 0x0B01000, lo := 4, w := 1, s1 := 0x10, n1 := 64 }
/-- W1C. -/
def SGF_TMR_CTL.LATE : Fld := { base := 0x0B01000, lo := 3, w := 1, s1 := 0x10, n1 := 64 }
/-- RO. -/
def SGF_TMR_CTL.ARMED : Fld := { base := 0x0B01000, lo := 2, w := 1, s1 := 0x10, n1 := 64 }
/-- RW, class L. -/
def SGF_TMR_CTL.PERIODIC : Fld := { base := 0x0B01000, lo := 1, w := 1, s1 := 0x10, n1 := 64 }
/-- RW, class L. -/
def SGF_TMR_CTL.EN : Fld := { base := 0x0B01000, lo := 0, w := 1, s1 := 0x10, n1 := 64 }
/-- RW, class L. -/
def SGF_TMR_TIME_LO.TICKS : Fld := { base := 0x0B01004, lo := 0, w := 32, s1 := 0x10, n1 := 64 }
/-- RW, class L. -/
def SGF_TMR_TIME_HI.TICKS : Fld := { base := 0x0B01008, lo := 0, w := 32, s1 := 0x10, n1 := 64 }
/-- RW, class F. -/
def SGF_TMR_PERIOD.FRAMES : Fld := { base := 0x0B0100C, lo := 0, w := 25, s1 := 0x10, n1 := 64, rst := 0x28 }
/-- W1C. -/
def BMX_STATUS.ERR : Fld := { base := 0x0C00000, lo := 1, w := 1, s1 := 0x10000000, n1 := 2 }
/-- W1C. -/
def BMX_STATUS.CFG_REJECT : Fld := { base := 0x0C00000, lo := 0, w := 1, s1 := 0x10000000, n1 := 2 }
/-- W1C. -/
def BMX_ERR_INFO.VALID : Fld := { base := 0x0C00004, lo := 31, w := 1, s1 := 0x10000000, n1 := 2 }
/-- RO. -/
def BMX_ERR_INFO.WRITE : Fld := { base := 0x0C00004, lo := 8, w := 1, s1 := 0x10000000, n1 := 2 }
/-- RO. -/
def BMX_ERR_INFO.MASTER : Fld := { base := 0x0C00004, lo := 0, w := 4, s1 := 0x10000000, n1 := 2 }
/-- RO. -/
def BMX_ERR_ADDR.ADDR : Fld := { base := 0x0C00008, lo := 0, w := 32, s1 := 0x10000000, n1 := 2 }
/-- RO. -/
def BMX_CNT_ERR.COUNT : Fld := { base := 0x0C0000C, lo := 0, w := 32, s1 := 0x10000000, n1 := 2 }
/-- RO. -/
def BMX_CNT_PF_WAIT.COUNT : Fld := { base := 0x0C00010, lo := 0, w := 32, s1 := 0x10000000, n1 := 2 }
/-- RW, class L. -/
def BMX_QOS.SCRUB : Fld := { base := 0x0C00020, lo := 12, w := 4, s1 := 0x10000000, n1 := 2, rst := 0x1 }
/-- RW, class L. -/
def BMX_QOS.TELEM : Fld := { base := 0x0C00020, lo := 8, w := 4, s1 := 0x10000000, n1 := 2, rst := 0x6 }
/-- RW, class L. -/
def BMX_QOS.CAL : Fld := { base := 0x0C00020, lo := 4, w := 4, s1 := 0x10000000, n1 := 2, rst := 0x4 }
/-- RW, class L. -/
def BMX_QOS.HOST : Fld := { base := 0x0C00020, lo := 0, w := 4, s1 := 0x10000000, n1 := 2, rst := 0x8 }
/-- RW, class L. -/
def BMX_PRIO_LO.PRIO : Fld := { base := 0x0C00100, lo := 0, w := 32, s1 := 0x10000000, n1 := 2, s2 := 0x8, n2 := 17, rst := 0xFFFFFFFF, tab := [0, 0, 4294967295, 4294967295, 4294967295, 4294967295, 0, 0, 0, 0, 0, 0, 0, 0, 0, 0, 0] }
/-- RW, class L. -/
def BMX_PRIO_HI.SUPV : Fld := { base := 0x0C00104, lo := 12, w := 4, s1 := 0x10000000, n1 := 2, s2 := 0x8, n2 := 17, rst := 0x4 }
/-- RW, class L. -/
def BMX_PRIO_HI.TONE : Fld := { base := 0x0C00104, lo := 8, w := 4, s1 := 0x10000000, n1 := 2, s2 := 0x8, n2 := 17, rst := 0xC, tab := [0, 0, 0, 0, 0, 12, 0, 0, 0, 0, 0, 0, 0, 0, 0, 0, 0] }
/-- RW, class L. -/
def BMX_PRIO_HI.PRF : Fld := { base := 0x0C00104, lo := 4, w := 4, s1 := 0x10000000, n1 := 2, s2 := 0x8, n2 := 17, rst := 0xD, tab := [0, 0, 13, 0, 0, 0, 0, 13, 0, 13, 0, 0, 0, 0, 0, 0, 0] }
/-- RW, class L. -/
def BMX_PRIO_HI.PLN : Fld := { base := 0x0C00104, lo := 0, w := 4, s1 := 0x10000000, n1 := 2, s2 := 0x8, n2 := 17, rst := 0xE, tab := [14, 14, 14, 0, 0, 0, 14, 0, 0, 14, 0, 0, 0, 0, 0, 0, 0] }
/-- RO. -/
def BMX_TGT_STAT.MAX_BULK_WAIT : Fld := { base := 0x0C00200, lo := 16, w := 16, s1 := 0x10000000, n1 := 2, s2 := 0x4, n2 := 17 }
/-- WO, class L. -/
def SEC_CTL.DBG_RELOCK : Fld := { base := 0x0D00000, lo := 0, w := 1 }
/-- RO. -/
def SEC_STATUS.DBG_LEVEL : Fld := { base := 0x0D00004, lo := 6, w := 2 }
/-- RO. -/
def SEC_STATUS.DBG_LOCKOUT : Fld := { base := 0x0D00004, lo := 5, w := 1 }
/-- RO. -/
def SEC_STATUS.FW_BUSY : Fld := { base := 0x0D00004, lo := 4, w := 1 }
/-- RO. -/
def SEC_STATUS.KEY_BUSY : Fld := { base := 0x0D00004, lo := 3, w := 1 }
/-- RO. -/
def SEC_STATUS.ERASED : Fld := { base := 0x0D00004, lo := 2, w := 1 }
/-- RO. -/
def SEC_STATUS.ALARM : Fld := { base := 0x0D00004, lo := 1, w := 1 }
/-- W1C. -/
def SEC_STATUS.CFG_REJECT : Fld := { base := 0x0D00004, lo := 0, w := 1 }
/-- W1S. -/
def SEC_ALARM_CFG.LOCK : Fld := { base := 0x0D00008, lo := 31, w := 1 }
/-- RW, class L. -/
def SEC_ALARM_CFG.ERASE : Fld := { base := 0x0D00008, lo := 8, w := 1 }
/-- RW, class L. -/
def SEC_ALARM_CFG.EN : Fld := { base := 0x0D00008, lo := 0, w := 5, rst := 0x1F }
/-- RO. -/
def SEC_TAMPER_STATUS.LIVE : Fld := { base := 0x0D0000C, lo := 16, w := 5 }
/-- W1C. -/
def SEC_TAMPER_STATUS.LATCHED : Fld := { base := 0x0D0000C, lo := 0, w := 5 }
/-- WO, class L. -/
def SEC_KEY_CMD.OP : Fld := { base := 0x0D00010, lo := 8, w := 2 }
/-- WO, class L. -/
def SEC_KEY_CMD.SLOT : Fld := { base := 0x0D00010, lo := 0, w := 5 }
/-- RO. -/
def SEC_KEY_STATUS.LOADED : Fld := { base := 0x0D00014, lo := 0, w := 17 }
/-- WO, class L. -/
def SEC_KEY_W.KEY : Fld := { base := 0x0D00020, lo := 0, w := 32, s1 := 0x4, n1 := 8 }
/-- RO. -/
def SEC_KEY_KCV.KCV : Fld := { base := 0x0D00040, lo := 0, w := 32, s1 := 0x4, n1 := 17 }
/-- RO. -/
def SEC_FW_STATUS.MINVER : Fld := { base := 0x0D00090, lo := 24, w := 8 }
/-- RO. -/
def SEC_FW_STATUS.VERSION : Fld := { base := 0x0D00090, lo := 8, w := 16 }
/-- RO. -/
def SEC_FW_STATUS.SLOT1_VALID : Fld := { base := 0x0D00090, lo := 2, w := 1 }
/-- RO. -/
def SEC_FW_STATUS.SLOT0_VALID : Fld := { base := 0x0D00090, lo := 1, w := 1 }
/-- RO. -/
def SEC_FW_STATUS.BOOT_SLOT : Fld := { base := 0x0D00090, lo := 0, w := 1 }
/-- RW, class L. -/
def SEC_FW_ADDR_LO.ADDR : Fld := { base := 0x0D00094, lo := 0, w := 32 }
/-- RW, class L. -/
def SEC_FW_ADDR_HI.ADDR : Fld := { base := 0x0D00098, lo := 0, w := 32 }
/-- RW, class L. -/
def SEC_FW_LEN.LEN : Fld := { base := 0x0D0009C, lo := 0, w := 21 }
/-- WO, class L. -/
def SEC_FW_CMD.OP : Fld := { base := 0x0D000A0, lo := 0, w := 2 }
/-- RO. -/
def SEC_FW_RESULT.RESULT : Fld := { base := 0x0D000A4, lo := 0, w := 4 }
/-- RO. -/
def SEC_DBG_CHAL_W.NONCE : Fld := { base := 0x0D000B0, lo := 0, w := 32, s1 := 0x4, n1 := 4 }
/-- WO, class L. -/
def SEC_DBG_RESP_W.RESP : Fld := { base := 0x0D000C0, lo := 0, w := 32, s1 := 0x4, n1 := 4 }
/-- WO, class L. -/
def SEC_DBG_CMD.LEVEL : Fld := { base := 0x0D000D0, lo := 0, w := 2 }
/-- RO. -/
def SEC_CNT_ERASE.COUNT : Fld := { base := 0x0D000E0, lo := 0, w := 32 }
/-- RO. -/
def SEC_DBG_FAIL.COUNT : Fld := { base := 0x0D000E4, lo := 0, w := 32 }
/-- WO, class L. -/
def PMC_CTL.CLEAR : Fld := { base := 0x0E00000, lo := 1, w := 1, s1 := 0x10000000, n1 := 2 }
/-- RW, class L. -/
def PMC_CTL.FREEZE : Fld := { base := 0x0E00000, lo := 0, w := 1, s1 := 0x10000000, n1 := 2 }
/-- W1C. -/
def PMC_STATUS.CFG_REJECT : Fld := { base := 0x0E00004, lo := 0, w := 1, s1 := 0x10000000, n1 := 2 }
/-- RW, class L. -/
def PMC_VEC.VECTOR : Fld := { base := 0x0E00008, lo := 0, w := 8, s1 := 0x10000000, n1 := 2 }
/-- RO. -/
def PMC_OVF_SUM_LO.CORES : Fld := { base := 0x0E00010, lo := 0, w := 32, s1 := 0x10000000, n1 := 2 }
/-- RO. -/
def PMC_OVF_SUM_HI.CORES : Fld := { base := 0x0E00014, lo := 0, w := 32, s1 := 0x10000000, n1 := 2 }
/-- RW, class L. -/
def PMC_ACCESS.SAMPLE : Fld := { base := 0x0E00100, lo := 2, w := 1, s1 := 0x10000000, n1 := 2, s2 := 0x4, n2 := 17, tab := [1] }
/-- RW, class L. -/
def PMC_ACCESS.SNAP : Fld := { base := 0x0E00100, lo := 1, w := 1, s1 := 0x10000000, n1 := 2, s2 := 0x4, n2 := 17, tab := [1] }
/-- RW, class L. -/
def PMC_ACCESS.RDPC : Fld := { base := 0x0E00100, lo := 0, w := 1, s1 := 0x10000000, n1 := 2, s2 := 0x4, n2 := 17, tab := [1] }
/-- RO. -/
def PMC_CYC_LO.CYC : Fld := { base := 0x0E10000, lo := 0, w := 32, s1 := 0x10000000, n1 := 2, s2 := 0x40, n2 := 64 }
/-- RO. -/
def PMC_CYC_HI.CYC : Fld := { base := 0x0E10004, lo := 0, w := 32, s1 := 0x10000000, n1 := 2, s2 := 0x40, n2 := 64 }
/-- RW, class L. -/
def PMC_CNT.COUNT : Fld := { base := 0x0E10008, lo := 0, w := 32, s1 := 0x10000000, n1 := 2, s2 := 0x40, n2 := 64, s3 := 0x4, n3 := 6 }
/-- RW, class L. -/
def PMC_EVSEL.EN : Fld := { base := 0x0E10020, lo := 31, w := 1, s1 := 0x10000000, n1 := 2, s2 := 0x40, n2 := 64, s3 := 0x4, n3 := 6 }
/-- RW, class L. -/
def PMC_EVSEL.EDGE : Fld := { base := 0x0E10020, lo := 30, w := 1, s1 := 0x10000000, n1 := 2, s2 := 0x40, n2 := 64, s3 := 0x4, n3 := 6 }
/-- RW, class L. -/
def PMC_EVSEL.CHAIN : Fld := { base := 0x0E10020, lo := 29, w := 1, s1 := 0x10000000, n1 := 2, s2 := 0x40, n2 := 64, s3 := 0x4, n3 := 6 }
/-- RW, class L. -/
def PMC_EVSEL.IRQ : Fld := { base := 0x0E10020, lo := 28, w := 1, s1 := 0x10000000, n1 := 2, s2 := 0x40, n2 := 64, s3 := 0x4, n3 := 6 }
/-- RW, class L. -/
def PMC_EVSEL.CLASS_MASK : Fld := { base := 0x0E10020, lo := 16, w := 4, s1 := 0x10000000, n1 := 2, s2 := 0x40, n2 := 64, s3 := 0x4, n3 := 6, rst := 0xF }
/-- RW, class L. -/
def PMC_EVSEL.EVENT : Fld := { base := 0x0E10020, lo := 0, w := 6, s1 := 0x10000000, n1 := 2, s2 := 0x40, n2 := 64, s3 := 0x4, n3 := 6 }
/-- W1C. -/
def PMC_OVF.OVF : Fld := { base := 0x0E10038, lo := 0, w := 6, s1 := 0x10000000, n1 := 2, s2 := 0x40, n2 := 64 }
/-- RW, class L. -/
def PMC_SMP_CFG.EN : Fld := { base := 0x0E20000, lo := 31, w := 1, s1 := 0x10000000, n1 := 2, s2 := 0x20, n2 := 8 }
/-- RW, class L. -/
def PMC_SMP_CFG.WRAP : Fld := { base := 0x0E20000, lo := 30, w := 1, s1 := 0x10000000, n1 := 2, s2 := 0x20, n2 := 8, rst := 0x1 }
/-- RW, class L. -/
def PMC_SMP_CFG.KIND : Fld := { base := 0x0E20000, lo := 28, w := 2, s1 := 0x10000000, n1 := 2, s2 := 0x20, n2 := 8 }
/-- RW, class L. -/
def PMC_SMP_CFG.CORES : Fld := { base := 0x0E20000, lo := 16, w := 8, s1 := 0x10000000, n1 := 2, s2 := 0x20, n2 := 8, rst := 0xFF }
/-- RW, class L. -/
def PMC_SMP_CFG.INTERVAL : Fld := { base := 0x0E20000, lo := 0, w := 16, s1 := 0x10000000, n1 := 2, s2 := 0x20, n2 := 8, rst := 0x1000 }
/-- RO. -/
def PMC_SMP_STATUS.COUNT : Fld := { base := 0x0E20004, lo := 16, w := 7, s1 := 0x10000000, n1 := 2, s2 := 0x20, n2 := 8 }
/-- RO. -/
def PMC_SMP_STATUS.HEAD : Fld := { base := 0x0E20004, lo := 8, w := 6, s1 := 0x10000000, n1 := 2, s2 := 0x20, n2 := 8 }
/-- WO, class L. -/
def PMC_SMP_POP.POP : Fld := { base := 0x0E20008, lo := 0, w := 1, s1 := 0x10000000, n1 := 2, s2 := 0x20, n2 := 8 }
/-- RO. -/
def PMC_SMP_LOST.COUNT : Fld := { base := 0x0E2000C, lo := 0, w := 32, s1 := 0x10000000, n1 := 2, s2 := 0x20, n2 := 8 }
/-- RO. -/
def PMC_SMP_W0.ENTRY : Fld := { base := 0x0E20010, lo := 0, w := 32, s1 := 0x10000000, n1 := 2, s2 := 0x20, n2 := 8 }
/-- RO. -/
def PMC_SMP_W1.ENTRY : Fld := { base := 0x0E20014, lo := 0, w := 32, s1 := 0x10000000, n1 := 2, s2 := 0x20, n2 := 8 }
/-- RO. -/
def PMC_SMP_W2.ENTRY : Fld := { base := 0x0E20018, lo := 0, w := 32, s1 := 0x10000000, n1 := 2, s2 := 0x20, n2 := 8 }
/-- RO. -/
def PMC_SMP_W3.ENTRY : Fld := { base := 0x0E2001C, lo := 0, w := 32, s1 := 0x10000000, n1 := 2, s2 := 0x20, n2 := 8 }
/-- RW, class L. -/
def PWR_CTL.EXIT_ON_FAULT : Fld := { base := 0x0F00000, lo := 1, w := 1, rst := 0x1 }
/-- RW, class L. -/
def PWR_CTL.DUSK_REQ : Fld := { base := 0x0F00000, lo := 0, w := 1 }
/-- RO. -/
def PWR_STATUS.FAIL_STEP : Fld := { base := 0x0F00004, lo := 12, w := 4 }
/-- RO. -/
def PWR_STATUS.DAWN_STEP : Fld := { base := 0x0F00004, lo := 8, w := 4 }
/-- W1C. -/
def PWR_STATUS.PMB_ERR : Fld := { base := 0x0F00004, lo := 6, w := 1 }
/-- W1C. -/
def PWR_STATUS.LOSS_HIGH : Fld := { base := 0x0F00004, lo := 5, w := 1 }
/-- RO. -/
def PWR_STATUS.ARMED : Fld := { base := 0x0F00004, lo := 4, w := 1 }
/-- RO. -/
def PWR_STATUS.VHV_RAMP : Fld := { base := 0x0F00004, lo := 3, w := 1 }
/-- RO. -/
def PWR_STATUS.VHV_GOOD : Fld := { base := 0x0F00004, lo := 2, w := 1 }
/-- RO. -/
def PWR_STATUS.DUSK : Fld := { base := 0x0F00004, lo := 1, w := 1 }
/-- W1C. -/
def PWR_STATUS.CFG_REJECT : Fld := { base := 0x0F00004, lo := 0, w := 1 }
/-- WO, class L. -/
def PWR_ARM.KEY : Fld := { base := 0x0F00008, lo := 16, w := 16 }
/-- WO, class L. -/
def PWR_ARM.OP : Fld := { base := 0x0F00008, lo := 0, w := 2 }
/-- RO. -/
def PWR_ARM_STATUS.REFUSED : Fld := { base := 0x0F0000C, lo := 0, w := 3 }
/-- RW, class F. -/
def PWR_VHV_SET.MV : Fld := { base := 0x0F00010, lo := 0, w := 14, rst := 0x2EE0 }
/-- RW, class L. -/
def PWR_VHV_RAMP.MS : Fld := { base := 0x0F00014, lo := 0, w := 7, rst := 0xA }
/-- RO. -/
def PWR_VHV_MEAS.MV : Fld := { base := 0x0F00018, lo := 0, w := 14 }
/-- RO. -/
def PWR_LOSS.MW : Fld := { base := 0x0F0001C, lo := 0, w := 17 }
/-- RW, class L. -/
def PWR_LOSS_CAP.MW : Fld := { base := 0x0F00020, lo := 0, w := 17, rst := 0x7D00 }
/-- RW, class L. -/
def PWR_VEC.VECTOR : Fld := { base := 0x0F00024, lo := 0, w := 8 }
/-- RO. -/
def PWR_DAWN_TIME.US : Fld := { base := 0x0F00028, lo := 0, w := 32 }
/-- RO. -/
def PWR_RESET_CAUSE.CAUSE : Fld := { base := 0x0F0002C, lo := 0, w := 2 }
/-- RO. -/
def PWR_CNT_RST.COUNT : Fld := { base := 0x0F00030, lo := 0, w := 32 }
/-- WO, class L. -/
def PWR_SEQ_CMD.KEY : Fld := { base := 0x0F00034, lo := 16, w := 16 }
/-- WO, class L. -/
def PWR_SEQ_CMD.SHUTDOWN : Fld := { base := 0x0F00034, lo := 0, w := 1 }
/-- W1C. -/
def PWR_PMB_STATUS.VALID : Fld := { base := 0x0F00038, lo := 31, w := 1 }
/-- RO. -/
def PWR_PMB_STATUS.CMD : Fld := { base := 0x0F00038, lo := 16, w := 8 }
/-- RO. -/
def PWR_PMB_STATUS.ADDR : Fld := { base := 0x0F00038, lo := 0, w := 7 }
/-- RO. -/
def PWR_CNT_DUSK.COUNT : Fld := { base := 0x0F0003C, lo := 0, w := 32 }
/-- RO. -/
def PWR_DAWN_STEP.US : Fld := { base := 0x0F00040, lo := 0, w := 32, s1 := 0x4, n1 := 10 }
/-- RO. -/
def PWR_RAIL.GOOD : Fld := { base := 0x0F00100, lo := 31, w := 1, s1 := 0x4, n1 := 8 }
/-- RO. -/
def PWR_RAIL.IOUT : Fld := { base := 0x0F00100, lo := 16, w := 15, s1 := 0x4, n1 := 8 }
/-- RO. -/
def PWR_RAIL.VOUT : Fld := { base := 0x0F00100, lo := 0, w := 16, s1 := 0x4, n1 := 8 }
/-- RO. -/
def PWR_CLK_GATED.GATED : Fld := { base := 0x0F00140, lo := 0, w := 22, s1 := 0x10000000, n1 := 2 }
/-- RO. -/
def PWR_CLK_LOCK.LOCK : Fld := { base := 0x0F00144, lo := 0, w := 22, s1 := 0x10000000, n1 := 2 }
/-- RO. -/
def PWR_CNT_WAKE.COUNT : Fld := { base := 0x0F00148, lo := 0, w := 32, s1 := 0x10000000, n1 := 2 }
/-- RW, class S. -/
def HPT_TQ_BASE_LO.BASE : Fld := { base := 0x0003000, lo := 12, w := 20, s1 := 0x40, n1 := 16 }
/-- RW, class S. -/
def HPT_TQ_BASE_HI.BASE : Fld := { base := 0x0003004, lo := 0, w := 32, s1 := 0x40, n1 := 16 }
/-- RW, class L. -/
def HPT_TQ_CFG.VECTOR : Fld := { base := 0x0003008, lo := 16, w := 8, s1 := 0x40, n1 := 16 }
/-- RW, class S. -/
def HPT_TQ_CFG.SIZE_LOG2 : Fld := { base := 0x0003008, lo := 4, w := 5, s1 := 0x40, n1 := 16, rst := 0x4 }
/-- RW, class L. -/
def HPT_TQ_CFG.ENABLE : Fld := { base := 0x0003008, lo := 0, w := 1, s1 := 0x40, n1 := 16 }
/-- RW, class L. -/
def HPT_TQ_COAL.COAL_TIME : Fld := { base := 0x000300C, lo := 8, w := 8, s1 := 0x40, n1 := 16 }
/-- RW, class L. -/
def HPT_TQ_COAL.COAL_COUNT : Fld := { base := 0x000300C, lo := 0, w := 8, s1 := 0x40, n1 := 16, rst := 0x1 }
/-- RO. -/
def HPT_TQ_TAIL.PHASE : Fld := { base := 0x0003010, lo := 16, w := 1, s1 := 0x40, n1 := 16, rst := 0x1 }
/-- RO. -/
def HPT_TQ_TAIL.TAIL : Fld := { base := 0x0003010, lo := 0, w := 16, s1 := 0x40, n1 := 16 }
/-- RO. -/
def HPT_TQ_HEAD.HEAD : Fld := { base := 0x0003014, lo := 0, w := 16, s1 := 0x40, n1 := 16 }
/-- RO. -/
def HPT_TQ_SEQ.SEQ : Fld := { base := 0x0003018, lo := 0, w := 32, s1 := 0x40, n1 := 16 }
/-- W1C. -/
def HPT_TQ_STATUS.DB_RANGE : Fld := { base := 0x000301C, lo := 1, w := 1, s1 := 0x40, n1 := 16 }
/-- RO. -/
def HPT_TQ_LOST.COUNT : Fld := { base := 0x0003020, lo := 0, w := 32, s1 := 0x40, n1 := 16 }
/-- RO. -/
def ORB_ORBIT_BASE_LO.BASE : Fld := { base := 0x0200804, lo := 0, w := 32 }
/-- RO. -/
def ORB_ORBIT_BASE_HI.BASE : Fld := { base := 0x0200808, lo := 0, w := 32 }
/-- RO. -/
def ORB_ORBIT_CYCLE.L : Fld := { base := 0x020080C, lo := 0, w := 25 }
/-- RO. -/
def ORB_ORBIT_CYCLES.COUNT : Fld := { base := 0x0200810, lo := 0, w := 32 }
/-- RO. -/
def ORB_CNT_LATE.COUNT : Fld := { base := 0x0200814, lo := 0, w := 32 }
/-- RO. -/
def ORB_CNT_SKIP.COUNT : Fld := { base := 0x0200818, lo := 0, w := 32 }
/-- RO. -/
def ORB_CNT_VFAIL.COUNT : Fld := { base := 0x020081C, lo := 0, w := 32 }
/-- RO. -/
def ORB_ORBIT_LATENESS.FRAMES : Fld := { base := 0x0200820, lo := 0, w := 25 }
/-- RO. -/
def SAF_LATCHED.BITS : Fld := { base := 0x0800200, lo := 0, w := 32, s1 := 0x4, n1 := 12 }
/-- RO. -/
def SAF_CAUSE.BITS : Fld := { base := 0x0800240, lo := 0, w := 32, s1 := 0x4, n1 := 12 }
/-- RO. -/
def SAF_PORT_ESC.BITS : Fld := { base := 0x0800400, lo := 0, w := 32, s1 := 0x4, n1 := 64 }

end Sys2Proof
end

