-- ==== Sys2Proof/Machine/State.lean ====
section
/-! DEFINITION. The state of the PL16K as plain data. `regs` holds every register field (Regs.lean) and `mem` the bytes
of the set-up tables, banks and slots; each block's structure holds what the block's chapter gives it beside its
registers: queues, work in progress and values that software cannot read. Numbers that the manual counts are natural
numbers; frames are Meridian frame numbers (assumption 2). -/
namespace Sys2Proof.Machine

/-! ### Host Port (chapter 2) -/

/-- A descriptor the Host Port has accepted (R56, R58): its number in the model, its submission ring, the header's
fields, the ticks of its acceptance and its 64 bytes. -/
structure Desc where
  id : Nat
  ring : Nat
  op : Nat
  flags : Nat
  tag : Nat
  acc : Nat
  bytes : List Byte
  /-- The completion ring of its submission ring at acceptance, and whether its completion is to be dropped (R48, R79). -/
  cq : Nat
  lost : Bool
  /-- The domain with whose rights it acts: that of its ring set at acceptance (R48). -/
  dom : Nat
  deriving DecidableEq, Repr

/-- A completion that is owed (R65): its completion ring and what it will hold. `flags` holds bits 3:0 of FLAGS. -/
structure Compl where
  cq : Nat
  sq : Nat
  tag : Nat
  status : Nat
  flags : Nat
  result : Nat
  acc : Nat
  exe : Nat
  irq : Bool
  /-- The SEQ a re-posted completion keeps (R71). -/
  repost : Option Nat
  deriving DecidableEq, Repr

/-- A completion written with the SEQ it took, kept for re-posting (R71). -/
structure Posted where
  seq : Nat
  c : Compl
  deriving DecidableEq, Repr

/-- A telemetry binding (R74): its number, the domain that created it, and where it sends what. -/
structure Binding where
  num : Nat
  dom : Nat
  tq : Nat
  type : Nat
  first : Nat
  count : Nat
  period : Nat
  deriving DecidableEq, Repr

/-- A telemetry record waiting to be written (R72): the number of the binding it comes from, its ring, type, source, stamp in
ticks and 48-byte payload. -/
structure TelRec where
  num : Nat
  tq : Nat
  type : Nat
  source : Nat
  stamp : Nat
  payload : List Byte
  deriving DecidableEq, Repr

/-- What a ring has written since it last signalled (R78): how many entries, and the frame of the oldest. -/
structure RingSig where
  count : Nat
  since : Nat
  deriving DecidableEq, Repr

/-- What the module puts out: host memory writes through a die's link, MSI-X signals (R77), and pulses on pins. -/
inductive Out where
  /-- A write of bytes to host memory; `relaxed` carries Relaxed Ordering (R39, R69). -/
  | host (die addr : Nat) (relaxed : Bool) (bytes : List Byte)
  /-- A read of host memory that a descriptor or a stream asks for (R53, R91, R283). -/
  | read (die addr len : Nat)
  /-- A signal of an MSI-X vector. -/
  | msix (die vec : Nat)
  /-- A frame sent on a timing port (R332). -/
  | frame (port : Nat) (bytes : List Byte)
  /-- A rise of PPS_OUT at a time in ticks, high for `ms` milliseconds (R335). -/
  | pps (ticks ms : Nat)
  /-- The value that a register read returns to its requester (R10). -/
  | reg (die addr value : Nat)
  /-- The value that a read of a doorbell page (2), of BAR4 (4) or of configuration space (0) returns (R40, R43, R50). -/
  | data (die space addr value : Nat)
  /-- A PMBus write to a rail (R465). -/
  | pmbus (rail cmd value : Nat)
  deriving DecidableEq, Repr

/-- The Host Port beside its registers. -/
structure Hpt where
  /-- The number the next accepted descriptor takes. -/
  nextId : Nat
  /-- Descriptor reads in flight: ring and descriptors asked for (R53). -/
  fetching : List (Nat × Nat)
  /-- Descriptors fetched and not yet accepted, by ring in ring order (R61). -/
  fetched : List (Nat × List Byte)
  /-- Descriptors accepted and still executing, oldest first (R54). -/
  accepted : List Desc
  /-- Completions decided and not yet written, oldest first (R70). -/
  owed : List Compl
  /-- The last completions written, newest first, at most 64 for each completion ring (R71). -/
  posted : List Posted
  /-- The telemetry bindings in use (R74). -/
  bindings : List Binding
  /-- Telemetry records formed and not yet written, oldest first (R72). -/
  telq : List TelRec
  /-- The last period of a binding, plus 1, in which a source was recorded, at 65,536 × binding + source (R213). -/
  period : List (Nat × Nat)
  /-- Telemetry rings that have dropped a record since they last wrote one (R76). -/
  tqLost : List (Nat × Nat)
  /-- Unsignalled entries by ring; telemetry ring t stands at 64 + t (R78). -/
  sig : List (Nat × RingSig)
  /-- The ring fetched last, of the urgent rings and of the others (R53). -/
  lastUrgent : Nat
  lastNormal : Nat
  /-- The shadows of R10: word w of requester r of die d stands at 16 × (3 d + r) + w. -/
  shadow : List (Nat × Nat)
  /-- The pending bit arrays (R43, R77): vector v of die d stands at 256 × d + v. -/
  pba : List (Nat × Nat)
  deriving DecidableEq, Repr

/-! ### Plan Engine (chapters 1 and 3) -/

/-- A stored or loading plan (R94): its id, first slot and bytes exactly as loaded. -/
structure Plan where
  id : Nat
  base : Nat
  bytes : List Byte
  /-- The energy cost J in µJ, computed at load (R120). -/
  energy : Nat
  deriving DecidableEq, Repr

/-- What the live image records for a channel (R84). -/
structure LiveEnt where
  target : Nat
  optical : Nat
  cls : Nat
  /-- KIND of the entry that set it (R90, R101). -/
  kind : Nat
  deriving DecidableEq, Repr

/-- A tone binding (R88): the element, whether it is a path tone, the tone, monitor and amplitude. -/
structure ToneBind where
  elem : Nat
  path : Bool
  tone : Nat
  mon : Nat
  amp : Nat
  deriving DecidableEq, Repr

/-- Where a commit comes from (R112). -/
inductive Origin where
  /-- A PLAN_COMMIT descriptor. -/
  | host (desc : Nat)
  /-- Entry `e` of the active Orbit list. -/
  | orbit (entry : Nat)
  /-- The first commit of an ORBIT_START (R132), made at once. -/
  | join
  /-- The SAFETY re-application (R373). -/
  | reapply
  /-- A calibration move: a point of a CURVE_SWEEP (R314). -/
  | sweep
  deriving DecidableEq, Repr

/-- A request in the Transition Scheduler's queues (R114, R115). `time` is the requested time in ticks, `creq` its
frame, `acc` and `seq` the frame and order of acceptance, `tcost` and `jcost` the costs of R120. `settle` 0 takes the
plan header's value. `moves` lists the channels and targets of a calibration move. -/
structure Req where
  cls : Nat
  src : Nat
  origin : Origin
  plan : Nat
  fb : Option Nat
  settle : Nat
  time : Option Nat
  creq : Nat
  prep : Nat
  strict : Bool
  acc : Nat
  seq : Nat
  tcost : Nat
  jcost : Nat
  moves : List (Nat × Nat)
  /-- Of an Orbit request, the start frame of the entry after it (R129). -/
  until_ : Nat
  deriving DecidableEq, Repr

/-- The NEXT and FALLBACK writes and flags of one channel of a commit (R101). -/
structure Stage where
  ch : Nat
  next : Option Nat
  fb : Option Nat
  arm : Bool
  keep : Bool
  /-- KIND of the entry that names the channel (R90) and its PARAM and TARGET. -/
  kind : Nat
  param : Nat
  target : Nat
  deriving DecidableEq, Repr

/-- A staging write that a tile has taken (R381): the frame in which it arrived, the write, what the channel's entry of the
commit was before it, and its NEXT, FALLBACK, ARM and KEEP then. -/
structure Took where
  arrived : Nat
  w : Stage
  old : Stage
  next : Nat
  fb : Nat
  arm : Nat
  keep : Nat
  deriving DecidableEq, Repr

/-- A dither setting (R150, R152). -/
structure DitherSet where
  dmode : Nat
  tone : Nat
  amp : Nat
  inc : Nat
  phase0 : Nat
  deriving DecidableEq, Repr

/-- The dither settings staged for a channel by the commit in progress (R152). -/
structure DitherStage where
  ch : Nat
  next : Option DitherSet
  fb : Option DitherSet
  deriving DecidableEq, Repr

/-- A dither setting that a tile has staged (R381): the frame in which it arrived, the setting (its channel, whether it is the
fallback setting, its value) and the channel's staged settings before it. -/
structure DitherTook where
  arrived : Nat
  w : Nat × Bool × DitherSet
  old : DitherStage
  deriving DecidableEq, Repr

/-- How far the commit cycle in progress has come (R103). -/
inductive Phase where
  | checked | staged | swapped | dwelt | sampled | decided
  deriving DecidableEq, Repr

/-- The commit cycle in progress (R99, R103). -/
structure Cycle where
  req : Req
  phase : Phase
  prep : Nat
  c : Nat
  /-- MAKEBB_DWELL frames when the plan holds a MAKEBB entry. -/
  dwell : Option Nat
  settle : Nat
  v : Nat
  /-- Lateness in ticks, of a late commit (R99). -/
  late : Option Nat
  /-- The writes and flags that have reached the tiles, and the writes still to be sent, each a NEXT or a FALLBACK write
  (R102). -/
  stage : List Stage
  todo : List Stage
  /-- The dither settings still to be sent: channel, whether it is the fallback setting, and the setting (R152). -/
  dtodo : List (Nat × Bool × DitherSet)
  /-- Frames of staging sent. -/
  sent : Nat
  /-- The staging that the tiles have taken, newest first, and the staging that frozen tiles will take when they resume, oldest
  first (R381, R383). -/
  took : List Took
  dtook : List DitherTook
  kept : List Stage
  dkept : List (Nat × Bool × DitherSet)
  /-- Blocks of R38 that the swap released. -/
  released : List (Nat × Nat)
  /-- The generators allocated to the plan's PROFILE and PREEMPH entries: channel and number (R268). -/
  gens : List (Nat × Nat)
  /-- The channels whose generator's first write has been sent before C, with the start code x0 (R267, R273). -/
  early : List (Nat × Nat)
  /-- The live image at frame C, the fallback state before the fallback plan's overlay (R100). -/
  before : List (Nat × LiveEnt)
  /-- Corrected codes sampled at V by monitor, plus 1; 0 for a monitor that R105 skips. -/
  codes : List (Nat × Nat)
  evaluated : Nat
  failed : Nat
  /-- A tile-loss fault fell in the cycle after C (R108). -/
  tileLost : Bool
  /-- Global Eclipse fell in the cycle after C (R108). -/
  eclipsed : Bool
  /-- ARM was not given at C (R108). -/
  unarmed : Bool
  deriving DecidableEq, Repr

/-- The Plan Engine beside its registers. -/
structure Pln where
  plans : List Plan
  /-- Loads accepted whose data is awaited, in acceptance order (R93). -/
  loads : List Nat
  /-- The load that has passed step 6 and whose later checks are still to come, with its bytes (R92). -/
  loading : Option (Nat × List Byte)
  live : List (Nat × LiveEnt)
  tones : List ToneBind
  cycle : Option Cycle
  /-- A write of ENABLE that waits for the cycle's end (R111). -/
  enablePending : Option Bool
  /-- The crossing sets in force, and those being recomputed (R26): egress ports by tile. -/
  crossing : List (Nat × List Nat)
  crossingOld : List (Nat × List Nat)
  /-- The frame by which the recomputed sets are complete, while they are not. -/
  crossingDue : Option Nat
  /-- A table has changed since the validation in progress began (R34). -/
  touched : Bool
  /-- Gate channels blocked for a lost tile, by the tile lost (R38). -/
  lostBlocks : List (Nat × Nat)
  deriving DecidableEq, Repr

/-! ### Transition Scheduler (chapter 4) -/

/-- An Orbit entry (R127). -/
structure OrbitEnt where
  plan : Nat
  hold : Bool
  dur : Nat
  deriving DecidableEq, Repr

/-- An accepted ORBIT_START whose completion is owed (R132): its descriptor, the request number from which its list's
requests count, and whether it joins a list whose base is past or fixes its base at admission. -/
structure OrbitStart where
  desc : Nat
  seq : Nat
  now : Bool
  join : Bool
  /-- B or J, once known. -/
  at_ : Option Nat
  /-- No entry of the list commits: the completion comes when the list starts to run. -/
  idle : Bool
  deriving DecidableEq, Repr

/-- A pending ORBIT_STOP (R133): its descriptor, mode and frame of acceptance. -/
structure OrbitStop where
  desc : Nat
  mode : Nat
  acc : Nat
  deriving DecidableEq, Repr

/-- The Transition Scheduler beside its registers. -/
structure Orb where
  reqs : List Req
  nextSeq : Nat
  /-- Virtual time of queue q (R118). -/
  vtime : List (Nat × Nat)
  /-- Bucket levels in 1/20,000 units: class buckets 1 to 7, 8 global transition, 9 global energy (R121). -/
  level : List (Nat × Int)
  /-- The frame up to which the levels have gained. -/
  levelAt : Nat
  /-- Interval figures of the queue samples (R125): figure k of queue q at 16 q + k. -/
  stats : List (Nat × Nat)
  active : List OrbitEnt
  shadow : List OrbitEnt
  /-- B of the active list, once fixed. -/
  base : Option Nat
  start : Option OrbitStart
  /-- The descriptor of the ORBIT_LOAD whose swap is pending, and the frame of its acceptance. -/
  swap : Option (Nat × Nat)
  stop : Option OrbitStop
  /-- Boundaries before this frame have had their prep frames settled (R128), and those before the next have passed. -/
  settled : Nat
  entered : Nat
  /-- The next entry's commit is the one with which the list starts or joins (R132). -/
  fresh : Bool
  /-- The frame of a key erasure that ends the running list at an entry boundary (R440). -/
  erased : Option Nat
  deriving DecidableEq, Repr

/-! ### Drive tiles (chapter 5) -/

/-- A code write in a loop output slot (rank 4) or a profile and stimulus slot (rank 3), R145, R146. -/
structure CodeWrite where
  ch : Nat
  code : Nat
  apply : Nat
  rank : Nat
  die : Nat
  /-- The frame, plus 1, at which the tile took it, 0 before. -/
  taken : Nat
  deriving DecidableEq, Repr

/-- The drive tiles beside their registers. Sparse lists are keyed by module-wide channel, or by tile. -/
structure Drv where
  /-- The Plan Engine has been enabled since the Dawn (R140). -/
  loaded : Bool
  /-- Writes the dies have sent that no slot has carried yet, oldest first (R144). -/
  down : List CodeWrite
  /-- The update queues of the tiles (R145). -/
  queue : List CodeWrite
  /-- Dither settings staged for the commit in progress (R152). -/
  dither : List DitherStage
  /-- NCO accumulators, at 2 × channel, and the frames, plus 1, to which they belong, at 2 × channel + 1 (R151). -/
  acc : List (Nat × Nat)
  /-- The last frame, plus 1, whose applied codes a tile has formed (R142). -/
  formed : List (Nat × Nat)
  /-- Frames, plus 1, at which BLOCK_CODE was first applied for a latched trip, by gate channel (R160). -/
  trippedAt : List (Nat × Nat)
  /-- Channels whose last output check visit found a difference (R162). -/
  checkBad : List (Nat × Nat)
  /-- Frames, plus 1, at which the applied code last changed, by channel (R162). -/
  changedAt : List (Nat × Nat)
  /-- Frames at which a CHANGE period ends, by channel (R141). -/
  changeDue : List (Nat × Nat)
  /-- Frames at which a retest ends, by channel (R164). -/
  retestDue : List (Nat × Nat)
  /-- Frames, plus 1, of the last valid downstream frame, at 2 × tile + die (R148). -/
  lastValid : List (Nat × Nat)
  /-- The last frame, plus 1, of a tile's Twilight window (R147). -/
  twilightEnd : List (Nat × Nat)
  /-- The last code, plus 1, a die delivered for a channel, at 2 × channel + die (R147). -/
  delivered : List (Nat × Nat)
  /-- The stream frame, plus 1, at which a tile froze (R381). -/
  frozenAt : List (Nat × Nat)
  /-- The channels that elements were bound to when the Plan Engine was last enabled (R141). -/
  bound : List Nat
  /-- Frames, plus 1, at which a write of rank 3 or 4 last reached a channel's LIVE (R146). -/
  lowAt : List (Nat × Nat)
  /-- The codes, plus 1, at the DACs that drive a pad: of a channel's own output stage, and, at 16,384 + group, of a spare
  (R142 step 6). An output that is open has none. -/
  pads : List (Nat × Nat)
  /-- Frames, plus 1, at which a spare began to hand its channel back after a retest (R164). -/
  backAt : List (Nat × Nat)
  /-- Frames, plus 1, since which a tile's fold-back counter counts (R153). -/
  foldAt : List (Nat × Nat)
  /-- Frames, plus 1, of a channel's last output check visit (R162). -/
  visitAt : List (Nat × Nat)
  /-- Tiles whose source ORPHANED has been cleared and whose ORPH bits wait for the re-application (R148). -/
  orphClear : List Nat
  deriving DecidableEq, Repr

/-! ### Monitor samples (chapter 6) -/

/-- What the fast path gives for one monitor: the corrected code, its flags (bit 0 OVR, bit 1 UNDER, bit 2 SETTLING)
and the demodulator value u (R172, R173). -/
structure FastVal where
  code : Nat
  flags : Nat
  u : Int
  deriving DecidableEq, Repr

/-- One fast-sample frame (R171): its values by monitor, the tiles whose samples are absent, and the tiles whose
samples the ring did not deliver (R198). -/
structure Sample where
  frame : Nat
  vals : List (Nat × FastVal)
  absent : List Nat
  ring : List Nat
  deriving DecidableEq, Repr

/-- A fine-path block in progress (R177, R178): the slot results taken so far, whether a trigger started it, and whether
any of them was converted after a failed reference check. -/
structure FineBlock where
  mon : Nat
  /-- The ODR it runs under, the slot results it needs (0 for a triggered block whose first slot has not begun), and the frame
  its trigger came, for a triggered block. -/
  odr : Nat
  need : Nat
  after : Nat
  vals : List Int
  triggered : Bool
  suspect : Bool
  ovr : Bool
  deriving DecidableEq, Repr

/-- A system calibration step in progress or latched (R184, R186): its tile, input, range and step, REF at its start, the
frame it started and the first frame of the first slot it takes, and the slot results and raw fast codes it has taken. -/
structure SysCal where
  tile : Nat
  input : Nat
  range : Nat
  step : Nat
  ref : Nat
  start : Nat
  since : Nat
  slots : List Int
  sum : Nat
  count : Nat
  deriving DecidableEq, Repr

/-- A capture bank that fills (R187, R188): its bank, the class F settings it fills under, the samples kept, newest first
and by frame, and the trigger sample's ticks and the frames still to record, once triggered. -/
structure Filling where
  tile : Nat
  bank : Nat
  inputs : List Nat
  decim : Nat
  pre : Nat
  skip : Nat
  kept : List (List Nat)
  /-- The trigger has come, and the frame at which it reached the tile: the next kept sample from then on is the trigger
  sample. -/
  hit : Bool
  hitAt : Nat
  trig : Option Nat
  left : Nat
  deriving DecidableEq, Repr

/-- The monitor readout beside its registers. Lists are keyed by monitor, by modulator (16 × tile + number) or by tile. -/
structure Mon where
  /-- Samples still to carry SETTLING (R169). -/
  settle : List (Nat × Nat)
  /-- Frames, plus 1, of the last range change (R169, R178). -/
  rangeAt : List (Nat × Nat)
  blocks : List FineBlock
  /-- Frames, plus 1, of the last slot end of a modulator, and 1 for a modulator that has idled since its scan start
  (R174, R193). -/
  slotAt : List (Nat × Nat)
  idle : List (Nat × Nat)
  /-- The last zero-slot result of a modulator, as a 24-bit two's complement number (R176). -/
  zero : List (Nat × Nat)
  cal : List SysCal
  calNext : List SysCal
  /-- The input and range, as 4 × input + range + 1, of a tile's dark step and reference step that succeeded (R185). -/
  darkOk : List (Nat × Nat)
  refOk : List (Nat × Nat)
  fill : List Filling
  /-- The frame, plus 1, of a time trigger (R190), and triggers that wait (R189), by tile. -/
  capTime : List (Nat × Nat)
  /-- Frames, plus 1, from which a condition of R159 other than the trip has held on a guard monitor's gate (R182). -/
  condSince : List (Nat × Nat)
  /-- Frames, plus 1, at which the arming delay that runs for a guard monitor ends (R182). -/
  armAt : List (Nat × Nat)
  /-- Frames, plus 1, from which a LOSS comparator has been asserted and armed (R183). -/
  lossAt : List (Nat × Nat)
  /-- The replica currents of the monitors in units of 10 nA, plus 1, as last seen (R181). -/
  replica : List (Nat × Nat)
  /-- Sum, count, least and greatest corrected fast code since a monitor's block began (R191). -/
  span : List (Nat × (Nat × Nat × Nat × Nat))
  deriving DecidableEq, Repr

/-! ### Tone Demodulator (chapter 7) -/

/-- A binding that a context had before a frame (R203): its monitor and tone, none where it had no binding. -/
structure BindHist where
  ctx : Nat
  until_ : Nat
  mon : Option (Nat × Nat)
  deriving DecidableEq, Repr

/-- The Tone Demodulator beside its registers and the tone context table. Lists are keyed by monitor or by context. -/
structure Ton where
  /-- The foreign lists (R207). -/
  foreign : List (Nat × List Nat)
  /-- Frames, plus 1, at which a monitor's expectation was set (R207). -/
  since : List (Nat × Nat)
  /-- The bindings that contexts had before they last changed, newest first (R203). -/
  hist : List BindHist
  /-- Consecutive failing windows, loss and foreign (R208). -/
  failL : List (Nat × Nat)
  failF : List (Nat × Nat)
  /-- 1 for a monitor whose latest evaluated window failed loss, and foreign (R210). -/
  lastL : List (Nat × Nat)
  lastF : List (Nat × Nat)
  /-- Frames, plus 1, at which a suspension was last in force (R209). -/
  suspended : List (Nat × Nat)
  /-- The frame from which windows may begin after a step of time (R203). -/
  epoch : Nat
  /-- Values that class F fields had before a frame (R212, R214), newest first: ROT_TRIM + 256 × STRIDE of a context, and
  ROT of a tone, each as key, frame and value. -/
  trims : List (Nat × Nat × Nat)
  rots : List (Nat × Nat × Nat)
  /-- The last window ends, plus 1, at which path contexts and element contexts published. -/
  donePath : Nat
  doneElem : Nat
  deriving DecidableEq, Repr

/-! ### Loop Array (chapters 8 and 9) -/

/-- What the image says of a channel's identity (R249): its class, its element with MODE and ZONE, and the monitor of the
element's tone binding. -/
structure Ident where
  cls : Nat
  elem : Option Nat
  current : Bool
  zone : Nat
  mon : Option Nat
  deriving DecidableEq, Repr

/-- The input image of a class (R219), as values by monitor, context, sensor, tile or channel. -/
structure Image where
  frame : Nat
  fast : List (Nat × FastVal)
  tone : List (Nat × (Nat × Nat × Nat))
  fine : List (Nat × Nat)
  temp : List (Nat × Nat)
  ivhv : List (Nat × Nat)
  factor : List (Nat × Nat)
  target : List (Nat × Nat)
  pred : List (Nat × Nat)
  out : List (Nat × Nat)
  ident : List (Nat × Ident)
  deriving DecidableEq, Repr

/-- A queued job (R224): the die and core whose queue holds it, its context, class, phase-0 frame and WCET, and
whether the core's prefetch buffer holds its program and context (R428), whether it was stolen (R225): 0 no, 1 within
the cluster, 2 from another cluster, and K0 to K7 as they stood at its release (R245). -/
structure Job where
  die : Nat
  core : Nat
  ctx : Nat
  cls : Nat
  s : Nat
  wcet : Nat
  filled : Bool
  stolen : Nat
  k : List Nat
  deriving DecidableEq, Repr

/-- A running job (R245): the instruction index, value registers V1 to V15, predicates P1 to P3, the context words
it has written, candidate, DONE, SAT, cycles used, the cycle counter it has snapshot (R255), and whether its words and counts
have been committed (R220). -/
structure Run where
  job : Job
  pc : Nat
  v : List Int
  p : List Bool
  k : List (Nat × Nat)
  cand : Option Nat
  done : Bool
  sat : Bool
  cycles : Nat
  snap : Option Nat
  fin : Bool
  deriving DecidableEq, Repr

/-- A combined output not yet sent (R221). -/
structure OutWrite where
  ch : Nat
  code : Nat
  apply : Nat
  cls : Nat
  deriving DecidableEq, Repr

/-- A change of a channel's class that waits for a phase 0 of the class (R222), or a resumption (R104). -/
structure ClassWait where
  ch : Nat
  cls : Nat
  after : Nat
  deriving DecidableEq, Repr

/-- The Loop Array beside its registers, the loop context table and the program store. -/
structure Lpa where
  jobs : List Job
  runs : List Run
  /-- Jobs that have ended and whose candidates wait for S + P (R220); a job that a fault stopped (R232) stands here with
  pc 0xFFFF and publishes nothing. -/
  ended : List Run
  outs : List OutWrite
  images : List (Nat × Image)
  /-- Channels that resume at the first phase 0 of a class after a frame, and fixed contexts likewise (R104, R229). -/
  resume : List ClassWait
  resumeCtx : List (Nat × Nat)
  changes : List ClassWait
  /-- Periods a channel has run in its class since entering it (R222), and the phase-0 frame, plus 1, at which it entered
  the class or resumed. -/
  ran : List (Nat × Nat)
  since : List (Nat × Nat)
  /-- 1 for a class at whose last phase 0 ENABLE was 1 (R229). -/
  on : List (Nat × Nat)
  swait : List Nat
  twait : List Nat
  /-- The frame, plus 1, of the event that put a channel on a wait list (R223). -/
  waitAt : List (Nat × Nat)
  /-- Contexts skipped (R227), with the frame S + P of the period. -/
  skipped : List (Nat × Nat)
  /-- Contexts that have been published and whose LOOP_STATE record is due after the combine, with the class of the job
  (R241). -/
  pubs : List (Nat × Nat)
  /-- Contexts activated that wait for the first phase 0 of their class after a frame (R237). -/
  begun : List (Nat × Nat)
  /-- Context words, plus 1, of probe contexts on die B where they may differ from those of die A, which the context table
  holds: word k of context x at 8 x + k (R256). -/
  probeK : List (Nat × Nat)
  /-- Channels whose next combine is the first after activation or resumption (R228). -/
  fresh : List Nat
  /-- Host values, plus 1, that wait: word k of context x at 8 x + k (R236); field f of slot 0 of a channel at
  4 × channel + f, with STEP_MAX, DEV_MAX and PQUAL as 0, 1 and 2. -/
  hostK : List (Nat × Nat)
  hostP : List (Nat × Nat)
  /-- The class a channel held at Dusk entry, plus 1 (R222). -/
  duskFrom : List (Nat × Nat)
  /-- Cycles and core of a context's last completed job (R241). -/
  last : List (Nat × (Nat × Nat))
  /-- The program command that runs, and the one latched: OP and PROG (R264). -/
  cmd : Option (Nat × Nat)
  cmdNext : Option (Nat × Nat)
  deriving DecidableEq, Repr

/-! ### Performance counters (chapter 18) -/

/-- A sample taken and not yet stored (R454): its die, core, context, the ticks of its frame and its 16 bytes. -/
structure Smp where
  die : Nat
  core : Nat
  ctx : Nat
  stamp : Nat
  entry : List Byte
  deriving DecidableEq, Repr

/-- The performance counters beside their registers. Lists are keyed by 64 × die + core, or by 8 × die + cluster. -/
structure Pmc where
  /-- The frame, plus 1, from which a core's cycles count, and the cycles before it (R449). -/
  since : List (Nat × Nat)
  base : List (Nat × Nat)
  /-- The frame, plus 1, up to which the time-driven events are counted, and the job cycles since. -/
  at_ : List (Nat × Nat)
  job : List (Nat × Nat)
  /-- The class of the last counted cycle, plus 1, for EDGE. -/
  cls : List (Nat × Nat)
  /-- Counters that have wrapped and whose overflow has not been taken: die, core and counter (R452). -/
  wrapped : List (Nat × Nat × Nat)
  /-- Interval counts, and KIND + 4 × INTERVAL in force, plus 1 (R454). -/
  count : List (Nat × Nat)
  cfg : List (Nat × Nat)
  due : List Smp
  /-- COUNTER_SNAP descriptors that wait for their capture frame (R460), with that frame. -/
  snaps : List (Nat × Nat)
  deriving DecidableEq, Repr

/-! ### Profile and Stimulus Unit (chapter 10) -/

/-- A busy profile generator (R270 to R274): its number and channel, the start code, the overdrive code and hold of
R272, the goal, the limit set captured, the frame of its next update, the updates done, and the class of the entry. -/
structure Gen where
  num : Nat
  ch : Nat
  x0 : Nat
  peak : Nat
  hold : Nat
  goal : Nat
  lset : Nat
  vmax : Nat
  na : Nat
  nj : Nat
  f0 : Nat
  u : Nat
  cls : Nat
  deriving DecidableEq, Repr

/-- A segment's values as a pass runs under them (R278). -/
structure Seg where
  stream : Bool
  interp : Bool
  wait : Bool
  next : Nat
  repeats : Nat
  start : Nat
  length : Nat
  rate : Nat
  deriving DecidableEq, Repr

/-- The shadow position of an under-run (R285): the segment, the passes of it that have ended, the position, the segment's values,
INC, the frames since the pass started, whether the pass waits for a trigger, and whether the chain has ended. -/
structure Shadow where
  seg : Nat
  pass : Nat
  pos : Nat
  segv : Seg
  inc : Nat
  frames : Nat
  waiting : Bool
  ended : Bool
  deriving DecidableEq, Repr

/-- An open stimulus player (R276 to R290). -/
structure Player where
  num : Nat
  desc : Nat
  ch : Nat
  /-- The start frame, whether the stream has started, and the frame of its next output. -/
  start : Nat
  started : Bool
  next : Nat
  /-- Lateness in ticks of a late start (R66). -/
  late : Option Nat
  timelock : Bool
  baseTgt : Bool
  base : Nat
  scale : Nat
  dev : Nat
  resume : Nat
  ring : Nat
  ringLog2 : Nat
  tailAddr : Nat
  headAddr : Nat
  seg : Nat
  segv : Seg
  pass : Nat
  /-- Position: sample index × 2^24 + fraction (R280). -/
  pos : Nat
  inc : Nat
  /-- INC and COHERENT of a rate write that takes effect at the next frame (R281). -/
  rate : Option (Nat × Bool)
  /-- Frames since the pass started (R281). -/
  passFrames : Nat
  waiting : Bool
  /-- The trigger has come that starts the waiting pass: the output frame, plus 1, from which it acts (R279). -/
  go : Nat
  /-- The segment of a pending jump, and the sample index at its request (R282). -/
  jump : Option (Nat × Nat)
  /-- Stream samples held, the oldest first; those consumed, and the bytes fetched (R283). -/
  buf : List Nat
  /-- Stream samples of the pass that have been played, the latest first (R281). -/
  back : List Nat
  consumed : Nat
  fetched : Nat
  /-- Bytes asked for by a fetch in flight, and the frame from which a fetch may be issued. -/
  asked : Option Nat
  fetchAt : Nat
  starved : Bool
  shadow : Shadow
  /-- Stream samples that the shadow has passed and that have not arrived (R285). -/
  owed : Nat
  code : Nat
  /-- The mode of a pending close and the sample index at its request, and the descriptors that close it (R289). -/
  closing : Option (Nat × Nat)
  closers : List Nat
  /-- The stream is to stop at its next frame (R288, R289). -/
  stopDue : Bool
  deriving DecidableEq, Repr

/-- The Profile and Stimulus Unit beside its registers and tables. -/
structure Prf where
  gens : List Gen
  players : List Player
  deriving DecidableEq, Repr

/-! ### Calibration (chapter 11) -/

/-- A CURVE_SWEEP in progress (R314): its descriptor, element and channel, monitor, points, dwell and host address, the
point in hand, its commit frame once swapped, and whether only the final re-application is left. -/
structure Sweep where
  desc : Nat
  elem : Nat
  ch : Nat
  mon : Nat
  count : Nat
  dwell : Nat
  addr : Nat
  k : Nat
  c : Option Nat
  final : Bool
  deriving DecidableEq, Repr

/-- A channel measurement in progress (R299 to R302): its unit (a channel, or 16,384 + a spare), its group over the
module, its first frame and length, and whether it stands behind a takeover. -/
structure Meas where
  unit : Nat
  group : Nat
  start : Nat
  len : Nat
  behind : Bool
  deriving DecidableEq, Repr

/-- A zone's pass that runs (R297, R298): the units still to measure or skip, and those measured and skipped. -/
structure Pass where
  zone : Nat
  /-- The CAL_RUN that runs waits for this pass. -/
  forRun : Bool
  left : List Nat
  made : Nat
  skipped : Nat
  deriving DecidableEq, Repr

/-- The CAL_RUN descriptor that runs (R311): the zones whose passes it waits for, the units it waits for, those measured
and skipped, and the records still to be written, with those written. -/
structure CalRun where
  desc : Nat
  zones : List Nat
  left : List Nat
  made : Nat
  skipped : Nat
  writes : Nat
  written : Nat
  failed : Bool
  deriving DecidableEq, Repr

/-- A record that waits to be appended to the log (R308), and whether an IMPORT brought it. -/
structure LogRec where
  bytes : List Byte
  imported : Bool
  deriving DecidableEq, Repr

/-- The Calibration Manager beside its registers and the Almanac. -/
structure Cal where
  sweep : Option Sweep
  /-- ENABLE has been set since the Dawn (R297). -/
  enabled : Bool
  /-- Frames, plus 1, at which zones became due whose pass has not started. -/
  zoneAt : List (Nat × Nat)
  /-- Due units and the frames, plus 1, at which they became due (R302). -/
  due : List (Nat × Nat)
  /-- Units skipped that are due again when they next enter DRIVE or REST (R301). -/
  later : List Nat
  meas : List Meas
  passes : List Pass
  run : Option CalRun
  toLog : List LogRec
  /-- The trims and cells of a unit's record in force: OFF_TRIM + 256 × GAIN_TRIM + 65,536 × CELLSEL; AXMODE decides which
  of them act (R299, R300). -/
  trims : List (Nat × Nat)
  /-- The latest valid reading of a sensor, as a 16-bit number plus 1 (R297). -/
  lastTemp : List (Nat × Nat)
  /-- The lowest and highest reading of a sensor, each raised by 32,768, in a binding's period: binding number × 128 +
  sensor (R316). -/
  span : List (Nat × (Nat × Nat))
  deriving DecidableEq, Repr

/-- A firmware slot of a flash die (R442, R443): its image passes every check but that of the version, its VERSION and
the DIGEST of its body. -/
structure FwSlot where
  sound : Bool
  version : Nat
  digest : Nat
  deriving DecidableEq, Repr

/-- The two flash dies (R308, R442). Keys are die × 2^24 + place: a log record at 0 up, a spare log record at 2^20 up, an
element's curve at 2^21 up, and the saved coefficient fields at 2^22. -/
structure Flash where
  cells : List (Nat × List Byte)
  /-- The head of a die's log and of its spare log, in records, and the log's completed traversals (R308): the flash keeps
  them. -/
  head : List (Nat × Nat)
  spareHead : List (Nat × Nat)
  wear : List (Nat × Nat)
  /-- Monitor coefficient fields saved by die: the register file's entries. -/
  coefs : List (Nat × List (Nat × Nat))
  /-- Firmware slots, at 2 × die + slot. -/
  fw : List (Nat × FwSlot)
  deriving DecidableEq, Repr

/-! ### Meridian time (chapter 12) -/

/-- An armed step in ticks, or an armed set to seconds and nanoseconds (R322). -/
inductive Armed where
  | step (ticks : Int)
  | set (sec ns : Nat)
  deriving DecidableEq, Repr

/-- A transmit slot queued (R332): its port, slot, length and mode. -/
structure TxCmd where
  port : Nat
  slot : Nat
  len : Nat
  mode : Nat
  deriving DecidableEq, Repr

/-- The Meridian Time Unit beside its registers and slots. -/
structure Mer where
  /-- MER_INCR in force (R320). -/
  incr : Nat
  /-- The armed step or set and the frame of its arming write. -/
  arm : Option (Armed × Nat)
  /-- The frame at which the slew in progress began (R321). -/
  slewAt : Nat
  /-- The frame from which the holdover interval counts (R324). -/
  servoAt : Nat
  /-- Transmit slots queued, in command order (R332). -/
  txq : List TxCmd
  /-- Frames from which a port's Sync interval counts, plus 1 (R334). -/
  syncAt : List (Nat × Nat)
  /-- Stamps of PPS_IN, oldest first (R337), and the last recorded. -/
  pps : List Stamp
  lastPps : Option Stamp
  /-- The second of the next PPS_OUT pulse, plus 1 (R335). -/
  ppsNext : Nat
  /-- The last pulse of PPS_OUT since it was enabled: the frame in which it rose and the frame in which it falls (R335). -/
  ppsHigh : Option (Nat × Nat)
  /-- The frame of the first rising edge of CLK10_OUT since it was enabled, and the frame from which it is held low (R336). -/
  clkFrom : Option Nat
  clkTo : Option Nat
  deriving DecidableEq, Repr

/-! ### Security (chapter 17) -/

/-- The Security Unit beside its registers: the keys by slot (R435), the frame, plus 1, of the last key command, the nonce
that stands, whose spending removes it (R446), the version and digest of an image being written with the result of its checks
(R444), the raises of MINVER made, and the frame, plus 1, at which an alarm last began an erasure (R439). -/
structure Sec where
  keys : List (Nat × List Byte)
  keyAt : Nat
  nonce : Option Nat
  fwWrite : Option (Nat × Nat × Nat)
  raises : Nat
  eraseAt : Nat
  deriving DecidableEq, Repr

/-! ### Safety Supervisor (chapter 13) -/

/-- An occurrence detected and not yet taken by the Safety Supervisors (R354): the source, its INFO, the die that
detected it, the frame of the detection, and 0 for a real one, 1 for an injection to be recorded, 2 for one that
reacts. -/
structure Occ where
  source : Nat
  info : Nat
  die : Nat
  at_ : Nat
  inj : Nat
  deriving DecidableEq, Repr

/-- A latched source (R354, R355): whether a real occurrence latched it, the SEQ of its entry, and what it holds: global Eclipse,
the fault pair, and ports. -/
structure Latch where
  source : Nat
  real : Bool
  seq : Nat
  globe : Bool
  pair : Bool
  ports : List Nat
  deriving DecidableEq, Repr

/-- A history entry as four words (R359). -/
structure HistEnt where
  w0 : Nat
  ticks : Nat
  seq : Nat
  deriving DecidableEq, Repr

/-- A consequence window (R363): its first and last frames, the severity of the occurrence that opened it, and its reach.
-/
structure Conseq where
  first : Nat
  last : Nat
  severity : Nat
  reach : List Nat
  deriving DecidableEq, Repr

/-- A clearing whose completion waits for the re-application (R372): its descriptor, the sources cleared, and the
number of the re-application's request. -/
structure ClearWait where
  desc : Nat
  count : Nat
  seq : Nat
  deriving DecidableEq, Repr

/-- The Safety Supervisor beside its registers and the fault source table. -/
structure Saf where
  raised : List Occ
  latches : List Latch
  hist : List HistEnt
  windows : List Conseq
  clears : List ClearWait
  /-- Block resets in progress: their sources and the frames at which they end (R352). -/
  resets : List (Nat × Nat)
  /-- The active die has not refreshed the fault pair's driver (R368). -/
  stale : Bool
  /-- The frame, plus 1, in which a source's cause was last injected (R361). -/
  injAt : List (Nat × Nat)
  deriving DecidableEq, Repr

/-! ### Lockstep (chapter 14) -/

/-- A pending SWITCH, RESYNC or KEEP (R395): its descriptor, or none for LKS_CMD, and the frame X or the die. -/
structure LksOp where
  op : Nat
  desc : Option Nat
  arg : Nat
  deriving DecidableEq, Repr

/-- The Lockstep Supervisor beside its registers. -/
structure Lks where
  pending : Option LksOp
  /-- The frame and tile of the mismatch to be resolved, and the dies that failed since (R383). -/
  mismatch : Option (Nat × Nat)
  failed : List Nat
  /-- The last frame, plus 1, in which an observing die missed the other's heartbeat (R385). -/
  missAt : List (Nat × Nat)
  /-- The last frame, plus 1, in which a die received no valid frame of a tile, or a fatal report, at 2 × tile + die (R349).
  -/
  upBad : List (Nat × Nat)
  /-- Consecutive upstream frames a die has missed of a tile, at 2 × tile + die (R349). -/
  upMiss : List (Nat × Nat)
  deriving DecidableEq, Repr

/-! ### Memory integrity (chapter 15) -/

/-- A corrected word that a die tracks (R406): the frames of its last corrections, at most 4, newest first. -/
structure Track where
  die : Nat
  group : Nat
  tile : Nat
  addr : Nat
  times : List Nat
  deriving DecidableEq, Repr

/-- The scrub that runs (R410): its descriptor and its figures. -/
structure Scrub where
  desc : Nat
  scanned : Nat
  corrA : Nat
  corrB : Nat
  uncA : Nat
  uncB : Nat
  firstUnc : Nat
  persist : Nat
  due : Nat
  deriving DecidableEq, Repr

/-- The Memory Integrity block beside its registers. -/
structure Mig where
  tracks : List Track
  /-- Words of the persistent table, which are not recorded again, and the entry of each copy that runs: die × 8 + entry,
  with its last frame. -/
  copies : List (Nat × Nat)
  /-- Frames, plus 1, of the last leak of a die's bucket, at 16 × die + group (R405). -/
  leakAt : List (Nat × Nat)
  /-- Words of a die's program store found uncorrectable and neither written nor scrubbed since (R265, R402): die and word
  address. -/
  bad : List (Nat × Nat)
  scrub : Option Scrub
  deriving DecidableEq, Repr

/-! ### Signal Fabric and Bus Matrix (chapter 16) -/

/-- The Signal Fabric beside its registers and routing tables. -/
structure Sgf where
  /-- Event sources that have occurred and whose firing has not been taken (R413). -/
  occ : List Nat
  /-- Frames, plus 1, at which sources that have fired are re-armed (R415). -/
  rearm : List (Nat × Nat)
  /-- Frames, plus 1, of a channel's last event (R414). -/
  fired : List (Nat × Nat)
  /-- Frames, plus 1, in which a channel was enabled again after the loop detector had disabled it (R419). -/
  backAt : List (Nat × Nat)
  /-- The millisecond, plus 1, in which a channel's count runs (R419). -/
  msAt : List (Nat × Nat)
  /-- The next firing of an armed timer, plus 1 (R422). -/
  timers : List (Nat × Nat)
  deriving DecidableEq, Repr

/-- The arbiter of one target of a die (R429, R430): the wait of a pending bulk request, the masters last granted in each
class and at all, the cycles for which the access in progress still holds it, and the cycles each bulk master has
waited. -/
structure Arb where
  bulkWait : Nat
  lastCtl : Nat
  lastBulk : Nat
  parked : Nat
  busy : Nat
  waits : List (Nat × Nat)
  deriving DecidableEq, Repr

/-- The Bus Matrices, at 32 × die + target. -/
structure Bmx where
  arbs : List (Nat × Arb)
  deriving DecidableEq, Repr

/-! ### Power and clocks (chapter 19) -/

/-- The Power and Clock Manager beside its registers. -/
structure Pwr where
  /-- Failed rail attempts of this Dawn, and the frame-free flags of R466 and R467: the sequencer stays off, and a
  shutdown came before. -/
  attempts : Nat
  off : Bool
  shutdown : Bool
  /-- Rails that are on, and whether VHV is. -/
  rails : List Nat
  vhvOn : Bool
  /-- The VHV target in force and the one before it (R468, R469), and the end of the ramp. -/
  target : Nat
  before : Nat
  rampEnd : Option Nat
  /-- VHV readings of the tiles in mV, plus 1, and the frames, plus 1, from which they have been low (R347). -/
  vhv : List (Nat × Nat)
  lowAt : List (Nat × Nat)
  /-- ARMs and DISARMs accepted and not yet in effect, with their frames A (R480). -/
  arm : List (Bool × Nat)
  /-- Frames up to which a restarted clock domain is kept running for its work, at 32 × die + domain (R474). -/
  clocks : List (Nat × Nat)
  deriving DecidableEq, Repr

/-! ### Pins -/

/-- The levels and conditions at the module's pins and links that commands depend on. -/
structure Pins where
  /-- 1 for a die whose PERST_N is asserted (R79). -/
  perst : List (Nat × Nat)
  /-- 1 for a die whose link is to train (R80, R478). -/
  training : List (Nat × Nat)
  /-- The fault pair: 0 both low, 1 normal, 2 fault (R368). -/
  fault : Nat
  /-- The module case sensor's reading, in 0.01 °C as 16 bits (R347). -/
  caseTemp : Nat
  /-- RST_N is asserted (R482), and VAON is applied. -/
  rst : Bool
  vaon : Bool
  deriving DecidableEq, Repr

/-! ### The machine -/

/-- Why a step faults. The device's rules give every command an effect, so no command of the model faults. -/
inductive Fault where
  /-- Raised by no command: kept so that the type names what a fault would be. Safe. -/
  | impossible
  deriving DecidableEq, Repr

/-- Why a command is refused. -/
inductive Refusal where
  /-- Raised by the dispatcher for a command without a meaning, by the command's mnemonic. Safe. -/
  | notModelled (mnemonic : String)
  deriving DecidableEq, Repr

/-- The state of the module. -/
structure State where
  /-- The commands that wait, first in, first out. -/
  pending : List Instr
  /-- The Meridian frame number: seconds × 20,000,000 + nanoseconds / 50 (R318, R319). -/
  now : Nat
  /-- How far the last access of a register fell into its frame, in 1/65,536 ns, with that frame (R3, assumption 2). -/
  sub : Nat × Nat
  /-- The register file: the fields that differ from their reset values, each XORed with its reset value. -/
  regs : List (Nat × Nat)
  /-- Bytes of the tables, banks, stores and slots that differ from what an unlisted address reads as. -/
  mem : List Host.Cell
  /-- Values in force, plus 1, of the class F fields whose written value waits for its boundary, by field (R9). -/
  held : List (Nat × Nat)
  hpt : Hpt
  pln : Pln
  orb : Orb
  drv : Drv
  mon : Mon
  samples : List Sample
  ton : Ton
  lpa : Lpa
  pmc : Pmc
  prf : Prf
  cal : Cal
  flash : Flash
  mer : Mer
  sec : Sec
  saf : Saf
  lks : Lks
  mig : Mig
  sgf : Sgf
  bmx : Bmx
  pwr : Pwr
  pins : Pins
  /-- What the module has put out, newest first (the model's own field). -/
  out : List Out
  /-- The number of free values drawn (the model's own field, assumption 1). -/
  free : Nat
  /-- The first frames at which some scheduled events can come next, by event (the model's own field, assumption 72): 0 the
  queue samples, 1 the conversions, 2 the loss, 3 the close of a lag, 4 up the publications of a class. -/
  marks : List (Nat × Nat)
  deriving DecidableEq, Repr

/-- The firmware slot 0 of each flash die as the module leaves the factory: a sound image of version 1.0 (assumption 6).
-/
def factoryFw : FwSlot := { sound := true, version := 0x0100, digest := 0 }

/-- The machine right after reset: no command waits, Meridian time is zero, every register at its reset value, no
byte of memory differing from its reset value, and nothing in progress (R318, R484). -/
def State.reset : State where
  pending := []
  now := 0
  sub := (0, 0)
  regs := []
  mem := []
  held := []
  hpt := { nextId := 0, fetching := [], fetched := [], accepted := [], owed := [], posted := [], bindings := [], telq := [], period := [], tqLost := [], sig := [], lastUrgent := 63, lastNormal := 63, shadow := [], pba := [] }
  pln := { plans := [], loads := [], loading := none, live := [], tones := [], cycle := none, enablePending := none, crossing := [], crossingOld := [], crossingDue := none, touched := false, lostBlocks := [] }
  orb := { reqs := [], nextSeq := 0, vtime := [], level := [], levelAt := 0, stats := [], active := [], shadow := [], base := none, start := none, swap := none, stop := none, settled := 0, entered := 0, fresh := false, erased := none }
  drv := { loaded := false, down := [], queue := [], dither := [], acc := [], formed := [], trippedAt := [], checkBad := [], changedAt := [], changeDue := [], retestDue := [], lastValid := [], twilightEnd := [], delivered := [], frozenAt := [], bound := [], lowAt := [], pads := [], backAt := [], foldAt := [], visitAt := [], orphClear := [] }
  mon := { settle := [], rangeAt := [], blocks := [], slotAt := [], idle := [], zero := [], cal := [], calNext := [], darkOk := [], refOk := [], fill := [], capTime := [], condSince := [], armAt := [], lossAt := [], replica := [], span := [] }
  samples := []
  ton := { foreign := [], since := [], hist := [], failL := [], failF := [], lastL := [], lastF := [], suspended := [], epoch := 0, trims := [], rots := [], donePath := 0, doneElem := 0 }
  lpa := { jobs := [], runs := [], ended := [], outs := [], images := [], resume := [], resumeCtx := [], changes := [], ran := [], since := [], on := [], swait := [], twait := [], waitAt := [], skipped := [], pubs := [], begun := [], probeK := [], fresh := [], hostK := [], hostP := [], duskFrom := [], last := [], cmd := none, cmdNext := none }
  pmc := { since := [], base := [], at_ := [], job := [], cls := [], wrapped := [], count := [], cfg := [], due := [], snaps := [] }
  prf := { gens := [], players := [] }
  cal := { sweep := none, enabled := false, zoneAt := [], due := [], later := [], meas := [], passes := [], run := none, toLog := [], trims := [], lastTemp := [], span := [] }
  flash := { cells := [], head := [], spareHead := [], wear := [], coefs := [], fw := [(0, factoryFw), (2, factoryFw)] }
  mer := { incr := 0x066666666666, arm := none, slewAt := 0, servoAt := 0, txq := [], syncAt := [], pps := [], lastPps := none, ppsNext := 0, ppsHigh := none, clkFrom := none, clkTo := none }
  sec := { keys := [], keyAt := 0, nonce := none, fwWrite := none, raises := 0, eraseAt := 0 }
  saf := { raised := [], latches := [], hist := [], windows := [], clears := [], resets := [], stale := false, injAt := [] }
  lks := { pending := none, mismatch := none, failed := [], missAt := [], upBad := [], upMiss := [] }
  mig := { tracks := [], copies := [], leakAt := [], bad := [], scrub := none }
  sgf := { occ := [], rearm := [], fired := [], backAt := [], msAt := [], timers := [] }
  bmx := { arbs := [] }
  pwr := { attempts := 0, off := false, shutdown := false, rails := [], vhvOn := false, target := 12000, before := 12000, rampEnd := none, vhv := [], lowAt := [], arm := [], clocks := [] }
  pins := { perst := [], training := [(0, 1), (1, 1)], fault := 0, caseTemp := 0, rst := false, vaon := false }
  out := []
  free := 0
  marks := []

end Sys2Proof.Machine
end

