-- ==== Sys2Proof/Machine/Ops.lean ====
section
/-! DEFINITION. The named operations over the state that the commands share: register fields, bytes of the set-up
tables, Meridian time, free values, completions, telemetry, interrupts and the admission of BAR0 writes. -/
namespace Sys2Proof.Machine

/-! ### Register fields -/

/-- The value of a register field. -/
def State.rd (s : State) (f : Fld) (i j k : Nat := 0) : Nat := nget s.regs (f.key i j k) ^^^ f.reset i j k

/-- The state with a register field holding `v`, cut to the field's width. -/
def State.wr (s : State) (f : Fld) (v : Nat) (i j k : Nat := 0) : State :=
  { s with regs := nset s.regs (f.key i j k) ((v % 2 ^ f.w) ^^^ f.reset i j k) }

/-- A one-bit field as a truth value. -/
def State.on (s : State) (f : Fld) (i j k : Nat := 0) : Bool := s.rd f i j k != 0

/-- A counter advanced by `n`, saturating at its greatest value. -/
def State.bump (s : State) (f : Fld) (n : Nat := 1) (i j k : Nat := 0) : State :=
  s.wr f (min (s.rd f i j k + n) (2 ^ f.w - 1)) i j k

/-- A counter lowered by `n`, not below 0. -/
def State.lower (s : State) (f : Fld) (n : Nat := 1) (i j k : Nat := 0) : State :=
  s.wr f (s.rd f i j k - n) i j k

/-- The value in force of a class F field: what was written, or, while that waits for its boundary, the value held
before (R9). -/
def State.eff (s : State) (f : Fld) (i j k : Nat := 0) : Nat :=
  match nget s.held (f.key i j k) with
  | 0 => s.rd f i j k
  | v + 1 => v

/-- A class F field is written: its value in force stays until the field's boundary. -/
def State.wrF (s : State) (f : Fld) (v : Nat) (i j k : Nat := 0) : State :=
  { s.wr f v i j k with held := nset s.held (f.key i j k) (s.eff f i j k + 1) }

/-- The boundary of a class F field: what was written comes into force. -/
def State.settleF (s : State) (f : Fld) (i j k : Nat := 0) : State :=
  { s with held := nset s.held (f.key i j k) 0 }

/-- The register file without the fields whose bit address lies in `lo` to `hi - 1`, given as BAR0 offsets: those
fields then hold their reset values. -/
def State.clearRegs (s : State) (lo hi : Nat) : State :=
  { s with regs := s.regs.filter fun c => !(decide (lo * 8 ≤ c.1) && decide (c.1 < hi * 8)) }

/-- A field of a channel's registers, the channel numbered over the module (R13). -/
def State.chRd (s : State) (f : Fld) (ch : Nat) : Nat := s.rd f (ch / 2048) (ch % 2048)

/-- The state with a field of a channel's registers written. -/
def State.chWr (s : State) (f : Fld) (v ch : Nat) : State := s.wr f v (ch / 2048) (ch % 2048)

/-- A one-bit field of a channel's registers. -/
def State.chOn (s : State) (f : Fld) (ch : Nat) : Bool := s.chRd f ch != 0

/-- A field of a monitor's registers, the monitor numbered over the module (R13). -/
def State.mRd (s : State) (f : Fld) (m : Nat) : Nat := s.rd f (m / 128) (m % 128)

/-- The state with a field of a monitor's registers written. -/
def State.mWr (s : State) (f : Fld) (v m : Nat) : State := s.wr f v (m / 128) (m % 128)

/-- A one-bit field of a monitor's registers. -/
def State.mOn (s : State) (f : Fld) (m : Nat) : Bool := s.mRd f m != 0

/-! ### Bytes of tables, banks and slots -/

/-- Where a table of the set-up windows starts (R45). -/
def elemBase : Nat := 0x03000000
@[inherit_doc elemBase] def fmapBase : Nat := 0x03020000
@[inherit_doc elemBase] def portBase : Nat := 0x03040000
@[inherit_doc elemBase] def storeBase : Nat := 0x03100000
@[inherit_doc elemBase] def orbitBase : Nat := 0x03200000
@[inherit_doc elemBase] def progBase : Nat := 0x03300000
@[inherit_doc elemBase] def ctxBase : Nat := 0x03400000
@[inherit_doc elemBase] def prfBase : Nat := 0x03700000
@[inherit_doc elemBase] def toneBase : Nat := 0x03800000
@[inherit_doc elemBase] def almBase : Nat := 0x03900000
@[inherit_doc elemBase] def faultBase : Nat := 0x03A00000
@[inherit_doc elemBase] def sgfBase : Nat := 0x03B00000

/-- The reset value of the byte at offset `o` of a loop context's entry: INIT is 0xFFFF (R235). -/
def ctxDefault (o : Nat) : Byte := if o = 6 ∨ o = 7 then 0xFF else 0

/-- The reset value of a byte of a profile limit set: NA and NJ are 1 (R269). -/
def limitDefault (o : Nat) : Byte := if o = 4 ∨ o = 6 then 1 else 0

/-- The reset value of the byte at offset `o` of the entry of tone context `c`: PT_MIN is 0x0400 and PF_MAX is 0x0100
in the entries of a monitor's first path context, and a path context's MONITOR is its monitor (R211). -/
def toneDefault (c o : Nat) : Byte :=
  if 16384 ≤ c ∧ o = 18 then BitVec.ofNat 8 ((c - 16384) / 4) else if 16384 ≤ c ∧ o = 19 then BitVec.ofNat 8 ((c - 16384) / 1024) else
  if 16384 ≤ c ∧ c % 4 = 0 then (if o = 25 then 4 else if o = 27 then 1 else 0) else 0

/-- The severity of a fault source after reset (R345 to R347): 0 NOTE, 1 MINOR, 2 MAJOR, 3 CRITICAL; reserved sources read
0. -/
def sevDefault (n : Nat) : Nat :=
  if n < 192 then (([2, 2, 3, 1, 2, 2, 1, 2, 1, 2, 1, 1, 1, 1, 2, 0, 2, 2, 2] : List Nat)[n % 24]?).getD 0
  else if n < 320 then (([2, 1, 2, 1, 2, 0, 1, 2, 2, 2, 2, 2, 2, 0, 1, 1, 1] : List Nat)[n % 64]?).getD 0
  else (([3, 3, 3, 2, 2, 2, 2, 1, 1, 1, 1, 1, 1, 2, 2, 2] : List Nat)[n - 320]?).getD 0

/-- The action of a fault source after reset (R345 to R347): 0 none, 1 interrupt, 3 port Eclipse, 4 global Eclipse,
5 failover; reserved sources read 0. -/
def actDefault (n : Nat) : Nat :=
  if n < 192 then (([1, 3, 4, 1, 3, 3, 1, 1, 1, 3, 1, 1, 1, 1, 1, 0, 1, 1, 1] : List Nat)[n % 24]?).getD 0
  else if n < 320 then (([5, 1, 1, 1, 5, 1, 1, 5, 5, 5, 5, 1, 1, 1, 1, 1, 1] : List Nat)[n % 64]?).getD 0
  else (([4, 4, 4, 1, 1, 1, 1, 1, 1, 1, 1, 1, 1, 1, 1, 1] : List Nat)[n - 320]?).getD 0

/-- Where a die's MSI-X table and its configuration space are kept (R40, R43; beyond BAR0's 64 MiB, the model's own). -/
def msixBase (die : Nat) : Nat := 0x04000000 + 0x10000 * die
@[inherit_doc msixBase] def cfgBase (die : Nat) : Nat := 0x04100000 + 0x1000 * die

/-- The reset value of the 32-bit word at offset `o` of configuration space (R40; the offsets as PCI Express has them or as
assumption 74 places them): Device and Vendor ID, Class Code with the revision, the subsystem IDs, the MSI-X control word
with a table of 256 vectors, and a maximum read request of 512 bytes. -/
def cfgDefault (o : Nat) : Nat :=
  if o = 0 then 0x16101FA7 else if o = 8 then 0x11800001 else if o = 0x2C then Config.subsystemId.toNat
  else if o = 0x50 then 0x00FF0011 else if o = 0x78 then 0x2000 else 0

/-- What an unlisted byte reads as after reset: the reset contents of the tables, and the mask bit of an MSI-X vector set
(assumption 74). -/
def memDefault (a : Nat) : Byte :=
  if ctxBase ≤ a ∧ a < ctxBase + 64 * 49152 then ctxDefault ((a - ctxBase) % 64)
  else if prfBase ≤ a ∧ a < prfBase + 0x1000 then limitDefault ((a - prfBase) % 16)
  else if toneBase ≤ a ∧ a < toneBase + 32 * 20480 then toneDefault ((a - toneBase) / 32) ((a - toneBase) % 32)
  else if faultBase ≤ a ∧ a < faultBase + 16 * 384 then
    let o := (a - faultBase) % 16
    if o = 0 then BitVec.ofNat 8 (sevDefault ((a - faultBase) / 16))
    else if o = 1 then BitVec.ofNat 8 (actDefault ((a - faultBase) / 16)) else 0
  else if sgfBase + 0x4000 ≤ a ∧ a < sgfBase + 0x5000 then
    let o := (a - sgfBase) % 16
    if o = 2 then 0xE8 else if o = 3 then 3 else 0
  else if msixBase 0 ≤ a ∧ a < msixBase 2 then (if a % 0x10000 < 0x1000 ∧ a % 16 = 12 then 1 else 0)
  else if cfgBase 0 ≤ a ∧ a < cfgBase 2 then BitVec.ofNat 8 (cfgDefault (a % 0x1000 / 4 * 4) / 256 ^ (a % 4))
  else 0

/-- One byte. -/
def State.loadB (s : State) (a : Nat) : Byte := (aget s.mem a).getD (memDefault a)

/-- The state with one byte replaced. -/
def State.storeB (s : State) (a : Nat) (v : Byte) : State :=
  { s with mem := aset (memDefault a) s.mem a v }

/-- The number in `n` bytes, the lowest address least significant. -/
def State.load (s : State) (a : Nat) : Nat → Nat
  | 0 => 0
  | n + 1 => (s.loadB a).toNat + 256 * s.load (a + 1) n

/-- The state with `n` bytes holding a number. -/
def State.store (s : State) (a : Nat) : Nat → Nat → State
  | 0, _ => s
  | n + 1, v => (s.storeB a (BitVec.ofNat 8 v)).store (a + 1) n (v / 256)

/-- The state with a list of bytes stored from an address up. -/
def State.storeBytes (s : State) (a : Nat) : List Byte → State
  | [] => s
  | b :: t => (s.storeB a b).storeBytes (a + 1) t

/-- The bytes from an address up. -/
def State.loadBytes (s : State) (a : Nat) : Nat → List Byte
  | 0 => []
  | n + 1 => s.loadB a :: s.loadBytes (a + 1) n

/-- The indices of the table entries of `size` bytes between two addresses of which a byte is listed, rising. -/
def State.listed (s : State) (base size count : Nat) : List Nat :=
  ((s.mem.filter fun c => decide (base ≤ c.1) && decide (c.1 < base + size * count)).map
    fun c => (c.1 - base) / size).dedup

/-- The memory without the bytes from `lo` to `hi - 1`, which then read as after reset. -/
def State.clearMem (s : State) (lo hi : Nat) : State :=
  { s with mem := s.mem.filter fun c => !(decide (lo ≤ c.1) && decide (c.1 < hi)) }

/-! ### Meridian time -/

/-- The tick value of the start of frame `f` (R3, R318). -/
def ticksOf (f : Nat) : Nat := f * Config.ticksPerFrame % 2 ^ 64

/-- The tick value of the current frame's start. -/
def State.ticks (s : State) : Nat := ticksOf s.now

/-- How far the current frame has run, in 1/65,536 ns, as the last access in it showed (R3). -/
def State.inFrame (s : State) : Nat := if s.sub.1 = s.now then s.sub.2 else 0

/-- The signed 64-bit difference of two tick values (R4). -/
def tickDiff (a b : Nat) : Int := toS 64 (a + 2 ^ 64 - b % 2 ^ 64)

/-- A time is beyond the range of R4 from now. -/
def State.timeOut (s : State) (t : Nat) : Bool := decide (2 ^ 62 < (tickDiff t s.ticks).natAbs)

/-- The first frame that begins at or after a time, in the range of R4. -/
def State.frameAt (s : State) (t : Nat) : Nat :=
  let d := tickDiff t s.ticks
  ((s.now : Int) - (-d) / (Config.ticksPerFrame : Int)).toNat

/-- The state with the clock moved forward to a frame, never back (assumption 3). -/
def State.reach (s : State) (f : Nat) : State := { s with now := max s.now f }

/-- The first frame at or after `f` that is congruent to `r` modulo `m`. -/
def nextAt (f m r : Nat) : Nat := f + (r + m - f % m) % m

/-- The first fast-sample frame at or after a frame (R103, R171). -/
def fastAt (f : Nat) : Nat := nextAt f 4 0

/-- The first frame congruent to `r` modulo `m` at which the event of a key can come (assumption 72). -/
def State.duty (s : State) (key m r : Nat) : Nat := nextAt (max s.now (nget s.marks key)) m r

/-- The event of a key comes at frame `f`, once. -/
def State.once (s : State) (key f : Nat) : State := { s.reach f with marks := nset s.marks key (f + 1) }

/-- The index of a frame within its Meridian second (R150). -/
def secIndex (f : Nat) : Nat := f % Config.framesPerSec

/-! ### Free values -/

/-- The next free value of `w` bits, and the state that has drawn it (assumption 1). -/
def State.draw (s : State) (w : Nat) : Nat × State :=
  ((Config.freeValue w s.free).toNat, { s with free := s.free + 1 })

/-! ### Roles, interrupts and errors of the Host Port -/

/-- The number of the active die, A when none is active. -/
def State.active (s : State) : Nat := if s.on HPT_STATUS.ACTIVE 1 then 1 else 0

/-- The die is the active die (R377). -/
def State.isActive (s : State) (die : Nat) : Bool := s.on HPT_STATUS.ACTIVE die

/-- Something is put out. -/
def State.emit (s : State) (o : Out) : State := { s with out := o :: s.out }

/-- A die is in the power state D3hot (R39). -/
def State.d3hot (s : State) (die : Nat) : Bool := s.load (cfgBase die + 0x44) 1 % 4 == 3

/-- A vector of a die is masked, by its table entry, by the function mask or because MSI-X is off (R77, assumption 74). -/
def State.vecMasked (s : State) (die vec : Nat) : Bool :=
  s.load (cfgBase die + 0x53) 1 / 64 != 2 || s.load (msixBase die + 16 * vec + 12) 1 % 2 == 1

/-- A vector of a die is signalled (R77): while it is masked its pending bit is set instead. -/
def State.signalVec (s : State) (die vec : Nat) : State :=
  if s.vecMasked die vec then { s with hpt := { s.hpt with pba := nset s.hpt.pba (256 * die + vec) 1 } }
  else s.emit (.msix die vec)

/-- The vectors of a die that are pending and no longer masked are signalled, the lowest first (R77). -/
def State.flushVecs (s : State) (die : Nat) : State :=
  let ready (c : Nat × Nat) : Bool := c.1 / 256 == die && !s.vecMasked die (c.1 % 256)
  { s with
    hpt := { s.hpt with pba := s.hpt.pba.filter fun c => !ready c }
    out := ((s.hpt.pba.filter ready).map fun c => Out.msix die (c.1 % 256)).reverse ++ s.out }

/-- A signal of an MSI-X vector of the active die (R77). -/
def State.msix (s : State) (vec : Nat) : State := s.signalVec s.active vec

/-- The bits of `HPT_ERR_STATUS`, in order of their number. -/
def errFld : Nat → Fld
  | 0 => HPT_ERR_STATUS.PARTIAL_WR
  | 1 => HPT_ERR_STATUS.DB_RANGE
  | 2 => HPT_ERR_STATUS.DB_STANDBY
  | 3 => HPT_ERR_STATUS.STANDBY_WR
  | 4 => HPT_ERR_STATUS.FETCH_ERR
  | 5 => HPT_ERR_STATUS.POISONED
  | 6 => HPT_ERR_STATUS.CQ_STALL
  | _ => HPT_ERR_STATUS.TQ_LOST

/-- `HPT_ERR_STATUS` of a die is all zero. -/
def State.errClear (s : State) (die : Nat) : Bool :=
  (List.range 8).all fun b => s.rd (errFld b) die == 0

/-- A Host Port error is recorded in a die's error registers (R81): the bit is set, and the first error since the
register was all zero leaves its ring set, its bit and its address. `HPT_ERR_VEC` is signalled. An error that concerns no ring
set leaves RING 0, and one with no address given ADDR 0 (assumption 75). -/
def State.hptError (s : State) (die b ring addr : Nat) : State :=
  let s1 := if s.errClear die then
      (((s.wr HPT_ERR_INFO.RING ring die).wr HPT_ERR_INFO.BIT b die).wr HPT_ERR_ADDR_LO.ADDR addr die).wr
        HPT_ERR_ADDR_HI.ADDR (addr / 2 ^ 32) die
    else s
  (s1.wr (errFld b) 1 die).signalVec die (s.rd HPT_ERR_VEC.VECTOR)

/-- The greatest read request of a die, in bytes, as the host programs it (R39). -/
def State.maxRead (s : State) (die : Nat) : Nat := 128 * 2 ^ min 5 (s.load (cfgBase die + 0x79) 1 / 16 % 8)

/-! ### Admission of BAR0 writes -/

/-- What becomes of a BAR0 write through a die's endpoint (R41, R478): it acts, or has no effect, or is a write to
the standby that sets STANDBY_WR. -/
inductive Bar0 where
  | act | ignored | standby
  deriving DecidableEq, Repr

/-- The offset lies in the HPT block, and in the HPT or LKS block (R44). -/
def inHpt (addr : Nat) : Bool := decide (addr < 0x100000)
@[inherit_doc inHpt] def inHptLks (addr : Nat) : Bool := inHpt addr || (decide (0x900000 ≤ addr) && decide (addr < 0xA00000))

/-- R41 and R478 applied to a write of BAR0 offset `addr` through the endpoint of `die`. An endpoint in D3hot takes no
access (assumption 74). -/
def State.bar0 (s : State) (die addr : Nat) : Bar0 :=
  if s.d3hot die || !s.on HPT_STATUS.READY && !inHpt addr then .ignored
  else if s.isActive die || inHptLks addr then .act
  else if s.on HPT_STATUS.READY then .standby
  else .act

/-- A write of BAR0 offset `addr` through the endpoint of `die` that acts as `f` says, if it acts at all. -/
def State.viaBar0 (s : State) (die addr : Nat) (f : State → State) : State :=
  match s.bar0 die addr with
  | .act => f s
  | .ignored => s
  | .standby => s.hptError die 3 0 addr

/-! ### Descriptors and completions -/

/-- The common status codes (R67). -/
def stOK : Nat := 0x0000
@[inherit_doc stOK] def stBadOpcode : Nat := 0x0001
@[inherit_doc stOK] def stBadField : Nat := 0x0002
@[inherit_doc stOK] def stDomainDenied : Nat := 0x0003
@[inherit_doc stOK] def stDmaError : Nat := 0x0004
@[inherit_doc stOK] def stTimeRange : Nat := 0x0005
@[inherit_doc stOK] def stLateReject : Nat := 0x0006
@[inherit_doc stOK] def stAborted : Nat := 0x0007
@[inherit_doc stOK] def stCausePresent : Nat := 0x0008
@[inherit_doc stOK] def stNoResource : Nat := 0x0009

/-- Flag bits of a descriptor (R56). -/
def Desc.strict (d : Desc) : Bool := bit d.flags 0
@[inherit_doc Desc.strict] def Desc.irq (d : Desc) : Bool := bit d.flags 1
@[inherit_doc Desc.strict] def Desc.quiet (d : Desc) : Bool := bit d.flags 2

/-- The field of `n` bytes at offset `off` of a descriptor. -/
def Desc.fld (d : Desc) (off n : Nat) : Nat := field d.bytes off n

/-- The owner domain of a ring set (R48). -/
def State.ringDom (s : State) (ring : Nat) : Nat := s.rd HPT_RING_DOMAIN.DOMAIN ring

/-- The accepted descriptor of a number. -/
def State.desc (s : State) (id : Nat) : Option Desc := s.hpt.accepted.find? fun d => d.id == id

/-- Descriptors of a submission ring accepted and not completed (R54, R70). -/
def State.inflight (s : State) (ring : Nat) : Nat :=
  (s.hpt.accepted.filter fun d => d.ring == ring).length + (s.hpt.owed.filter fun c => c.sq == ring && c.repost.isNone).length

/-- All descriptors accepted and not completed (R54, R81). -/
def State.allInflight (s : State) : Nat := s.hpt.accepted.length + (s.hpt.owed.filter fun c => c.repost.isNone).length

/-- The entries of a ring, 2^SIZE_LOG2 (R49). -/
def ringSize (log2 : Nat) : Nat := 2 ^ log2

/-- A completion ring is full: no write would leave a free slot before the head (R70). -/
def State.cqFull (s : State) (cq : Nat) : Bool :=
  (s.rd HPT_CQ_TAIL.TAIL cq + 1) % ringSize (s.rd HPT_CQ_CFG.SIZE_LOG2 cq) == s.rd HPT_CQ_HEAD.HEAD cq

/-- Completions waiting in a full ring's queue (R70). -/
def State.cqHeld (s : State) (cq : Nat) : Nat :=
  if s.cqFull cq then min Config.cqHeld (s.hpt.owed.filter fun c => c.cq == cq).length else 0

/-- The registers that report a completion ring's queue follow it (R70, R83). A queue that fills sets CQ_STALL. -/
def State.cqRefresh (s : State) (cq : Nat) : State :=
  let held := s.cqHeld cq
  let s1 := if held == Config.cqHeld && s.rd HPT_CQ_STATUS.HELD cq != Config.cqHeld then s.hptError s.active 6 cq 0 else s
  (s1.wr HPT_CQ_STATUS.HELD held cq).wr HPT_CQ_STATUS.STALL (b2n (held != 0)) cq

/-- The registers that report a completion ring's queue and a submission ring's count follow the Host Port (R70, R81,
R82). -/
def State.hptRefresh (s : State) (ring cq : Nat) : State :=
  ((s.wr HPT_INFLIGHT.COUNT s.allInflight).wr HPT_SQ_STATUS.INFLIGHT (s.inflight ring) ring).cqRefresh cq

/-- A descriptor completes (R65): it leaves the descriptors in execution, and its completion is owed, unless QUIET
suppresses it (R56) or it is dropped and counted (R48, R79). `flags` holds LATE in bit 0, FALLBACK in bit 1 and
VERIFY_FAIL in bit 2. A RESULT that the spec does not give is a free value (assumption 1). -/
def State.finish (s : State) (d : Desc) (status : Nat) (result : Option Nat) (exe : Nat) (flags : Nat := 0) : State :=
  let s0 := if result.isNone then (s.draw 32).2 else s
  let s1 : State := { s0 with hpt := { s0.hpt with accepted := s0.hpt.accepted.filter fun x => x.id != d.id } }
  if d.quiet && status == stOK && flags % 4 == 0 then s1.hptRefresh d.ring d.cq
  else if d.lost then (s1.bump HPT_LOST_COMP.COUNT 1 s.active).hptRefresh d.ring d.cq
  else
    let c : Compl := { cq := d.cq, sq := d.ring, tag := d.tag, status := status % 2 ^ 16, flags := flags % 8,
                       result := (result.getD (s.draw 32).1) % 2 ^ 32, acc := d.acc, exe := exe % 2 ^ 64, irq := d.irq, repost := none }
    let s2 : State := { s1 with hpt := { s1.hpt with owed := s1.hpt.owed ++ [c] } }
    s2.hptRefresh d.ring d.cq

/-- A descriptor completes at the current frame with a status and a RESULT. -/
def State.done (s : State) (d : Desc) (status : Nat) (result : Option Nat := none) : State :=
  s.finish d status result s.ticks

/-- A descriptor of a number, if it is in execution, is handled as `f` says; otherwise nothing happens. -/
def State.withDesc (s : State) (id : Nat) (f : Desc → State) : State :=
  match s.desc id with
  | some d => f d
  | none => s

/-- The writes of data that a descriptor returns to host memory, before its completion (R69). -/
def State.toHost (s : State) (addr : Nat) (bytes : List Byte) : State := s.emit (.host s.active addr false bytes)

/-- Opcode values (R57). -/
def opNop : Nat := 0x00
@[inherit_doc opNop] def opFence : Nat := 0x01
@[inherit_doc opNop] def opPlanLoad : Nat := 0x10
@[inherit_doc opNop] def opPlanCommit : Nat := 0x11
@[inherit_doc opNop] def opPlanAbort : Nat := 0x12
@[inherit_doc opNop] def opPlanFree : Nat := 0x13
@[inherit_doc opNop] def opOrbitLoad : Nat := 0x20
@[inherit_doc opNop] def opOrbitStart : Nat := 0x21
@[inherit_doc opNop] def opOrbitStop : Nat := 0x22
@[inherit_doc opNop] def opCtxWrite : Nat := 0x30
@[inherit_doc opNop] def opCtxRead : Nat := 0x31
@[inherit_doc opNop] def opTableDma : Nat := 0x40
@[inherit_doc opNop] def opStreamOpen : Nat := 0x50
@[inherit_doc opNop] def opStreamClose : Nat := 0x51
@[inherit_doc opNop] def opTelemetryCfg : Nat := 0x60
@[inherit_doc opNop] def opCalRun : Nat := 0x70
@[inherit_doc opNop] def opScrubRange : Nat := 0x71
@[inherit_doc opNop] def opCounterSnap : Nat := 0x72
@[inherit_doc opNop] def opEclipseClear : Nat := 0x80
@[inherit_doc opNop] def opFailover : Nat := 0x81

/-- A descriptor of a number and an opcode, if it is in execution, is handled as `f` says. -/
def State.withOp (s : State) (id op : Nat) (f : Desc → State) : State :=
  s.withDesc id fun d => if d.op == op then f d else s

/-- Where a descriptor names its host address (R62, R91, R130, R238, R311). -/
def Desc.hostAddr (d : Desc) : Nat :=
  if d.op = opTableDma ∨ d.op = opPlanLoad ∨ d.op = opOrbitLoad then d.fld 8 8 else d.fld 16 8

/-- A poisoned TLP has come, if it has (R81): POISONED is set. -/
def State.poison (s : State) (p : Bool) (ring addr : Nat) : State := if p then s.hptError s.active 5 ring addr else s

/-- A poisoned TLP has come among the data of a descriptor's read, if it has. -/
def State.poisoned (s : State) (p : Bool) (id : Nat) : State :=
  match s.desc id with
  | some d => s.poison p d.ring d.hostAddr
  | none => s.poison p 0 0

/-- Reads of host memory that are outstanding (R39, R81): descriptor reads, plan reads and stream reads. -/
def State.readsOut (s : State) : Nat :=
  s.hpt.fetching.length + s.pln.loads.length + (s.prf.players.filter fun p => p.asked.isSome).length

/-- Another read of host memory may be issued (R81). -/
def State.readSlot (s : State) : Bool := decide (s.readsOut < max 1 (s.rd HPT_DMA_CFG.MAX_RD_OUT))

/-! ### Faults and events -/

/-- Source `k` of tile `t`, of die `d`, and of the module (R344 to R347). -/
def srcTile (t k : Nat) : Nat := 24 * t + k
@[inherit_doc srcTile] def srcDie (d k : Nat) : Nat := 192 + 64 * d + k
@[inherit_doc srcTile] def srcModule (k : Nat) : Nat := 320 + k

/-- An occurrence of a fault source is detected (R354); FAULT_OCCURRENCE takes it. Both dies detect those of the tiles and
of the module, whose entries then show die 0 (R359). -/
def State.raise (s : State) (source info : Nat) (die : Nat := s.active) : State :=
  { s with saf := { s.saf with raised := s.saf.raised ++
    [{ source := source, info := info % 2 ^ 16, die := if 192 ≤ source ∧ source < 320 then die else 0, at_ := s.now, inj := 0 }] } }

/-- MEM_UNCORR (R411). -/
def stMemUncorr : Nat := 0x0A01

/-- A read finds a word with an uncorrectable error (R402): the die, or the tile for group 14, raises its source, and the
registers of the die, or of both dies, take the word. The reading command says what becomes of the operation. -/
def State.uncorrectable (s : State) (die group tile addr : Nat) : State :=
  let s1 := (if group = 14 then [0, 1] else [die]).foldl (fun t d => (((t.wr MEM_UNCORR_LAST.GROUP group d).wr
    MEM_UNCORR_LAST.TILE tile d).wr MEM_UNCORR_LAST.ADDR addr d).bump MEM_UNCORR_CNT.COUNT 1 d) s
  s1.raise (if group = 14 then srcTile tile 16 else srcDie die 4) addr die

/-- The word a command of the active die found uncorrectable, if it found one. -/
def State.eccHit (s : State) (ecc : Option EccHit) (tile : Nat := 0) : State :=
  match ecc with
  | some e => s.uncorrectable s.active e.group (if e.group.val = 14 then tile else 0) e.addr.toNat
  | none => s

/-- An occurrence of an event source (R413); EVENT_FIRE takes it. -/
def State.occur (s : State) (source : Nat) : State :=
  { s with sgf := { s.sgf with occ := s.sgf.occ ++ [source] } }

/-! ### Telemetry -/

/-- The bindings of a type that cover a source (R74). -/
def State.bound (s : State) (type source : Nat) : List Binding :=
  s.hpt.bindings.filter fun b => b.type == type && decide (b.first ≤ source) && decide (source < b.first + b.count)

/-- A record of a type and source is formed for every binding that covers the source (R72). -/
def State.record (s : State) (type source stamp : Nat) (payload : List Byte) : State :=
  { s with hpt := { s.hpt with telq := s.hpt.telq ++ (s.bound type source).map fun b =>
      { num := b.num, tq := b.tq, type := type, source := source, stamp := stamp % 2 ^ 64, payload := payload } } }

/-- A record of a type with a period: for every binding that covers the source, the first result at or after a period
boundary (R213, R241). `frame` is the frame of the publication, `dflt` the type's default period in µs. -/
def State.recordP (s : State) (type source stamp frame dflt : Nat) (payload : List Byte) : State :=
  (s.bound type source).foldl (fun t b =>
    let k := frame / (Config.framesPerUs * (if b.period = 0 then dflt else b.period)) + 1
    if nget t.hpt.period (65536 * b.num + source) = k then t
    else { t with hpt := { t.hpt with
      period := nset t.hpt.period (65536 * b.num + source) k
      telq := t.hpt.telq ++ [{ num := b.num, tq := b.tq, type := type, source := source, stamp := stamp % 2 ^ 64, payload := payload }] } }) s

/-! ### On-demand clocks (R472 to R474) -/

/-- The domain of a die is gated. -/
def State.gated (s : State) (die dom : Nat) : Bool := bit (s.rd PWR_CLK_GATED.GATED die) dom

/-- A gated domain of a die restarts: its PLL locks, the restart counts, and it runs on for 400 frames (assumption 47). -/
def State.clockOn (s : State) (die dom : Nat) : State :=
  if !s.gated die dom then s
  else
    let s1 := ((s.wr PWR_CLK_GATED.GATED (clrBit (s.rd PWR_CLK_GATED.GATED die) dom) die).wr PWR_CLK_LOCK.LOCK
      (setBit (s.rd PWR_CLK_LOCK.LOCK die) dom) die).bump PWR_CNT_WAKE.COUNT 1 die
    { s1 with pwr := { s1.pwr with clocks := nset s1.pwr.clocks (32 * die + dom) (s.now + 401) } }

/-- Work of a domain beside the loop clusters finds its clock gated on some die. -/
def State.clockOff (s : State) (dom : Nat) : Bool := s.gated 0 dom || s.gated 1 dom

/-- A domain restarts on both dies for work that comes to it (R474). -/
def State.clocksOn (s : State) (dom : Nat) : State := (s.clockOn 0 dom).clockOn 1 dom

/-- Work without notice that has waited since frame `since` finds its clock running at most 400 frames later (R474): how many is
free (assumption 1). -/
def State.clockWait (s : State) (dom since : Nat) : State :=
  if !s.clockOff dom then s
  else
    let d := s.draw 32
    (d.2.clocksOn dom).reach (since + d.1 % 401)

end Sys2Proof.Machine
end

