-- ==== Sys2Proof/Machine/PlanFormat.lean ====
section
/-! DEFINITION. The formats of the Element Table, the Port Table, the Fabric Map and of plans (chapters 1 and 3), read
from numbers and bytes. -/
namespace Sys2Proof.Machine

/-- An Element Table entry (R17). -/
structure Elem where
  channel : Nat
  valid : Bool
  domain : Nat
  /-- 0 CELL, 1 GATE, 2 TRIM, 3 AUX. -/
  role : Nat
  current : Bool
  narrow : Bool
  opOnly : Bool
  noTone : Bool
  cap : Nat
  zone : Nat
  deriving DecidableEq, Repr

/-- The Element Table entry that 8 bytes spell (R17). -/
def elemOfNat (v : Nat) : Elem :=
  { channel := bits v 0 14, valid := bit v 15, domain := bits v 16 8, role := bits v 24 2, current := bit v 26,
    narrow := bit v 27, opOnly := bit v 28, noTone := bit v 29, cap := bits v 32 16, zone := bits v 48 8 }

/-- A Port Table entry (R20). -/
structure Port where
  present : Bool
  dark : Bool
  opOnly : Bool
  domain : Nat
  gate : Nat
  monitor : Nat
  blockCode : Nat
  entry : Nat
  deriving DecidableEq, Repr

/-- The Port Table entry that the low 12 bytes spell (R20). -/
def portOfNat (v : Nat) : Port :=
  { present := bit v 0, dark := bit v 1, opOnly := bit v 2, domain := bits v 16 8, gate := bits v 32 16,
    monitor := bits v 48 16, blockCode := bits v 64 16, entry := bits v 80 16 }

/-- The 8-byte words of a byte list. -/
def words8 (n : Nat) (bs : List Byte) : List Nat :=
  match n with
  | 0 => []
  | n + 1 => field bs 0 8 :: words8 n (bs.drop 8)

/-- A plan header (R85). -/
structure PlanHdr where
  id : Nat
  domain : Nat
  format : Nat
  nElem : Nat
  nTone : Nat
  nVerify : Nat
  fallback : Nat
  settle : Nat
  serial : Nat
  deriving DecidableEq, Repr

/-- The header that a plan's bytes begin with (R85). -/
def planHdr (bs : List Byte) : PlanHdr :=
  { id := field bs 0 2, domain := field bs 2 1, format := field bs 3 1, nElem := field bs 4 2, nTone := field bs 6 2,
    nVerify := field bs 8 2, fallback := field bs 10 2, settle := field bs 12 2, serial := field bs 16 4 }

/-- An element target entry (R87). -/
structure Target where
  type : Nat
  kind : Nat
  cls : Nat
  state : Nat
  ch : Nat
  target : Nat
  param : Nat
  /-- A reserved bit of the entry is set. -/
  resv : Bool
  deriving DecidableEq, Repr

/-- The element target entry that 8 bytes spell. -/
def targetOfNat (v : Nat) : Target :=
  { type := bits v 0 8, kind := bits v 8 2, cls := bits v 10 2, state := bits v 12 1, ch := bits v 16 14,
    target := bits v 32 16, param := bits v 48 16, resv := decide (bits v 13 3 ≠ 0) || decide (bits v 30 2 ≠ 0) }

/-- A tone binding entry (R88). -/
structure ToneEnt where
  type : Nat
  tone : Nat
  path : Bool
  elem : Nat
  monitor : Nat
  amp : Nat
  resv : Bool
  deriving DecidableEq, Repr

/-- The tone binding entry that 8 bytes spell. -/
def toneOfNat (v : Nat) : ToneEnt :=
  { type := bits v 0 8, tone := bits v 8 7, path := bit v 15, elem := bits v 16 14, monitor := bits v 32 16,
    amp := bits v 48 8, resv := decide (bits v 30 2 ≠ 0) || decide (bits v 56 8 ≠ 0) }

/-- A verify entry (R89). -/
structure VerifyEnt where
  type : Nat
  pt : Bool
  monitor : Nat
  low : Nat
  high : Nat
  pathTone : Nat
  resv : Bool
  deriving DecidableEq, Repr

/-- The verify entry that 8 bytes spell. -/
def verifyOfNat (v : Nat) : VerifyEnt :=
  { type := bits v 0 8, pt := bit v 8, monitor := bits v 16 10, low := bits v 32 12, high := bits v 44 12,
    pathTone := bits v 56 7, resv := decide (bits v 9 7 ≠ 0) || decide (bits v 26 6 ≠ 0) || bit v 63 }

/-- The element target, tone binding and verify entries of a plan's bytes. -/
def planTargets (bs : List Byte) : List Target := (words8 (planHdr bs).nElem (bs.drop 64)).map targetOfNat
@[inherit_doc planTargets] def planTones (bs : List Byte) : List ToneEnt :=
  (words8 (planHdr bs).nTone (bs.drop (64 + 8 * (planHdr bs).nElem))).map toneOfNat
@[inherit_doc planTargets] def planVerifies (bs : List Byte) : List VerifyEnt :=
  (words8 (planHdr bs).nVerify (bs.drop (64 + 8 * ((planHdr bs).nElem + (planHdr bs).nTone)))).map verifyOfNat

/-- The slots that a plan's bytes occupy: 8 for the header and one for each entry (R94). -/
def planSlots (bs : List Byte) : Nat := bs.length / 8

/-- The PROFILE and PREEMPH entries of a plan (R111). -/
def planSlow (bs : List Byte) : Nat := ((planTargets bs).filter fun t => t.kind == 1 || t.kind == 2).length

/-- The stored plan of a number. -/
def Pln.plan (p : Pln) (id : Nat) : Option Plan := p.plans.find? fun x => x.id == id

end Sys2Proof.Machine
end

