-- ==== Sys2Proof/Machine/Fabric.lean ====
section
/-! DEFINITION. The fabric tables (chapter 1): element, port and link look-up, traced paths, crossing sets, the
triplicated words, the change rules of the table fields, dark ports and validation. -/
namespace Sys2Proof.Machine

/-! ### Look-up in the tables (R17, R19, R20, R23) -/

/-- An entry of the Element Table, the Port Table, and the two links of a Fabric Map entry. -/
def State.elem (s : State) (e : Nat) : Elem := elemOfNat (s.load (elemBase + 8 * e) 8)
@[inherit_doc State.elem] def State.port (s : State) (p : Nat) : Port := portOfNat (s.load (portBase + 16 * p) 12)
@[inherit_doc State.elem] def State.link (s : State) (e k : Nat) : Nat := s.load (fmapBase + 8 * e + 2 * k) 2

/-- The numbers of the valid elements, rising. -/
def State.validElems (s : State) : List Nat := (s.listed elemBase 8 16384).filter fun e => (s.elem e).valid

/-- The numbers of the present ports, rising. -/
def State.presentPorts (s : State) : List Nat := (s.listed portBase 16 2048).filter fun p => (s.port p).present

/-- The element whose valid entry names a channel (R19). -/
def State.elemAt (s : State) (ch : Nat) : Option Nat := s.validElems.find? fun e => (s.elem e).channel == ch

/-- An element exists. -/
def State.isElem (s : State) (e : Nat) : Bool := decide (e < 16384) && (s.elem e).valid

/-- The present port whose gate is an element. -/
def State.portOfGate (s : State) (e : Nat) : Option Nat := s.presentPorts.find? fun p => (s.port p).gate == e

/-- The present egress port whose guard monitor is a monitor (R36). -/
def State.guardedPort (s : State) (m : Nat) : Option Nat :=
  s.presentPorts.find? fun p => decide (1024 ≤ p) && (s.port p).monitor == m

/-- The present port that names a monitor. -/
def State.portOfMonitor (s : State) (m : Nat) : Option Nat := s.presentPorts.find? fun p => (s.port p).monitor == m

/-- The channel of a port's gate, if the port is present and has a gate that exists. -/
def State.gateCh (s : State) (p : Nat) : Option Nat :=
  let x := s.port p
  if x.present && s.isElem x.gate then some (s.elem x.gate).channel else none

/-- The channels whose triplicated word names a gate (R143). -/
def State.gateChannels (s : State) : List Nat :=
  ((s.validElems.filter fun e => (s.elem e).role == 1).map fun e => (s.elem e).channel).filter
    fun ch => s.chOn DRV_CH_GATEW.GATE ch

/-! ### Traced paths (R24 to R28) -/

/-- A traced path: its ingress port, the elements it crosses, and the egress port it ends at. -/
structure Path where
  ingress : Nat
  elems : List Nat
  egress : Nat
  deriving DecidableEq, Repr

/-- The optical state of an element in the live image overlaid with `ov`, a list of channels and states; an element
that no commit has named stands in BAR or BLOCK (assumption 12). -/
def State.optical (s : State) (ov : List (Nat × Nat)) (e : Nat) : Nat :=
  let ch := (s.elem e).channel
  match aget ov ch with
  | some v => v
  | none => ((aget s.pln.live ch).map LiveEnt.optical).getD 0

/-- The link that light entering element `e` at input `input` leaves by in an optical state, if it passes (R24). -/
def State.through (s : State) (e input state : Nat) : Option Nat :=
  let x := s.elem e
  if !x.valid then none
  else if x.role = 0 then some (s.link e ((input + state) % 2))
  else if x.role = 1 ∧ state = 1 ∧ input = 0 then some (s.link e 0)
  else none

/-- A trace followed from a link (R25): the elements crossed and the egress port reached. `fuel` bounds its length. -/
def State.trace (s : State) (ov : List (Nat × Nat)) : Nat → Nat → Option (List Nat × Nat)
  | 0, _ => none
  | fuel + 1, link =>
    let x := link % 2 ^ 14
    if link / 2 ^ 14 = 2 then some ([], x)
    else if link / 2 ^ 14 = 3 then none
    else
      match s.through x (link / 2 ^ 14) (s.optical ov x) with
      | none => none
      | some next => (s.trace ov fuel next).map fun r => (x :: r.1, r.2)

/-- The path from an ingress port, if there is one (R25). -/
def State.pathFrom (s : State) (ov : List (Nat × Nat)) (p : Nat) : Option Path :=
  let x := s.port p
  if x.gate = 0xFFFF then
    (s.trace ov 50 x.entry).map fun r => { ingress := p, elems := r.1, egress := r.2 }
  else if s.optical ov x.gate = 1 then
    (s.trace ov 50 (s.link x.gate 0)).map fun r => { ingress := p, elems := x.gate :: r.1, egress := r.2 }
  else none

/-- All paths of the traced state. -/
def State.paths (s : State) (ov : List (Nat × Nat)) : List Path :=
  (s.presentPorts.filter fun p => decide (p < 1024)).filterMap (s.pathFrom ov)

/-- A path crosses an element: it passes through it, or through a cell that the TRIM element trims (R28). -/
def State.crosses (s : State) (p : Path) (e : Nat) : Bool :=
  p.elems.contains e || ((s.elem e).role == 2 && (p.elems.contains (s.link e 0) || p.elems.contains (s.link e 1)))

/-- A lit path of the live image crosses the element and has an end at a port of a tenant (R314). -/
def State.livePathThrough (s : State) (e : Nat) : Bool :=
  (s.paths []).any fun p => s.crosses p e && ((s.port p.ingress).domain != 0 || (s.port p.egress).domain != 0)

/-- The tile of an element's channel. -/
def State.elemTile (s : State) (e : Nat) : Nat := (s.elem e).channel / 2048

/-- The egress ports of the paths that cross an element bound to a channel of a tile (R26). -/
def State.crossingSet (s : State) (paths : List Path) (tile : Nat) : List Nat :=
  let es := s.validElems.filter fun e => s.elemTile e == tile
  ((paths.filter fun p => es.any fun e => s.crosses p e).map Path.egress).dedup

/-- The crossing set of a tile that the Plan Engine uses now (R26). -/
def State.crossing (s : State) (tile : Nat) : List Nat :=
  (((aget s.pln.crossing tile).getD []) ++ ((aget s.pln.crossingOld tile).getD [])).dedup

/-- A tile is under a tile-loss fault: its TILE_LOST source is latched (R349, R92). -/
def State.tileLost (s : State) (tile : Nat) : Bool := s.saf.latches.any fun l => l.source == srcTile tile 0 && l.real

/-- The crossing sets of the live state become those in force, joined with the old ones until CROSSING_SET_DONE
(R26). -/
def State.recross (s : State) (f : Nat) : State :=
  let ps := s.paths []
  { s with pln := { s.pln with
      crossingOld := (List.range 8).map fun t => (t, s.crossing t)
      crossing := (List.range 8).map fun t => (t, s.crossingSet ps t)
      crossingDue := some (f + 80) } }

/-- Two ports are compatible for a plan of a domain (R28). -/
def State.compatible (s : State) (dom p q : Nat) : Bool :=
  let a := s.port p
  let b := s.port q
  (a.domain == b.domain || a.domain == 0 || b.domain == 0) && ((!a.opOnly && !b.opOnly) || dom == 0)

/-! ### The triplicated words (R29, R143) -/

/-- The gate and cap words of one channel loaded from the tables (R143). ESC, LOSTBLK, DKHOLD, TRIP and ORPH stay. -/
def State.loadWord (s : State) (e : Nat) : State :=
  let x := s.elem e
  let ch := x.channel
  let s1 := (s.chWr DRV_CH_GUARDW.CAP x.cap ch).chWr DRV_CH_GATEW.GATE (b2n (x.role == 1)) ch
  if x.role ≠ 1 then
    (((s1.chWr DRV_CH_GUARDW.BLOCK_CODE 0 ch).chWr DRV_CH_GATEW.DARK 0 ch).chWr DRV_CH_GATEW.MONV 0 ch).chWr
      DRV_CH_GATEW.MON 0 ch
  else
    match s.portOfGate e with
    | none =>
      (((s1.chWr DRV_CH_GUARDW.BLOCK_CODE 0 ch).chWr DRV_CH_GATEW.DARK 1 ch).chWr DRV_CH_GATEW.MONV 0 ch).chWr
        DRV_CH_GATEW.MON 0 ch
    | some p =>
      let y := s.port p
      let s2 := (s1.chWr DRV_CH_GUARDW.BLOCK_CODE y.blockCode ch).chWr DRV_CH_GATEW.DARK (b2n y.dark) ch
      if 1024 ≤ p then (s2.chWr DRV_CH_GATEW.MONV 1 ch).chWr DRV_CH_GATEW.MON y.monitor ch
      else (s2.chWr DRV_CH_GATEW.MONV 0 ch).chWr DRV_CH_GATEW.MON 0 ch

/-- The channels whose cap or gate word holds anything. -/
def State.wordChannels (s : State) : List Nat :=
  ((s.regs.filter fun c =>
    let a := c.1 / 8
    decide (0x01000000 ≤ a) && decide (a < 0x02000000) && decide (0x10000 ≤ a % 0x200000) &&
      decide (a % 0x200000 < 0x20000) && decide (0x18 ≤ a % 0x20)).map fun c =>
    let a := c.1 / 8 - 0x01000000
    2048 * (a / 0x200000) + (a % 0x200000 - 0x10000) / 0x20).dedup

/-- Every cap and gate word loaded from the tables (R143). A channel bound to no element holds CAP 0 and no gate. -/
def State.loadWords (s : State) : State :=
  let s1 := (s.wordChannels.filter fun ch => (s.elemAt ch).isNone).foldl (fun t ch =>
    ((((t.chWr DRV_CH_GUARDW.CAP 0 ch).chWr DRV_CH_GUARDW.BLOCK_CODE 0 ch).chWr DRV_CH_GATEW.GATE 0 ch).chWr
      DRV_CH_GATEW.DARK 0 ch).chWr DRV_CH_GATEW.MONV 0 ch) s
  s1.validElems.foldl State.loadWord s1

/-! ### Writes of table fields (R18) -/

/-- A write to a PLN or fabric table field is refused (R18, R111). -/
def State.plnReject (s : State) : State := s.wr PLN_STATUS.CFG_REJECT 1

/-- The Plan Engine is enabled. -/
def State.plnOn (s : State) : Bool := s.on PLN_STATUS.ENABLED

/-- A change clears VALID (R34). -/
def State.invalidate (s : State) : State :=
  let s1 := s.wr PLN_FMAP_STATUS.VALID 0
  { s1 with pln := { s1.pln with touched := true } }

/-- A plan of the Route Plan Store names an element, by a target entry or a tone binding (R18). -/
def State.elemPinned (s : State) (e : Nat) : Bool :=
  s.pln.plans.any fun p =>
    ((planTargets p.bytes).any fun t => s.elemAt t.ch == some e) || (planTones p.bytes).any fun t => t.elem == e

/-- A plan of the Route Plan Store names a present port: its gate or its monitor (R18, R21, assumption 13). -/
def State.portPinned (s : State) (p : Nat) : Bool :=
  let x := s.port p
  x.present && (decide (x.gate ≠ 0xFFFF) && s.elemPinned x.gate ||
    s.pln.plans.any fun q =>
      ((planVerifies q.bytes).any fun v => v.monitor == x.monitor) ||
        (planTones q.bytes).any fun t => !t.path && t.monitor == x.monitor)

/-- A write of an S-class part of a table word: the bits of `mask` of the 32-bit word at `addr`. The answer is 0, or 2 where the
field's class refuses the write; the writers below answer 1 where another rule does (R9). -/
def State.tableS (s : State) (addr mask value : Nat) : State × Nat :=
  if s.plnOn then (s, 2)
  else
    let old := s.load addr 4
    let new := (old &&& (0xFFFFFFFF ^^^ mask)) ||| (value &&& mask)
    if new = old then (s, 0) else ((s.store addr 4 new).invalidate, 0)

/-- A write of DOMAIN and OPONLY of a table word (R18), at bits 23:16 and bit `op`. -/
def State.tableOwner (s : State) (addr op value : Nat) (pinned : Bool) : State × Nat :=
  let mask := 0xFF0000 + 2 ^ op
  let old := s.load addr 4
  let new := (old &&& (0xFFFFFFFF ^^^ mask)) ||| (value &&& mask)
  if new = old then (s, 0)
  else if pinned then (s, 1)
  else if s.plnOn then
    if 16 < bits new 16 8 ∨ (bit new op ∧ bits new 16 8 ≠ 0) then (s, 1) else (s.store addr 4 new, 0)
  else ((s.store addr 4 new).invalidate, 0)

/-- The cap in force of an element: that of its channel's cap word, and of an element that does not exist its table's (R18,
assumption 79). -/
def State.capNow (s : State) (e : Nat) : Nat :=
  if (s.elem e).valid then s.chRd DRV_CH_GUARDW.CAP (s.elem e).channel else (s.elem e).cap

/-- A write of an element's CAP (R18): one at or below the cap in force and at or above each BLOCK_CODE reaches the cap word.
While the Plan Engine is disabled a change clears VALID (R34). -/
def State.tableCap (s : State) (e cap : Nat) : State × Nat :=
  let addr := elemBase + 8 * e + 4
  let old := s.load addr 2
  let floor := (s.presentPorts.filter fun p => (s.port p).gate == e).all fun p => decide ((s.port p).blockCode ≤ cap)
  if cap = old then (s, 0)
  else if cap ≤ s.capNow e ∧ floor then
    let s0 := s.store addr 2 cap
    let s1 := if s.plnOn then s0 else s0.invalidate
    (if (s1.elem e).valid then s1.chWr DRV_CH_GUARDW.CAP cap (s1.elem e).channel else s1, 0)
  else if s.plnOn then (s, 1)
  else ((s.store addr 2 cap).invalidate, 0)

/-- A 32-bit word of an Element Table entry is written (R17, R18). -/
def State.elemWrite (s : State) (e w value : Nat) : State × Nat :=
  let addr := elemBase + 8 * e
  if w = 0 then
    let a := s.tableS addr 0x2F00BFFF value
    let b := a.1.tableOwner addr 28 value (s.elemPinned e)
    (b.1, max a.2 b.2)
  else
    let a := s.tableS (addr + 4) 0x00FF0000 value
    let b := a.1.tableCap e (value % 2 ^ 16)
    (b.1, max a.2 b.2)

/-- What a present port holds of the suspension of its monitor's path check is in force up to now (R209). -/
def State.markPort (s : State) (p : Nat) : State :=
  if !(s.port p).present then s
  else { s with ton := { s.ton with suspended := nset s.ton.suspended (s.port p).monitor (s.now + 1) } }

/-- DARK of a port is set or cleared (R29 to R31): the table's bit, and the gate word of the port's gate. A clear sets
DKHOLD, and ends the suspension of the port's path check (R209). -/
def State.setDark (s : State) (p : Nat) (dark : Bool) : State :=
  let addr := portBase + 16 * p
  if bit (s.load addr 1) 1 == dark then s
  else
    let s0 := s.store addr 1 (if dark then setBit (s.load addr 1) 1 else clrBit (s.load addr 1) 1)
    let s1 := if dark then s0 else s0.markPort p
    match s1.gateCh p with
    | none => s1
    | some ch =>
      if dark then s1.chWr DRV_CH_GATEW.DARK 1 ch
      else (s1.chWr DRV_CH_GATEW.DKHOLD 1 ch).chWr DRV_CH_GATEW.DARK 0 ch

/-- A 32-bit word of a Port Table entry is written (R18, R20). A port that becomes present, or a monitor that a present port
comes to name, ends a suspension (R209). -/
def State.portWrite (s : State) (p w value : Nat) : State × Nat :=
  let addr := portBase + 16 * p
  match w with
  | 0 =>
    let a := s.tableS addr 0x1 value
    let b := a.1.tableOwner addr 2 value (s.portPinned p)
    let t := b.1.setDark p (bit value 1)
    (if (s.port p).present then t else t.markPort p, max a.2 b.2)
  | 1 =>
    let a := s.tableS (addr + 4) 0xFFFFFFFF value
    (if (s.port p).monitor = (a.1.port p).monitor then a.1 else a.1.markPort p, a.2)
  | 2 => s.tableS (addr + 8) 0xFFFFFFFF value
  | _ => (s.store (addr + 12) 4 value, 0)

/-- A 32-bit word of a Fabric Map entry is written (R18, R23). -/
def State.fmapWrite (s : State) (e w value : Nat) : State × Nat :=
  if w = 0 then s.tableS (fmapBase + 8 * e) 0xFFFFFFFF value else (s, 0)

/-- The 32-bit word of the fabric tables at a BAR0 offset is written; the answer says whether a field of it was
refused, and by what. -/
def State.fabricWord (s : State) (addr value : Nat) : State × Nat :=
  if elemBase ≤ addr ∧ addr < elemBase + 0x20000 then
    s.elemWrite ((addr - elemBase) / 8) ((addr - elemBase) % 8 / 4) value
  else if fmapBase ≤ addr ∧ addr < fmapBase + 0x20000 then
    s.fmapWrite ((addr - fmapBase) / 8) ((addr - fmapBase) % 8 / 4) value
  else if portBase ≤ addr ∧ addr < portBase + 0x8000 then
    s.portWrite ((addr - portBase) / 16) ((addr - portBase) % 16 / 4) value
  else (s, 0)

/-- A refused field of a fabric table word sets CFG_REJECT (R18). -/
def State.fabricWrite (s : State) (addr value : Nat) : State × Nat :=
  let r := s.fabricWord addr value
  (if r.2 ≠ 0 then r.1.plnReject else r.1, r.2)

/-- FABRIC_TABLE_WRITE (R18): a 32-bit write to a word of the Element Table, Port Table or Fabric Map. -/
def execFabricTableWrite (die : Fin 2) (addr : Word) (value : Word) (s : State) : Host.Outcome State Fault Refusal :=
  .next <| s.viaBar0 die addr.toNat fun s => (s.fabricWrite (addr.toNat - addr.toNat % 4) value.toNat).1

/-- DARK_SET (R30). -/
def execDarkSet (die : Fin 2) (port : Fin 2048) (s : State) : Host.Outcome State Fault Refusal :=
  .next <| s.viaBar0 die (portBase + 16 * port) fun s => s.setDark port true

/-- DARK_CLEAR (R31): the clear of a requester of another domain than 0 has no effect and sets CFG_REJECT; where DARK is 0
already nothing changes (R18). -/
def execDarkClear (die : Fin 2) (port : Fin 2048) (domain : Fin 17) (s : State) : Host.Outcome State Fault Refusal :=
  .next <| s.viaBar0 die (portBase + 16 * port) fun s =>
    if domain.val ≠ 0 ∧ (s.port port).dark then s.plnReject
    else if domain.val ≠ 0 then s
    else s.setDark port false

/-! ### Validation (R33 to R35) -/

/-- VALIDATE (R33, R34): validation starts, unless it runs already; while the Plan Engine is enabled the write is
refused. -/
def execValidate (die : Fin 2) (s : State) : Host.Outcome State Fault Refusal :=
  .next <| s.viaBar0 die 0x10F000 fun s =>
    if s.plnOn then s.plnReject
    else if s.on PLN_FMAP_STATUS.BUSY then s
    else
      let s1 := (s.clocksOn 17).wr PLN_FMAP_STATUS.BUSY 1
      { s1 with pln := { s1.pln with touched := false } }

/-- DOMAIN above 16, or OPONLY = 1 with DOMAIN not 0 (error 3 of R35). -/
def badOwner (dom : Nat) (op : Bool) : Bool := decide (16 < dom) || (op && decide (dom ≠ 0))

/-- The error of an Element Table entry, 0 for none (R35): codes 1 and 2 concern elements, 3 and 4 every entry. -/
def State.elemError (s : State) (e : Nat) : Nat :=
  let x := s.elem e
  if x.valid && s.validElems.any fun o => decide (o < e) && (s.elem o).channel == x.channel then 1
  else if x.valid ∧ x.role = 2 ∧ !x.current then 2
  else if badOwner x.domain x.opOnly then 3
  else if 71 < x.zone then 4
  else 0

/-- The links of the Fabric Map and the ENTRY links that stand before place `(t, i, k)` in the order of validation:
table 1 holds the ENTRY links, table 2 the links of elements. -/
def State.linksBefore (s : State) (t i k : Nat) : List Nat :=
  let entries := (s.presentPorts.filter fun p =>
    decide (p < 1024) && (s.port p).gate == 0xFFFF && (t == 2 || decide (p < i))).map fun p => (s.port p).entry
  if t = 1 then entries
  else entries ++ ((s.validElems.filter fun e => decide (e ≤ i)).flatMap fun e =>
    let x := s.elem e
    let n := if x.role = 0 then 2 else if x.role = 1 then 1 else 0
    ((List.range n).filter fun j => decide (e < i) || decide (j < k)).map fun j => s.link e j)

/-- The error of a link at a place in the order of validation (R22, R35): codes 7, 8 and 9. The OUT0 of a present port's own
gate may name that port. A link with bits 15:14 = 0b10 and a number from 2,048 up, which names no port, has error 7 (assumption
80). -/
def State.linkError (s : State) (link t i k : Nat) : Nat :=
  let x := link % 2 ^ 14
  let q := link / 2 ^ 14
  if q = 3 then 0
  else if q = 2 then
    if x < 1024 ∨ 2048 ≤ x then 7
    else if (s.linksBefore t i k).contains link then 9
    else if (s.port x).present ∧ ¬ (t = 2 ∧ k = 0 ∧ (s.port x).gate = i) then 9
    else 0
  else if !s.isElem x || (s.elem x).role == 2 || (s.elem x).role == 3 || (q == 1 && (s.elem x).role != 0) then 7
  else if (s.linksBefore t i k).contains link then 8
  else 0

/-- The error of a Port Table entry, 0 for none (R35). -/
def State.portError (s : State) (p : Nat) : Nat :=
  let x := s.port p
  let before := s.presentPorts.filter fun o => decide (o < p)
  if badOwner x.domain x.opOnly then 3
  else if !x.present then 0
  else if x.gate = 0xFFFF ∧ 1024 ≤ p then 5
  else if x.gate ≠ 0xFFFF ∧ (!s.isElem x.gate || (s.elem x.gate).role != 1 ||
      before.any fun o => (s.port o).gate == x.gate) then 5
  else if x.monitor = 0xFFFF ∧ 1024 ≤ p then 6
  else if x.monitor ≠ 0xFFFF ∧ (decide (1024 ≤ x.monitor) || (before.any fun o => (s.port o).monitor == x.monitor) ||
      (decide (1024 ≤ p) && x.monitor / 128 != s.elemTile x.gate)) then 6
  else
    let l := if x.gate = 0xFFFF ∧ p < 1024 then s.linkError x.entry 1 p 0 else 0
    if l ≠ 0 then l
    else if x.gate ≠ 0xFFFF ∧ (s.elem x.gate).cap < x.blockCode then 12
    else 0

/-- The error of a Fabric Map entry, 0 for none (R35). -/
def State.fmapError (s : State) (e : Nat) : Nat :=
  let x := s.elem e
  let cell (l : Nat) : Bool := l == 0xFFFF || (s.isElem l && (s.elem l).role == 0)
  if x.role = 2 then (if cell (s.link e 0) && cell (s.link e 1) then 0 else 11)
  else if x.role = 3 then 0
  else
    let a := s.linkError (s.link e 0) 2 e 0
    if a ≠ 0 then a else if x.role = 0 then s.linkError (s.link e 1) 2 e 1 else 0

/-- The element at which a trace from a link fails under some choice of states (error 10 of R35): one it enters a
second time, or the 49th. `seen` lists the elements entered; output 0 is tried before output 1. -/
def State.badTrace (s : State) : Nat → List Nat → Nat → Option Nat
  | 0, _, link => if link / 2 ^ 14 < 2 then some (link % 2 ^ 14) else none
  | fuel + 1, seen, link =>
    if 2 ≤ link / 2 ^ 14 then none
    else
      let x := link % 2 ^ 14
      if seen.contains x then some x
      else
        match s.badTrace fuel (x :: seen) (s.link x 0) with
        | some r => some r
        | none => if (s.elem x).role = 0 then s.badTrace fuel (x :: seen) (s.link x 1) else none

/-- The first entry with an error: its index and the error. -/
def firstError (idx : List Nat) (err : Nat → Nat) : Option (Nat × Nat) :=
  (idx.find? fun i => err i != 0).map fun i => (i, err i)

/-- The first error of validation: table, index and code (R34, R35). -/
def State.firstFmapError (s : State) : Option (Nat × Nat × Nat) :=
  match firstError (s.listed elemBase 8 16384) s.elemError with
  | some r => some (0, r)
  | none =>
    match firstError (s.listed portBase 16 2048) s.portError with
    | some r => some (1, r)
    | none =>
      match firstError s.validElems s.fmapError with
      | some r => some (2, r)
      | none =>
        ((s.presentPorts.filter fun p => decide (p < 1024)).findSome? fun p =>
          let x := s.port p
          s.badTrace 48 [] (if x.gate = 0xFFFF then x.entry else s.link x.gate 0)).map fun e => (2, e, 10)

/-- VALIDATION_DONE (R34, R35): the result of the validation in progress. VALID is 1 if no check failed and no table
has changed since the validation began. -/
def execValidationDone (s : State) : Host.Outcome State Fault Refusal :=
  .next <|
    if !s.on PLN_FMAP_STATUS.BUSY then s
    else
      let s1 := s.wr PLN_FMAP_STATUS.BUSY 0
      match s.firstFmapError with
      | none =>
        (((s1.wr PLN_FMAP_STATUS.VALID (b2n (!s.pln.touched))).wr PLN_FMAP_STATUS.ERROR 0).wr
          PLN_FMAP_STATUS.ERR_TABLE 0).wr PLN_FMAP_ERR.ERR_INDEX 0
      | some (t, i, c) =>
        (((s1.wr PLN_FMAP_STATUS.VALID 0).wr PLN_FMAP_STATUS.ERROR c).wr PLN_FMAP_STATUS.ERR_TABLE t).wr
          PLN_FMAP_ERR.ERR_INDEX i

/-- CROSSING_SET_DONE (R26): the crossing sets of the last commit are complete, and the counts follow them. A port that leaves
the set of a lost tile ends the suspension of its path check (R209). -/
def execCrossingSetDone (s : State) : Host.Outcome State Fault Refusal :=
  .next <|
    match s.pln.crossingDue with
    | none => s
    | some _ =>
      let s1 : State := { s with pln := { s.pln with crossingOld := [], crossingDue := none } }
      let left := (List.range 8).flatMap fun k =>
        if s.tileLost k then (s.crossing k).filter fun q => !(s1.crossing k).contains q else []
      let s2 := left.foldl State.markPort s1
      (List.range 8).foldl (fun t k => t.wr PLN_REACH_CNT.COUNT (s1.crossing k).length k) s2

end Sys2Proof.Machine
end

