-- ==== Sys2Proof/Machine/Host.lean ====
section
/-! DEFINITION. The Host Port (chapter 2): doorbells, fetching and accepting descriptors, NOP and FENCE, completions,
telemetry records, coalescing, host-side resets and the ring enables. -/
namespace Sys2Proof.Machine

/-! ### Doorbells (R50 to R52) -/

/-- Descriptors pending between a head and a tail of a ring of `n` entries. -/
def span (n head tail : Nat) : Nat := (tail + n - head) % n

/-- A doorbell is discarded: the ring's DB_RANGE flag and the DB_RANGE error bit are set (R52). -/
def State.dbRange (s : State) (die ring : Nat) (f : Fld) (addr : Nat) : State := (s.wr f 1 ring).hptError die 1 ring addr

/-- A doorbell of word `off` of page `page` through a die's BAR2: it acts on the active die, and sets DB_STANDBY on
another (R41). -/
def State.viaBar2 (s : State) (die page off : Nat) (f : State → State) : State :=
  if s.d3hot die then s
  else if s.isActive die || !s.on HPT_STATUS.READY then f s
  else s.hptError die 2 page (0x1000 * page + off)

/-- A new tail of a submission ring is written (R52). -/
def State.sqDoorbell (s : State) (die page value : Nat) : State :=
  s.viaBar2 die page 0 fun s =>
    let v := value % 2 ^ 16
    let n := ringSize (s.rd HPT_SQ_CFG.SIZE_LOG2 page)
    let head := s.rd HPT_SQ_HEAD.HEAD page
    if !s.on HPT_SQ_CFG.ENABLE page || decide (n ≤ v) ||
        decide (span n head v < span n head (s.rd HPT_SQ_TAIL.TAIL page)) then
      s.dbRange die page HPT_SQ_STATUS.DB_RANGE (0x1000 * page)
    else s.wr HPT_SQ_TAIL.TAIL v page

/-- A new head of a completion ring is written (R52). Room in the ring lets waiting completions move on (R70). -/
def State.cqDoorbell (s : State) (die page value : Nat) : State :=
  s.viaBar2 die page 4 fun s =>
    let v := value % 2 ^ 16
    let n := ringSize (s.rd HPT_CQ_CFG.SIZE_LOG2 page)
    let head := s.rd HPT_CQ_HEAD.HEAD page
    if !s.on HPT_CQ_CFG.ENABLE page || decide (n ≤ v) ||
        decide (span n head (s.rd HPT_CQ_TAIL.TAIL page) < span n head v) then
      s.dbRange die page HPT_CQ_STATUS.DB_RANGE (0x1000 * page + 4)
    else
      let s1 := s.wr HPT_CQ_HEAD.HEAD v page
      let held := s1.cqHeld page
      (s1.wr HPT_CQ_STATUS.HELD held page).wr HPT_CQ_STATUS.STALL (b2n (held != 0)) page

/-- A new head of a telemetry ring is written (R52): ignored for pages from 16 up. -/
def State.tqDoorbell (s : State) (die page value : Nat) : State :=
  s.viaBar2 die page 8 fun s =>
    if 16 ≤ page then s else
    let v := value % 2 ^ 16
    let n := ringSize (s.rd HPT_TQ_CFG.SIZE_LOG2 page)
    let head := s.rd HPT_TQ_HEAD.HEAD page
    if !s.on HPT_TQ_CFG.ENABLE page || decide (n ≤ v) ||
        decide (span n head (s.rd HPT_TQ_TAIL.TAIL page) < span n head v) then
      s.dbRange die page HPT_TQ_STATUS.DB_RANGE (0x1000 * page + 8)
    else s.wr HPT_TQ_HEAD.HEAD v page

/-- DOORBELL_SQ_TAIL (R52). -/
def execDoorbellSqTail (die : Fin 2) (page : Fin 64) (value : Word) (s : State) : Host.Outcome State Fault Refusal :=
  .next <| s.sqDoorbell die page value.toNat

/-- DOORBELL_CQ_HEAD (R52). -/
def execDoorbellCqHead (die : Fin 2) (page : Fin 64) (value : Word) (s : State) : Host.Outcome State Fault Refusal :=
  .next <| s.cqDoorbell die page value.toNat

/-- DOORBELL_TQ_HEAD (R52). -/
def execDoorbellTqHead (die : Fin 2) (page : Fin 64) (value : Word) (s : State) : Host.Outcome State Fault Refusal :=
  .next <| s.tqDoorbell die page value.toNat

/-! ### Fetching and accepting (R53 to R59) -/

/-- Descriptors of a ring asked for and fetched that are not yet accepted. -/
def State.comingIn (s : State) (ring : Nat) : Nat :=
  ((s.hpt.fetching.filter fun f => f.1 == ring).map fun f => f.2).sum +
    (s.hpt.fetched.filter fun f => f.1 == ring).length

/-- All descriptors asked for and fetched that are not yet accepted. -/
def State.allComingIn (s : State) : Nat := (s.hpt.fetching.map fun f => f.2).sum + s.hpt.fetched.length

/-- Descriptors of a ring that the limits of R54 let the Host Port still fetch. -/
def State.fetchRoom (s : State) (ring : Nat) : Nat :=
  let m := s.rd HPT_SQ_CFG.MAX_INFLIGHT ring
  min (Config.maxAccepted - (s.allInflight + s.allComingIn))
    ((if m = 0 then 256 else m) - (s.inflight ring + s.comingIn ring))

/-- A ring has descriptors announced and not fetched, and is served (R54, R55, R81). -/
def State.wantsFetch (s : State) (ring : Nat) : Bool :=
  s.on HPT_CTL.ENABLE && s.on HPT_SQ_CFG.ENABLE ring && !s.on HPT_SQ_STATUS.ERROR ring && !s.d3hot s.active &&
    s.rd HPT_SQ_HEAD.HEAD ring != s.rd HPT_SQ_TAIL.TAIL ring

/-- The ring's fetching is held by R54, or by a full queue of its completion ring (R70). -/
def State.fetchHeld (s : State) (ring : Nat) : Bool :=
  s.fetchRoom ring == 0 || s.cqHeld (s.rd HPT_SQ_CFG.CQ ring) == Config.cqHeld

/-- The ring may be fetched from now. -/
def State.canFetch (s : State) (ring : Nat) : Bool := s.wantsFetch ring && !s.fetchHeld ring

/-- The next ring in round-robin order after `last` among those of an urgency that may be fetched (R53). -/
def State.nextRing (s : State) (urgent : Bool) (last : Nat) : Option Nat :=
  ((List.range 64).map fun k => (last + 1 + k) % 64).find? fun r =>
    s.on HPT_SQ_CFG.URGENT r == urgent && s.canFetch r

/-- The ring that R53 fetches from next. -/
def State.fetchChoice (s : State) : Option Nat :=
  match s.nextRing true s.hpt.lastUrgent with
  | some r => some r
  | none => s.nextRing false s.hpt.lastNormal

/-- The host address of entry `i` of `size` bytes in a ring with the given base fields. -/
def entryAddr (lo hi size i : Nat) : Nat := hi * 2 ^ 32 + lo * 2 ^ 12 + size * i

/-- DESCRIPTOR_FETCH (R53): the read for up to 8 descriptors of the ring that R53 chooses, never past the ring's end nor
above the maximum read request (R39), while a read may be outstanding (R81). -/
def execDescriptorFetch (ring : Fin 64) (s : State) : Host.Outcome State Fault Refusal :=
  .next <|
    if s.fetchChoice != some ring.val || !s.readSlot then s
    else
      let size := ringSize (s.rd HPT_SQ_CFG.SIZE_LOG2 ring)
      let head := s.rd HPT_SQ_HEAD.HEAD ring
      let n := min (min (min 8 (s.maxRead s.active / 64)) (size - head))
        (min (span size head (s.rd HPT_SQ_TAIL.TAIL ring)) (s.fetchRoom ring))
      let addr := entryAddr (s.rd HPT_SQ_BASE_LO.BASE ring) (s.rd HPT_SQ_BASE_HI.BASE ring) 64 head
      let urgent := s.on HPT_SQ_CFG.URGENT ring
      let s1 := s.wr HPT_SQ_HEAD.HEAD ((head + n) % size) ring
      { s1 with
        hpt := { s1.hpt with
          fetching := s1.hpt.fetching ++ [(ring.val, n)]
          lastUrgent := if urgent then ring else s1.hpt.lastUrgent
          lastNormal := if urgent then s1.hpt.lastNormal else ring }
        out := .read s1.active addr (64 * n) :: s1.out }

/-- Whether a domain other than 0 may issue an opcode, `none` for an unknown opcode (R57). COUNTER_SNAP is limited by
PMC_ACCESS (R458). -/
def tenantMay (op : Nat) : Option Bool :=
  if op = opNop ∨ op = opFence ∨ op = opPlanLoad ∨ op = opPlanCommit ∨ op = opPlanAbort ∨ op = opPlanFree ∨
      op = opCtxWrite ∨ op = opCtxRead ∨ op = opTableDma ∨ op = opStreamOpen ∨ op = opStreamClose ∨
      op = opTelemetryCfg ∨ op = opCounterSnap then some true
  else if op = opOrbitLoad ∨ op = opOrbitStart ∨ op = opOrbitStop ∨ op = opCalRun ∨ op = opScrubRange ∨
      op = opEclipseClear ∨ op = opFailover then some false
  else none

/-- CAL_LIVE_PATH (R315). -/
def stCalLivePath : Nat := 0x0603

/-- The status with which R58 completes a fetched descriptor at once, OK when it is accepted. A CURVE_SWEEP of an element that a
tenant's live path crosses is refused here, before its body is looked at (R314, assumption 97). -/
def State.acceptStatus (s : State) (ring : Nat) (bs : List Byte) : Nat :=
  match tenantMay (field bs 0 1) with
  | none => stBadOpcode
  | some all =>
    if 8 ≤ field bs 1 1 ∨ field bs 4 4 ≠ 0 then stBadField
    else
      let dom := s.ringDom ring
      if field bs 0 1 = opCounterSnap ∧ s.rd PMC_ACCESS.SNAP s.active dom = 0 then stDomainDenied
      else if dom ≠ 0 ∧ !all then stDomainDenied
      else if field bs 0 1 = opCalRun ∧ field bs 8 1 = 4 ∧ s.livePathThrough (field bs 12 4) then stCalLivePath
      else stOK

/-- A FENCE of the ring whose body is zero has been accepted and has not completed (R61). -/
def State.fenced (s : State) (ring : Nat) : Bool :=
  s.hpt.accepted.any fun d => d.ring == ring && d.op == opFence && zeros d.bytes 8 56

/-- One fetched descriptor is checked and accepted, or completed with its error (R58). -/
def State.accept (s : State) (ring : Nat) (bs : List Byte) : State :=
  let d : Desc := { id := s.hpt.nextId, ring := ring, op := field bs 0 1, flags := field bs 1 1, tag := field bs 2 2,
                    acc := s.ticks, bytes := bs, cq := s.rd HPT_SQ_CFG.CQ ring, lost := false,
                    dom := s.ringDom ring }
  let s1 : State := { s with hpt := { s.hpt with nextId := s.hpt.nextId + 1, accepted := s.hpt.accepted ++ [d] } }
  let st := s.acceptStatus ring bs
  if st = stOK then s1.hptRefresh ring d.cq else s1.done d st

/-- Fetched descriptors of a ring are accepted in ring order until a FENCE stands before them (R59, R61). `fuel`
bounds the number. -/
def State.acceptAll (s : State) (ring : Nat) : Nat → State
  | 0 => s
  | fuel + 1 =>
    if s.fenced ring then s else
    match takeFirst (fun f => f.1 == ring) s.hpt.fetched with
    | none => s
    | some ((_, bs), rest) =>
      let s1 : State := { s with hpt := { s.hpt with fetched := rest } }
      (s1.accept ring bs).acceptAll ring fuel

/-- The first `n` pieces of 64 bytes of a read's data. -/
def pieces64 : Nat → List Byte → List (List Byte)
  | 0, _ => []
  | n + 1, bs => bs.take 64 :: pieces64 n (bs.drop 64)

/-- The host address of a ring's oldest read in flight: its head less what the reads in flight asked for. -/
def State.oldestRead (s : State) (ring : Nat) : Nat :=
  let size := ringSize (s.rd HPT_SQ_CFG.SIZE_LOG2 ring)
  let asked := ((s.hpt.fetching.filter fun f => f.1 == ring).map fun f => f.2).sum
  entryAddr (s.rd HPT_SQ_BASE_LO.BASE ring) (s.rd HPT_SQ_BASE_HI.BASE ring) 64
    ((s.rd HPT_SQ_HEAD.HEAD ring + size - asked % size) % size)

/-- DESCRIPTOR_ACCEPT (R58): the data of the ring's oldest read arrives. `none` is a read that ended in error, as one whose
data is short or poisoned does: the ring's ERROR bit and FETCH_ERR are set and the ring fetches no more (R55). Descriptors
that its later reads in flight bring are still accepted (assumption 76). -/
def execDescriptorAccept (ring : Fin 64) (read : HostRead (Option (List Byte))) (s : State) :
    Host.Outcome State Fault Refusal :=
  .next <|
    match takeFirst (fun f => f.1 == ring.val) s.hpt.fetching with
    | none => s.acceptAll ring s.hpt.fetched.length
    | some ((_, n), rest) =>
      let s0 := s.poison read.poisoned ring (s.oldestRead ring)
      let s1 : State := { s0 with hpt := { s0.hpt with fetching := rest } }
      let bs := read.data.getD []
      if read.poisoned || read.data.isNone || decide (bs.length < 64 * n) then
        (s1.wr HPT_SQ_STATUS.ERROR 1 ring).hptError s1.active 4 ring (s.oldestRead ring)
      else
        let s2 : State := { s1 with hpt := { s1.hpt with
          fetched := s1.hpt.fetched ++ (pieces64 n bs).map fun p => (ring.val, p) } }
        s2.acceptAll ring s2.hpt.fetched.length

/-- NOP (R60): EXECUTED equals ACCEPTED on OK. -/
def execNop (id : Nat) (s : State) : Host.Outcome State Fault Refusal :=
  .next <| s.withOp id opNop fun d =>
    if zeros d.bytes 8 56 then s.finish d stOK none d.acc else s.done d stBadField

/-- FENCE (R61): it completes once every earlier descriptor of its ring has completed, and the descriptors behind it
are then accepted. -/
def execFence (id : Nat) (s : State) : Host.Outcome State Fault Refusal :=
  .next <| s.withOp id opFence fun d =>
    if !zeros d.bytes 8 56 then
      let s1 := s.done d stBadField
      s1.acceptAll d.ring s1.hpt.fetched.length
    else if s.hpt.accepted.any fun x => x.ring == d.ring && decide (x.id < d.id) then s
    else
      let s1 := s.done d stOK
      s1.acceptAll d.ring s1.hpt.fetched.length

/-! ### Completions and telemetry records (R65 to R78) -/

/-- A ring signals its vector when R78 says so, after one more entry was written; `now` asks for a signal at once. The
signals of telemetry ring t are kept at 64 + t. -/
def State.signal (s : State) (key vec count : Nat) (now : Bool) : State :=
  let g := (aget s.hpt.sig key).getD { count := 0, since := s.now }
  let n := g.count + 1
  if now || decide ((if count = 0 then 1 else count) ≤ n) then
    ({ s with hpt := { s.hpt with sig := adel s.hpt.sig key } } : State).msix vec
  else
    { s with hpt := { s.hpt with sig := aput s.hpt.sig key { count := n, since := if g.count = 0 then s.now else g.since } } }

/-- The 32 bytes of a completion (R65) with its SEQ, phase and the submission ring's head. -/
def complBytes (c : Compl) (seq head phase : Nat) : List Byte :=
  leBytes 4 seq ++ leBytes 2 c.status ++ leBytes 2 c.tag ++ leBytes 1 c.sq ++
    leBytes 1 (c.flags % 16 + 128 * phase) ++ leBytes 2 head ++ leBytes 4 c.result ++ leBytes 8 c.acc ++ leBytes 8 c.exe

/-- A completion is written at its ring's tail with a SEQ (R68): the tail advances, the phase inverts on the wrap, and
the ring signals under R78. -/
def State.writeCompl (s : State) (c : Compl) (seq : Nat) : State :=
  let cq := c.cq
  let size := ringSize (s.rd HPT_CQ_CFG.SIZE_LOG2 cq)
  let tail := s.rd HPT_CQ_TAIL.TAIL cq
  let phase := s.rd HPT_CQ_TAIL.PHASE cq
  let addr := entryAddr (s.rd HPT_CQ_BASE_LO.BASE cq) (s.rd HPT_CQ_BASE_HI.BASE cq) 32 tail
  let s1 := s.toHost addr (complBytes c seq (s.rd HPT_SQ_HEAD.HEAD c.sq) phase)
  let s2 := s1.wr HPT_CQ_TAIL.TAIL ((tail + 1) % size) cq
  let s3 := if (tail + 1) % size = 0 then s2.wr HPT_CQ_TAIL.PHASE (1 - phase) cq else s2
  s3.signal cq (s.rd HPT_CQ_CFG.VECTOR cq) (s.rd HPT_CQ_COAL.COAL_COUNT cq)
    (c.irq || c.status != stOK || bit c.flags 1)

/-- COMPLETION_WRITE (R70): the oldest completion owed to the ring is written, if the ring leaves a free slot. A
completion written again after a failover keeps its SEQ and carries REPOST (R71). -/
def execCompletionWrite (cq : Fin 64) (s : State) : Host.Outcome State Fault Refusal :=
  .next <|
    if !s.on HPT_CQ_CFG.ENABLE cq || s.cqFull cq then s else
    match takeFirst (fun c => c.cq == cq.val) s.hpt.owed with
    | none => s
    | some (c, rest) =>
      match c.repost with
      | some seq =>
        let s1 := s.writeCompl { c with flags := c.flags % 8 + 8 } seq
        ({ s1 with hpt := { s1.hpt with owed := rest } } : State).hptRefresh c.sq cq
      | none =>
        let seq := (s.rd HPT_CQ_SEQ.SEQ cq + 1) % 2 ^ 32
        let s1 := (s.wr HPT_CQ_SEQ.SEQ seq cq).writeCompl c seq
        let mine := (s1.hpt.posted.filter fun p => p.c.cq == cq.val).take 63
        let s2 : State := { s1 with hpt := { s1.hpt with
          owed := rest
          posted := { seq := seq, c := c } :: mine ++ s1.hpt.posted.filter fun p => p.c.cq != cq.val } }
        s2.hptRefresh c.sq cq

/-- After a failover the completions last written to each enabled ring are owed again, oldest first and ahead of the
others (R71, R393), and the first telemetry record written to each ring carries LOST (R393). -/
def State.repost (s : State) : State :=
  let s1 : State := { s with hpt := { s.hpt with
      owed := ((s.hpt.posted.filter fun p => s.on HPT_CQ_CFG.ENABLE p.c.cq).reverse.map fun p =>
        { p.c with repost := some p.seq }) ++ s.hpt.owed.filter fun c => c.repost.isNone
      tqLost := (List.range 16).map fun t => (t, 1) } }
  (List.range 64).foldl State.cqRefresh s1

/-- The 64 bytes of a telemetry record (R72). -/
def telBytes (r : TelRec) (seq lost phase : Nat) : List Byte :=
  leBytes 4 seq ++ leBytes 1 r.type ++ leBytes 1 (lost + 128 * phase) ++ leBytes 2 r.source ++ leBytes 8 r.stamp ++
    (r.payload ++ List.replicate 48 0).take 48

/-- A telemetry ring is full (R76). -/
def State.tqFull (s : State) (tq : Nat) : Bool :=
  (s.rd HPT_TQ_TAIL.TAIL tq + 1) % ringSize (s.rd HPT_TQ_CFG.SIZE_LOG2 tq) == s.rd HPT_TQ_HEAD.HEAD tq

/-- The oldest record formed for a ring is written at its tail, or dropped and counted when the ring is full or not enabled. The
next record written after a drop carries LOST (R76). -/
def State.writeRecord (s : State) (tq : Fin 16) : State :=
    match takeFirst (fun r : TelRec => r.tq == tq.val) s.hpt.telq with
    | none => s
    | some (r, rest) =>
      let s1 : State := { s with hpt := { s.hpt with telq := rest } }
      if !s1.on HPT_TQ_CFG.ENABLE tq then s1
      else if s1.tqFull tq then
        let s2 := s1.bump HPT_TQ_LOST.COUNT 1 tq
        let s3 : State := { s2 with hpt := { s2.hpt with tqLost := nset s2.hpt.tqLost tq 1 } }
        s3.hptError s3.active 7 tq 0
      else
        let size := ringSize (s1.rd HPT_TQ_CFG.SIZE_LOG2 tq)
        let tail := s1.rd HPT_TQ_TAIL.TAIL tq
        let phase := s1.rd HPT_TQ_TAIL.PHASE tq
        let seq := (s1.rd HPT_TQ_SEQ.SEQ tq + 1) % 2 ^ 32
        let addr := entryAddr (s1.rd HPT_TQ_BASE_LO.BASE tq) (s1.rd HPT_TQ_BASE_HI.BASE tq) 64 tail
        let s2 := s1.emit (.host s1.active addr (s1.on HPT_DMA_CFG.RO_TELEM)
          (telBytes r seq (nget s1.hpt.tqLost tq) phase))
        let s3 := (s2.wr HPT_TQ_SEQ.SEQ seq tq).wr HPT_TQ_TAIL.TAIL ((tail + 1) % size) tq
        let s4 := if (tail + 1) % size = 0 then s3.wr HPT_TQ_TAIL.PHASE (1 - phase) tq else s3
        let s5 : State := { s4 with hpt := { s4.hpt with tqLost := nset s4.hpt.tqLost tq 0 } }
        s5.signal (64 + tq) (s5.rd HPT_TQ_CFG.VECTOR tq) (s5.rd HPT_TQ_COAL.COAL_COUNT tq) false

/-- COAL_TIME_EXPIRY (R78): COAL_TIME µs after the ring's oldest unsignalled entry was written, the ring signals. -/
def execCoalTimeExpiry (telemetry : Bool) (ring : Fin 64) (s : State) : Host.Outcome State Fault Refusal :=
  .next <|
    let key := if telemetry then 64 + ring.val else ring.val
    let t := if telemetry then s.rd HPT_TQ_COAL.COAL_TIME ring else s.rd HPT_CQ_COAL.COAL_TIME ring
    let vec := if telemetry then s.rd HPT_TQ_CFG.VECTOR ring else s.rd HPT_CQ_CFG.VECTOR ring
    if telemetry && decide (16 ≤ ring.val) then s else
    match aget s.hpt.sig key with
    | none => s
    | some g =>
      if t = 0 then s else
      let s1 := s.reach (g.since + Config.framesPerUs * t)
      ({ s1 with hpt := { s1.hpt with sig := adel s1.hpt.sig key } } : State).msix vec

/-! ### Host-side resets (R79, R80) -/

/-- Every accepted descriptor's completion will be dropped, and those owed are dropped and counted (R79), the re-posted copies
that still wait among them (R71, assumption 77). -/
def State.dropAll (s : State) : State :=
  let s1 := s.bump HPT_LOST_COMP.COUNT s.hpt.owed.length s.active
  let s2 : State := { s1 with hpt := { s1.hpt with
    owed := []
    accepted := s1.hpt.accepted.map fun d => { d with lost := true }
    fetching := [], fetched := [], posted := [], bindings := [], telq := [], sig := [], tqLost := [] } }
  s2.wr HPT_INFLIGHT.COUNT s2.hpt.accepted.length

/-- A host-side reset of one die's endpoint (R79): the per-die HPT fields, configuration space and the MSI-X table return to
their reset values, no vector is pending, HEADLESS is 1 and the reset is counted; LINK_UP, LINK_WIDTH and LINK_SPEED read 0 where
the reset takes the link down (R80). At the active die's endpoint every ring and ring register and every telemetry binding goes
as well. -/
def State.hostReset (s : State) (die : Nat) (linkDown : Bool) : State :=
  let off := 0x10000000 * die
  let s1 := s.clearRegs (off + 0x0C) (off + 0x1C)
  let s2 := (s1.wr HPT_STATUS.HEADLESS 1 die).bump HPT_HEADLESS_CNT.COUNT 1 die
  let s3 := if linkDown then
      ((s2.wr HPT_STATUS.LINK_UP 0 die).wr HPT_STATUS.LINK_WIDTH 0 die).wr HPT_STATUS.LINK_SPEED 0 die
    else s2
  let s4 := (s3.clearMem (msixBase die) (msixBase (die + 1))).clearMem (cfgBase die) (cfgBase (die + 1))
  let s4 : State := { s4 with hpt := { s4.hpt with pba := s4.hpt.pba.filter fun c => c.1 / 256 != die } }
  if s.isActive die then
    ((((s4.clearRegs 0x04 0x08).clearRegs 0x1C 0x24).clearRegs 0x400 0x500).clearRegs 0x1000 0x3400).wr
      HPT_STATUS.CFG_REJECT 0 |>.dropAll
  else s4

/-- PERST_ASSERT (R79). -/
def execPerstAssert (die : Fin 2) (s : State) : Host.Outcome State Fault Refusal :=
  .next <| { s.hostReset die true with pins := { s.pins with perst := nset s.pins.perst die 1 } }

/-- PERST_RELEASE (R478): the endpoint starts link training, once step 2 of the Dawn has ended. -/
def execPerstRelease (die : Fin 2) (s : State) : Host.Outcome State Fault Refusal :=
  .next <| { s with pins := { s.pins with
    perst := nset s.pins.perst die 0
    training := nset s.pins.training die (if s.on HPT_STATUS.LINK_UP die then 0 else 1) } }

/-- HOT_RESET (R79). -/
def execHotReset (die : Fin 2) (s : State) : Host.Outcome State Fault Refusal :=
  .next <|
    let s1 := s.hostReset die true
    { s1 with pins := { s1.pins with training := nset s1.pins.training die 1 } }

/-- LINK_DISABLE (R79). -/
def execLinkDisable (die : Fin 2) (s : State) : Host.Outcome State Fault Refusal :=
  .next <|
    let s1 := s.hostReset die true
    { s1 with pins := { s1.pins with training := nset s1.pins.training die 1 } }

/-- DATA_LINK_LOSS (R79): the die also raises HOST_LINK (R346). -/
def execDataLinkLoss (die : Fin 2) (s : State) : Host.Outcome State Fault Refusal :=
  .next <|
    let s1 := s.hostReset die true
    ({ s1 with pins := { s1.pins with training := nset s1.pins.training die 1 } } : State).raise (srcDie die 13) 0 die

/-- FUNCTION_LEVEL_RESET (R79): the link stays up. -/
def execFunctionLevelReset (die : Fin 2) (s : State) : Host.Outcome State Fault Refusal :=
  .next <| s.hostReset die false

/-- RETURN_FROM_D3HOT (R79): the link stays up, and the reset of configuration space leaves the die in D0. -/
def execReturnFromD3hot (die : Fin 2) (s : State) : Host.Outcome State Fault Refusal :=
  .next <| s.hostReset die false

/-- LINK_TRAINED (R80): an endpoint that trains, with PERST_N released and step 2 of the Dawn ended (R478), reports
the width and speed it trained to, both from 1 up (R81). -/
def execLinkTrained (die : Fin 2) (width : Fin 5) (speed : Fin 6) (s : State) : Host.Outcome State Fault Refusal :=
  .next <|
    if nget s.pins.training die = 0 ∨ nget s.pins.perst die ≠ 0 ∨ s.rd PWR_STATUS.DAWN_STEP < 2 ∨ width.val = 0 ∨
        width.val = 3 ∨ speed.val = 0 then s
    else
      let s1 := ((s.wr HPT_STATUS.LINK_UP 1 die).wr HPT_STATUS.LINK_WIDTH width die).wr HPT_STATUS.LINK_SPEED speed die
      { s1 with pins := { s1.pins with training := nset s1.pins.training die 0 } }

/-! ### Enables (R68, R80 to R83) -/

/-- HPT_CTL_ENABLE (R81): 1 serves the rings and ends the headless hold of the endpoint written through (R80); 0 stops
all fetching. -/
def execHptCtlEnable (die : Fin 2) (value : Bool) (s : State) : Host.Outcome State Fault Refusal :=
  .next <| s.viaBar0 die 0x04 fun s =>
    let s1 := s.wr HPT_CTL.ENABLE (b2n value)
    if value then s1.wr HPT_STATUS.HEADLESS 0 die else s1

/-- A refused write of an HPT field (R9). -/
def State.hptReject (s : State) : State := s.wr HPT_STATUS.CFG_REJECT 1

/-- SQ_ENABLE (R82): enabling sets head and tail to 0, and is refused while CQ names a completion ring of another
domain or one that is not enabled (R48). Disabling clears ERROR (R55) and ends the ring's fetches; accepted
descriptors still complete. -/
def execSqEnable (die : Fin 2) (ring : Fin 64) (value : Bool) (s : State) : Host.Outcome State Fault Refusal :=
  .next <| s.viaBar0 die (0x1008 + 0x40 * ring) fun s =>
    let cq := s.rd HPT_SQ_CFG.CQ ring
    if s.on HPT_SQ_CFG.ENABLE ring == value then s
    else if value then
      if !s.on HPT_CQ_CFG.ENABLE cq || s.ringDom cq != s.ringDom ring then s.hptReject
      else ((s.wr HPT_SQ_CFG.ENABLE 1 ring).wr HPT_SQ_HEAD.HEAD 0 ring).wr HPT_SQ_TAIL.TAIL 0 ring
    else
      let s1 := (s.wr HPT_SQ_CFG.ENABLE 0 ring).wr HPT_SQ_STATUS.ERROR 0 ring
      { s1 with hpt := { s1.hpt with
          fetching := s1.hpt.fetching.filter fun f => f.1 != ring.val
          fetched := s1.hpt.fetched.filter fun f => f.1 != ring.val } }

/-- CQ_ENABLE (R68): enabling sets tail and head to 0, the phase to 1 and SEQ to 0. Disabling is refused while an enabled
submission ring names the ring; otherwise the completions owed to it are dropped and counted, and so are those of its
descriptors still in execution when they complete (R48). -/
def execCqEnable (die : Fin 2) (ring : Fin 64) (value : Bool) (s : State) : Host.Outcome State Fault Refusal :=
  .next <| s.viaBar0 die (0x2008 + 0x40 * ring) fun s =>
    if s.on HPT_CQ_CFG.ENABLE ring == value then s
    else if value then
      let s1 := ((((s.wr HPT_CQ_CFG.ENABLE 1 ring).wr HPT_CQ_TAIL.TAIL 0 ring).wr HPT_CQ_HEAD.HEAD 0 ring).wr
        HPT_CQ_TAIL.PHASE 1 ring).wr HPT_CQ_SEQ.SEQ 0 ring
      { s1 with hpt := { s1.hpt with
          posted := s1.hpt.posted.filter fun p => p.c.cq != ring.val
          sig := adel s1.hpt.sig ring } }
    else if (List.range 64).any fun r => s.on HPT_SQ_CFG.ENABLE r && s.rd HPT_SQ_CFG.CQ r == ring.val then s.hptReject
    else
      let s1 := (s.wr HPT_CQ_CFG.ENABLE 0 ring).bump HPT_LOST_COMP.COUNT
        (s.hpt.owed.filter fun c => c.cq == ring.val).length s.active
      let s2 : State := { s1 with hpt := { s1.hpt with
          owed := s1.hpt.owed.filter fun c => c.cq != ring.val
          accepted := s1.hpt.accepted.map fun d => if d.cq == ring.val then { d with lost := true } else d } }
      (List.range 64).foldl (fun t r => t.wr HPT_SQ_STATUS.INFLIGHT (t.inflight r) r)
        (((s2.wr HPT_INFLIGHT.COUNT s2.allInflight).wr HPT_CQ_STATUS.HELD 0 ring).wr
          HPT_CQ_STATUS.STALL 0 ring)

/-- TQ_ENABLE (R83): enabling sets tail and head to 0, the phase to 1, SEQ to 0 and the lost count to 0. It also drops the mark
that R76 leaves for the next record (assumption 78). -/
def execTqEnable (die : Fin 2) (ring : Fin 16) (value : Bool) (s : State) : Host.Outcome State Fault Refusal :=
  .next <| s.viaBar0 die (0x3008 + 0x40 * ring) fun s =>
    if s.on HPT_TQ_CFG.ENABLE ring == value then s
    else if value then
      let s1 := (((((s.wr HPT_TQ_CFG.ENABLE 1 ring).wr HPT_TQ_TAIL.TAIL 0 ring).wr HPT_TQ_HEAD.HEAD 0 ring).wr
        HPT_TQ_TAIL.PHASE 1 ring).wr HPT_TQ_SEQ.SEQ 0 ring).wr HPT_TQ_LOST.COUNT 0 ring
      { s1 with hpt := { s1.hpt with
          sig := adel s1.hpt.sig (64 + ring)
          tqLost := nset s1.hpt.tqLost ring 0 } }
    else s.wr HPT_TQ_CFG.ENABLE 0 ring

end Sys2Proof.Machine
end

