-- ==== Sys2Proof/Machine/FastPath.lean ====
section
/-! DEFINITION. The fast path's correction (R172, R173): what the commit's verify, the demodulators and the captures take
from one raw code. -/
namespace Sys2Proof.Machine

/-- The range in force of a monitor (R169). -/
def State.rangeOf (s : State) (m : Nat) : Nat := s.eff MON_IN_CFG.RANGE (m / 128) (m % 128)

/-- The corrected value and flags of one raw fast code of a monitor (R172, R173). -/
def State.fastOf (s : State) (m raw : Nat) : FastVal :=
  let r := s.rangeOf m
  let off := toS 12 (s.eff MON_IN_CF_FAST.OFF (m / 128) (m % 128) r)
  let u := (((raw : Int) - off) * (s.eff MON_IN_CF_FAST.GAIN (m / 128) (m % 128) r : Nat) + 8192) / 16384
  { code := (clampI 0 4095 u).toNat
    flags := b2n (decide (raw = 4095) || decide (4095 < u)) + 2 * b2n (decide (u < 0)) +
      4 * b2n (nget s.mon.settle m != 0)
    u := clampI (-32768) 32767 u }

/-- The latest raw code of a monitor. -/
def State.rawOf (s : State) (m : Nat) : Nat := s.mRd MON_IN_FAST.RAW m

/-- The raw code of a monitor among readings: an input that they do not name stands as it was. -/
def State.rawIn (s : State) (raws : List (Nat × Nat)) (m : Nat) : Nat := (aget raws m).getD (s.rawOf m)

/-- Readings of a command as numbers. -/
def rawsOf (raws : List (Fin 1024 × BitVec 12)) : List (Nat × Nat) := raws.map fun r => (r.1.val, r.2.toNat)

/-- The state with a monitor's latest result (R173). -/
def State.setFast (s : State) (m raw : Nat) (v : FastVal) : State :=
  ((((s.mWr MON_IN_FAST.RAW raw m).mWr MON_IN_FAST.CODE v.code m).mWr MON_IN_FAST.OVR (v.flags % 2) m).mWr
    MON_IN_FAST.UNDER (v.flags / 2 % 2) m).mWr MON_IN_FAST.SETTLING (v.flags / 4) m

end Sys2Proof.Machine
end

