-- ==== Sys2Proof/Machine/Crypto.lean ====
section
/-! DEFINITION. The public functions that the manual names and does not spell out: SHA-256 and HMAC (R86, R436), SHA-384
(R443) and CRC-32C (R304). PRESUMED from their public standards (assumption 10). -/
namespace Sys2Proof

/-! ### SHA-256 and HMAC-SHA-256 -/

/-- The round constants of SHA-256: fractions of the cube roots of the first 64 primes. -/
def k256a : List Nat :=
  [0x428A2F98, 0x71374491, 0xB5C0FBCF, 0xE9B5DBA5, 0x3956C25B, 0x59F111F1, 0x923F82A4, 0xAB1C5ED5,
   0xD807AA98, 0x12835B01, 0x243185BE, 0x550C7DC3, 0x72BE5D74, 0x80DEB1FE, 0x9BDC06A7, 0xC19BF174,
   0xE49B69C1, 0xEFBE4786, 0xFC19DC6, 0x240CA1CC, 0x2DE92C6F, 0x4A7484AA, 0x5CB0A9DC, 0x76F988DA,
   0x983E5152, 0xA831C66D, 0xB00327C8, 0xBF597FC7, 0xC6E00BF3, 0xD5A79147, 0x6CA6351, 0x14292967]
@[inherit_doc k256a]
def k256b : List Nat :=
  [0x27B70A85, 0x2E1B2138, 0x4D2C6DFC, 0x53380D13, 0x650A7354, 0x766A0ABB, 0x81C2C92E, 0x92722C85,
   0xA2BFE8A1, 0xA81A664B, 0xC24B8B70, 0xC76C51A3, 0xD192E819, 0xD6990624, 0xF40E3585, 0x106AA070,
   0x19A4C116, 0x1E376C08, 0x2748774C, 0x34B0BCB5, 0x391C0CB3, 0x4ED8AA4A, 0x5B9CCA4F, 0x682E6FF3,
   0x748F82EE, 0x78A5636F, 0x84C87814, 0x8CC70208, 0x90BEFFFA, 0xA4506CEB, 0xBEF9A3F7, 0xC67178F2]

/-- A rotation to the right of a `w`-bit number. -/
def rotr (w n x : Nat) : Nat := (x >>> n ||| x <<< (w - n)) % 2 ^ w

/-- The number that bytes spell, the first byte most significant. -/
def beNat (bs : List Byte) : Nat := bs.foldl (fun a b => 256 * a + b.toNat) 0

/-- The `n` low bytes of a number, the most significant first. -/
def beBytes (n v : Nat) : List Byte := (leBytes n v).reverse

/-- The bytes cut into `n` pieces of `size` bytes. -/
def pieces (size : Nat) : Nat → List Byte → List (List Byte)
  | 0, _ => []
  | n + 1, bs => bs.take size :: pieces size n (bs.drop size)

/-- The figures in which SHA-256 and SHA-384 differ: the word width, the four rotations of each mixing function, and
the round constants. -/
structure ShaKind where
  w : Nat
  s0 : Nat × Nat × Nat
  s1 : Nat × Nat × Nat
  e0 : Nat × Nat × Nat
  e1 : Nat × Nat × Nat
  k : List Nat

/-- SHA-256. -/
def sha256Kind : ShaKind :=
  { w := 32, s0 := (7, 18, 3), s1 := (17, 19, 10), e0 := (2, 13, 22), e1 := (6, 11, 25), k := k256a ++ k256b }

/-- The message schedule: each word joined to the 16 before it, newest first. -/
def shaSchedule (d : ShaKind) : Nat → List Nat → List Nat
  | 0, ws => ws
  | n + 1, ws =>
    let g (t : Nat × Nat × Nat) (x : Nat) : Nat := rotr d.w t.1 x ^^^ rotr d.w t.2.1 x ^^^ x >>> t.2.2
    let x := (g d.s1 (ws.getD 1 0) + ws.getD 6 0 + g d.s0 (ws.getD 14 0) + ws.getD 15 0) % 2 ^ d.w
    shaSchedule d n (x :: ws)

/-- The rounds over the eight working words. -/
def shaRounds (d : ShaKind) : List (Nat × Nat) → List Nat → List Nat
  | [], h => h
  | (k, w) :: rest, h =>
    let m := 2 ^ d.w
    let a := h.getD 0 0
    let e := h.getD 4 0
    let s (t : Nat × Nat × Nat) (x : Nat) : Nat := rotr d.w t.1 x ^^^ rotr d.w t.2.1 x ^^^ rotr d.w t.2.2 x
    let ch := (e &&& h.getD 5 0) ^^^ ((m - 1 - e) &&& h.getD 6 0)
    let maj := (a &&& h.getD 1 0) ^^^ (a &&& h.getD 2 0) ^^^ (h.getD 1 0 &&& h.getD 2 0)
    let t1 := h.getD 7 0 + s d.e1 e + ch + k + w
    shaRounds d rest [(t1 + s d.e0 a + maj) % m, a, h.getD 1 0, h.getD 2 0, (h.getD 3 0 + t1) % m, e, h.getD 5 0,
      h.getD 6 0]

/-- One block of 16 words taken into the hash value. -/
def shaBlock (d : ShaKind) (h : List Nat) (block : List Byte) : List Nat :=
  let ws := (pieces (d.w / 8) 16 block).map beNat
  let sched := (shaSchedule d (d.k.length - 16) ws.reverse).reverse
  List.zipWith (fun x y => (x + y) % 2 ^ d.w) h (shaRounds d (d.k.zip sched) h)

/-- The message padded to whole blocks. -/
def shaPad (d : ShaKind) (msg : List Byte) : List Byte :=
  let b := 2 * d.w
  let n := msg.length
  let z := (2 * b - 1 - n % b - d.w / 4) % b
  msg ++ [0x80] ++ List.replicate z 0 ++ beBytes (d.w / 4) (8 * n)

/-- The words of the hash of a message from an initial value. -/
def sha (d : ShaKind) (init : List Nat) (msg : List Byte) : List Nat :=
  let p := shaPad d msg
  (pieces (2 * d.w) (p.length / (2 * d.w)) p).foldl (shaBlock d) init

/-- SHA-256 of a message: 32 bytes. -/
def sha256 (msg : List Byte) : List Byte :=
  (sha sha256Kind [0x6A09E667, 0xBB67AE85, 0x3C6EF372, 0xA54FF53A, 0x510E527F, 0x9B05688C, 0x1F83D9AB, 0x5BE0CD19] msg).flatMap (beBytes 4)

/-- HMAC-SHA-256 of a message under a key of at most 64 bytes (R86). -/
def hmac256 (key msg : List Byte) : List Byte :=
  let k := key ++ List.replicate (64 - key.length) 0
  sha256 (k.map (· ^^^ 0x5C) ++ sha256 (k.map (· ^^^ 0x36) ++ msg))

/-! ### SHA-384 -/

/-- The round constants of SHA-384: fractions of the cube roots of the first 80 primes. -/
def k512a : List Nat :=
  [0x428A2F98D728AE22, 0x7137449123EF65CD, 0xB5C0FBCFEC4D3B2F, 0xE9B5DBA58189DBBC,
   0x3956C25BF348B538, 0x59F111F1B605D019, 0x923F82A4AF194F9B, 0xAB1C5ED5DA6D8118,
   0xD807AA98A3030242, 0x12835B0145706FBE, 0x243185BE4EE4B28C, 0x550C7DC3D5FFB4E2,
   0x72BE5D74F27B896F, 0x80DEB1FE3B1696B1, 0x9BDC06A725C71235, 0xC19BF174CF692694,
   0xE49B69C19EF14AD2, 0xEFBE4786384F25E3, 0xFC19DC68B8CD5B5, 0x240CA1CC77AC9C65,
   0x2DE92C6F592B0275, 0x4A7484AA6EA6E483, 0x5CB0A9DCBD41FBD4, 0x76F988DA831153B5,
   0x983E5152EE66DFAB, 0xA831C66D2DB43210, 0xB00327C898FB213F, 0xBF597FC7BEEF0EE4,
   0xC6E00BF33DA88FC2, 0xD5A79147930AA725, 0x6CA6351E003826F, 0x142929670A0E6E70,
   0x27B70A8546D22FFC, 0x2E1B21385C26C926, 0x4D2C6DFC5AC42AED, 0x53380D139D95B3DF,
   0x650A73548BAF63DE, 0x766A0ABB3C77B2A8, 0x81C2C92E47EDAEE6, 0x92722C851482353B]
@[inherit_doc k512a]
def k512b : List Nat :=
  [0xA2BFE8A14CF10364, 0xA81A664BBC423001, 0xC24B8B70D0F89791, 0xC76C51A30654BE30,
   0xD192E819D6EF5218, 0xD69906245565A910, 0xF40E35855771202A, 0x106AA07032BBD1B8,
   0x19A4C116B8D2D0C8, 0x1E376C085141AB53, 0x2748774CDF8EEB99, 0x34B0BCB5E19B48A8,
   0x391C0CB3C5C95A63, 0x4ED8AA4AE3418ACB, 0x5B9CCA4F7763E373, 0x682E6FF3D6B2B8A3,
   0x748F82EE5DEFB2FC, 0x78A5636F43172F60, 0x84C87814A1F0AB72, 0x8CC702081A6439EC,
   0x90BEFFFA23631E28, 0xA4506CEBDE82BDE9, 0xBEF9A3F7B2C67915, 0xC67178F2E372532B,
   0xCA273ECEEA26619C, 0xD186B8C721C0C207, 0xEADA7DD6CDE0EB1E, 0xF57D4F7FEE6ED178,
   0x6F067AA72176FBA, 0xA637DC5A2C898A6, 0x113F9804BEF90DAE, 0x1B710B35131C471B,
   0x28DB77F523047D84, 0x32CAAB7B40C72493, 0x3C9EBE0A15C9BEBC, 0x431D67C49C100D4C,
   0x4CC5D4BECB3E42B6, 0x597F299CFC657E2A, 0x5FCB6FAB3AD6FAEC, 0x6C44198C4A475817]

/-- SHA-384. -/
def sha384Kind : ShaKind :=
  { w := 64, s0 := (1, 8, 7), s1 := (19, 61, 6), e0 := (28, 34, 39), e1 := (14, 18, 41), k := k512a ++ k512b }

/-- SHA-384 of a message: 48 bytes. -/
def sha384 (msg : List Byte) : List Byte :=
  ((sha sha384Kind
    [0xCBBB9D5DC1059ED8, 0x629A292A367CD507, 0x9159015A3070DD17, 0x152FECD8F70E5939,
     0x67332667FFC00B31, 0x8EB44A8768581511, 0xDB0C2E0D64F98FA7, 0x47B5481DBEFA4FA4] msg).take 6).flatMap (beBytes 8)

/-! ### CRC-32C -/

/-- Eight shifts of the CRC register, reflected, polynomial 0x1EDC6F41. -/
def crcShift : Nat → Nat → Nat
  | 0, c => c
  | n + 1, c => crcShift n (if c % 2 = 1 then c / 2 ^^^ 0x82F63B78 else c / 2)

/-- CRC-32C of bytes. -/
def crc32c (bs : List Byte) : Nat := 0xFFFFFFFF ^^^ bs.foldl (fun c b => crcShift 8 (c ^^^ b.toNat)) 0xFFFFFFFF

end Sys2Proof
end

