-- ==== Sys2Proof/Machine/Shapes.lean ====
section
/-! DEFINITION. What several families share of the Almanac's curves (R305, R306), of the generators' trajectories (R270
to R272) and of the loops' pauses and resumptions (R104, R229). -/
namespace Sys2Proof.Machine

/-! ### Curves (R305, R306) -/

/-- The 32 bytes of an element's curve in the Almanac view (R307). -/
def curveAddr (e : Nat) : Nat := almBase + 0x80000 + 32 * e

/-- The element's curve, if it has one and its check holds (R305, R306). -/
def State.curve (s : State) (e : Nat) : Option (List Byte) :=
  let bs := s.loadBytes (curveAddr e) 32
  if field bs 0 1 ≠ 0 ∧ crc32c (bs.take 28) = field bs 28 4 then some bs else none

/-- The latest valid reading of a sensor, in 0.01 °C (R296). -/
def State.reading (s : State) (zone : Nat) : Option Int :=
  match nget s.cal.lastTemp zone with | 0 => none | v + 1 => some (toS 16 v)

/-- PRED for a target of an element (R306). -/
def State.predOf (s : State) (e t : Nat) : Nat :=
  let x := s.elem e
  match s.curve e, s.reading x.zone with
  | some bs, some temp =>
    let k := min (t / 13107) 4
    let f : Int := (t - 13107 * k : Nat)
    let c (j : Nat) : Int := toS 16 (field bs (16 + 2 * j) 2)
    let corr := c k + ((c (k + 1) - c k) * f + 6553) / 13107
    let drift := rndDiv (toS 16 (field bs 4 2) * (temp - toS 16 (field bs 2 2))) 25600
    (clampI 0 x.cap (t + corr + drift)).toNat
  | _, _ => t

/-- The live target of a channel. -/
def State.liveTarget (s : State) (ch : Nat) : Nat := ((aget s.pln.live ch).map LiveEnt.target).getD 0

/-- PRED of a channel (R219, R306). -/
def State.pred (s : State) (ch : Nat) : Nat :=
  match s.elemAt ch with
  | some e => s.predOf e (s.liveTarget ch)
  | none => s.liveTarget ch

/-- OD_GAIN, OD_HOLD and OD_LSET of an element (R272, R306). -/
def State.overdrive (s : State) (e : Nat) : Nat × Nat × Nat :=
  match s.curve e, s.reading (s.elem e).zone with
  | some bs, some _ => (field bs 8 1, field bs 9 1, field bs 10 1)
  | _, _ => (0, 0, 0)

/-! ### Trajectories (R270 to R272) -/

/-- The velocity-limited ramp in 1/65,536 code. -/
def ramp (x0 g v : Nat) (k : Int) : Int :=
  let delta : Int := ((g : Int) - x0) * 65536
  if k < 0 then x0 * 65536
  else if delta < 0 then x0 * 65536 - min (-delta) (k * v) else x0 * 65536 + min delta (k * v)

/-- The code of update `u` of a move from `x0` to `g` under the limits V, N_A and N_J (R270). V = 0 applies the goal
at once (R269). -/
def trajCode (x0 g v na nj u : Nat) : Nat :=
  if v = 0 then g
  else
    let sum := ((List.range na).map fun i => ((List.range nj).map fun j => ramp x0 g v ((u : Int) - i - j)).sum).sum
    ((sum + 32768 * na * nj) / (65536 * na * nj)).toNat

/-- The last update D of a move (R270). -/
def trajLast (x0 g v na nj : Nat) : Nat :=
  if v = 0 then 0 else ceilDiv (((g : Int) - x0).natAbs * 65536) v + na + nj - 2

/-- A profile limit set: VMAX, NA and NJ (R269). -/
def State.limitSet (s : State) (l : Nat) : Nat × Nat × Nat :=
  (s.load (prfBase + 16 * l) 4, s.load (prfBase + 16 * l + 4) 2, s.load (prfBase + 16 * l + 6) 2)

/-- The overdrive code P (R272). -/
def odPeak (x0 target gain cap : Nat) : Nat :=
  (clampI 0 cap (x0 + (((target : Int) - x0) * (256 + gain) + 128) / 256)).toNat

/-- The code of update `u` of an overdrive shape (R272). -/
def odCode (peak hold target v na nj u : Nat) : Nat :=
  if u < hold then peak else trajCode peak target v na nj (u - hold)

/-- The last update of an overdrive shape (R272). -/
def odLast (peak hold target v na nj : Nat) : Nat := hold + trajLast peak target v na nj

/-- The energy of one PREEMPH entry in units of 1/(10^7 × 2^32) µJ (R120, R306): the sum over the shape's updates of
I² × LOAD × 1.6 µs, from the channel's live target (assumption 14). -/
def State.odEnergy (s : State) (e x0 target : Nat) : Nat :=
  let x := s.elem e
  match s.curve e with
  | none => 0
  | some bs =>
    let (gain, hold, lset) := s.overdrive e
    let (v, na, nj) := s.limitSet lset
    let peak := odPeak x0 target gain x.cap
    if !x.current then 0
    else ((List.range (odLast peak hold target v na nj + 1)).map fun u =>
      odCode peak hold target v na nj u ^ 2).sum * field bs 12 2 * (if x.narrow then 4 else 64)

/-! ### Loop contexts (R235) -/

/-- Where the entry of a context starts. -/
def ctxAddr (x : Nat) : Nat := ctxBase + 64 * x

/-- STATE of a context: 0 INACTIVE, 1 RUN, 2 PAUSED, 3 OPEN_LOOP, 4 LOST. -/
def State.ctxState (s : State) (x : Nat) : Nat := s.load (ctxAddr x + 3) 1

/-- The state with STATE of a context written. -/
def State.setCtxState (s : State) (x v : Nat) : State := s.store (ctxAddr x + 3) 1 v

/-- A context follows its channel's class (R217). -/
def State.follows (s : State) (x : Nat) : Bool := bit (s.load (ctxAddr x + 2) 1) 0

/-- Dusk has been asked for (R473). -/
def State.duskAsked (s : State) : Bool := s.on PWR_CTL.DUSK_REQ

/-- The class in whose periods a fixed context runs: its own, or Dusk from a request of Dusk on (R473). -/
def State.ownClass (s : State) (x : Nat) : Nat := if s.duskAsked then 3 else bits (s.load (ctxAddr x + 2) 1) 1 2

/-- While Dusk is asked for, a channel that would go to a class goes to Dusk, and the class is kept as its restore class
(R473). The answer is the class it goes to. -/
def State.duskClass (s : State) (ch cls : Nat) : Nat × State :=
  if !s.duskAsked then (cls, s)
  else if cls = 3 ∧ nget s.lpa.duskFrom ch ≠ 0 then (3, s)
  else (3, { s with lpa := { s.lpa with duskFrom := nset s.lpa.duskFrom ch (cls + 1) } })

/-- CCLASS of a channel: class in bits 1:0, SWAIT bit 2, TWAIT bit 3, PAUSED bit 4 (R235). -/
def State.cclass (s : State) (ch : Nat) : Nat := s.load (ctxAddr (3 * ch) + 58) 1

/-- The state with CCLASS of a channel written. -/
def State.setCclass (s : State) (ch v : Nat) : State := s.store (ctxAddr (3 * ch) + 58) 1 v

/-- The class of a channel. -/
def State.chClass (s : State) (ch : Nat) : Nat := s.cclass ch % 4

/-- A channel's loops are paused. -/
def State.chPaused (s : State) (ch : Nat) : Bool := bit (s.cclass ch) 4

/-- The queued jobs, the results of running jobs and the unsent outputs of the channels that satisfy `p` are withdrawn and
discarded; the results and outputs are counted (R222, R229). What a job that has ended committed stands (R220). -/
def State.discardLoops (s : State) (p : Nat → Bool) : State :=
  let mine (r : Run) : Bool := r.job.die == s.active && p (r.job.ctx / 3)
  let gone := (s.lpa.runs.filter mine).length + (s.lpa.outs.filter fun o => p o.ch).length
  let s1 := s.bump LPA_CNT_DISCARD.COUNT gone
  { s1 with lpa := { s1.lpa with
      jobs := s1.lpa.jobs.filter fun j => !p (j.ctx / 3)
      runs := s1.lpa.runs.filter fun r => !p (r.job.ctx / 3)
      ended := s1.lpa.ended.filter fun r => !(p (r.job.ctx / 3) && r.pc == 0xFFFF)
      skipped := s1.lpa.skipped.filter fun x => !p (x.1 / 3)
      outs := s1.lpa.outs.filter fun o => !p o.ch } }

/-- The running contexts of a channel go from one STATE to another. -/
def State.moveCtx (s : State) (ch src dst : Nat) : State :=
  [3 * ch, 3 * ch + 1, 3 * ch + 2].foldl (fun t x => if t.ctxState x = src then t.setCtxState x dst else t) s

/-- The loops of a channel pause (R229): its running contexts are PAUSED, and its jobs, results and unsent outputs go. -/
def State.pauseLoops (s : State) (ch : Nat) : State :=
  let s1 := ((s.moveCtx ch 1 2).setCclass ch (setBit (s.cclass ch) 4)).discardLoops fun c => c == ch
  { s1 with lpa := { s1.lpa with
      resume := s1.lpa.resume.filter fun r => r.ch != ch
      resumeCtx := s1.lpa.resumeCtx.filter fun r => r.1 / 3 != ch } }

/-- The loops of a channel are to resume at the first phase 0 of a class after a frame, and its fixed contexts at the
first phase 0 of their own class after it (R104, R229). During global Eclipse and an unresolved hold they wait for the
re-application that ends it (R229, R384). -/
def State.resumeLoops (s : State) (ch cls after : Nat) : State :=
  if s.on SAF_STATUS.GLOBAL_ECLIPSE || s.on LKS_STATUS.HOLD s.active then s
  else
    let (cls, s) := s.duskClass ch cls
    { s with lpa := { s.lpa with
      resume := { ch := ch, cls := cls, after := after } :: s.lpa.resume.filter fun r => r.ch != ch
      resumeCtx := (([3 * ch, 3 * ch + 1, 3 * ch + 2].filter fun x =>
        !s.follows x && (s.ctxState x == 2 || s.ctxState x == 4)).map fun x =>
        (x, after)) ++ s.lpa.resumeCtx.filter fun r => r.1 / 3 != ch } }

/-- The class changes and waits of a channel that an entry of a plan supersedes go (R222). -/
def State.dropChange (s : State) (ch : Nat) : State :=
  let s1 := s.setCclass ch (clrBit (clrBit (s.cclass ch) 2) 3)
  { s1 with lpa := { s1.lpa with
      changes := s1.lpa.changes.filter fun c => c.ch != ch
      swait := s1.lpa.swait.filter fun c => c != ch
      twait := s1.lpa.twait.filter fun c => c != ch } }

/-- The contexts of a channel that have any state. -/
def State.hasLoops (s : State) (ch : Nat) : Bool :=
  [3 * ch, 3 * ch + 1, 3 * ch + 2].any fun x => s.ctxState x != 0

/-- The channels that have a loop context in a state other than INACTIVE, rising. -/
def State.loopChannels (s : State) : List Nat :=
  ((s.listed ctxBase 64 49152).map (· / 3)).dedup.filter s.hasLoops

/-! ### Generators and players (R275, R288 to R290) -/

/-- The code of a generator's update `u` (R270, R272); a PROFILE entry's shape has no overdrive and starts from x0. -/
def Gen.code (g : Gen) (u : Nat) : Nat := odCode g.peak g.hold g.goal g.vmax g.na g.nj u

/-- A generator's last update D (R270, R272). -/
def Gen.last (g : Gen) : Nat := odLast g.peak g.hold g.goal g.vmax g.na g.nj

/-- The generators in use are counted (R294). -/
def State.genCount (s : State) : State :=
  let n := s.prf.gens.length
  (s.wr PRF_GEN_USE.IN_USE n).wr PRF_GEN_USE.MAX (max n (s.rd PRF_GEN_USE.MAX))

/-- The writes of rank 3 or 4 for a channel that are not yet applied and whose apply frame is `f` or later are withdrawn
(R275); those in the tile's queue are counted. -/
def State.withdraw (s : State) (rank ch f : Nat) : State :=
  let hit (w : CodeWrite) : Bool := w.rank == rank && w.ch == ch && decide (f ≤ w.apply)
  let s1 := s.bump DRV_CNT_OVERRIDE.COUNT (s.drv.queue.filter hit).length (ch / 2048)
  { s1 with drv := { s1.drv with
      queue := s1.drv.queue.filter fun w => !hit w
      down := s1.drv.down.filter fun w => !hit w } }

/-- The generator of a channel, if it has one, releases it (R90, R275). -/
def State.releaseGen (s : State) (ch : Nat) : State :=
  ({ s with prf := { s.prf with gens := s.prf.gens.filter fun g => g.ch != ch } } : State).genCount

/-- The channel is under a generator. -/
def State.hasGen (s : State) (ch : Nat) : Bool := s.prf.gens.any fun g => g.ch == ch

/-- The player's registers follow it (R295). INC reads the value last written while that waits (R9, R281). -/
def State.playerRefresh (s : State) (p : Player) : State :=
  let n := p.num
  (((((((((((s.wr PRF_PL_STATUS.OPEN 1 n).wr PRF_PL_STATUS.SEG p.seg n).wr PRF_PL_STATUS.WAITING (b2n p.waiting) n).wr
    PRF_PL_STATUS.STARVED (b2n p.starved) n).wr PRF_PL_STATUS.JUMP_PENDING (b2n p.jump.isSome) n).wr
    PRF_PL_PASS.PASS p.pass n).wr PRF_PL_POS.POS (p.pos / 2 ^ 24) n).wr PRF_PL_FILL.FILL p.buf.length n).wr
    PRF_PL_CODE.CHANNEL p.ch n).wr PRF_PL_CODE.CODE p.code n)).wr PRF_PL_RATE.INC
    (match p.rate with | some r => r.1 | none => p.inc) n

/-- The state with an open player replaced by `p`. -/
def State.setPlayer (s : State) (p : Player) : State :=
  ({ s with prf := { s.prf with players := s.prf.players.map fun q => if q.num == p.num then p else q } } : State).playerRefresh p

/-- A player stops now (R288 to R290): its stream completes with a status, the closes that wait complete with OK, and its
channel is handed back as a generator hands it back, in the class it holds. -/
def State.stopPlayer (s : State) (p : Player) (status : Nat) : State :=
  let s1 : State := { s with prf := { s.prf with players := s.prf.players.filter fun q => q.num != p.num } }
  let s2 := (((s1.wr PRF_PL_STATUS.OPEN 0 p.num).wr PRF_PL_STATUS.WAITING 0 p.num).wr PRF_PL_STATUS.STARVED 0 p.num).wr
    PRF_PL_STATUS.JUMP_PENDING 0 p.num
  let exe := if p.started then ticksOf p.start else s.ticks
  let s3 := s2.withDesc p.desc fun d =>
    s2.finish d status (match p.late with | some l => l | none => p.consumed) exe (b2n p.late.isSome)
  let s4 := p.closers.foldl (fun t c => t.withDesc c fun d => t.done d stOK) s3
  let s5 := if p.started ∧ s4.hasLoops p.ch then s4.resumeLoops p.ch (s4.chClass p.ch) s4.now else s4
  s5.occur (128 + 32 * 3 + p.num)

/-- The open players of a channel that have started. -/
def State.playersOf (s : State) (ch : Nat) : List Player := s.prf.players.filter fun p => p.ch == ch && p.started

end Sys2Proof.Machine
end

