-- ==== Sys2Proof/Machine/PlanCheck.lean ====
section
/-! DEFINITION. Loading, checking and freeing plans (chapter 3): the checks of R92, the Route Plan Store and the plan
directory. -/
namespace Sys2Proof.Machine

/-- The Plan Engine's status codes (R110, R36 to R38, R92). -/
def stCrossTenant : Nat := 0x0101
@[inherit_doc stCrossTenant] def stDarkPort : Nat := 0x0102
@[inherit_doc stCrossTenant] def stTileLost : Nat := 0x0103
@[inherit_doc stCrossTenant] def stAuthFail : Nat := 0x0104
@[inherit_doc stCrossTenant] def stReplay : Nat := 0x0105
@[inherit_doc stCrossTenant] def stBadPlan : Nat := 0x0106
@[inherit_doc stCrossTenant] def stPlanBusy : Nat := 0x0107
@[inherit_doc stCrossTenant] def stNoPlan : Nat := 0x0108
@[inherit_doc stCrossTenant] def stUnbound : Nat := 0x0109
@[inherit_doc stCrossTenant] def stToneConflict : Nat := 0x010A
@[inherit_doc stCrossTenant] def stFallbackUnsafe : Nat := 0x010B
@[inherit_doc stCrossTenant] def stVerifyFailed : Nat := 0x010C
@[inherit_doc stCrossTenant] def stEclipsed : Nat := 0x010D
@[inherit_doc stCrossTenant] def stTooLate : Nat := 0x010E
@[inherit_doc stCrossTenant] def stPlnDisabled : Nat := 0x010F
/-- The Security Unit's status code (R441). -/
def stKeysErased : Nat := 0x0D01

/-- The vault has been erased and slot 0 not loaded again (R440). -/
def State.keysErased (s : State) : Bool := s.on SEC_STATUS.ERASED

/-- A bit of one of the Safety Supervisor's source maps (R375). -/
def State.srcBit (s : State) (f : Fld) (source : Nat) : Bool := bit (s.rd f (source / 32)) (source % 32)

/-- The state with that bit written. -/
def State.setSrcBit (s : State) (f : Fld) (source : Nat) (v : Bool) : State :=
  let w := s.rd f (source / 32)
  s.wr f (if v then setBit w (source % 32) else clrBit w (source % 32)) (source / 32)

/-! ### Form of a plan (R92 step 4) -/

/-- The fields of an element target entry are in their ranges (R87). -/
def Target.ok (t : Target) : Bool :=
  t.type == 1 && !t.resv &&
    (if t.kind = 0 ∨ t.kind = 2 then t.param == 0 else if t.kind = 1 then decide (t.param < 256) else true)

/-- The fields of a tone binding entry are in their ranges (R88). -/
def ToneEnt.ok (t : ToneEnt) : Bool :=
  t.type == 2 && !t.resv && decide (t.tone ≤ 70) &&
    (if t.path then t.monitor == 0xFFFF else decide (t.monitor < 1024))

/-- The fields of a verify entry are in their ranges (R89). -/
def VerifyEnt.ok (v : VerifyEnt) : Bool := v.type == 3 && !v.resv && (!v.pt || decide (v.pathTone ≤ 70))

/-- Step 4 of R92 holds for a plan's bytes. -/
def planWellFormed (bs : List Byte) : Bool :=
  let h := planHdr bs
  h.format == 1 && decide (h.id ≤ 1023) && decide (h.domain ≤ 16) && decide (h.nElem ≤ 16384) &&
    decide (h.nTone ≤ 17408) && decide (h.nVerify ≤ 1024) &&
    (h.settle == 0 || (decide (4 ≤ h.settle) && decide (h.settle ≤ 20000))) &&
    bs.length == 64 + 8 * (h.nElem + h.nTone + h.nVerify) && zeros bs 14 2 && zeros bs 20 12 &&
    (planTargets bs).all Target.ok && (planTones bs).all ToneEnt.ok && (planVerifies bs).all VerifyEnt.ok

/-! ### The Route Plan Store (R94) -/

/-- The first slots and sizes of the stored plans, by rising slot. -/
def Pln.taken (p : Pln) : List (Nat × Nat) :=
  sortBy (fun a b => decide (a.1 ≤ b.1)) (p.plans.map fun x => (x.base, planSlots x.bytes))

/-- The runs of free slots, first slot and length, after a slot. -/
def freeRuns : List (Nat × Nat) → Nat → List (Nat × Nat)
  | [], at_ => if at_ < Config.storeSlots then [(at_, Config.storeSlots - at_)] else []
  | (b, n) :: t, at_ => if at_ < b then (at_, b - at_) :: freeRuns t (b + n) else freeRuns t (b + n)

/-- The lowest run of free slots long enough for `n` (R94). -/
def Pln.place (p : Pln) (n : Nat) : Option Nat := ((freeRuns p.taken 0).find? fun r => decide (n ≤ r.2)).map (·.1)

/-! ### Checks against fabric state (R92 steps 10 to 16) -/

/-- The elements that a plan names, by target and tone entries. -/
def State.named (s : State) (bs : List Byte) : List Nat :=
  (planTargets bs).filterMap (fun t => s.elemAt t.ch) ++ (planTones bs).map fun t => t.elem

/-- The optical states a plan names, by channel. -/
def planStates (bs : List Byte) : List (Nat × Nat) := (planTargets bs).map fun t => (t.ch, t.state)

/-- Step 11 for one target entry of an element. -/
def Target.fits (t : Target) (x : Elem) : Bool :=
  (decide (x.role < 2) || t.state == 0) && (t.kind != 2 || x.current) && decide (t.target ≤ x.cap) &&
    (t.kind != 3 || decide (t.param ≤ x.cap))

/-- Step 11 of R92 holds. -/
def State.step11 (s : State) (bs : List Byte) : Bool :=
  let ts := planTargets bs
  decide ((ts.map fun t => t.ch).Nodup) &&
    (ts.all fun t => match s.elemAt t.ch with | some e => t.fits (s.elem e) | none => true) &&
    decide (planSlow bs ≤ 4096) && ((planHdr bs).fallback == 0xFFFF || decide ((planHdr bs).fallback ≤ 1023))

/-- Step 12 of R92 holds for a plan of domain `dom` (R27, R28). -/
def State.step12 (s : State) (dom : Nat) (bs : List Byte) : Bool :=
  dom == 0 ||
    (((s.named bs).all fun e => (s.elem e).domain == dom && !(s.elem e).opOnly) &&
      (planVerifies bs).all fun v =>
        match s.portOfMonitor v.monitor with
        | none => false
        | some p => !(s.port p).opOnly && ((s.port p).domain == dom || (s.port p).domain == 0))

/-- Step 13 of R92 fails: a named element or a verify monitor lies in a lost tile. -/
def State.step13 (s : State) (bs : List Byte) : Bool :=
  (s.named bs).all (fun e => !s.tileLost (s.elemTile e)) && (planVerifies bs).all fun v => !s.tileLost (v.monitor / 128)

/-- Step 14 of R92 holds of the traced paths. -/
def State.step14 (s : State) (paths : List Path) : Bool :=
  paths.all fun p => (s.port p.egress).present && !(s.port p.egress).dark

/-- Step 15 of R92 holds of the traced paths (R28). -/
def State.step15 (s : State) (dom : Nat) (bs : List Byte) (paths : List Path) : Bool :=
  paths.all fun p => !((s.named bs).any (s.crosses p)) || s.compatible dom p.ingress p.egress

/-- The tone bindings of the fabric after tone entries: the live bindings of the elements they do not name, and the
entries whose AMPLITUDE is not 0 (R88, R92). -/
def State.bindingsWith (s : State) (ts : List ToneEnt) : List ToneBind :=
  (s.pln.tones.filter fun b => !ts.any fun t => t.elem == b.elem) ++
    (ts.filter fun t => t.amp != 0).map fun t =>
      { elem := t.elem, path := t.path, tone := t.tone, mon := t.monitor, amp := t.amp }

/-- The path tone bound to an ingress port's gate among bindings. -/
def State.pathTone (s : State) (bs : List ToneBind) (p : Nat) : Option Nat :=
  (bs.find? fun b => b.path && (s.port p).gate == b.elem).map fun b => b.tone

/-- Step 16 of R92: the tone rules. -/
def State.step16 (s : State) (ts : List ToneEnt) (paths : List Path) : Bool :=
  let bs := s.bindingsWith ts
  let mons := ((bs.filter fun b => !b.path).map fun b => b.mon).dedup
  let tonesAt (m : Nat) : List Nat := (bs.filter fun b => !b.path && b.mon == m).map fun b => b.tone
  (mons.all fun m => decide ((tonesAt m).length ≤ 64) && decide ((tonesAt m).Nodup)) &&
    (bs.all fun b => !(s.elem b.elem).noTone) && decide ((ts.map fun t => t.elem).Nodup) &&
    (bs.all fun b => !b.path || match s.portOfGate b.elem with | some p => decide (p < 1024) | none => false) &&
    paths.all fun p => match s.pathTone bs p.ingress with
      | some t => !(tonesAt (s.port p.egress).monitor).contains t
      | none => true

/-- Steps 10 to 16 of R92 for a plan's bytes against the live image overlaid with the plan: the first status that
applies, OK when none does. -/
def State.fabricStatus (s : State) (bs : List Byte) : Nat :=
  let h := planHdr bs
  let paths := s.paths (planStates bs)
  if !((planTargets bs).all fun t => (s.elemAt t.ch).isSome) || !((planTones bs).all fun t => s.isElem t.elem) then stUnbound
  else if !s.step11 bs then stBadPlan
  else if !s.step12 h.domain bs then stDomainDenied
  else if !s.step13 bs then stTileLost
  else if !s.step14 paths then stDarkPort
  else if !s.step15 h.domain bs paths then stCrossTenant
  else if !s.step16 (planTones bs) paths then stToneConflict
  else stOK

/-- The check of R100 of a fallback state that names no element: only the tone rules are left. -/
def State.standStatus (s : State) : Nat := if s.step16 [] (s.paths []) then stOK else stToneConflict

/-! ### Loading (R91 to R93) -/

/-- LENGTH of a PLAN_LOAD. -/
def loadLen (d : Desc) : Nat := d.fld 16 4

/-- The body of a PLAN_LOAD is valid (R91). -/
def loadBodyOk (d : Desc) : Bool :=
  d.fld 8 8 % 8 == 0 && decide (64 ≤ loadLen d) && decide (loadLen d ≤ 278592) && loadLen d % 8 == 0 && zeros d.bytes 20 44

/-- PLAN_LOAD (R92, steps 1 and 2): the load is refused, or its data is read and its checks wait their turn; the read waits
for one of MAX_RD_OUT (R81). -/
def execPlanLoad (id : Nat) (s : State) : Host.Outcome State Fault Refusal :=
  .next <| s.withOp id opPlanLoad fun d =>
    if s.pln.loads.contains id || !s.readSlot then s
    else if !s.plnOn then s.done d stPlnDisabled
    else if !loadBodyOk d then s.done d stBadField
    else
      let s1 := (s.clocksOn 17).emit (.read s.active (d.fld 8 8) (loadLen d))
      { s1 with pln := { s1.pln with loads := s1.pln.loads ++ [id] } }

/-- The energy cost J in µJ of a plan (R120): over its PREEMPH entries, each shape's energy from the channel's live
target, the sum rounded up to whole µJ. -/
def State.planEnergy (s : State) (bs : List Byte) : Nat :=
  ceilDiv (((planTargets bs).filter fun t => t.kind == 2).map fun t =>
    match s.elemAt t.ch with
    | some e => s.odEnergy e (s.liveTarget t.ch) t.target
    | none => 0).sum (10000000 * 2 ^ 32)

/-- The status of steps 3 to 6 of R92 of a load whose data has come. -/
def State.headStatus (s : State) (d : Desc) (data : List Byte) : Nat :=
  let h := planHdr (data.take (loadLen d))
  if data.length < loadLen d then stDmaError
  else if !planWellFormed (data.take (loadLen d)) then stBadPlan
  else if d.dom ≠ 0 ∧ h.domain ≠ d.dom then stDomainDenied
  else if (s.pln.plan h.id).isSome then stPlanBusy
  else stOK

/-- The status of steps 7 to 16 of R92 for a plan's bytes, and the slot at which the plan would stand. -/
def State.bodyStatus (s : State) (bs : List Byte) : Nat × Nat :=
  let h := planHdr bs
  if h.serial ≤ s.rd PLN_SERIAL.SERIAL h.domain then (stReplay, 0)
  else
    match aget s.sec.keys h.domain with
    | none => (stAuthFail, 0)
    | some key =>
      if hmac256 key (bs.take 32 ++ bs.drop 64) ≠ (bs.drop 32).take 32 then (stAuthFail, 0)
      else
        match s.pln.place (planSlots bs) with
        | none => (stNoResource, 0)
        | some base => (s.fabricStatus bs, base)

/-- The status of the checks from step 3 on of a load whose data has come, and the slot at which the plan would
stand. -/
def State.loadStatus (s : State) (d : Desc) (data : List Byte) : Nat × Nat :=
  if s.headStatus d data ≠ stOK then (s.headStatus d data, 0) else s.bodyStatus (data.take (loadLen d))

/-- PLAN_CHECK (R92 from step 3, R93): the oldest load's data arrives, and the plan is stored or refused. With `read.half` the
checks have come no further than step 6: the plan's directory entry reads LOADING until the next PLAN_CHECK takes the rest. A
word of the device that cannot be read ends the load with MEM_UNCORR (R402). -/
def execPlanCheck (id : Nat) (read : PlanRead) (ecc : Option EccHit) (s : State) :
    Host.Outcome State Fault Refusal :=
  .next <| (s.poisoned read.poisoned id).withOp id opPlanLoad fun d =>
    let s := s.poisoned read.poisoned id
    if s.pln.loads.head? ≠ some id then s
    else
      let s1 : State := { s with pln := { s.pln with loads := s.pln.loads.tail, loading := none } }
      let bs := match s.pln.loading with | some l => l.2 | none => read.data.take (loadLen d)
      let (st, base) := if s.pln.loading.isSome then s.bodyStatus bs
        else if read.half then (s.headStatus d read.data, 0) else s.loadStatus d read.data
      if ecc.isSome then (s1.eccHit ecc).done d stMemUncorr
      else if read.half && s.pln.loading.isSome then s
      else if st ≠ stOK then s1.done d st
      else if read.half then { s with pln := { s.pln with loading := some (id, bs) } }
      else
        let p : Plan := { id := (planHdr bs).id, base := base, bytes := bs, energy := s.planEnergy bs }
        let s2 : State := { s1 with pln := { s1.pln with plans := s1.pln.plans ++ [p] } }
        (s2.wr PLN_SERIAL.SERIAL (planHdr bs).serial (planHdr bs).domain).done d stOK base

/-! ### Pinning and freeing (R96) -/

/-- The plan that stands for the value of a FALLBACK_ID in a body: 0xFFFE takes the header's (R97). -/
def Pln.fallbackOf (p : Pln) (plan body : Nat) : Option Nat :=
  let f := if body = 0xFFFE then ((p.plan plan).map fun x => (planHdr x.bytes).fallback).getD 0xFFFF else body
  if f = 0xFFFF then none else some f

/-- The plans an Orbit list names, with the fallback plans of their headers. -/
def Pln.listPlans (p : Pln) (l : List OrbitEnt) : List Nat :=
  (l.filter fun e => !e.hold).flatMap fun e => e.plan :: (p.fallbackOf e.plan 0xFFFE).toList

/-- The plans named by requests and by the commit in progress that come from PLAN_COMMIT descriptors or the Orbit. -/
def State.pendingPlans (s : State) : List Nat :=
  let names (r : Req) : List Nat := r.plan :: r.fb.toList
  (s.orb.reqs.filter fun r => match r.origin with | .reapply | .sweep => false | _ => true).flatMap names ++
    match s.pln.cycle with
    | none => []
    | some c => match c.req.origin with | .reapply | .sweep => [] | _ => names c.req

/-- A plan is named by a pending commit or an Orbit list (R96, R111). -/
def State.pinned (s : State) (id : Nat) : Bool :=
  s.pendingPlans.contains id || (s.pln.listPlans s.orb.active).contains id || (s.pln.listPlans s.orb.shadow).contains id

/-- A plan is the live plan (R84). -/
def State.isLive (s : State) (id : Nat) : Bool := s.on PLN_LIVE.VALID && s.rd PLN_LIVE.LIVE_ID == id

/-- PLAN_FREE (R96). -/
def execPlanFree (id : Nat) (s : State) : Host.Outcome State Fault Refusal :=
  .next <| s.withOp id opPlanFree fun d =>
    let p := d.fld 8 2
    if 1023 < p || !zeros d.bytes 10 54 then s.done d stBadField
    else
      match s.pln.plan p with
      | none => s.done d stNoPlan
      | some x =>
        if d.dom ≠ 0 ∧ d.dom ≠ (planHdr x.bytes).domain then s.done d stDomainDenied
        else if s.isLive p || s.pinned p then s.done d stPlanBusy
        else
          ({ s with pln := { s.pln with plans := s.pln.plans.filter fun y => y.id != p } } : State).done d stOK

end Sys2Proof.Machine
end

