-- ==== Sys2Proof/Machine/Sched.lean ====
section
/-! DEFINITION. The Transition Scheduler (chapter 4): queues, virtual time, token buckets, selection and the queue
samples. -/
namespace Sys2Proof.Machine

/-! ### Costs and settle delays (R99, R117, R120) -/

/-- The transition cost T of a plan's bytes (R120). -/
def planCost (bs : List Byte) : Nat :=
  ((planTargets bs).map fun t => if t.kind = 0 then 1 else if t.kind = 1 then 4 else if t.kind = 2 then 8 else 2).sum

/-- A plan holds a MAKEBB entry. -/
def planMakebb (bs : List Byte) : Bool := (planTargets bs).any fun t => t.kind == 3

/-- The bytes of a stored plan, none for a plan that is not stored. -/
def State.planBytes (s : State) (id : Nat) : List Byte := ((s.pln.plan id).map Plan.bytes).getD []

/-- The settle delay S that a value of a request and of its plan's header give (R97, R111). -/
def State.settleOf (s : State) (req hdr : Nat) : Nat :=
  if req ≠ 0 then req else if hdr ≠ 0 then hdr else min (max (s.rd PLN_SETTLE_DEF.SETTLE) 4) 20000

/-- PLN_MAKEBB_DWELL, 0 acting as 1 (R111). -/
def State.dwell (s : State) : Nat := max 1 (s.rd PLN_MAKEBB_DWELL.DWELL)

/-- S of a plan committed with a SETTLE value (R97). -/
def State.planSettle (s : State) (req plan : Nat) : Nat := s.settleOf req (planHdr (s.planBytes plan)).settle

/-- The settle delay of a request: PLN_SETTLE_DEF for a re-application (R373) and a calibration move. -/
def State.reqSettle (s : State) (r : Req) : Nat :=
  match r.origin with
  | .reapply | .sweep => s.settleOf 0 0
  | _ => s.planSettle r.settle r.plan

/-- The span of a plan's commit (R117): S + 50 frames, and the dwell if it holds a MAKEBB entry. -/
def State.planSpan (s : State) (req plan : Nat) : Nat :=
  s.planSettle req plan + 50 + if planMakebb (s.planBytes plan) then s.dwell else 0

/-- The span of a request. -/
def State.span (s : State) (r : Req) : Nat :=
  match r.origin with
  | .reapply | .sweep => s.reqSettle r + 50
  | _ => s.planSpan r.settle r.plan

/-! ### Queues (R114, R115, R118, R119) -/

/-- The queue of a request. -/
def Req.queue (r : Req) : Nat := 65 * r.cls + r.src

/-- The requests of a queue, its head first. -/
def State.queueOf (s : State) (q : Nat) : List Req := s.orb.reqs.filter fun r => r.queue == q

/-- The order of a queue: prep frame, then acceptance. -/
def Req.before (a b : Req) : Bool := decide (a.prep < b.prep) || (a.prep == b.prep && decide (a.seq ≤ b.seq))

/-- Requests in order of prep frame. -/
def sortReqs (l : List Req) : List Req := sortBy Req.before l

/-- A 32-bit virtual time is later than another by their signed difference (R118). -/
def later32 (a b : Nat) : Bool := decide (0 < toS 32 (a + 2 ^ 32 - b % 2 ^ 32))

/-- Figure `k` of a queue's interval (R125): 0 MAX_DEPTH, 1 MAX_HOL in frames, 2 ADMITTED, 3 TOKENS, 4 ENERGY, 5 HELD. -/
def State.stat (s : State) (q k : Nat) : Nat := nget s.orb.stats (16 * q + k)

/-- The state with such a figure. -/
def State.setStat (s : State) (q k v : Nat) : State := { s with orb := { s.orb with stats := nset s.orb.stats (16 * q + k) v } }

/-- A request enters its queue (R115): a queue that was empty starts no earlier than its class (R119). -/
def State.enqueue (s : State) (r : Req) : State :=
  let q := r.queue
  let v := nget s.orb.vtime q
  let big := s.rd ORB_VTIME.VTIME r.cls
  let r' := { r with seq := s.orb.nextSeq }
  let vt := if (s.queueOf q).isEmpty ∧ later32 big v then nset s.orb.vtime q big else s.orb.vtime
  let s1 : State := { s with orb := { s.orb with
      reqs := sortReqs (s.orb.reqs ++ [r']), nextSeq := s.orb.nextSeq + 1, vtime := vt } }
  s1.setStat q 0 (max (s1.stat q 0) (s1.queueOf q).length)

/-- The head-of-line delay of a request at the current frame, in frames: the time since its prep frame (R124, R125). -/
def State.holDelay (s : State) (r : Req) : Nat := s.now - r.prep

/-- The delay of a queue's head enters the interval's and the class's greatest (R125, R136). -/
def State.noteHol (s : State) (r : Req) : State :=
  let us := s.holDelay r / Config.framesPerUs
  let s1 := s.setStat r.queue 1 (max (s.stat r.queue 1) (s.holDelay r))
  s1.wr ORB_CLASS_STAT.MAX_HOL_US (min 0xFFFF (max us (s.rd ORB_CLASS_STAT.MAX_HOL_US r.cls))) r.cls

/-- The request is the head of its queue. -/
def State.isHead (s : State) (r : Req) : Bool := ((s.queueOf r.queue).head?.map Req.seq) == some r.seq

/-- Requests leave their queues. -/
def State.dequeue (s : State) (p : Req → Bool) : State :=
  let s1 := (s.orb.reqs.filter fun r => p r && s.isHead r).foldl State.noteHol s
  { s1 with orb := { s1.orb with reqs := s1.orb.reqs.filter fun r => !p r } }

/-! ### Token buckets (R121 to R123) -/

/-- EN, BURST and RATE of bucket `b`: 1 to 7 of the classes, 8 of all transitions, 9 of energy. -/
def State.bktOn (s : State) (b : Nat) : Bool :=
  if b < 8 then s.on ORB_TB_CFG.EN b else if b = 8 then s.on ORB_GTB_CFG.EN else s.on ORB_GEB_CFG.EN
@[inherit_doc State.bktOn] def State.bktBurst (s : State) (b : Nat) : Nat :=
  if b < 8 then s.rd ORB_TB_CFG.BURST b else if b = 8 then s.rd ORB_GTB_CFG.BURST else s.rd ORB_GEB_CFG.BURST
@[inherit_doc State.bktOn] def State.bktRate (s : State) (b : Nat) : Nat :=
  if b < 8 then s.rd ORB_TB_RATE.RATE b else if b = 8 then s.rd ORB_GTB_RATE.RATE else s.rd ORB_GEB_RATE.RATE

/-- What a bucket has gained and paid at the current frame, in 1/20,000 units (assumption 15). -/
def State.bktLevel (s : State) (b : Nat) : Int :=
  min ((s.bktBurst b : Int) * 20000) ((aget s.orb.level b).getD 0 + (s.bktRate b * (s.now - s.orb.levelAt) : Nat))

/-- A bucket's level as it is held, in units of 1/65,536 (R121). -/
def State.bktHeld (s : State) (b : Nat) : Int := s.bktLevel b * 65536 / 20000

/-- The levels brought up to the current frame. -/
def State.accrue (s : State) : State :=
  { s with orb := { s.orb with
      level := (List.range 10).map fun b => (b, s.bktLevel b)
      levelAt := s.now } }

/-- A bucket is short for a cost (R121). -/
def State.short (s : State) (b cost : Nat) : Bool :=
  s.bktOn b && decide (s.bktHeld b < (min cost (s.bktBurst b) : Nat) * 65536)

/-- A cost is debited from an enabled bucket (R121). -/
def State.debit (s : State) (b cost : Nat) : State :=
  if !s.bktOn b then s
  else
    let s1 := s.accrue
    let l := max (s1.bktLevel b - (cost * 20000 : Nat)) (-(2 ^ 31 - 1) * 20000)
    { s1 with orb := { s1.orb with level := aput s1.orb.level b l } }

/-- The debits of an admission (R112, R115). -/
def State.debits (s : State) (r : Req) : State :=
  if r.cls = 0 then s
  else
    let s1 := (s.debit r.cls r.tcost).debit 8 r.tcost
    if r.jcost = 0 then s1 else s1.debit 9 r.jcost

/-- A write of BURST clamps the level to it (R123). -/
def State.clampBurst (s : State) (b : Nat) : State :=
  let s1 := s.accrue
  { s1 with orb := { s1.orb with level := aput s1.orb.level b (min (s1.bktLevel b) (s1.bktBurst b * 20000 : Nat)) } }

/-! ### The Orbit list in frames (R128) -/

/-- The cycle length L of a list. -/
def orbitLen (l : List OrbitEnt) : Nat := (l.map OrbitEnt.dur).sum

/-- The entry of a list whose interval contains an offset in the cycle, with the offset of its start. -/
def entryAt : List OrbitEnt → Nat → Nat → Nat → Option (Nat × Nat)
  | [], _, _, _ => none
  | e :: t, i, d, x => if x < d + e.dur then some (i, d) else entryAt t (i + 1) (d + e.dur) x

/-- The entry in force at frame `f` of a list with base `b`, its start and the start of the next. -/
def orbitSpot (l : List OrbitEnt) (b f : Nat) : Option (Nat × Nat × Nat) :=
  let len := orbitLen l
  if len = 0 ∨ f < b then none
  else
    (entryAt l 0 0 ((f - b) % len)).map fun r =>
      let start := f - (f - b) % len + r.2
      (r.1, start, start + ((l[r.1]?.map OrbitEnt.dur).getD 0))

/-- The first boundary of a list at or after frame `f`: the frame, and the entry that starts there. -/
def orbitFrom (l : List OrbitEnt) (b f : Nat) : Option (Nat × Nat) :=
  if l.isEmpty then none
  else if f ≤ b then some (b, 0)
  else (orbitSpot l b (f - 1)).map fun r => (r.2.2, (r.1 + 1) % l.length)

/-- The plan that stands for entry `i` where the list starts or joins: the entry's, or that of the nearest entry before
it, in cyclic order, without HOLD (R132). -/
def orbitStand (l : List OrbitEnt) (i : Nat) : Option Nat :=
  ((List.range l.length).filterMap fun k => l[(i + l.length - k) % l.length]?).findSome? fun e =>
    if e.hold then none else some e.plan

/-- Frame `e` is a boundary between cycles of a list with base `b`. -/
def cycleEdge (l : List OrbitEnt) (b e : Nat) : Bool := orbitLen l != 0 && (e - b) % orbitLen l == 0

/-- What happens at boundary `e` of the running list: a stop, a swap, or an entry of the list (R128, R440). -/
inductive Edge where
  | stop | swap | entry
  deriving DecidableEq, Repr

/-- The event at boundary `e` of the running list (R128): a stop or a swap takes effect there if it was pending at
E − 40. -/
def State.edge (s : State) (e : Nat) : Edge :=
  let b := s.orb.base.getD 0
  let cyc := cycleEdge s.orb.active b e
  let ended := match s.orb.erased with | some a => decide (a + 40 ≤ e) | none => false
  let stopped := match s.orb.stop with | some p => decide (p.acc + 40 ≤ e) && (p.mode == 1 || cyc) | none => false
  let swapped := match s.orb.swap with | some p => decide (p.2 + 40 ≤ e) && cyc | none => false
  if decide (b < e) && (ended || stopped) then .stop else if decide (b < e) && swapped then .swap else .entry

/-- The next boundary of the running list whose prep frame has not been settled, with its entry. While a join waits for its
admission, no entry issues a request (R132). -/
def State.nextEdge (s : State) : Option (Nat × Nat) :=
  if s.orb.reqs.any fun r => r.origin == .join then none
  else s.orb.base.bind fun b => orbitFrom s.orb.active b s.orb.settled

/-! ### Selection (R116, R117) -/

/-- Of the entries of a list from `i` on, at most `n` of them, the start of the first that issues a request, where entry `i`
starts at `e`: an entry with HOLD issues none but where the list starts or joins (R128, R132). -/
def firstCommit (l : List OrbitEnt) (fresh : Bool) : Nat → Nat → Nat → Option Nat
  | 0, _, _ => none
  | n + 1, i, e =>
    match l[i % l.length]? with
    | none => none
    | some x => if !x.hold || (fresh && (orbitStand l (i % l.length)).isSome) then some e else firstCommit l false n (i + 1) (e + x.dur)

/-- The next boundary from `e` on, with entry `i`, at which the running list issues a request, of at most `n` (R117): a stop
ends the list, and a swap goes over to the shadow list. -/
def State.nextCommit (s : State) : Nat → Nat → Nat → Bool → Option Nat
  | 0, _, _, _ => none
  | n + 1, i, e, fresh =>
    let l := s.orb.active
    match s.edge e, l[i % l.length]? with
    | .stop, _ => none
    | .swap, _ => firstCommit s.orb.shadow false s.orb.shadow.length 0 e
    | .entry, none => none
    | .entry, some x =>
      if !x.hold || (fresh && (orbitStand l (i % l.length)).isSome) then some e else s.nextCommit n (i + 1) (e + x.dur) false

/-- The prep frame of the next entry of the running Orbit list that issues a request (R117, R128). -/
def State.orbitPrep (s : State) : Option Nat :=
  match s.nextEdge with
  | some (e, i) => (s.nextCommit (s.orb.active.length + 1) i e s.orb.fresh).map fun x => x - 40
  | none => none

/-- A request is held ahead at frame `f` (R117). -/
def State.heldAhead (s : State) (h : Req) (f : Nat) : Bool :=
  let near (p : Nat) : Bool := decide (f < p) && decide (p < f + s.span h)
  (s.orb.reqs.any fun r => decide (r.cls < h.cls) && near r.prep) ||
    (decide (2 < h.cls) && match s.orbitPrep with | some p => near p | none => false)

/-- A join request takes the plan of the entry whose interval contains its commit frame if it is admitted at `f` (R132).
-/
def State.resolveJoin (s : State) (r : Req) (f : Nat) : Req :=
  match r.origin with
  | .join =>
    let i := match s.orb.base with | some b => ((orbitSpot s.orb.active b (f + 40)).map (·.1)).getD 0 | none => 0
    match orbitStand s.orb.active i with
    | some p => { r with plan := p, fb := s.pln.fallbackOf p 0xFFFE, tcost := planCost (s.planBytes p)
                         jcost := ((s.pln.plan p).map Plan.energy).getD 0 }
    | none => r
  | _ => r

/-- The eligible head of class `k` with the smallest virtual time, ties to the lowest source. -/
def State.classHead (s : State) (f k : Nat) : Option Req :=
  ((List.range 65).filterMap fun src => (s.queueOf (65 * k + src)).head?.filter fun r => decide (r.prep ≤ f)).foldl
    (fun best r =>
      match best with
      | none => some r
      | some b => if later32 (nget s.orb.vtime b.queue) (nget s.orb.vtime r.queue) then some r else some b) none

/-- The choice of R116 at a frame. -/
inductive Choice where
  | none
  /-- A global hold, for a request of a class. -/
  | hold (cls : Nat)
  | take (r : Req)
  deriving DecidableEq, Repr

/-- A request is short of global tokens (R122). -/
def State.globalShort (s : State) (h : Req) : Bool := s.short 8 h.tcost || (h.jcost != 0 && s.short 9 h.jcost)

/-- The pseudocode of R116 from class `k` on. -/
def State.choose (s : State) (f : Nat) : List Nat → Choice
  | [] => .none
  | k :: ks =>
    match s.classHead f k with
    | none => s.choose f ks
    | some h0 =>
      let h := s.resolveJoin h0 f
      if 2 ≤ k ∧ s.on ORB_CTL.LOOKAHEAD ∧ s.heldAhead h f then s.choose f ks
      else if 1 ≤ k ∧ s.short k h.tcost then s.choose f ks
      else if 2 ≤ k ∧ s.globalShort h then .hold k
      else .take h

/-- Why an eligible head is not the request chosen (HELD of R125): what holds it in its own class, and an admission or a
global hold of a higher class. -/
def State.heldWhy (s : State) (f : Nat) (c : Choice) (h : Req) : Nat :=
  let k := h.cls
  let best := match s.classHead f k with | some b => b.seq == h.seq | none => false
  let h' := s.resolveJoin h f
  let own := if !best then 4
    else if 2 ≤ k ∧ s.on ORB_CTL.LOOKAHEAD ∧ s.heldAhead h' f then 32
    else if 1 ≤ k ∧ s.short k h'.tcost then 8 else 0
  let above := match c with
    | .take r => if r.cls < k then 2 else 0
    | .hold j => if j < k ∨ (j = k ∧ best) then 16 else 0
    | .none => 0
  match c with
  | .take r => if r.seq = h.seq then 0 else own + above
  | _ => own + above

/-- The heads that are eligible at frame `f`. -/
def State.eligibleHeads (s : State) (f : Nat) : List Req :=
  s.orb.reqs.filter fun r => s.isHead r && decide (r.prep ≤ f)

/-- A reason holds the given heads in this interval. -/
def State.noteHeld (s : State) (l : List (Req × Nat)) : State :=
  l.foldl (fun t x => t.setStat x.1.queue 5 (t.stat x.1.queue 5 ||| x.2)) s

/-- Every eligible head waits for a commit cycle in progress (HELD bit 0). -/
def State.noteEngine (s : State) : State := s.noteHeld ((s.eligibleHeads s.now).map fun r => (r, 1))

/-- The requests with STRICT whose commit frame cannot be met any more: the frame at which that is known has passed. -/
def State.tooLate (s : State) : List Req := s.orb.reqs.filter fun r => r.strict && decide (r.prep < s.now)

/-- The weight of a source (R118). -/
def State.weight (s : State) (src : Nat) : Nat := if src = 64 then 255 else s.rd ORB_RING_WEIGHT.WEIGHT src

/-- The admission of a request (R115, R118, R125): it leaves its queue, virtual times move on, and the costs are
debited. -/
def State.admitReq (s : State) (r : Req) : State :=
  let q := r.queue
  let v := nget s.orb.vtime q
  let s1 := s.dequeue fun x => x.seq == r.seq
  let s2 := (s1.wr ORB_VTIME.VTIME v r.cls).wr ORB_STATUS.LAST_CLASS r.cls
  let s3 : State := { s2 with orb := { s2.orb with
      vtime := nset s2.orb.vtime q ((v + r.tcost * 256 / max 1 (s.weight r.src)) % 2 ^ 32) } }
  let s4 := ((s3.setStat q 2 (s3.stat q 2 + 1)).setStat q 3 (s3.stat q 3 + r.tcost)).setStat q 4 (s3.stat q 4 + r.jcost)
  s4.debits r

/-! ### Queue samples (R125) -/

/-- A bucket's level in whole units (R121). -/
def State.levelUnits (s : State) (b : Nat) : Int := s.bktHeld b / 65536

/-- The payload of a queue's sample. -/
def State.queuePayload (s : State) (q : Nat) : List Byte :=
  let l := s.queueOf q
  let hol := match l.head? with | some r => s.holDelay r | none => 0
  leBytes 2 l.length ++ leBytes 2 (max (s.stat q 0) l.length) ++
    leBytes 4 (min 0xFFFFFFFF (hol / Config.framesPerUs)) ++
    leBytes 4 (min 0xFFFFFFFF (max (s.stat q 1) hol / Config.framesPerUs)) ++
    leBytes 4 (s.stat q 2) ++ leBytes 4 (s.stat q 3) ++ leBytes 4 (s.stat q 4) ++ leBytes 4 (nget s.orb.vtime q) ++
    leBytes 4 (if q / 65 = 0 then 0 else ofS 32 (s.levelUnits (q / 65))) ++ leBytes 4 (ofS 32 (s.levelUnits 8)) ++
    leBytes 4 (ofS 32 (s.levelUnits 9)) ++ leBytes 1 (s.stat q 5) ++ leBytes 7 0

/-- QUEUE_SAMPLE (R125): at the next Meridian millisecond boundary every queue that a binding covers is sampled, and a
new interval begins. -/
def execQueueSample (s : State) : Host.Outcome State Fault Refusal :=
  .next <|
    let s1 := s.once 0 (s.duty 0 Config.framesPerMs 0)
    let s2 := if s1.pln.cycle.isSome then s1.noteEngine else s1
    let s3 := (List.range 520).foldl (fun t q => if (t.bound 1 q).isEmpty then t else t.record 1 q t.ticks (t.queuePayload q)) s2
    let depth := ((List.range 520).filter fun q => !(s3.queueOf q).isEmpty).map fun q => (16 * q, (s3.queueOf q).length)
    { s3 with orb := { s3.orb with stats := depth } }

/-- BUCKET_BURST_WRITE (R123): BURST of a bucket takes a new value at once and clamps its level; 0 is refused. The
class-0 bucket does not exist (R122). -/
def execBucketBurstWrite (die : Fin 2) (bucket : Fin 10) (burst : BitVec 24) (s : State) :
    Host.Outcome State Fault Refusal :=
  .next <| s.viaBar0 die (if bucket.val < 8 then 0x200200 + 16 * bucket.val else if bucket.val = 8 then 0x200300 else 0x200310) fun s =>
    if bucket.val = 0 then s
    else if burst.toNat = 0 then s.wr ORB_STATUS.CFG_REJECT 1
    else
      let s0 := s.accrue
      let s1 := if bucket.val < 8 then s0.wr ORB_TB_CFG.BURST burst.toNat bucket.val
        else if bucket.val = 8 then s0.wr ORB_GTB_CFG.BURST burst.toNat else s0.wr ORB_GEB_CFG.BURST burst.toNat
      s1.clampBurst bucket.val

/-- STAT_CLR (R136): every class's greatest head-of-line delay becomes 0. -/
def execStatClr (die : Fin 2) (s : State) : Host.Outcome State Fault Refusal :=
  .next <| s.viaBar0 die 0x200000 fun s =>
    (List.range 8).foldl (fun t k => t.wr ORB_CLASS_STAT.MAX_HOL_US 0 k) s

end Sys2Proof.Machine
end

