-- ==== Sys2Proof/Machine/Tile.lean ====
section
/-! DEFINITION. What the families share of the drive tiles (chapter 5): banks, changes to LIVE and their ranks, the gate
override, dither settings and resting channels. -/
namespace Sys2Proof.Machine

/-- Output states of R139. -/
def stRest : Nat := 0
@[inherit_doc stRest] def stDrive : Nat := 1
@[inherit_doc stRest] def stSpared : Nat := 2
@[inherit_doc stRest] def stChange : Nat := 3
@[inherit_doc stRest] def stGuardRest : Nat := 4
@[inherit_doc stRest] def stFailed : Nat := 5

/-- The output state of a channel. -/
def State.outState (s : State) (ch : Nat) : Nat := s.chRd DRV_CH_STATE.STATE ch

/-- A channel is in CHANGE: writes that name it are discarded and counted (R141). -/
def State.inChange (s : State) (ch : Nat) : Bool := s.outState ch == stChange

/-- The LIVE code of a channel. -/
def State.live (s : State) (ch : Nat) : Nat := s.chRd DRV_CH_LIVE.LIVE ch

/-- Discarded writes are counted in the channel's tile (R141, R146). -/
def State.override (s : State) (ch n : Nat) : State := s.bump DRV_CNT_OVERRIDE.COUNT n (ch / 2048)

/-- The frame at which a write in the update queue acts (R145): its apply frame, or the first frame after its arrival if it
came late. -/
def CodeWrite.late (w : CodeWrite) : Bool := decide (w.apply + 1 < w.taken)
@[inherit_doc CodeWrite.late] def CodeWrite.due (w : CodeWrite) : Nat := if w.late then w.taken else w.apply

/-- LIVE of a channel changes at frame `f` by a change of rank 1 or 2 (R146): every write of a lower rank for that frame is
discarded and counted, one that has already reached LIVE too. -/
def State.setLive (s : State) (ch code f : Nat) : State :=
  if s.inChange ch then s.override ch 1
  else
    let hit (w : CodeWrite) : Bool := w.ch == ch && w.due == f
    let was := b2n (nget s.drv.lowAt ch == f + 1)
    let s1 := (s.override ch ((s.drv.queue.filter hit).length + was)).chWr DRV_CH_LIVE.LIVE code ch
    { s1 with drv := { s1.drv with queue := s1.drv.queue.filter fun w => !hit w, lowAt := nset s1.drv.lowAt ch 0 } }

/-- The tile took a write in its last Twilight window, of 2 frames (R147). -/
def State.twilit (s : State) (tile : Nat) (w : CodeWrite) : Bool :=
  decide (nget s.drv.twilightEnd tile < w.taken + 2) && decide (w.taken ≤ nget s.drv.twilightEnd tile)

/-- The value that LIVE takes from the writes of one channel and frame: of those taken in a Twilight window the lower of the
two dies' values, each its write or else the last it delivered (R147). -/
def State.liveValue (s : State) (tile : Nat) (w : CodeWrite) (all : List CodeWrite) : Nat :=
  if all.any fun x => x.rank == w.rank && s.twilit tile x then
    let other := 1 - w.die
    match all.find? fun x => x.ch == w.ch && x.die == other && x.rank == w.rank with
    | some x => min w.code x.code
    | none => match nget s.drv.delivered (2 * w.ch + other) with
      | 0 => w.code
      | v + 1 => min w.code v
  else w.code

/-- One channel's writes for the same frame are applied: the highest rank takes effect, and the lower ones are discarded and
counted (R146). -/
def State.applyDue (s : State) (tile : Nat) (due : List CodeWrite) (ch : Nat) : State :=
  let mine := due.filter fun w => w.ch == ch
  let top := mine.filter fun w => mine.all fun x => decide (w.rank ≤ x.rank)
  match top.getLast? with
  | none => s
  | some w =>
    if s.inChange ch then s.override ch mine.length
    else
      let s1 := (s.override ch (mine.length - top.length)).chWr DRV_CH_LIVE.LIVE (s.liveValue tile w mine) ch
      { s1 with drv := { s1.drv with lowAt := nset s1.drv.lowAt ch (w.due + 1) } }

/-- A fault source is present: its cause bit of the Safety Supervisor (R354). -/
def State.cause (s : State) (source : Nat) : Bool := s.srcBit SAF_CAUSE.BITS source

/-- Global Eclipse is in force (R365). -/
def State.eclipse (s : State) : Bool := s.on SAF_STATUS.GLOBAL_ECLIPSE

/-- A tile receives the LOST command: the cause of its TILE_LOST is present, or it has not returned yet (R349). -/
def State.lostCmd (s : State) (tile : Nat) : Bool := s.cause (srcTile tile 0) || s.tileLost tile

/-- The tile is frozen (R381, R384). -/
def State.frozen (s : State) (tile : Nat) : Bool := nget s.drv.frozenAt tile != 0

/-- A condition of R159 other than the latched trip holds for a gate channel. A tile blocks for a SAFE_N request before the
dies act on it (R367). -/
def State.heldBlock (s : State) (ch : Nat) : Bool :=
  s.chOn DRV_CH_GATEW.DARK ch || s.chOn DRV_CH_GATEW.ESC ch || s.eclipse || s.on SAF_STATUS.SAFE_N_REQ || s.chOn DRV_CH_GATEW.LOSTBLK ch ||
    s.on DRV_STATUS.ORPHAN (ch / 2048) || s.chOn DRV_CH_GATEW.ORPH ch || s.chOn DRV_CH_GATEW.DKHOLD ch ||
    s.lostCmd (ch / 2048)

/-- The gate override acts on a channel (R159). -/
def State.blocked (s : State) (ch : Nat) : Bool :=
  s.chOn DRV_CH_GATEW.GATE ch && (s.heldBlock ch || s.chOn DRV_CH_GATEW.TRIP ch)

/-- The channel's tile is armed (R140). -/
def State.armed (s : State) (tile : Nat) : Bool := s.on DRV_STATUS.ARMED tile

/-- A unit that a calibration skipped is due again as it enters DRIVE or REST (R301). -/
def State.dueAgain (s : State) (u : Nat) : State :=
  if s.cal.later.contains u then
    { s with cal := { s.cal with later := s.cal.later.filter fun x => x != u, due := nset s.cal.due u (s.now + 1) } }
  else s

/-- The channel's bit of DRV_FAILED (R162). -/
def State.markedFailed (s : State) (ch : Nat) : Bool := bit (s.rd DRV_FAILED.FAILED (ch / 2048) (ch % 2048 / 32)) (ch % 32)

/-- The spare of a channel's group: its reason and the position it stands in for. -/
def State.spare (s : State) (ch : Nat) : Nat × Nat :=
  (s.rd DRV_SPARE.REASON (ch / 2048) (ch % 2048 / 32), s.rd DRV_SPARE.POSITION (ch / 2048) (ch % 2048 / 32))

/-- A persistent guard trip holds a gate's channel (R160). -/
def State.persists (s : State) (ch : Nat) : Bool :=
  s.chOn DRV_CH_GATEW.GATE ch && s.chOn DRV_CH_GATEW.MONV ch &&
    bit (s.rd DRV_GUARD_PERSIST.PERSIST (ch / 2048) (s.chRd DRV_CH_GATEW.MON ch / 32)) (s.chRd DRV_CH_GATEW.MON ch % 32)

/-- The state that a channel takes when nothing keeps it in another (R139, R140, R154, R160, R163): REST where R140 or the
fold-back floor keeps it, GUARD_REST under a persistent trip, SPARED or FAILED while its bit of DRV_FAILED is set (assumption
91), and DRIVE otherwise. -/
def State.stateOf (s : State) (ch : Nat) : Nat :=
  let bound := (s.elemAt ch).isSome && s.drv.loaded
  let floored := s.on DRV_STATUS.FOLD_FLOOR (ch / 2048) && s.chOn DRV_CH_STATE.MODE ch
  if !bound || !s.armed (ch / 2048) || floored then stRest
  else if s.persists ch then stGuardRest
  else if s.spare ch == (2, ch % 32) then stSpared
  else if s.markedFailed ch then stFailed
  else stDrive

/-- A channel that leaves a resting state enters the state that is now its own. -/
def State.wake (s : State) (ch : Nat) : State :=
  s.chWr DRV_CH_STATE.STATE (s.stateOf ch) ch |>.dueAgain ch

/-- The dither setting of a tone binding (R152). -/
def ditherOf (tone amp : Nat) : DitherSet :=
  { dmode := if amp = 0 then 0 else 1, tone := tone, amp := amp, inc := 0, phase0 := 0 }

/-- INC of a grid tone (R150): round((100 kHz + 20 kHz × k) × 2^32 / 20 MHz). -/
def gridInc (k : Nat) : Nat := ((100000 + 20000 * k) * 2 ^ 32 + 10000000) / 20000000

/-- The quarter-wave sine table s(i) = round(32,767 × sin(2π × (i + 0.5) / 4,096)) of R149, 64 entries of 16 bits in each
number. -/
def sineTable : List Nat :=
  [0xc730c410c0f0bdd0bab0b780b460b140ae20ab00a7e0a4c0a1a09e809b609840951091f08ed08bb08890857082507f207c0078e075c072a06f706c506930661062f05fc05ca059805660534050104cf049d046b0438040603d403a20370033d030b02d902a702740242021001dd01ab01790147011400e200b0007e004b0019,
   0x18e018af187d184c181b17e917b817861755172416f216c1168f165e162c15fb15c9159815661534150314d114a0146e143c140b13d913a813761344131212e112af127d124c121a11e811b611851153112110ef10bd108b105a10280ff60fc40f920f600f2e0efc0eca0e990e670e350e030dd10d9f0d6d0d3b0d090cd70ca5,
   0x251024e024af247f244f241f23ef23be238e235e232e22fd22cd229c226c223c220b21db21aa217a2149211920e820b72087205620261ff51fc41f941f631f321f011ed11ea01e6f1e3e1e0d1ddc1dac1d7b1d4a1d191ce81cb71c861c551c241bf31bc21b911b601b2e1afd1acc1a9b1a6a1a391a0719d619a5197419421911,
   0x30e430b630873059302a2ffc2fcd2f9e2f702f412f122ee32eb52e862e572e282df92dca2d9b2d6c2d3d2d0e2cdf2cb02c812c522c232bf42bc42b952b662b372b072ad82aa82a792a4a2a1a29eb29bb298c295c292d28fd28cd289e286e283e280f27df27af277f274f272026f026c0269026602630260025d025a025702540,
   0x3c403c143be73bbb3b8e3b623b353b093adc3ab03a833a563a2939fd39d039a339763949391c38ef38c238953868383b380e37e037b337863759372b36fe36d036a336763648361a35ed35bf359235643536350934db34ad347f3451342333f633c8339a336c333e330f32e132b332853257322931fa31cc319e316f31413113,
   0x470746de46b4468a46604636460c45e245b8458d45634539450f44e444ba448f4465443b441043e543bb43904365433b431042e542ba428f42644239420e41e341b8418d41624136410b40e040b54089405e403240073fdb3fb03f843f583f2d3f013ed53ea93e7d3e523e263dfa3dce3da23d763d4a3d1d3cf13cc53c993c6c,
   0x512050f950d250ab5084505d5036500e4fe74fc04f994f714f4a4f224efb4ed34eab4e844e5c4e344e0d4de54dbd4d954d6d4d454d1d4cf44ccc4ca44c7c4c534c2b4c034bda4bb24b894b614b384b0f4ae64abe4a954a6c4a434a1a49f149c8499f4976494d492348fa48d148a7487e4855482b480247d847ae4785475b4731,
   0x5a705a4c5a295a0559e159bd599a59765952592e590a58e558c1589d587958545830580c57e757c2579e577957545730570b56e656c1569c56775652562d560855e255bd55985572554d5527550254dc54b75491546b5445541f53fa53d453ae53875361533b531552ef52c852a2527c5255522f520851e251bb5194516d5147,
   0x62e162c162a16281626162416221620061e061c0619f617f615e613d611d60fc60db60ba609960786057603660155ff45fd25fb15f905f6e5f4d5f2b5f095ee85ec65ea45e825e605e3e5e1c5dfa5dd85db65d945d715d4f5d2c5d0a5ce75cc55ca25c7f5c5d5c3a5c175bf45bd15bae5b8b5b685b445b215afe5ada5ab75a94,
   0x6a5f6a436a276a0b69ee69d269b6699a697d696169446927690b68ee68d168b46897687a685d68406823680667e867cb67ae6790677267556737671966fc66de66c066a26684666666476629660b65ec65ce65af6591657265546535651664f764d864b9649a647b645c643d641d63fe63df63bf63a063806360634163216301,
   0x70d670be70a6708f7077705f7046702e70166ffe6fe56fcd6fb46f9c6f836f6b6f526f396f206f076eee6ed56ebc6ea26e896e706e566e3d6e236e0a6df06dd66dbc6da26d886d6e6d546d3a6d206d066ceb6cd16cb66c9c6c816c666c4c6c316c166bfb6be06bc56baa6b8e6b736b586b3c6b216b056aea6ace6ab26a976a7b,
   0x76377624761075fd75e975d675c275ae759b75877573755f754b75377522750e74fa74e574d174bc74a87493747e74697454743f742a7415740073eb73d573c073aa7395737f73697354733e7328731272fc72e672d072b972a3728d7276726072497232721c720571ee71d771c071a97192717a7163714c7134711d710570ee,
   0x7a757a667a577a497a3a7a2b7a1c7a0d79fd79ee79df79cf79c079b079a1799179817971796279527941793179217911790178f078e078cf78be78ae789d788c787b786a78597848783778257814780377f177df77ce77bc77aa77987786777477627750773e772c7719770776f476e276cf76bc76a9769776847671765e764a,
   0x7d847d7b7d717d677d5c7d527d487d3e7d337d297d1e7d147d097cfe7cf37ce87cdd7cd27cc77cbc7cb17ca57c9a7c8e7c837c777c6b7c5f7c537c477c3b7c2f7c237c177c0a7bfe7bf17be57bd87bcb7bbf7bb27ba57b987b8b7b7d7b707b637b557b487b3a7b2d7b1f7b117b037af57ae77ad97acb7abd7aaf7aa07a927a83,
   0x7f5f7f5a7f557f507f4a7f457f407f3a7f357f2f7f297f237f1e7f187f127f0c7f057eff7ef97ef37eec7ee67edf7ed87ed27ecb7ec47ebd7eb67eaf7ea77ea07e997e917e8a7e827e7a7e737e6b7e637e5b7e537e4b7e427e3a7e327e297e217e187e107e077dfe7df57dec7de37dda7dd17dc87dbe7db57dab7da27d987d8e,
   0x7fff7fff7fff7fff7ffe7ffe7ffd7ffd7ffc7ffc7ffb7ffa7ff97ff87ff77ff67ff57ff37ff27ff07fef7fed7feb7fea7fe87fe67fe47fe27fe07fdd7fdb7fd97fd67fd47fd17fce7fcc7fc97fc67fc37fc07fbd7fb97fb67fb37faf7fac7fa87fa47fa17f9d7f997f957f917f8d7f887f847f807f7b7f777f727f6d7f697f64]

/-- Entry `i` of the sine table. -/
def sineAt (i : Nat) : Nat := bits ((sineTable[i / 64]?).getD 0) (16 * (i % 64)) 16

/-- The signed sine of a 32-bit phase, before amplitude scaling (R149). -/
def sine (phi : Nat) : Int :=
  let q := bits phi 30 2
  let i := bits phi 20 10
  let m : Int := if q % 2 = 0 then sineAt i else sineAt (1023 - i)
  if q < 2 then m else -m

/-- The dither of a phase at amplitude `a` (R149). -/
def ditherAt (phi a : Nat) : Int :=
  let s := sine phi
  let m : Int := (a * s.natAbs + 16384) / 32768
  if s < 0 then -m else m

/-- The phase φ of a channel's NCO in frame `f` (R150, R151). -/
def State.phaseAt (s : State) (ch f : Nat) : Nat :=
  let mode := s.chRd DRV_CH_DITHER.DMODE ch
  if mode = 1 then
    (s.chRd DRV_CH_PHASE0.PHASE0 ch + gridInc (s.chRd DRV_CH_DITHER.TONE ch) * (secIndex f % 1000)) % 2 ^ 32
  else if mode = 2 then
    (nget s.drv.acc (2 * ch) + s.chRd DRV_CH_DINC.INC ch * (f + 1 - nget s.drv.acc (2 * ch + 1))) % 2 ^ 32
  else nget s.drv.acc (2 * ch)

/-- The accumulator takes a phase that belongs to a frame. -/
def State.setAcc (s : State) (ch phi f : Nat) : State :=
  { s with drv := { s.drv with acc := nset (nset s.drv.acc (2 * ch) phi) (2 * ch + 1) (f + 1) } }

/-- The accumulator takes the phase of the current frame, before a setting changes (R151). One that COHERENT has set for the
next frame stands. -/
def State.freezePhase (s : State) (ch : Nat) : State :=
  if s.now + 1 < nget s.drv.acc (2 * ch + 1) then s else s.setAcc ch (s.phaseAt ch s.now) s.now

/-- A binding's dither setting takes effect (R152). -/
def State.setDither (s : State) (ch : Nat) (d : DitherSet) : State :=
  ((((s.freezePhase ch).chWr DRV_CH_DITHER.DMODE d.dmode ch).chWr DRV_CH_DITHER.TONE d.tone ch).chWr DRV_CH_DITHER.AMP d.amp
    ch).chWr DRV_CH_PHASE0.PHASE0 d.phase0 ch

/-! ### Spares and calibration (R15, R163, R165, R302, R303) -/

/-- The state with the spare of a channel's group set; an idle spare drives no pad. -/
def State.setSpare (s : State) (ch reason pos : Nat) : State :=
  let s1 := (s.wr DRV_SPARE.REASON reason (ch / 2048) (ch % 2048 / 32)).wr DRV_SPARE.POSITION pos (ch / 2048) (ch % 2048 / 32)
  if reason = 0 then { s1 with drv := { s1.drv with pads := nset s1.drv.pads (16384 + ch / 32) 0 } } else s1

/-- A takeover or hand-over of a channel's group ends: its spare stands idle, and the channel shows no calibration. -/
def State.unspare (s : State) (ch : Nat) : State := (s.setSpare ch 0 0).chWr DRV_CH_STATE.CAL 0 ch

/-- The measurements that satisfy `p` are abandoned (R15, R303): their takeovers end, and their units are due again. -/
def State.abandonMeas (s : State) (p : Meas → Bool) : State :=
  let gone := s.cal.meas.filter p
  let s1 := (gone.filter fun m => m.behind).foldl (fun t m => t.unspare m.unit) s
  { s1 with cal := { s1.cal with
      meas := s1.cal.meas.filter fun m => !p m
      due := gone.foldl (fun l m => nset l m.unit (s.now + 1)) s1.cal.due } }

end Sys2Proof.Machine
end

