-- ==== Sys2Proof/Machine/Commit.lean ====
section
/-! DEFINITION. Committing plans (chapters 3 and 4): acceptance, abort, admission, the commit timeline, the re-application
and the enable of the Plan Engine. -/
namespace Sys2Proof.Machine

/-- The status codes of the Transition Scheduler (R135), the profile unit and the Calibration Manager that a commit meets.
-/
def stOrbitLateSkip : Nat := 0x0207
@[inherit_doc stOrbitLateSkip] def stPrfBusy : Nat := 0x0401
@[inherit_doc stOrbitLateSkip] def stPreempted : Nat := 0x0404
@[inherit_doc stOrbitLateSkip] def stStreamEclipsed : Nat := 0x0406
@[inherit_doc stOrbitLateSkip] def stCalAbandoned : Nat := 0x0604

/-! ### PLAN_COMMIT and PLAN_ABORT (R97, R98, R109) -/

/-- The body of a PLAN_COMMIT is valid (R97). -/
def commitBodyOk (d : Desc) : Bool :=
  let fb := d.fld 10 2
  let cls := d.fld 12 1
  let settle := d.fld 14 2
  decide (d.fld 8 2 ≤ 1023) && (decide (fb ≤ 1023) || fb == 0xFFFE || fb == 0xFFFF) &&
    (cls == 1 || (decide (3 ≤ cls) && decide (cls ≤ 7))) && decide (d.fld 13 1 < 2) &&
    (settle == 0 || (decide (4 ≤ settle) && decide (settle ≤ 20000))) && zeros d.bytes 24 40

/-- A PLAN_COMMIT asks for "as soon as possible". -/
def commitAsap (d : Desc) : Bool := bit (d.fld 13 1) 0

/-- The status with which R98 and R440 complete a PLAN_COMMIT at acceptance, OK where it passes. -/
def State.commitStatus (s : State) (d : Desc) : Nat :=
  let plan := d.fld 8 2
  let fb := s.pln.fallbackOf plan (d.fld 10 2)
  let dom := (planHdr (s.planBytes plan)).domain
  let ring := d.dom
  if !s.plnOn then stPlnDisabled
  else if !commitBodyOk d then stBadField
  else if s.keysErased then stKeysErased
  else if (s.pln.plan plan).isNone || (match fb with | some p => (s.pln.plan p).isNone | none => false) then stNoPlan
  else if (ring != 0 && ring != dom) ||
      (match fb with
        | some p => (planHdr (s.planBytes p)).domain != dom && (planHdr (s.planBytes p)).domain != 0
        | none => false) then stDomainDenied
  else if !commitAsap d && s.timeOut (d.fld 16 8) then stTimeRange
  else stOK

/-- The request of an accepted PLAN_COMMIT (R115, R120). -/
def State.commitReq (s : State) (d : Desc) : Req :=
  let plan := d.fld 8 2
  let creq := if commitAsap d then s.now else s.frameAt (d.fld 16 8)
  { cls := d.fld 12 1, src := d.ring, origin := .host d.id, plan := plan, fb := s.pln.fallbackOf plan (d.fld 10 2)
    settle := d.fld 14 2, time := if commitAsap d then none else some (d.fld 16 8), creq := creq
    prep := if commitAsap d then s.now else creq - Config.prepFrames, strict := d.strict && !commitAsap d, acc := s.now
    seq := 0, tcost := planCost (s.planBytes plan), jcost := ((s.pln.plan plan).map Plan.energy).getD 0, moves := []
    until_ := 0 }

/-- The descriptor's commit is queued or in progress. -/
def State.commitPending (s : State) (id : Nat) : Bool :=
  (s.orb.reqs.any fun r => r.origin == .host id) ||
    match s.pln.cycle with | some c => c.req.origin == .host id | none => false

/-- PLAN_COMMIT (R98): refused at once, or queued. With STRICT, a time that cannot be met is refused at once (R99). -/
def execPlanCommit (id : Nat) (s : State) : Host.Outcome State Fault Refusal :=
  .next <| s.withOp id opPlanCommit fun d =>
    if s.commitPending id then s
    else
      let st := s.commitStatus d
      let r := s.commitReq d
      if st ≠ stOK then s.done d st
      else if r.strict ∧ r.creq < s.now + Config.prepFrames then s.done d stLateReject
      else s.enqueue r

/-- Requests leave their queues and complete with a status, if they come from descriptors. -/
def State.cancel (s : State) (p : Req → Bool) (status : Nat) : State :=
  let gone := s.orb.reqs.filter p
  let s := if (s.orb.reqs.filter fun r => !p r).isEmpty then s.wr ORB_STATUS.GLOBAL_HOLD 0 else s
  gone.foldl (fun t r => match r.origin with
    | .host id => t.withDesc id fun d => t.done d status
    | _ => t) (s.dequeue p)

/-- PLAN_ABORT (R109). -/
def execPlanAbort (id : Nat) (s : State) : Host.Outcome State Fault Refusal :=
  .next <| s.withOp id opPlanAbort fun d =>
    let plan := d.fld 8 2
    let dom := d.dom
    if 1023 < plan || !zeros d.bytes 10 54 then s.done d stBadField
    else
      let mine (r : Req) : Bool := match r.origin with
        | .host i => r.plan == plan && (dom == 0 || (s.desc i).any fun x => x.dom == dom)
        | _ => false
      let n := (s.orb.reqs.filter mine).length
      let busy := match s.pln.cycle with | some c => mine c.req | none => false
      if n == 0 && busy then s.done d stTooLate else (s.cancel mine stAborted).done d stOK n

/-! ### The end of a commit -/

/-- An unresolved hold is in force: the scheduler admits nothing (R384). -/
def State.held_ (s : State) : Bool := s.on LKS_STATUS.HOLD s.active

/-- Lateness in ticks, as RESULT holds it (R65). -/
def lateResult (l : Nat) : Nat := min l 0xFFFFFFFF

/-- The pending ORBIT_START completes, if the request is of its list (R132). `exe` is a frame. -/
def State.endStart (s : State) (r : Req) (status entry exe flags : Nat) : State :=
  match s.orb.start with
  | none => s
  | some st =>
    if r.seq < st.seq then s
    else
      let s1 : State := { s with orb := { s.orb with start := none } }
      s1.withDesc st.desc fun d => s1.finish d status entry (ticksOf exe) flags

/-- An Orbit entry is skipped (R129). -/
def State.orbitSkip (s : State) : State := s.bump ORB_CNT_SKIP.COUNT

/-- A commit that was not made ends with a status at a frame (R100, R108, R129): the origin hears of it. -/
def State.endUnmade (s : State) (r : Req) (status exe : Nat) : State :=
  match r.origin with
  | .host id => s.withDesc id fun d => s.finish d status none (ticksOf exe)
  | .orbit e => s.orbitSkip.endStart r status e exe 0
  | _ => s

/-! ### Suspended path checks (R209) -/

/-- The verify entries of a commit. -/
def State.verifiesOf (s : State) (r : Req) : List VerifyEnt :=
  match r.origin with
  | .reapply | .sweep => []
  | _ => planVerifies (s.planBytes r.plan)

/-- A monitor's path check is suspended now (R209). A monitor that no present port names has no present port; of the ports that
names it counts here, a tap monitor of an ingress port is in no crossing set. -/
def State.pathSuspended (s : State) (m : Nat) : Bool :=
  (match s.portOfMonitor m with
    | none => true
    | some q => (s.port q).dark || bit (s.rd SAF_PORT_ESC.BITS (q / 32)) (q % 32) ||
        (List.range 8).any fun t => s.tileLost t && (s.crossing t).contains q) ||
    s.eclipse || bit (s.rd DRV_GUARD_TRIP.TRIP (m / 128) (m % 128 / 32)) (m % 32) || s.tileLost (m / 128) ||
    !s.armed (m / 128) || !s.on TON_CTL.PT_EN ||
    match s.pln.cycle with
      | some c => (s.verifiesOf c.req).any fun v => v.monitor == m
      | none => false

/-- The monitors with an expectation, rising (R206). -/
def State.expecting (s : State) : List Nat := (List.range 1024).filter fun m => s.on TON_PT_EXPECT.VALID m

/-- The path checks that are suspended now were suspended up to now (R209): said before an event that ends a suspension.
-/
def State.markSuspended (s : State) : State :=
  let l := (s.expecting.filter s.pathSuspended).foldl (fun l m => nset l m (s.now + 1)) s.ton.suspended
  { s with ton := { s.ton with suspended := l } }

/-- The commit cycle ends: the engine is idle, every eligible head has waited for it (R99, R125), and the path checks of the
monitors its verify entries name resume (R209). -/
def State.endCycle (s : State) : State :=
  let s1 := ((s.markSuspended.noteEngine).wr ORB_STATUS.ENGINE_BUSY 0).wr PLN_STATUS.PHASE 0
  { s1 with pln := { s1.pln with cycle := none } }

/-- The channels a plan names. -/
def planChans (bs : List Byte) : List Nat := (planTargets bs).map fun t => t.ch

/-- The channels of a request (R101): those the plan or the fallback plan names, or those a calibration move names. -/
def State.reqChans (s : State) (r : Req) : List Nat :=
  match r.origin with
  | .reapply => []
  | .sweep => r.moves.map (·.1)
  | _ => (planChans (s.planBytes r.plan) ++ match r.fb with | some p => planChans (s.planBytes p) | none => []).dedup

/-- Loops of the commit's channels resume in the classes they hold, after a frame; those under a generator wait for its
hand-back (R274). -/
def State.resumeOld (s : State) (chans : List Nat) (after : Nat) : State :=
  chans.foldl (fun t ch => if t.hasGen ch then t else t.resumeLoops ch (t.chClass ch) after) s

/-! ### Generators and players of a commit (R268, R290) -/

/-- The `n` lowest generator numbers from `k` up that are not in use. -/
def freeGens (used : List Nat) : Nat → Nat → Nat → List Nat
  | 0, _, _ => []
  | fuel + 1, k, n =>
    if n = 0 ∨ 4096 ≤ k then []
    else if used.contains k then freeGens used fuel (k + 1) n else k :: freeGens used fuel (k + 1) (n - 1)

/-- The generators allocated to a plan's PROFILE and PREEMPH entries, in channel order, if enough are free (R268). -/
def State.allocGens (s : State) (r : Req) : Option (List (Nat × Nat)) :=
  let want := sortBy (fun a b => decide (a ≤ b))
    (((planTargets (s.planBytes r.plan)).filter fun t => t.kind == 1 || t.kind == 2).map fun t => t.ch)
  let chans := s.reqChans r
  let used := (s.prf.gens.filter fun g => !chans.contains g.ch).map fun g => g.num
  let nums := freeGens used (used.length + want.length) 0 want.length
  if nums.length < want.length then none else some (want.zip nums)

/-! ### A sweep ended by another commit (R314) -/

/-- The request of a sweep's point, or of its final re-application, whose code is the live target at its commit (R314). -/
def State.sweepReq (s : State) (ch code : Nat) : Req :=
  { cls := 6, src := 64, origin := .sweep, plan := 0, fb := none, settle := 0, time := none, creq := 0, prep := s.now
    strict := false, acc := s.now, seq := 0, tcost := 2, jcost := 0, moves := [(ch, code)], until_ := 0 }

/-- A CURVE_SWEEP ends early with CAL_ABANDONED; its final re-application is still to run. -/
def State.abandonSweep (s : State) : State :=
  match s.cal.sweep with
  | none => s
  | some w =>
    if w.final then s
    else
      let s1 := (s.dequeue fun r => r.origin == .sweep).withDesc w.desc fun d =>
        (s.dequeue fun r => r.origin == .sweep).done d stCalAbandoned
      let s2 : State := { s1 with cal := { s1.cal with sweep := some { w with final := true, c := none } } }
      s2.enqueue (s.sweepReq w.ch (s.liveTarget w.ch))

/-! ### Admission (R99, R100, R116) -/

/-- The checks of R100 and R268: the first status of the new state, FALLBACK_UNSAFE for the fallback state, PRF_BUSY
where generators are short. -/
def State.admitStatus (s : State) (r : Req) : Nat :=
  match r.origin with
  | .reapply | .sweep => stOK
  | _ =>
    let st := s.fabricStatus (s.planBytes r.plan)
    let fb := match r.fb with | some p => s.fabricStatus (s.planBytes p) | none => s.standStatus
    if st ≠ stOK then st
    else if fb ≠ stOK then stFallbackUnsafe
    else if (s.allocGens r).isNone then stPrfBusy
    else stOK

/-- A commit cycle begins at the current frame for an admitted request (R99). -/
def State.beginCycle (s : State) (r : Req) : State :=
  let f := s.now
  let chans := s.reqChans r
  let bs := s.planBytes r.plan
  let slow := match r.origin with | .reapply | .sweep => false | _ => planMakebb bs
  let s1 := (s.prf.players.filter fun p => chans.contains p.ch).foldl (fun t p => t.stopPlayer p stPreempted) s
  let s2 := chans.foldl (fun t ch => t.pauseLoops ch) s1
  let named := match r.origin with
    | .reapply | .sweep => false
    | _ => match s.cal.sweep with | some w => chans.contains w.ch | none => false
  let s3 := if named then s2.abandonSweep else s2
  let st := s.admitStatus r
  let s4 := if st = stPrfBusy then s3.bump PRF_CNT_BUSY.COUNT else s3
  if st ≠ stOK then
    let at_ := f + 23
    (((s4.reach at_).endUnmade r st at_).resumeOld chans at_).endCycle
  else
    let c := max r.creq (f + Config.prepFrames)
    let settle := s.reqSettle r
    let late := match r.time with
      | some t => if r.creq < c then some (tickDiff (ticksOf c) t).toNat else none
      | none => none
    let cyc : Cycle :=
      { req := r, phase := .checked, prep := f, c := c, dwell := if slow then some s.dwell else none, settle := settle
        v := fastAt (c + (if slow then s.dwell else 0) + settle), late := late, stage := [], todo := [], dtodo := [], sent := 0, took := []
        dtook := [], kept := [], dkept := [], released := []
        gens := (s.allocGens r).getD [], early := [], before := [], codes := [], evaluated := 0, failed := 0, tileLost := false
        eclipsed := false, unarmed := false }
    let s5 := (s4.wr ORB_STATUS.ENGINE_BUSY 1).wr PLN_STATUS.PHASE 1
    { s5 with pln := { s5.pln with cycle := some cyc } }

/-- The admission of an Orbit request (R129): too late for its entry it is skipped, later than its time it is counted. -/
def State.beginOrbit (s : State) (r : Req) (entry : Nat) : State :=
  let c := s.now + Config.prepFrames
  if r.time.isSome ∧ r.prep < s.now then
    if r.until_ < c + 80 then s.orbitSkip.endStart r stOrbitLateSkip entry s.now 0
    else ((s.bump ORB_CNT_LATE.COUNT).wr ORB_ORBIT_LATENESS.FRAMES (c - r.creq)).beginCycle r
  else s.beginCycle r

/-- The admission of the first commit of an ORBIT_START (R132): B or J is fixed as the admission frame + 40, and the entry
in force then is committed, unless fewer than 80 frames of it are left or no entry commits. -/
def State.beginJoin (s : State) (r : Req) : State :=
  let j := s.now + Config.prepFrames
  let b := s.orb.base.getD j
  let spot := (orbitSpot s.orb.active b j).getD (0, j, j)
  let list := s.orb.active
  let short := s.orb.base.isSome && decide (spot.2.2 < j + 80)
  let idle := (orbitStand list 0).isNone
  let s1 : State := { s with orb := { s.orb with
      base := some b, settled := j + 1, entered := j + 1, fresh := short && !idle
      start := s.orb.start.map fun st => { st with at_ := some j, idle := idle } } }
  if short || idle then s1 else s1.beginCycle { r with origin := .orbit spot.1 }

/-- A chosen request is admitted (R116). -/
def State.admitNow (s : State) (r : Req) : State :=
  match r.origin with
  -- a join that then commits nothing, as too little of its entry is left, has paid for that entry's plan (assumption 88)
  | .join => if (orbitStand s.orb.active 0).isNone then (s.dequeue fun x => x.seq == r.seq).beginJoin r else (s.admitReq r).beginJoin r
  | .orbit e =>
    if r.time.isSome ∧ r.prep < s.now ∧ r.until_ < s.now + Config.prepFrames + 80 then
      (s.dequeue fun x => x.seq == r.seq).beginOrbit r e
    else (s.admitReq r).beginOrbit r e
  | _ => (s.admitReq r).beginCycle r

/-- The requests with STRICT that cannot be met complete with LATE_REJECT (R99). -/
def State.rejectLate (s : State) : State := s.cancel (fun r => s.tooLate.any fun x => x.seq == r.seq) stLateReject

/-- The checks of the cycle that has begun read a plan's word that cannot be read: the commit completes with MEM_UNCORR,
with nothing staged (R402). -/
def State.spoilCycle (s : State) (ecc : Option EccHit) : State :=
  match ecc, s.pln.cycle with
  | some _, some c =>
    match c.req.origin with
    | .reapply | .sweep => s
    | _ =>
      let f := c.prep + 23
      (((s.eccHit ecc).reach f).endUnmade c.req stMemUncorr f |>.resumeOld (s.reqChans c.req) f).endCycle
  | _, _ => s

/-- A write of PLN_CTL.ENABLE that changes it waits for the end of the commit cycle; it takes effect before the next admission
(R111). -/
def State.enableWaits (s : State) : Bool := s.pln.enablePending.any fun v => v != s.plnOn

/-- The Plan Engine's clock runs for the request that is prepared first (R474): it was restarted 400 frames before a preparation
frame known in advance, and other work waits for it. -/
def State.planClock (s : State) : State :=
  match s.pln.cycle, s.orb.reqs with
  | none, r0 :: rest =>
    let r := rest.foldl (fun m x => if x.prep < m.prep then x else m) r0
    if r.time.isSome ∧ s.now ≤ r.prep then s.clocksOn 17 else s.clockWait 17 r.acc
  | _, _ => s

/-- COMMIT_ADMIT (R116): at a frame with no commit cycle in progress, the scheduler chooses among the eligible requests
and admits at most one. With none eligible, the clock moves to the first prep frame. -/
def execCommitAdmit (ecc : Option EccHit) (s : State) : Host.Outcome State Fault Refusal :=
  .next <|
    let s := s.planClock.rejectLate
    match s.pln.cycle, s.orb.reqs with
    | some _, _ => s
    | none, [] => s.wr ORB_STATUS.GLOBAL_HOLD 0
    | none, r0 :: rest =>
      if s.held_ || s.enableWaits then s else
      let s := s.reach (rest.foldl (fun m r => min m r.prep) r0.prep)
      let c := s.choose s.now (List.range 8)
      let s1 := s.noteHeld ((s.eligibleHeads s.now).map fun r => (r, s.heldWhy s.now c r))
      let s2 := s1.wr ORB_STATUS.GLOBAL_HOLD (match c with | .hold _ => 1 | _ => 0)
      match c with
      | .take r => (s2.admitNow r).spoilCycle ecc
      | _ => s2

/-- REAPPLY_ADMIT (R373): the re-application that waits is admitted at a frame with no commit cycle in progress. It holds the
eligible heads of the lower classes (R125). -/
def execReapplyAdmit (s : State) : Host.Outcome State Fault Refusal :=
  .next <|
    match s.pln.cycle, s.orb.reqs.find? fun r => r.origin == .reapply with
    | none, some r =>
      if s.enableWaits then s
      else
        let s1 := s.planClock.reach r.prep
        let s2 := s1.noteHeld (((s1.eligibleHeads s1.now).filter fun h => h.seq != r.seq).map fun h => (h, s1.heldWhy s1.now (.take r) h))
        ((s2.wr ORB_STATUS.GLOBAL_HOLD 0).admitReq r).beginCycle r
    | _, _ => s

/-! ### Staging (R101, R102, R152) -/

/-- The entry of a plan that names a channel. -/
def targetFor (bs : List Byte) (ch : Nat) : Option Target := (planTargets bs).find? fun t => t.ch == ch

/-- A target entry is identical to the live image in TARGET and kind (R101). -/
def State.sameAsLive (s : State) (t : Target) : Bool :=
  match aget s.pln.live t.ch with
  | some e => e.target == t.target && e.kind == t.kind
  | none => false

/-- What R101 stages for one channel of a commit. -/
def State.stageOf (s : State) (r : Req) (ch : Nat) : Stage :=
  let fb := r.fb.bind fun p => (targetFor (s.planBytes p) ch).map fun t => t.target
  match targetFor (s.planBytes r.plan) ch with
  | none => { ch := ch, next := none, fb := fb, arm := true, keep := false, kind := 0, param := 0, target := 0 }
  | some t =>
    if s.sameAsLive t then
      { ch := ch, next := none, fb := fb, arm := fb.isSome, keep := false, kind := t.kind, param := t.param, target := t.target }
    else
      { ch := ch, next := some (if t.kind = 3 then t.param else t.target), fb := fb, arm := true, keep := fb.isNone
        kind := t.kind, param := t.param, target := t.target }

/-- The staged writes of a commit cycle: of a re-application, the live target of every bound channel whose LIVE differs
from it (R373); of a calibration move, its codes as STEP entries, and the live target in the final one (R314). -/
def State.stagesOf (s : State) (r : Req) : List Stage :=
  let step (ch code : Nat) : Stage :=
    { ch := ch, next := some code, fb := none, arm := false, keep := false, kind := 0, param := 0, target := code }
  match r.origin with
  | .reapply =>
    ((s.validElems.map fun e => (s.elem e).channel).filter fun ch => s.live ch != s.liveTarget ch).map fun ch =>
      step ch (s.liveTarget ch)
  | .sweep =>
    let final := match s.cal.sweep with | some w => w.final | none => false
    r.moves.map fun m => step m.1 (if final then s.liveTarget m.1 else m.2)
  | _ => (s.reqChans r).map (s.stageOf r)

/-- The writes that stage a channel's values, each with the channel's flags (R101, R102): its NEXT write before its FALLBACK
write (assumption 84). -/
def Stage.writes (x : Stage) : List Stage :=
  (if x.next.isSome then [{ x with fb := none }] else []) ++ if x.fb.isSome then [{ x with next := none }] else []

/-- A channel's entry of the commit before a write of it has arrived. -/
def Stage.blank (x : Stage) : Stage := { x with next := none, fb := none, arm := false, keep := false }

/-- A write has arrived: the channel's entry takes its code and flags. -/
def Stage.arrive (w y : Stage) : Stage :=
  if y.ch = w.ch then { y with next := w.next <|> y.next, fb := w.fb <|> y.fb, arm := w.arm, keep := w.keep } else y

/-- The banks of a channel as a staging write finds them, and the channel's entry of the commit (R381). -/
def State.tookOf (s : State) (w : Stage) (c : Cycle) : Took :=
  { arrived := s.now, w := w, old := (c.stage.find? fun x => x.ch == w.ch).getD w.blank, next := s.chRd DRV_CH_BANKS.NEXT w.ch
    fb := s.chRd DRV_CH_BANKS.FALLBACK w.ch, arm := s.chRd DRV_CH_STATE.ARM w.ch, keep := s.chRd DRV_CH_STATE.KEEP w.ch }

/-- A tile does not take staging: it is frozen outside an unresolved hold. In a hold the only commit is the re-application
that ends it, which every tile takes (R384). -/
def State.stands (s : State) (tile : Nat) : Bool := s.frozen tile && !s.held_

/-- One staging write reaches its tile; a channel in CHANGE discards it (R141), a lost tile takes none, and a frozen one takes
it when it resumes (R381, R383). -/
def State.stageOne (s : State) (w : Stage) : State :=
  if s.lostCmd (w.ch / 2048) then s
  else if s.stands (w.ch / 2048) then
    { s with pln := { s.pln with cycle := s.pln.cycle.map fun c => { c with kept := c.kept ++ [w] } } }
  else if s.inChange w.ch then s.override w.ch 1
  else
    let old := s.tookOf w
    let s1 := match w.next with | some c => s.chWr DRV_CH_BANKS.NEXT c w.ch | none => s
    let s2 := match w.fb with | some c => s1.chWr DRV_CH_BANKS.FALLBACK c w.ch | none => s1
    let s3 := (s2.chWr DRV_CH_STATE.ARM (b2n w.arm) w.ch).chWr DRV_CH_STATE.KEEP (b2n w.keep) w.ch
    { s3 with pln := { s3.pln with cycle := s3.pln.cycle.map fun c =>
      { c with stage := c.stage.map w.arrive, took := old c :: c.took } } }

/-- A staging write that reaches its tile at or after C is applied at frame `f` (R391): a NEXT write as a step from the swap,
with KEEP acting then, a FALLBACK write in its bank. -/
def State.stageLate (s : State) (f : Nat) (dwelt : Bool) (w : Stage) : State :=
  let s1 := s.stageOne w
  match w.next with
  | none => s1
  | some c =>
    if s.lostCmd (w.ch / 2048) || s.stands (w.ch / 2048) || s.inChange w.ch then s1
    else
      let s2 := if w.keep then s1.chWr DRV_CH_BANKS.FALLBACK (s1.live w.ch) w.ch else s1
      if w.kind = 1 ∨ w.kind = 2 then s2 else s2.setLive w.ch (if w.kind = 3 ∧ dwelt then w.target else c) f

/-- The dither settings that a plan's and a fallback plan's tone entries stage, the next ones first (R152). -/
def State.ditherStages (s : State) (r : Req) : List (Nat × Bool × DitherSet) :=
  let sets (fb : Bool) (bs : List Byte) : List (Nat × Bool × DitherSet) :=
    (planTones bs).map fun t => ((s.elem t.elem).channel, fb, ditherOf t.tone t.amp)
  sets false (s.planBytes r.plan) ++ match r.fb with | some f => sets true (s.planBytes f) | none => []

/-- The dither settings staged for a channel become these. -/
def State.putDither (s : State) (d : DitherStage) : State :=
  { s with drv := { s.drv with dither := (s.drv.dither.filter fun x => x.ch != d.ch) ++ [d] } }

/-- A dither setting reaches its tile (R152), or waits for a frozen one (R381). -/
def State.stageDither (s : State) (w : Nat × Bool × DitherSet) : State :=
  if s.stands (w.1 / 2048) then
    { s with pln := { s.pln with cycle := s.pln.cycle.map fun c => { c with dkept := c.dkept ++ [w] } } }
  else
    let old := (s.drv.dither.find? fun x => x.ch == w.1).getD { ch := w.1, next := none, fb := none }
    let new := if w.2.1 then { old with fb := some w.2.2 } else { old with next := some w.2.2 }
    let s1 : State := { s with pln := { s.pln with cycle := s.pln.cycle.map fun c =>
      { c with dtook := { arrived := s.now, w := w, old := old } :: c.dtook } } }
    s1.putDither new

/-- A staging write that a frozen tile took is withdrawn: its banks and flags, and the channel's entry of the commit, are as
they were before it (R381). -/
def State.untake (s : State) (t : Took) : State :=
  let s1 := if t.w.next.isSome then s.chWr DRV_CH_BANKS.NEXT t.next t.w.ch else s
  let s2 := if t.w.fb.isSome then s1.chWr DRV_CH_BANKS.FALLBACK t.fb t.w.ch else s1
  let s3 := (s2.chWr DRV_CH_STATE.ARM t.arm t.w.ch).chWr DRV_CH_STATE.KEEP t.keep t.w.ch
  { s3 with pln := { s3.pln with cycle := s3.pln.cycle.map fun c =>
    { c with stage := c.stage.map fun x => if x.ch = t.w.ch then t.old else x } } }

/-- A tile withdraws from its NEXT, FALLBACK and dither banks every write of the commit in progress that it took from frame `k`
on, and will take them again (R381, R383). -/
def State.unstage (s : State) (tile k : Nat) : State :=
  match s.pln.cycle with
  | none => s
  | some c =>
    let a := c.took.filter fun t => t.w.ch / 2048 == tile && decide (k ≤ t.arrived)
    let b := c.dtook.filter fun t => t.w.1 / 2048 == tile && decide (k ≤ t.arrived)
    let s1 := b.foldl (fun t x => t.putDither x.old) (a.foldl State.untake s)
    { s1 with pln := { s1.pln with cycle := s1.pln.cycle.map fun c =>
      { c with
        took := c.took.filter fun t => !(t.w.ch / 2048 == tile && decide (k ≤ t.arrived))
        dtook := c.dtook.filter fun t => !(t.w.1 / 2048 == tile && decide (k ≤ t.arrived))
        kept := (a.reverse.map Took.w) ++ c.kept
        dkept := (b.reverse.map DitherTook.w) ++ c.dkept } } }

/-- A tile that resumes takes the staging that waited for it (R383): as staging before C, and at frame `now + 1` from C on
(R391). -/
def State.restage (s : State) (tile : Nat) : State :=
  match s.pln.cycle with
  | none => s
  | some c =>
    let c1 : Cycle := { c with
      kept := c.kept.filter fun w => w.ch / 2048 != tile
      dkept := c.dkept.filter fun w => w.1 / 2048 != tile }
    let s1 : State := { s with pln := { s.pln with cycle := some c1 } }
    let s2 := (c.kept.filter fun w => w.ch / 2048 == tile).foldl (fun t w =>
      if t.now < c.c then t.stageOne w else t.stageLate (t.now + 1) (c.phase != .swapped && c.dwell.isSome) w) s1
    (c.dkept.filter fun w => w.1 / 2048 == tile).foldl State.stageDither s2

/-- What the slots of one link frame of every tile carry of the items that wait, 256 for a tile, and what is left (R144). -/
def oneFrame {α : Type} (ch : α → Nat) (l : List α) : List α × List α :=
  let of (t : Nat) : List α := l.filter fun x => ch x / 2048 == t
  ((List.range 8).flatMap fun t => (of t).take 256, (List.range 8).flatMap fun t => (of t).drop 256)

/-- Frames by which the active die's timeline runs behind (R390). -/
def State.lag (s : State) : Nat := if s.on LKS_STATUS.LAGGING s.active then 2 else 0

/-- The frame at which the next staging frame of the commit reaches the tiles (R102, R391). -/
def State.stageFrame (s : State) (c : Cycle) : Nat := c.c - 16 + c.sent + s.lag

/-- One frame of staging crosses the Tile Links (R102, R152, R391). -/
def State.sendStaging (s : State) (c : Cycle) : State :=
  let f := s.stageFrame c
  let a := oneFrame Stage.ch c.todo
  let b := oneFrame (fun x : Nat × Bool × DitherSet => x.1) c.dtodo
  let s1 := s.reach (if f < c.c then f else f + 1)
  let s2 : State := { s1 with pln := { s1.pln with cycle := some { c with todo := a.2, dtodo := b.2, sent := c.sent + 1 } } }
  let s3 := if f < c.c then a.1.foldl State.stageOne s2
    else a.1.foldl (fun t w => t.stageLate (f + 1) (c.phase != .swapped && c.dwell.isSome) w) s2
  b.1.foldl State.stageDither s3

/-- The last move of a sweep that has ended was not made: it is asked for again, unless it waits already (R314). -/
def State.askFinal (s : State) (r : Req) : State :=
  match r.origin, s.cal.sweep with
  | .sweep, some w =>
    if w.final && !(s.orb.reqs.any fun x => x.origin == .sweep) then s.enqueue (s.sweepReq w.ch (s.liveTarget w.ch)) else s
  | _, _ => s

/-- Global Eclipse is in force or falls before C: nothing is staged or swapped, and the commit completes with ECLIPSED
(R108). A re-application waits to start again (R372). -/
def State.cancelCycle (s : State) (status : Nat) : State :=
  match s.pln.cycle with
  | none => s
  | some c =>
    let s1 := ((s.endUnmade c.req status s.now).askFinal c.req).resumeOld (s.reqChans c.req) s.now
    let s2 := c.early.foldl (fun t x => t.withdraw 3 x.1 c.c) ({ s1 with drv := { s1.drv with dither := [] } } : State)
    (c.stage.foldl (fun t x => (t.chWr DRV_CH_STATE.ARM 0 x.ch).chWr DRV_CH_STATE.KEEP 0 x.ch) s2).endCycle

/-- COMMIT_STAGING (R102, R152, R391): one frame of staging, from frame C − 16 on: NEXT and FALLBACK writes with the flags, and
dither settings, 256 of each for a tile. The command comes again while there is more to send. -/
def execCommitStaging (s : State) : Host.Outcome State Fault Refusal :=
  .next <|
    match s.pln.cycle with
    | none => s
    | some c =>
      if c.phase = .checked then
        let s := s.reach (c.c - 16)
        if s.eclipse ∧ c.req.origin ≠ .reapply then s.cancelCycle stEclipsed
        else
          let xs := s.stagesOf c.req
          let ds := match c.req.origin with | .reapply | .sweep => [] | _ => s.ditherStages c.req
          let s1 : State := { s with drv := { s.drv with dither := [] } }
          (s1.wr PLN_STATUS.PHASE 2).sendStaging
            { c with phase := .staged, stage := xs.map Stage.blank, todo := xs.flatMap Stage.writes, dtodo := ds }
      else if c.todo.isEmpty && c.dtodo.isEmpty then s
      else s.sendStaging c

/-! ### The swap (R90, R101, R268, R273) -/

/-- The generator of a commit on a channel, which takes it at frame `f` at the code `x0` (R267, R270 to R273). -/
def State.makeGen (s : State) (x : Stage) (num cls f x0 : Nat) : Gen :=
  let e := (s.elemAt x.ch).getD 0
  let (gain, hold, lset) := if x.kind = 2 then s.overdrive e else (0, 0, x.param)
  let (v, na, nj) := s.limitSet lset
  { num := num, ch := x.ch, x0 := x0, peak := if x.kind = 2 then odPeak x0 x.target gain (s.elem e).cap else x0, hold := hold
    goal := x.target, lset := lset, vmax := v, na := na, nj := nj, f0 := nextAt f 32 (x.ch % 32), u := 0, cls := cls }

/-- A generator starts at frame C on a channel, from the code LIVE holds (R270 to R273), or goes on from the first write, which
it sent before (R267). -/
def State.startGen (s : State) (c : Cycle) (x : Stage) (num cls : Nat) : State :=
  let g := match aget c.early x.ch with
    | some x0 =>
      let g := s.makeGen x num cls c.c x0
      { g with u := 1, f0 := g.f0 + 32 }
    | none => s.makeGen x num cls c.c (s.live x.ch)
  ({ s with prf := { s.prf with gens := s.prf.gens ++ [g] } } : State).genCount

/-- A generator of an earlier commit has its code for C on a channel (R146, R273): LIVE takes it where a generator of this commit
takes the channel over, and it is discarded where a swap or a FALLBACK write outranks it. Its later writes are withdrawn; they
were when the new generator sent its first write before C. -/
def State.genCode (s : State) (c : Cycle) (ch : Nat) : State :=
  if (aget c.early ch).isSome then s
  else
  let due := s.drv.queue.filter fun w => w.ch == ch && w.due == c.c
  let s1 := if c.gens.any fun g => g.1 == ch then
      let t : State := { s with drv := { s.drv with queue := s.drv.queue.filter fun w => !(w.ch == ch && w.due == c.c) } }
      t.applyDue (ch / 2048) due ch
    else s
  s1.withdraw 3 ch c.c

/-- One channel swaps at frame C: the KEEP copy, then NEXT is applied, unless a generator takes the channel (R273). -/
def State.swapOne (s : State) (c : Cycle) (x : Stage) : State :=
  match x.next with
  | none => s
  | some code =>
    let s1 := if x.keep then s.chWr DRV_CH_BANKS.FALLBACK ((aget c.early x.ch).getD (s.live x.ch)) x.ch else s
    if x.kind = 1 ∨ x.kind = 2 then s1 else s1.setLive x.ch code c.c

/-- The gate elements' channels that a plan names lose DKHOLD (R31): a target entry names an element, a tone binding alone does
not (assumption 86). -/
def State.dropHold (s : State) (chans : List Nat) : State :=
  (chans.filter fun ch => s.chOn DRV_CH_GATEW.DKHOLD ch).foldl (fun t ch => t.chWr DRV_CH_GATEW.DKHOLD 0 ch) s

/-- The blocks of R38 that a commit of a plan releases: those of a lost tile that no path crossing an element of the plan
crosses. -/
def State.releasedBy (s : State) (bs : List Byte) : List (Nat × Nat) :=
  let ps := (s.paths (planStates bs)).filter fun p => (s.named bs).any (s.crosses p)
  s.pln.lostBlocks.filter fun b => !(ps.any fun p => s.validElems.any fun e => s.elemTile e == b.2 && s.crosses p e)

/-- Blocks of R38 leave, and their gates are no longer blocked unless another tile's loss blocks them. -/
def State.dropLost (s : State) (bs : List (Nat × Nat)) : State :=
  let left := s.pln.lostBlocks.filter fun b => !bs.contains b
  let s1 : State := { s with pln := { s.pln with lostBlocks := left } }
  bs.foldl (fun t b => if left.any (fun l => l.1 == b.1) then t else t.chWr DRV_CH_GATEW.LOSTBLK 0 b.1) s1

/-- Blocks of R38 return. -/
def State.addLost (s : State) (bs : List (Nat × Nat)) : State :=
  bs.foldl (fun t b =>
    let t1 := t.chWr DRV_CH_GATEW.LOSTBLK 1 b.1
    { t1 with pln := { t1.pln with lostBlocks := b :: t1.pln.lostBlocks.filter fun x => x != b } }) s

/-- The live image overlaid with a plan's entries (R84, R106). -/
def overlayLive (live : List (Nat × LiveEnt)) (bs : List Byte) : List (Nat × LiveEnt) :=
  (planTargets bs).foldl (fun l t => aput l t.ch { target := t.target, optical := t.state, cls := t.cls, kind := t.kind }) live

/-- The crossing sets follow the state of a plan from frame `f` (R26). -/
def State.recrossWith (s : State) (ov : List (Nat × Nat)) (f : Nat) : State :=
  let ps := s.paths ov
  { s with pln := { s.pln with
      crossingOld := (List.range 8).map fun t => (t, s.crossing t)
      crossing := (List.range 8).map fun t => (t, s.crossingSet ps t)
      crossingDue := some (f + 80) } }

/-- A tile whose source ORPHANED has been cleared clears ORPH of every gate word at frame C of the re-application (R148). -/
def State.clearOrph (s : State) : State :=
  let s1 := (s.gateChannels.filter fun ch => s.drv.orphClear.contains (ch / 2048) && !s.on DRV_STATUS.ORPHAN (ch / 2048)).foldl
    (fun t ch => t.chWr DRV_CH_GATEW.ORPH 0 ch) s
  { s1 with drv := { s1.drv with orphClear := [] } }

/-- The pending SWITCH, RESYNC or KEEP ends with a status, in its completion or in LKS_CMD_STATUS (R395). -/
def State.lksDone (s : State) (status : Nat) (result : Option Nat) (exe : Nat) : State :=
  match s.lks.pending with
  | none => s
  | some p =>
    let s1 : State := { s with lks := { s.lks with pending := none } }
    match p.desc with
    | some id => s1.withDesc id fun d => s1.finish d status result exe
    | none => (s1.wr LKS_CMD_STATUS.STATUS status).wr LKS_CMD_STATUS.BUSY 0

/-- A signal of LKS_VEC on each die (R393). -/
def State.lksVec (s : State) : State :=
  let v := s.rd LKS_VEC.VECTOR
  (s.signalVec 0 v).signalVec 1 v

/-- An unresolved hold ends at frame C of the kept die's re-application (R384, R395): the tiles take the die's stream from
there on, and KEEP completes. -/
def State.endHold (s : State) (c : Nat) : State :=
  if !s.held_ then s
  else
    let s1 := ((((s.wr LKS_STATUS.HOLD 0 0).wr LKS_STATUS.HOLD 0 1).wr LKS_TILE_HOLD.FROZEN 0).lksDone stOK none (ticksOf c)).lksVec
    { s1 with drv := { s1.drv with frozenAt := [], down := [] } }

/-- Clears whose re-application ends complete (R372): `c` is its frame C. -/
def State.endClears (s : State) (seq c : Nat) (status : Nat) : State :=
  let s1 : State := { s with saf := { s.saf with clears := s.saf.clears.filter fun w => decide (seq < w.seq) } }
  (s.saf.clears.filter fun w => decide (w.seq ≤ seq)).foldl (fun t w =>
    t.withDesc w.desc fun d => t.finish d status (some w.count) (ticksOf c)) s1

/-- What a swap does beside the codes, by the commit's origin. Global Eclipse ends at a re-application unless a source
holds it (R373, R384). -/
def State.swapRest (s : State) (c : Cycle) : State :=
  match c.req.origin with
  | .reapply =>
    let s1 := if s.eclipse && !(s.saf.latches.any fun l => l.globe) then
        (s.markSuspended.wr SAF_STATUS.GLOBAL_ECLIPSE 0).occur 513
      else s
    (s1.clearOrph.endHold c.c).bump SAF_CNT_REAPPLY.COUNT
  | .sweep => { s with cal := { s.cal with sweep := s.cal.sweep.map fun w => { w with c := some c.c } } }
  | o =>
    let bs := s.planBytes c.req.plan
    let rel := s.releasedBy bs
    let s1 := ((s.dropHold (planChans bs)).dropLost rel).recrossWith (planStates bs) c.c
    let s2 := s1.bump PLN_CNT_COMMIT.COUNT
    let s3 := if c.late.isSome && (match o with | .host _ => true | _ => false) then s2.bump PLN_CNT_LATE.COUNT else s2
    let s4 : State := { s3 with pln := { s3.pln with cycle := s3.pln.cycle.map fun y => { y with released := rel } } }
    match o with
    | .orbit _ => s4.occur 483
    | _ => s4

/-- COMMIT_SWAP (R101, R103): at frame C every tile swaps, and generators take their channels. A commit that meets global
Eclipse completes with nothing applied (R108). -/
def execCommitSwap (s : State) : Host.Outcome State Fault Refusal :=
  .next <|
    match s.pln.cycle with
    | none => s
    | some c =>
      if c.phase ≠ .staged || (!(c.todo.isEmpty && c.dtodo.isEmpty) && decide (s.stageFrame c < c.c)) then s
      else
        let s := s.reach c.c
        if s.eclipse ∧ c.req.origin ≠ .reapply then s.cancelCycle stEclipsed
        else
          let before := s.pln.live
          let s1 := (s.reqChans c.req).foldl (fun t ch =>
            if t.hasGen ch then (t.genCode c ch).releaseGen ch else t) s
          let s2 := c.stage.foldl (fun t x => t.swapOne c x) s1
          let cls (ch : Nat) : Nat := ((targetFor (s.planBytes c.req.plan) ch).map fun t => t.cls).getD 0
          let s3 := c.gens.foldl (fun t g =>
            match c.stage.find? fun x => x.ch == g.1 with
            | some x => t.startGen c x g.2 (cls g.1)
            | none => t) s2
          let s4 : State := { s3 with pln := { s3.pln with cycle := some { c with phase := .swapped, before := before } } }
          let s5 := ((s4.wr PLN_LAST_C_LO.TICKS (ticksOf c.c)).wr PLN_LAST_C_HI.TICKS (ticksOf c.c / 2 ^ 32)).wr PLN_STATUS.PHASE 3
          (s5.occur 480).swapRest c

/-- MAKEBB_TARGET (R90): at C + PLN_MAKEBB_DWELL the tiles apply the targets of the MAKEBB entries. After an Eclipse LIVE stands
as the swap left it (R108). -/
def execMakebbTarget (s : State) : Host.Outcome State Fault Refusal :=
  .next <|
    match s.pln.cycle with
    | none => s
    | some c =>
      match c.dwell with
      | none => s
      | some d =>
        if c.phase ≠ .swapped then s
        else
          let s := s.reach (c.c + d)
          let s1 := if c.eclipsed then s
            else (c.stage.filter fun x => x.kind == 3 && x.next.isSome).foldl (fun t x => t.setLive x.ch x.target (c.c + d)) s
          { s1 with pln := { s1.pln with cycle := some { c with phase := .dwelt } } }

/-! ### Verify (R103, R105) -/

/-- R105 skips a monitor now: it guards an egress port that is dark or under port Eclipse, or only ports that are not present
name it (R21, assumption 83). -/
def State.skipsMonitor (s : State) (m : Nat) : Bool :=
  let named := (s.listed portBase 16 2048).filter fun p => decide (1024 ≤ p) && (s.port p).monitor == m
  let here := named.filter fun p => (s.port p).present
  if here.isEmpty then !named.isEmpty
  else here.any fun p => (s.port p).dark || bit (s.rd SAF_PORT_ESC.BITS (p / 32)) (p % 32)

/-- VERIFY_SAMPLE (R103): at frame V the fast path samples every monitor that a verify entry names. Before ARM, verify is
not run (R108). -/
def execVerifySample (raws : List (Fin 1024 × BitVec 12)) (s : State) : Host.Outcome State Fault Refusal :=
  .next <|
    match s.pln.cycle with
    | none => s
    | some c =>
      if (c.phase ≠ .swapped ∨ c.dwell.isSome) ∧ c.phase ≠ .dwelt ∨ !c.todo.isEmpty || !c.dtodo.isEmpty then s
      else
        let s := s.reach c.v
        let ms := (s.verifiesOf c.req).map fun v => v.monitor
        let rs := rawsOf raws
        let s1 := ms.foldl (fun t m => t.setFast m (t.rawIn rs m) (t.fastOf m (t.rawIn rs m))) s
        let codes := ms.map fun m => (m, if s.skipsMonitor m then 0 else (s.fastOf m (s.rawIn rs m)).code + 1)
        let s2 := s1.wr PLN_STATUS.PHASE 4
        let c' : Cycle := { c with phase := .sampled, codes := codes, unarmed := !s.on PWR_STATUS.ARMED }
        { s2 with pln := { s2.pln with cycle := some c' } }

/-- A verify entry fails: its code lies outside LOW to HIGH, or its monitor's tile is lost (R105, R108). -/
def State.entryFails (s : State) (codes : List (Nat × Nat)) (v : VerifyEnt) : Bool :=
  let code := (aget codes v.monitor).getD 0 - 1
  s.tileLost (v.monitor / 128) || decide (code < v.low) || decide (v.high < code)

/-- VERIFY_DECISION (R103, R105): at V + 6, 2 frames later while the die lags (R390), the entries that are not skipped are
counted, evaluated and failed. -/
def execVerifyDecision (s : State) : Host.Outcome State Fault Refusal :=
  .next <|
    match s.pln.cycle with
    | none => s
    | some c =>
      if c.phase ≠ .sampled then s
      else
        let s := s.reach (c.v + 6 + s.lag)
        let es := (s.verifiesOf c.req).filter fun v => (aget c.codes v.monitor).getD 0 != 0
        let bad := es.filter (s.entryFails c.codes)
        if c.unarmed || c.eclipsed || (match c.req.origin with | .reapply | .sweep => true | _ => false) then
          { s with pln := { s.pln with cycle := some { c with phase := .decided } } }
        else
          let s1 := (s.wr PLN_VFY_RESULT.EVALUATED es.length).wr PLN_VFY_RESULT.FAILED bad.length
          let s2 := match bad.map (fun v => v.monitor) with
            | [] => ((s1.wr PLN_VFY_FIRST.VALID 0).wr PLN_VFY_FIRST.SAMPLE 0).wr PLN_VFY_FIRST.MONITOR 0
            | m :: t =>
              let m := t.foldl min m
              ((s1.wr PLN_VFY_FIRST.VALID 1).wr PLN_VFY_FIRST.SAMPLE ((aget c.codes m).getD 0 - 1)).wr PLN_VFY_FIRST.MONITOR m
          let c' : Cycle := { c with phase := .decided, evaluated := es.length, failed := bad.length }
          { s2 with pln := { s2.pln with cycle := some c' } }

/-! ### Tone bindings and expectations (R202 to R210) -/

/-- Where the entry of a tone context starts (R211). -/
def toneAddr (c : Nat) : Nat := toneBase + 32 * c

/-- The tone that foreign context `j` of a monitor checks in the window that starts at frame `start`, if it is not idle
(R207). -/
def State.foreignTone (s : State) (m j start : Nat) : Option Nat :=
  let l := ((aget s.ton.foreign m).getD []).take 47
  let w0 := nextAt (nget s.ton.since m - 1) 1000 0
  if start < w0 ∨ l.length = 0 then none
  else l[3 * ((start - w0) / 1000 % ceilDiv l.length 3) + j - 1]?

/-- The windows of a monitor's path contexts that are in progress at frame `f`. -/
def State.pathWindows (s : State) (m f : Nat) : Nat :=
  1 + ([1, 2, 3].filter fun j => (s.foreignTone m j (f - f % 1000)).isSome).length

/-- The binding of a context changed at frame `f`; before, it was `was` (R203). Windows that still need an older change are at
most 2,000 frames back. -/
def State.noteBind (s : State) (c f : Nat) (was : Option (Nat × Nat)) : State :=
  { s with ton := { s.ton with hist := { ctx := c, until_ := f, mon := was } :: s.ton.hist.filter fun h => decide (f < h.until_ + 2000) } }

/-- The monitor and tone that a context demodulates, if it does (R211). -/
def State.boundTo (s : State) (c : Nat) : Option (Nat × Nat) :=
  let w := s.load (toneAddr c + 18) 2
  if bit w 15 then some (w % 1024, s.load (toneAddr c + 20) 1 % 128) else none

/-- VALID of a context becomes 0. -/
def State.unvalid (s : State) (c : Nat) : State :=
  s.store (toneAddr c + 16) 2 (clrBit (s.load (toneAddr c + 16) 2) 0)

/-- An element context takes a monitor, a tone and an amplitude, or loses its binding and its windows in progress (R203, R204).
-/
def State.bindCtx (s : State) (e : Nat) (b : Option ToneBind) (f : Nat) : State :=
  let a := toneAddr e
  let was := s.boundTo e
  let same := was == (b.map fun x => (x.mon, x.tone)) && s.load (a + 21) 1 == (b.map ToneBind.amp).getD 0
  let lost := if was.isNone ∨ b.isSome then 0 else if s.load (a + 23) 1 % 2 = 1 then 5 else 1
  let s := s.bump TON_CNT_ABANDON.COUNT lost
  let s1 := match b with
    | some x => ((s.store (a + 18) 2 (x.mon + 0x8000)).store (a + 20) 1 x.tone).store (a + 21) 1 x.amp
    | none => (((s.store (a + 18) 2 0).store (a + 20) 1 0).store (a + 21) 1 0).unvalid e
  if same then s1 else s1.noteBind e f was

/-- The tone bindings of the live image change at frame `f` by a plan's tone entries (R106, R204). -/
def State.rebind (s : State) (ts : List ToneEnt) (f : Nat) : State :=
  let new := s.bindingsWith ts
  let s1 := (ts.map fun t => t.elem).foldl (fun t e =>
    t.bindCtx e (new.find? fun b => b.elem == e && !b.path) f) s
  { s1 with pln := { s1.pln with tones := new } }

/-- A path context demodulates a tone of its monitor, or stands idle: MONITOR reads on, BOUND and VALID are 0 (R203, R211). -/
def State.pathTune (s : State) (m j : Nat) (tone : Option Nat) : State :=
  let c := 16384 + 4 * m + j
  match tone with
  | some k => (s.store (toneAddr c + 18) 2 (m + 0x8000)).store (toneAddr c + 20) 1 (k + 128)
  | none => ((s.store (toneAddr c + 18) 2 m).store (toneAddr c + 20) 1 0).unvalid c

/-- The expectation of a monitor is set or cleared at frame `f`, its windows in progress then being discarded (R203, R206,
R210). -/
def State.expect (s : State) (m : Nat) (tone : Option Nat) (f : Nat) : State :=
  let w := s.rd TON_PT_CONF.CONF (m / 32)
  let was := s.boundTo (16384 + 4 * m)
  let s := s.bump TON_CNT_ABANDON.COUNT (b2n (was.isSome && tone.isNone))
  let s1 := (s.wr TON_PT_CONF.CONF (clrBit w (m % 32)) (m / 32)).wr TON_PT_EXPECT.VALID (b2n tone.isSome) m
  let s2 := s1.wr TON_PT_EXPECT.TONE (tone.getD 0) m
  let s3 := (s2.pathTune m 0 tone).noteBind (16384 + 4 * m) f was
  { s3 with ton := { s3.ton with
      since := nset s3.ton.since m (f + 1)
      failL := nset s3.ton.failL m 0
      failF := nset s3.ton.failF m 0 } }

/-- The foreign list of a monitor with an expectation (R207): the path tones of the lit paths that share a cell with the
path ending at its egress port. A path from a dark ingress port carries no light (R32). -/
def State.foreignOf (s : State) (paths : List Path) (m : Nat) : List Nat :=
  match s.guardedPort m with
  | none => []
  | some q =>
    if !s.on TON_PT_EXPECT.VALID m then []
    else
      match paths.find? fun p => p.egress == q with
      | none => []
      | some mine =>
        let cells := mine.elems.filter fun e => (s.elem e).role == 0
        let others := cells.filterMap fun e => (paths.find? fun p =>
          p.ingress != mine.ingress && p.elems.contains e && !(s.port p.ingress).dark).bind fun p =>
          s.pathTone s.pln.tones p.ingress
        let own := (s.pln.tones.filter fun b => !b.path && b.mon == m).map fun b => b.tone
        (others.filter fun t => t != s.rd TON_PT_EXPECT.TONE m && !own.contains t).reverse.dedup.reverse

/-- A foreign context of a monitor checks at frame `f` the tone that its list gives it for the window in progress; one that a
change leaves idle loses that window (R203, R207). -/
def State.retune (s : State) (m j f : Nat) : State :=
  let c := 16384 + 4 * m + j
  let was := s.boundTo c
  let tone := if s.on TON_PT_EXPECT.VALID m then s.foreignTone m j (f - f % 1000) else none
  if was.map Prod.snd = tone then s
  else
    let s1 := s.bump TON_CNT_ABANDON.COUNT (b2n tone.isNone)
    (s1.pathTune m j tone).noteBind c f was

/-- The foreign lists are formed anew at frame `f`, and K follows them: every monitor with no list has K = 0 (R207). -/
def State.formForeign (s : State) (f : Nat) : State :=
  let paths := s.paths []
  let ms := ((s.presentPorts.filter fun p => decide (1024 ≤ p)).map fun p => (s.port p).monitor).filter fun m =>
    decide (m < 1024) && s.on TON_PT_EXPECT.VALID m
  let lists := ms.map fun m => (m, s.foreignOf paths m)
  let s1 : State := { s with ton := { s.ton with foreign := lists } }
  let s2 := (s.ton.foreign.filter fun x => !ms.contains x.1).foldl (fun t x => t.wr TON_PT_EXPECT.K 0 x.1) s1
  let s3 := lists.foldl (fun t x => t.wr TON_PT_EXPECT.K (min 47 x.2.length) x.1) s2
  ((s.ton.foreign.map Prod.fst ++ ms).dedup).foldl (fun t m => [1, 2, 3].foldl (fun t j => t.retune m j f) t) s3

/-- Expectations change by a plan's verify entries (R206). -/
def State.expectAll (s : State) (vs : List VerifyEnt) (f : Nat) : State :=
  vs.foldl (fun t v => t.expect v.monitor (if v.pt then some v.pathTone else none) f) s

/-! ### Resolution (R101, R104, R106, R107) -/

/-- The class in which a channel's loops run after an entry: a voltage channel sent to Settle goes to Track (R222). -/
def State.classFor (s : State) (ch cls : Nat) : Nat :=
  if cls = 0 ∧ !(match s.elemAt ch with | some e => (s.elem e).current | none => true) then 1 else cls

/-- The dither settings staged take effect (R152). -/
def State.applyDither (s : State) (pass : Bool) : State :=
  let s1 := s.drv.dither.foldl (fun t x => match (if pass then x.next else x.fb) with
    | some d => t.setDither x.ch d
    | none => t) s
  { s1 with drv := { s1.drv with dither := [] } }

/-- The ARM and KEEP flags of the commit's channels clear (R101). -/
def State.clearFlags (s : State) (xs : List Stage) : State :=
  xs.foldl (fun t x => (t.chWr DRV_CH_STATE.ARM 0 x.ch).chWr DRV_CH_STATE.KEEP 0 x.ch) s

/-- A verify passes: the live image takes the plan's entries, and the channels' loops are released (R104, R106). -/
def State.resolvePass (s : State) (c : Cycle) (f : Nat) : State :=
  let bs := s.planBytes c.req.plan
  let s1 : State := { s with pln := { s.pln with live := overlayLive s.pln.live bs } }
  let s2 := ((((s1.wr PLN_LIVE.VALID 1).wr PLN_LIVE.FB 0).wr PLN_LIVE.LIVE_ID c.req.plan).rebind (planTones bs) f).expectAll
    (planVerifies bs) f
  let s3 := (s2.applyDither true).formForeign f
  (s.reqChans c.req).foldl (fun t ch =>
    if t.hasGen ch then t
    else match targetFor bs ch with
      | some x => (t.dropChange ch).resumeLoops ch (t.classFor ch x.cls) f
      | none => t.resumeLoops ch (t.chClass ch) f) s3

/-- A verify fails, or global Eclipse abandons it (R106, R108): the live image becomes the fallback state. Where no plan was
ever live and the fallback is the pre-commit state, PLN_LIVE shows VALID = 1, FB = 1 and LIVE_ID 0 (assumption 85). -/
def State.resolveFail (s : State) (c : Cycle) (f : Nat) : State :=
  let bs := match c.req.fb with | some p => s.planBytes p | none => []
  let chans := s.reqChans c.req
  let s1 := chans.foldl (fun t ch => if t.hasGen ch then (t.withdraw 3 ch f).releaseGen ch else t) s
  let s2 := if c.eclipsed then s1
    else (c.stage.filter fun x => x.arm && !s.lostCmd (x.ch / 2048)).foldl
      (fun t x => t.setLive x.ch (t.chRd DRV_CH_BANKS.FALLBACK x.ch) f) s1
  let s3 : State := { s2 with pln := { s2.pln with live := overlayLive c.before bs } }
  let s4 := match c.req.fb with | some p => s3.wr PLN_LIVE.LIVE_ID p | none => s3
  let s5 := (((s4.wr PLN_LIVE.VALID 1).wr PLN_LIVE.FB 1).bump PLN_CNT_FALLBACK.COUNT).rebind (planTones bs) f
  let s6 := ((s5.expectAll (planVerifies bs) f).applyDither false).formForeign f
  (((s6.dropHold (planChans bs)).addLost c.released).recross f).resumeOld chans f

/-- The completion of a commit that reached C (R107, R108, R129, R132). -/
def State.endMade (s : State) (c : Cycle) (status flags result : Nat) : State :=
  match c.req.origin with
  | .host id => s.withDesc id fun d => s.finish d status result (ticksOf c.c) flags
  | .orbit e =>
    let s0 := if c.failed ≠ 0 ∧ !c.eclipsed then s.bump ORB_CNT_VFAIL.COUNT else s
    if status = stOK ∨ status = stVerifyFailed then
      let i := (s.orb.base.bind fun b => (orbitSpot s.orb.active b c.c).map (·.1)).getD e
      s0.endStart c.req status i c.c flags
    else s0.orbitSkip.endStart c.req status e s.now flags
  | _ => s

/-- The re-application ends at V + 7 (R372, R373): loops resume in the classes the live image holds. -/
def State.endReapply (s : State) (f : Nat) : State :=
  s.loopChannels.foldl (fun t ch =>
    if t.chPaused ch then t.resumeLoops ch (match aget t.pln.live ch with | some e => t.classFor ch e.cls | none => t.chClass ch) f
    else t) s

/-- COMMIT_RESOLVE (R103, R106, R107): at V + 7, 2 frames later while the die lags (R390), the commit passes or falls back,
completes, and the cycle ends. -/
def execCommitResolve (s : State) : Host.Outcome State Fault Refusal :=
  .next <|
    match s.pln.cycle with
    | none => s
    | some c =>
      if c.phase ≠ .decided then s
      else
        let f := c.v + 7 + s.lag
        let s := s.reach f
        match c.req.origin with
        | .reapply =>
          ((((s.clearFlags c.stage).endReapply f).wr SAF_STATUS.REAPPLY 0).endClears c.req.seq c.c
            (if c.eclipsed then stEclipsed else stOK)).endCycle
        | .sweep =>
          let s1 := s.clearFlags c.stage
          let s2 := match s.cal.sweep with
            | some w => if w.final then
                ({ s1 with cal := { s1.cal with sweep := none } } : State).resumeOld [w.ch] f else s1
            | none => s1
          s2.endCycle
        | _ =>
          let pass := !c.eclipsed && (c.unarmed || c.failed == 0)
          let s1 := (if pass then s.resolvePass c f else s.resolveFail c f).clearFlags c.stage
          let status := if c.eclipsed then stEclipsed else if pass then stOK
            else if c.tileLost then stTileLost else stVerifyFailed
          let late := b2n c.late.isSome
          let flags := late + (if pass then 0 else if c.eclipsed then 2 else 6)
          let result := match c.late with
            | some l => lateResult l
            | none => c.evaluated * 2 ^ 16 + c.failed
          ((s1.occur (if pass then 481 else 482)).endMade c status flags result).endCycle

/-! ### Events that cross a commit (R108) -/

/-- Global Eclipse meets the commit cycle: before C the commit ends, from C on its verify is abandoned. A re-application
that has not swapped starts again later (R372). -/
def State.eclipseCycle (s : State) : State :=
  match s.pln.cycle with
  | none => s
  | some c =>
    match c.phase with
    | .checked | .staged => s.cancelCycle stEclipsed
    | _ => { s with pln := { s.pln with cycle := some { c with eclipsed := true } } }

/-- A tile loss meets the commit cycle: before C the commit completes with TILE_LOST, from C on it is noted. -/
def State.tileLossCycle (s : State) : State :=
  match s.pln.cycle with
  | none => s
  | some c =>
    match c.req.origin with
    | .reapply => s
    | _ =>
      match c.phase with
      | .checked | .staged => s.cancelCycle stTileLost
      | _ => { s with pln := { s.pln with cycle := some { c with tileLost := true } } }

/-! ### The enable of the Plan Engine (R111, R140, R141, R143) -/

/-- PLN_ENABLE_WRITE (R111): the write waits for the end of the commit cycle in progress. Setting it while VALID is 0 has
no effect and sets CFG_REJECT. -/
def execPlnEnableWrite (die : Fin 2) (value : Bool) (s : State) : Host.Outcome State Fault Refusal :=
  .next <| s.viaBar0 die 0x100000 fun s =>
    if value && !s.on PLN_FMAP_STATUS.VALID then s.plnReject
    else
      let s1 := s.wr PLN_CTL.ENABLE (b2n value)
      { s1 with pln := { s1.pln with enablePending := some value } }

/-- A channel's banks, flags and writes are cleared as it enters CHANGE for 40 frames, and a measurement of it is abandoned,
to be due again after CHANGE (R141, R303). -/
def State.startChange (s : State) (ch : Nat) : State :=
  let busy := s.cal.meas.any fun m => m.unit == ch
  let s := s.abandonMeas fun m => m.unit == ch
  let s : State := if !busy then s else { s with cal := { s.cal with
    due := nset s.cal.due ch 0, later := ch :: s.cal.later.filter fun u => u != ch } }
  let s1 := (((s.chWr DRV_CH_STATE.STATE stChange ch).chWr DRV_CH_LIVE.LIVE 0 ch).chWr DRV_CH_BANKS.NEXT 0 ch).chWr
    DRV_CH_BANKS.FALLBACK 0 ch
  let s2 := (s1.chWr DRV_CH_STATE.ARM 0 ch).chWr DRV_CH_STATE.KEEP 0 ch
  { s2 with drv := { s2.drv with changeDue := nset s2.drv.changeDue ch (s.now + 1 + 40) } }

/-- A tile takes MODE and RANGE of one element's channel (R141): a channel that this enable newly binds takes them in REST, and
another one whose MODE or RANGE differs enters CHANGE. -/
def State.takeMode (s : State) (e : Nat) : State :=
  let x := s.elem e
  let ch := x.channel
  let same := s.chRd DRV_CH_STATE.MODE ch == b2n x.current && s.chRd DRV_CH_STATE.RANGE ch == b2n x.narrow
  let s1 := (s.chWr DRV_CH_STATE.MODE (b2n x.current) ch).chWr DRV_CH_STATE.RANGE (b2n x.narrow) ch
  if !s.drv.bound.contains ch then s1.wake ch
  else if !same then s1.startChange ch
  else if s.outState ch = stRest then s1.wake ch
  else s1

/-- The channels that the tiles hold in another state than REST. -/
def State.activeChannels (s : State) : List Nat :=
  ((s.regs.filter fun c =>
    let a := c.1 / 8
    decide (0x01000000 ≤ a) && decide (a < 0x02000000) && decide (0x10000 ≤ a % 0x200000) &&
      decide (a % 0x200000 < 0x20000) && a % 0x20 == 8 && c.1 % 8 == 0).map fun c =>
    let a := c.1 / 8 - 0x01000000
    2048 * (a / 0x200000) + (a % 0x200000 - 0x10000) / 0x20).dedup

/-- A channel that no element binds any more goes to REST, and a spare that stood in for it is free (R15, R140, R141). -/
def State.unbind (s : State) (ch : Nat) : State :=
  let s := if (s.spare ch).1 != 0 && (s.spare ch).2 == ch % 32 then s.setSpare ch 0 0 else s
  (((s.chWr DRV_CH_STATE.STATE stRest ch).chWr DRV_CH_STATE.MODE 0 ch).chWr DRV_CH_STATE.RANGE 0 ch).dueAgain ch

/-- The Plan Engine is enabled: words load, and channels take their modes (R111, R140, R141, R143). -/
def State.enablePln (s : State) : State :=
  let s1 := (s.wr PLN_STATUS.ENABLED 1).loadWords
  let s2 : State := { s1 with drv := { s1.drv with loaded := true } }
  let s3 := ((s2.drv.bound ++ s2.activeChannels).dedup.filter fun ch => (s2.elemAt ch).isNone).foldl State.unbind s2
  let s4 := s3.validElems.foldl State.takeMode s3
  { s4 with drv := { s4.drv with bound := s4.validElems.map fun e => (s4.elem e).channel } }

/-- The first commit of a list that starts at once or joins is not made, as the Plan Engine is disabled (R111, R132): the list
runs from the frame the commit would have had, and the entry in force there is skipped (assumption 30). -/
def State.joinOff (s : State) (r : Req) (status : Nat) : State :=
  let j := s.now + Config.prepFrames
  let b := s.orb.base.getD j
  let spot := (orbitSpot s.orb.active b j).getD (0, j, j)
  let short := s.orb.base.isSome && decide (spot.2.2 < j + 80)
  let s1 : State := { s with orb := { s.orb with
      base := some b, settled := j + 1, entered := j + 1, fresh := short
      start := s.orb.start.map fun st => { st with at_ := some j } } }
  if short then s1 else s1.orbitSkip.endStart r status spot.1 s.now 0

/-- The Plan Engine is disabled: accepted commits not yet in preparation complete with ABORTED, and a waiting Orbit request
is withdrawn and skipped (R111, R129). A list that commits nothing joins all the same. -/
def State.disablePln (s : State) : State :=
  let s1 := s.wr PLN_STATUS.ENABLED 0
  let idle := (orbitStand s.orb.active 0).isNone
  let orbit (r : Req) : Bool := match r.origin with | .orbit _ => true | .join => !idle | _ => false
  let s3 := (s1.orb.reqs.filter orbit).foldl (fun t r => match r.origin with
    | .orbit e => t.orbitSkip.endStart r stAborted e t.now 0
    | _ => t.joinOff r stAborted) (s1.dequeue orbit)
  s3.cancel (fun r => match r.origin with | .host _ => true | _ => false) stAborted

/-- PLN_ENABLE_APPLY (R111): the pending write takes effect, unless a commit cycle is in progress. VALID may have cleared since
the write: the engine is then not enabled (assumption 87). -/
def execPlnEnableApply (s : State) : Host.Outcome State Fault Refusal :=
  .next <|
    match s.pln.enablePending, s.pln.cycle with
    | some v, none =>
      let s1 : State := { s with pln := { s.pln with enablePending := none } }
      if v == s.plnOn then s1
      else if v && !s.on PLN_FMAP_STATUS.VALID then (s1.wr PLN_CTL.ENABLE 0).plnReject
      else if v then s1.enablePln
      else s1.disablePln
    | _, _ => s

/-- CHANGE_EXPIRY (R141): the channel leaves CHANGE at the end of its 40 frames, at code 0. -/
def execChangeExpiry (tile : Fin 8) (ch : Fin 2048) (s : State) : Host.Outcome State Fault Refusal :=
  .next <|
    let c := 2048 * tile.val + ch.val
    match nget s.drv.changeDue c with
    | 0 => s
    | f =>
      let s1 := (s.reach f).wake c
      { s1 with drv := { s1.drv with changeDue := nset s1.drv.changeDue c 0 } }

end Sys2Proof.Machine
end

