-- ==== Sys2Proof/Machine/Orbit.lean ====
section
/-! DEFINITION. The Orbit list (chapter 4): loading, starting, stopping, entries and swaps. -/
namespace Sys2Proof.Machine

/-- The status codes of the Orbit list (R135). -/
def stOrbitBusy : Nat := 0x0201
@[inherit_doc stOrbitBusy] def stNoOrbit : Nat := 0x0202
@[inherit_doc stOrbitBusy] def stOrbitBad : Nat := 0x0203
@[inherit_doc stOrbitBusy] def stOrbitShort : Nat := 0x0204
@[inherit_doc stOrbitBusy] def stOrbitLong : Nat := 0x0205
@[inherit_doc stOrbitBusy] def stShadowEmpty : Nat := 0x0206

/-- A list is running: it has started, at B, at its join, or, with NOW, at its acceptance (R132). -/
def State.orbitRunning (s : State) : Bool :=
  !s.orb.active.isEmpty &&
    ((match s.orb.start with | some st => st.join | none => false) ||
      match s.orb.base with | some b => decide (b ≤ s.now) | none => true)

/-- A list has been accepted and has not yet started (R130, R133). After a step of time back past B the list stands so again
(R134, assumption 89). -/
def State.orbitAhead (s : State) : Bool := !s.orb.active.isEmpty && !s.orbitRunning

/-- An Orbit entry from its 8 bytes (R127), and whether its reserved fields are 0 and PLAN_ID is 0 where HOLD = 1. -/
def orbitEnt (v : Nat) : OrbitEnt := { plan := bits v 0 10, hold := bit v 16, dur := bits v 32 25 }
@[inherit_doc orbitEnt] def orbitEntOk (v : Nat) : Bool :=
  bits v 10 6 == 0 && bits v 17 15 == 0 && bits v 57 7 == 0 && (!bit v 16 || bits v 0 10 == 0)

/-- The body of an ORBIT_LOAD is valid (R130). -/
def orbitLoadOk (d : Desc) : Bool :=
  d.fld 8 8 % 8 == 0 && decide (1 ≤ d.fld 16 2) && decide (d.fld 16 2 ≤ 512) && decide (d.fld 18 1 < 2) && zeros d.bytes 19 45

/-- The status of an ORBIT_LOAD (R130, R440), OK where every check passes. -/
def State.orbitLoadStatus (s : State) (d : Desc) (data : List Byte) : Nat :=
  let n := d.fld 16 2
  let ws := words8 n data
  let l := ws.map orbitEnt
  let stored (p : Nat) : Bool := (s.pln.plan p).isSome
  if !orbitLoadOk d then stBadField
  else if s.keysErased then stKeysErased
  else if s.orb.swap.isSome || s.orbitAhead then stOrbitBusy
  else if data.length < 8 * n then stDmaError
  else if !ws.all orbitEntOk then stOrbitBad
  else if !(s.pln.listPlans l).all stored then stNoPlan
  else if !(l.all fun e => decide (80 ≤ e.dur) && (e.hold || decide (s.planSpan 0 e.plan ≤ e.dur))) then stOrbitShort
  else if 20000000 < orbitLen l then stOrbitLong
  else stOK

/-- ORBIT_LOAD (R130, R131): the shadow list is replaced; with SWAP while a list runs, the load completes at the swap. -/
def execOrbitLoad (id : Nat) (read : HostRead (List Byte)) (s : State) : Host.Outcome State Fault Refusal :=
  .next <| (s.poisoned read.poisoned id).withOp id opOrbitLoad fun d =>
    let s := s.poisoned read.poisoned id
    if (match s.orb.swap with | some p => p.1 == id | none => false) then s
    else
      let st := s.orbitLoadStatus d read.data
      let l := (words8 (d.fld 16 2) read.data).map orbitEnt
      let s0 := if st = stBadField ∨ st = stKeysErased ∨ st = stOrbitBusy then s
        else s.emit (.read s.active (d.fld 8 8) (8 * d.fld 16 2))
      if st ≠ stOK then s0.done d st
      else
        let s1 : State := { s0 with orb := { s0.orb with shadow := l } }
        if bit (d.fld 18 1) 0 && s.orbitRunning then { s1 with orb := { s1.orb with swap := some (id, s.now) } }
        else s1.done d stOK (orbitLen l)

/-- The request that makes a list's first commit at once (R132). -/
def State.joinReq (s : State) : Req :=
  { cls := 2, src := 64, origin := .join, plan := 0, fb := none, settle := 0, time := none, creq := 0, prep := s.now
    strict := false, acc := s.now, seq := 0, tcost := 0, jcost := 0, moves := [], until_ := 0 }

/-- The request of a start at once or a join is issued (R132), unless the Plan Engine is disabled (R111). -/
def State.issueJoin (s : State) : State :=
  if s.plnOn || (orbitStand s.orb.active 0).isNone then s.enqueue s.joinReq
  else s.joinOff { s.joinReq with seq := s.orb.nextSeq } stPlnDisabled

/-- ORBIT_START (R132). -/
def execOrbitStart (id : Nat) (s : State) : Host.Outcome State Fault Refusal :=
  .next <| s.withOp id opOrbitStart fun d =>
    if (match s.orb.start with | some st => st.desc == id | none => false) then s
    else
      let now := bit (d.fld 16 1) 0
      let b := s.frameAt (d.fld 8 8)
      if decide (2 ≤ d.fld 16 1) || !zeros d.bytes 17 47 then s.done d stBadField
      else if s.keysErased then s.done d stKeysErased
      else if s.orbitRunning || s.orbitAhead || s.orb.start.isSome then s.done d stOrbitBusy
      else if s.orb.shadow.isEmpty then s.done d stShadowEmpty
      else if !now && s.timeOut (d.fld 8 8) then s.done d stTimeRange
      else
        let join := now || decide (b < s.now)
        let st : OrbitStart := { desc := id, seq := s.orb.nextSeq, now := now, join := join
                                 at_ := if join then none else some b
                                 idle := (orbitStand s.orb.shadow 0).isNone }
        let s1 : State := { s with orb := { s.orb with
            active := s.orb.shadow, shadow := [], base := if now then none else some b, start := some st, stop := none
            swap := none, erased := none, fresh := !join, settled := b, entered := max b s.now } }
        let s2 := s1.wr ORB_ORBIT_CYCLES.COUNT 0
        if join then s2.issueJoin else s2

/-- ORBIT_LIST_START (R132): the list starts to run at B or J. A start that commits nothing completes there. -/
def execOrbitListStart (s : State) : Host.Outcome State Fault Refusal :=
  .next <|
    match s.orb.start with
    | none => s
    | some st =>
      match st.at_ with
      | none => s
      | some f =>
        let s := s.reach f
        if !st.idle then s
        else
          let i := (s.orb.base.bind fun b => (orbitSpot s.orb.active b f).map (·.1)).getD 0
          let s1 : State := { s with orb := { s.orb with start := none } }
          s1.withDesc st.desc fun d => s1.finish d stOK (some i) (ticksOf f)

/-- A request of the Orbit list. -/
def Req.orbital (r : Req) : Bool := match r.origin with | .orbit _ | .join => true | _ => false

/-- An Orbit request that waits is withdrawn; its entry is skipped (R129). -/
def State.dropOrbit (s : State) (status : Nat) : State :=
  (s.orb.reqs.filter Req.orbital).foldl (fun t r =>
    t.orbitSkip.endStart r status (match r.origin with | .orbit e => e | _ => 0) t.now 0) (s.dequeue Req.orbital)

/-- The request of an entry that starts at frame `e` (R128), as an ASAP request where `stand` holds (R132). -/
def State.entryReq (s : State) (l : List OrbitEnt) (i e : Nat) (plan : Nat) (stand : Bool) : Req :=
  { cls := 2, src := 64, origin := .orbit i, plan := plan, fb := s.pln.fallbackOf plan 0xFFFE, settle := 0
    time := if stand then none else some (ticksOf e), creq := if stand then 0 else e
    prep := if stand then s.now else e - 40, strict := false, acc := s.now, seq := 0
    tcost := planCost (s.planBytes plan), jcost := ((s.pln.plan plan).map Plan.energy).getD 0, moves := []
    until_ := e + ((l[i]?.map OrbitEnt.dur).getD 0) }

/-- The entry `i` of a list meets its prep frame (R128, R129). -/
def State.prepEntry (s : State) (l : List OrbitEnt) (i e : Nat) (fresh : Bool) (ecc : Option EccHit) : State :=
  let s1 := (s.eccHit ecc).dropOrbit stOrbitLateSkip
  let hold := match l[i]? with | some x => x.hold | none => true
  let plan := if hold then (if fresh then orbitStand l i else none) else l[i]?.map OrbitEnt.plan
  match plan with
  | none => s1
  | some p =>
    let r := s1.entryReq l i e p hold
    if !s1.plnOn || ecc.isSome then
      let r' := { r with seq := s1.orb.nextSeq }
      s1.orbitSkip.endStart r' (if ecc.isSome then stMemUncorr else stPlnDisabled) i s1.now 0
    else s1.enqueue r

/-- ORBIT_ENTRY_PREP (R128): at frame E − 40 it is settled which list provides the entry that starts at E, and the entry
issues its request. An entry that cannot be read is skipped (R402). -/
def execOrbitEntryPrep (ecc : Option EccHit) (s : State) : Host.Outcome State Fault Refusal :=
  .next <|
    match s.nextEdge with
    | none => s
    | some (e, i) =>
      let s := s.reach (e - 40)
      match s.edge e with
      | .stop => s
      | .swap =>
        let s1 := s.prepEntry s.orb.shadow 0 e false ecc
        { s1 with orb := { s1.orb with settled := e + 1 } }
      | .entry =>
        let s1 := s.prepEntry s.orb.active i e s.orb.fresh ecc
        { s1 with orb := { s1.orb with settled := e + 1, fresh := false } }

/-- The next boundary of the running list that has not passed. -/
def State.nextStart (s : State) : Option (Nat × Nat) := s.orb.base.bind fun b => orbitFrom s.orb.active b s.orb.entered

/-- A cycle boundary of the list has been reached: a cycle has been completed, and a cycle starts (R136, R413). -/
def State.cycleDone (s : State) (b e : Nat) : State :=
  if cycleEdge s.orb.active b e then
    let s1 := if b < e then s.bump ORB_ORBIT_CYCLES.COUNT else s
    s1.occur 484
  else s

/-- ORBIT_ENTRY_START (R128): an entry of the running list starts at its boundary. -/
def execOrbitEntryStart (s : State) : Host.Outcome State Fault Refusal :=
  .next <|
    match s.nextStart with
    | none => s
    | some (e, _) =>
      if s.edge e ≠ .entry then s
      else
        let s1 := (s.reach e).cycleDone (s.orb.base.getD 0) e
        { s1 with orb := { s1.orb with entered := e + 1 } }

/-- ORBIT_SWAP (R131): at a cycle boundary the shadow list becomes active, its entry 0 starts, and the load completes. -/
def execOrbitSwap (s : State) : Host.Outcome State Fault Refusal :=
  .next <|
    match s.nextStart, s.orb.swap with
    | some (e, _), some (id, _) =>
      if s.edge e ≠ .swap then s
      else
        let s := s.reach e
        let l := s.orb.shadow
        let s1 : State := { s with orb := { s.orb with
            active := l, shadow := [], base := some e, swap := none, entered := e + 1, settled := max s.orb.settled e } }
        let s2 := ((s1.wr ORB_ORBIT_CYCLES.COUNT 0).occur 484).occur 485
        s2.withDesc id fun d => s2.finish d stOK (orbitLen l) (ticksOf e)
    | _, _ => s

/-- The frame at which a stop accepted at frame `acc` takes effect (R128, R133). -/
def stopEnd (l : List OrbitEnt) (b acc mode : Nat) : Nat :=
  let e := ((orbitFrom l b (max (acc + 40) (b + 1))).map (·.1)).getD 0
  if mode = 1 then e else b + ceilDiv (e - b) (orbitLen l) * orbitLen l

/-- The frame at which a stop of the running list with base `b` ends it: of the shadow list, once a pending swap takes effect
before the stop (R131, R133). -/
def State.stopAt (s : State) (b : Nat) (p : OrbitStop) : Nat :=
  let e := stopEnd s.orb.active b p.acc p.mode
  match s.orb.swap with
  | none => e
  | some w =>
    let x := stopEnd s.orb.active b w.2 0
    if x < e then stopEnd s.orb.shadow x p.acc p.mode else e

/-- A second stop would end sooner than the first (R133). -/
def State.stopSooner (s : State) (old new : OrbitStop) : Bool :=
  match s.orb.base with
  | some b => decide (s.stopAt b new < s.stopAt b old)
  | none => new.mode == 1 && old.mode == 0 && decide (1 < s.orb.active.length)

/-- A descriptor whose action is over completes, if there is one. -/
def State.endDesc (s : State) (id : Option Nat) (status : Nat) : State :=
  match id with
  | some i => s.withDesc i fun d => s.done d status
  | none => s

/-- A start whose list has not started is cancelled (R133, R440): its list returns to the shadow, and the ORBIT_START, if its
completion is still owed, completes with a status; a stop or a swap that waited since before a step of time ends with ABORTED
(assumption 89). -/
def State.cancelStart (s : State) (status : Nat) : State :=
  let s1 := s.dequeue Req.orbital
  let s2 : State := { s1 with orb := { s1.orb with
      shadow := s.orb.active, active := [], base := none, start := none, fresh := false, stop := none, swap := none } }
  ((s2.endDesc (s.orb.start.map OrbitStart.desc) status).endDesc (s.orb.stop.map OrbitStop.desc) stAborted).endDesc
    (s.orb.swap.map (·.1)) stAborted

/-- ORBIT_STOP (R133). -/
def execOrbitStop (id : Nat) (s : State) : Host.Outcome State Fault Refusal :=
  .next <| s.withOp id opOrbitStop fun d =>
    let p : OrbitStop := { desc := id, mode := d.fld 8 1, acc := s.now }
    if (match s.orb.stop with | some q => q.desc == id | none => false) then s
    else if decide (2 ≤ d.fld 8 1) || !zeros d.bytes 9 55 then s.done d stBadField
    else if s.orbitRunning then
      match s.orb.stop with
      | none => { s with orb := { s.orb with stop := some p } }
      | some q =>
        if s.stopSooner q p then
          let s1 := s.withDesc q.desc fun x => s.done x stAborted
          { s1 with orb := { s1.orb with stop := some p } }
        else s.done d stOrbitBusy
    else if s.orbitAhead || s.orb.start.isSome then (s.cancelStart stAborted).done d stOK (some 0)
    else s.done d stNoOrbit

/-- ORBIT_STOP_EFFECT (R133, R440): at the stop frame the active list becomes empty, a pending swap is cancelled, and the
stop completes. -/
def execOrbitStopEffect (s : State) : Host.Outcome State Fault Refusal :=
  .next <|
    match s.nextStart with
    | none => s
    | some (e, _) =>
      if s.edge e ≠ .stop then s
      else
        let b := s.orb.base.getD 0
        let s := s.reach e
        let s0 := if cycleEdge s.orb.active b e then s.bump ORB_ORBIT_CYCLES.COUNT else s
        let s1 := s0.dropOrbit stAborted
        let s2 := match s1.orb.start with
          | some st => s1.withDesc st.desc fun d => s1.finish d stAborted none (ticksOf e)
          | none => s1
        let s3 := match s2.orb.swap with
          | some p => s2.withDesc p.1 fun d => s2.done d stAborted
          | none => s2
        let s4 : State := { s3 with orb := { s3.orb with
            active := [], base := none, start := none, swap := none, stop := none, erased := none, fresh := false } }
        let s5 := match s.orb.stop with
          | some p => s4.withDesc p.desc fun d => s4.finish d stOK (s4.rd ORB_ORBIT_CYCLES.COUNT) (ticksOf e)
          | none => s4
        s5.occur 486

/-- Key erasure meets the scheduler (R440): commits not yet in preparation and starts whose first commit has not been
admitted complete with KEYS_ERASED, and a running list ends at the end of its current entry. -/
def State.orbitErase (s : State) : State :=
  let s1 := s.cancel (fun r => match r.origin with | .host _ => true | _ => false) stKeysErased
  match s1.orb.start with
  | some st =>
    if s1.orb.fresh || st.idle || s1.orb.reqs.any Req.orbital then s1.cancelStart stKeysErased
    else { s1 with orb := { s1.orb with erased := some s1.now } }
  | none => if s1.orbitRunning then { s1 with orb := { s1.orb with erased := some s1.now } } else s1

/-- A frame moved by a step of time. -/
def moveFrame (d : Int) (f : Nat) : Nat := ((f : Int) + d).toNat

/-- A step of Meridian time meets the scheduler (R134, R323), after the clock has moved by `d` frames: requests with a
time recompute their prep frames, others keep their age, and the list rejoins in phase. -/
def State.orbitStep (s : State) (d : Int) : State :=
  let fix (r : Req) : Req :=
    match r.time with
    | some t => if r.orbital then r else { r with creq := s.frameAt t, prep := s.frameAt t - 40, acc := moveFrame d r.acc }
    | none => { r with prep := moveFrame d r.prep, acc := moveFrame d r.acc }
  let s1 : State := { s with orb := { s.orb with
      reqs := sortReqs (s.orb.reqs.map fix)
      levelAt := moveFrame d s.orb.levelAt
      stop := s.orb.stop.map fun p => { p with acc := moveFrame d p.acc }
      swap := s.orb.swap.map fun p => (p.1, moveFrame d p.2)
      erased := s.orb.erased.map (moveFrame d) } }
  match s1.orb.base with
  | none => s1
  | some b =>
    if s1.orb.active.isEmpty then s1
    else
      let s2 := s1.dequeue fun r => r.orbital
      if b < s2.now then
        let s3 : State := { s2 with orb := { s2.orb with
            start := s2.orb.start.map fun st => { st with join := true, seq := min st.seq s2.orb.nextSeq }
            settled := s2.now, entered := s2.now } }
        s3.issueJoin
      else { s2 with orb := { s2.orb with settled := b, entered := b, fresh := true } }

end Sys2Proof.Machine
end

