-- ==== Sys2Proof/Machine/Drive.lean ====
section
/-! DEFINITION. The drive tiles (chapter 5): link frames, the update queue, the applied codes, dither, fold-back, guards,
spares and the output check. -/
namespace Sys2Proof.Machine

/-! ### Applied codes (R142, R149 to R151) -/

/-- A channel's value x of steps 1 to 5 of R142 in frame `f`, and whether step 5 lowered it. -/
def State.appliedOf (s : State) (ch f : Nat) : Nat × Bool :=
  let cap := s.chRd DRV_CH_GUARDW.CAP ch
  let c := if s.chOn DRV_CH_STATE.MODE ch then s.live ch * s.rd DRV_FOLD_STATUS.FACTOR (ch / 2048) / 65536 else s.live ch
  let d := if s.chRd DRV_CH_DITHER.DMODE ch = 0 then 0 else ditherAt (s.phaseAt ch f) (s.chRd DRV_CH_DITHER.AMP ch)
  let x := if s.blocked ch then s.chRd DRV_CH_GUARDW.BLOCK_CODE ch else (clampI 0 65535 ((c : Int) + d)).toNat
  (min x cap, decide (cap < x))

/-- The channels of a tile that elements are bound to. -/
def State.tileChans (s : State) (tile : Nat) : List Nat :=
  (s.validElems.map fun e => (s.elem e).channel).filter fun ch => ch / 2048 == tile

/-- The channels of a tile of which a register differs from its reset value. -/
def State.usedChans (s : State) (tile : Nat) : List Nat :=
  (s.regs.filterMap fun c =>
    let a := c.1 / 8
    let o := a % 0x200000
    if 0x01000000 ≤ a ∧ a < 0x02000000 ∧ (a - 0x01000000) / 0x200000 = tile ∧ 0x10000 ≤ o ∧ o < 0x20000 then
      some (2048 * tile + (o - 0x10000) / 0x20) else none).dedup

/-- The channels of a tile that form an applied code other than 0, or showed one: those bound and those in use (R142). -/
def State.formChans (s : State) (tile : Nat) : List Nat := (s.tileChans tile ++ s.usedChans tile).dedup

/-! ### The pads (R137, R142 step 6, R164, R165) -/

/-- Full scale of an output (R137): 10 V or 5 V in mV, 2.000 or 0.500 mA in µA. -/
def fullScale (current narrow : Bool) : Nat := if current then (if narrow then 500 else 2000) else if narrow then 5000 else 10000

/-- The output for a code at a DAC (R137), in 1/65,536 mV or 1/65,536 µA. -/
def outputOf (current narrow : Bool) (n : Nat) : Nat := n * fullScale current narrow

/-- Frames of a takeover's ramp, or of its one frame with both outputs closed (R165). -/
def rampLen (current : Bool) : Nat := if current then 40 else 1

/-- What the channel and its spare apply in frame `n` (from 1) of a takeover, and of a hand-back, of the code `x` (R165). -/
def takeSplit (current : Bool) (x n : Nat) : Option Nat × Option Nat :=
  if rampLen current < n then (none, some x)
  else if current then (some (x * (40 - n) / 40), some (x - x * (40 - n) / 40)) else (some x, some x)
@[inherit_doc takeSplit] def backSplit (current : Bool) (x n : Nat) : Option Nat × Option Nat :=
  if rampLen current < n then (some x, none)
  else if current then (some (x * n / 40), some (x - x * n / 40)) else (some x, some x)

/-- What a channel's output stage and its spare apply of the channel's code `x` in frame `f` (R142 step 6). -/
def State.padSplit (s : State) (ch x f : Nat) : Option Nat × Option Nat :=
  let cur := s.chOn DRV_CH_STATE.MODE ch
  if s.outState ch = stSpared then
    match nget s.drv.backAt ch with
    | 0 => (none, some x)
    | b + 1 => backSplit cur x (f + 1 - b)
  else if s.outState ch = stDrive then
    match s.cal.meas.find? fun m => m.unit == ch && m.behind with
    | none => (some x, none)
    | some m =>
      let back := m.start + m.len - (rampLen cur + if cur then 1 else 0)
      if back ≤ f then backSplit cur x (f + 1 - back) else takeSplit cur x (f + 1 - m.start)
  else (none, none)

/-- An output as `pads` holds it. -/
def padCode : Option Nat → Nat
  | some x => x + 1
  | none => 0

/-- A channel's code reaches the pads (R142 step 6). -/
def State.padOne (s : State) (ch x : Nat) : State :=
  let r := s.padSplit ch x s.now
  let own := nset s.drv.pads ch (padCode r.1)
  let mine := s.rd DRV_SPARE.REASON (ch / 2048) (ch % 2048 / 32) != 0 && (s.spare ch).2 == ch % 32
  { s with drv := { s.drv with pads := if mine then nset own (16384 + ch / 32) (padCode r.2) else own } }

/-- What a unit's DAC puts out at its pad, if it drives one (R137): a channel, or 16,384 + group for a spare, in the mode and
range of the channel. -/
def State.output (s : State) (unit ch : Nat) : Option Nat :=
  match nget s.drv.pads unit with
  | 0 => none
  | x + 1 => some (outputOf (s.chOn DRV_CH_STATE.MODE ch) (s.chOn DRV_CH_STATE.RANGE ch) x)

/-- One channel's applied code of the current frame, with the bits that show how it was formed (R142, R167). -/
def State.formOne (s : State) (ch : Nat) : State :=
  let (x, clamped) := s.appliedOf ch s.now
  let mode := s.chOn DRV_CH_STATE.MODE ch
  let s0 := if s.chRd DRV_CH_DITHER.DMODE ch = 0 then s else s.freezePhase ch
  let s1 := if s.chRd DRV_CH_LIVE.APPLIED ch = x then s0
    else { s0 with drv := { s0.drv with changedAt := nset s0.drv.changedAt ch (s.now + 1) } }
  ((((s1.chWr DRV_CH_LIVE.APPLIED x ch).chWr DRV_CH_STATE.CLAMPED (b2n clamped) ch).chWr DRV_CH_STATE.BLOCKED
    (b2n (s.blocked ch)) ch).chWr DRV_CH_STATE.FOLDED (b2n (mode && decide (s.rd DRV_FOLD_STATUS.FACTOR (ch / 2048) < 65536))) ch).padOne
    ch x

/-- The arming delay of a guard monitor begins, with ARM_DLY as it is now (R182, R193). -/
def State.startArming (s : State) (m : Nat) : State :=
  { s with mon := { s.mon with
      condSince := nset s.mon.condSince m (s.now + 1)
      armAt := nset s.mon.armAt m (s.now + s.rd MON_GUARD_CFG.ARM_DLY (m / 128) + 1) } }

/-- The arming delay of a guard monitor counts from the first frame of a condition of R159, and the comparator disarms
once all have ended (R182). -/
def State.trackGuard (s : State) (ch : Nat) : State :=
  if !(s.chOn DRV_CH_GATEW.GATE ch && s.chOn DRV_CH_GATEW.MONV ch) then s
  else
    let m := 128 * (ch / 2048) + s.chRd DRV_CH_GATEW.MON ch
    if s.heldBlock ch then
      if nget s.mon.condSince m = 0 then s.startArming m else s
    else
      let s1 : State := { s with mon := { s.mon with condSince := nset s.mon.condSince m 0 } }
      if s.chOn DRV_CH_GATEW.TRIP ch then s1 else s1.mWr MON_IN_STATUS.DARK_ARMED 0 m

/-- The hand-backs after a retest that are over by now (R164): the spare is idle, and the channel drives its pad. -/
def State.endBacks (s : State) (tile : Nat) : State :=
  let gone (c : Nat × Nat) : Bool := c.1 / 2048 == tile && decide (c.2 + rampLen (s.chOn DRV_CH_STATE.MODE c.1) ≤ s.now + 1)
  (s.drv.backAt.filter gone).foldl (fun t c =>
    let t1 := t.setSpare c.1 0 0
    let t2 : State := { t1 with drv := { t1.drv with backAt := nset t1.drv.backAt c.1 0 } }
    if t2.outState c.1 = stSpared then t2.wake c.1 else t2) s

/-- A tile forms its channels' applied codes for the current frame, once (R142). The count of clamped frames follows. -/
def State.formTile (s : State) (tile : Nat) : State :=
  if nget s.drv.formed tile = s.now + 1 then s
  else
    let s := s.endBacks tile
    let chs := s.formChans tile
    let s1 := chs.foldl (fun t ch => (t.trackGuard ch).formOne ch) s
    let s2 := if chs.any fun ch => (s.appliedOf ch s.now).2 then s1.bump DRV_CNT_CLAMP.COUNT 1 tile else s1
    { s2 with drv := { s2.drv with formed := nset s2.drv.formed tile (s.now + 1) } }

/-- A tile forms its channels' applied codes anew in a frame in which it may have formed them. -/
def State.reformTile (s : State) (tile : Nat) : State :=
  ({ s with drv := { s.drv with formed := nset s.drv.formed tile 0 } } : State).formTile tile

/-! ### Link frames and the update queue (R144 to R148, R388, R389) -/

/-- Queued writes of a tile. -/
def State.queued (s : State) (tile : Nat) : List CodeWrite := s.drv.queue.filter fun w => w.ch / 2048 == tile

/-- The first `n` elements of a list that satisfy `p`, and the others. -/
def takeSome {α : Type} (p : α → Bool) : Nat → List α → List α × List α
  | _, [] => ([], [])
  | 0, l => ([], l)
  | n + 1, a :: t =>
    if p a then let r := takeSome p n t; (a :: r.1, r.2) else let r := takeSome p (n + 1) t; (r.1, a :: r.2)

/-- The writes of one rank that a link frame of a die carries in its slots: at most 128, and as many as the queue has room for
(R144, R145). Outside a Twilight window they are those of the die that the tile follows, whichever die they were queued
under. -/
def State.takeRank (s : State) (tile die rank : Nat) : State :=
  let room := min 128 (4096 - (s.queued tile).length)
  let r := takeSome (fun w : CodeWrite => w.ch / 2048 == tile && w.rank == rank &&
    (w.die == die || s.rd DRV_STATUS.SRC tile == die)) room s.drv.down
  let live := r.1.filter fun w => !s.inChange w.ch
  let s1 := r.1.foldl (fun t w => if s.inChange w.ch then t.override w.ch 1 else t) s
  let s2 : State := { s1 with drv := { s1.drv with
      down := r.2
      queue := s1.drv.queue ++ live.map fun w => { w with taken := s.now + 1 }
      delivered := live.foldl (fun l w => nset l (2 * w.ch + w.die) (w.code + 1)) s1.drv.delivered } }
  s2.wr DRV_QUEUE.MAX_DEPTH (max (s2.rd DRV_QUEUE.MAX_DEPTH tile) (s2.queued tile).length) tile

/-- The status bits of a tile's links follow the frames that have arrived (R166). -/
def State.linkBits (s : State) (tile : Nat) : State :=
  let up (d : Nat) : Nat := b2n (decide (s.now < nget s.drv.lastValid (2 * tile + d) + 1) && nget s.drv.lastValid (2 * tile + d) != 0)
  (s.wr DRV_STATUS.LINK_A (up 0) tile).wr DRV_STATUS.LINK_B (up 1) tile

/-- A valid frame of a die has reached a tile, and the tile is no orphan (R148). -/
def State.heard (s : State) (tile die : Nat) : State :=
  ({ s with drv := { s.drv with lastValid := nset s.drv.lastValid (2 * tile + die) (s.now + 1) } }.linkBits tile).wr
    DRV_STATUS.ORPHAN 0 tile

/-- The die a tile follows. -/
def State.follows? (s : State) (tile : Nat) : Nat := s.rd DRV_STATUS.SRC tile

/-- A tile follows a die from the next frame (R388). In a Twilight window that die's frames of the last 2 stream frames come
again, so the writes that the tile took in them are taken from both dies (R147, R389). -/
def State.followDie (s : State) (tile die : Nat) (twilight : Nat) : State :=
  let w := s.rd LKS_TILE_HOLD.FOLLOW_B
  let s1 := (s.wr DRV_STATUS.SRC die tile).wr LKS_TILE_HOLD.FOLLOW_B (if die = 1 then setBit w tile else clrBit w tile)
  if twilight = 0 then s1
  else
    let again := (s1.drv.queue.filter fun x => x.ch / 2048 == tile && decide (s.now ≤ x.taken)).map fun x =>
      { x with die := die, taken := 0 }
    { s1 with drv := { s1.drv with
        twilightEnd := nset s1.drv.twilightEnd tile (s.now + twilight + 1)
        down := again ++ s1.drv.down } }

/-- A tile freezes at a stream frame (R381, R384): writes it took from that frame on are withdrawn from its update queue and
from the staging of the commit in progress, and stay to be taken again. -/
def State.freeze (s : State) (tile k : Nat) : State :=
  if s.frozen tile then s
  else
    let w := s.rd LKS_TILE_HOLD.FROZEN
    let s1 := (s.unstage tile k).wr LKS_TILE_HOLD.FROZEN (setBit w tile)
    { s1 with drv := { s1.drv with
        frozenAt := nset s1.drv.frozenAt tile (k + 1)
        down := (s1.drv.queue.filter fun x => x.ch / 2048 == tile && decide (k < x.taken)) ++ s1.drv.down
        queue := s1.drv.queue.filter fun x => !(x.ch / 2048 == tile && decide (k < x.taken)) } }

/-- The role command of a link frame acts on the tile (R384, R388). A hold freezes it at the first stream frame not yet
compared: the standby's stream is 2 frames behind. -/
def State.linkCmd (s : State) (tile die : Nat) (c : DownCmd) : State :=
  let cur := s.follows? tile
  match c with
  | .none => s
  | .hold => s.freeze tile (s.now - 1)
  | .release => if die = cur then s.followDie tile (1 - die) 2 else s
  | .follow =>
    if die = cur then s
    else if nget s.drv.lastValid (2 * tile + cur) + 2 ≤ s.now + 1 ∨ (s.frozen tile ∧ s.on LKS_STATUS.HOLD die) then
      s.followDie tile die 0
    else s.bump LKS_CNT_HB_MISS.COUNT

/-- A tile's Twilight window is open now (R147). -/
def State.inTwilight (s : State) (tile : Nat) : Bool := decide (s.now < nget s.drv.twilightEnd tile)

/-- TILE_LINK_FRAME (R144, R147): a tile takes a downstream link frame of a die: its writes, when it follows the die or a Twilight
window is open, and its role command. The applied codes of the frame are formed. -/
def execTileLinkFrame (tile : Fin 8) (die : Fin 2) (frame : DownFrame) (s : State) : Host.Outcome State Fault Refusal :=
  .next <|
    let s1 := s.heard tile die
    let takes := !frame.idle && (s1.follows? tile == die.val || s1.inTwilight tile) && !s1.frozen tile && !s1.lostCmd tile
    let s2 := if takes then (s1.takeRank tile die 3).takeRank tile die 4 else s1
    let s3 := s2.wr DRV_STATUS.TWILIGHT (b2n (s2.inTwilight tile)) tile
    (s3.linkCmd tile die frame.cmd).formTile tile

/-- Writes of a tile's queue are applied frame by frame, from a list of frames. -/
def State.applyFrames (s : State) (tile : Nat) (good : List CodeWrite) (fs : List Nat) : State :=
  fs.foldl (fun t f =>
    let due := good.filter fun w => w.due == f
    (due.map fun w => w.ch).dedup.foldl (fun u ch => u.applyDue tile due ch) t) s

/-- LIVE_UPDATE_APPLY (R145, R146): at the start of the next frame named in the tile's update queue, every write for that
frame is applied to LIVE; one that came late is counted. An entry that cannot be read is discarded and counted, and LIVE
keeps its code (R402). -/
def execLiveUpdateApply (tile : Fin 8) (ecc : Option EccHit) (s : State) : Host.Outcome State Fault Refusal :=
  .next <|
    match s.queued tile with
    | [] => s
    | w0 :: t =>
      let s := s.reach (t.foldl (fun m w => min m w.due) w0.due)
      let due := (s.queued tile).filter fun w => decide (w.due ≤ s.now)
      let s1 : State := { s with drv := { s.drv with
          queue := s.drv.queue.filter fun w => !(w.ch / 2048 == tile.val && decide (w.due ≤ s.now)) } }
      let s2 := s1.bump DRV_CNT_LATE.COUNT (due.filter CodeWrite.late).length tile
      let good := match ecc with | some e => due.eraseIdx e.item | none => due
      let s3 := (s2.eccHit ecc tile).bump DRV_CNT_OVERRIDE.COUNT (due.length - good.length) tile
      (s3.applyFrames tile good (sortBy (fun a b => decide (a ≤ b)) (good.map CodeWrite.due).dedup)).reformTile tile

/-- TILE_ORPHAN (R148): with no valid frame on either link for 20,000 frames, the tile sets ORPHAN and the ORPH bit of
every gate word, and applies BLOCK_CODE to its gates without a link frame. -/
def execTileOrphan (tile : Fin 8) (s : State) : Host.Outcome State Fault Refusal :=
  .next <|
    let last := max (nget s.drv.lastValid (2 * tile.val)) (nget s.drv.lastValid (2 * tile.val + 1))
    let s1 := ((s.reach (last + 20000)).wr DRV_STATUS.ORPHAN 1 tile).linkBits tile
    ((s1.gateChannels.filter fun ch => ch / 2048 == tile.val).foldl (fun t ch => t.chWr DRV_CH_GATEW.ORPH 1 ch) s1).reformTile tile

/-- TILE_LINK_RESUME (R148): a link delivers valid frames again, and ORPHAN clears. -/
def execTileLinkResume (tile : Fin 8) (die : Fin 2) (s : State) : Host.Outcome State Fault Refusal :=
  .next <| s.heard tile die

/-! ### Dither writes (R150 to R152) -/

/-- A channel has a live or staged tone binding (R152). -/
def State.ditherBound (s : State) (ch : Nat) : Bool :=
  (s.pln.tones.any fun b => (s.elem b.elem).channel == ch) || s.drv.dither.any fun x => x.ch == ch

/-- A write to a DRV field is refused. -/
def State.drvReject (s : State) (tile : Nat) : State := s.wr DRV_STATUS.CFG_REJECT 1 tile

/-- DITHER_WRITE (R151, R152): DMODE, AMP, TONE and COHERENT of a channel without a binding. -/
def execDitherWrite (die : Fin 2) (tile : Fin 8) (ch : Fin 2048) (value : Word) (s : State) :
    Host.Outcome State Fault Refusal :=
  .next <| s.viaBar0 die (0x01010000 + 0x200000 * tile.val + 0x20 * ch.val + 0xC) fun s =>
    let c := 2048 * tile.val + ch.val
    let v := value.toNat
    if s.ditherBound c then s.drvReject tile
    else
      let mode := if bits v 30 2 = 3 then s.chRd DRV_CH_DITHER.DMODE c else bits v 30 2
      let tone := if 70 < bits v 0 7 then s.chRd DRV_CH_DITHER.TONE c else bits v 0 7
      let s0 := if bits v 30 2 = 3 ∨ 70 < bits v 0 7 then s.drvReject tile else s
      let s1 := (((s0.freezePhase c).chWr DRV_CH_DITHER.DMODE mode c).chWr DRV_CH_DITHER.AMP (bits v 8 8) c).chWr
        DRV_CH_DITHER.TONE tone c
      if bit v 29 && mode == 2 then
        s1.setAcc c ((s.chRd DRV_CH_PHASE0.PHASE0 c + s.chRd DRV_CH_DINC.INC c * secIndex (s.now + 1)) % 2 ^ 32) (s.now + 1)
      else s1

/-! ### Heater fold-back (R153 to R155) -/

/-- The 1 µs mean of a tile's VHV current in mA (R153, R166). A mean above ICAP starts the fold-back counter, and another resets
it. -/
def State.setMean (s : State) (tile mean : Nat) : State :=
  let s1 := (s.wr DRV_IVHV.IMEAN mean tile).wr DRV_IVHV.IPEAK (max mean (s.rd DRV_IVHV.IPEAK tile)) tile
  let since := nget s.drv.foldAt tile
  let mark := if mean ≤ s.rd DRV_FOLD_CFG.ICAP tile then 0 else if since = 0 then s.now + 1 else since
  { s1 with drv := { s1.drv with foldAt := nset s1.drv.foldAt tile mark } }

/-- FOLDBACK_STEP (R153, R154): the mean stays above ICAP until its counter reaches 200 frames, and the counter restarts. A
mean that is not above ICAP resets the counter. -/
def execFoldbackStep (tile : Fin 8) (mean : BitVec 16) (s : State) : Host.Outcome State Fault Refusal :=
  .next <|
    let s := s.setMean tile mean.toNat
    if mean.toNat ≤ s.rd DRV_FOLD_CFG.ICAP tile then s
    else
      let s := s.reach (nget s.drv.foldAt tile + 198)
      let s : State := { s with drv := { s.drv with foldAt := nset s.drv.foldAt tile (s.now + 2) } }
      let f := s.rd DRV_FOLD_STATUS.FACTOR tile * 7 / 8
      let s0 := s.occur (384 + 32 + tile.val)
      if f < 0x1000 then
        let chs := (s.formChans tile).filter fun ch => s.chOn DRV_CH_STATE.MODE ch && s.outState ch != stRest
        let s1 := chs.foldl (fun t ch =>
          let t1 := (t.chWr DRV_CH_STATE.STATE stRest ch).dueAgain ch
          { t1 with drv := { t1.drv with changeDue := nset t1.drv.changeDue ch 0 } }) (s0.wr DRV_STATUS.FOLD_FLOOR 1 tile)
        s1.raise (srcTile tile 7) 0
      else
        let s1 := (s0.wr DRV_FOLD_STATUS.FACTOR f tile).bump DRV_FOLD_STATUS.STEPS 1 tile
        if s.on DRV_STATUS.FOLD_ACTIVE tile then s1 else (s1.wr DRV_STATUS.FOLD_ACTIVE 1 tile).raise (srcTile tile 6) 0

/-- The fold-back of a tile is cleared, unless its mean exceeds ICAP (R155). -/
def State.foldClear (s : State) (tile : Nat) : State :=
  if s.rd DRV_FOLD_CFG.ICAP tile < s.rd DRV_IVHV.IMEAN tile then s.wr DRV_STATUS.CLR_REFUSED 1 tile
  else
    let s1 := (((s.wr DRV_FOLD_STATUS.FACTOR 0x10000 tile).wr DRV_FOLD_STATUS.STEPS 0 tile).wr DRV_STATUS.FOLD_ACTIVE 0
      tile).wr DRV_STATUS.FOLD_FLOOR 0 tile
    if s.on DRV_STATUS.FOLD_FLOOR tile then
      ((s.tileChans tile).filter fun ch => s.chOn DRV_CH_STATE.MODE ch && s.outState ch == stRest).foldl State.wake s1
    else s1

/-- FOLD_CLEAR (R155). -/
def execFoldClear (die : Fin 2) (tile : Fin 8) (mean : BitVec 16) (s : State) : Host.Outcome State Fault Refusal :=
  .next <| s.viaBar0 die (0x01000010 + 0x200000 * tile.val) fun s => (s.setMean tile mean.toNat).foldClear tile

/-! ### Guards (R157 to R161, R182) -/

/-- The gate channel of a tile whose word names a monitor input (R157). -/
def State.gateOfInput (s : State) (tile input : Nat) : Option Nat :=
  s.gateChannels.find? fun ch => ch / 2048 == tile && s.chOn DRV_CH_GATEW.MONV ch && s.chRd DRV_CH_GATEW.MON ch == input

/-- The DARK comparator of a tile's input is armed (R182). -/
def State.darkArmed (s : State) (tile input : Nat) : Bool :=
  match s.gateOfInput tile input with
  | some ch => s.on MON_IN_STATUS.DARK_ARMED tile input || s.chOn DRV_CH_GATEW.TRIP ch
  | none => s.on MON_IN_CFG.DARK_EN tile input

/-- A bit of one of a tile's guard maps. -/
def State.guardBit (s : State) (f : Fld) (tile input : Nat) : Bool := bit (s.rd f tile (input / 32)) (input % 32)

/-- The state with such a bit written. -/
def State.setGuardBit (s : State) (f : Fld) (tile input : Nat) (v : Bool) : State :=
  let w := s.rd f tile (input / 32)
  s.wr f (if v then setBit w (input % 32) else clrBit w (input % 32)) tile (input / 32)

/-- A capture trigger that reaches a tile at frame `f` (R189): it acts on the bank that fills, or is latched once while a bank records after its
trigger or none is free. -/
def State.capTrigger (s : State) (tile f : Nat) : State :=
  match s.mon.fill.find? fun b => b.tile == tile && !b.hit with
  | some b =>
    let s1 := s.wr (if b.bank = 0 then MON_CAP_STATUS.BANK0 else MON_CAP_STATUS.BANK1) 2 tile
    { s1 with mon := { s1.mon with fill := s1.mon.fill.map fun x => if x.tile == tile then { x with hit := true, hitAt := f } else x } }
  | none =>
    if !s.on MON_CAP_CTL.EN tile then s
    else if s.on MON_CAP_STATUS.PENDING tile then s.wr MON_CAP_STATUS.OVERRUN 1 tile
    else s.wr MON_CAP_STATUS.PENDING 1 tile

/-- A DARK or LOSS trip is a capture trigger where TRIG selects it (R189). -/
def State.tripTrigger (s : State) (tile : Nat) : State :=
  if s.rd MON_CAP_CTL.TRIG tile == 3 then s.capTrigger tile s.now else s

/-- An armed DARK comparator trips (R157): the input's bit, the gate word's latch, and the tile's fault. -/
def State.trip (s : State) (tile input : Nat) : State :=
  let s1 := ((s.setGuardBit DRV_GUARD_TRIP.TRIP tile input true).wr MON_IN_STATUS.GUARD
    (b2n (s.gateOfInput tile input).isSome) tile input).tripTrigger tile
  let s2 := match s.gateOfInput tile input with
    | some ch =>
      let s3 := s1.chWr DRV_CH_GATEW.TRIP 1 ch
      { s3 with drv := { s3.drv with trippedAt := nset s3.drv.trippedAt ch (s.now + 2) } }
    | none => s1
  (s2.occur (384 + tile)).raise (srcTile tile 1) (128 * tile + input)

/-- GUARD_TRIP (R157): the DARK comparator of a monitor input asserts; armed, it trips. -/
def execGuardTrip (tile : Fin 8) (input : Fin 128) (s : State) : Host.Outcome State Fault Refusal :=
  .next <|
    let s1 := s.wr MON_IN_STATUS.DARK_OUT 1 tile input
    if s.darkArmed tile input && !s.guardBit DRV_GUARD_TRIP.TRIP tile input then s1.trip tile input else s1

/-- GUARD_ARM (R182): ARM_DLY frames after a condition of R159 began, the guard monitor's DARK comparator arms; if its
output is asserted then, it trips. -/
def execGuardArm (tile : Fin 8) (input : Fin 128) (s : State) : Host.Outcome State Fault Refusal :=
  .next <|
    match s.gateOfInput tile input with
    | none => s
    | some ch =>
      if !s.heldBlock ch then s
      else
        let m := 128 * tile.val + input.val
        let s1 := if nget s.mon.condSince m = 0 then s.startArming m else s
        let s2 := (s1.reach (nget s1.mon.armAt m - 1)).wr MON_IN_STATUS.DARK_ARMED 1 tile input
        if s.on MON_IN_STATUS.DARK_OUT tile input && !s.guardBit DRV_GUARD_TRIP.TRIP tile input then s2.trip tile input else s2

/-- GUARD_PERSIST (R160): the DARK comparator of a latched trip is still asserted 8 frames after BLOCK_CODE was applied. -/
def execGuardPersist (tile : Fin 8) (input : Fin 128) (s : State) : Host.Outcome State Fault Refusal :=
  .next <|
    match s.gateOfInput tile input with
    | none => s
    | some ch =>
      match nget s.drv.trippedAt ch with
      | 0 => s
      | f + 1 =>
        let s := s.reach (f + 8)
        if !s.chOn DRV_CH_GATEW.TRIP ch || !s.on MON_IN_STATUS.DARK_OUT tile input ||
            s.guardBit DRV_GUARD_PERSIST.PERSIST tile input then s
        else
          let s1 := (s.chWr DRV_CH_STATE.STATE stGuardRest ch).setGuardBit DRV_GUARD_PERSIST.PERSIST tile input true
          (s1.occur (384 + 40 + tile.val)).raise (srcTile tile 2) (128 * tile.val + input.val)

/-- The trip of one input is cleared, unless its DARK comparator is asserted (R161). -/
def State.tripClear (s : State) (tile input : Nat) : State :=
  if !s.guardBit DRV_GUARD_TRIP.TRIP tile input then s
  else if s.on MON_IN_STATUS.DARK_OUT tile input then s.wr DRV_STATUS.CLR_REFUSED 1 tile
  else
    let s1 := (s.markSuspended.setGuardBit DRV_GUARD_TRIP.TRIP tile input false).setGuardBit DRV_GUARD_PERSIST.PERSIST tile input false
    match s.gateOfInput tile input with
    | none => s1
    | some ch =>
      let s2 := s1.chWr DRV_CH_GATEW.TRIP 0 ch
      let s3 : State := { s2 with drv := { s2.drv with trippedAt := nset s2.drv.trippedAt ch 0 } }
      if s.outState ch = stGuardRest then s3.wake ch else s3

/-- GUARD_TRIP_CLEAR (R161): a write of ones to a word of DRV_GUARD_TRIP. -/
def execGuardTripClear (die : Fin 2) (tile : Fin 8) (w : Fin 4) (value : Word) (s : State) :
    Host.Outcome State Fault Refusal :=
  .next <| s.viaBar0 die (0x01000030 + 0x200000 * tile.val + 4 * w.val) fun s =>
    ((List.range 32).filter fun b => bit value.toNat b).foldl (fun t b => t.tripClear tile (32 * w.val + b)) s

/-! ### Output check and spares (R15, R162 to R165) -/

/-- The state with a channel's bit of DRV_FAILED written. -/
def State.markFailed (s : State) (ch : Nat) (v : Bool) : State :=
  let w := s.rd DRV_FAILED.FAILED (ch / 2048) (ch % 2048 / 32)
  s.wr DRV_FAILED.FAILED (if v then setBit w (ch % 32) else clrBit w (ch % 32)) (ch / 2048) (ch % 2048 / 32)

/-- A calibration takeover in a channel's group ends (R15): its channel is due again. -/
def State.endTakeover (s : State) (ch : Nat) : State := s.abandonMeas fun m => m.group == ch / 32 && m.behind

/-- The spare takes over a failed channel, or the channel goes to FAILED (R163). One whose spare fails it goes to FAILED too
(assumption 91). -/
def State.takeover (s : State) (ch : Nat) : State :=
  let s1 := (s.endTakeover ch).markFailed ch true
  let s2 := s1.occur (384 + 48 + ch / 2048)
  if s.outState ch = stSpared then ((s2.setSpare ch 0 0).chWr DRV_CH_STATE.STATE stFailed ch).raise (srcTile (ch / 2048) 9) ch
  else if s.on DRV_CTL.SPARE_AUTO (ch / 2048) && (s1.spare ch).1 == 0 then
    ((s2.chWr DRV_CH_STATE.STATE stSpared ch).setSpare ch 2 (ch % 32)).raise (srcTile (ch / 2048) 8) ch
  else (s2.chWr DRV_CH_STATE.STATE stFailed ch).raise (srcTile (ch / 2048) 9) ch

/-- The frame of a channel's next output check visit (R162): each group visits one channel every 8 frames, in channel order; the
phase is the model's (assumption 92). -/
def State.nextVisit (s : State) (c : Nat) : Nat := nextAt (max s.now (nget s.drv.visitAt c)) 256 (8 * (c % 32))

/-- OUTPUT_CHECK_VISIT (R162): at the channel's turn the group's check compares a driven pad with the channel's applied code,
and two bad visits in a row mark it failed. A pad that nothing drives has nothing to compare, and breaks the row. -/
def execOutputCheckVisit (tile : Fin 8) (ch : Fin 2048) (measured : BitVec 16) (s : State) :
    Host.Outcome State Fault Refusal :=
  .next <|
    let c := 2048 * tile.val + ch.val
    if !s.on DRV_CTL.CHK_EN tile then s
    else
    let s := s.reach (s.nextVisit c)
    let s : State := { s with drv := { s.drv with visitAt := nset s.drv.visitAt c (s.now + 1) } }
    if s.now < nget s.drv.changedAt c + 4 then s
    else if s.outState c ≠ stDrive ∧ s.outState c ≠ stSpared then
      { s with drv := { s.drv with checkBad := nset s.drv.checkBad c 0 } }
    else
      let diff := ((measured.toNat : Int) - s.chRd DRV_CH_LIVE.APPLIED c).natAbs
      let bad := decide (s.rd DRV_CHK_TOL.TOL tile < diff)
      let s1 : State := { s with drv := { s.drv with checkBad := nset s.drv.checkBad c (b2n bad) } }
      if bad && nget s.drv.checkBad c != 0 then
        ({ s1 with drv := { s1.drv with checkBad := nset s1.drv.checkBad c 0 } } : State).takeover c
      else s1

/-- FAILED_RETEST (R164): the channels named are retested for 128 frames. -/
def execFailedRetest (die : Fin 2) (tile : Fin 8) (group : Fin 64) (value : Word) (s : State) :
    Host.Outcome State Fault Refusal :=
  .next <| s.viaBar0 die (0x01000200 + 0x200000 * tile.val + 4 * group.val) fun s =>
    let chs := ((List.range 32).filter fun b => bit value.toNat b).map fun b => 2048 * tile.val + 32 * group.val + b
    (chs.filter fun c => s.markedFailed c && nget s.drv.retestDue c == 0).foldl (fun t c =>
      { t with drv := { t.drv with retestDue := nset t.drv.retestDue c (s.now + 128) } }) s

/-- RETEST_DONE (R164): on a pass the bit clears, a SPARED channel starts to be handed back, a spare that stands in for a resting
channel is free, and a FAILED channel returns to DRIVE; on a failure CLR_REFUSED is set. -/
def execRetestDone (tile : Fin 8) (ch : Fin 2048) (pass : Bool) (s : State) : Host.Outcome State Fault Refusal :=
  .next <|
    let c := 2048 * tile.val + ch.val
    match nget s.drv.retestDue c with
    | 0 => s
    | f + 1 =>
      let s1 := s.reach (f + 1)
      let s2 : State := { s1 with drv := { s1.drv with retestDue := nset s1.drv.retestDue c 0 } }
      if !pass then s2.wr DRV_STATUS.CLR_REFUSED 1 tile
      else
        let s3 := s2.markFailed c false
        if s.outState c = stSpared then { s3 with drv := { s3.drv with backAt := nset s3.drv.backAt c (s3.now + 1) } }
        else
          let s4 := if s.spare c == (2, c % 32) then s3.setSpare c 0 0 else s3
          if s.outState c = stFailed then s4.wake c else s4

/-- DRV_IVHV of a tile is read, which clears IPEAK (R166). -/
def State.readIvhv (s : State) (die tile : Nat) : State :=
  let v := s.rd DRV_IVHV.IPEAK tile * 65536 + s.rd DRV_IVHV.IMEAN tile
  if !s.on HPT_STATUS.READY then s.emit (.reg die (0x01000014 + 0x200000 * tile) 0)
  else (s.emit (.reg die (0x01000014 + 0x200000 * tile) v)).wr DRV_IVHV.IPEAK 0 tile

/-- IPEAK_READ (R166): a read of DRV_IVHV returns it and clears IPEAK. -/
def execIpeakRead (die : Fin 2) (tile : Fin 8) (s : State) : Host.Outcome State Fault Refusal :=
  .next <| s.readIvhv die tile

end Sys2Proof.Machine
end

