-- ==== Sys2Proof/Machine/Monitor.lean ====
section
/-! DEFINITION. The monitor readout (chapter 6): the fast samples, the fine path, the LOSS comparators, system calibration
and the capture sequencers. -/
namespace Sys2Proof.Machine

/-! ### Ranges and class F boundaries (R169, R179, R194) -/

/-- The BAR0 offset of register `off` of a tile's input. -/
def inputAddr (tile input off : Nat) : Nat := 0x02010000 + 0x200000 * tile + 0x80 * input + off

/-- The BAR0 offset of a global monitor register of a tile. -/
def monAddr (tile off : Nat) : Nat := 0x02000000 + 0x200000 * tile + off

/-- The written ranges of a tile's inputs that wait. -/
def State.rangesWaiting (s : State) (tile : Nat) : List Nat :=
  (List.range 128).filter fun i => nget s.held (MON_IN_CFG.RANGE.key tile i 0) != 0

/-- A fine block of a monitor is abandoned (R178): a triggered one leaves its trigger pending again, unless one is. -/
def State.abandonBlock (s : State) (m : Nat) : State :=
  match s.mon.blocks.find? fun b => b.mon == m with
  | none => { s with mon := { s.mon with span := adel s.mon.span m } }
  | some b =>
    let s1 : State := { s with mon := { s.mon with
      blocks := s.mon.blocks.filter fun x => x.mon != m, span := adel s.mon.span m } }
    if !b.triggered then s1
    else
      let s2 := s1.mWr MON_IN_STATUS.BUSY 0 m
      if s.mOn MON_IN_STATUS.PENDING m then s2.mWr MON_IN_STATUS.OVERRUN 1 m else s2.mWr MON_IN_STATUS.PENDING 1 m

/-- An input's waiting range takes effect at frame `f` (R169): 5 samples carry SETTLING, and a block with a slot begun
before is abandoned. -/
def State.applyRange (s : State) (tile input f : Nat) : State :=
  let m := 128 * tile + input
  if s.rangeOf m = s.rd MON_IN_CFG.RANGE tile input then s.settleF MON_IN_CFG.RANGE tile input
  else
    let s1 := (s.settleF MON_IN_CFG.RANGE tile input).wr MON_IN_STATUS.SETTLING 1 tile input
    let s2 : State := { s1 with mon := { s1.mon with
      settle := nset s1.mon.settle m 5, rangeAt := nset s1.mon.rangeAt m (f + 1) } }
    if s2.mon.blocks.any fun b => b.mon == m && !b.vals.isEmpty then s2.abandonBlock m else s2

/-- RANGE_APPLY (R169): the waiting ranges of a tile take effect at a fast-sample frame with no commit cycle in progress. -/
def execRangeApply (tile : Fin 8) (s : State) : Host.Outcome State Fault Refusal :=
  .next <|
    if s.pln.cycle.isSome || (s.rangesWaiting tile).isEmpty then s
    else
      let s := s.reach (fastAt s.now)
      (s.rangesWaiting tile).foldl (fun t i => t.applyRange tile i s.now) s

/-- A bit address lies in one of the fast coefficient words (R194). -/
def inFastCoef (k : Nat) : Bool :=
  let a := k / 8
  let o := (a - 0x02000000) % 0x200000
  decide (0x02000000 ≤ a) && decide (a < 0x03000000) && decide (0x10000 ≤ o) && decide (o < 0x14000) &&
    decide (0x40 ≤ o % 0x80) && o % 16 < 4

/-- The written fast coefficients come into force at a fast-sample frame. -/
def State.settleFast (s : State) : State := { s with held := s.held.filter fun c => !inFastCoef c.1 }

/-- The written fine coefficients of an input come into force at its next slot start. -/
def State.settleFine (s : State) (tile input : Nat) : State :=
  (List.range 4).foldl (fun t r =>
    (t.settleF MON_IN_CF_FOFF.FOFF tile input r).settleF MON_IN_CF_FGAIN.FGAIN tile input r) s

/-! ### The fine path (R174 to R180, R191) -/

/-- A value brought into ±8,388,607, and whether it was outside (R176, R179). -/
def sat24 (x : Int) : Int × Bool := (clampI (-8388607) 8388607 x, decide (x < -8388607) || decide (8388607 < x))

/-- Slots per fine result, by ODR (R177). -/
def odrSlots (odr : Nat) : Nat := ([1, 2, 5, 10, 20, 50][odr]?).getD 1

/-- The failed state of a modulator's reference (R180). -/
def State.refBad (s : State) (tile m : Nat) : Bool :=
  bit (s.rd MON_REF_STATUS.REF_BAD tile) m || bit (s.rd MON_REF_STATUS.PAIR_MISMATCH tile) (m / 2)

/-- Bit `b` of a register field follows a check, and its sticky copy keeps a failure (R180). -/
def State.refBit (s : State) (f latch : Fld) (tile b : Nat) (bad : Bool) : State :=
  if bad then ((s.wr f (setBit (s.rd f tile) b) tile).wr latch (setBit (s.rd latch tile) b) tile).raise (srcTile tile 10) 0
  else s.wr f (clrBit (s.rd f tile) b) tile

/-- Slot 8 of a modulator ends at frame `e` (R180). The pair is compared once both have converted in the scan. -/
def State.refSlot (s : State) (tile m e : Nat) (f : Int) : State :=
  let s1 := (s.wr MON_REF_RESULT.RESULT (ofS 24 f) tile m).refBit MON_REF_STATUS.REF_BAD MON_REF_LATCH.REF_BAD tile m
    (decide (41943 < (f - 0x200000).natAbs))
  let mate := if m % 2 = 0 then m + 1 else m - 1
  if nget s.mon.slotAt (16 * tile + mate) ≠ e + 1 then s1
  else
    let d := (f - toS 24 (s.rd MON_REF_RESULT.RESULT tile mate)).natAbs
    s1.refBit MON_REF_STATUS.PAIR_MISMATCH MON_REF_LATCH.PAIR_MISMATCH tile (m / 2) (decide (s.rd MON_REF_CFG.REF_TOL tile < d))

/-- The payload of a MON_FINE record (R191). -/
def finePayload (value raw : Int) (info : Nat) (sp : Nat × Nat × Nat × Nat) : List Byte :=
  leBytes 4 (ofS 32 value) ++ leBytes 4 (ofS 32 raw) ++ leBytes 1 info ++ leBytes 1 0 ++
    leBytes 2 (if sp.2.1 = 0 then 0 else (2 * sp.1 + sp.2.1) / (2 * sp.2.1)) ++ leBytes 2 sp.2.2.1 ++ leBytes 2 sp.2.2.2 ++
    leBytes 4 sp.2.1 ++ leBytes 28 0

/-- A block of slot results is complete at frame `e` (R177, R179, R191). -/
def State.fineResult (s : State) (b : FineBlock) (e : Nat) : State :=
  let m := b.mon
  let r := s.rangeOf m
  let n : Int := b.vals.length
  let f := (b.vals.sum + n / 2) / n
  let foff := toS 24 (s.eff MON_IN_CF_FOFF.FOFF (m / 128) (m % 128) r)
  let (v, o) := sat24 (((f - foff) * (s.eff MON_IN_CF_FGAIN.FGAIN (m / 128) (m % 128) r : Nat) + 2 ^ 21) / 2 ^ 22)
  let ovr := b.ovr || o
  let s1 := ((((((s.mWr MON_IN_FINE.VALUE (ofS 24 v) m).mWr MON_IN_FINE.SEQ (s.mRd MON_IN_FINE.SEQ m + 1) m).mWr
    MON_IN_FINE.TRIGGERED (b2n b.triggered) m).mWr MON_IN_FINE.OVR (b2n ovr) m).mWr MON_IN_FINE.SUSPECT (b2n b.suspect) m).mWr
    MON_IN_FINE_RAW.RAW (ofS 24 f) m)
  let info := r + 4 * b.odr + 32 * b2n b.suspect + 64 * b2n ovr + 128 * b2n b.triggered
  let s2 := (s1.record 2 m (ticksOf e) (finePayload v f info ((aget s.mon.span m).getD (0, 0, 0, 0)))).occur
    (256 + 16 * (m / 128) + m % 128 / 8)
  let s3 : State := { s2 with mon := { s2.mon with
    blocks := s2.mon.blocks.filter fun x => x.mon != m, span := adel s2.mon.span m } }
  if b.triggered then s3.mWr MON_IN_STATUS.BUSY 0 m else s3

/-- A trigger at frame `f` asks for a triggered block of a monitor (R178): it starts at the next slot that begins after. -/
def State.startBlock (s : State) (m f : Nat) : State :=
  { s with mon := { s.mon with blocks := { mon := m, odr := 0, need := 0, after := f, vals := []
                                           triggered := true, suspect := false, ovr := false } :: s.mon.blocks } }

/-- A block of a monitor starts with the slot that begins: it takes the ODR written (R177, R178). -/
def State.openBlock (s : State) (m f : Nat) (triggered : Bool) : State :=
  let odr := s.mRd MON_IN_CFG.ODR m
  let s1 := s.settleF MON_IN_CFG.ODR (m / 128) (m % 128)
  let s2 := if triggered then s1.mWr MON_IN_STATUS.BUSY 1 m else s1
  let b : FineBlock := { mon := m, odr := odr, need := odrSlots odr, after := f, vals := [], triggered := triggered
                         suspect := false, ovr := false }
  { s2 with mon := { s2.mon with blocks := b :: s2.mon.blocks.filter fun x => x.mon != m } }

/-- A slot of an input begins at frame `st` of the scan with index `scan` in its second (R177, R178): a block starts with it
where one is due. -/
def State.slotBegin (s : State) (m scan st : Nat) : State :=
  let mode := s.eff MON_IN_CFG.FMODE (m / 128) (m % 128)
  match s.mon.blocks.find? fun b => b.mon == m with
  | some b => if b.need = 0 ∧ b.after < st then s.openBlock m b.after true else s
  | none =>
    if mode = 1 then (if scan % odrSlots (s.mRd MON_IN_CFG.ODR m) = 0 then s.openBlock m 0 false else s)
    else if mode = 2 && s.mOn MON_IN_STATUS.PENDING m then (s.mWr MON_IN_STATUS.PENDING 0 m).openBlock m 0 true
    else s

/-- The figures of R191 of a monitor start anew with the block that has just started, if one has. -/
def State.spanBegin (s : State) (m : Nat) : State :=
  if s.mon.blocks.any fun b => b.mon == m && b.need != 0 && b.vals.isEmpty then
    { s with mon := { s.mon with span := adel s.mon.span m } }
  else s

/-- An input's slot ends at frame `e` with result `f` (R169, R176 to R179, R184). -/
def State.inputSlot (s : State) (m e : Nat) (f : Int) (ovr : Bool) : State :=
  let st := e - 4000
  let s1 : State := { s with mon := { s.mon with cal := s.mon.cal.map fun c =>
    if 128 * c.tile + c.input = m ∧ c.since ≤ st ∧ c.slots.length < 50 then { c with slots := c.slots ++ [f] } else c } }
  if s.eff MON_IN_CFG.FMODE (m / 128) (m % 128) = 0 then s1
  else
    match s1.mon.blocks.find? fun b => b.mon == m && b.need != 0 with
    | none => { s1 with mon := { s1.mon with span := adel s1.mon.span m } }
    | some b =>
      if st + 1 < nget s.mon.rangeAt m + 20 ∧ nget s.mon.rangeAt m ≠ 0 then s1.abandonBlock m
      else
        let b' : FineBlock := { b with vals := b.vals ++ [f], suspect := b.suspect || s.refBad (m / 128) (m % 128 / 8)
                                       ovr := b.ovr || ovr }
        if b'.vals.length = b.need then s1.fineResult b' e
        else { s1 with mon := { s1.mon with blocks := s1.mon.blocks.map fun x => if x.mon == m then b' else x } }

/-- The results of a system calibration step that ends (R184, R185): ERROR 0 with the results written, or the code of
the failure. -/
def State.calResult (s : State) (c : SysCal) : State :=
  let t := c.tile
  let n := c.slots.length
  let raw (x : Int) : Int := if c.count = 0 then x * s.rawOf (128 * t + c.input) else x * c.sum
  let cnt : Int := if c.count = 0 then 1 else c.count
  let total := c.slots.sum
  let lo := c.slots.foldl min (c.slots.headD 0)
  let hi := c.slots.foldl max (c.slots.headD 0)
  let spread := (hi - lo).toNat
  let fail (k : Nat) : State := s.wr MON_SYSCAL_STATUS.ERROR k t
  let tag := 4 * c.input + c.range + 1
  if c.start + 1 < nget s.mon.rangeAt (128 * t + c.input) ∨ s.rangeOf (128 * t + c.input) ≠ c.range then fail 1
  else
    let s0 := s.wr MON_SYSCAL_SPREAD.SPREAD spread t
    if 41943 < spread then s0.wr MON_SYSCAL_STATUS.ERROR 2 t
    else if c.step = 1 then
      if 2047 * cnt < raw 1 ∨ total < -1048576 * n ∨ 1048575 * n < total then s0.wr MON_SYSCAL_STATUS.ERROR 3 t
      else
        let s1 := (((s0.wr MON_SYSCAL_RES_FOFF.FOFF (ofS 24 (rndDiv total n)) t).wr MON_SYSCAL_RES_FAST.OFF
          (rndDiv (raw 1) cnt).toNat t).wr MON_SYSCAL_STATUS.DARK_DONE 1 t).wr MON_SYSCAL_STATUS.ERROR 0 t
        { s1 with mon := { s1.mon with darkOk := nset s1.mon.darkOk t tag } }
    else
      let foff := toS 24 (s.rd MON_SYSCAL_RES_FOFF.FOFF t)
      let off := toS 12 (s.rd MON_SYSCAL_RES_FAST.OFF t)
      let df := total - foff * n
      let dr := raw 1 - off * cnt
      if df ≤ 0 ∨ dr ≤ 0 then s0.wr MON_SYSCAL_STATUS.ERROR 4 t
      else
        let fg := rndDiv (c.ref * 2 ^ 22 * n) df
        let g := rndDiv (c.ref * 4095 * cnt) (256 * dr)
        if fg < 0x200000 ∨ 0x800000 < fg ∨ g < 8736 ∨ 34944 < g then s0.wr MON_SYSCAL_STATUS.ERROR 4 t
        else
          let s1 := (((s0.wr MON_SYSCAL_RES_FGAIN.FGAIN fg.toNat t).wr MON_SYSCAL_RES_FAST.GAIN g.toNat t).wr
            MON_SYSCAL_STATUS.REF_DONE 1 t).wr MON_SYSCAL_STATUS.ERROR 0 t
          { s1 with mon := { s1.mon with refOk := nset s1.mon.refOk t tag } }

/-- STEP 3 (R185): the results go to the coefficient words of the last reference step, as host writes. -/
def State.calApply (s : State) (t : Nat) : State :=
  let tag := nget s.mon.refOk t
  if !(s.on MON_SYSCAL_STATUS.DARK_DONE t && s.on MON_SYSCAL_STATUS.REF_DONE t) || tag = 0 then s.wr MON_SYSCAL_STATUS.ERROR 5 t
  else
    let i := (tag - 1) / 4
    let r := (tag - 1) % 4
    ((((s.wrF MON_IN_CF_FAST.GAIN (s.rd MON_SYSCAL_RES_FAST.GAIN t) t i r).wrF MON_IN_CF_FAST.OFF
      (s.rd MON_SYSCAL_RES_FAST.OFF t) t i r).wrF MON_IN_CF_FOFF.FOFF (s.rd MON_SYSCAL_RES_FOFF.FOFF t) t i r).wrF
      MON_IN_CF_FGAIN.FGAIN (s.rd MON_SYSCAL_RES_FGAIN.FGAIN t) t i r).wr MON_SYSCAL_STATUS.ERROR 0 t

/-- The first slot of an input that begins after frame `f` (R174). -/
def slotAfter (input f : Nat) : Nat := nextAt (f + 1) 40000 (4000 * (input % 8))

/-- A step of a tile's calibration engine starts (R184, R185). -/
def State.calStart (s : State) (c : SysCal) : State :=
  let t := c.tile
  if c.step = 3 then s.calApply t
  else
    let s0 := (s.wr MON_SYSCAL_STATUS.INPUT c.input t).wr MON_SYSCAL_STATUS.RANGE c.range t
    let s1 := s0.wr MON_SYSCAL_STATUS.REF_DONE 0 t
    let s2 := if c.step = 1 then s1.wr MON_SYSCAL_STATUS.DARK_DONE 0 t else s1
    let s3 : State := { s2 with mon := { s2.mon with
      refOk := nset s2.mon.refOk t 0, darkOk := if c.step = 1 then nset s2.mon.darkOk t 0 else s2.mon.darkOk } }
    if s.rangeOf (128 * t + c.input) ≠ c.range then s3.wr MON_SYSCAL_STATUS.ERROR 1 t
    else if c.step = 2 ∧ nget s.mon.darkOk t ≠ 4 * c.input + c.range + 1 then s3.wr MON_SYSCAL_STATUS.ERROR 5 t
    else
      let c' : SysCal := { c with ref := s.rd MON_SYSCAL_REF.REF t, start := s.now, since := slotAfter c.input s.now
                                  slots := [], sum := 0, count := 0 }
      let s4 := s3.wr MON_SYSCAL_STATUS.BUSY 1 t
      { s4 with mon := { s4.mon with cal := c' :: s4.mon.cal } }

/-- The step that is latched starts, when none runs (R186). -/
def State.calNext (s : State) (t : Nat) : State :=
  match s.mon.calNext.find? fun c => c.tile == t with
  | none => s
  | some c =>
    let s1 := s.wr MON_SYSCAL_STATUS.PENDING 0 t
    ({ s1 with mon := { s1.mon with calNext := s1.mon.calNext.filter fun x => x.tile != t } } : State).calStart c

/-- The running step of a tile ends, and a latched one starts. -/
def State.calEnd (s : State) (t : Nat) : State :=
  let s1 := s.wr MON_SYSCAL_STATUS.BUSY 0 t
  ({ s1 with mon := { s1.mon with cal := s1.mon.cal.filter fun x => x.tile != t } } : State).calNext t

/-- A write to MON_SYSCAL_CTL (R184 to R186). -/
def State.calWrite (s : State) (tile input range step : Nat) : State :=
  let c : SysCal := { tile := tile, input := input, range := range, step := step, ref := 0, start := 0, since := 0
                      slots := [], sum := 0, count := 0 }
  if s.mon.cal.any fun x => x.tile == tile then
    if s.mon.calNext.any fun x => x.tile == tile then s.wr MON_SYSCAL_STATUS.OVERRUN 1 tile
    else
      let s1 := s.wr MON_SYSCAL_STATUS.PENDING 1 tile
      { s1 with mon := { s1.mon with calNext := c :: s1.mon.calNext } }
  else s.calStart c

/-- SYSCAL_DARK (R184). -/
def execSyscalDark (die : Fin 2) (tile : Fin 8) (input : Fin 128) (range : Fin 4) (s : State) :
    Host.Outcome State Fault Refusal :=
  .next <| s.viaBar0 die (monAddr tile 0x200) fun s => s.calWrite tile input range 1

/-- SYSCAL_REFERENCE (R184). -/
def execSyscalReference (die : Fin 2) (tile : Fin 8) (input : Fin 128) (range : Fin 4) (s : State) :
    Host.Outcome State Fault Refusal :=
  .next <| s.viaBar0 die (monAddr tile 0x200) fun s => s.calWrite tile input range 2

/-- SYSCAL_APPLY (R185). -/
def execSyscalApply (die : Fin 2) (tile : Fin 8) (input : Fin 128) (range : Fin 4) (s : State) :
    Host.Outcome State Fault Refusal :=
  .next <| s.viaBar0 die (monAddr tile 0x200) fun s => s.calWrite tile input range 3

/-- SYSCAL_STEP_DONE (R184): the step of a tile has taken its 50 slots and its 100 ms of fast samples. -/
def execSyscalStepDone (tile : Fin 8) (s : State) : Host.Outcome State Fault Refusal :=
  .next <|
    match s.mon.cal.find? fun c => c.tile == tile.val with
    | none => s
    | some c =>
      if c.slots.length < 50 then s
      else ((s.reach (c.since + 2000000)).calResult c).calEnd tile

/-- A scan of a modulator ends (R174, R177, R193): FMODE of its inputs settles, a block that its mode no longer makes is
dropped, and with FINE_RUN 0 the modulator idles and a running calibration step of its inputs ends. -/
def State.scanEnd (s : State) (tile m : Nat) : State :=
  let run := s.on MON_CTL.FINE_RUN tile
  let ins := (List.range 8).map fun k => 8 * m + k
  let s1 := ins.foldl (fun t i => t.settleF MON_IN_CFG.FMODE tile i) s
  let s2 := ins.foldl (fun t i =>
    let x := 128 * tile + i
    if t.mon.blocks.any fun b => b.mon == x && (!run || t.rd MON_IN_CFG.FMODE tile i != (if b.triggered then 2 else 1)) then
      let t1 := t.wr MON_IN_STATUS.BUSY 0 tile i
      { t1 with mon := { t1.mon with blocks := t1.mon.blocks.filter fun b => b.mon != x, span := adel t1.mon.span x } }
    else t) s1
  let s3 : State := { s2 with mon := { s2.mon with idle := nset s2.mon.idle (16 * tile + m) (b2n !run) } }
  if !run && s3.mon.cal.any (fun c => c.tile == tile && c.input / 8 == m) then
    (s3.wr MON_SYSCAL_STATUS.ERROR 5 tile).calEnd tile
  else s3

/-- The weight of the modulator sample `i` samples back in one output of the sinc3 filter, three boxcars of 50 samples in a row
(R175). -/
def sincWeight (i : Nat) : Nat :=
  let c (n : Nat) : Nat := n * (n - 1) / 2
  c (i + 2) + 3 * c (i - 98) - 3 * c (i - 48)

/-- Sample `j` of a slot of the modulator, at 10 MS/s on the scale of F: a stream that is given short stays at its last value. -/
def modSample (stream : List (BitVec 24)) (j : Nat) : Int :=
  match stream[j]? with
  | some v => v.toInt
  | none => match stream.getLast? with | some v => v.toInt | none => 0

/-- The sinc3 output at 5 × k µs from the slot's start, decimated by 50, in 1/125,000 (R175). -/
def sinc3 (stream : List (BitVec 24)) (k : Nat) : Int :=
  ((List.range 148).map fun i => (sincWeight i : Int) * modSample stream (50 * k - 1 - i)).sum

/-- The filtered value of a slot (R175): the boxcar with gain 1/30 over the 30 sinc3 outputs from 35 µs to 180 µs; those at 25 µs
and 30 µs, and all that the modulator gave in the first 20 µs, are discarded. It is rounded to the nearest whole number
(assumption 93). -/
def slotFilter (stream : List (BitVec 24)) : Int :=
  (((List.range 30).map fun k => sinc3 stream (k + 7)).sum + 1875000) / 3750000

/-- The slot of a modulator's scan that begins at frame `e` takes its coefficients, and a block may start with it; `q` names the
modulator. -/
def State.beginSlot (s : State) (tile modulator e : Nat) : State :=
  let slot := e / 4000 % 10
  if 8 ≤ slot then s
  else
    let s1 := s.settleFine tile (8 * modulator + slot)
    if nget s.mon.idle (16 * tile + modulator) != 0 then s1
    else s1.slotBegin (128 * tile + 8 * modulator + slot) (secIndex e / 40000) e

/-- FINE_SLOT_END (R175, R176, R180): the next slot of a modulator ends, over which the modulator gave `stream`; the next slot
begins. -/
def execFineSlotEnd (tile : Fin 8) (modulator : Fin 16) (stream : List (BitVec 24)) (s : State) :
    Host.Outcome State Fault Refusal :=
  .next <|
    let q := 16 * tile.val + modulator.val
    let e := nextAt (max (max s.now 1) (nget s.mon.slotAt q)) 4000 0
    let slot := (e / 4000 + 9) % 10
    let begun := nget s.mon.slotAt q + 4000 == e + 1
    let s0 := (if begun then s else s.beginSlot tile modulator (e - 4000)).reach e
    let s1 : State := { s0 with mon := { s0.mon with slotAt := nset s0.mon.slotAt q (e + 1) } }
    let z := toS 24 (nget s.mon.zero q)
    let filtered := slotFilter stream
    let (f, ovr) := sat24 (filtered - z)
    let idle := nget s.mon.idle q != 0
    let s2 :=
      if slot < 8 then if idle then s1 else s1.inputSlot (128 * tile + 8 * modulator + slot) e f ovr
      else if slot = 8 then if idle then s1 else s1.refSlot tile modulator e f
      else
        let s3 : State := if idle then s1 else { s1 with mon := { s1.mon with zero := nset s1.mon.zero q (ofS 24 filtered) } }
        s3.scanEnd tile modulator
    (s2.beginSlot tile modulator e).spanBegin (128 * tile + 8 * modulator + (slot + 1) % 10)

/-- A trigger of a monitor that reaches its tile at frame `f` (R178). -/
def State.fineTrigger (s : State) (m f : Nat) : State :=
  if s.eff MON_IN_CFG.FMODE (m / 128) (m % 128) ≠ 2 then s
  else if s.mon.blocks.any fun b => b.mon == m then
    if s.mOn MON_IN_STATUS.PENDING m then s.mWr MON_IN_STATUS.OVERRUN 1 m else s.mWr MON_IN_STATUS.PENDING 1 m
  else if s.mOn MON_IN_STATUS.PENDING m then s.mWr MON_IN_STATUS.OVERRUN 1 m
  else s.startBlock m f

/-- FINE_TRIGGER (R178): a write of ones to a word of MON_FINE_TRIG. -/
def execFineTrigger (die : Fin 2) (tile : Fin 8) (w : Fin 4) (value : Word) (s : State) :
    Host.Outcome State Fault Refusal :=
  .next <| s.viaBar0 die (monAddr tile (0x20 + 4 * w)) fun s =>
    ((List.range 32).filter fun b => bit value.toNat b).foldl (fun t b => t.fineTrigger (128 * tile + 32 * w + b) s.now) s

/-! ### LOSS comparators (R183) -/

/-- The LOSS comparator of a tile's input is armed. -/
def State.lossArmed (s : State) (tile input : Nat) : Bool :=
  s.on MON_IN_CFG.LOSS_EN tile input &&
    match s.gateOfInput tile input with
    | some ch => !(s.heldBlock ch || s.chOn DRV_CH_GATEW.TRIP ch)
    | none => true

/-- The count of frames through which a LOSS comparator is asserted and armed begins, goes on or ends (R183). -/
def State.trackLoss (s : State) (m : Nat) : State :=
  let run := s.mOn MON_IN_STATUS.LOSS_OUT m && s.lossArmed (m / 128) (m % 128)
  let since := nget s.mon.lossAt m
  { s with mon := { s.mon with lossAt := nset s.mon.lossAt m (if !run then 0 else if since = 0 then s.now + 1 else since) } }

/-- A monitor's comparators compare its replica current with their thresholds (R181): an output asserts past its threshold and
releases 10 % beyond it. Their accuracy and delays are not modelled (assumption 94). -/
def State.compare (s : State) (m : Nat) : State :=
  match nget s.mon.replica m with
  | 0 => s
  | i + 1 =>
    let dark := s.mRd MON_IN_DARK.THRESH m
    let loss := s.mRd MON_IN_LOSS.THRESH m
    let s1 := if dark < i then s.mWr MON_IN_STATUS.DARK_OUT 1 m
      else if 10 * i < 9 * dark then s.mWr MON_IN_STATUS.DARK_OUT 0 m else s
    let s2 := if i < loss then s1.mWr MON_IN_STATUS.LOSS_OUT 1 m
      else if 11 * loss < 10 * i then s1.mWr MON_IN_STATUS.LOSS_OUT 0 m else s1
    s2.trackLoss m

/-- DARK_EN of an input that is no guard monitor is set while its DARK comparator is asserted (R182): it trips as it arms. -/
def State.armDark (s : State) (tile input : Nat) : State :=
  if (s.gateOfInput tile input).isNone && s.on MON_IN_CFG.DARK_EN tile input && s.on MON_IN_STATUS.DARK_OUT tile input &&
      !s.guardBit DRV_GUARD_TRIP.TRIP tile input then s.trip tile input else s

/-- LOSS_TRIP (R183): the LOSS comparator stays asserted; once it has been so through QUAL frames while armed, it trips. -/
def execLossTrip (tile : Fin 8) (input : Fin 128) (s : State) : Host.Outcome State Fault Refusal :=
  .next <|
    let m := 128 * tile.val + input.val
    let s0 := (s.wr MON_IN_STATUS.LOSS_OUT 1 tile input).trackLoss m
    if !s.lossArmed tile input || s.on MON_IN_STATUS.LOSS_TRIP tile input then s0
    else
      let s1 := s0.reach (nget s0.mon.lossAt m - 1 + (max 1 (s.rd MON_IN_LOSSQ.QUAL tile input) - 1))
      (((s1.wr MON_IN_STATUS.LOSS_TRIP 1 tile input).tripTrigger tile).occur (384 + 8 + tile)).raise (srcTile tile 3)
      (128 * tile + input)

/-- LOSS_TRIP_CLEAR (R183). -/
def execLossTripClear (die : Fin 2) (tile : Fin 8) (input : Fin 128) (s : State) : Host.Outcome State Fault Refusal :=
  .next <| s.viaBar0 die (inputAddr tile input 0x1C) fun s =>
    if !s.on MON_IN_STATUS.LOSS_TRIP tile input then s
    else if s.on MON_IN_STATUS.LOSS_OUT tile input then s.wr MON_STATUS.CLR_REFUSED 1 tile
    else s.wr MON_IN_STATUS.LOSS_TRIP 0 tile input

/-! ### Capture sequences (R187 to R190) -/

/-- The status field of a capture bank. -/
def bankFld (b : Nat) : Fld := if b = 0 then MON_CAP_STATUS.BANK0 else MON_CAP_STATUS.BANK1

/-- Samples per input of a capture of `n` inputs (R187). -/
def capDepth (n : Nat) : Nat := 4096 / max n 1

/-- The lowest-numbered free bank of a tile starts to fill, under the settings then written; a pending trigger acts (R188,
R189). -/
def State.fillNext (s : State) (t : Nat) : State :=
  if !s.on MON_CAP_CTL.EN t || s.mon.fill.any (fun b => b.tile == t) then s
  else
    match [0, 1].find? fun b => s.rd (bankFld b) t == 0 with
    | none => s
    | some b =>
      let s1 := ((((s.settleF MON_CAP_CTL.COUNT t).settleF MON_CAP_CTL.DECIM t).settleF MON_CAP_PRE.PRE t).settleF
        MON_CAP_LIST0.INPUTS t).settleF MON_CAP_LIST1.INPUTS t
      let n := 2 ^ s1.rd MON_CAP_CTL.COUNT t
      let lists := s1.rd MON_CAP_LIST0.INPUTS t + 2 ^ 32 * s1.rd MON_CAP_LIST1.INPUTS t
      let pend := s.on MON_CAP_STATUS.PENDING t
      let fill : Filling := { tile := t, bank := b, inputs := (List.range n).map fun k => bits lists (8 * k) 7
                              decim := s1.rd MON_CAP_CTL.DECIM t, pre := min (s1.rd MON_CAP_PRE.PRE t) (capDepth n - 1)
                              skip := 0, kept := [], hit := pend, hitAt := 0, trig := none, left := 0 }
      let s2 := (s1.wr (bankFld b) (if pend then 2 else 1) t).wr MON_CAP_STATUS.PENDING 0 t
      { s2 with mon := { s2.mon with fill := fill :: s2.mon.fill } }

/-- CAPTURE_ENABLE (R188). -/
def execCaptureEnable (die : Fin 2) (tile : Fin 8) (value : Bool) (s : State) : Host.Outcome State Fault Refusal :=
  .next <| s.viaBar0 die (monAddr tile 0x300) fun s =>
    let s1 := s.wr MON_CAP_CTL.EN (b2n value) tile
    if value then s1.fillNext tile
    else
      let s2 := (s.mon.fill.filter fun b => b.tile == tile.val).foldl (fun t b => t.wr (bankFld b.bank) 0 tile) s1
      let s3 := s2.wr MON_CAP_STATUS.PENDING 0 tile
      { s3 with mon := { s3.mon with fill := s3.mon.fill.filter fun b => b.tile != tile.val } }

/-- CAPTURE_SW_TRIGGER (R189). -/
def execCaptureSwTrigger (die : Fin 2) (tile : Fin 8) (s : State) : Host.Outcome State Fault Refusal :=
  .next <| s.viaBar0 die (monAddr tile 0x318) fun s => if s.rd MON_CAP_CTL.TRIG tile = 0 then s.capTrigger tile s.now else s

/-- CAPTURE_TIME_ARM (R190): a write to MON_CAP_TIME_HI. -/
def execCaptureTimeArm (die : Fin 2) (tile : Fin 8) (hi : Word) (s : State) : Host.Outcome State Fault Refusal :=
  .next <| s.viaBar0 die (monAddr tile 0x314) fun s =>
    let s1 := s.wr MON_CAP_TIME_HI.TICKS hi.toNat tile
    let t := s.rd MON_CAP_TIME_LO.TICKS tile + 2 ^ 32 * hi.toNat
    if s.rd MON_CAP_CTL.TRIG tile ≠ 2 then s1
    else if s.timeOut t then s1.wr MON_CAP_STATUS.TIME_ERR 1 tile
    else if tickDiff t s.ticks < 0 then (s1.wr MON_CAP_STATUS.LATE 1 tile).capTrigger tile s.now
    else { s1 with mon := { s1.mon with capTime := nset s1.mon.capTime tile (fastAt (s.frameAt t) + 1) } }

/-- CAPTURE_TIME_TRIGGER (R190): the armed time is reached. -/
def execCaptureTimeTrigger (tile : Fin 8) (s : State) : Host.Outcome State Fault Refusal :=
  .next <|
    match nget s.mon.capTime tile with
    | 0 => s
    | f + 1 =>
      let s1 := s.reach f
      let s2 : State := { s1 with mon := { s1.mon with capTime := nset s1.mon.capTime tile 0 } }
      if s2.rd MON_CAP_CTL.TRIG tile = 2 then s2.capTrigger tile f else s2

/-- CAPTURE_BANK_FULL (R188): the bank that records has its last sample; it becomes FULL, and filling moves on. -/
def execCaptureBankFull (tile : Fin 8) (s : State) : Host.Outcome State Fault Refusal :=
  .next <|
    match s.mon.fill.find? fun b => b.tile == tile.val with
    | none => s
    | some b =>
      match b.trig, b.left with
      | some stamp, 0 =>
        let d := capDepth b.inputs.length
        let after := d - 1 - b.pre
        let pv := min b.pre (b.kept.length - 1 - after)
        let data := ((b.kept.take (pv + 1 + after)).reverse).flatten
        let bytes := (data ++ List.replicate (4096 - data.length) 0).flatMap fun w => leBytes 2 w
        let s1 := (((s.wr (bankFld b.bank) 3 tile).wr MON_CAP_STAMP_LO.TICKS stamp tile b.bank).wr MON_CAP_STAMP_HI.TICKS
          (stamp / 2 ^ 32) tile b.bank).wr MON_CAP_INFO.PRE_VALID pv tile b.bank
        let s2 := (s1.storeBytes (monAddr tile (0x20000 + 0x2000 * b.bank)) bytes).occur (384 + 16 + tile)
        ({ s2 with mon := { s2.mon with fill := s2.mon.fill.filter fun x => x.tile != tile.val } } : State).fillNext tile
      | _, _ => s

/-- CAPTURE_RELEASE (R188): a write of ones to MON_CAP_REL. -/
def execCaptureRelease (die : Fin 2) (tile : Fin 8) (value : BitVec 2) (s : State) : Host.Outcome State Fault Refusal :=
  .next <| s.viaBar0 die (monAddr tile 0x320) fun s =>
    ([0, 1].foldl (fun t b => if bit value.toNat b && t.rd (bankFld b) tile == 3 then t.wr (bankFld b) 0 tile else t)
      s).fillNext tile

/-- A capture sample of one input (R187). -/
def capWord (v : FastVal) (trig : Bool) : Nat :=
  v.code % 4096 + 4096 * b2n trig + 8192 * b2n (bit v.flags 2) + 16384 * b2n (bit v.flags 1) + 32768 * b2n (bit v.flags 0)

/-- A filling bank takes a fast sample taken at frame `f` (R187, R188). -/
def capTake (vals : Nat → FastVal) (f : Nat) (b : Filling) : Filling :=
  if b.trig.isSome ∧ b.left = 0 then b
  else if b.skip ≠ 0 then { b with skip := b.skip - 1 }
  else
    let isTrig := b.hit && b.trig.isNone && decide (b.hitAt ≤ f)
    let d := capDepth b.inputs.length
    let w := b.inputs.map fun i => capWord (vals (128 * b.tile + i)) isTrig
    { b with
      skip := b.decim
      kept := (w :: b.kept).take d
      trig := if isTrig then some (ticksOf f) else b.trig
      left := if isTrig then d - 1 - b.pre else b.left - 1 }

/-! ### Fast samples (R171 to R173) -/

/-- The value of a monitor in a sample; an input that no sample has named stands at code 0. -/
def Sample.at (x : Sample) (m : Nat) : FastVal := (aget x.vals m).getD { code := 0, flags := 0, u := 0 }

/-- Sum, count, least and greatest with one more code. -/
def spanAdd (sp : Option (Nat × Nat × Nat × Nat)) (code : Nat) : Nat × Nat × Nat × Nat :=
  match sp with
  | none => (code, 1, code, code)
  | some (a, n, lo, hi) => (a + code, n + 1, min lo code, max hi code)

/-- The samples kept for the windows of R199 and R219. -/
def keptSamples : Nat := 512

/-- A monitor's sample counts in the figures of R191 while a block of it runs, and from the start of its own slot. -/
def State.spans (s : State) (f m : Nat) : Bool :=
  s.eff MON_IN_CFG.FMODE (m / 128) (m % 128) != 0 &&
    ((s.mon.blocks.any fun b => b.mon == m && b.need != 0) || f / 4000 % 10 == m % 8)

/-- FAST_SAMPLE (R171): every input is sampled at the next fast-sample frame; inputs that `raws` does not name stand as
they were. `currents` gives the replica currents that have changed, in units of 10 nA (R181). -/
def execFastSample (raws : List (Fin 1024 × BitVec 12)) (currents : List (Fin 1024 × Word)) (s : State) :
    Host.Outcome State Fault Refusal :=
  .next <|
    let last := match s.samples with | x :: _ => x.frame + 1 | [] => 0
    let s0 := (s.reach (fastAt (max s.now last))).settleFast
    let f := s0.now
    let rs := rawsOf raws
    let old := match s.samples with | x :: _ => x.vals.map (·.1) | [] => []
    let ms := (rs.map (·.1) ++ old).dedup
    let vals := ms.foldl (fun l m => aput l m (s0.fastOf m (s0.rawIn rs m))) ([] : List (Nat × FastVal))
    let s1 := ms.foldl (fun t m => t.setFast m (s0.rawIn rs m) (s0.fastOf m (s0.rawIn rs m))) s0
    let s2 := currents.foldl (fun t c =>
      ({ t with mon := { t.mon with replica := nset t.mon.replica c.1.val (c.2.toNat + 1) } } : State).compare c.1.val) s1
    let s3 := (s0.mon.settle.filter fun c => c.2 ≤ 1).foldl (fun t c => t.mWr MON_IN_STATUS.SETTLING 0 c.1) s2
    let x : Sample := { frame := f, vals := vals, absent := (List.range 8).filter fun t => s.tileLost t, ring := [] }
    let cal := s3.mon.cal.map fun c =>
      if c.since ≤ f ∧ f < c.since + 2000000 then
        { c with sum := c.sum + s3.rawOf (128 * c.tile + c.input), count := c.count + 1 }
      else c
    { s3 with
      samples := (x :: s3.samples).take keptSamples
      mon := { s3.mon with
        settle := (s3.mon.settle.map fun c => (c.1, c.2 - 1)).filter fun c => c.2 != 0
        cal := cal
        fill := s3.mon.fill.map (capTake x.at f)
        span := (ms.filter fun m => s.spans f m).foldl (fun l m => aput l m (spanAdd (aget l m) (x.at m).code)) s3.mon.span } }

end Sys2Proof.Machine
end

