-- ==== Sys2Proof/Machine/Tone.lean ====
section
/-! DEFINITION. The Tone Demodulator (chapter 7): windows, in-phase and quadrature results, and path identity. -/
namespace Sys2Proof.Machine

/-! ### References and windows (R199 to R201) -/

/-- The value that an entry of a history gives for a key at frame `f`, if it changed after that frame: the oldest entry
of the key that is later than `f`. -/
def histAt (h : List (Nat × Nat × Nat)) (key f : Nat) : Option Nat :=
  (h.filter fun x => x.1 == key && decide (f < x.2.1)).getLast?.map fun x => x.2.2

/-- ROT_TRIM and STRIDE, as ROT_TRIM + 256 × STRIDE, that a window of a context starting at frame `f` uses (R212): a write
acts from the context's next window on, which begins at the next Hold boundary while its STRIDE is 0. -/
def State.trimAt (s : State) (c f : Nat) : Nat :=
  let first (x : Nat × Nat × Nat) : Nat := if x.2.2 / 256 = 1 then x.2.1 else nextAt x.2.1 1000 0
  match (s.ton.trims.filter fun x => x.1 == c && decide (f < first x)).getLast? with
  | some x => x.2.2
  | none => s.load (toneAddr c + 22) 1 + 256 * (s.load (toneAddr c + 23) 1 % 2)

/-- ROT of a tone that a window starting at frame `f` uses (R214). -/
def State.rotAt (s : State) (k f : Nat) : Nat := (histAt s.ton.rots k f).getD (s.rd TON_TONE_ROT.ROT k)

/-- The binding of a context at frame `g` (R203). -/
def State.bindingAt (s : State) (c g : Nat) (now : Option (Nat × Nat)) : Option (Nat × Nat) :=
  match (s.ton.hist.filter fun h => h.ctx == c && decide (g < h.until_)).getLast? with
  | some h => h.mon
  | none => now

/-- The reference phase θ of a sample taken at frame `g` (R199). -/
def State.theta (s : State) (c k g start : Nat) : Nat :=
  ((gridInc k * (secIndex g % 1000) : Nat) - (s.rotAt k start * 2 ^ 16 : Nat) - toS 8 (s.trimAt c start % 256) * 2 ^ 20 : Int)
    % 2 ^ 32 |>.toNat

/-- What a window of a context comes to: the sums of R201 and the flags MIXED, SAT, SETTLE and GAP (R202). -/
structure Window where
  si : Int
  sq : Int
  mixed : Bool
  sat : Bool
  settle : Bool
  gap : Bool
  deriving DecidableEq, Repr

/-- A sample of a monitor reached the slice of a tile (R198). -/
def Sample.reached (x : Sample) (mon tile : Nat) : Bool :=
  !x.absent.contains (mon / 128) && (tile == mon / 128 || !x.ring.contains (mon / 128))

/-- The window of context `c`, served by the slice of `tile`, that ends at frame `b` (R200 to R203). `now` is the
context's binding. -/
def State.window (s : State) (c tile b : Nat) (now : Option (Nat × Nat)) : Window :=
  let start := b - 1000
  let xs := s.samples.filter fun x => decide (start ≤ x.frame) && decide (x.frame < b)
  let one (w : Window) (x : Sample) : Window :=
    match s.bindingAt c x.frame now with
    | none => w
    | some (m, k) =>
      let v := x.at m
      let th := s.theta c k x.frame start
      { w with
        si := w.si + v.u * sine th
        sq := w.sq + v.u * sine ((th + 2 ^ 30) % 2 ^ 32)
        sat := w.sat || bit v.flags 0 || bit v.flags 1
        settle := w.settle || bit v.flags 2
        gap := w.gap || !x.reached m tile }
  let mixed := s.ton.hist.any fun h => h.ctx == c && decide (start < h.until_) && decide (h.until_ + 4 ≤ b)
  xs.foldl one { si := 0, sq := 0, mixed := mixed, sat := false, settle := false, gap := decide (xs.length < 250) }

/-- The flags of a context's entry (R211), SEQ left out. -/
def Window.flags (w : Window) : Nat :=
  b2n (!w.gap) + 2 * b2n w.mixed + 4 * b2n w.sat + 8 * b2n w.settle + 16 * b2n w.gap

/-- A context publishes a window that ends at frame `b`, at frame `f` (R201, R202, R213), with GAP where its entry `bad`
could not be read (R402). -/
def State.publishTone (s : State) (c b f : Nat) (bad : Option Nat) (w : Window) : State :=
  let a := toneAddr c
  let w : Window := if bad = some c then { w with gap := true } else w
  let s1 := if w.gap then s.bump TON_CNT_GAP.COUNT
    else (s.store a 4 (ofS 32 (rndDiv w.si 16000))).store (a + 4) 4 (ofS 32 (rndDiv w.sq 16000))
  let seq := (s.load (a + 17) 1 + 1) % 16
  let s2 := (s1.store (a + 8) 8 (ticksOf b)).store (a + 16) 2 (w.flags + 256 * seq)
  s2.recordP 3 c (ticksOf b) f 50 (s2.loadBytes a 8 ++ s2.loadBytes (a + 16) 6 ++ leBytes 34 0)

/-! ### Path identity (R206 to R210) -/

/-- Foreign context `j` of a monitor publishes its window, or stands idle, and goes on to the tone of the window that begins at
frame `b` (R207, R211). -/
def State.publishForeign (s : State) (m j b f : Nat) (bad : Option Nat) : State :=
  let c := 16384 + 4 * m + j
  let s1 := match s.boundTo c with
    | none => s
    | some x => s.publishTone c b f bad (s.window c (m / 128) b (some x))
  let next := s.foreignTone m j b
  if (s.boundTo c).isNone ∧ next.isNone then s1 else s1.pathTune m j next

/-- I² + Q² of a context's entry. -/
def State.power (s : State) (c : Nat) : Int :=
  toS 32 (s.load (toneAddr c) 4) ^ 2 + toS 32 (s.load (toneAddr c + 4) 4) ^ 2

/-- A context's last window carries none of MIXED, SAT, SETTLE and GAP. -/
def State.clean (s : State) (c : Nat) : Bool := s.load (toneAddr c + 16) 1 / 2 % 16 == 0

/-- A failed test of a monitor acts (R210): kind 0 is loss, 1 foreign, with the tone it concerns. -/
def State.pathFail (s : State) (m kind tone : Nat) : State :=
  let f := if kind = 0 then TON_PT_LOSS.LOSS else TON_PT_FOREIGN.FOREIGN
  let s1 := (s.wr f (setBit (s.rd f (m / 32)) (m % 32)) (m / 32)).bump
    (if kind = 0 then TON_CNT_LOSS.COUNT else TON_CNT_FOREIGN.COUNT)
  let s2 := if s.on TON_PT_FIRST.VALID then s1
    else (((s1.wr TON_PT_FIRST.VALID 1).wr TON_PT_FIRST.KIND kind).wr TON_PT_FIRST.TONE tone).wr TON_PT_FIRST.MONITOR m
  (s2.occur (384 + 24 + m / 128)).raise (srcTile (m / 128) (4 + kind)) m

/-- The count of consecutive failing windows of a test whose fault has been raised: above every QUAL (R208). -/
def raisedCount : Nat := 16

/-- A monitor's path check evaluates the window that ends at frame `b`, unless it is suspended or was within the window,
or context 0 is not clean (R208 to R210). -/
def State.evalPath (s : State) (m b : Nat) : State :=
  let c := 16384 + 4 * m
  if s.pathSuspended m || decide (b < nget s.ton.suspended m + 999 && nget s.ton.suspended m ≠ 0) ||
      decide (b < nget s.ton.since m + 999) || !s.clean c then s
  else
    let a := toneAddr c
    let lossBad := decide (s.power c < (s.load (a + 24) 2 : Int) ^ 2)
    let bad := [1, 2, 3].find? fun j => (s.foreignTone m j (b - 1000)).isSome && s.clean (c + j) &&
      decide ((s.load (a + 26) 2 : Int) ^ 2 < s.power (c + j))
    let qual := max 1 (s.rd TON_PT_CFG.QUAL)
    let count (fails : Bool) (n : Nat) : Nat := if !fails then 0 else if n = raisedCount ∨ qual ≤ n + 1 then raisedCount else n + 1
    let nl := count lossBad (nget s.ton.failL m)
    let nf := count bad.isSome (nget s.ton.failF m)
    let s1 : State := { s with ton := { s.ton with
      failL := nset s.ton.failL m nl, failF := nset s.ton.failF m nf
      lastL := nset s.ton.lastL m (b2n lossBad), lastF := nset s.ton.lastF m (b2n bad.isSome) } }
    let s2 := if lossBad || bad.isSome then s1
      else s1.wr TON_PT_CONF.CONF (setBit (s1.rd TON_PT_CONF.CONF (m / 32)) (m % 32)) (m / 32)
    let s3 := if nl = raisedCount ∧ nget s.ton.failL m ≠ raisedCount then s2.pathFail m 0 (s.rd TON_PT_EXPECT.TONE m) else s2
    match bad with
    | some j => if nf = raisedCount ∧ nget s.ton.failF m ≠ raisedCount then s3.pathFail m 1 ((s.foreignTone m j (b - 1000)).getD 0) else s3
    | none => s3

/-- The path contexts of a monitor publish the window that ends at frame `b`, and its path check evaluates it. -/
def State.pathWindow (s : State) (m b : Nat) (bad : Option Nat) : State :=
  if s.tileLost (m / 128) then [0, 1, 2, 3].foldl (fun t j => t.unvalid (16384 + 4 * m + j)) s
  else
    let c := 16384 + 4 * m
    let now := some (m, s.rd TON_PT_EXPECT.TONE m)
    let s1 := s.publishTone c b (b + 1) bad (s.window c (m / 128) b now)
    ([1, 2, 3].foldl (fun t j => t.publishForeign m j b (b + 1) bad) s1).evalPath m b

/-! ### Publication (R200, R202) -/

/-- The element contexts that are bound, with their monitors and tones (R204). -/
def State.boundElems (s : State) : List (Nat × Nat × Nat) :=
  (s.pln.tones.filter fun b => !b.path && s.isElem b.elem).map fun b => (b.elem, b.mon, b.tone)

/-- The next window end at or after frame `f`, of windows every `step` frames that begin after a step of time (R203). -/
def State.windowEnd (s : State) (f step : Nat) : Nat := nextAt (max f (s.ton.epoch + 1000)) step 0

/-- TONE_PUBLISH (R200, R202): the path contexts publish at frame b + 1, or the element contexts at frame b + 2. A
context whose entry cannot be read publishes GAP (R402). -/
def execTonePublish (elements : Bool) (ecc : Option EccHit) (s : State) : Host.Outcome State Fault Refusal :=
  .next <|
    let bad := ecc.map EccHit.item
    let s := s.eccHit ecc (match bad with | some c => if c < 16384 then s.elemTile c else (c - 16384) / 512 | none => 0)
    if elements then
      let b := s.windowEnd (max (s.now - 2) s.ton.doneElem) 200
      let s1 := s.reach (b + 2)
      let s2 : State := { s1 with ton := { s1.ton with doneElem := b + 1 } }
      s2.boundElems.foldl (fun t e =>
        if t.tileLost (t.elemTile e.1) then t.unvalid e.1
        else if s2.trimAt e.1 (b - 1000) / 256 = 1 ∨ b % 1000 = 0 then
          t.publishTone e.1 b (b + 2) bad (s2.window e.1 (t.elemTile e.1) b (some e.2))
        else t) s2
    else
      let b := s.windowEnd (max (s.now - 1) s.ton.donePath) 1000
      let s1 := s.reach (b + 1)
      let s2 : State := { s1 with ton := { s1.ton with donePath := b + 1 } }
      s2.expecting.foldl (fun t m => t.pathWindow m b bad) s2

/-- SAMPLE_RING_GAP (R198): the ring fails to deliver a tile's latest sample. The absence of a lost tile's sample raises
nothing. -/
def execSampleRingGap (tile : Fin 8) (s : State) : Host.Outcome State Fault Refusal :=
  .next <|
    match s.samples with
    | [] => s
    | x :: t =>
      if x.absent.contains tile.val then s
      else
        let s1 : State := { s with samples := { x with ring := tile.val :: x.ring } :: t }
        (s1.wr TON_STATUS.RING_ERR 1).raise (srcTile tile 11) 0

/-- One bit of TON_PT_LOSS or TON_PT_FOREIGN is cleared, unless the monitor's latest evaluated window failed that test
(R210). -/
def State.pathClear (s : State) (foreign : Bool) (m : Nat) : State :=
  let f := if foreign then TON_PT_FOREIGN.FOREIGN else TON_PT_LOSS.LOSS
  if !bit (s.rd f (m / 32)) (m % 32) then s
  else if nget (if foreign then s.ton.lastF else s.ton.lastL) m ≠ 0 then s.wr TON_STATUS.CLR_REFUSED 1
  else s.wr f (clrBit (s.rd f (m / 32)) (m % 32)) (m / 32)

/-- PATH_BIT_CLEAR (R210): a write of ones to a word of TON_PT_LOSS or TON_PT_FOREIGN. -/
def execPathBitClear (die : Fin 2) (foreign : Bool) (w : Fin 32) (value : Word) (s : State) :
    Host.Outcome State Fault Refusal :=
  .next <| s.viaBar0 die ((if foreign then 0x500480 else 0x500400) + 4 * w) fun s =>
    ((List.range 32).filter fun b => bit value.toNat b).foldl (fun t b => t.pathClear foreign (32 * w + b)) s

/-- TON_FIRST_CLR (R214): TON_PT_FIRST is emptied. -/
def execTonFirstClr (die : Fin 2) (s : State) : Host.Outcome State Fault Refusal :=
  .next <| s.viaBar0 die 0x500000 fun s =>
    (((s.wr TON_PT_FIRST.VALID 0).wr TON_PT_FIRST.KIND 0).wr TON_PT_FIRST.TONE 0).wr TON_PT_FIRST.MONITOR 0

/-- A step of time discards the windows in progress (R203): one for a context with STRIDE 0, five with STRIDE 1. `f` is
the first frame of the new time. -/
def State.abandonWindows (s : State) (f : Nat) : State :=
  let elems := (s.boundElems.map fun e => if s.trimAt e.1 s.now / 256 = 1 then 5 else 1).sum
  let paths := (s.expecting.map fun m => s.pathWindows m s.now).sum
  let s1 := s.bump TON_CNT_ABANDON.COUNT (elems + paths)
  let early (l : List (Nat × Nat)) : List (Nat × Nat) := l.map fun c => (c.1, min c.2 (f + 1))
  { s1 with ton := { s1.ton with epoch := f, donePath := f, doneElem := f, hist := [], trims := [], rots := []
                                 since := early s1.ton.since, suspended := early s1.ton.suspended } }

end Sys2Proof.Machine
end

