-- ==== Sys2Proof/Machine/Counters.lean ====
section
/-! DEFINITION. What the loop cores tell the performance counters (R449 to R454): events counted, cycles classified and
samples taken. -/
namespace Sys2Proof.Machine

/-- The event codes of R450 that the model counts. -/
def evCycles : Nat := 0x01
@[inherit_doc evCycles] def evBusy : Nat := 0x02
@[inherit_doc evCycles] def evIdle : Nat := 0x03
@[inherit_doc evCycles] def evInstr : Nat := 0x04
@[inherit_doc evCycles] def evActed : Nat := 0x05
@[inherit_doc evCycles] def evBrTaken : Nat := 0x06
@[inherit_doc evCycles] def evImgRead : Nat := 0x07
@[inherit_doc evCycles] def evImgErr : Nat := 0x09
@[inherit_doc evCycles] def evJobStart : Nat := 0x0A
@[inherit_doc evCycles] def evJobEnd : Nat := 0x0B
@[inherit_doc evCycles] def evJobDiscard : Nat := 0x0C
@[inherit_doc evCycles] def evStealLocal : Nat := 0x0D
@[inherit_doc evCycles] def evStealRemote : Nat := 0x0E
@[inherit_doc evCycles] def evStolen : Nat := 0x0F
@[inherit_doc evCycles] def evPfWait : Nat := 0x10
@[inherit_doc evCycles] def evSatCommit : Nat := 0x11
@[inherit_doc evCycles] def evRdpc : Nat := 0x12
@[inherit_doc evCycles] def evRetired : Nat := 0x18
@[inherit_doc evCycles] def evWasted : Nat := 0x19
@[inherit_doc evCycles] def evFront : Nat := 0x1A
@[inherit_doc evCycles] def evBack : Nat := 0x1B

/-- The events that CLASS_MASK does not gate (R450). -/
def evUnmasked (ev : Nat) : Bool := [0x01, 0x03, 0x0D, 0x0E, 0x0F].contains ev

/-- A programmable counter advances by `n` (R450 to R452): a wrap waits to be taken, or advances the odd counter of a
chained pair. -/
def State.pmcIncr (s : State) (die core k n : Nat) : State :=
  let v := s.rd PMC_CNT.COUNT die core k + n
  let s1 := s.wr PMC_CNT.COUNT v die core k
  if v < 2 ^ 32 then s1
  else if k % 2 = 0 ∧ s.on PMC_EVSEL.CHAIN die core (k + 1) then
    if !s.on PMC_EVSEL.EN die core (k + 1) then s1
    else
    let u := s.rd PMC_CNT.COUNT die core (k + 1) + v / 2 ^ 32
    let s2 := s1.wr PMC_CNT.COUNT u die core (k + 1)
    if u < 2 ^ 32 then s2 else { s2 with pmc := { s2.pmc with wrapped := s2.pmc.wrapped ++ [(die, core, k + 1)] } }
  else { s1 with pmc := { s1.pmc with wrapped := s1.pmc.wrapped ++ [(die, core, k)] } }

/-- An event holds in `n` cycles of a core, in a job of class `cls` if in one; `edge` says whether the first of them
starts a stretch of the condition (R450). -/
def State.pmcAdd (s : State) (die core ev : Nat) (cls : Option Nat) (n : Nat) (edge : Bool := true) : State :=
  if s.on PMC_CTL.FREEZE die || n == 0 then s
  else (List.range 6).foldl (fun t k =>
    let mask := s.rd PMC_EVSEL.CLASS_MASK die core k
    let gate := evUnmasked ev || match cls with | some c => bit mask c | none => mask == 0xF
    let level := decide (ev < 4) || ev == evPfWait || decide (0x18 ≤ ev)
    let count := if level && s.on PMC_EVSEL.EDGE die core k then b2n edge else n
    if s.on PMC_EVSEL.EN die core k && s.rd PMC_EVSEL.EVENT die core k == ev && gate &&
        !(k % 2 == 1 && s.on PMC_EVSEL.CHAIN die core k) && count != 0 then t.pmcIncr die core k count
    else t) s

/-- Cycles that belong to a job on a core fall in one of the slot classes of R453, given by its event; `busy` says whether
the job has been dispatched. -/
def State.pmcSlot (s : State) (die core ev cls n : Nat) (busy : Bool := true) : State :=
  let q := 64 * die + core
  let s0 := s.pmcAdd die core ev (some cls) n (nget s.pmc.cls q != ev + 1)
  let s1 := if busy then s0.pmcAdd die core evBusy (some cls) n (nget s.pmc.cls q == 0 || nget s.pmc.cls q == evFront + 1)
    else s0
  { s1 with pmc := { s1.pmc with job := nset s1.pmc.job q (nget s1.pmc.job q + n), cls := nset s1.pmc.cls q (ev + 1) } }

/-- The cycles of a core that have passed since they were last counted are counted (R449, R453): those no job took are
idle and front-starved. A gated core counts nothing (R462). -/
def State.pmcAccrue (s : State) (die core : Nat) : State :=
  let q := 64 * die + core
  if nget s.pmc.since q = 0 then { s with pmc := { s.pmc with at_ := nset s.pmc.at_ q (s.now + 1) } } else
  let total := 30 * (s.now - (nget s.pmc.at_ q - 1))
  let idle := total - nget s.pmc.job q
  let s1 := ((s.pmcAdd die core evCycles none total).pmcAdd die core evIdle none idle).pmcAdd die core evFront none idle
  { s1 with pmc := { s1.pmc with at_ := nset s1.pmc.at_ q (s.now + 1), job := nset s1.pmc.job q 0 } }

/-- PMC_CYC of a core at the start of the current frame (R449). -/
def State.pmcCyc (s : State) (die core : Nat) : Nat :=
  let q := 64 * die + core
  nget s.pmc.base q + (if nget s.pmc.since q = 0 then 0 else 30 * (s.now + 1 - nget s.pmc.since q))

/-! ### Clock domains (R472 to R475) -/

/-- The on-demand domains of a die (R472). -/
def onDemand : List Nat := [0, 1, 2, 3, 4, 5, 6, 7, 17, 19, 20]

/-- An on-demand domain of a die has work queued or running (R474): jobs for a loop cluster, commits, loads and
validation for the Plan Engine, a firmware image for the Security Unit, and flash writes. -/
def State.domainBusy (s : State) (die dom : Nat) : Bool :=
  if dom < 8 then (s.lpa.jobs.any fun j => j.die == die && j.core / 8 == dom) ||
    s.lpa.runs.any fun r => r.job.die == die && r.job.core / 8 == dom
  else if dom = 17 then s.pln.cycle.isSome || !s.pln.loads.isEmpty || s.on PLN_FMAP_STATUS.BUSY ||
    s.orb.reqs.any fun r => decide (r.prep ≤ s.now + 400)
  else if dom = 19 then s.sec.fwWrite.isSome
  else s.sec.fwWrite.isSome || !s.cal.toLog.isEmpty

/-- The cycle counters of a cluster's cores stop, or run on (R449). -/
def State.coreClock (s : State) (die cluster : Nat) (run : Bool) : State :=
  (List.range 8).foldl (fun t i =>
    let c := 8 * cluster + i
    let q := 64 * die + c
    let u := t.pmcAccrue die c
    { u with pmc := { u.pmc with
        base := nset u.pmc.base q (t.pmcCyc die c)
        since := nset u.pmc.since q (if run then s.now + 1 else 0) } }) s

/-- A domain is gated: its PLL stops (R472). -/
def State.gateOff (s : State) (die dom : Nat) : State :=
  let s1 := if dom < 8 then s.coreClock die dom false else s
  (s1.wr PWR_CLK_GATED.GATED (setBit (s.rd PWR_CLK_GATED.GATED die) dom) die).wr PWR_CLK_LOCK.LOCK
    (clrBit (s.rd PWR_CLK_LOCK.LOCK die) dom) die

/-- In Dusk every on-demand domain without work is gated, unless it has just been restarted for its work (R473, R474). -/
def State.regate (s : State) : State :=
  if !s.on PWR_STATUS.DUSK then s
  else
    [0, 1].foldl (fun t d => onDemand.foldl (fun u dom =>
      if u.gated d dom || u.domainBusy d dom || decide (u.now < nget u.pwr.clocks (32 * d + dom)) then u
      else u.gateOff d dom) t) s

/-- A gated domain restarts (R474). -/
def State.restart (s : State) (die dom : Nat) : State :=
  if !s.gated die dom then s
  else (if dom < 8 then s.coreClock die dom true else s).clockOn die dom

/-- Every gated domain of a die restarts. -/
def State.restartAll (s : State) (die : Nat) : State := onDemand.foldl (fun t dom => t.restart die dom) s

/-- An event of a sampler's kind on a core (R454, R455). `word`, `addr`, `off` (guarded off), `discard` and `latency`
describe the event. -/
def State.pmcEvent (s : State) (kind : Nat) (j : Job) (word addr : Nat) (off discard : Bool) (latency : Nat) : State :=
  let cl := j.core / 8
  let q := 8 * j.die + cl
  let cfg := match nget s.pmc.cfg q with
    | 0 => s.rd PMC_SMP_CFG.KIND j.die cl + 4 * s.rd PMC_SMP_CFG.INTERVAL j.die cl
    | c + 1 => c
  if !s.on PMC_SMP_CFG.EN j.die cl || s.on PMC_CTL.FREEZE j.die || cfg % 4 != kind ||
      !bit (s.rd PMC_SMP_CFG.CORES j.die cl) (j.core % 8) then s
  else
    let n := nget s.pmc.count q + 1
    if n < max 1 (cfg / 4) then { s with pmc := { s.pmc with count := nset s.pmc.count q n, cfg := nset s.pmc.cfg q (cfg + 1) } }
    else
      let whre := addr % 2 ^ 18 + 2 ^ 18 * (j.core % 8) + 2 ^ 21 * kind + 2 ^ 23 * b2n off + 2 ^ 24 * j.stolen + 2 ^ 26 * j.cls +
        2 ^ 28 * b2n discard
      let e := leBytes 4 word ++ leBytes 4 whre ++ leBytes 2 j.ctx ++ leBytes 2 (min latency 0xFFFF) ++ leBytes 4 s.now
      let x : Smp := { die := j.die, core := j.core, ctx := j.ctx, stamp := s.ticks, entry := e }
      { s with pmc := { s.pmc with
          count := nset s.pmc.count q 0
          cfg := nset s.pmc.cfg q (s.rd PMC_SMP_CFG.KIND j.die cl + 4 * s.rd PMC_SMP_CFG.INTERVAL j.die cl + 1)
          due := s.pmc.due ++ [x] } }

end Sys2Proof.Machine
end

