-- ==== Sys2Proof/Machine/Loops.lean ====
section
/-! DEFINITION. The Loop Array (chapter 8): classes, the Period Scheduler, publication, the Output Combiner and the loop
context table. -/
namespace Sys2Proof.Machine

/-! ### Classes (R218, R222, R223) -/

/-- The period of a class, and the frames from phase 0 to the output's apply frame (R218). -/
def classPeriod (cls : Nat) : Nat := ([40, 200, 1000, 20000][cls]?).getD 40
@[inherit_doc classPeriod] def classApply (cls : Nat) : Nat := ([70, 320, 1600, 30000][cls]?).getD 70

/-- The first phase 0 of a class at or after a frame (R218). -/
def phase0 (cls f : Nat) : Nat := nextAt f (classPeriod cls) 2

/-- The index of the period that starts at phase 0 `S` within its second (R217). -/
def periodIndex (cls S : Nat) : Nat := secIndex S / classPeriod cls

/-- A die takes part in the lockstep or holds the tiles: its role is ACTIVE or STANDBY (R377). -/
def State.dieRuns (s : State) (d : Nat) : Bool := s.rd LKS_STATUS.ROLE d != 0

/-- The three contexts of a channel. -/
def slots (ch : Nat) : List Nat := [3 * ch, 3 * ch + 1, 3 * ch + 2]

/-- A channel's loops run in a class. -/
def State.runsIn (s : State) (ch cls : Nat) : Bool := s.chClass ch == cls && !s.chPaused ch

/-- The channels in a class (R242). -/
def State.classCount (s : State) (cls : Nat) : Nat := (s.loopChannels.filter fun ch => s.runsIn ch cls).length

/-- The positions of a class that are taken (R223): a channel keeps its own until the change that takes it away acts, and has one
in the class it is on its way to. -/
def State.inClass (s : State) (cls : Nat) : Nat :=
  s.classCount cls + (s.lpa.changes.filter fun c => c.cls == cls && !s.runsIn c.ch cls).length

/-- The most channels a class holds (R223). -/
def State.classCap (s : State) (cls : Nat) : Option Nat :=
  if cls = 0 then some (s.rd LPA_CAPS.SETTLE_CAP) else if cls = 1 then some (s.rd LPA_CAPS.TRACK_CAP) else none

/-- The class is full. -/
def State.classFull (s : State) (cls : Nat) : Bool :=
  match s.classCap cls with | some n => decide (n ≤ s.inClass cls) | none => false

/-- A channel joins the wait list of Settle or Track for an event at frame `at_`, or leaves it, and shows it: the list is in the
order of the events' frames and then of the channels (R223). -/
def State.setWait (s : State) (cls ch : Nat) (v : Bool) (at_ : Nat := s.now) : State :=
  let b := 2 + cls
  let s0 := s.setCclass ch (if v then setBit (s.cclass ch) b else clrBit (s.cclass ch) b)
  let s1 : State := if v then { s0 with lpa := { s0.lpa with waitAt := nset s0.lpa.waitAt ch (at_ + 1) } } else s0
  let key := nget s1.lpa.waitAt
  let upd (l : List Nat) : List Nat :=
    let rest := l.filter fun x => x != ch
    if v then sortBy (fun a b => decide (key a < key b) || key a == key b && decide (a ≤ b)) (ch :: rest) else rest
  if cls = 0 then { s1 with lpa := { s1.lpa with swait := upd s1.lpa.swait } }
  else if cls = 1 then { s1 with lpa := { s1.lpa with twait := upd s1.lpa.twait } }
  else s

/-- A channel is sent to a class at the current frame (R222, R223): a full class leaves it in Hold, waiting. -/
def State.sendTo (s : State) (ch cls : Nat) : State :=
  let (cls, s) := s.duskClass ch cls
  let s0 : State := { s with lpa := { s.lpa with changes := s.lpa.changes.filter fun c => c.ch != ch } }
  let s1 := (s0.setWait 0 ch false).setWait 1 ch false
  let full := s1.classFull cls
  let s2 := if full then s1.setWait cls ch true else s1
  let dst := if full then 2 else cls
  if s.chClass ch = dst ∧ !s.chPaused ch then s2
  else { s2 with lpa := { s2.lpa with changes := { ch := ch, cls := dst, after := s.now } :: s2.lpa.changes } }

/-- The heads of the wait lists enter their classes while there is room (R223). -/
def State.promote (s : State) : State :=
  let one (t : State) (cls : Nat) : State :=
    match if cls = 0 then t.lpa.swait else t.lpa.twait with
    | [] => t
    | ch :: _ =>
      if t.classFull cls then t
      else
        let t1 := t.setWait cls ch false
        let w : ClassWait := { ch := ch, cls := cls, after := t.now }
        { t1 with lpa := { t1.lpa with changes := w :: t1.lpa.changes.filter fun c => c.ch != ch } }
  one (one s 0) 1

/-- A channel enters a class at phase 0 `f`: its count of periods starts again. -/
def State.enterClass (s : State) (ch cls f : Nat) : State :=
  let s1 := s.setCclass ch (s.cclass ch / 4 * 4 + cls % 4)
  { s1 with lpa := { s1.lpa with ran := nset s1.lpa.ran ch 0, since := nset s1.lpa.since ch (f + 1) } }

/-- A context resumes (R229): it runs again with no overruns, and slot 0 from the live target. A lost tile keeps it lost. -/
def State.resumeOne (s : State) (x : Nat) : State :=
  if !(s.ctxState x == 2 || s.ctxState x == 4) then s
  else if s.tileLost (x / 3 / 2048) then s.setCtxState x 4
  else
    let s1 := (s.setCtxState x 1).store (ctxAddr x + 10) 1 0
    if x % 3 = 0 then s1.store (ctxAddr x + 4) 2 (s.liveTarget (x / 3)) else s1

/-- A channel's loops resume in a class at phase 0 `f` (R104, R229). -/
def State.resumeIn (s : State) (ch cls f : Nat) : State :=
  let s0 : State := { s with lpa := { s.lpa with resume := s.lpa.resume.filter fun x => x.ch != ch } }
  let s1 := (s0.setCclass ch (clrBit (s0.cclass ch) 4)).enterClass ch cls f
  let s2 := ((slots ch).filter fun x => s1.follows x).foldl State.resumeOne s1
  { s2 with lpa := { s2.lpa with fresh := ch :: s2.lpa.fresh.filter fun c => c != ch } }

/-- CLASS_CHANGE (R222): a channel's change takes effect at its first phase 0 of the new class; unsent outputs of the old
class are discarded and counted. A channel that was to resume in Hold, waiting, resumes in the class it enters (R223). -/
def execClassChange (ch : Fin 16384) (s : State) : Host.Outcome State Fault Refusal :=
  .next <|
    match s.lpa.changes.find? fun c => c.ch == ch.val with
    | none => s
    | some c =>
      let f := phase0 c.cls (max s.now c.after)
      let s0 := s.reach f
      let old (o : OutWrite) : Bool := o.ch == ch.val && o.cls != c.cls
      let s1 := s0.bump LPA_CNT_DISCARD.COUNT (s0.lpa.outs.filter old).length
      let s2 : State := { s1 with lpa := { s1.lpa with
        outs := s1.lpa.outs.filter fun o => !old o, changes := s1.lpa.changes.filter fun x => x.ch != ch.val } }
      (if s2.lpa.resume.any fun r => r.ch == ch.val then s2.resumeIn ch c.cls f else s2.enterClass ch c.cls f).promote

/-! ### The input image (R219) -/

/-- The contexts with an entry that is not as after reset, rising. -/
def State.allCtx (s : State) : List Nat := s.listed ctxBase 64 49152

/-- The element of a channel has a tone binding (R216). -/
def State.toneBound (s : State) (ch : Nat) : Option ToneBind :=
  (s.elemAt ch).bind fun e => s.pln.tones.find? fun b => b.elem == e && !b.path

/-- The identity of a channel now (R249). -/
def State.identOf (s : State) (ch : Nat) : Ident :=
  let e := s.elemAt ch
  { cls := s.chClass ch, elem := e, current := (match e with | some y => (s.elem y).current | none => false)
    zone := (match e with | some y => (s.elem y).zone | none => 0), mon := (s.toneBound ch).map ToneBind.mon }

/-- The channels that are bound or have a loop context. -/
def State.imageChans (s : State) : List Nat :=
  ((s.allCtx.map fun x => x / 3) ++ s.validElems.map fun e => (s.elem e).channel).dedup

/-- The input image latched at frame `f`. -/
def State.latch (s : State) (f : Nat) : Image :=
  let sample := s.samples.find? fun x => decide (x.frame + 6 ≤ f)
  let tones := s.listed toneBase 32 20480
  let chans := s.imageChans
  { frame := f
    fast := match sample with | some x => x.vals | none => []
    tone := tones.map fun c => (c, (s.load (toneAddr c) 4, s.load (toneAddr c + 4) 4, s.load (toneAddr c + 16) 2))
    fine := ((List.range 1024).map fun m => (m, s.mRd MON_IN_FINE.VALUE m)).filter fun c => c.2 != 0
    temp := ((List.range 72).map fun z => (z, s.rd CAL_TEMP.TEMP z)).filter fun c => c.2 != 0
    ivhv := (List.range 8).map fun t => (t, s.rd DRV_IVHV.IMEAN t)
    factor := (List.range 8).map fun t => (t, s.rd DRV_FOLD_STATUS.FACTOR t)
    target := s.pln.live.map fun e => (e.1, e.2.target)
    pred := chans.map fun ch => (ch, s.pred ch)
    out := chans.map fun ch => (ch, s.load (ctxAddr (3 * ch) + 56) 2)
    ident := chans.map fun ch => (ch, s.identOf ch) }

/-- The image of a class. -/
def State.image (s : State) (cls : Nat) : Image :=
  (aget s.lpa.images cls).getD { frame := 0, fast := [], tone := [], fine := [], temp := [], ivhv := [], factor := []
                                 target := [], pred := [], out := [], ident := [] }

/-! ### Release (R217, R224, R227, R229) -/

/-- DIV of a context: 1, 2, 4 or 8 (R217). -/
def State.ctxDiv (s : State) (x : Nat) : Nat := 2 ^ bits (s.load (ctxAddr x + 2) 1) 3 2

/-- The cycles a context's program takes at worst, as its entry holds them. -/
def State.ctxWcet (s : State) (x : Nat) : Nat := s.load (ctxAddr x + 8) 2

/-- The home core of a context (R215). -/
def homeCore (x : Nat) : Nat := 8 * (x / 3 / 2048) + x / 3 % 2048 / 256

/-- A context is due in the period of a class that starts at `S` (R217). -/
def State.dueIn (s : State) (x cls S : Nat) : Bool :=
  s.ctxState x == 1 &&
    if s.follows x then s.chClass (x / 3) == cls && !s.chPaused (x / 3)
    else s.ownClass x == cls && periodIndex cls S % s.ctxDiv x == x / 3 % s.ctxDiv x

/-- A slot-0 job of a tone-bound channel is skipped in a class's period (R227). -/
def State.skips (s : State) (x cls : Nat) : Bool :=
  x % 3 == 0 && match s.toneBound (x / 3) with
    | some b => match aget (s.image cls).tone b.elem with
      | some (_, _, f) => f % 32 != 1
      | none => true
    | none => false

/-- PFLAGS of a context. -/
def State.pflags (s : State) (x : Nat) : Nat := s.load (ctxAddr x + 11) 1
@[inherit_doc State.pflags] def State.setPflags (s : State) (x v : Nat) : State := s.store (ctxAddr x + 11) 1 v

/-- Word `k` of a context as a die holds it (R256). -/
def State.ctxK (s : State) (die x k : Nat) : Nat :=
  match (if die = 1 then nget s.lpa.probeK (8 * x + k) else 0) with
  | 0 => s.load (ctxAddr x + 24 + 4 * k) 4
  | v + 1 => v

/-- Word `k` of a context takes a value on a die. The dies hold the words of a probe context apart (R256). -/
def State.setCtxK (s : State) (die x k v : Nat) (apart : Bool) : State :=
  if !apart then s.store (ctxAddr x + 24 + 4 * k) 4 v
  else
    let b := if die = 1 then v else s.ctxK 1 x k
    let s1 : State := { s with lpa := { s.lpa with probeK := nset s.lpa.probeK (8 * x + k) (b + 1) } }
    if die = 1 then s1 else s1.store (ctxAddr x + 24 + 4 * k) 4 v

/-- Host values of context words that wait come into force at a context's release (R236). -/
def State.settleK (s : State) (x : Nat) : State :=
  (List.range 8).foldl (fun t k => match nget t.lpa.hostK (8 * x + k) with
    | 0 => t
    | v + 1 =>
      let t1 := t.store (ctxAddr x + 24 + 4 * k) 4 v
      { t1 with lpa := { t1.lpa with hostK := nset t1.lpa.hostK (8 * x + k) 0, probeK := nset t1.lpa.probeK (8 * x + k) 0 } }) s

/-- The loops that resume at phase 0 `f` of a class, those of the earlier event and the lower channel first (R104, R222, R223,
R229). A full class leaves the channel to resume in Hold, waiting. -/
def State.resumeAt (s : State) (cls f : Nat) : State :=
  let due := sortBy (fun a b => decide (a.after < b.after) || a.after == b.after && decide (a.ch ≤ b.ch))
    (s.lpa.resume.filter fun r => r.cls == cls && decide (r.after < f))
  let one (t : State) (r : ClassWait) : State :=
    if t.classFull cls then
      let t1 := t.setWait cls r.ch true r.after
      { t1 with lpa := { t1.lpa with resume := { r with cls := 2 } :: t1.lpa.resume.filter fun x => x.ch != r.ch } }
    else t.resumeIn r.ch cls f
  let s1 := due.foldl one s
  let fixed := s1.lpa.resumeCtx.filter fun r => s1.ownClass r.1 == cls && decide (r.2 < f)
  let s2 := fixed.foldl (fun t r => t.resumeOne r.1) s1
  { s2 with lpa := { s2.lpa with resumeCtx := s2.lpa.resumeCtx.filter fun r => !fixed.contains r } }

/-- The order of a core's queue: class, then context (R224). -/
def jobBefore (a b : Job) : Bool := decide (a.cls < b.cls) || a.cls == b.cls && decide (a.ctx ≤ b.ctx)

/-- A context activated waits for a phase 0 of its class after a frame (R237): it does not run yet. -/
def State.notBegun (s : State) (x : Nat) : Bool := s.lpa.begun.any fun b => b.1 == x

/-- The contexts of a class that were activated before phase 0 `f` begin (R237). -/
def State.beginCtxs (s : State) (cls f : Nat) : State :=
  let starts (b : Nat × Nat) : Bool := decide (b.2 < f) &&
    if s.follows b.1 then s.runsIn (b.1 / 3) cls else s.ownClass b.1 == cls
  { s with lpa := { s.lpa with begun := s.lpa.begun.filter fun b => !starts b } }

/-- PERIOD_RELEASE (R219, R224): at a class's phase 0 the image latches, loops resume, and the contexts due are queued on
their home cores of each die that runs, with the context words as they stand there. -/
def execPeriodRelease (cls : Fin 4) (s : State) : Host.Outcome State Fault Refusal :=
  .next <|
    let c := cls.val
    let f := phase0 c (max s.now (match aget s.lpa.images c with | some i => i.frame + 1 | none => 0))
    let s0 := (s.reach f).occur (452 + c)
    let en := s0.on LPA_CTL.ENABLE
    let t := s0.resumeAt c f
    let s1 : State := { t with lpa := { t.lpa with images := aput t.lpa.images c (t.latch f), on := nset t.lpa.on c (b2n en) } }
    let s2 := (s1.beginCtxs c f).wr LPA_STATUS.ENABLED (b2n (s1.lpa.on.length != 0))
    if !en then s2
    else
      let due := s2.allCtx.filter fun x => s2.dueIn x c f && !s2.notBegun x
      let skip := due.filter fun x => s2.skips x c
      let run := due.filter fun x => !s2.skips x c
      let s3 := (due.foldl State.settleK s2).bump LPA_CNT_SKIP.COUNT skip.length
      let jobs := ([0, 1].filter s.dieRuns).flatMap fun d => run.map fun x =>
        { die := d, core := homeCore x, ctx := x, cls := c, s := f, wcet := s3.ctxWcet x, filled := false, stolen := 0
          k := (List.range 8).map fun k => s3.ctxK d x k : Job }
      ({ s3 with lpa := { s3.lpa with
          jobs := s3.lpa.jobs ++ jobs, skipped := s3.lpa.skipped ++ skip.map fun x => (x, f + classPeriod c) } } : State).promote

/-! ### Queues and cores (R224, R225, R228, R244, R428) -/

/-- The queue of a core, head first. -/
def State.coreQueue (s : State) (die core : Nat) : List Job :=
  sortBy jobBefore (s.lpa.jobs.filter fun j => j.die == die && j.core == core)

/-- The remaining work of a core (R225). -/
def State.coreWork (s : State) (die core : Nat) : Nat := ((s.coreQueue die core).map fun j => j.wcet).sum

/-- The job that runs on a core. -/
def State.running (s : State) (die core : Nat) : Option Run :=
  s.lpa.runs.find? fun r => r.job.die == die && r.job.core == core

/-- The state with the job that runs on its core replaced. -/
def State.setRun (s : State) (r : Run) : State :=
  { s with lpa := { s.lpa with runs := s.lpa.runs.map fun x =>
    if x.job.die == r.job.die && x.job.core == r.job.core then r else x } }

/-- The first of a list with the greatest value of `v` above 0. -/
def mostWork (v : Nat → Nat) (l : List Nat) : Option Nat :=
  (l.foldl (fun b x => if (match b with | some y => v y | none => 0) < v x then some x else b) none)

/-- The victim from which a core of a die steals (R225), and whether it is of another cluster. -/
def State.victim (s : State) (die core : Nat) : Option (Nat × Bool) :=
  let cl := core / 8
  let cores (k : Nat) : List Nat := (List.range 8).map fun i => 8 * k + i
  let work := s.coreWork die
  let cw (k : Nat) : Nat := ((cores k).map work).sum
  match mostWork work ((cores cl).filter fun c => c != core) with
  | some v => some (v, false)
  | none =>
    let at_ (d : Nat) : Option Nat :=
      mostWork cw ((List.range 8).filter fun k => k == (cl + d) % 8 || k == (cl + 8 - d) % 8)
    ((([1, 2, 3, 4].findSome? at_).bind fun k => mostWork work (cores k)).map fun v => (v, true))

/-- JOB_STEAL (R225): an idle core whose queue is empty takes the job at the tail of its victim's queue. -/
def execJobSteal (die : Fin 2) (core : Fin 64) (s : State) : Host.Outcome State Fault Refusal :=
  .next <|
    if (s.running die core).isSome || !(s.coreQueue die core).isEmpty then s
    else
      match s.victim die core with
      | none => s
      | some (v, far) =>
        match (s.coreQueue die v).getLast? with
        | none => s
        | some j =>
          let j' : Job := { j with core := core, stolen := if far then 2 else 1, filled := false }
          let s1 : State := { s with lpa := { s.lpa with jobs := s.lpa.jobs.map fun x => if x == j then j' else x } }
          let s2 := if s.isActive die then
              s1.bump (if far then LPA_CNT_STEAL_REMOTE.COUNT else LPA_CNT_STEAL_LOCAL.COUNT) else s1
          ((s2.pmcAdd die core (if far then evStealRemote else evStealLocal) none 1).pmcAdd die v evStolen none 1).pmcSlot die
            core evFront j.cls (if far then 8 else 2) false

/-- The wait for its prefetch of a job at the head of the queue of a core with nothing to run (R428, R453): its length in
cycles, at most those since the job's period began, is a free value (assumption 1). -/
def State.prefetchWait (s : State) (die core : Nat) (j : Job) : State :=
  if (s.running die core).isSome || (s.coreQueue die core).head? != some j then s
  else
    let x := s.draw 32
    let n := x.1 % (30 * (s.now - j.s) + 1)
    ((x.2.bump BMX_CNT_PF_WAIT.COUNT n die).pmcAdd die core evPfWait (some j.cls) n).pmcSlot die core evFront j.cls n false

/-- PREFETCH_FILL (R428): the prefetch of the first job of a core's queue that lacks it completes. -/
def execPrefetchFill (die : Fin 2) (core : Fin 64) (s : State) : Host.Outcome State Fault Refusal :=
  .next <|
    match (s.coreQueue die core).find? fun j => !j.filled with
    | none => s
    | some j =>
      let s1 := s.prefetchWait die core j
      { s1 with lpa := { s1.lpa with jobs := s1.lpa.jobs.map fun x => if x == j then { j with filled := true } else x } }

/-- A program's directory entry (R260). -/
def progAddr (p : Nat) : Nat := progBase + 16 * p
@[inherit_doc progAddr] def State.isProbe (s : State) (p : Nat) : Bool := bit (s.load (progAddr p + 7) 1) 2

/-- The program of a context. -/
def State.ctxProg (s : State) (x : Nat) : Nat := s.load (ctxAddr x) 2 % 4096

/-- START, LENGTH and STATE of a program (R260). -/
def State.progStart (s : State) (p : Nat) : Nat := s.load (progAddr p) 4 % 2 ^ 18
@[inherit_doc State.progStart] def State.progLen (s : State) (p : Nat) : Nat := s.load (progAddr p + 4) 2 % 2 ^ 11
@[inherit_doc State.progStart] def State.progValid (s : State) (p : Nat) : Bool := s.load (progAddr p + 7) 1 % 4 == 1

/-- A word of the program store, by its address in memory group 4 (R399), is the directory entry or a code word of a program. -/
def State.progHas (s : State) (p w : Nat) : Bool :=
  w / 2 == p || decide (8192 + s.progStart p / 2 ≤ w) && decide (2 * (w - 8192) < s.progStart p + s.progLen p)

/-- The word of its program that a job of a context meets on a die and that cannot be read (R265). -/
def State.badWord (s : State) (die x : Nat) : Option Nat :=
  (s.mig.bad.find? fun b => b.1 == die && s.progHas (s.ctxProg x) b.2).map Prod.snd

/-- A word of the program store of a die keeps its error until it is written or scrubbed (R265, R402). -/
def State.spoil (s : State) (die w : Nat) : State :=
  { s with mig := { s.mig with bad := (die, w) :: s.mig.bad.filter fun b => b != (die, w) } }

/-- The words of the program store that satisfy `p` can be read again. -/
def State.unspoil (s : State) (p : Nat → Bool) : State :=
  { s with mig := { s.mig with bad := s.mig.bad.filter fun b => !p b.2 } }

/-- JOB_DISPATCH (R224, R244, R245): a core with no job in progress starts the job at the head of its queue, once its
prefetch is complete (R428). A word of its context, program or image that cannot be read stops it: it publishes nothing
and overruns (R265, R402); a word of the program store stays so for the jobs that follow. -/
def execJobDispatch (die : Fin 2) (core : Fin 64) (ecc : Option EccHit) (s : State) : Host.Outcome State Fault Refusal :=
  .next <|
    match s.running die core, s.coreQueue die core with
    | none, j :: _ =>
      if !j.filled then s
      else
        let s := s.restart die (core / 8)
        let r : Run := { job := j, pc := 0, v := List.replicate 16 0, p := [true, false, false, false], k := [], cand := none
                         done := false, sat := false, cycles := 9, snap := none, fin := false }
        let gone : Run := { r with pc := 0xFFFF }
        let hit : Option (Nat × Nat) := match ecc, s.badWord die j.ctx with
          | some e, _ => some (e.group, e.addr.toNat)
          | none, some w => some (4, w)
          | none, none => none
        let s1 : State := match hit with
          | some (g, w) =>
            let u := if g = 4 then s.spoil die w else s
            let t := (u.uncorrectable die g 0 w).pmcAdd die core evJobDiscard (some j.cls) 1
            { t with lpa := { t.lpa with jobs := t.lpa.jobs.filter fun x => x != j, ended := gone :: t.lpa.ended } }
          | none => { s with lpa := { s.lpa with jobs := s.lpa.jobs.filter fun x => x != j, runs := r :: s.lpa.runs } }
        ((s1.pmcAdd die core evJobStart (some j.cls) 1).pmcSlot die core evFront j.cls 1).pmcSlot die core evBack j.cls 6
    | _, _ => s

/-- JOB_WCET_STOP (R232): a job that a fault carries past its WCET is stopped; its results are discarded and its core
raises the loop core fault of its die. -/
def execJobWcetStop (die : Fin 2) (core : Fin 64) (s : State) : Host.Outcome State Fault Refusal :=
  .next <|
    match s.running die core with
    | none => s
    | some r =>
      let s1 : State := { s with lpa := { s.lpa with runs := s.lpa.runs.filter fun x => x != r
                                                     ended := { r with done := false, cand := none, pc := 0xFFFF } :: s.lpa.ended } }
      let s2 := ((s1.pmcAdd die core evJobDiscard (some r.job.cls) 1).pmcEvent 2 r.job 0 0 false true r.cycles)
      (s2.wr LPA_CORE_STATUS.FAULT 1 core).raise (srcDie die 0) core die

/-! ### Publication (R220, R230, R231) -/

/-- A context goes to OPEN_LOOP (R231). -/
def State.openLoop (s : State) (x : Nat) : State :=
  (s.setCtxState x 3).wr LPA_OPEN_LOOP.OPEN (setBit (s.rd LPA_OPEN_LOOP.OPEN (x / 32)) (x % 32)) (x / 32)

/-- K0 to K7 of a context as software reads them (R235, R236): a host value that waits, or the active die's word. -/
def State.shownK (s : State) (x : Nat) : List Byte :=
  (List.range 8).flatMap fun k => leBytes 4 (match nget s.lpa.hostK (8 * x + k) with | 0 => s.ctxK s.active x k | v + 1 => v)

/-- The payload of a LOOP_STATE record (R241). -/
def State.loopPayload (s : State) (x : Nat) : List Byte :=
  let a := ctxAddr x
  let l := (aget s.lpa.last x).getD (0, 0)
  s.loadBytes (a + 4) 2 ++ (if x % 3 = 0 then s.loadBytes (a + 56) 2 else leBytes 2 0) ++ s.loadBytes (a + 3) 1 ++
    s.loadBytes (ctxAddr (x / 3 * 3) + 58) 1 ++ s.loadBytes (a + 10) 2 ++ leBytes 2 l.1 ++ leBytes 1 l.2 ++ leBytes 1 0 ++
    s.loadBytes (a + 12) 4 ++ s.shownK x

/-- The result of a job of a context counts: the context is not INACTIVE, and has not gone to OPEN_LOOP since. -/
def State.takesJob (s : State) (x : Nat) : Bool := [1, 2, 4].contains (s.ctxState x)

/-- The words that a job wrote go to its context on its die (R220, R246); a host value that waits replaces its own. -/
def State.commitK (s : State) (r : Run) : State :=
  let x := r.job.ctx
  r.k.foldl (fun t w => if nget t.lpa.hostK (8 * x + w.1) != 0 then t
    else t.setCtxK r.job.die x w.1 w.2 (s.isProbe (s.ctxProg x))) s

/-- The job of the active die that ended in time commits (R220, R230, R246 to R248): its context words, DONE and the counts. -/
def State.commitJob (s : State) (r : Run) : State :=
  let x := r.job.ctx
  let a := ctxAddr x
  let probe := s.isProbe (s.ctxProg x)
  let s1 := if probe then s else s.commitK r
  let s2 := (s1.store (a + 12) 4 (min (s.load (a + 12) 4 + 1) 0xFFFFFFFF)).store (a + 10) 1 0
  let s3 := s2.setPflags x (b2n (r.done && !probe) + 16 * b2n (r.job.stolen != 0))
  let s4 := if r.sat then s3.bump LPA_CNT_LISSAT.COUNT else s3
  { s4 with lpa := { s4.lpa with
      last := aput s4.lpa.last x (r.cycles, r.job.core)
      ended := s4.lpa.ended.map fun e => if e.job.ctx == x && e.job.s == r.job.s then { e with fin := true } else e } }

/-- A job has ended before the start of frame S + P (R220): it waits among those ended. On the active die it commits, and a probe
program's words go to its own die's context (R256). -/
def State.endJob (s : State) (r : Run) : State :=
  let x := r.job.ctx
  let known := s.lpa.ended.any fun e => e.job.ctx == x && e.job.s == r.job.s && e.fin
  let s1 : State := { s with lpa := { s.lpa with ended := { r with fin := known } :: s.lpa.ended } }
  if !s1.takesJob x then s1
  else
    let s2 := if s1.isProbe (s1.ctxProg x) then s1.commitK r else s1
    if s2.isActive r.job.die && !known then s2.commitJob r else s2

/-- A job of the active die that ended in time publishes its candidate at frame S + P (R220, R247), and DONE acts on a channel
in Settle (R222). A job that ended on a die that was not active then commits now. -/
def State.publishJob (s : State) (r : Run) : State :=
  let x := r.job.ctx
  if !s.takesJob x then s
  else
    let probe := s.isProbe (s.ctxProg x)
    let s1 := if r.fin then s else s.commitJob r
    let s2 := match r.cand with | some c => if probe then s1 else s1.store (ctxAddr x + 4) 2 c | none => s1
    let s3 : State := { s2 with lpa := { s2.lpa with pubs := s2.lpa.pubs ++ [(x, r.job.cls)] } }
    if r.done && !probe && x % 3 == 0 && s.runsIn (x / 3) 0 then s3.sendTo (x / 3) 1 else s3

/-- The LOOP_STATE records of the contexts that jobs of a class published at frame `f` (R241). -/
def State.loopRecords (s : State) (cls f : Nat) : State :=
  let s1 : State := { s with lpa := { s.lpa with pubs := s.lpa.pubs.filter fun p => p.2 != cls } }
  (s.lpa.pubs.filter fun p => p.2 == cls).foldl (fun t p => t.recordP 4 p.1 (ticksOf f) f 1000 (t.loopPayload p.1)) s1

/-- A context overruns its period on a die (R230, R231). What the active die's context shows follows. -/
def State.overrun (s : State) (j : Job) : State :=
  let x := j.ctx
  let s0 := s.raise (srcDie j.die 1) x j.die
  if !s.isActive j.die || s.ctxState x != 1 then s0
  else
    let n := min 255 (s.load (ctxAddr x + 10) 1 + 1)
    let s1 := ((s0.store (ctxAddr x + 10) 1 n).setPflags x (2 + 16 * b2n (j.stolen != 0))).bump LPA_CNT_OVR.COUNT
    let s2 := if s.on LPA_FIRST_OVR.VALID then s1
      else ((s1.wr LPA_FIRST_OVR.VALID 1).wr LPA_FIRST_OVR.CLASS j.cls).wr LPA_FIRST_OVR.CONTEXT x
    if n < max 1 (s.rd LPA_OVR_LIMIT.LIMIT) then s2 else (s2.openLoop x).raise (srcDie j.die 2) x j.die

/-- The jobs of periods that end at frame `f` or before publish or overrun, and the contexts skipped show it (R220, R227, R230).
-/
def State.publishAll (s : State) (f : Nat) : State :=
  let due (j : Job) : Bool := decide (j.s + classPeriod j.cls ≤ f)
  let ok := sortBy (fun a b => decide (a.job.ctx ≤ b.job.ctx))
    (s.lpa.ended.filter fun r => due r.job && r.pc != 0xFFFF && r.job.die == s.active)
  let late := (s.lpa.jobs.filter due) ++ (s.lpa.runs.filter fun r => due r.job).map (·.job) ++
    (s.lpa.ended.filter fun r => due r.job && r.pc == 0xFFFF).map (·.job)
  let stopped := s.lpa.runs.filter fun r => due r.job
  let s1 : State := { s with lpa := { s.lpa with
    jobs := s.lpa.jobs.filter fun j => !due j
    runs := s.lpa.runs.filter fun r => !due r.job
    ended := s.lpa.ended.filter fun r => !due r.job
    skipped := s.lpa.skipped.filter fun x => decide (f < x.2) } }
  let s2 := stopped.foldl (fun t r => (t.pmcAdd r.job.die r.job.core evJobDiscard (some r.job.cls) 1).pmcEvent 2 r.job 0 0 false
    true r.cycles) s1
  let s3 := (s.lpa.skipped.filter fun x => decide (x.2 ≤ f)).foldl (fun t x => t.setPflags x.1 4) s2
  late.foldl State.overrun (ok.foldl State.publishJob s3)

/-! ### The Output Combiner (R221, R227, R228) -/

/-- STEP_MAX, DEV_MAX and PQUAL written by the host come into force at a channel's combine (R236). -/
def State.settleP (s : State) (ch : Nat) : State :=
  [(0, 16, 2), (1, 18, 2), (2, 20, 1)].foldl (fun t x => match nget t.lpa.hostP (4 * ch + x.1) with
    | 0 => t
    | v + 1 =>
      let t1 := t.store (ctxAddr (3 * ch) + x.2.1) x.2.2 v
      { t1 with lpa := { t1.lpa with hostP := nset t1.lpa.hostP (4 * ch + x.1) 0 } }) s

/-- The plausibility model (R228): the candidate clipped around PRED and around the last output. -/
def plaus (cand pred last dev step : Nat) (first : Bool) : Nat :=
  let a : Int := if dev = 0 then cand else clampI (clampI 0 65535 ((pred : Int) - dev)) (clampI 0 65535 ((pred : Int) + dev)) cand
  (if step = 0 ∨ first then a else clampI ((last : Int) - step) ((last : Int) + step) a).toNat

/-- A channel of class `cls` is combined at frame `f` (R221, R227, R228). A slot that is PAUSED or LOST stays in the comparison,
and a channel with no other slot has no output (assumption 48). A slot activated joins as it begins (R237). -/
def State.combine (s : State) (ch cls f : Nat) : State :=
  let act := (slots ch).filter fun x => s.ctxState x != 0 && !s.notBegun x
  if !(act.any fun x => s.ctxState x == 1 || s.ctxState x == 3) then s
  else
    let a := ctxAddr (3 * ch)
    let s0 := s.settleP ch
    let first := s.lpa.fresh.contains ch
    let cand0 := if s.ctxState (3 * ch) = 3 then (aget (s.image cls).pred ch).getD (s.liveTarget ch) else s.load (a + 4) 2
    let pred := (aget (s.image cls).pred ch).getD (s.liveTarget ch)
    let c0 := plaus cand0 pred (s.load (a + 56) 2) (s0.load (a + 18) 2) (s0.load (a + 16) 2) first
    let lock := act.contains (3 * ch)
    let clip := lock && c0 != cand0
    let others := (act.filter fun x => x % 3 != 0).map fun x => s.load (ctxAddr x + 4) 2
    let out := match others with
      | [] => c0
      | o :: t => let m := t.foldl min o; if lock then min c0 m else m
    let pcnt := if clip then min 255 (s.load (a + 21) 1 + 1) else 0
    let s1 := if !lock then s0
      else
        let t := (s0.store (a + 21) 1 pcnt).setPflags (3 * ch) (if clip then setBit (s.pflags (3 * ch)) 3 else clrBit (s.pflags (3 * ch)) 3)
        let t1 := if clip then t.bump LPA_CNT_CLIP.COUNT else t
        let pq := s0.load (a + 20) 1
        if clip && pq != 0 && decide (pq ≤ pcnt) && s.ctxState (3 * ch) == 1 then
          (((t1.openLoop (3 * ch)).raise (srcDie s.active 3) (3 * ch)).raise (srcDie s.active 2) (3 * ch))
        else t1
    let s2 := s1.store (a + 56) 2 out
    let n := nget s.lpa.ran ch + 1
    let s3 : State := { s2 with lpa := { s2.lpa with
      outs := s2.lpa.outs ++ [{ ch := ch, code := out, apply := f - classPeriod cls + classApply cls, cls := cls }]
      fresh := s2.lpa.fresh.filter fun c => c != ch
      ran := nset s2.lpa.ran ch n } }
    if cls = 0 ∧ max 1 (s.rd LPA_DWELL.SETTLE_MAX) ≤ n then s3.sendTo ch 1
    else if cls = 1 ∧ s.rd LPA_DWELL.TRACK_DWELL ≠ 0 ∧ s.rd LPA_DWELL.TRACK_DWELL ≤ n then s3.sendTo ch 2
    else s3

/-- CANDIDATE_PUBLISH (R220, R221, R227, R230): at a period's end the candidates of the jobs that ended are published, the
others overrun, and the channels of the class are combined. -/
def execCandidatePublish (cls : Fin 4) (s : State) : Host.Outcome State Fault Refusal :=
  .next <|
    let f := phase0 cls (max s.now (nget s.marks (4 + cls)))
    let s1 := (s.once (4 + cls) f).publishAll f
    if nget s1.lpa.on cls = 0 then s1.loopRecords cls f
    else
      let chans := s1.loopChannels.filter fun ch => s1.chClass ch == cls.val && !s1.chPaused ch &&
        decide (nget s1.lpa.since ch + classPeriod cls ≤ f + 1)
      ((chans.foldl (fun t ch => t.combine ch cls f) s1).promote.loopRecords cls f).regate

/-- COMBINED_OUTPUT_SEND (R221): 24 frames before their apply frame, outputs go to the tiles, the earliest apply frame and
the lower channel first. -/
def execCombinedOutputSend (s : State) : Host.Outcome State Fault Refusal :=
  .next <|
    match s.lpa.outs with
    | [] => s
    | o :: t =>
      let s0 := s.reach (t.foldl (fun m x => min m x.apply) o.apply - 24)
      let due (x : OutWrite) : Bool := decide (x.apply ≤ s0.now + 24)
      let send := (sortBy (fun a b => decide (a.apply < b.apply) || a.apply == b.apply && decide (a.ch ≤ b.ch))
        (s0.lpa.outs.filter fun x => due x && nget s0.lpa.on x.cls != 0)).map fun x =>
          { ch := x.ch, code := x.code, apply := x.apply, rank := 4, die := s0.active, taken := 0 : CodeWrite }
      { s0 with
        lpa := { s0.lpa with outs := s0.lpa.outs.filter fun x => !due x }
        drv := { s0.drv with down := s0.drv.down ++ send } }

/-- LPA_ENABLE (R229): ENABLE acts from the next phase 0 of each class. -/
def execLpaEnable (die : Fin 2) (value : Bool) (s : State) : Host.Outcome State Fault Refusal :=
  .next <| s.viaBar0 die 0x300000 fun s => s.wr LPA_CTL.ENABLE (b2n value)

/-! ### Admission (R233, R234) -/

/-- The cycles per period of each class (R233). -/
def classCycles (cls : Nat) : Nat := 64 * 30 * classPeriod cls

/-- The sum of the WCETs of a channel's active FOLLOW contexts (R233). -/
def State.followLoad (s : State) (ch : Nat) : Nat :=
  (((slots ch).filter fun x => s.ctxState x != 0 && s.follows x).map s.ctxWcet).sum

/-- The fixed load of a class (R233). -/
def State.fixedLoad (s : State) (cls : Nat) : Nat :=
  let xs := s.allCtx.filter fun x => s.ctxState x != 0 && !s.follows x && s.ownClass x == cls
  ((List.range 8).map fun r =>
    ((xs.filter fun x => r % s.ctxDiv x == x / 3 % s.ctxDiv x).map s.ctxWcet).sum).foldl max 0

/-- load[k] of R233. -/
def State.loopLoad (s : State) (cls : Nat) : Nat :=
  let chans := s.loopChannels
  let cur := chans.filter fun ch => match s.elemAt ch with | some e => (s.elem e).current | none => false
  let most (l : List Nat) : Nat := (l.map s.followLoad).foldl max 0
  s.fixedLoad cls +
    if cls = 0 then s.rd LPA_CAPS.SETTLE_CAP * most cur
    else if cls = 1 then s.rd LPA_CAPS.TRACK_CAP * most chans
    else if cls = 2 then (chans.map s.followLoad).sum
    else 0

/-- The cumulative use through class `k`, in 1/38,400,000. -/
def State.loopUse (s : State) (k : Nat) : Nat :=
  ((List.range (k + 1)).map fun c => s.loopLoad c * (classCycles 3 / classCycles c)).sum

/-- The class at which admission fails, and the use there in 0.01 % (R233, R238). -/
def State.admitFails (s : State) : Option (Nat × Nat) :=
  ([0, 1, 2, 3].find? fun k => decide (s.rd LPA_ADMIT_CFG.PCT * classCycles 3 < 100 * s.loopUse k)).map fun k =>
    (k, ceilDiv (s.loopUse k * 10000) (classCycles 3))

/-! ### CTX_WRITE and CTX_READ (R235 to R240) -/

/-- Status codes of the Loop Array (R240). -/
def stAdmitDenied : Nat := 0x0301
@[inherit_doc stAdmitDenied] def stCtxActive : Nat := 0x0302
@[inherit_doc stAdmitDenied] def stBadProgram : Nat := 0x0303
@[inherit_doc stAdmitDenied] def stCtxUnbound : Nat := 0x0304

/-- The owner domain of the element of a channel (R27). -/
def State.chDomain (s : State) (ch : Nat) : Option Nat := (s.elemAt ch).map fun e => (s.elem e).domain

/-- A domain may read a context's entry (R236). -/
def State.ctxReadable (s : State) (dom x : Nat) : Bool := dom == 0 || s.chDomain (x / 3) == some dom

/-- A domain may write fields of a context (R236): tenants INIT, PROG, MODE and K0 to K7 of slots 0 and 2 of their own. -/
def State.ctxWritable (s : State) (dom x mask : Nat) : Bool :=
  dom == 0 || s.chDomain (x / 3) == some dom && x % 3 != 1 && !bit mask 2

/-- The 64 bytes of a context's entry as software reads them (R235, R236): host values that wait, and the live target. -/
def State.ctxEntry (s : State) (x : Nat) : List Byte :=
  let a := ctxAddr x
  let p (f off n : Nat) : List Byte := match (if x % 3 = 0 then nget s.lpa.hostP (4 * (x / 3) + f) else 0) with
    | 0 => s.loadBytes (a + off) n
    | v + 1 => leBytes n v
  s.loadBytes a 16 ++ p 0 16 2 ++ p 1 18 2 ++ p 2 20 1 ++ s.loadBytes (a + 21) 3 ++ s.shownK x ++
    s.loadBytes (a + 56) 4 ++ (if x % 3 = 0 then leBytes 2 (s.liveTarget (x / 3)) else leBytes 2 0) ++ leBytes 2 0

/-- The body of a CTX_WRITE (R237). -/
structure CtxBody where
  first : Nat
  count : Nat
  op : Nat
  ncls : Nat
  addr : Nat
  mask : Nat
  deriving DecidableEq, Repr

/-- The body of a descriptor. -/
def ctxBody (d : Desc) : CtxBody :=
  { first := d.fld 8 4, count := d.fld 12 2, op := d.fld 14 1, ncls := d.fld 15 1, addr := d.fld 16 8, mask := d.fld 24 4 }

/-- The contexts of a body. -/
def CtxBody.ctxs (b : CtxBody) : List Nat := (List.range b.count).map fun i => b.first + i

/-- The fields of a body are valid (R237). -/
def ctxBodyOk (d : Desc) : Bool :=
  let b := ctxBody d
  decide (b.first < 65536) && decide (1 ≤ b.count) && decide (b.count ≤ 1024) && decide (b.first + b.count ≤ 49152) &&
    zeros d.bytes 28 36 &&
    if b.op < 2 then b.ncls == 0 && b.addr % 8 == 0 && decide (b.mask < 4096) && !bit b.mask 3
    else b.op < 4 && b.addr == 0 && b.mask == 0 && (b.op == 3 && decide (b.ncls < 4) || b.ncls == 0)

/-- The entry of a batch for its `i`-th context. -/
def ctxData (data : List Byte) (i : Nat) : List Byte := (data.drop (64 * i)).take 64

/-- PROG and MODE of a context after a write of entry `e` under a mask. -/
def State.progAfter (s : State) (x mask : Nat) (e : List Byte) : Nat × Nat :=
  if bit mask 0 then (field e 0 2 % 4096, field e 2 1 % 32) else (s.ctxProg x, s.load (ctxAddr x + 2) 1)

/-- A ring's domain may use a program in a context (R216, R256, R262), `act` saying whether it is activated. -/
def State.progOk (s : State) (dom x prog : Nat) (act : Bool) : Bool :=
  let a := progAddr prog
  let own := s.load (a + 6) 1
  s.load (a + 7) 1 % 4 == 1 && (dom == 0 || own % 32 == dom || bit own 7) &&
    decide (s.load (a + 8) 2 ≤ s.rd LPA_ADMIT_CFG.WCET_MAX) && (!act || !s.isProbe prog || x % 3 == 2 && !bit own 7)

/-- The masked fields of one context are written (R236, R237). K0 to K7 wait for the context's release, STEP_MAX, DEV_MAX
and PQUAL for the channel's combine. -/
def State.ctxFields (s : State) (x mask : Nat) (e : List Byte) : State :=
  let a := ctxAddr x
  let s1 := if bit mask 0 then (s.store a 2 (field e 0 2 % 4096)).store (a + 2) 1 (field e 2 1 % 32) else s
  let s2 := if bit mask 1 then s1.store (a + 6) 2 (field e 6 2) else s1
  let s3 : State := if bit mask 2 && x % 3 == 0 then
      { s2 with lpa := { s2.lpa with hostP := [(0, 16, 2), (1, 18, 2), (2, 20, 1)].foldl (fun l w =>
        nset l (4 * (x / 3) + w.1) (field e w.2.1 w.2.2 + 1)) s2.lpa.hostP } }
    else s2
  { s3 with lpa := { s3.lpa with hostK := (List.range 8).foldl (fun l k =>
    if bit mask (4 + k) then nset l (8 * x + k) (field e (24 + 4 * k) 4 + 1) else l) s3.lpa.hostK } }

/-- One context is activated (R237): it runs from the first phase 0 of its class after now, or once its channel's loops
resume. -/
def State.activateOne (s : State) (x : Nat) : State :=
  let a := ctxAddr x
  let ch := x / 3
  let s1 := (s.store (a + 8) 2 (s.load (progAddr (s.ctxProg x) + 8) 2)).wr LPA_OPEN_LOOP.OPEN
    (clrBit (s.rd LPA_OPEN_LOOP.OPEN (x / 32)) (x % 32)) (x / 32)
  let st := if s.tileLost (ch / 2048) then 4 else if s.chPaused ch then 2 else 1
  let s2 := ((s1.setCtxState x st).store (a + 4) 2 (if x % 3 = 0 then s.liveTarget ch else s.load (a + 6) 2)).store (a + 10) 1 0
  let s3 := if x % 3 = 0 then s2.store (a + 21) 1 0 else s2
  let late := (s3.lpa.resume.filter fun r => r.ch == ch && !s3.follows x && st != 1).map fun r => (x, r.after)
  { s3 with lpa := { s3.lpa with
    begun := (x, s3.now) :: s3.lpa.begun.filter fun b => b.1 != x
    resumeCtx := late ++ s3.lpa.resumeCtx.filter fun r => r.1 != x
    fresh := if x % 3 = 0 then ch :: s3.lpa.fresh.filter fun c => c != ch else s3.lpa.fresh } }

/-- The activation of a batch as admission sees it: every context in RUN with its program's WCET. -/
def State.activateAll (s : State) (b : CtxBody) (data : List Byte) : State :=
  (List.range b.count).foldl (fun t i => (t.ctxFields (b.first + i) b.mask (ctxData data i)).activateOne (b.first + i)) s

/-- The index, within a batch, of its first context that satisfies `p`. -/
def CtxBody.firstBad (b : CtxBody) (p : Nat → Bool) : Option Nat := (List.range b.count).find? fun i => p i

/-- The status and RESULT with which R238 refuses a CTX_WRITE, if it does. Slot 0 must have FOLLOW = 1 where it is activated too,
if MODE is not written (assumption 95). -/
def State.ctxRefusal (s : State) (d : Desc) (data : List Byte) : Option (Nat × Nat) :=
  let b := ctxBody d
  let dom := d.dom
  let e := ctxData data
  let have_ := decide (64 * b.count ≤ data.length)
  let busy (x : Nat) : Bool := [1, 2, 4].contains (s.ctxState x)
  let dataOps := decide (b.op < 2)
  let bad0 (i : Nat) : Bool :=
    let x := b.first + i
    if b.op = 3 then x % 3 != 0 || b.ncls == 0 && !(match s.elemAt (x / 3) with | some y => (s.elem y).current | none => true)
    else dataOps && x % 3 == 0 && (if bit b.mask 0 then have_ else b.op == 1) && !bit (s.progAfter x b.mask (e i)).2 0
  let bad1 (i : Nat) : Bool := !s.ctxWritable dom (b.first + i) b.mask
  let bad3 (i : Nat) : Bool := (s.elemAt ((b.first + i) / 3)).isNone
  let bad4 (i : Nat) : Bool :=
    let x := b.first + i
    if b.op = 0 then bit b.mask 0 && busy x && s.progAfter x b.mask (e i) != (s.ctxProg x, s.load (ctxAddr x + 2) 1)
    else b.op == 1 && busy x
  let bad5 (i : Nat) : Bool :=
    let x := b.first + i
    dataOps && (b.op == 1 || bit b.mask 0) && !s.progOk dom x (s.progAfter x b.mask (e i)).1 (b.op == 1)
  if !ctxBodyOk d then some (stBadField, 0)
  else match b.firstBad bad0 with
  | some i => some (stBadField, i)
  | none => match b.firstBad bad1 with
    | some i => some (stDomainDenied, i)
    | none =>
      if dataOps && !have_ then some (stDmaError, 0)
      else match b.firstBad bad3 with
      | some i => some (stCtxUnbound, i)
      | none => match b.firstBad bad4 with
        | some i => some (stCtxActive, i)
        | none => match b.firstBad bad5 with
          | some i => some (stBadProgram, i)
          | none =>
            if b.op ≠ 1 then none
            else match (s.activateAll b data).admitFails with
              | some (k, u) => some (stAdmitDenied, k + 2 ^ 16 * min u 0xFFFF)
              | none => none

/-- A CTX_WRITE whose OP satisfies `p` is checked, done as `f` says, and completes (R237, R238). A poisoned TLP among its data
is noted first (R81). -/
def State.ctxCommand (s : State) (id : Nat) (read : HostRead (List Byte)) (p : Nat → Bool) (f : State → CtxBody → State) :
    State :=
  (s.poisoned read.poisoned id).withOp id opCtxWrite fun d =>
    let s := s.poisoned read.poisoned id
    if !p (ctxBody d).op then s
    else match s.ctxRefusal d read.data with
      | some (st, r) => s.done d st r
      | none => (f s (ctxBody d)).done d stOK (ctxBody d).count

/-- CTX_WRITE (R237): WRITE writes the masked fields of each context. An OP that does not exist is an invalid field. -/
def execCtxWrite (id : Nat) (read : HostRead (List Byte)) (s : State) : Host.Outcome State Fault Refusal :=
  .next <| s.ctxCommand id read (fun op => op == 0 || decide (3 < op)) fun s b =>
    (List.range b.count).foldl (fun t i => t.ctxFields (b.first + i) b.mask (ctxData read.data i)) s

/-- ACTIVATE (R233, R237). -/
def execActivate (id : Nat) (read : HostRead (List Byte)) (s : State) : Host.Outcome State Fault Refusal :=
  .next <| s.ctxCommand id read (fun op => op == 1) fun s b => s.activateAll b read.data

/-- DEACTIVATE (R237): the contexts are INACTIVE at completion, and their jobs go. -/
def execDeactivate (id : Nat) (read : HostRead (List Byte)) (s : State) : Host.Outcome State Fault Refusal :=
  .next <| s.ctxCommand id read (fun op => op == 2) fun s b =>
    let s1 := b.ctxs.foldl (fun t x => (t.setCtxState x 0).wr LPA_OPEN_LOOP.OPEN
      (clrBit (t.rd LPA_OPEN_LOOP.OPEN (x / 32)) (x % 32)) (x / 32)) s
    let mine (x : Nat) : Bool := decide (b.first ≤ x) && decide (x < b.first + b.count)
    ({ s1 with lpa := { s1.lpa with
      jobs := s1.lpa.jobs.filter fun j => !mine j.ctx
      runs := s1.lpa.runs.filter fun r => !mine r.job.ctx
      ended := s1.lpa.ended.filter fun r => !mine r.job.ctx
      skipped := s1.lpa.skipped.filter fun x => !mine x.1
      begun := s1.lpa.begun.filter fun x => !mine x.1 } } : State).promote

/-- SET_CLASS (R222, R223, R237). -/
def execSetClass (id : Nat) (read : HostRead (List Byte)) (s : State) : Host.Outcome State Fault Refusal :=
  .next <| s.ctxCommand id read (fun op => op == 3) fun s b =>
    (b.ctxs.foldl (fun t x => t.sendTo (x / 3) b.ncls) s).promote

/-- CTX_READ (R239). -/
def execCtxRead (id : Nat) (s : State) : Host.Outcome State Fault Refusal :=
  .next <| s.withOp id opCtxRead fun d =>
    let first := d.fld 8 4
    let count := d.fld 12 2
    let xs := (List.range count).map fun i => first + i
    if 65535 < first || count == 0 || decide (1024 < count) || decide (49152 < first + count) || d.fld 16 8 % 8 != 0 ||
        !zeros d.bytes 14 2 || !zeros d.bytes 24 40 then s.done d stBadField
    else if !xs.all (s.ctxReadable d.dom) then s.done d stDomainDenied
    else (s.toHost (d.fld 16 8) (xs.flatMap s.ctxEntry)).done d stOK count

end Sys2Proof.Machine
end

