-- ==== Sys2Proof/Machine/Lis.lean ====
section
/-! DEFINITION. The Loop Instruction Set (chapter 9): words and their check, the program store, the image reads, and the
instructions. -/
namespace Sys2Proof.Machine

/-! ### Words (R251, R252) -/

/-- The fields of a word in the formats R, C, I, H, M and K (R251). -/
def fmtR (rd ra rb x : Nat) : Nat := rd * 2 ^ 19 + ra * 2 ^ 15 + rb * 2 ^ 11 + x
@[inherit_doc fmtR] def fmtC (pd ra rb x : Nat) : Nat := pd * 2 ^ 21 + ra * 2 ^ 15 + rb * 2 ^ 11 + x
@[inherit_doc fmtR] def fmtI (rd ra imm : Nat) : Nat := rd * 2 ^ 19 + ra * 2 ^ 15 + imm
@[inherit_doc fmtR] def fmtCI (pd ra imm : Nat) : Nat := pd * 2 ^ 21 + ra * 2 ^ 15 + imm
@[inherit_doc fmtR] def fmtH (rd imm : Nat) : Nat := rd * 2 ^ 19 + imm
@[inherit_doc fmtR] def fmtM (rd sel x : Nat) : Nat := rd * 2 ^ 19 + sel * 2 ^ 14 + x
@[inherit_doc fmtR] def fmtK (rd ra k : Nat) : Nat := rd * 2 ^ 19 + ra * 2 ^ 15 + k

/-- The instruction word of an opcode, a guard and the format's fields (R251). -/
def lisWord (op : Nat) (a : LisAt) (fields : Nat) : Nat := op * 2 ^ 26 + a.pg * 2 ^ 24 + b2n a.pn * 2 ^ 23 + fields

/-- The opcode of a word, its guard predicate and the guard's negation. -/
def opOf (w : Nat) : Nat := bits w 26 6
@[inherit_doc opOf] def pgOf (w : Nat) : Nat := bits w 24 2
@[inherit_doc opOf] def pnOf (w : Nat) : Bool := bit w 23

/-- The cycles of an opcode (R252). -/
def lisCycles (op : Nat) : Nat :=
  if op = 0x12 then 10 else if [0x10, 0x11, 0x28, 0x29, 0x30].contains op then 2 else 1

/-- The reserved fields of a word are 0, its opcode and selector are not reserved, and its PD is not 0 (ERROR 4 of R263).
Each opcode is given with the bits that it leaves reserved. -/
def lisEncodingOk (w : Nat) : Bool :=
  let res (lo n : Nat) : Bool := bits w lo n == 0
  match opOf w with
  | 0x00 | 0x01 | 0x03 => res 0 11
  | 0x02 => res 10 13
  | 0x04 => res 19 4 && res 0 15
  | 0x08 | 0x09 | 0x10 | 0x12 | 0x14 | 0x15 | 0x16 | 0x18 | 0x19 | 0x1A => res 0 11
  | 0x0A => true
  | 0x0B => res 15 4
  | 0x0C | 0x0D => res 16 3
  | 0x11 => res 5 6
  | 0x17 => res 0 15
  | 0x1B => res 5 10
  | 0x1C => res 6 9
  | 0x1D => res 2 9
  | 0x20 | 0x21 | 0x22 => res 19 2 && res 0 11 && !res 21 2
  | 0x23 => res 19 2 && res 5 10 && !res 21 2
  | 0x24 | 0x25 => res 19 2 && !res 21 2
  | 0x28 => decide (bits w 14 5 < 16)
  | 0x29 => decide (bits w 14 5 < 16) && res 4 10
  | 0x2A => res 3 16
  | 0x2B => res 19 4 && res 3 12
  | 0x30 => res 3 16
  | _ => false

/-- A branch at index `i` of a program of `n` words has OFF not 0 and a target within the program (ERROR 5). -/
def branchOk (n i w : Nat) : Bool := opOf w != 2 || bits w 0 10 != 0 && decide (i + bits w 0 10 < n)

/-- A word is a guarded END (ERROR 6). -/
def endGuarded (w : Nat) : Bool := opOf w == 1 && (pgOf w != 0 || pnOf w)

/-- L(i) for the words of a program, the last first: the list of L from i on, from the words from i on (R258). -/
def lisCosts : List Nat → List Nat
  | [] => []
  | w :: t =>
    let l := lisCosts t
    let at_ (k : Nat) : Nat := (l[k]?).getD 0
    let c := match opOf w with
      | 1 => 1
      | 2 => if pgOf w = 0 ∧ !pnOf w then 1 + at_ (bits w 0 10 - 1) else 1 + max (at_ 0) (at_ (bits w 0 10 - 1))
      | op => lisCycles op + at_ 0
    c :: l

/-- The WCET of a program (R258). -/
def lisWcet (ws : List Nat) : Nat := 9 + (lisCosts ws).headD 0

/-! ### The program store (R260 to R264) -/

/-- Code word `w`. -/
def State.code (s : State) (w : Nat) : Nat := s.load (progBase + 0x10000 + 4 * w) 4

/-- The programs whose entries are not as after reset, rising. -/
def State.programs (s : State) : List Nat := s.listed progBase 16 4096

/-- USERS of a program (R260). -/
def State.progUsers (s : State) (p : Nat) : Nat :=
  (s.allCtx.filter fun x => s.ctxState x != 0 && s.ctxProg x == p).length

/-- The words of a program. -/
def State.progWords (s : State) (p : Nat) : List Nat := (List.range (s.progLen p)).map fun i => s.code (s.progStart p + i)

/-- The index of the first element that satisfies `p`. -/
def firstIdx {α : Type} (p : α → Bool) : List α → Option Nat
  | [] => none
  | a :: t => if p a then some 0 else (firstIdx p t).map (· + 1)

/-- The error of PUBLISH for a program, with ERR_PC where the error has one, or none (R263). -/
def State.publishError (s : State) (p : Nat) : Option (Nat × Option Nat) :=
  let a := progAddr p
  let start := s.progStart p
  let n := s.load (a + 4) 2 % 2 ^ 11
  let own := s.load (a + 6) 1
  let overlap := s.programs.any fun q => s.progValid q && decide (s.progStart q < start + n) &&
    decide (start < s.progStart q + s.progLen q)
  let ws := s.progWords p
  let iw := (List.range ws.length).zip ws
  if s.load (a + 7) 1 % 4 ≠ 0 then some (1, none)
  else if n = 0 ∨ 1024 < n ∨ 245760 < start + n ∨ overlap then some (2, none)
  else if 16 < own % 32 ∨ bits own 5 2 ≠ 0 ∨ s.load a 4 / 2 ^ 18 ≠ 0 ∨ s.load (a + 4) 2 / 2 ^ 11 ≠ 0 ∨ s.load (a + 11) 1 ≠ 0 then
    some (3, none)
  else match firstIdx (fun w => !lisEncodingOk w) ws with
  | some i => some (4, some i)
  | none => match firstIdx (fun x => !branchOk n x.1 x.2) iw with
    | some i => some (5, some i)
    | none => match firstIdx (fun x => endGuarded x.2 || x.1 + 1 == n && opOf x.2 != 1) iw with
      | some i => some (6, some i)
      | none => if (ws.any fun w => opOf w == 0x30) && bit own 7 then some (8, none) else none

/-- The error of RETIRE for a program, 0 where there is none (R263). -/
def State.retireError (s : State) (p : Nat) : Nat :=
  if !s.progValid p then 1 else if s.progUsers p ≠ 0 then 7 else 0

/-- A program command ends with an error code. -/
def State.progEnd (s : State) (p err : Nat) (pc : Option Nat) : State :=
  let a := progAddr p
  let s1 := if err = 0 then s else s.store (a + 10) 1 err
  let s2 := match pc with | some i => s1.store (a + 14) 2 i | none => s1
  (s2.wr LPA_PROG_STATUS.PROG p).wr LPA_PROG_STATUS.ERROR err

/-- A program command runs (R263). -/
def State.progRun (s : State) (op p : Nat) : State :=
  let a := progAddr p
  if op = 1 then
    match s.publishError p with
    | some (e, pc) => s.progEnd p e pc
    | none =>
      let ws := s.progWords p
      let probe := ws.any fun w => opOf w == 0x30
      (((s.unspoil (s.progHas p)).store (a + 7) 1 (1 + 4 * b2n probe)).store (a + 8) 2 (lisWcet ws)).progEnd p 0 none
  else
    let e := s.retireError p
    (if e = 0 then s.store (a + 7) 1 0 else s).progEnd p e none

/-- A write to LPA_PROG_CMD (R263, R264). -/
def State.progCmd (s : State) (op p : Nat) : State :=
  match s.lpa.cmd, s.lpa.cmdNext with
  | none, _ => { s.wr LPA_PROG_STATUS.BUSY 1 with lpa := { s.lpa with cmd := some (op, p) } }
  | some _, none => { s.wr LPA_PROG_STATUS.PENDING 1 with lpa := { s.lpa with cmdNext := some (op, p) } }
  | some _, some _ => s.wr LPA_PROG_STATUS.OVERRUN 1

/-- PUBLISH (R263). -/
def execPublish (die : Fin 2) (prog : Fin 4096) (s : State) : Host.Outcome State Fault Refusal :=
  .next <| s.viaBar0 die 0x302000 fun s => s.progCmd 1 prog

/-- RETIRE (R263). -/
def execRetire (die : Fin 2) (prog : Fin 4096) (s : State) : Host.Outcome State Fault Refusal :=
  .next <| s.viaBar0 die 0x302000 fun s => s.progCmd 2 prog

/-- PROG_CMD_DONE (R263, R264): the running command completes, and a latched one starts. -/
def execProgCmdDone (s : State) : Host.Outcome State Fault Refusal :=
  .next <|
    match s.lpa.cmd with
    | none => s
    | some (op, p) =>
      let s1 := s.progRun op p
      let s2 := (s1.wr LPA_PROG_STATUS.BUSY (b2n s.lpa.cmdNext.isSome)).wr LPA_PROG_STATUS.PENDING 0
      { s2 with lpa := { s2.lpa with cmd := s.lpa.cmdNext, cmdNext := none } }

/-! ### Image reads (R249, R250) -/

/-- A domain may read a demodulator context (R212). -/
def State.toneReadable (s : State) (dom c : Nat) : Bool :=
  dom == 0 || if c < 16384 then (s.elem c).valid && (s.elem c).domain == dom
    else s.presentPorts.any fun p => (s.port p).monitor == (c - 16384) / 4 && (s.port p).domain == dom

/-- A job of an element of a domain may read a monitor to which the element is not bound (R250). -/
def State.monReadable (s : State) (dom m : Nat) : Bool :=
  dom == 0 || s.presentPorts.any fun p => (s.port p).monitor == m && (s.port p).domain == dom

/-- The value an image read returns, none where R250 makes it return 0 and counts it. The job's identity is that latched at its
phase 0 (R219, R249). -/
def State.imgRead (s : State) (j : Job) (sel : Nat) (idx : Int) : Option Int :=
  let x := j.ctx
  let ch := x / 3
  let img := s.image j.cls
  let self := (aget img.ident ch).getD (s.identOf ch)
  let e := self.elem
  let dom := match e with | some y => (s.elem y).domain | none => 0
  let at_ (l : List (Nat × Nat)) (k : Nat) : Int := (aget l k).getD 0
  let only0 (v : Int) : Option Int := if idx = 0 then some v else none
  let tone (c : Nat) : Nat × Nat × Nat := (aget img.tone c).getD (0, 0, 0)
  let i := idx.toNat
  let mon : Option Nat := if i = 1024 then self.mon else if i < 1024 ∧ (s.monReadable dom i || self.mon == some i) then some i else none
  let fast (m : Nat) : FastVal := (aget img.fast m).getD { code := 0, flags := 0, u := 0 }
  let ctx : Option Nat := if i < 20480 ∧ s.toneReadable dom i then some i else none
  if idx < 0 then none
  else match sel with
  | 0 => only0 (at_ img.target ch)
  | 1 => only0 (at_ img.pred ch)
  | 2 => only0 (at_ img.out ch)
  | 3 => match i with
    | 0 => some ch
    | 1 => some (e.getD 0 : Nat)
    | 2 => some (ch / 2048 : Nat)
    | 3 => some (ch % 2048 / 32 : Nat)
    | 4 => some (x % 3 : Nat)
    | 5 => some x
    | 6 => some (self.cls : Nat)
    | 7 => some (b2n self.current : Nat)
    | _ => none
  | 4 => only0 (toS 32 (match e with | some y => (tone y).1 | none => 0))
  | 5 => only0 (toS 32 (match e with | some y => (tone y).2.1 | none => 0))
  | 6 => only0 ((match e with | some y => (tone y).2.2 | none => 0 : Nat))
  | 7 => ctx.map fun c => toS 32 (tone c).1
  | 8 => ctx.map fun c => toS 32 (tone c).2.1
  | 9 => ctx.map fun c => ((tone c).2.2 : Int)
  | 10 => mon.map fun m => ((fast m).code : Int)
  | 11 => mon.map fun m => ((fast m).flags : Int)
  | 12 => mon.map fun m => toS 24 ((aget img.fine m).getD 0)
  | 13 => if i < 72 then some (toS 16 ((aget img.temp i).getD 0))
    else if i = 72 then e.map fun _ => toS 16 ((aget img.temp self.zone).getD 0) else none
  | 14 => if i < 8 then some (at_ img.ivhv i) else if i = 8 then some (at_ img.ivhv (ch / 2048)) else none
  | 15 => if i < 8 then some (at_ img.factor i) else if i = 8 then some (at_ img.factor (ch / 2048)) else none
  | _ => none

/-! ### Running an instruction (R244 to R248, R253) -/

/-- A value register; V0 reads 0. -/
def Run.get (r : Run) (i : Nat) : Int := if i = 0 then 0 else (r.v[i]?).getD 0

/-- The job with a value register written; a write to V0 has no effect. -/
def Run.put (r : Run) (i : Nat) (v : Int) : Run := if i = 0 then r else { r with v := r.v.set i v }

/-- A predicate; P0 reads 1. -/
def Run.pred (r : Run) (i : Nat) : Bool := if i = 0 then true else (r.p[i]?).getD false

/-- The job with a predicate written; P0 cannot be written. -/
def Run.putP (r : Run) (i : Nat) (v : Bool) : Run := if i = 0 then r else { r with p := r.p.set i v }

/-- A result brought into 32 bits, and whether it saturated (R248). -/
def sat32 (x : Int) : Int × Bool := (clampI (-2147483648) 2147483647 x, decide (x < -2147483648) || decide (2147483647 < x))

/-- The job with a saturating result. -/
def Run.sets (r : Run) (rd : Nat) (x : Int) : Run := { r.put rd (sat32 x).1 with sat := r.sat || (sat32 x).2 }

/-- The word that the job on a core is about to execute, and its code word index. -/
def State.fetch (s : State) (r : Run) : Option (Nat × Nat) :=
  let p := s.ctxProg r.job.ctx
  if r.pc < s.progLen p then some (s.code (s.progStart p + r.pc), s.progStart p + r.pc) else none

/-- An instruction executes on a core, if the job that runs there has come to it (R244): bits 31 to `cut` of the word that
the job has come to are those of `word`. It takes its cycles whether or not its guard lets it act, and then acts as `f` says
on the job, whose pc has advanced (R253). -/
def State.lis (s : State) (a : LisAt) (word cut : Nat) (f : State → Run → State) : State :=
  match s.running a.die a.core with
  | none => s
  | some r =>
    match s.fetch r with
    | none => s
    | some (w, addr) =>
      if w / 2 ^ cut ≠ word / 2 ^ cut then s
      else
        let op := opOf w
        let act := r.pred a.pg != a.pn
        let n := lisCycles op
        let j := r.job
        let r1 : Run := { r with pc := r.pc + 1, cycles := r.cycles + n }
        let s1 := s.pmcAdd a.die a.core evInstr (some j.cls) 1
        let s2 := if act then s1.pmcAdd a.die a.core evActed (some j.cls) 1 else s1
        let s3 := (s2.pmcSlot a.die a.core (if act && op != 0 then evRetired else evWasted) j.cls n).pmcEvent 0 j w addr (!act)
          false n
        let s4 := if op = 0x28 ∨ op = 0x29 then
            (s3.pmcAdd a.die a.core evImgRead (some j.cls) 1).pmcEvent 1 j w addr (!act) false n
          else s3
        if act then f s4 r1 else s4.setRun r1

/-- An instruction that changes only the job. -/
def State.lisJob (s : State) (a : LisAt) (op fields : Nat) (f : Run → Run) : State :=
  s.lis a (lisWord op a fields) 0 fun s r => s.setRun (f r)

/-- NOP (R252). -/
def execLisNop (at_ : LisAt) (s : State) : Host.Outcome State Fault Refusal :=
  .next <| s.lis at_ (lisWord 0x00 at_ 0) 23 fun s r => s.setRun r

/-- END (R244, R220): the job ends; before the start of frame S + P its words are committed, and its candidate waits to be
published. -/
def execLisEnd (at_ : LisAt) (s : State) : Host.Outcome State Fault Refusal :=
  .next <| s.lis at_ (lisWord 0x01 at_ 0) 23 fun s r =>
    let j := r.job
    if s.now < j.s + classPeriod j.cls then
      let s1 : State := { s with lpa := { s.lpa with
        runs := s.lpa.runs.filter fun x => !(x.job.die == j.die && x.job.core == j.core) } }
      let s2 := (((s1.endJob r).pmcAdd j.die j.core evJobEnd (some j.cls) 1).pmcSlot j.die j.core evBack j.cls 2).pmcEvent 2 j
        (lisWord 0x01 at_ 0) (s.progStart (s.ctxProg j.ctx)) false false r.cycles
      if r.sat then s2.pmcAdd j.die j.core evSatCommit (some j.cls) 1 else s2
    else s.setRun { r with pc := r.pc - 1 }

/-- BR (R257): pc ← pc + OFF, counted from the branch. -/
def execLisBr (at_ : LisAt) (off : Fin 1024) (s : State) : Host.Outcome State Fault Refusal :=
  .next <| s.lis at_ (lisWord 0x02 at_ off) 0 fun s r =>
    (s.pmcAdd at_.die at_.core evBrTaken (some r.job.cls) 1).setRun { r with pc := r.pc - 1 + off }

/-- DONE (R247). -/
def execLisDone (at_ : LisAt) (s : State) : Host.Outcome State Fault Refusal :=
  .next <| s.lis at_ (lisWord 0x03 at_ 0) 23 fun s r => s.setRun { r with done := true }

/-- WCAND (R247): the candidate is RA clamped to 0 to 65,535; a clamp sets SAT. In a probe program it has no effect (R256). -/
def execLisWcand (at_ : LisAt) (ra : Fin 16) (s : State) : Host.Outcome State Fault Refusal :=
  .next <| s.lis at_ (lisWord 0x04 at_ (fmtR 0 ra 0 0)) 0 fun s r =>
    let c := clampI 0 65535 (r.get ra)
    s.setRun (if s.isProbe (s.ctxProg r.job.ctx) then r else { r with cand := some c.toNat, sat := r.sat || c != r.get ra })

/-- ADD (R248). -/
def execLisAdd (at_ : LisAt) (rd ra rb : Fin 16) (s : State) : Host.Outcome State Fault Refusal :=
  .next <| s.lisJob at_ 0x08 (fmtR rd ra rb 0) fun r => r.sets rd (r.get ra + r.get rb)

/-- SUB (R248). -/
def execLisSub (at_ : LisAt) (rd ra rb : Fin 16) (s : State) : Host.Outcome State Fault Refusal :=
  .next <| s.lisJob at_ 0x09 (fmtR rd ra rb 0) fun r => r.sets rd (r.get ra - r.get rb)

/-- ADDI (R248). -/
def execLisAddi (at_ : LisAt) (rd ra : Fin 16) (imm : BitVec 15) (s : State) : Host.Outcome State Fault Refusal :=
  .next <| s.lisJob at_ 0x0A (fmtI rd ra imm.toNat) fun r => r.sets rd (r.get ra + imm.toInt)

/-- MOVI (R252). -/
def execLisMovi (at_ : LisAt) (rd : Fin 16) (imm : BitVec 15) (s : State) : Host.Outcome State Fault Refusal :=
  .next <| s.lisJob at_ 0x0B (fmtI rd 0 imm.toNat) fun r => r.put rd imm.toInt

/-- MOVHI (R252): the high half is IMM16, the low half stays. -/
def execLisMovhi (at_ : LisAt) (rd : Fin 16) (imm : BitVec 16) (s : State) : Host.Outcome State Fault Refusal :=
  .next <| s.lisJob at_ 0x0C (fmtH rd imm.toNat) fun r =>
    r.put rd (toS 32 (imm.toNat * 65536 + ofS 32 (r.get rd) % 65536))

/-- MOVLO (R252): the low half is IMM16, the high half stays. -/
def execLisMovlo (at_ : LisAt) (rd : Fin 16) (imm : BitVec 16) (s : State) : Host.Outcome State Fault Refusal :=
  .next <| s.lisJob at_ 0x0D (fmtH rd imm.toNat) fun r =>
    r.put rd (toS 32 (ofS 32 (r.get rd) / 65536 * 65536 + imm.toNat))

/-- MUL (R248). -/
def execLisMul (at_ : LisAt) (rd ra rb : Fin 16) (s : State) : Host.Outcome State Fault Refusal :=
  .next <| s.lisJob at_ 0x10 (fmtR rd ra rb 0) fun r => r.sets rd (r.get ra * r.get rb)

/-- A right shift by `k` that rounds to nearest, halves up (R252). -/
def rndShift (x : Int) (k : Nat) : Int := if k = 0 then x else (x + 2 ^ (k - 1)) / 2 ^ k

/-- MULQ (R252). -/
def execLisMulq (at_ : LisAt) (rd ra rb : Fin 16) (sh : Fin 32) (s : State) : Host.Outcome State Fault Refusal :=
  .next <| s.lisJob at_ 0x11 (fmtR rd ra rb sh) fun r => r.sets rd (rndShift (r.get ra * r.get rb) sh)

/-- The quotient of DIV (R254), and whether it saturates. -/
def lisQuot (a b : Int) : Int × Bool :=
  if b = 0 then (if 0 < a then 2147483647 else if a < 0 then -2147483648 else 0, true) else sat32 (a.tdiv b)

/-- DIV (R254): truncated toward zero; by 0 it gives the limit of RA's sign, or 0, and sets SAT. -/
def execLisDiv (at_ : LisAt) (rd ra rb : Fin 16) (s : State) : Host.Outcome State Fault Refusal :=
  .next <| s.lisJob at_ 0x12 (fmtR rd ra rb 0) fun r =>
    { r.put rd (lisQuot (r.get ra) (r.get rb)).1 with sat := r.sat || (lisQuot (r.get ra) (r.get rb)).2 }

/-- MIN (R252). -/
def execLisMin (at_ : LisAt) (rd ra rb : Fin 16) (s : State) : Host.Outcome State Fault Refusal :=
  .next <| s.lisJob at_ 0x14 (fmtR rd ra rb 0) fun r => r.put rd (min (r.get ra) (r.get rb))

/-- MAX (R252). -/
def execLisMax (at_ : LisAt) (rd ra rb : Fin 16) (s : State) : Host.Outcome State Fault Refusal :=
  .next <| s.lisJob at_ 0x15 (fmtR rd ra rb 0) fun r => r.put rd (max (r.get ra) (r.get rb))

/-- CLMP (R252, R254): RA clamped to ±|RB|, |RB| being at most 2,147,483,647. -/
def execLisClmp (at_ : LisAt) (rd ra rb : Fin 16) (s : State) : Host.Outcome State Fault Refusal :=
  .next <| s.lisJob at_ 0x16 (fmtR rd ra rb 0) fun r =>
    let m : Int := min (r.get rb).natAbs 2147483647
    r.sets rd (min (max (r.get ra) (-m)) m)

/-- ABS (R254). -/
def execLisAbs (at_ : LisAt) (rd ra : Fin 16) (s : State) : Host.Outcome State Fault Refusal :=
  .next <| s.lisJob at_ 0x17 (fmtR rd ra 0 0) fun r => r.sets rd (r.get ra).natAbs

/-- AND (R252). -/
def execLisAnd (at_ : LisAt) (rd ra rb : Fin 16) (s : State) : Host.Outcome State Fault Refusal :=
  .next <| s.lisJob at_ 0x18 (fmtR rd ra rb 0) fun r => r.put rd (toS 32 (ofS 32 (r.get ra) &&& ofS 32 (r.get rb)))

/-- OR (R252). -/
def execLisOr (at_ : LisAt) (rd ra rb : Fin 16) (s : State) : Host.Outcome State Fault Refusal :=
  .next <| s.lisJob at_ 0x19 (fmtR rd ra rb 0) fun r => r.put rd (toS 32 (ofS 32 (r.get ra) ||| ofS 32 (r.get rb)))

/-- XOR (R252). -/
def execLisXor (at_ : LisAt) (rd ra rb : Fin 16) (s : State) : Host.Outcome State Fault Refusal :=
  .next <| s.lisJob at_ 0x1A (fmtR rd ra rb 0) fun r => r.put rd (toS 32 (ofS 32 (r.get ra) ^^^ ofS 32 (r.get rb)))

/-- SHL (R248). -/
def execLisShl (at_ : LisAt) (rd ra : Fin 16) (sh : Fin 32) (s : State) : Host.Outcome State Fault Refusal :=
  .next <| s.lisJob at_ 0x1B (fmtR rd ra 0 sh) fun r => r.sets rd (r.get ra * 2 ^ sh.val)

/-- ASR (R254): with RND the shift rounds. -/
def execLisAsr (at_ : LisAt) (rd ra : Fin 16) (sh : Fin 32) (rnd : Bool) (s : State) : Host.Outcome State Fault Refusal :=
  .next <| s.lisJob at_ 0x1C (fmtR rd ra 0 (sh + 32 * b2n rnd)) fun r =>
    r.put rd (if rnd then rndShift (r.get ra) sh else r.get ra / 2 ^ sh.val)

/-- SEL (R252). -/
def execLisSel (at_ : LisAt) (rd ra rb : Fin 16) (p : Fin 4) (s : State) : Host.Outcome State Fault Refusal :=
  .next <| s.lisJob at_ 0x1D (fmtR rd ra rb p) fun r => r.put rd (if r.pred p then r.get ra else r.get rb)

/-- CMPLT (R252). -/
def execLisCmplt (at_ : LisAt) (pd : Fin 4) (ra rb : Fin 16) (s : State) : Host.Outcome State Fault Refusal :=
  .next <| s.lisJob at_ 0x20 (fmtC pd ra rb 0) fun r => r.putP pd (decide (r.get ra < r.get rb))

/-- CMPLE (R252). -/
def execLisCmple (at_ : LisAt) (pd : Fin 4) (ra rb : Fin 16) (s : State) : Host.Outcome State Fault Refusal :=
  .next <| s.lisJob at_ 0x21 (fmtC pd ra rb 0) fun r => r.putP pd (decide (r.get ra ≤ r.get rb))

/-- CMPEQ (R252). -/
def execLisCmpeq (at_ : LisAt) (pd : Fin 4) (ra rb : Fin 16) (s : State) : Host.Outcome State Fault Refusal :=
  .next <| s.lisJob at_ 0x22 (fmtC pd ra rb 0) fun r => r.putP pd (decide (r.get ra = r.get rb))

/-- TBIT (R252). -/
def execLisTbit (at_ : LisAt) (pd : Fin 4) (ra : Fin 16) (b : Fin 32) (s : State) : Host.Outcome State Fault Refusal :=
  .next <| s.lisJob at_ 0x23 (fmtC pd ra 0 b) fun r => r.putP pd (bit (ofS 32 (r.get ra)) b)

/-- CMPLTI (R252). -/
def execLisCmplti (at_ : LisAt) (pd : Fin 4) (ra : Fin 16) (imm : BitVec 15) (s : State) : Host.Outcome State Fault Refusal :=
  .next <| s.lisJob at_ 0x24 (fmtCI pd ra imm.toNat) fun r => r.putP pd (decide (r.get ra < imm.toInt))

/-- CMPGTI (R252). -/
def execLisCmpgti (at_ : LisAt) (pd : Fin 4) (ra : Fin 16) (imm : BitVec 15) (s : State) : Host.Outcome State Fault Refusal :=
  .next <| s.lisJob at_ 0x25 (fmtCI pd ra imm.toNat) fun r => r.putP pd (decide (imm.toInt < r.get ra))

/-- An image read takes its value, or 0 with a count (R249, R250). -/
def State.lisImage (s : State) (r : Run) (rd sel : Nat) (idx : Int) : State :=
  match s.imgRead r.job sel idx with
  | some v => s.setRun (r.put rd v)
  | none => ((if s.isActive r.job.die then s.bump LPA_CNT_IMGERR.COUNT else s).pmcAdd r.job.die r.job.core evImgErr (some r.job.cls) 1).setRun (r.put rd 0)

/-- LDI (R249). -/
def execLisLdi (at_ : LisAt) (rd : Fin 16) (sel : Fin 32) (idx : BitVec 14) (s : State) : Host.Outcome State Fault Refusal :=
  .next <| s.lis at_ (lisWord 0x28 at_ (fmtM rd sel idx.toNat)) 0 fun s r => s.lisImage r rd sel idx.toNat

/-- LDX (R249). -/
def execLisLdx (at_ : LisAt) (rd : Fin 16) (sel : Fin 32) (ra : Fin 16) (s : State) : Host.Outcome State Fault Refusal :=
  .next <| s.lis at_ (lisWord 0x29 at_ (fmtM rd sel ra)) 0 fun s r => s.lisImage r rd sel (r.get ra)

/-- LDK (R245, R246): the word the job wrote, or the context's at its release. -/
def execLisLdk (at_ : LisAt) (rd : Fin 16) (k : Fin 8) (s : State) : Host.Outcome State Fault Refusal :=
  .next <| s.lis at_ (lisWord 0x2A at_ (fmtK rd 0 k)) 0 fun s r =>
    s.setRun (r.put rd (toS 32 ((aget r.k k).getD ((r.job.k[k.val]?).getD 0))))

/-- STK (R246). -/
def execLisStk (at_ : LisAt) (ra : Fin 16) (k : Fin 8) (s : State) : Host.Outcome State Fault Refusal :=
  .next <| s.lisJob at_ 0x2B (fmtK 0 ra k) fun r => { r with k := aput r.k k (ofS 32 (r.get ra)) }

/-- RDPC (R255): a counter of the core, if PMC_ACCESS allows the program's domain. Where in its frame the read falls is
open: the cycle counter's last digit base 30 is a free value. -/
def execLisRdpc (at_ : LisAt) (rd : Fin 16) (n : Fin 8) (s : State) : Host.Outcome State Fault Refusal :=
  .next <| s.lis at_ (lisWord 0x30 at_ (fmtR rd 0 0 n)) 0 fun s r =>
    let dom := s.load (progAddr (s.ctxProg r.job.ctx) + 6) 1 % 32
    let s1 := s.pmcAdd at_.die at_.core evRdpc (some r.job.cls) 1
    if !s.on PMC_ACCESS.RDPC at_.die dom then
      (if s.isActive at_.die then s1.bump LPA_CNT_RDPC_DENY.COUNT else s1).setRun (r.put rd 0)
    else if n.val < 2 then
      let (d, s2) := s1.draw 5
      let c := match r.snap with | some c => c | none => (s1.pmcCyc at_.die at_.core + d % 30) % 2 ^ 64
      let s3 := match r.snap with | some _ => s1 | none => s2
      s3.setRun { r.put rd (toS 32 (c / 2 ^ (32 * n.val))) with snap := some c }
    else
      let s2 := s1.pmcAccrue at_.die at_.core
      s2.setRun (r.put rd (toS 32 (s2.rd PMC_CNT.COUNT at_.die at_.core (n - 2))))

end Sys2Proof.Machine
end

