-- ==== Sys2Proof/Machine/Profile.lean ====
section
/-! DEFINITION. The Profile and Stimulus Unit (chapter 10): generator updates and stimulus players. -/
namespace Sys2Proof.Machine

/-! ### Generators (R267 to R275) -/

/-- A code of rank 3 goes to its tile for apply frame `f` (R144, R267). -/
def State.sendCode (s : State) (ch code f : Nat) : State :=
  let w : CodeWrite := { ch := ch, code := code, apply := f, rank := 3, die := s.active, taken := 0 }
  { s with drv := { s.drv with down := s.drv.down ++ [w] } }

/-- The commit cycle in progress names a channel (R104). -/
def State.inCycle (s : State) (ch : Nat) : Bool :=
  match s.pln.cycle with | some c => (s.reqChans c.req).contains ch | none => false

/-- A generator hands its channel back at frame `h` (R274): its loops resume in the entry's class, after V + 7 too. A commit
cycle that names the channel keeps them paused, and the entry's class is then the one before that commit. -/
def State.handBack (s : State) (g : Gen) (h : Nat) : State :=
  let s1 := s.releaseGen g.ch
  let cls := s1.classFor g.ch g.cls
  if s.inCycle g.ch then s1.setCclass g.ch (s1.cclass g.ch / 4 * 4 + cls % 4) else s1.resumeLoops g.ch cls h

/-- The generator of a number that the staged commit allocates and whose first write is to be sent before C (R267, R273): its
update frame F_0 lies less than 16 frames after C. x0 is an earlier generator's code for C, or LIVE. -/
def State.earlyGen (s : State) (num : Nat) : Option (Cycle × Gen) :=
  match s.pln.cycle with
  | none => none
  | some c =>
    match c.gens.find? fun g => g.2 == num with
    | none => none
    | some g =>
      match c.stage.find? fun x => x.ch == g.1 with
      | none => none
      | some x =>
        let f0 := nextAt c.c 32 (g.1 % 32)
        if c.phase ≠ .staged ∨ c.c + 16 ≤ f0 ∨ (aget c.early g.1).isSome then none
        else
          let sent := ((s.drv.queue ++ s.drv.down).filter fun w => w.rank == 3 && w.ch == g.1 && w.due == c.c).getLast?
          let old := s.prf.gens.find? fun o => o.ch == g.1 && o.f0 == c.c && decide (o.u ≤ o.last)
          let x0 := match sent, old with
            | some w, _ => w.code
            | none, some o => o.code o.u
            | none, none => s.live g.1
          some (c, s.makeGen x num 0 c.c x0)

/-- A generator of the staged commit sends its first write, 16 frames before F_0; the writes of an earlier generator from C on are
withdrawn (R267, R273). -/
def State.sendEarly (s : State) (c : Cycle) (g : Gen) : State :=
  let s1 := ((s.reach (g.f0 - 16)).withdraw 3 g.ch c.c).sendCode g.ch (g.code 0) g.f0
  { s1 with pln := { s1.pln with cycle := some { c with early := (g.ch, g.x0) :: c.early } } }

/-- The staged commit takes a channel from an earlier generator, whose writes from C on are not sent (R273). -/
def State.givenUp (s : State) (g : Gen) : Bool :=
  match s.pln.cycle with | some c => (aget c.early g.ch).isSome && decide (c.c ≤ g.f0) && decide (g.u ≤ g.last) | none => false

/-- A busy generator sends its next code, or hands its channel back (R267, R274). -/
def State.profileStep (s : State) (g : Gen) : State :=
  if g.last < g.u then (s.reach (g.f0 - 32)).handBack g (g.f0 - 32)
  else if s.givenUp g then s
  else
    let s1 := (s.reach (g.f0 - 16)).sendCode g.ch (g.code g.u) g.f0
    { s1 with prf := { s1.prf with gens := s1.prf.gens.map fun x =>
      if x.num == g.num then { x with u := x.u + 1, f0 := x.f0 + 32 } else x } }

/-- PROFILE_UPDATE (R267, R274): 16 frames before its next update frame a busy generator sends its code; at its last
update frame it hands its channel back. A generator that the staged commit allocates sends its first code before C where its
update frame asks for it. -/
def execProfileUpdate (gen : Fin 4096) (s : State) : Host.Outcome State Fault Refusal :=
  .next <|
    match s.prf.gens.find? fun g => g.num == gen.val, s.earlyGen gen with
    | none, none => s
    | none, some e => s.sendEarly e.1 e.2
    | some g, none => s.profileStep g
    | some g, some e => if e.2.f0 ≤ g.f0 then s.sendEarly e.1 e.2 else s.profileStep g

/-! ### Segments (R278) -/

/-- The status codes of R291. -/
def stPlayerBusy : Nat := 0x0402
@[inherit_doc stPlayerBusy] def stChannelBusy : Nat := 0x0403
@[inherit_doc stPlayerBusy] def stNoStream : Nat := 0x0405
@[inherit_doc stPlayerBusy] def stSegBad : Nat := 0x0407
@[inherit_doc stPlayerBusy] def stUnboundChannel : Nat := 0x0109

/-- Where a segment's entry and a sample of the wave memory lie (R278). -/
def segAddr (p g : Nat) : Nat := prfBase + 0x20000 + 0x100 * p + 16 * g
@[inherit_doc segAddr] def waveAddr (p k : Nat) : Nat := prfBase + 0x40000 + 0x2000 * p + 2 * k

/-- A segment's values now. -/
def State.segOf (s : State) (p g : Nat) : Seg :=
  let a := segAddr p g
  let f := s.load a 1
  { stream := bit f 0, interp := bit f 1, wait := bit f 2, next := s.load (a + 1) 1, repeats := s.load (a + 2) 2
    start := s.load (a + 4) 2, length := s.load (a + 8) 4 % 2 ^ 24, rate := s.load (a + 12) 4 % 2 ^ 25 }

/-- A segment is valid (R278). -/
def State.segOk (s : State) (p g : Nat) : Bool :=
  let v := s.segOf p g
  (decide (v.next < 16) || v.next == 0xFF) && decide (1 ≤ v.length) && decide (v.rate ≤ 0x1000000) &&
    (v.stream || decide (v.start + v.length ≤ 4096))

/-- The segments reachable from one (R288). -/
def State.segChain (s : State) (p : Nat) : Nat → Nat → List Nat
  | 0, _ => []
  | n + 1, g => if 16 ≤ g then [] else g :: s.segChain p n (s.segOf p g).next

/-! ### Play (R276, R279, R280) -/

/-- A pass of the player's segment starts: it takes the segment's values, and waits if the segment says so and no trigger
is pending (R278, R279). -/
def State.beginPass (s : State) (p : Player) : Player × State :=
  let v := s.segOf p.num p.seg
  let pend := s.on PRF_PL_STATUS.TRIG_PENDING p.num
  let p1 : Player := { p with segv := v, back := [], passFrames := 0, waiting := v.wait && !pend, go := 0 }
  (p1, if v.wait && pend then s.wr PRF_PL_STATUS.TRIG_PENDING 0 p.num else s)

/-- A segment starts (R281): INC takes its RATE unless that is 0. -/
def State.beginSeg (s : State) (p : Player) (g : Nat) : State :=
  let r := (s.segOf p.num g).rate
  let (p1, s1) := s.beginPass { p with seg := g, pass := 0, inc := if r = 0 then p.inc else r }
  s1.setPlayer p1

/-- The signed stimulus value of a player's position, if its samples are there (R280, R284). -/
def State.playValue (s : State) (p : Player) : Option Int :=
  let k := p.pos / 2 ^ 24
  let phi : Nat := p.pos % 2 ^ 24
  let last := decide (p.segv.length ≤ k + 1)
  let at_ (i : Nat) : Option Int :=
    if p.segv.stream then (p.buf[i - k]?).map fun v => toS 16 v
    else some (toS 16 (s.load (waveAddr p.num (p.segv.start + i)) 2))
  if !p.segv.interp then at_ k
  else match at_ k, at_ (if last then k else k + 1) with
    | some a, some b => some (a + ((b - a) * (phi : Nat) + 2 ^ 23) / 2 ^ 24)
    | _, _ => none

/-- The code of a stimulus value (R276). -/
def playCode (p : Player) (target : Nat) (a : Int) : Nat :=
  let c := clampI 0 65535 ((p.base : Int) + (a * toS 16 p.scale + 8192) / 16384)
  (min (max c ((target : Int) - p.dev)) (target + p.dev)).toNat

/-- The position of a coherent rate change: INC × the frames of the pass, at most the start of its last sample (R281). -/
def coherentPos (inc frames length : Nat) : Nat := min (inc * frames) ((length - 1) * 2 ^ 24)

/-- Stream samples go by: those in the buffer leave it, and others are discarded as they arrive (R281, R285). -/
def Player.drop (p : Player) (n : Nat) : Player :=
  { p with buf := p.buf.drop n, consumed := p.consumed + n, owed := p.owed + (n - p.buf.length) }

/-- The player at a position of its pass (R281). A stream pass that goes back plays samples again that it has played, as far as it
has (assumption 50). -/
def Player.moveTo (p : Player) (pos : Nat) : Player :=
  let k := p.pos / 2 ^ 24
  let k' := pos / 2 ^ 24
  if !p.segv.stream then { p with pos := pos }
  else if k ≤ k' then { p.drop (k' - k) with pos := pos, back := (p.buf.take (k' - k)).reverse ++ p.back }
  else
    let m := min (k - k') p.back.length
    { p with pos := if m = k - k' then pos else (k - m) * 2 ^ 24, buf := (p.back.take m).reverse ++ p.buf, back := p.back.drop m
             consumed := p.consumed - m }

/-- A rate write takes effect at the player's next frame (R281); during a time-locked under-run the shadow moves. -/
def Player.takeRate (p : Player) : Player :=
  match p.rate with
  | none => p
  | some (inc, coherent) =>
    let h := p.shadow
    let p1 : Player := { p with inc := inc, rate := none, shadow := { h with inc := inc } }
    if !coherent then p1
    else if p.starved && p.timelock then
      let want := coherentPos inc h.frames h.segv.length
      let pos := if h.segv.stream then max h.pos want else want
      let p2 := if h.segv.stream then p1.drop (pos / 2 ^ 24 - h.pos / 2 ^ 24) else p1
      { p2 with shadow := { h with inc := inc, pos := pos } }
    else p1.moveTo (coherentPos inc p.passFrames p.segv.length)

/-- A jump that is pending is due: the slot of the sample at its request has ended (R282). -/
def Player.jumpDue (p : Player) : Bool :=
  match p.jump with | some (_, k) => p.starved || p.pos / 2 ^ 24 != k | none => false

/-- A close of mode 0 is due: the slot of the sample at its request has ended (R289). -/
def Player.closeDue (p : Player) : Bool :=
  match p.closing with | some (0, k) => p.starved || p.waiting || p.pos / 2 ^ 24 != k | _ => false

/-- The pass has ended (R280). -/
def Player.passOver (p : Player) : Bool := decide (p.segv.length * 2 ^ 24 ≤ p.pos)

/-- A frame's walk of the shadow: the sample slots that end in it, the stream samples among them, the new shadow, and whether it
took the pending trigger. -/
structure Walk where
  ended : Nat
  streamed : Nat
  shadow : Shadow
  trig : Bool
  deriving DecidableEq, Repr

/-- The shadow position of an under-run advances by one frame as play would have (R279, R284, R285, R289): a pass that waits holds
it until a trigger, and a close, or the end of the chain, ends it. -/
def State.walkShadow (s : State) (p : Player) : Walk :=
  let h := p.shadow
  let v := h.segv
  let pend := s.on PRF_PL_STATUS.TRIG_PENDING p.num
  let pos := h.pos + h.inc
  let n := pos / 2 ^ 24 - h.pos / 2 ^ 24
  let streamed := if v.stream then n else 0
  if h.ended then { ended := 0, streamed := 0, shadow := h, trig := false }
  else if h.waiting then { ended := 0, streamed := 0, shadow := { h with waiting := !pend }, trig := pend }
  else if pos < v.length * 2 ^ 24 then
    { ended := n, streamed := streamed, shadow := { h with pos := pos, frames := h.frames + 1 }, trig := false }
  else
    let last := decide (v.repeats ≠ 0 ∧ v.repeats ≤ h.pass + 1)
    let closes := match p.closing with | some (m, _) => m ≤ 1 || last | none => false
    if closes || last && v.next == 0xFF then
      { ended := n, streamed := streamed, shadow := { h with pass := h.pass + 1, ended := true }, trig := false }
    else
      let g := if last then v.next else h.seg
      let w := s.segOf p.num g
      let h1 : Shadow :=
        { seg := g, pass := if last then 0 else h.pass + 1, pos := pos - v.length * 2 ^ 24, segv := w
          inc := if last && w.rate != 0 then w.rate else h.inc, frames := 0, waiting := w.wait && !pend, ended := false }
      { ended := n, streamed := streamed, shadow := h1, trig := w.wait && pend }

/-- The payload of a STREAM_STATUS record of an open player (R292). -/
def State.streamPayload (s : State) (p : Player) : List Byte :=
  leBytes 1 (1 + 2 * b2n p.waiting + 4 * s.rd PRF_PL_STATUS.UNDERRUN p.num + 8 * b2n p.timelock) ++ leBytes 1 p.seg ++
    leBytes 2 0 ++ leBytes 4 p.pass ++ leBytes 4 (p.pos / 2 ^ 24) ++ leBytes 2 p.buf.length ++ leBytes 2 p.code ++
    leBytes 4 p.consumed ++ leBytes 4 (s.rd PRF_PL_MISSED.COUNT p.num) ++ leBytes 4 (s.rd PRF_PL_UNDERRUNS.COUNT p.num) ++
    leBytes 4 p.inc ++ leBytes 16 0

/-- The payload of a STREAM_STATUS record of a player that is not open, as its registers stand (R292, R295, assumption 96). -/
def State.closedPayload (s : State) (n : Nat) : List Byte :=
  leBytes 1 (4 * s.rd PRF_PL_STATUS.UNDERRUN n) ++ leBytes 1 (s.rd PRF_PL_STATUS.SEG n) ++ leBytes 2 0 ++
    leBytes 4 (s.rd PRF_PL_PASS.PASS n) ++ leBytes 4 (s.rd PRF_PL_POS.POS n) ++ leBytes 2 (s.rd PRF_PL_FILL.FILL n) ++
    leBytes 2 (s.rd PRF_PL_CODE.CODE n) ++ leBytes 4 0 ++ leBytes 4 (s.rd PRF_PL_MISSED.COUNT n) ++
    leBytes 4 (s.rd PRF_PL_UNDERRUNS.COUNT n) ++ leBytes 4 (s.rd PRF_PL_RATE.INC n) ++ leBytes 16 0

/-- The open player of a number. -/
def State.player (s : State) (n : Nat) : Option Player := s.prf.players.find? fun p => p.num == n

/-- An open player of a number is handled as `f` says. -/
def State.withPlayer (s : State) (n : Nat) (f : Player → State) : State :=
  match s.player n with | some p => f p | none => s

/-- A player puts out a code for its next frame, which then passes. -/
def State.putFrame (s : State) (p : Player) (code : Nat) : State :=
  let s1 := (s.setPlayer { p with code := code, next := p.next + 1 }).sendCode p.ch code p.next
  s1.recordP 9 p.num (ticksOf p.next) p.next 1000 (s1.streamPayload { p with code := code })

/-- A frame of an under-run (R284, R285): the last code is sent again, and the shadow walks. In time-locked mode the samples it
passes go by, and the end of its chain stops the stream. -/
def State.starvedFrame (s : State) (p : Player) : State :=
  let w := s.walkShadow p
  let s1 := s.bump PRF_PL_MISSED.COUNT w.ended p.num
  let p1 : Player := { p with shadow := w.shadow, passFrames := p.passFrames + 1 }
  if !p.timelock then s1.putFrame p1 p.code
  else
    let s2 := if w.trig then s1.wr PRF_PL_STATUS.TRIG_PENDING 0 p.num else s1
    s2.putFrame { p1.drop w.streamed with stopDue := w.shadow.ended } p.code

/-- The samples that the rest of the stream needs, if it has an end in sight (R284). -/
def Player.rest (p : Player) : Option Nat :=
  if p.segv.next = 0xFF ∧ p.segv.repeats ≠ 0 then some ((p.segv.repeats - p.pass) * p.segv.length - p.pos / 2 ^ 24) else none

/-- The player that plays on after an under-run, where it may (R284, R285, R290): in slip mode once RESUME samples, or the rest of
the stream, are there, or the sample it needs when no more will come; in time-locked mode once the sample that the shadow needs is
there, from the shadow's place. -/
def State.resumed (s : State) (p : Player) : Option Player :=
  if !p.timelock then
    if p.resume ≤ p.buf.length || (match p.rest with | some n => decide (n ≤ p.buf.length) | none => false) ||
        s.on PRF_PL_STATUS.FETCH_ERR p.num && (s.playValue p).isSome then
      some { p with starved := false }
    else none
  else
    let h := p.shadow
    let p1 : Player := { p with starved := false, seg := h.seg, pass := h.pass, pos := h.pos, segv := h.segv, inc := h.inc
                                passFrames := h.frames, waiting := h.waiting, back := [] }
    if h.segv.stream && (p.owed != 0 || (s.playValue p1).isNone) then none else some p1

/-- PLAYER_FRAME_OUTPUT (R276, R280, R284): the player's code for its next frame is sent 16 frames ahead, and the position
advances. A waiting pass and an under-run repeat the last code; after a failed fetch an under-run from which the player cannot
resume ends the stream (R290). A pass end, a jump or a stop that is due comes first. A sample that cannot be read repeats the last
code too (R402). -/
def execPlayerFrameOutput (player : Fin 32) (ecc : Option EccHit) (s : State) : Host.Outcome State Fault Refusal :=
  .next <| s.withPlayer player fun p =>
    if !p.started || p.stopDue || p.jumpDue || p.closeDue || p.passOver then s
    else
      let s := (s.reach (p.next - 16)).eccHit ecc
      let lost := s.on PRF_PL_STATUS.FETCH_ERR p.num
      let p := p.takeRate
      let p := if p.starved && lost then (s.resumed p).getD p else p
      if p.starved && lost then (s.reach p.next).stopPlayer p stDmaError
      else if p.starved then s.starvedFrame p
      else if p.waiting && (p.go == 0 || decide (p.next < p.go - 1)) then s.putFrame p p.code
      else
        match s.playValue p with
        | none => s
        | some a =>
          let k := p.pos / 2 ^ 24
          let pos := p.pos + p.inc
          let used := if p.segv.stream && pos / 2 ^ 24 != k then 1 else 0
          s.putFrame { p with waiting := false, go := 0, pos := pos, passFrames := p.passFrames + 1
                              back := p.buf.take used ++ p.back, buf := p.buf.drop used, consumed := p.consumed + used }
            (if ecc.isSome then p.code else playCode p (s.liveTarget p.ch) a)

/-- The player's next segment or pass after the pass that ended, or its stop (R279, R288, R289). -/
def State.nextPass (s : State) (p : Player) : State :=
  let lastPass := decide (p.segv.repeats ≠ 0 ∧ p.segv.repeats ≤ p.pass + 1)
  let s1 := s.occur (128 + p.num)
  let s2 := if lastPass then s1.occur (160 + p.num) else s1
  let p1 : Player := { p with pos := p.pos - p.segv.length * 2 ^ 24, pass := p.pass + 1 }
  let closes := match p.closing with | some (m, _) => m ≤ 1 || lastPass | none => false
  if closes || lastPass && p.segv.next == 0xFF then s2.setPlayer { p1 with stopDue := true }
  else if lastPass then s2.beginSeg p1 p.segv.next
  else
    let (p2, s3) := s2.beginPass p1
    s3.setPlayer p2

/-- PLAYER_PASS_END (R279, R280): the pass in progress has ended. A pending jump replaces the pass end (R282). -/
def execPlayerPassEnd (player : Fin 32) (s : State) : Host.Outcome State Fault Refusal :=
  .next <| s.withPlayer player fun p => if !p.passOver || p.jumpDue || p.stopDue then s else s.nextPass p

/-- A trigger of a player that acts from its output frame `wait` frames after its next (R279). -/
def State.playerTrig (s : State) (n wait : Nat) : State :=
  s.withPlayer n fun p =>
    if p.waiting && p.go == 0 then s.setPlayer { p with go := p.next + wait + 1 }
    else if s.on PRF_PL_STATUS.TRIG_PENDING n then s.wr PRF_PL_STATUS.TRIG_OVERRUN 1 n
    else s.wr PRF_PL_STATUS.TRIG_PENDING 1 n

/-- PLAYER_TRIGGER (R279): a write of 1 to PRF_PL_CMD.TRIG. -/
def execPlayerTrigger (die : Fin 2) (player : Fin 32) (s : State) : Host.Outcome State Fault Refusal :=
  .next <| s.viaBar0 die (0x401008 + 0x40 * player) fun s => s.playerTrig player 0

/-- A jump request of a player (R282). -/
def State.playerJump (s : State) (n : Nat) : State :=
  s.withPlayer n fun p =>
    match p.jump with
    | some _ => s.wr PRF_PL_STATUS.JUMP_OVERRUN 1 n
    | none => s.setPlayer { p with jump := some (s.rd PRF_PL_CTL.JUMP_SEG n, p.pos / 2 ^ 24) }

/-- PLAYER_JUMP (R282): a write of 1 to PRF_PL_CMD.JUMP. -/
def execPlayerJump (die : Fin 2) (player : Fin 32) (s : State) : Host.Outcome State Fault Refusal :=
  .next <| s.viaBar0 die (0x401008 + 0x40 * player) fun s => s.playerJump player

/-- JUMP_APPLY (R282): the slot of the sample at the request has ended, or an under-run is in progress; the first sample of
the target segment's first pass follows, with the fraction carried over. -/
def execJumpApply (player : Fin 32) (s : State) : Host.Outcome State Fault Refusal :=
  .next <| s.withPlayer player fun p =>
    match p.jump with
    | none => s
    | some (g, _) =>
      if !p.started || !p.jumpDue || p.stopDue then s
      else s.beginSeg { p with jump := none, pos := p.pos % 2 ^ 24, starved := false } g

/-- RATE_WRITE (R281): a write of PRF_PL_RATE; INC outside 1 to 0x100_0000 is refused. -/
def execRateWrite (die : Fin 2) (player : Fin 32) (value : Word) (s : State) : Host.Outcome State Fault Refusal :=
  .next <| s.viaBar0 die (0x40100C + 0x40 * player) fun s =>
    let inc := value.toNat % 2 ^ 25
    if inc = 0 ∨ 0x1000000 < inc then s.wr PRF_STATUS.CFG_REJECT 1
    else
      let s1 := s.withPlayer player fun p => s.setPlayer { p with rate := some (inc, bit value.toNat 31) }
      s1.wr PRF_PL_RATE.INC inc player

/-! ### Under-runs (R284, R285) -/

/-- UNDERRUN (R284): the player's next frame needs a stream sample that is not there. After a failed fetch the stream ends
(R290). -/
def execUnderrun (player : Fin 32) (s : State) : Host.Outcome State Fault Refusal :=
  .next <| s.withPlayer player fun p =>
    if !p.started || p.stopDue || p.starved || p.jumpDue || p.closeDue || p.passOver || (s.playValue p).isSome ||
        p.waiting && (p.go == 0 || decide (p.next < p.go - 1)) then s
    else
      let s := s.reach (p.next - 16)
      if s.on PRF_PL_STATUS.FETCH_ERR p.num then (s.reach p.next).stopPlayer p stDmaError
      else
        let s1 := ((s.wr PRF_PL_STATUS.UNDERRUN 1 p.num).bump PRF_PL_UNDERRUNS.COUNT 1 p.num).occur (192 + p.num)
        let h : Shadow := { seg := p.seg, pass := p.pass, pos := p.pos, segv := p.segv, inc := p.inc, frames := p.passFrames
                            waiting := false, ended := false }
        s1.starvedFrame { p with starved := true, waiting := false, go := 0, shadow := h }

/-- UNDERRUN_RESUME (R284, R285): play goes on after an under-run. -/
def execUnderrunResume (player : Fin 32) (s : State) : Host.Outcome State Fault Refusal :=
  .next <| s.withPlayer player fun p =>
    match (if p.starved && !p.stopDue then s.resumed p else none) with
    | some q => s.setPlayer q
    | none => s

/-! ### Streaming from host memory (R283) -/

/-- A failed fetch (R290). -/
def State.fetchFail (s : State) (p : Player) : State :=
  (s.setPlayer { p with asked := none }).wr PRF_PL_STATUS.FETCH_ERR 1 p.num

/-- The ring set of a stream's STREAM_OPEN. -/
def State.streamRing (s : State) (p : Player) : Nat := match s.desc p.desc with | some d => d.ring | none => 0

/-- STREAM_FETCH (R81, R283): with room for 1,024 samples, at most once every 16 frames, and while the reads outstanding allow it,
the device reads the tail word, which is `tail` or fails, and asks for up to 2 KiB of what it covers, not past the ring's end. -/
def execStreamFetch (player : Fin 32) (tail : HostRead (Option Word)) (s : State) : Host.Outcome State Fault Refusal :=
  .next <| s.withPlayer player fun p =>
    if p.asked.isSome || s.on PRF_PL_STATUS.FETCH_ERR p.num || 8192 < p.buf.length + 1024 || p.ring == 0 || !s.readSlot then s
    else
      let s := ((s.reach p.fetchAt).emit (.read s.active p.tailAddr 4)).poison tail.poisoned (s.streamRing p) p.tailAddr
      match tail.data with
      | none => s.fetchFail p
      | some t =>
        if t.toNat % 2 = 1 then s.fetchFail p
        else
          let size := 2 ^ p.ringLog2
          let off := p.fetched % size
          let n := min (min ((t.toNat + 2 ^ 32 - p.fetched % 2 ^ 32) % 2 ^ 32) (2 * (8192 - p.buf.length)))
            (min 2048 (size - off))
          let p1 : Player := { p with fetchAt := s.now + 16, asked := if n = 0 then none else some n }
          let s1 := s.setPlayer p1
          if n = 0 then s1 else s1.emit (.read s.active (p.ring + off) n)

/-- STREAM_FETCH_DONE (R81, R283, R285): the samples arrive, those that the shadow has passed are discarded, and the head word is
written. -/
def execStreamFetchDone (player : Fin 32) (samples : HostRead (Option (List (BitVec 16)))) (s : State) :
    Host.Outcome State Fault Refusal :=
  .next <| s.withPlayer player fun p =>
    match p.asked with
    | none => s
    | some n =>
      let s := s.poison samples.poisoned (s.streamRing p) (p.ring + p.fetched % 2 ^ p.ringLog2)
      match samples.data with
      | none => s.fetchFail p
      | some l =>
        if 2 * l.length < n then s.fetchFail p
        else
          let got := (l.take (n / 2)).map BitVec.toNat
          let gone := min p.owed got.length
          let p1 : Player := { p with asked := none, fetched := p.fetched + n, buf := p.buf ++ got.drop gone
                                      owed := p.owed - gone, consumed := p.consumed + gone }
          (s.setPlayer p1).toHost p.headAddr (leBytes 4 p1.fetched)

/-! ### STREAM_OPEN and STREAM_CLOSE (R286 to R289) -/

/-- A ring's domain may open and close a player (R286). -/
def State.ownsPlayer (s : State) (dom p : Nat) : Bool := dom == 0 || s.rd PRF_PL_OWNER.DOMAIN p == dom

/-- The fields of a STREAM_OPEN body are valid (R287). -/
def State.openBodyOk (s : State) (d : Desc) : Bool :=
  let p := d.fld 8 1
  let streams := (s.segChain p 16 (d.fld 12 1)).any fun g => (s.segOf p g).stream
  decide (p < 32) && decide (d.fld 9 1 < 8) && decide (d.fld 10 2 < 16384) && decide (d.fld 12 1 < 16) && d.fld 13 1 == 0 &&
    decide (d.fld 20 2 ≤ 8192) && d.fld 22 2 == 0 && d.fld 32 8 % 4096 == 0 && zeros d.bytes 41 7 && d.fld 48 8 % 4 == 0 &&
    d.fld 56 8 % 4 == 0 && decide (12 ≤ d.fld 40 1) && decide (d.fld 40 1 ≤ 24) && streams == (d.fld 32 8 != 0)

/-- The status with which R288 completes a STREAM_OPEN at acceptance, OK where it passes. -/
def State.openStatus (s : State) (d : Desc) : Nat :=
  let p := d.fld 8 1
  let dom := d.dom
  let ch := d.fld 10 2
  let mine := match s.elemAt ch with
    | some e => (s.elem e).domain == dom && !(s.elem e).opOnly
    | none => false
  if !s.openBodyOk d then stBadField
  else if !s.ownsPlayer dom p || !(dom == 0 || mine) then stDomainDenied
  else if (s.elemAt ch).isNone then stUnboundChannel
  else if (s.player p).isSome then stPlayerBusy
  else if !(s.segChain p 16 (d.fld 12 1)).all (s.segOk p) then stSegBad
  else if !bit (d.fld 9 1) 0 && s.timeOut (d.fld 24 8) then stTimeRange
  else if !bit (d.fld 9 1) 0 && d.strict && decide (tickDiff (d.fld 24 8) s.ticks < 0) then stLateReject
  else stOK

/-- STREAM_OPEN (R287, R288): an accepted stream waits for its start frame. -/
def execStreamOpen (id : Nat) (s : State) : Host.Outcome State Fault Refusal :=
  .next <| s.withOp id opStreamOpen fun d =>
    if s.prf.players.any fun p => p.desc == id then s
    else
      let st := s.openStatus d
      if st ≠ stOK then s.done d st
      else
        let p := d.fld 8 1
        let dom := d.dom
        let now_ := bit (d.fld 9 1) 0
        let t := d.fld 24 8
        let past := !now_ && decide (tickDiff t s.ticks < 0)
        let lim := s.rd PRF_DEV_LIMIT.DEV dom
        let start := if now_ then s.now else max s.now (s.frameAt t)
        let v := s.segOf p (d.fld 12 1)
        let x : Player :=
          { num := p, desc := id, ch := d.fld 10 2, start := start, started := false, next := start
            late := if past then some (lateResult (tickDiff s.ticks t).toNat) else none
            timelock := bit (d.fld 9 1) 1, baseTgt := bit (d.fld 9 1) 2, base := d.fld 16 2, scale := d.fld 14 2
            dev := if d.fld 18 2 = 0 then lim else min (d.fld 18 2) lim
            resume := if d.fld 20 2 = 0 then 512 else d.fld 20 2, ring := d.fld 32 8, ringLog2 := d.fld 40 1
            tailAddr := d.fld 48 8, headAddr := d.fld 56 8, seg := d.fld 12 1, segv := v, pass := 0, pos := 0
            inc := s.rd PRF_PL_RATE.INC p, rate := none, passFrames := 0, waiting := false, go := 0, jump := none, buf := [], back := []
            consumed := 0, fetched := 0, asked := none, fetchAt := s.now, starved := false, owed := 0,
            shadow := { seg := 0, pass := 0, pos := 0, segv := v, inc := 0, frames := 0, waiting := false, ended := false }
            code := 0, closing := none, closers := [], stopDue := false }
        let s1 := (((s.wr PRF_PL_MISSED.COUNT 0 p).wr PRF_PL_UNDERRUNS.COUNT 0 p).wr PRF_PL_STATUS.FETCH_ERR 0 p).wr
          PRF_PL_STATUS.TRIG_PENDING 0 p
        ({ s1 with prf := { s1.prf with players := s1.prf.players ++ [x] } } : State).playerRefresh x

/-- STREAM_START (R288): at its start frame a stream takes its channel, whose loops pause, unless the channel is taken. -/
def execStreamStart (player : Fin 32) (s : State) : Host.Outcome State Fault Refusal :=
  .next <| s.withPlayer player fun p =>
    if p.started || p.stopDue then s
    else
      let s := s.reach p.start
      if s.hasGen p.ch || !(s.playersOf p.ch).isEmpty || s.inCycle p.ch then s.stopPlayer p stChannelBusy
      else
        let base := if p.baseTgt then s.liveTarget p.ch else p.base
        let p1 : Player := { p.takeRate with started := true, base := base, code := s.live p.ch, next := s.now, start := s.now }
        (s.pauseLoops p.ch).beginSeg p1 p.seg

/-- STREAM_CLOSE (R289). -/
def execStreamClose (id : Nat) (s : State) : Host.Outcome State Fault Refusal :=
  .next <| s.withOp id opStreamClose fun d =>
    let n := d.fld 8 1
    let mode := d.fld 9 1
    if s.prf.players.any fun p => p.closers.contains id then s
    else if 31 < n || 2 < mode || !zeros d.bytes 10 54 then s.done d stBadField
    else if !s.ownsPlayer d.dom n then s.done d stDomainDenied
    else match s.player n with
      | none => s.done d stNoStream
      | some p =>
        let k := p.pos / 2 ^ 24
        let c := match p.closing with | some (m, k0) => if mode < m then (mode, k) else (m, k0) | none => (mode, k)
        s.setPlayer { p with closing := some c, closers := p.closers ++ [id], stopDue := p.stopDue || !p.started }

/-- STREAM_STOP (R288, R289): a stream that has ended, or whose close is due, stops. -/
def execStreamStop (player : Fin 32) (s : State) : Host.Outcome State Fault Refusal :=
  .next <| s.withPlayer player fun p =>
    if p.stopDue || p.closeDue then (if p.started then s.reach p.next else s).stopPlayer p stOK else s

/-! ### Telemetry records -/

/-- The players of a telemetry ring's STREAM_STATUS bindings that put out no frames, being closed or not started, have a record
formed in each period (R292). -/
def State.idleStreams (s : State) (tq : Nat) : State :=
  let bs := s.hpt.bindings.filter fun b => b.type == 9 && b.tq == tq
  let ns := ((bs.flatMap fun b => (List.range b.count).map fun i => b.first + i).dedup).filter fun n =>
    match s.player n with | some p => !p.started | none => true
  ns.foldl (fun t n => t.recordP 9 n t.ticks t.now 1000 (match t.player n with
    | some p => t.streamPayload p
    | none => t.closedPayload n)) s

/-- TELEMETRY_RECORD (R76): the oldest record formed for the ring is written at its tail, or dropped and counted when
the ring is full or not enabled. The next record written after a drop carries LOST. -/
def execTelemetryRecord (tq : Fin 16) (s : State) : Host.Outcome State Fault Refusal :=
  .next <| (s.idleStreams tq).writeRecord tq

end Sys2Proof.Machine
end

