-- ==== Sys2Proof/Machine/Cal.lean ====
section
/-! DEFINITION. Calibration and the Almanac (chapter 11): temperatures and zones, channel measurements, the flash log and
CAL_RUN. A unit is a channel, or 16,384 plus a module-wide spare number. -/
namespace Sys2Proof.Machine

/-- The Calibration Manager's status codes (R315). -/
def stCalDisabled : Nat := 0x0601
@[inherit_doc stCalDisabled] def stBadRecord : Nat := 0x0602
@[inherit_doc stCalDisabled] def stFlashFail : Nat := 0x0605

/-! ### Units (R14, R298, R304, R307) -/

/-- The unit of spare `n`. -/
def spareUnit (n : Nat) : Nat := 16384 + n

/-- The group of a unit, numbered over the module. -/
def unitGroup (u : Nat) : Nat := if u < 16384 then u / 32 else u - 16384

/-- The zone of a unit: the ZONE of its element, or zone 64 + t for a spare of tile t (R297, R298). -/
def State.unitZone (s : State) (u : Nat) : Option Nat :=
  if u < 16384 then (s.elemAt u).map fun e => (s.elem e).zone else some (64 + (u - 16384) / 64)

/-- Where the record in force of a unit stands in the Almanac view (R307). -/
def recAddr (u : Nat) : Nat := almBase + 16 * u

/-- The ID of a unit's record (R304). -/
def unitId (u : Nat) (ax : Bool) : Nat := (if u < 16384 then u else 0x8000 + (u - 16384)) + 0x4000 * b2n ax

/-- The unit that a record names, if its ID is well formed (R304). -/
def recUnit (bs : List Byte) : Option Nat :=
  let id := field bs 0 2
  if bit id 15 then (if bits id 9 5 = 0 then some (spareUnit (bits id 0 9)) else none) else some (bits id 0 14)

/-- A record's CHECK verifies (R304). -/
def recOk (bs : List Byte) : Bool := crc32c (bs.take 12) == field bs 12 4

/-- The trims and cells that a record gives (R299, R300, R304). -/
def recTrims (bs : List Byte) : Nat := field bs 2 1 + 256 * field bs 3 1 + 65536 * field bs 4 2

/-- The trims and cells in force of a unit (R300, R310): with AXMODE = 1 the gain trim is held at 0, with AXMODE = 0 every
group uses its working cells. -/
def State.trimsOf (s : State) (u : Nat) : Nat :=
  let t := nget s.cal.trims u
  if s.on CAL_CTL.AXMODE then t % 256 + t / 65536 * 65536 else t % 65536

/-! ### Temperatures and zones (R296 to R298, R316) -/

/-- A zone is due or latched (R317). -/
def State.zoneDue? (s : State) (z : Nat) : Bool := bit (s.rd CAL_PENDING.PENDING (z / 32)) (z % 32)

/-- The state with a zone's bit of CAL_PENDING written. -/
def State.setZoneDue (s : State) (z : Nat) (v : Bool) : State :=
  let w := s.rd CAL_PENDING.PENDING (z / 32)
  s.wr CAL_PENDING.PENDING (if v then setBit w (z % 32) else clrBit w (z % 32)) (z / 32)

/-- The module is in Dusk (R473). -/
def State.dusk (s : State) : Bool := s.on PWR_STATUS.DUSK

/-- A zone becomes due (R297, R298, R303): it is latched while its pass runs and in Dusk, and overruns while latched. -/
def State.zoneDue (s : State) (z : Nat) : State :=
  if s.on CAL_ZONE.PENDING z then s.wr CAL_STATUS.OVERRUN 1
  else
    let s1 := s.setZoneDue z true
    let s2 := if s.on CAL_ZONE.RUNNING z || s.dusk then s1.wr CAL_ZONE.PENDING 1 z else s1
    let s3 := if s.dusk then s2.wr CAL_STATUS.DUSK_WAIT 1 else s2
    if s.zoneDue? z then s3 else { s3 with cal := { s3.cal with zoneAt := nset s3.cal.zoneAt z (s.now + 1) } }

/-- The payload of a TEMPERATURE record (R316). -/
def State.tempPayload (s : State) (z lo hi : Nat) : List Byte :=
  leBytes 2 (s.rd CAL_TEMP.TEMP z) ++ leBytes 2 (s.rd CAL_ZONE.REF z) ++ leBytes 2 (lo + 32768) ++ leBytes 2 (hi + 32768) ++
    leBytes 1 (b2n (s.on CAL_ZONE.PENDING z) + 2 * b2n (s.on CAL_ZONE.RUNNING z) + 4 * b2n (s.on CAL_TEMP.SENSOR_BAD z)) ++
    leBytes 39 0

/-- The reading of a sensor enters the period of every binding that covers it, and is recorded at the period's end (R316).
-/
def State.recordTemp (s : State) (z : Nat) : State :=
  let v := (s.rd CAL_TEMP.TEMP z + 32768) % 65536
  (s.bound 5 z).foldl (fun t b =>
    let key := 128 * b.num + z
    let (lo, hi) := match aget t.cal.span key with | some (l, h) => (min l v, max h v) | none => (v, v)
    let k := s.now / (Config.framesPerUs * (if b.period = 0 then 1000 else b.period)) + 1
    if nget t.hpt.period (65536 * b.num + z) = k then { t with cal := { t.cal with span := aput t.cal.span key (lo, hi) } }
    else { t with
      cal := { t.cal with span := adel t.cal.span key }
      hpt := { t.hpt with
        period := nset t.hpt.period (65536 * b.num + z) k
        telq := t.hpt.telq ++ [{ num := b.num, tq := b.tq, type := 5, source := z, stamp := t.ticks, payload := t.tempPayload z lo hi }] } }) s

/-- One sensor is converted (R296, R297, R345). -/
def State.convert (s : State) (z raw : Nat) : State :=
  let v := toS 16 raw
  let valid := decide (-5500 ≤ v) && decide (v ≤ 15000)
  let s1 := ((s.wr CAL_TEMP.TEMP raw z).wr CAL_TEMP.VALID (b2n valid) z).wr CAL_TEMP.SENSOR_BAD (b2n !valid) z
  let s2 := if !valid then s1.raise (srcModule 10) 0
    else
      let t : State := { s1 with cal := { s1.cal with lastTemp := nset s1.cal.lastTemp z (raw % 65536 + 1) } }
      if s.on CAL_CTL.ENABLE && s.on CAL_CTL.AUTO && decide (s.rd CAL_DELTA.DELTA < (v - toS 16 (s.rd CAL_ZONE.REF z)).natAbs)
      then t.zoneDue z else t
  (if 64 ≤ z ∧ 12500 < v then s2.raise (srcTile (z - 64) 14) 0 else s2).recordTemp z

/-- TEMP_CONVERSION (R296): at a millisecond boundary every sensor is converted, and zones may become due. `case_` is the
module case sensor's reading (R347). -/
def execTempConversion (readings : List (Fin 72 × BitVec 16)) (case_ : Option (BitVec 16)) (s : State) :
    Host.Outcome State Fault Refusal :=
  .next <|
    let s := s.once 1 (s.duty 1 Config.framesPerMs 0)
    let s1 := readings.foldl (fun t r => t.convert r.1.val r.2.toNat) s
    match case_ with
    | none => s1
    | some c =>
      let s2 : State := { s1 with pins := { s1.pins with caseTemp := c.toNat } }
      if 10000 < c.toInt then s2.raise (srcModule 15) 0 else s2

/-- The units of a zone: its channels, and the idle spares of tile z − 64 (R297, R298). -/
def State.zoneUnits (s : State) (z : Nat) : List Nat :=
  sortBy (fun a b => decide (a ≤ b)) ((s.validElems.filter fun e => (s.elem e).zone == z).map fun e => (s.elem e).channel) ++
    if z < 64 then []
    else ((List.range 64).filter fun g => s.rd DRV_SPARE.REASON (z - 64) g == 0).map fun g => spareUnit (64 * (z - 64) + g)

/-- A CAL_RUN of ZONES or CHANNELS completes when nothing is left to wait for (R312). -/
def State.endRun (s : State) : State :=
  match s.cal.run with
  | none => s
  | some r =>
    if !(r.zones.isEmpty && r.left.isEmpty && r.writes == 0) then s
    else
      let s1 : State := { s with cal := { s.cal with run := none } }
      s1.withDesc r.desc fun d =>
        if r.failed then s1.done d stFlashFail r.written
        else s1.done d stOK (if d.fld 8 1 = 2 then r.written else r.made % 65536 + 65536 * (r.skipped % 65536))

/-- The pass of a zone ends when every unit of it is measured or skipped (R298, R413). A zone that stayed due for a lost tile
is due no longer, unless it is latched (R303). -/
def State.endPass (s : State) (p : Pass) : State :=
  if !p.left.isEmpty then s
  else
    let s0 := if s.on CAL_ZONE.PENDING p.zone then s else s.setZoneDue p.zone false
    let s1 := (s0.wr CAL_ZONE.RUNNING 0 p.zone).occur 487
    let s2 : State := { s1 with cal := { s1.cal with
      passes := s1.cal.passes.filter fun x => x.zone != p.zone
      run := if p.forRun then s1.cal.run.map fun r => { r with
          zones := r.zones.filter fun z => z != p.zone, made := r.made + p.made, skipped := r.skipped + p.skipped }
        else s1.cal.run } }
    s2.endRun

/-- A unit has been measured or skipped: the passes and the CAL_RUN that wait for it go on (R298, R312). -/
def State.unitOver (s : State) (u : Nat) (made : Bool) : State :=
  let m := b2n made
  let s1 : State := { s with cal := { s.cal with
    due := nset s.cal.due u 0
    passes := s.cal.passes.map fun p => if p.left.contains u then
        { p with left := p.left.filter fun x => x != u, made := p.made + m, skipped := p.skipped + (1 - m) } else p
    run := s.cal.run.map fun r => if r.left.contains u then
        { r with left := r.left.filter fun x => x != u, made := r.made + m, skipped := r.skipped + (1 - m) } else r } }
  (s1.cal.passes.foldl State.endPass s1).endRun

/-- Units become due at the current frame (R302). -/
def State.unitsDue (s : State) (us : List Nat) : State :=
  { s with cal := { s.cal with
    due := us.foldl (fun l u => if nget l u = 0 then nset l u (s.now + 1) else l) s.cal.due
    later := s.cal.later.filter fun u => !us.contains u } }

/-- The tile of a unit. -/
def unitTile (u : Nat) : Nat := unitGroup u / 64

/-- The zones whose running passes have units left in a tile stay due (R303). -/
def State.zonesStay (s : State) (tile : Nat) : State :=
  (s.cal.passes.filter fun p => p.left.any fun u => unitTile u == tile).foldl (fun t p => t.setZoneDue p.zone true) s

/-- ZONE_PASS_START (R298, R303): a due zone's pass starts, its reference takes the latest valid reading, and its units become
due. While a tile of its units is lost, and in Dusk, the zone stays due. -/
def execZonePassStart (zone : Fin 72) (s : State) : Host.Outcome State Fault Refusal :=
  .next <|
    let z := zone.val
    let us := s.zoneUnits z
    if !s.zoneDue? z || s.on CAL_ZONE.RUNNING z || !s.on CAL_CTL.ENABLE || s.dusk || us.any fun u => s.tileLost (unitTile u) then s
    else
      let p : Pass := { zone := z, forRun := (match s.cal.run with | some r => r.zones.contains z | none => false)
                        left := us, made := 0, skipped := 0 }
      let s1 := ((s.setZoneDue z false).wr CAL_ZONE.PENDING 0 z).wr CAL_ZONE.RUNNING 1 z
      let s2 := match s.reading z with | some t => s1.wr CAL_ZONE.REF (ofS 16 t) z | none => s1
      let s3 : State := { s2 with cal := { s2.cal with zoneAt := nset s2.cal.zoneAt z 0, passes := s2.cal.passes ++ [p] } }
      (s3.unitsDue us).endPass p

/-! ### Channel measurements (R299 to R303) -/

/-- Frames of a measurement, by mode and by whether it stands behind a takeover (R301). -/
def measFrames (behind current ax : Bool) : Nat :=
  (if !behind then 258 else if current then 340 else 260) + (if ax then 768 else 0)

/-- The unit of a group that is served next: the one due longest, the lower one first (R302). -/
def State.nextDue (s : State) (group : Nat) : Option Nat :=
  let l := s.cal.due.filter fun c => unitGroup c.1 == group
  let first := l.foldl (fun m c => min m c.2) (l.head?.map (·.2) |>.getD 0)
  (l.find? fun c => c.2 == first).map (·.1)

/-- A group may start a measurement (R297, R302, R303). -/
def State.mayMeasure (s : State) (group : Nat) : Bool :=
  s.on CAL_CTL.ENABLE && !s.dusk && !(s.cal.meas.any fun m => m.group == group) &&
    s.rd DRV_SPARE.REASON (group / 64) (group % 64) != 2 && !s.tileLost (group / 64)

/-- CHANNEL_MEASURE_START (R301, R302): the next due unit of a group is measured behind a takeover, directly in REST, or
skipped. -/
def execChannelMeasureStart (tile : Fin 8) (group : Fin 64) (s : State) : Host.Outcome State Fault Refusal :=
  .next <|
    let g := 64 * tile.val + group.val
    if !s.mayMeasure g then s
    else
      match s.nextDue g with
      | none => s
      | some u =>
        let ax := s.on CAL_CTL.AXMODE
        let start (t : State) (behind current : Bool) : State :=
          { t with cal := { t.cal with
            due := nset t.cal.due u 0
            meas := t.cal.meas ++ [{ unit := u, group := g, start := s.now, len := measFrames behind current ax, behind := behind }] } }
        if 16384 ≤ u ∨ s.outState u = stRest then start s false false
        else if s.outState u = stDrive then
          start ((s.setSpare u 1 (u % 32)).chWr DRV_CH_STATE.CAL 1 u) true (s.chOn DRV_CH_STATE.MODE u)
        else
          let s1 : State := { s.bump CAL_SKIP.COUNT with cal := { s.cal with later := u :: s.cal.later } }
          s1.unitOver u false

/-- A trim brought into −128 to 127, and whether it lay outside (R299). -/
def satTrim (x : Int) : Int × Bool := (clampI (-128) 127 x, decide (x < -128) || decide (127 < x))

/-- The choice of a cell group whose step lies closest to 1,024 LSB for each of its cells, the lower one on a tie (R300).
`d` is the unit of the steps. -/
def cellChoice (steps : List Int) (d j : Nat) : Nat :=
  let want : Int := (1024 * (if j = 7 then 7 else 8) * d : Nat)
  let off (k : Nat) : Nat := ((steps[3 * j + k]?).getD 0 - want).natAbs
  if off 1 < off 0 then (if off 2 < off 1 then 2 else 1) else if off 2 < off 0 then 2 else 0

/-- What a measurement comes to (R299, R300): OFF_TRIM, GAIN_TRIM, CELLSEL, and whether a trim was saturated. -/
def calTrims (m : CalMeasure) (ax : Bool) : Int × Int × Nat × Bool :=
  let d : Int := (57344 * (m.den + 1) : Nat)
  let g := satTrim (if ax then 0 else rndDiv (-(m.eHi - m.eLo) * 32768) d)
  let o := satTrim (rndDiv (-8 * (m.eLo * 57344 - 4096 * (m.eHi - m.eLo))) d)
  let cells := if ax then ((List.range 8).map fun j => cellChoice m.steps (m.den + 1) j * 4 ^ j).sum else 0
  (o.1, g.1, cells, o.2 || g.2)

/-- GEN of the curve of a unit's element, 0 for a spare (R304). -/
def State.unitCurve (s : State) (u : Nat) : Nat :=
  if u < 16384 then match s.elemAt u with | some e => (s.loadB (curveAddr e)).toNat | none => 0 else 0

/-- The reading of a unit's sensor at the start of its pass, or the latest outside a pass (R304). -/
def State.unitTemp (s : State) (u : Nat) : Option Nat :=
  match s.cal.passes.find? fun p => p.left.contains u with
  | some p => (s.reading p.zone).map fun _ => s.rd CAL_ZONE.REF p.zone
  | none => ((s.unitZone u).bind s.reading).map (ofS 16)

/-- A record (R304). -/
def recBytes (u : Nat) (ax : Bool) (o g : Int) (cells curve temp minutes : Nat) : List Byte :=
  let b := leBytes 2 (unitId u ax) ++ leBytes 1 (ofS 8 o) ++ leBytes 1 (ofS 8 g) ++ leBytes 2 cells ++ leBytes 1 curve ++
    leBytes 2 temp ++ leBytes 3 minutes
  b ++ leBytes 4 (crc32c b)

/-- A measurement ends (R299 to R301): its trims and cells come into force, the takeover is handed back, and its record
waits for the log. The temperature of a unit that no sensor has read is a free value (assumption 1). -/
def State.measured (s : State) (x : Meas) (m : CalMeasure) : State :=
  let u := x.unit
  let ax := s.on CAL_CTL.AXMODE
  let (o, g, cells, limit) := calTrims m ax
  let (temp, s0) := match s.unitTemp u with | some t => (t, s) | none => s.draw 16
  let bs := recBytes u ax o g cells (s.unitCurve u) temp (s.now / Config.framesPerSec / 60)
  let s1 := if x.behind then s0.unspare u else s0
  let s2 := if limit then (s1.wr CAL_STATUS.TRIM_LIMIT 1).raise (srcModule 11) 0 else s1
  let s3 := ((s2.bump CAL_COUNT.COUNT).wr CAL_LAST_TIME_LO.TICKS s.ticks).wr CAL_LAST_TIME_HI.TICKS (s.ticks / 2 ^ 32)
  let s4 : State := { s3 with cal := { s3.cal with
    meas := s3.cal.meas.filter fun y => y.group != x.group
    trims := nset s3.cal.trims u (recTrims bs)
    toLog := s3.cal.toLog ++ [{ bytes := bs, imported := false }] } }
  s4.unitOver u true

/-- CHANNEL_MEASURE_DONE (R299): a measurement ends. -/
def execChannelMeasureDone (tile : Fin 8) (group : Fin 64) (m : CalMeasure) (s : State) : Host.Outcome State Fault Refusal :=
  .next <|
    match s.cal.meas.find? fun x => x.group == 64 * tile.val + group.val with
    | none => s
    | some x => (s.reach (x.start + x.len)).measured x m

/-! ### The flash log (R308, R309) -/

/-- Where the ring of the log, or of the spare log, starts in a flash die, and its records. -/
def logBase (die : Nat) (spare : Bool) : Nat := 2 ^ 24 * die + (if spare then 2 ^ 20 else 0)
@[inherit_doc logBase] def logSize (spare : Bool) : Nat := if spare then 32768 else 524288

/-- Records in a block of 64 KiB. -/
def logBlock : Nat := 4096

/-- The head of a die's log, in records. -/
def State.logHead (s : State) (die : Nat) (spare : Bool) : Nat :=
  if spare then nget s.flash.spareHead die else nget s.flash.head die

/-- The head moves past a record (R308): a full traversal of the log is counted. -/
def State.logStep (s : State) (die : Nat) (spare : Bool) : State :=
  let h := (s.logHead die spare + 1) % logSize spare
  if spare then { s with flash := { s.flash with spareHead := nset s.flash.spareHead die h } }
  else
    let wear := if h = 0 then nset s.flash.wear die (min 0xFFFFFFFF (nget s.flash.wear die + 1)) else s.flash.wear
    { s with flash := { s.flash with head := nset s.flash.head die h, wear := wear } }

/-- The records of a ring that verify, with their units and their age: how far they stand behind the head. -/
def State.logRecs (s : State) (die : Nat) (spare : Bool) : List (Nat × Nat × Nat × List Byte) :=
  let n := logSize spare
  let h := s.logHead die spare
  (s.flash.cells.filter fun c => decide (logBase die spare ≤ c.1) && decide (c.1 < logBase die spare + n)).filterMap fun c =>
    if recOk c.2 then (recUnit c.2).map fun u => (u, (h + n - 1 - (c.1 - logBase die spare)) % n, c.1, c.2) else none

/-- One record is put at the head. -/
def State.putRec (s : State) (die : Nat) (spare : Bool) (bs : List Byte) : State :=
  let a := logBase die spare + s.logHead die spare
  ({ s with flash := { s.flash with cells := aput s.flash.cells a bs } } : State).logStep die spare

/-- Before the head enters a block the block is erased, and the records in it that are still the latest of their units are
copied to the head (R308). -/
def State.enterBlock (s : State) (die : Nat) (spare : Bool) : Nat → State
  | 0 => s
  | n + 1 =>
    let h := s.logHead die spare
    if h % logBlock ≠ 0 then s
    else
      let lo := logBase die spare + h
      let all := s.logRecs die spare
      let mine := all.filter fun r => decide (lo ≤ r.2.2.1) && decide (r.2.2.1 < lo + logBlock)
      let last := mine.filter fun r => !(all.any fun q => q.1 == r.1 && decide (q.2.1 < r.2.1))
      let s1 : State := { s with flash := { s.flash with
        cells := s.flash.cells.filter fun c => !(decide (lo ≤ c.1) && decide (c.1 < lo + logBlock)) } }
      let s2 := last.foldl (fun t r => t.putRec die spare r.2.2.2) s1
      if last.length < logBlock then s2 else s2.enterBlock die spare n

/-- A record is appended to a die's log (R308). -/
def State.appendRec (s : State) (die : Nat) (bs : List Byte) : State :=
  let spare := bit (field bs 0 2) 15
  (s.enterBlock die spare 128).putRec die spare bs

/-- A die could not write its flash (R309). -/
def State.flashFail (s : State) (die : Nat) : State := (s.wr CAL_STATUS.FLASH_ERR 1).raise (srcDie die 16) 0 die

/-- What `f` writes to the flash of a die in lockstep, or the failure to. -/
def State.flashWrite (s : State) (die : Nat) (ok : Bool) (f : State → State) : State :=
  if s.rd LKS_STATUS.ROLE die = 0 then s else if ok then f (s.restart die 20) else (s.restart die 20).flashFail die

/-- Neither die in lockstep has written its flash. -/
def State.unwritten (s : State) (okA okB : Bool) : Bool :=
  !(okA && s.rd LKS_STATUS.ROLE 0 != 0) && !(okB && s.rd LKS_STATUS.ROLE 1 != 0)

/-- LOG_APPEND (R308, R309): the oldest record that waits is appended to both dies' logs, or lost when neither takes it.
-/
def execLogAppend (okA okB : Bool) (s : State) : Host.Outcome State Fault Refusal :=
  .next <|
    match s.cal.toLog with
    | [] => s
    | r :: rest =>
      let s0 : State := { s with cal := { s.cal with toLog := rest } }
      let s1 := (s0.flashWrite 0 okA fun t => t.appendRec 0 r.bytes).flashWrite 1 okB fun t => t.appendRec 1 r.bytes
      let u := (recUnit r.bytes).getD 0
      let lost := s.unwritten okA okB
      let s2 := if lost then ((s1.bump CAL_UNSAVED.COUNT).wr CAL_STATUS.ALMANAC_ERR 1).unitsDue [u]
        else
          let first := !recOk (s.loadBytes (recAddr u) 16)
          (if first then s1.lower CAL_UNCAL.COUNT else s1).storeBytes (recAddr u) r.bytes
      if !r.imported then s2
      else
        let s3 : State := { s2 with cal := { s2.cal with run := s2.cal.run.map fun x =>
          { x with writes := x.writes - 1, written := x.written + b2n !lost, failed := x.failed || lost } } }
        s3.endRun

/-! ### The enable and CAL_RUN (R297, R311 to R314) -/

/-- CAL_ENABLE (R297, R317): set for the first time since the Dawn, it makes every zone due. -/
def execCalEnable (die : Fin 2) (value : Bool) (s : State) : Host.Outcome State Fault Refusal :=
  .next <| s.viaBar0 die 0x600000 fun s =>
    let s1 := s.wr CAL_CTL.ENABLE (b2n value)
    if value && !s.cal.enabled then
      (List.range 72).foldl State.zoneDue { s1 with cal := { s1.cal with enabled := true } }
    else s1

/-- The body of a CAL_RUN is valid (R311). -/
def calBodyOk (d : Desc) : Bool :=
  let op := d.fld 8 1
  let n := d.fld 10 2
  let first := d.fld 12 4
  let addr := d.fld 16 8
  d.fld 9 1 == 0 && zeros d.bytes 28 36 && (op == 4 || (d.fld 24 2 == 0 && d.fld 26 2 == 0)) && addr % 8 == 0 &&
    match op with
    | 0 => decide (1 ≤ n) && decide (n ≤ 72) && decide (first + n ≤ 72) && addr == 0
    | 1 => decide (1 ≤ n) && decide (n ≤ 16384) && decide (first + n ≤ 16384) && addr == 0
    | 2 => decide (1 ≤ n) && decide (n ≤ 16896) && first == 0
    | 3 => decide (1 ≤ n) && decide (n ≤ 16384) && decide (first + n ≤ 16384)
    | 4 => decide (2 ≤ n) && decide (n ≤ 33) && decide (first < 16384) && decide (d.fld 24 2 < 1024) &&
        decide (40 ≤ d.fld 26 2) && decide (d.fld 26 2 ≤ 20000)
    | 5 => n == 0 && first == 0 && addr == 0
    | _ => false

/-- The CAL_RUN of a descriptor may run now: it is the oldest accepted, and none runs (R311). -/
def State.calMayRun (s : State) (id : Nat) : Bool :=
  s.cal.run.isNone && s.cal.sweep.isNone &&
    ((s.hpt.accepted.find? fun d => d.op == opCalRun).map Desc.id) == some id

/-- A CAL_RUN descriptor of operation `op` runs: a bad body completes at once, as does one with the Calibration Manager
disabled (R311, R312). A descriptor whose OP is none of R311 is met as ZONES and refused. -/
def State.calOp (s : State) (id op : Nat) (f : Desc → State) : State :=
  s.withOp id opCalRun fun d =>
    if !s.calMayRun id || !(d.fld 8 1 == op || op == 0 && decide (5 < d.fld 8 1)) then s
    else if !calBodyOk d then s.done d stBadField
    else if op ≠ 5 ∧ !s.on CAL_CTL.ENABLE then s.done d stCalDisabled
    else f d

/-- The state with a CAL_RUN running. -/
def State.runWith (s : State) (r : CalRun) : State := { s with cal := { s.cal with run := some r } }

/-- ZONES (R312): the zones become due, and the descriptor completes when their passes end. -/
def execZones (id : Nat) (s : State) : Host.Outcome State Fault Refusal :=
  .next <| s.calOp id 0 fun d =>
    let zs := (List.range (d.fld 10 2)).map fun i => d.fld 12 4 + i
    zs.foldl State.zoneDue (s.runWith { desc := id, zones := zs, left := [], made := 0, skipped := 0, writes := 0, written := 0
                                        failed := false })

/-- CHANNELS (R312): the channels become due, and the descriptor completes when each is calibrated or skipped. -/
def execChannels (id : Nat) (s : State) : Host.Outcome State Fault Refusal :=
  .next <| s.calOp id 1 fun d =>
    let us := (List.range (d.fld 10 2)).map fun i => d.fld 12 4 + i
    (s.runWith { desc := id, zones := [], left := us, made := 0, skipped := 0, writes := 0, written := 0, failed := false
                 }).unitsDue us

/-- A record passes the checks of IMPORT (R312, R313). -/
def State.importOk (s : State) (bs : List Byte) : Bool :=
  recOk bs && bit (field bs 0 2) 14 == s.on CAL_CTL.AXMODE &&
    (match recUnit bs with
      | some u => decide (16384 ≤ u) || (s.elemAt u).isSome
      | none => false) &&
    (List.range 8).all fun j => bits (field bs 4 2) (2 * j) 2 != 3

/-- IMPORT (R312, R313): records are checked, then all are used and wait for the log. -/
def execImportRecs (id : Nat) (read : HostRead (List Byte)) (s : State) : Host.Outcome State Fault Refusal :=
  .next <| (s.poisoned read.poisoned id).calOp id 2 fun d =>
    let rs := (List.range (d.fld 10 2)).map fun i => (read.data.drop (16 * i)).take 16
    if read.data.length < 16 * d.fld 10 2 then s.done d stDmaError
    else if !rs.all s.importOk then s.done d stBadRecord
    else
      let s1 := s.runWith { desc := id, zones := [], left := [], made := 0, skipped := 0, writes := rs.length, written := 0
                            failed := false }
      { s1 with cal := { s1.cal with
        toLog := s1.cal.toLog ++ rs.map fun bs => { bytes := bs, imported := true }
        trims := rs.foldl (fun l bs => nset l ((recUnit bs).getD 0) (recTrims bs)) s1.cal.trims } }

/-- The flash cells of one die with curves written from element `first` up. -/
def putCurves (die first : Nat) (cs : List (List Byte)) (s : State) : State :=
  { s with flash := { s.flash with cells := (cs.zipIdx).foldl (fun l c => aput l (2 ^ 24 * die + 2 ^ 21 + first + c.2) c.1) s.flash.cells } }

/-- CURVE_WRITE (R312): curves are checked and written to the parameter arrays, and the channels of their elements become
due. -/
def execCurveWrite (id : Nat) (read : HostRead (List Byte)) (okA okB : Bool) (s : State) : Host.Outcome State Fault Refusal :=
  .next <| (s.poisoned read.poisoned id).calOp id 3 fun d =>
    let first := d.fld 12 4
    let cs := (List.range (d.fld 10 2)).map fun i => (read.data.drop (32 * i)).take 32
    if read.data.length < 32 * d.fld 10 2 then s.done d stDmaError
    else if !cs.all fun c => field c 0 1 != 0 && crc32c (c.take 28) == field c 28 4 then s.done d stBadRecord
    else
      let s1 := (s.flashWrite 0 okA (putCurves 0 first cs)).flashWrite 1 okB (putCurves 1 first cs)
      if s.unwritten okA okB then s1.done d stFlashFail
      else
        let s2 := cs.zipIdx.foldl (fun t c => t.storeBytes (curveAddr (first + c.2)) c.1) s1
        let es := (List.range cs.length).filter fun i => s.isElem (first + i)
        (s2.unitsDue (es.map fun i => (s.elem (first + i)).channel)).done d stOK cs.length

/-- The code of point `k` of a sweep (R314). -/
def State.sweepCode (s : State) (w : Sweep) : Nat := min (w.k * 65535 / (w.count - 1)) (s.elem w.elem).cap

/-- CURVE_SWEEP (R314): the first point is requested. -/
def execCurveSweep (id : Nat) (s : State) : Host.Outcome State Fault Refusal :=
  .next <| s.calOp id 4 fun d =>
    let e := d.fld 12 4
    if !s.isElem e then s.done d stBadField
    else
      let w : Sweep := { desc := id, elem := e, ch := (s.elem e).channel, mon := d.fld 24 2, count := d.fld 10 2
                         dwell := d.fld 26 2, addr := d.fld 16 8, k := 0, c := none, final := false }
      ({ s with cal := { s.cal with sweep := some w } } : State).enqueue (s.sweepReq w.ch (s.sweepCode w))

/-- What a sweep's window of fast samples comes to (R314): the mean corrected code and the flags SAT, SETTLING and GAP. A
mean between two codes is one of them, which is left free, and a window without samples gives a free mean (assumption 1).
-/
def State.sweepMean (s : State) (m start : Nat) : Nat × Nat × State :=
  let xs := s.samples.filter fun x => decide (start ≤ x.frame) && decide (x.frame < start + 1000) && x.reached m (m / 128)
  let vs := xs.map fun x => x.at m
  let sum := (vs.map FastVal.code).sum
  let flags := b2n (vs.any fun v => bit v.flags 0 || bit v.flags 1) + 2 * b2n (vs.any fun v => bit v.flags 2) +
    4 * b2n (decide (xs.length < 250))
  if vs.isEmpty then let r := s.draw 12; (r.1, flags, r.2)
  else if sum % vs.length = 0 then (sum / vs.length, flags, s)
  else let r := s.draw 1; (sum / vs.length + r.1, flags, r.2)

/-- SWEEP_POINT_DONE (R314): the window of a point has ended. The point goes to the host, and the next point, or the final
re-application, is requested. -/
def execSweepPointDone (s : State) : Host.Outcome State Fault Refusal :=
  .next <|
    match s.cal.sweep, s.pln.cycle.any fun c => c.req.origin == .sweep with
    | some w, false =>
      match w.final, w.c with
      | false, some c =>
        let start := nextAt (c + w.dwell) Config.framesPerHold 0
        let s := s.reach (start + Config.framesPerHold)
        let (mean, flags, s1) := s.sweepMean w.mon start
        let s2 := s1.toHost (w.addr + 8 * w.k)
          (leBytes 2 (s.sweepCode w) ++ leBytes 2 mean ++ leBytes 1 flags ++ leBytes 3 0)
        if w.k + 1 < w.count then
          let w' := { w with k := w.k + 1, c := none }
          ({ s2 with cal := { s2.cal with sweep := some w' } } : State).enqueue (s.sweepReq w.ch (s.sweepCode w'))
        else
          let s3 := s2.withDesc w.desc fun d => s2.done d stOK w.count
          ({ s3 with cal := { s3.cal with sweep := some { w with final := true, c := none } } } : State).enqueue
            (s.sweepReq w.ch (s.liveTarget w.ch))
      | _, _ => s
    | _, _ => s

/-- A bit address lies in a coefficient word of a monitor input (R194). -/
def inCoef (k : Nat) : Bool :=
  let a := k / 8
  let o := (a - 0x02000000) % 0x200000
  decide (0x02000000 ≤ a) && decide (a < 0x03000000) && decide (0x10000 ≤ o) && decide (o < 0x14000) &&
    decide (0x40 ≤ o % 0x80) && decide (o % 16 < 12)

/-- MON_SAVE (R312): the coefficients of every monitor input and range are written to the parameter arrays. -/
def execMonSave (id : Nat) (okA okB : Bool) (s : State) : Host.Outcome State Fault Refusal :=
  .next <| s.calOp id 5 fun d =>
    let cs := s.regs.filter fun c => inCoef c.1
    let save (die : Nat) (t : State) : State := { t with flash := { t.flash with coefs := aput t.flash.coefs die cs } }
    let s1 := (s.flashWrite 0 okA (save 0)).flashWrite 1 okB (save 1)
    if s.unwritten okA okB then s1.done d stFlashFail else s1.done d stOK (some 4096)

/-! ### Loading at the Dawn (R310) -/

/-- The youngest record of each unit among those of both dies' rings, the die A copy first on equal ages. -/
def youngest (rs : List (Nat × Nat × Nat × List Byte)) : List (Nat × (Nat × List Byte)) :=
  rs.foldl (fun l r => match aget l r.1 with
    | some (age, _) => if r.2.1 < age then aput l r.1 (r.2.1, r.2.2.2) else l
    | none => aput l r.1 (r.2.1, r.2.2.2)) []

/-- The records of a die's two rings. -/
def State.dieRecs (s : State) (die : Nat) : List (Nat × Nat × Nat × List Byte) := s.logRecs die false ++ s.logRecs die true

/-- A die that lacks a record in force appends it to its own log (R310). -/
def State.mendLog (s : State) (die : Nat) (best : List (Nat × (Nat × List Byte))) : State :=
  let own := youngest (s.dieRecs die)
  (best.filter fun b => (aget own b.1).map (·.2) != some b.2.2).foldl (fun t b => t.appendRec die b.2.2) s

/-- The curve of an element in a die's parameter array, if it is usable. -/
def State.flashCurve (s : State) (die e : Nat) : Option (List Byte) :=
  (aget s.flash.cells (2 ^ 24 * die + 2 ^ 21 + e)).bind fun c => if crc32c (c.take 28) = field c 28 4 then some c else none

/-- The saved coefficient fields take the place of those in the registers (R310). -/
def State.putCoefs (s : State) (cs : List (Nat × Nat)) : State :=
  { s with regs := cs.foldl (fun l c => nset l c.1 c.2) (s.regs.filter fun c => !inCoef c.1) }

/-- The coefficients that a flash die holds are loaded, and a die that lacks them gets them (R310). -/
def State.loadCoefs (s : State) : State :=
  match aget s.flash.coefs 0, aget s.flash.coefs 1 with
  | some cs, _ => { s.putCoefs cs with flash := { s.flash with coefs := aput s.flash.coefs 1 cs } }
  | none, some cs => { s.putCoefs cs with flash := { s.flash with coefs := aput s.flash.coefs 0 cs } }
  | none, none => s

/-- An element's curve is loaded from the flash dies, and a die that lacks it gets it (R310). -/
def State.loadCurve (s : State) (e : Nat) (a b : Option (List Byte)) : State :=
  match a, b with
  | some c, some _ => s.storeBytes (curveAddr e) c
  | some c, none => (putCurves 1 e [c] s).storeBytes (curveAddr e) c
  | none, some c => (putCurves 0 e [c] s).storeBytes (curveAddr e) c
  | none, none => s

/-- Step 6 of the Dawn (R310): the records, curves and coefficients in force are loaded from both flash dies, and copies
that lack one are mended. -/
def State.loadAlmanac (s : State) : State :=
  let best := youngest (s.dieRecs 0 ++ s.dieRecs 1)
  let s1 := ((s.mendLog 0 best).mendLog 1 best).clearMem almBase (almBase + 0x100000)
  let used := best.filter fun b => bit (field b.2.2 0 2) 14 == s.on CAL_CTL.AXMODE
  let s2 := used.foldl (fun t b => t.storeBytes (recAddr b.1) b.2.2) s1
  let s3 : State := { s2 with cal := { s2.cal with trims := used.foldl (fun l b => nset l b.1 (recTrims b.2.2)) [] } }
  let missing := 16896 - used.length
  let s4 := s3.wr CAL_UNCAL.COUNT missing
  let s5 := if missing = 0 then s4 else (s4.wr CAL_STATUS.ALMANAC_ERR 1).raise (srcModule 12) 0
  let es := ((s.flash.cells.filter fun c => decide (2 ^ 21 ≤ c.1 % 2 ^ 24) && decide (c.1 % 2 ^ 24 < 2 ^ 21 + 16384)).map
    fun c => c.1 % 2 ^ 24 - 2 ^ 21).dedup
  (es.foldl (fun t e => t.loadCurve e (s.flashCurve 0 e) (s.flashCurve 1 e)) s5).loadCoefs

end Sys2Proof.Machine
end

