-- ==== Sys2Proof/Machine/Sgf.lean ====
section
/-! DEFINITION. The Signal Fabric (chapter 16): event sources, channels, consumers, the loop detector and timers. -/
namespace Sys2Proof.Machine

/-! ### Routing tables (R424, R425) -/

/-- Where the entry of a source, and of a channel, starts. -/
def srcAddr (n : Nat) : Nat := sgfBase + 16 * n
@[inherit_doc srcAddr] def chanAddr (c : Nat) : Nat := sgfBase + 0x4000 + 16 * c

/-- The number of a source is one that R413 lists. -/
def srcListed (n : Nat) : Bool :=
  decide (n < 440) || decide (448 ≤ n) && decide (n ≤ 457) || decide (480 ≤ n) && decide (n ≤ 487) ||
    decide (512 ≤ n) && decide (n ≤ 519)

/-- The owner domain of a source (R413). -/
def State.srcOwner (s : State) (n : Nat) : Nat := if 128 ≤ n ∧ n < 256 then s.rd PRF_PL_OWNER.DOMAIN (n % 32) else 0

/-- The tile of a tile source (R413). -/
def srcTileOf (n : Nat) : Option Nat :=
  if 256 ≤ n ∧ n < 384 then some ((n - 256) / 16) else if 384 ≤ n ∧ n < 440 then some (n % 8) else none

/-- The channel of a source and whether the source drives it. -/
def State.srcCh (s : State) (n : Nat) : Nat := s.load (srcAddr n) 1
@[inherit_doc State.srcCh] def State.srcEn (s : State) (n : Nat) : Bool := bit (s.load (srcAddr n + 1) 1) 0

/-- A channel's domain, and its flags EN and OPONLY. -/
def State.chanDom (s : State) (c : Nat) : Nat := s.load (chanAddr c) 1
@[inherit_doc State.chanDom] def State.chanEn (s : State) (c : Nat) : Bool := bit (s.load (chanAddr c + 1) 1) 0
@[inherit_doc State.chanDom] def State.chanOp (s : State) (c : Nat) : Bool := bit (s.load (chanAddr c + 1) 1) 1

/-- A source of an owner may drive a channel (R418). -/
def State.mayDrive (s : State) (owner c : Nat) : Bool := owner == 0 || s.chanDom c == owner && !s.chanOp c

/-- A consumer of an owner may take a channel's events (R418). -/
def State.mayHear (s : State) (owner c : Nat) : Bool :=
  owner == 0 || !s.chanOp c && (s.chanDom c == owner || s.chanDom c == 0)

/-- A counter of `n` bytes in a table entry advances, saturating. -/
def State.bumpMem (s : State) (a n : Nat) : State := s.store a n (min (s.load a n + 1) (2 ^ (8 * n) - 1))

/-- A bit of a channel's STATE byte is set: 0 LOOP_OFF, 1 COINCIDE, 2 CONS_OVR, 3 DENY (R425). -/
def State.chanFlag (s : State) (c b : Nat) : State := s.store (chanAddr c + 4) 1 (setBit (s.load (chanAddr c + 4) 1) b)

/-- A bit of a register array of 32-bit words. -/
def State.wordBit (s : State) (f : Fld) (n : Nat) : Bool := bit (s.rd f (n / 32)) (n % 32)

/-- The state with such a bit written. -/
def State.setWordBit (s : State) (f : Fld) (n : Nat) (v : Bool) : State :=
  s.wr f (if v then setBit (s.rd f (n / 32)) (n % 32) else clrBit (s.rd f (n / 32)) (n % 32)) (n / 32)

/-- LOOP_ANY follows the channels that the detector has disabled (R426). -/
def State.loopAny (s : State) : State :=
  s.wr SGF_STATUS.LOOP_ANY (b2n ((List.range 8).any fun w => s.rd SGF_LOOP_OFF.OFF w != 0))

/-- A channel that the detector has disabled is enabled again, from the next frame (R419). -/
def State.reenable (s : State) (c : Nat) : State :=
  let s1 := ((s.store (chanAddr c + 4) 1 (clrBit (s.load (chanAddr c + 4) 1) 0)).setWordBit SGF_LOOP_OFF.OFF c false).loopAny
  { s1 with sgf := { s1.sgf with backAt := nset s1.sgf.backAt c (s1.now + 1) } }

/-! ### Consumers (R416 to R418) -/

/-- An event's delivery to a consumer input is refused (R418). -/
def State.sgfDeny (s : State) (c : Nat) : State := ((s.chanFlag c 3).wr SGF_STATUS.DENY 1).bump SGF_CNT_DENY.COUNT

/-- An event reaches a consumer input of an owner, which acts as `f` says; one that cannot take it is noted (R417, R418).
-/
def State.consume (s : State) (c owner : Nat) (busy : Bool) (f : State → State) : State :=
  if !s.mayHear owner c then s.sgfDeny c
  else if busy then f ((s.chanFlag c 2).bump SGF_CNT_CONSOVR.COUNT)
  else f s

/-- The owner of a monitor's fine trigger: the domain of a port that names the monitor (R417). -/
def State.monOwner (s : State) (m : Nat) : Nat := match s.portOfMonitor m with | some p => (s.port p).domain | none => 0

/-- The frames that an event of a source takes to a tile (R416). -/
def tileDelay (source tile : Nat) : Nat :=
  match srcTileOf source with
  | none => 2
  | some t => if t = tile then 0 else 4

/-- The frames that an event of a source takes to a die (R416). -/
def dieDelay (source : Nat) : Nat := if (srcTileOf source).isNone then 1 else 2

/-- A channel delivers an event of a source to the fine triggers that listen to it (R178). -/
def State.toFine (s : State) (source c : Nat) : State :=
  ((List.range 1024).filter fun m => s.mOn MON_IN_CFG.TRIG_SGF m && s.mRd MON_IN_CFG.SGF_CH m == c &&
      s.eff MON_IN_CFG.FMODE (m / 128) (m % 128) == 2 && !s.tileLost (m / 128)).foldl (fun t m =>
    t.consume c (t.monOwner m) ((t.mon.blocks.any fun b => b.mon == m) || t.mOn MON_IN_STATUS.PENDING m)
      fun t => t.fineTrigger m (t.now + tileDelay source (m / 128))) s

/-- A channel delivers an event to the capture triggers that listen to it (R189). -/
def State.toCapture (s : State) (source c : Nat) : State :=
  ((List.range 8).filter fun t => s.rd MON_CAP_CTL.TRIG t == 1 && s.rd MON_CAP_CTL.SGF_CH t == c && s.on MON_CAP_CTL.EN t &&
      !s.tileLost t).foldl (fun u t =>
    u.consume c 0 (!(u.mon.fill.any fun b => b.tile == t && !b.hit)) fun u => u.capTrigger t (u.now + tileDelay source t)) s

/-- A channel delivers an event to the trigger and jump inputs of the open players that listen to it (R279, R282). -/
def State.toPlayers (s : State) (source c : Nat) : State :=
  (s.prf.players.map fun p => p.num).foldl (fun t n =>
    let owner := t.rd PRF_PL_OWNER.DOMAIN n
    let t1 := if t.on PRF_PL_CTL.TRIG_SRC n && t.rd PRF_PL_CTL.TRIG_SGF n == c then
        t.consume c owner (match t.player n with | some p => !p.waiting || p.go != 0 | none => false)
          fun t => t.playerTrig n (dieDelay source)
      else t
    if t1.on PRF_PL_CTL.JUMP_SRC n && t1.rd PRF_PL_CTL.JUMP_SGF n == c then
      t1.consume c owner (match t1.player n with | some p => p.jump.isSome | none => false) fun t => t.playerJump n
    else t1) s

/-! ### Firing (R414, R415, R419, R420) -/

/-- The index of the millisecond of the current frame. -/
def State.msNow (s : State) : Nat := s.now / Config.framesPerMs

/-- A channel carries an event (R414, R419, R420): it is watched and counted, and delivered unless it exceeds the channel's
limit, which disables the channel. -/
def State.carry (s : State) (source c : Nat) : State :=
  let a := chanAddr c
  let n := (if nget s.sgf.msAt c = s.msNow + 1 then s.load (a + 12) 2 else 0) + 1
  let s1 := ((s.bumpMem (a + 8) 4).store (a + 12) 2 n).setWordBit SGF_WATCH.WATCH c true
  let s2 : State := { s1 with sgf := { s1.sgf with
    msAt := nset s1.sgf.msAt c (s.msNow + 1), fired := nset s1.sgf.fired c (s.now + 1) } }
  let s3 := if s.wordBit SGF_WATCH_EN.EN c then s2.msix (s.rd SGF_VEC.VECTOR) else s2
  if s.load (a + 2) 2 < n then
    let s4 := ((s3.chanFlag c 0).setWordBit SGF_LOOP_OFF.OFF c true).loopAny
    let s5 := if s.on SGF_LOOP_FIRST.VALID then s4 else (s4.wr SGF_LOOP_FIRST.VALID 1).wr SGF_LOOP_FIRST.CHANNEL c
    s5.raise (srcDie s.active 14) 0
  else ((s3.toFine source c).toCapture source c).toPlayers source c

/-- A source fires at the current frame (R414, R415): the channel that it drives carries the event, merges it with one of this
frame, or drops it. -/
def State.fire (s : State) (source : Nat) : State :=
  let s1 := s.bumpMem (srcAddr source + 4) 4
  let s2 : State := { s1 with sgf := { s1.sgf with rearm := nset s1.sgf.rearm source (s.now + 41) } }
  let c := s.srcCh source
  if !s.srcEn source || !s.mayDrive (s.srcOwner source) c then s2
  else if !s.chanEn c || s.wordBit SGF_LOOP_OFF.OFF c || nget s.sgf.backAt c == s.now + 1 then s2.bump SGF_CNT_DROP.COUNT
  else if nget s.sgf.fired c = s.now + 1 then (s2.chanFlag c 1).bump SGF_CNT_COINCIDE.COUNT
  else s2.carry source c

/-- HELD of a source's entry. -/
def State.srcHeld (s : State) (source : Nat) : Bool := bit (s.load (srcAddr source + 1) 1) 1

/-- The state with HELD of a source written. -/
def State.setHeld (s : State) (source : Nat) (v : Bool) : State :=
  let w := s.load (srcAddr source + 1) 1
  s.store (srcAddr source + 1) 1 (if v then setBit w 1 else clrBit w 1)

/-- A source may fire (R413): its number is listed, and it is no tile source of a lost tile. -/
def State.mayFire (s : State) (source : Nat) : Bool :=
  srcListed source && !(match srcTileOf source with | some t => s.tileLost t | none => false)

/-- An occurrence of a source is taken (R413, R415): the source fires, or is held, or merges it. A source fires whether or not
it drives a channel (assumption 53). -/
def State.takeEvent (s : State) (source : Nat) : State :=
  if !s.mayFire source then s
  else if nget s.sgf.rearm source ≤ s.now + 1 then s.fire source
  else if s.srcHeld source then (s.bumpMem (srcAddr source + 8) 4).bump SGF_CNT_SUPPRESS.COUNT
  else s.setHeld source true

/-- The next boundary of time that fires a source by itself (R413): 448 at the second, 449 at the millisecond. A boundary
at which it has fired is past. -/
def State.boundary (s : State) (source : Nat) : Option Nat :=
  let from_ := max s.now (nget s.sgf.rearm source - 40)
  if source = 448 then some (nextAt from_ Config.framesPerSec 0)
  else if source = 449 then some (nextAt from_ Config.framesPerMs 0) else none

/-- EVENT_FIRE (R414): an occurrence that waits is taken, or the boundary of time of sources 448 and 449 is reached. -/
def execEventFire (source : Fin 640) (s : State) : Host.Outcome State Fault Refusal :=
  .next <|
    match s.boundary source with
    | some f => (s.reach f).takeEvent source
    | none =>
      match takeFirst (fun n => n == source.val) s.sgf.occ with
      | none => s
      | some (_, rest) => ({ s with sgf := { s.sgf with occ := rest } } : State).takeEvent source

/-- SOURCE_REARM (R415): 40 frames after it fired the source is re-armed, and fires the occurrence that is held. -/
def execSourceRearm (source : Fin 640) (s : State) : Host.Outcome State Fault Refusal :=
  .next <|
    match nget s.sgf.rearm source with
    | 0 => s
    | f + 1 =>
      let s1 := s.reach f
      let s2 : State := { s1 with sgf := { s1.sgf with rearm := nset s1.sgf.rearm source 0 } }
      if s2.srcHeld source then
        let s3 := s2.setHeld source false
        if s3.mayFire source then s3.fire source else s3
      else s2

/-- SOFTWARE_EVENT (R413): a write of ones to a word of SGF_SWEV. -/
def execSoftwareEvent (die : Fin 2) (w : Fin 2) (value : Word) (s : State) : Host.Outcome State Fault Refusal :=
  .next <| s.viaBar0 die (0xB00010 + 4 * w) fun s =>
    ((List.range 32).filter fun b => bit value.toNat b).foldl (fun t b => t.occur (32 * w + b)) s

/-- LOOP_REENABLE (R419): a write of ones to a word of SGF_LOOP_OFF. -/
def execLoopReenable (die : Fin 2) (w : Fin 8) (value : Word) (s : State) : Host.Outcome State Fault Refusal :=
  .next <| s.viaBar0 die (0xB00060 + 4 * w) fun s =>
    ((List.range 32).filter fun b => bit value.toNat b).foldl (fun t b =>
      if t.wordBit SGF_LOOP_OFF.OFF (32 * w + b) then t.reenable (32 * w + b) else t) s

/-- The counts of the events of the millisecond start again from zero (R352, R419). -/
def State.zeroMs (s : State) (p : Nat → Bool) : State :=
  let cs := (s.sgf.msAt.map (·.1)).filter p
  let s1 := cs.foldl (fun t c => t.store (chanAddr c + 12) 2 0) s
  { s1 with sgf := { s1.sgf with msAt := s1.sgf.msAt.filter fun c => !p c.1 } }

/-- The block reset of SGF_LOOP (R352, R419): every channel that the detector has disabled is enabled, with its count zero.
-/
def State.resetLoops (s : State) : State :=
  let off := (List.range 256).filter fun c => s.wordBit SGF_LOOP_OFF.OFF c
  (off.foldl State.reenable s).zeroMs fun c => off.contains c

/-! ### Timers (R422) -/

/-- The state with a timer's next firing, or none. -/
def State.setTimer (s : State) (j : Nat) (f : Option Nat) : State :=
  let s1 := s.wr SGF_TMR_CTL.ARMED (b2n f.isSome) j
  { s1 with sgf := { s1.sgf with timers := nset s1.sgf.timers j (match f with | some f => f + 1 | none => 0) } }

/-- The first time of a periodic timer's series at or after the current frame. -/
def State.seriesNext (s : State) (j f : Nat) : Nat :=
  let p := max 1 (s.eff SGF_TMR_PERIOD.FRAMES j)
  if s.now ≤ f then f else f + p * ceilDiv (s.now - f) p

/-- A timer's firing time is taken up: one that has passed fires at once, a one-shot timer with LATE (R422). -/
def State.takeTimer (s : State) (j f : Nat) : State :=
  if s.on SGF_TMR_CTL.PERIODIC j then s.setTimer j (some (s.seriesNext j f))
  else if f < s.now then (s.wr SGF_TMR_CTL.LATE 1 j).setTimer j (some s.now)
  else s.setTimer j (some f)

/-- TIMER_ARM (R422): a write of SGF_TMR_TIME_HI arms an enabled timer. -/
def execTimerArm (die : Fin 2) (timer : Fin 64) (hi : Word) (s : State) : Host.Outcome State Fault Refusal :=
  .next <| s.viaBar0 die (0xB01008 + 0x10 * timer) fun s =>
    let j := timer.val
    let s1 := s.wr SGF_TMR_TIME_HI.TICKS hi.toNat j
    let t := s.rd SGF_TMR_TIME_LO.TICKS j + 2 ^ 32 * hi.toNat
    if !s.on SGF_TMR_CTL.EN j then s1
    else if s.timeOut t then s1.wr SGF_TMR_CTL.TIME_ERR 1 j
    else if tickDiff t s.ticks < 0 ∧ !s.on SGF_TMR_CTL.PERIODIC j then
      (s1.wr SGF_TMR_CTL.LATE 1 j).setTimer j (some s.now)
    else s1.takeTimer j (s.frameAt t)

/-- TIMER_FIRE (R422): an armed timer fires, and a periodic one waits for its next time. A PERIOD that was written comes
into force. -/
def execTimerFire (timer : Fin 64) (s : State) : Host.Outcome State Fault Refusal :=
  .next <|
    let j := timer.val
    match nget s.sgf.timers j with
    | 0 => s
    | f + 1 =>
      let s1 := ((s.reach f).occur (64 + j)).settleF SGF_TMR_PERIOD.FRAMES j
      if s.on SGF_TMR_CTL.PERIODIC j then s1.setTimer j (some (f + max 1 (s1.rd SGF_TMR_PERIOD.FRAMES j)))
      else s1.setTimer j none

end Sys2Proof.Machine
end

