-- ==== Sys2Proof/Machine/Meridian.lean ====
section
/-! DEFINITION. Meridian time and the timing ports (chapter 12), but for the application of steps and sets (TimeStep.lean).
-/
namespace Sys2Proof.Machine

/-- A write to a MER field is refused (R339). -/
def State.merReject (s : State) : State := s.wr MER_STATUS.CFG_REJECT 1

/-! ### Stamps (R3, R318) -/

/-- A stamp in 1/65,536 ns. -/
def stampUnits (x : Stamp) : Int := ((x.sec.toNat * 10 ^ 9 + x.ns.toNat) * 65536 + x.frac.toNat : Nat)

/-- The stamp of a number of 1/65,536 ns. -/
def stampOf (v : Int) : Stamp :=
  let n := (v % ((2 ^ 48 * 10 ^ 9 * 65536 : Nat) : Int)).toNat
  { sec := BitVec.ofNat 48 (n / 65536 / 10 ^ 9), ns := BitVec.ofNat 32 (n / 65536 % 10 ^ 9), frac := BitVec.ofNat 16 (n % 65536) }

/-- The tick value of a stamp (R318). -/
def stampTicks (x : Stamp) : Nat := (stampUnits x / 256 % (2 ^ 64 : Int)).toNat

/-- The 12 bytes of a stamp in a slot or a record (R331, R338). -/
def stampBytes (x : Stamp) : List Byte := leBytes 6 x.sec.toNat ++ leBytes 4 x.ns.toNat ++ leBytes 2 x.frac.toNat

/-! ### Rate and slews (R320, R321) -/

/-- The nominal increment, in 2^−40 ns (R319). -/
def nominalIncr : Nat := 0x066666666666

/-- A write of MER_INCR_HI or MER_SLEW has arrived (R324). -/
def State.servoWrite (s : State) : State :=
  { s.wr MER_STATUS.HOLDOVER 0 with mer := { s.mer with servoAt := s.now } }

/-- INCR_COMMIT (R320): both words are committed together, or refused more than 500 ppm from the nominal rate. -/
def execIncrCommit (die : Fin 2) (hi : BitVec 16) (s : State) : Host.Outcome State Fault Refusal :=
  .next <| s.viaBar0 die 0x700014 fun s =>
    let v : Nat := hi.toNat * 2 ^ 32 + s.rd MER_INCR_LO.INCR
    let s0 := s.servoWrite
    if nominalIncr * 500 < ((v : Int) - nominalIncr).natAbs * 1000000 then
      (s0.merReject.wr MER_INCR_LO.INCR s.mer.incr).wr MER_INCR_HI.INCR (s.mer.incr / 2 ^ 32)
    else
      let s1 := s0.wr MER_INCR_HI.INCR hi.toNat
      { s1 with mer := { s1.mer with incr := v } }

/-- Frames that a slew of an amount takes (R321). -/
def slewFrames (a : Int) (ppm : Nat) : Nat :=
  let k : Int := if 0 ≤ a then 1000000 + ppm else 1000000 - ppm
  ceilDiv (a.natAbs * k.toNat) (Config.ticksPerFrame * max 1 ppm)

/-- The amount still to be slewed, in ticks (R321). -/
def State.slewLeft (s : State) : Int :=
  let a := toS 32 (s.rd MER_SLEW.AMOUNT)
  let ppm := s.rd MER_SLEW_CFG.PPM
  let k : Int := if 0 ≤ a then 1000000 + ppm else 1000000 - ppm
  let gone : Int := ((s.now - s.mer.slewAt) * Config.ticksPerFrame * ppm : Nat) / k
  if !s.on MER_STATUS.SLEWING then 0 else if 0 ≤ a then max 0 (a - gone) else min 0 (a + gone)

/-- The amount to be slewed from the current frame on. -/
def State.setSlew (s : State) (a : Int) : State :=
  let s1 := (s.wr MER_SLEW.AMOUNT (ofS 32 a)).wr MER_STATUS.SLEWING (b2n (a != 0))
  { s1 with mer := { s1.mer with slewAt := s.now } }

/-- SLEW_WRITE (R321): a write of MER_SLEW replaces the amount still to be slewed. -/
def execSlewWrite (die : Fin 2) (value : Word) (s : State) : Host.Outcome State Fault Refusal :=
  .next <| s.viaBar0 die 0x700018 fun s => s.servoWrite.setSlew (toS 32 value.toNat)

/-- SLEW_DONE (R321): the amount reaches zero. -/
def execSlewDone (s : State) : Host.Outcome State Fault Refusal :=
  .next <|
    if !s.on MER_STATUS.SLEWING then s
    else (s.reach (s.mer.slewAt + slewFrames (toS 32 (s.rd MER_SLEW.AMOUNT)) (s.rd MER_SLEW_CFG.PPM))).setSlew 0

/-! ### Arming, holdover and reference loss (R322, R324, R325) -/

/-- A step or set is armed, in the place of one that waits (R322). -/
def State.armTime (s : State) (a : Armed) : State :=
  { s.wr MER_STATUS.STEP_PENDING 1 with mer := { s.mer with arm := some (a, s.now) } }

/-- STEP_ARM (R322): a write of MER_STEP_HI. -/
def execStepArm (die : Fin 2) (hi : Word) (s : State) : Host.Outcome State Fault Refusal :=
  .next <| s.viaBar0 die 0x700024 fun s =>
    (s.wr MER_STEP_HI.STEP hi.toNat).armTime (.step (toS 64 (hi.toNat * 2 ^ 32 + s.rd MER_STEP_LO.STEP)))

/-- SET_ARM (R322): a write of MER_SET_SEC_HI. -/
def execSetArm (die : Fin 2) (hi : BitVec 16) (s : State) : Host.Outcome State Fault Refusal :=
  .next <| s.viaBar0 die 0x700030 fun s =>
    (s.wr MER_SET_SEC_HI.SEC hi.toNat).armTime (.set (hi.toNat * 2 ^ 32 + s.rd MER_SET_SEC_LO.SEC) (s.rd MER_SET_NS.NS))

/-- HOLDOVER_TIMEOUT (R324): no write of MER_INCR_HI or MER_SLEW has come for MER_SERVO_TMO milliseconds. -/
def execHoldoverTimeout (s : State) : Host.Outcome State Fault Refusal :=
  .next <|
    if s.rd MER_SERVO_TMO.MS == 0 || s.on MER_STATUS.HOLDOVER || !s.on HPT_STATUS.READY then s
    else ((s.reach (s.mer.servoAt + s.rd MER_SERVO_TMO.MS * Config.framesPerMs)).wr MER_STATUS.HOLDOVER 1).raise (srcModule 7) 0

/-- REFCLK_LOSS (R325). Time runs on. -/
def execRefclkLoss (s : State) : Host.Outcome State Fault Refusal :=
  .next <| if s.on MER_STATUS.REFCLK_BAD then s else (s.wr MER_STATUS.REFCLK_BAD 1).raise (srcModule 6) 0

/-- REFCLK_RECOVER (R325): REFCLK has been within its limits for 20 µs. -/
def execRefclkRecover (s : State) : Host.Outcome State Fault Refusal := .next <| s.wr MER_STATUS.REFCLK_BAD 0

/-! ### Frames of the timing ports (R328 to R331, assumption 10) -/

/-- The number that bytes spell in network order. -/
def netField (bs : List Byte) (off n : Nat) : Nat := beNat ((bs.drop off).take n)

/-- What the parser finds in a frame (R328, R329): the transport, 0 layer 2, 1 IPv4, 2 IPv6, 3 none; whether the frame is
tagged; and where the UDP header and the message start. -/
structure Parsed where
  transport : Nat
  tagged : Bool
  udp : Nat
  msg : Nat
  deriving DecidableEq, Repr

/-- The transports that R328 lists. -/
def parseFrame (bs : List Byte) : Parsed :=
  let tagged := netField bs 12 2 == 0x8100
  let e := if tagged then 16 else 12
  let p := e + 2
  let type := netField bs e 2
  let udpPort (u : Nat) : Bool := netField bs (u + 2) 2 == 319 || netField bs (u + 2) 2 == 320
  if type == 0x88F7 then { transport := 0, tagged := tagged, udp := 0, msg := p }
  else if type == 0x0800 && netField bs p 1 == 0x45 && netField bs (p + 9) 1 == 17 && udpPort (p + 20) then
    { transport := 1, tagged := tagged, udp := p + 20, msg := p + 28 }
  else if type == 0x86DD && netField bs (p + 6) 1 == 17 && udpPort (p + 40) then
    { transport := 2, tagged := tagged, udp := p + 40, msg := p + 48 }
  else { transport := 3, tagged := tagged, udp := 0, msg := 0 }

/-- The port's MAC, its first octet first (R340). -/
def State.portMac (s : State) (p : Nat) : List Byte :=
  leBytes 4 (s.rd MER_PORT_MAC_LO.MAC p) ++ leBytes 2 (s.rd MER_PORT_MAC_HI.MAC p)

/-- Destination addresses of the first and the second row of R329. -/
def ptpMacs : List Nat := [0x011B19000000, 0x0180C200000E]
@[inherit_doc ptpMacs] def udpMacs : List Nat := [0x01005E000181, 0x01005E00006B, 0x333300000181, 0x33330000006B]

/-- A frame matches one of the first two rows of R329. -/
def State.ptpFrame (s : State) (p : Nat) (bs : List Byte) : Bool :=
  let dst := bs.take 6
  let x := parseFrame bs
  if x.transport = 0 then ptpMacs.contains (beNat dst) || dst == s.portMac p
  else x.transport != 3 && (udpMacs.contains (beNat dst) || dst == s.portMac p)

/-- A frame matches a row of R329. -/
def State.frameTaken (s : State) (p : Nat) (bs : List Byte) : Bool :=
  let dst := bs.take 6
  decide (14 ≤ bs.length) &&
    (s.ptpFrame p bs || s.on MER_PORT_CFG.RX_ALL p && (dst == s.portMac p || netField bs 0 1 % 2 == 1))

/-- A frame is parsed as PTP (R329). -/
def State.ptpParsed (s : State) (p : Nat) (bs : List Byte) : Bool :=
  s.ptpFrame p bs && decide ((parseFrame bs).msg + 1 < bs.length) && netField bs ((parseFrame bs).msg + 1) 1 % 16 == 2

/-- What a slot and a record show of a frame (R331, R338): INFO, DOMAIN, SEQID, SRCPORT and CORRECTION. -/
structure FrameInfo where
  info : Nat
  domain : Nat
  seqid : Nat
  srcport : List Byte
  correction : Nat
  deriving DecidableEq, Repr

/-- The details of a frame. What R331 and R338 give for a PTP frame alone is a free value of other frames (assumption 1).
-/
def State.frameInfo (s : State) (p : Nat) (bs : List Byte) : FrameInfo × State :=
  let x := parseFrame bs
  if s.ptpParsed p bs then
    ({ info := netField bs x.msg 1 % 16 + 16 + 32 * b2n x.tagged + 64 * x.transport, domain := netField bs (x.msg + 4) 1
       seqid := netField bs (x.msg + 30) 2, srcport := leBytes 10 (leNat ((bs.drop (x.msg + 20)).take 10))
       correction := netField bs (x.msg + 8) 8 }, s)
  else
    let (v, s1) := s.draw 172
    ({ info := v % 16 + 32 * b2n x.tagged + 192, domain := bits v 4 8, seqid := bits v 12 16
       srcport := leBytes 10 (bits v 28 80), correction := bits v 108 64 }, s1)

/-- The payload of a TIMING_PORT record (R338). -/
def portPayload (kind slot : Nat) (i : FrameInfo) (len : Nat) (x : Stamp) : List Byte :=
  leBytes 1 kind ++ leBytes 1 slot ++ leBytes 1 i.info ++ leBytes 1 i.domain ++ leBytes 2 i.seqid ++ leBytes 2 len ++ i.srcport ++
    leBytes 2 0 ++ leBytes 8 i.correction ++ stampBytes x ++ leBytes 8 0

/-- Where a receive slot and a transmit slot start (R331, R332). -/
def rxAddr (p n : Nat) : Nat := 0x708000 + 0x2000 * p + 0x100 * n
@[inherit_doc rxAddr] def txAddr (p n : Nat) : Nat := 0x710000 + 0x1000 * p + 0x100 * n

/-- The receive stamp, and the transmit stamp, of a PCS time (R330). -/
def State.rxStamp (s : State) (p : Nat) (pcs : Stamp) : Stamp :=
  stampOf (stampUnits pcs + 256 * (toS 32 (s.rd MER_PORT_ASYM.ASYM p) - toS 32 (s.rd MER_PORT_RXDLY.RXDLY p) -
    (Config.pathDelay true s.active p (s.rd MER_PORT_CFG.MODE p) : Nat)))
@[inherit_doc State.rxStamp] def State.txStamp (s : State) (p : Nat) (pcs : Stamp) : Stamp :=
  stampOf (stampUnits pcs + 256 * (toS 32 (s.rd MER_PORT_TXDLY.TXDLY p) +
    (Config.pathDelay false s.active p (s.rd MER_PORT_CFG.MODE p) : Nat)))

/-- A Sync of the watched domain has been received (R334, R413). -/
def State.syncSeen (s : State) (p : Nat) : State :=
  let s1 := (s.wr MER_PORT_STATUS.SYNC_LOST 0 p).occur (456 + p)
  { s1 with mer := { s1.mer with syncAt := nset s1.mer.syncAt p (s.now + 1) } }

/-- A frame that R329 takes is delivered to the next receive slot, or dropped where the ring holds 31 (R331, R338). -/
def State.deliver (s : State) (p : Nat) (bs : List Byte) (pcs : Stamp) : State :=
  let head := s.rd MER_RX_HEAD.HEAD p
  if (head + 32 - s.rd MER_RX_TAIL.TAIL p) % 32 = 31 then s.bump MER_RX_DROP.COUNT 1 p
  else
    let (i, s1) := s.frameInfo p bs
    let x := s.rxStamp p pcs
    let slot := leBytes 2 bs.length ++ leBytes 1 i.info ++ leBytes 1 i.domain ++ stampBytes x ++ bs
    ((s1.storeBytes (rxAddr p head) slot).wr MER_RX_HEAD.HEAD (head + 1) p).record 8 p (stampTicks x)
      (portPayload 0 head i bs.length x)

/-- FRAME_RECEIVE (R329, R331): a frame is filtered, stamped and delivered, or dropped and counted. -/
def execFrameReceive (port : Fin 2) (bytes : List Byte) (fcsOk : Bool) (pcs : Stamp) (s : State) :
    Host.Outcome State Fault Refusal :=
  .next <|
    let p := port.val
    if !s.on MER_PORT_CFG.ENABLE p || !s.on MER_PORT_STATUS.LINK p then s
    else if 240 < bytes.length || !fcsOk then s.bump MER_RX_DROP.COUNT 1 p
    else if !s.frameTaken p bytes then s.bump MER_RX_FILTERED.COUNT 1 p
    else
      let m := (parseFrame bytes).msg
      let sync := s.ptpParsed p bytes && netField bytes m 1 % 16 == 0 &&
        netField bytes (m + 4) 1 == s.rd MER_PORT_SYNC_CFG.DOMAIN p
      (if sync then s.syncSeen p else s).deliver p bytes pcs

/-- The CRC of an Ethernet frame (assumption 10). -/
def fcsShift : Nat → Nat → Nat
  | 0, c => c
  | n + 1, c => fcsShift n (if c % 2 = 1 then c / 2 ^^^ 0xEDB88320 else c / 2)
@[inherit_doc fcsShift] def frameFcs (bs : List Byte) : Nat :=
  0xFFFFFFFF ^^^ bs.foldl (fun c b => fcsShift 8 (c ^^^ b.toNat)) 0xFFFFFFFF

/-- State of a transmit slot: 0 free, 1 QUEUED, 2 SENT (R340). -/
def State.txState (s : State) (p n : Nat) : Nat := bits (s.rd MER_TX_STATUS.STATE p) (2 * n) 2

/-- The state with a transmit slot's state written. -/
def State.setTx (s : State) (p n v : Nat) : State :=
  let w := s.rd MER_TX_STATUS.STATE p
  s.wr MER_TX_STATUS.STATE (w - bits w (2 * n) 2 * 4 ^ n + v * 4 ^ n) p

/-- A command to send a slot (R332). -/
def State.sendCmd (s : State) (p n len mode : Nat) : State :=
  if s.txState p n = 1 ∨ len < 14 ∨ 240 < len then s.merReject
  else
    let s1 := s.setTx p n 1
    { s1 with mer := { s1.mer with txq := s1.mer.txq ++ [{ port := p, slot := n, len := len, mode := mode }] } }

/-- SEND (R332): MER_TX_CMD with mode 0. -/
def execSend (die : Fin 2) (port : Fin 2) (slot : Fin 4) (len : Byte) (s : State) : Host.Outcome State Fault Refusal :=
  .next <| s.viaBar0 die (0x700130 + 0x80 * port) fun s => s.sendCmd port slot len.toNat 0

/-- SEND_AND_STAMP (R332): MER_TX_CMD with mode 1. -/
def execSendAndStamp (die : Fin 2) (port : Fin 2) (slot : Fin 4) (len : Byte) (s : State) : Host.Outcome State Fault Refusal :=
  .next <| s.viaBar0 die (0x700130 + 0x80 * port) fun s => s.sendCmd port slot len.toNat 1

/-- ONE_STEP (R333): MER_TX_CMD with mode 2. -/
def execOneStep (die : Fin 2) (port : Fin 2) (slot : Fin 4) (len : Byte) (s : State) : Host.Outcome State Fault Refusal :=
  .next <| s.viaBar0 die (0x700130 + 0x80 * port) fun s => s.sendCmd port slot len.toNat 2

/-- Bytes with `new` in the place of those from an offset. -/
def patch (bs : List Byte) (off : Nat) (new : List Byte) : List Byte :=
  (bs.take off ++ new ++ bs.drop (off + new.length)).take bs.length

/-- The ones' complement sum of the 16-bit words of bytes. -/
def onesSum : List Byte → Nat
  | [] => 0
  | [a] => a.toNat * 256
  | a :: b :: t => a.toNat * 256 + b.toNat + onesSum t

/-- A sum folded to 16 bits by end-around carry. -/
def onesFold (v : Nat) : Nat := (v % 65536 + v / 65536) % 65536 + (v % 65536 + v / 65536) / 65536

/-- A message as one-step sends it (R333): its correctionField and time stamp follow the transmit stamp. -/
def oneStepMsg (bs : List Byte) (m : Nat) (x : Stamp) : List Byte :=
  let corr := toS 64 (netField bs (m + 8) 8)
  if netField bs m 1 % 16 = 0 then
    patch (patch bs (m + 8) (beBytes 8 (ofS 64 (corr + x.frac.toNat)))) (m + 34) (beBytes 6 x.sec.toNat ++ beBytes 4 x.ns.toNat)
  else
    let v : Int := (netField bs (m + 34) 6 * 10 ^ 9 + netField bs (m + 40) 4 : Nat) * 65536
    patch (patch bs (m + 8) (beBytes 8 (ofS 64 (corr + (stampUnits x - v))))) (m + 34) (beBytes 10 0)

/-- A frame as one-step sends it (R333): over IPv4 a UDP checksum other than zero follows the message, over IPv6 the
trailer at the end of the UDP payload keeps the checksum valid. -/
def oneStepFrame (bs : List Byte) (x : Parsed) (st : Stamp) : List Byte :=
  let new := oneStepMsg bs x.msg st
  let oldSum := onesSum (bs.drop x.msg)
  let newSum := onesSum (new.drop x.msg)
  if x.transport = 1 then
    let c := netField bs (x.udp + 6) 2
    if c = 0 then new
    else
      let v := 0xFFFF - onesFold ((0xFFFF - c) + (0xFFFF - onesFold oldSum) + onesFold newSum)
      patch new (x.udp + 6) (beBytes 2 (if v = 0 then 0xFFFF else v))
  else if x.transport = 2 then
    let e := x.udp + netField bs (x.udp + 4) 2
    let t := netField bs (e - 2) 2
    let odd := (e - x.udp) % 2 = 1
    let w := if odd then t % 256 * 256 + t / 256 else t
    let v := onesFold (w + onesFold oldSum + (0xFFFF - onesFold newSum))
    patch new (e - 2) (beBytes 2 (if odd then v % 256 * 256 + v / 256 else v))
  else new

/-- TX_COMPLETE (R332, R333): the oldest queued slot of a port with its link up is sent, and stamped as its mode requires.
-/
def execTxComplete (port : Fin 2) (pcs : Stamp) (s : State) : Host.Outcome State Fault Refusal :=
  .next <|
    let p := port.val
    match takeFirst (fun c : TxCmd => c.port == p) s.mer.txq with
    | none => s
    | some (c, rest) =>
      if !s.on MER_PORT_STATUS.LINK p then s
      else
        let a := txAddr p c.slot
        let bs := s.loadBytes (a + 16) c.len
        let x := parseFrame bs
        let st := s.txStamp p pcs
        let kind := netField bs x.msg 1 % 16
        let sent := if c.mode = 2 ∧ x.transport ≠ 3 ∧ (kind = 0 ∨ kind = 3) then oneStepFrame bs x st else bs
        let s1 : State := { s with mer := { s.mer with txq := rest } }
        let s2 := ((s1.setTx p c.slot 2).bump MER_TX_CNT.COUNT 1 p).emit (.frame p (sent ++ leBytes 4 (frameFcs sent)))
        if c.mode = 0 then s2
        else
          let (i, s3) := s2.frameInfo p sent
          (s3.storeBytes (a + 4) (stampBytes st)).record 8 p (stampTicks st) (portPayload 1 c.slot i c.len st)

/-- TIMING_LINK_CHANGE (R332): a port's link goes up or down. -/
def execTimingLinkChange (port : Fin 2) (up : Bool) (s : State) : Host.Outcome State Fault Refusal :=
  .next <| s.wr MER_PORT_STATUS.LINK (b2n (up && s.on MER_PORT_CFG.ENABLE port)) port

/-- SYNC_TIMEOUT (R334): no Sync of the watched domain has been received for SYNC_TMO milliseconds. -/
def execSyncTimeout (port : Fin 2) (s : State) : Host.Outcome State Fault Refusal :=
  .next <|
    let tmo := s.rd MER_PORT_SYNC_CFG.SYNC_TMO port
    if tmo == 0 || s.on MER_PORT_STATUS.SYNC_LOST port then s
    else
      ((s.reach (nget s.mer.syncAt port - 1 + tmo * Config.framesPerMs)).wr MER_PORT_STATUS.SYNC_LOST 1 port).raise
        (srcModule (8 + port)) 0

/-! ### Pulses (R335 to R337) -/

/-- The level of CLK10_OUT in the current frame (R336): while the output runs it is high in the first half of each 100 ns, the
frames of an even number. -/
def State.clk10Out (s : State) : Bool :=
  decide (s.now % 2 = 0) && (match s.mer.clkFrom with | some f => decide (f ≤ s.now) | none => false) &&
    (match s.mer.clkTo with | some f => decide (s.now < f) | none => true)

/-- CLK10_EN is written (R336): the output starts at the next rising edge, and is held low after the next falling edge. -/
def State.setClk10 (s : State) (v : Bool) : State :=
  if v == s.on MER_CTL.CLK10_EN then s
  else if v then
    let start := if s.clk10Out then s.mer.clkFrom else some (s.now + 2 - s.now % 2)
    { s with mer := { s.mer with clkFrom := start, clkTo := none } }
  else
    let stop := if s.clk10Out then s.now + 1 else s.now
    { s with mer := { s.mer with clkTo := some stop } }

/-- The level of PPS_OUT (R335): low while PPS_OUT_EN is 0. -/
def State.ppsOut (s : State) : Bool :=
  match s.mer.ppsHigh with
  | some p => s.on MER_CTL.PPS_OUT_EN && decide (p.1 ≤ s.now) && decide (s.now < p.2)
  | none => false

/-- PPS_OUT_PULSE (R335): the next second boundary plus the offset is reached, and PPS_OUT rises for WIDTH ms. The edge has a
resolution of 1/8 ns, 32 ticks: an offset between two such times gives one of them (assumption 108). -/
def execPpsOutPulse (s : State) : Host.Outcome State Fault Refusal :=
  .next <|
    if !s.on MER_CTL.PPS_OUT_EN then s
    else
      let second : Int := 256 * 10 ^ 9
      let ofs := toS 32 (s.rd MER_PPS_OUT_OFS.OFS)
      let at_ : Int := (s.now * Config.ticksPerFrame : Nat)
      let k := max (-((ofs - at_) / second)) ((s.mer.ppsNext : Int) - 1) |>.toNat
      let due := (k * second + ofs).toNat
      let r := s.draw 1
      let t := if due % 32 = 0 then due else due - due % 32 + 32 * r.1
      let rise := t / Config.ticksPerFrame
      let s1 := ((if due % 32 = 0 then s else r.2).reach rise).emit (.pps (t % 2 ^ 64) (s.rd MER_PPS_OUT_CFG.WIDTH))
      let fall := rise + s.rd MER_PPS_OUT_CFG.WIDTH * Config.framesPerMs
      { s1 with mer := { s1.mer with ppsNext := k + 2, ppsHigh := some (rise, fall) } }

/-- PPS_IN_EDGE (R337): an edge is stamped and corrected, and recorded, unless it is a glitch or finds the queue full. -/
def execPpsInEdge (at_ : Stamp) (s : State) : Host.Outcome State Fault Refusal :=
  .next <|
    if !s.on MER_CTL.PPS_IN_EN then s
    else
      let x := stampOf (stampUnits at_ + 256 * toS 32 (s.rd MER_PPS_IN_DLY.DLY))
      let glitch := match s.mer.lastPps with
        | some l => decide (stampUnits x - stampUnits l < 500000000 * 65536)
        | none => false
      if glitch then s.bump MER_PPS_GLITCH.COUNT
      else if 4 ≤ s.mer.pps.length then s.wr MER_STATUS.PPS_OVERRUN 1
      else
        let s1 : State := { s with mer := { s.mer with pps := s.mer.pps ++ [x], lastPps := some x } }
        let s2 := (s1.wr MER_PPSIN_STATUS.COUNT s1.mer.pps.length).occur 450
        let (v, s3) := s2.draw 192
        let i : FrameInfo := { info := bits v 0 8, domain := bits v 8 8, seqid := bits v 16 16, srcport := leBytes 10 (bits v 48 80)
                               correction := bits v 128 64 }
        s3.record 8 2 (stampTicks x) (portPayload 2 0 i (bits v 32 16) x)

/-- PPSIN_POP (R337): the oldest stamp is removed. -/
def execPpsinPop (die : Fin 2) (s : State) : Host.Outcome State Fault Refusal :=
  .next <| s.viaBar0 die 0x70008C fun s =>
    let s1 : State := { s with mer := { s.mer with pps := s.mer.pps.tail } }
    s1.wr MER_PPSIN_STATUS.COUNT s1.mer.pps.length

end Sys2Proof.Machine
end

