-- ==== Sys2Proof/Machine/Roles.lean ====
section
/-! DEFINITION. The roles of the dies (chapter 14): taking and leaving a role, failover, the unresolved hold and what ends
it. -/
namespace Sys2Proof.Machine

/-- The status codes of the Lockstep Supervisor (R397), and of COUNTER_SNAP without a standby (R461). -/
def stNoStandby : Nat := 0x0901
@[inherit_doc stNoStandby] def stLksBusy : Nat := 0x0902
@[inherit_doc stNoStandby] def stLockstepHold : Nat := 0x0903
@[inherit_doc stNoStandby] def stNotDetached : Nat := 0x0904
@[inherit_doc stNoStandby] def stNotHeld : Nat := 0x0905
@[inherit_doc stNoStandby] def stResyncFail : Nat := 0x0906
@[inherit_doc stNoStandby] def stPmcNoStandby : Nat := 0x0E01

/-- The role of a die (R377): 2 ACTIVE, 1 STANDBY, 0 DETACHED. -/
def State.role (s : State) (die : Nat) : Nat := s.rd LKS_STATUS.ROLE die

/-- The standby, if there is one. -/
def State.standby? (s : State) : Option Nat := [0, 1].find? fun d => s.role d == 1

/-- A die takes a role (R377): both dies show it, and LKS_VEC of the die is signalled when the role changes (R393). -/
def State.setRole (s : State) (die role : Nat) : State :=
  let s1 := ((s.wr LKS_STATUS.ROLE role die).wr LKS_STATUS.PEER_ROLE role (1 - die)).wr HPT_STATUS.ACTIVE
    (b2n (role == 2)) die
  if s.role die = role then s1 else s1.signalVec die (s.rd LKS_VEC.VECTOR)

/-- What a die that leaves lockstep was doing stops: its jobs, and the captures asked of a standby (R377, R462). -/
def State.leaveLockstep (s : State) (die : Nat) : State :=
  let s1 : State := { s with lpa := { s.lpa with
      jobs := s.lpa.jobs.filter fun j => j.die != die
      runs := s.lpa.runs.filter fun r => r.job.die != die
      ended := s.lpa.ended.filter fun r => r.job.die != die } }
  let asks (x : Nat × Nat) : Bool := match s.desc x.1 with | some d => bit (d.fld 10 1) 1 | none => false
  let s2 : State := { s1 with pmc := { s1.pmc with snaps := s1.pmc.snaps.filter fun x => !asks x } }
  (s.pmc.snaps.filter asks).foldl (fun t x => t.withDesc x.1 fun d => t.done d stPmcNoStandby) s2

/-- A SWITCH that waits ends because the standby left its role (R395). -/
def State.endSwitch (s : State) : State :=
  match s.lks.pending with
  | some p => if p.op = 0 then s.lksDone stNoStandby none s.ticks else s
  | none => s

/-- The standby becomes DETACHED (R377, R383, R385, R395). -/
def State.detachStandby (s : State) : State :=
  match s.standby? with
  | none => s
  | some d => ((s.setRole d 0).leaveLockstep d).endSwitch

/-- Every tile follows a die (R388). -/
def State.followAll (s : State) (die twilight : Nat) : State :=
  (List.range 8).foldl (fun t k => t.followDie k die twilight) s

/-- A frozen tile resumes with the stream of the die it follows, and takes what it withdrew or did not take (R383). -/
def State.unfreeze (s : State) (tile : Nat) : State :=
  let s1 := s.wr LKS_TILE_HOLD.FROZEN (clrBit (s.rd LKS_TILE_HOLD.FROZEN) tile)
  ({ s1 with drv := { s1.drv with frozenAt := nset s1.drv.frozenAt tile 0 } } : State).restage tile

/-- LKS_LAST_FO takes a failover (R398): its trigger, dies, gap and Twilight frames, and the first frame in which the tiles
followed the new die. -/
def State.noteFailover (s : State) (trigger old new gap twilight first : Nat) : State :=
  ((((((s.wr LKS_LAST_FO.TRIGGER trigger).wr LKS_LAST_FO.FROM old).wr LKS_LAST_FO.TO new).wr LKS_LAST_FO.GAP gap).wr
    LKS_LAST_FO.TWILIGHT twilight).wr LKS_LAST_FO_LO.TICKS (ticksOf first)).wr LKS_LAST_FO_HI.TICKS (ticksOf first / 2 ^ 32)

/-- The fault pair follows what holds it (R368, R369): a source, a module not READY, or an active die that has not refreshed
its driver. Unpowered or in reset it shows neither state. -/
def State.pairRefresh (s : State) : State :=
  if s.pins.fault = 0 then s
  else
    let bad := s.saf.stale || !s.on HPT_STATUS.READY || s.saf.latches.any fun l => l.pair
    let v := if bad then 2 else 1
    let s1 := s.wr SAF_STATUS.PAIR_FAULT (b2n bad)
    if s.pins.fault = v then s1
    else ({ s1 with pins := { s1.pins with fault := v } } : State).occur (if bad then 514 else 515)

/-- A failover (R386 to R393) for trigger 1 source, 2 heartbeat, 3 mismatch or 4 command: the standby becomes ACTIVE, the
tiles follow it, and it re-posts the completions. The old active die becomes DETACHED, or STANDBY at a command. The gap is
2 frames and the Twilight window 2 where the old die sent RELEASE. After a missed heartbeat there is no Twilight window, and
the gap is some number of frames up to 4 (assumption 1). In Dusk the new active die's clocks
restart (R392). While a hold is in force nothing moves: KEEP decides (R384). -/
def State.failover (s : State) (trigger : Nat) : State :=
  match s.standby? with
  | none => s
  | some new =>
    if s.held_ then s
    else
      let old := 1 - new
      let g := s.draw 32
      let (gap, twilight, s0) := if trigger = 2 then (g.1 % 5, 0, g.2) else (2, 2, s)
      let first := if trigger = 4 then s.now else s.now + 1
      let s1 := (s0.setRole new 2).setRole old (if trigger = 4 then 1 else 0)
      let s2 := (((s1.wr LKS_STATUS.LAGGING 1 new).wr LKS_STATUS.LAGGING 0 old).bump LKS_CNT_FAILOVER.COUNT).noteFailover
        trigger old new gap twilight first
      let s3 := (s2.followAll new twilight).repost
      let s4 : State := { s3 with
        drv := { s3.drv with down := s3.drv.down.map fun w => { w with die := new } }
        saf := { s3.saf with stale := false }
        marks := nset s3.marks 3 first }
      let s5 := (((if trigger = 4 then s4 else s4.leaveLockstep old).restartAll new).occur 517).pairRefresh
      match s5.lks.pending with
      | some p => if p.op = 2 then
            (((s5.wr LKS_STATUS.RESYNC 0 0).wr LKS_STATUS.RESYNC 0 1).lksDone stResyncFail none s5.ticks)
          else if trigger = 4 then s5 else s5.endSwitch
      | none => s5

/-- An unresolved hold begins (R384): every tile freezes at its first stream frame not yet compared, the commit in progress
completes with LOCKSTEP_HOLD, and every loop pauses until the kept die's re-application. -/
def State.beginHold (s : State) : State :=
  let s1 := (((s.wr LKS_STATUS.HOLD 1 0).wr LKS_STATUS.HOLD 1 1).bump LKS_CNT_HOLD.COUNT).lksVec
  let s2 := (List.range 8).foldl (fun t k => t.freeze k (s.now - 1)) s1
  let s3 := match s2.pln.cycle with
    | some c => match c.req.origin with
      | .sweep => (s2.cancelCycle stLockstepHold).abandonSweep
      | _ => s2.cancelCycle stLockstepHold
    | none => s2
  ((s3.loopChannels.foldl State.pauseLoops s3).occur 518).raise (srcModule 14) 0

/-- The re-application of the live image is asked for (R370, R373), unless one already waits to start: a SAFETY request from
the frame after the release. The answer is the number of its request. -/
def State.startReapply (s : State) : Nat × State :=
  match s.orb.reqs.find? fun r => r.origin == .reapply with
  | some r => (r.seq, s)
  | none =>
    let r : Req := { cls := 0, src := 64, origin := .reapply, plan := 0, fb := none, settle := 0, time := none, creq := 0
                     prep := s.now + 1, strict := false, acc := s.now, seq := 0, tcost := 0, jcost := 0, moves := []
                     until_ := 0 }
    (s.orb.nextSeq, (s.wr SAF_STATUS.REAPPLY 1).enqueue r)

end Sys2Proof.Machine
end

