-- ==== Sys2Proof/Machine/Dusk.lean ====
section
/-! DEFINITION. Dusk (chapter 19): its request, entry and exit, and the on-demand clocks. -/
namespace Sys2Proof.Machine

/-- The class that a channel goes back to at the exit of a Dusk asked for now (R473): the one it is on its way to or waits
for, or else the one it holds. -/
def State.restoreClass (s : State) (ch : Nat) : Nat :=
  match s.lpa.changes.find? fun c => c.ch == ch with
  | some c => c.cls
  | none => if bit (s.cclass ch) 2 then 0 else if bit (s.cclass ch) 3 then 1 else s.chClass ch

/-- DUSK_REQUEST (R473): a write of DUSK_REQ = 1. Every channel is on its way to Dusk; one that is held goes there at its
resumption. -/
def execDuskRequest (die : Fin 2) (s : State) : Host.Outcome State Fault Refusal :=
  .next <| s.viaBar0 die 0xF00000 fun s =>
    if s.duskAsked then s
    else
      let held := s.lpa.resume
      let from_ := (s.loopChannels.map fun ch =>
        (ch, (match held.find? fun r => r.ch == ch with | some r => r.cls | none => s.restoreClass ch)))
      let s1 := s.wr PWR_CTL.DUSK_REQ 1
      let s2 : State := { s1 with lpa := { s1.lpa with
          duskFrom := from_.foldl (fun l x => nset l x.1 (x.2 + 1)) []
          resume := held.map fun r => { r with cls := 3 } } }
      (from_.filter fun x => !s.chPaused x.1).foldl (fun t x => t.sendTo x.1 x.2) s2

/-- DUSK_ENTRY (R473): at the first Dusk phase 0 at which every channel with loops is in Dusk, Dusk is in force, and the
on-demand domains without work are gated. -/
def execDuskEntry (s : State) : Host.Outcome State Fault Refusal :=
  .next <|
    if !s.duskAsked || s.dusk || !(s.loopChannels.all fun ch => s.chClass ch == 3 && !s.chPaused ch) ||
        !s.lpa.changes.isEmpty then s
    else (((s.reach (phase0 3 s.now)).wr PWR_STATUS.DUSK 1).bump PWR_CNT_DUSK.COUNT).regate

/-- Dusk ends (R475): every on-demand domain restarts, each channel goes to its restore class once the clocks run, and
calibration may start again. How long the clocks take, up to 400 frames, is free (assumption 1). -/
def State.duskExit (s : State) : State :=
  if !s.duskAsked then s
  else
    let gated := [0, 1].any fun d => s.rd PWR_CLK_GATED.GATED d != 0
    let (wait, s0) := if gated then (let r := s.draw 32; (r.1 % 401, r.2)) else (0, s)
    let from_ := s.lpa.duskFrom
    let s1 := (([0, 1].foldl State.restartAll s0).wr PWR_STATUS.DUSK 0).wr PWR_CTL.DUSK_REQ 0
    let s2 := s1.wr CAL_STATUS.DUSK_WAIT 0
    let back (ch : Nat) : Nat := nget from_ ch - 1
    let s3 : State := { s2 with lpa := { s2.lpa with
        duskFrom := []
        resume := s2.lpa.resume.map fun r => if nget from_ r.ch = 0 then r else { r with cls := back r.ch } } }
    let s4 := ((from_.map (·.1)).filter fun ch => !s3.chPaused ch).foldl (fun t ch => t.sendTo ch (back ch)) s3
    { s4 with lpa := { s4.lpa with changes := s4.lpa.changes.map fun c => { c with after := max c.after (s.now + wait) } } }

/-- DUSK_EXIT (R475): a write of DUSK_REQ = 0. -/
def execDuskExit (die : Fin 2) (s : State) : Host.Outcome State Fault Refusal :=
  .next <| s.viaBar0 die 0xF00000 State.duskExit

/-- CLOCK_RESTART (R474): an on-demand domain that is gated restarts for its work. -/
def execClockRestart (die : Fin 2) (dom : Fin 22) (s : State) : Host.Outcome State Fault Refusal :=
  .next <| s.regate.restart die dom

end Sys2Proof.Machine
end

