-- ==== Sys2Proof/Machine/Memory.lean ====
section
/-! DEFINITION. Memory integrity (chapter 15): corrections and their buckets, persistent words and spare rows, and the scrub.
-/
namespace Sys2Proof.Machine

/-- SCRUB_UNCORR (R411). -/
def stScrubUncorr : Nat := 0x0A02

/-- The words of a memory group (R399). -/
def groupWords (g : Nat) : Nat :=
  ([131072, 36864, 33920, 393216, 131072, 262144, 9216, 108032, 49152, 99328, 832, 4096, 8192, 65536, 16384][g]?).getD 0

/-- A correction counts in a group's bucket (R405): its level and total, and the overflow. -/
def State.bucket (s : State) (die group : Nat) : State :=
  let n := s.rd MEM_BKT_LEVEL.LEVEL die group + 1
  let s1 := s.bump MEM_BKT_LEVEL.TOTAL 1 die group
  if s.rd MEM_BKT_CFG.CAP die group ≤ n then (s1.wr MEM_BKT_LEVEL.LEVEL 0 die group).raise (srcDie die 5) group die
  else s1.wr MEM_BKT_LEVEL.LEVEL n die group

/-- A persistent word goes into the first empty entry of the table, and one of group 4 starts its remap (R406, R407). A full
table counts it. -/
def State.persistent (s : State) (die group tile addr : Nat) : State :=
  let es := List.range 8
  let known := es.any fun e => s.on MEM_PERSIST_W0.VALID die e && s.rd MEM_PERSIST_W0.GROUP die e == group &&
    s.rd MEM_PERSIST_W0.TILE die e == tile && s.rd MEM_PERSIST_W0.ADDR die e == addr
  if known then s
  else
    let s0 := s.raise (srcDie die 6) addr die
    match es.find? fun e => !s.on MEM_PERSIST_W0.VALID die e with
    | none => s0.bump MEM_PERSIST_OVF.COUNT 1 die
    | some e =>
      let rows := s.rd MEM_REMAP_USED.ROWS die
      let how := if group ≠ 4 then 0 else if !s.on MEM_CTL.REMAP_EN die then 4 else if 16 ≤ rows then 3 else 1
      let s1 := ((((s0.wr MEM_PERSIST_W0.VALID 1 die e).wr MEM_PERSIST_W0.REMAP how die e).wr MEM_PERSIST_W0.GROUP group
        die e).wr MEM_PERSIST_W0.TILE tile die e).wr MEM_PERSIST_W0.ADDR addr die e
      let s2 := (s1.wr MEM_PERSIST_W1.TICKS s.ticks die e).wr MEM_PERSIST_W2.TICKS (s.ticks / 2 ^ 32) die e
      if how ≠ 1 then s2
      else
        let s3 := (s2.wr MEM_REMAP_USED.ROWS (rows + 1) die).wr MEM_STATUS.REMAP_FULL (b2n (rows + 1 == 16)) die
        { s3 with mig := { s3.mig with copies := s3.mig.copies ++ [(8 * die + e, s.now + 40)] } }

/-- A word is corrected on a die (R401, R405, R406). The fourth correction in time makes it persistent. -/
def State.corrected (s : State) (die group tile addr : Nat) : State :=
  let s1 := s.bucket die group
  let mine (x : Track) : Bool := x.die == die && x.group == group && x.tile == tile && x.addr == addr
  let span := Config.framesPerMs * s.rd MEM_BKT_CFG.LEAK_MS die group
  let times := match s.mig.tracks.find? mine with
    | some x => (s.now :: x.times).take 4
    | none => [s.now]
  let four := decide (times.length = 4) && times.all fun f => decide (s.now ≤ f + span)
  let t : Track := { die := die, group := group, tile := tile, addr := addr, times := if four then [] else times }
  let rest := s1.mig.tracks.filter fun x => !mine x
  let own := (rest.filter fun x => x.die == die).take 31
  let s2 : State := { s1 with mig := { s1.mig with tracks := t :: own ++ rest.filter fun x => x.die != die } }
  if four then s2.persistent die group tile addr else s2

/-- BUCKET_LEAK (R405): at every LEAK_MS milliseconds of Meridian time a group's level falls by 1. -/
def execBucketLeak (die : Fin 2) (group : Fin 16) (s : State) : Host.Outcome State Fault Refusal :=
  .next <|
    let key := 16 * die.val + group.val
    let period := Config.framesPerMs * max 1 (s.rd MEM_BKT_CFG.LEAK_MS die group)
    let f := nextAt (max s.now (nget s.mig.leakAt key)) period 0
    let s1 := (s.reach f).lower MEM_BKT_LEVEL.LEVEL 1 die group
    { s1 with mig := { s1.mig with leakAt := nset s1.mig.leakAt key (f + 1) } }

/-- REMAP_SWITCH (R407): the copy of a row that a die began first ends, and reads switch to the spare row. -/
def execRemapSwitch (die : Fin 2) (s : State) : Host.Outcome State Fault Refusal :=
  .next <|
    match takeFirst (fun c : Nat × Nat => c.1 / 8 == die.val) s.mig.copies with
    | none => s
    | some (c, rest) =>
      let s1 := s.reach c.2
      let s2 : State := { s1 with mig := { s1.mig with copies := rest } }
      if s2.on MEM_PERSIST_W0.VALID die (c.1 % 8) then s2.wr MEM_PERSIST_W0.REMAP 2 die (c.1 % 8) else s2

/-! ### SCRUB_RANGE (R409, R410) -/

/-- The body of a SCRUB_RANGE is valid (R409). -/
def scrubBodyOk (d : Desc) : Bool :=
  let g := d.fld 8 1
  decide (g ≤ 14) && decide (d.fld 9 1 ≤ (if g = 14 then 7 else 0)) && zeros d.bytes 10 2 && decide (1 ≤ d.fld 16 4) &&
    decide (d.fld 12 4 + d.fld 16 4 ≤ groupWords g) && zeros d.bytes 20 4 && d.fld 24 8 % 8 == 0 && zeros d.bytes 32 32

/-- The dies on which a word that a scrub finds counts: a tile's word counts on both (R405). -/
def scrubDies (g die : Nat) : List Nat := if g = 14 then [0, 1] else [die]

/-- The valid entries of the persistent tables and the records lost. -/
def State.persistCount (s : State) : Nat :=
  ([0, 1].map fun d => ((List.range 8).filter fun e => s.on MEM_PERSIST_W0.VALID d e).length + s.rd MEM_PERSIST_OVF.COUNT d).sum

/-- The words of the program store that a scrub of a range finds uncorrectable keep their error, and the others of the range
lose it (R265, R402). -/
def State.scrubStore (s : State) (first n : Nat) (ws : List ScrubWord) : State :=
  let s1 := s.unspoil fun w => decide (first ≤ w) && decide (w < first + n)
  (ws.filter fun w => w.uncorrectable).foldl (fun t w => t.spoil w.die (first + w.offset)) s1

/-- SCRUB_RANGE (R410): every word of the range is read. `results` lists the words that need a correction, or cannot be
corrected, by die; for group 14 those of die A are the tile's. One scrub runs at a time, in acceptance order. -/
def execScrubRange (id : Nat) (results : List ScrubWord) (s : State) : Host.Outcome State Fault Refusal :=
  .next <| s.withOp id opScrubRange fun d =>
    if s.mig.scrub.isSome || s.hpt.accepted.any (fun x => x.op == opScrubRange && decide (x.id < id)) then s
    else if !scrubBodyOk d then s.done d stBadField
    else
      let g := d.fld 8 1
      let t := d.fld 9 1
      let first := d.fld 12 4
      let n := d.fld 16 4
      let ws := (results.filter fun w => decide (w.offset < n) && (g != 14 || w.die == 0)).dedup
      let count (die : Nat) (bad : Bool) : Nat := (ws.filter fun w => w.die.val == die && w.uncorrectable == bad).length
      let s1 := ws.foldl (fun u w =>
        if w.uncorrectable then u.uncorrectable w.die g t (first + w.offset)
        else (scrubDies g w.die).foldl (fun v die => v.corrected die g t (first + w.offset)) u) s
      let bad := (ws.filter fun w => w.uncorrectable).map fun w => first + w.offset
      let sc : Scrub :=
        { desc := id, scanned := n, corrA := count 0 false, corrB := count 1 false, uncA := count 0 true, uncB := count 1 true
          firstUnc := bad.foldl min 0xFFFFFFFF, persist := s1.persistCount - s.persistCount
          due := s.now + Config.framesPerMs + ceilDiv (4 * n) 50 }
      let s2 := if g = 4 then s1.scrubStore first n ws else s1
      let s2 : State := { s2 with mig := { s2.mig with scrub := some sc } }
      (s2.wr MEM_STATUS.SCRUB_BUSY 1 0).wr MEM_STATUS.SCRUB_BUSY 1 1

/-- SCRUB_DONE (R410): the summary is written to host memory, and the scrub completes. -/
def execScrubDone (s : State) : Host.Outcome State Fault Refusal :=
  .next <|
    match s.mig.scrub with
    | none => s
    | some c =>
      let s1 := s.reach c.due
      let s2 : State := { s1 with mig := { s1.mig with scrub := none } }
      let s3 := (s2.wr MEM_STATUS.SCRUB_BUSY 0 0).wr MEM_STATUS.SCRUB_BUSY 0 1
      s3.withDesc c.desc fun d =>
        let w := leBytes 4 c.scanned ++ leBytes 4 c.corrA ++ leBytes 4 c.corrB ++ leBytes 4 c.uncA ++ leBytes 4 c.uncB ++
          leBytes 4 c.firstUnc ++ leBytes 1 c.persist ++ leBytes 7 0
        (s3.toHost (d.fld 24 8) w).done d (if c.uncA + c.uncB = 0 then stOK else stScrubUncorr) (c.corrA + c.corrB)

end Sys2Proof.Machine
end

