-- ==== Sys2Proof/Machine/Saf.lean ====
section
/-! DEFINITION. The Safety Supervisor (chapter 13): fault sources and their causes, occurrences, reactions, Eclipse, the
fault pair and clearing. -/
namespace Sys2Proof.Machine

/-! ### The fault source table (R344 to R350) -/

/-- Where the entry of a fault source starts (R350). -/
def fltAddr (n : Nat) : Nat := faultBase + 16 * n

/-- A source that the tables of R345 to R347 list. -/
def faultListed (n : Nat) : Bool :=
  if n < 192 then decide (n % 24 ≤ 18)
  else if n < 320 then decide ((n - 192) % 64 ≤ 16)
  else decide (n ≤ 335)

/-- SEVERITY, ACTION and PAIR of a source's entry. -/
def State.sevOf (s : State) (n : Nat) : Nat := s.load (fltAddr n) 1 % 4
@[inherit_doc State.sevOf] def State.actOf (s : State) (n : Nat) : Nat := s.load (fltAddr n + 1) 1 % 8
@[inherit_doc State.sevOf] def State.pairOf (s : State) (n : Nat) : Bool := bit (s.load (fltAddr n + 1) 1) 3

/-- A source that latches, if it is latched (R354). -/
def State.latchOf (s : State) (n : Nat) : Option Latch := s.saf.latches.find? fun l => l.source == n

/-- The cause of a source of a tile is present (R345). -/
def State.tileCause (s : State) (t k : Nat) : Bool :=
  let ins := List.range 128
  match k with
  | 0 | 12 | 13 => s.cause (srcTile t k)
  | 1 | 2 => ins.any fun i => s.guardBit DRV_GUARD_TRIP.TRIP t i && s.on MON_IN_STATUS.DARK_OUT t i
  | 3 => ins.any fun i => s.on MON_IN_STATUS.LOSS_TRIP t i && s.on MON_IN_STATUS.LOSS_OUT t i
  | 4 => ins.any fun i => bit (s.rd TON_PT_LOSS.LOSS (4 * t + i / 32)) (i % 32) && nget s.ton.lastL (128 * t + i) != 0
  | 5 => ins.any fun i => bit (s.rd TON_PT_FOREIGN.FOREIGN (4 * t + i / 32)) (i % 32) && nget s.ton.lastF (128 * t + i) != 0
  | 6 | 7 => decide (s.rd DRV_FOLD_CFG.ICAP t < s.rd DRV_IVHV.IMEAN t)
  | 9 => s.activeChannels.any fun ch => ch / 2048 == t && s.outState ch == stFailed
  | 10 => s.rd MON_REF_STATUS.REF_BAD t != 0 || s.rd MON_REF_STATUS.PAIR_MISMATCH t != 0
  | 14 => match s.reading (64 + t) with | some v => decide (12000 < v) | none => false
  | 18 => s.on DRV_STATUS.ORPHAN t
  | _ => false

/-- The cause of a source of a die is present (R346). -/
def State.dieCause (s : State) (d k : Nat) : Bool :=
  match k with
  | 2 => s.allCtx.any fun x => s.ctxState x == 3
  | 9 | 10 => s.cause (srcDie d k)
  | 12 => !s.on LKS_STATUS.DIE_LINK d
  | 13 => !s.on HPT_STATUS.LINK_UP d
  | _ => false

/-- The cause of a source of the module is present (R347). -/
def State.moduleCause (s : State) (k : Nat) : Bool :=
  match k with
  | 0 => s.on SAF_STATUS.SAFE_N_REQ
  | 1 => s.on SAF_CTL.SW_ECLIPSE
  | 2 | 3 | 4 | 5 | 13 => s.cause (srcModule k)
  | 6 => s.on MER_STATUS.REFCLK_BAD
  | 7 => s.on MER_STATUS.HOLDOVER
  | 8 => s.on MER_PORT_STATUS.SYNC_LOST 0
  | 9 => s.on MER_PORT_STATUS.SYNC_LOST 1
  | 10 => (List.range 72).any fun z => s.on CAL_TEMP.SENSOR_BAD z
  | 14 => s.on LKS_STATUS.HOLD 0 || s.on LKS_STATUS.HOLD 1
  | 15 => decide (9500 < toS 16 s.pins.caseTemp)
  | _ => false

/-- The cause of a source is present now (R345 to R347); an injected one only in its frame (R361). -/
def State.causeNow (s : State) (n : Nat) : Bool :=
  if nget s.saf.injAt n = s.now + 1 then true
  else if n < 192 then s.tileCause (n / 24) (n % 24)
  else if n < 320 then s.dieCause ((n - 192) / 64) ((n - 192) % 64)
  else s.moduleCause (n - 320)

/-- The target of a source's block reset (R352): 0 FINE_REF, 1 SAMPLE_RING, 2 LINK_A and LINK_B, 3 TIMING_PORT0 and
TIMING_PORT1, 4 HOST_LINK, 5 SGF_LOOP. -/
def resetKind (n : Nat) : Option Nat :=
  if n < 192 then (match n % 24 with | 10 => some 0 | 11 => some 1 | 12 | 13 => some 2 | _ => none)
  else if n < 320 then (match (n - 192) % 64 with | 13 => some 4 | 14 => some 5 | _ => none)
  else (match n - 320 with | 8 | 9 => some 3 | _ => none)

/-- The ports on which a source's port Eclipse acts (R353). -/
def State.faultPorts (s : State) (n info : Nat) : List Nat :=
  let port := match s.guardedPort info with | some p => some p | none => s.portOfMonitor info
  if 192 ≤ n then []
  else
    match n % 24 with
    | 1 | 3 | 4 | 5 => port.toList
    | 2 => port.toList ++ (match port with
        | some p => ((s.paths []).filter fun x => x.egress == p).map Path.ingress
        | none => [])
    | 9 => match s.elemAt info with
      | some e => (((s.paths []).filter fun x => s.crosses x e).map Path.egress).dedup
      | none => []
    | _ => s.crossing (n / 24)

/-! ### What the reactions do (R351 to R353, R363, R365, R366) -/

/-- The state that the latched sources give the device, and the counts of the history queue (R356, R357). -/
def State.safRefresh (s : State) : State :=
  let n := s.saf.latches.foldl (fun m l => max m (s.sevOf l.source + 1)) 0
  ((s.wr SAF_STATUS.STATE n).wr SAF_HIST_STATUS.COUNT s.saf.hist.length).wr SAF_STATUS.HIST_FULL
    (b2n (decide (32 ≤ s.saf.hist.length)))

/-- A port's ESC follows the holds on it (R366). -/
def State.setEsc (s : State) (p : Nat) (v : Bool) : State :=
  let w := s.rd SAF_PORT_ESC.BITS (p / 32)
  let s1 := s.wr SAF_PORT_ESC.BITS (if v then setBit w (p % 32) else clrBit w (p % 32)) (p / 32)
  match s.gateCh p with
  | some ch => s1.chWr DRV_CH_GATEW.ESC (b2n v) ch
  | none => s1

/-- The latch of a source is replaced. -/
def State.setLatch (s : State) (l : Latch) : State :=
  { s with saf := { s.saf with latches := (s.saf.latches.filter fun x => x.source != l.source) ++ [l] } }

/-- A source holds ports under port Eclipse (R355, R366). -/
def State.holdPorts (s : State) (n : Nat) (ps : List Nat) : State :=
  let s1 : State := { s with saf := { s.saf with latches := s.saf.latches.map fun l =>
    if l.source = n then { l with ports := l.ports ++ ps.filter fun p => !l.ports.contains p } else l } }
  ps.foldl (fun t p => t.setEsc p true) s1

/-- A consequence window opens (R363). -/
def State.openWindow (s : State) (f severity : Nat) (reach : List Nat) : State :=
  { s with saf := { s.saf with windows := s.saf.windows ++
    [{ first := f + 1, last := f + s.rd SAF_CONSEQ_WIN.FRAMES, severity := severity, reach := reach }] } }

/-- A re-application that has not swapped is abandoned as a global Eclipse begins, and what waits for it completes
with ECLIPSED (R372, R374). -/
def State.dropReapply (s : State) : State :=
  let drop (t : State) (seq : Nat) : State := (t.wr SAF_STATUS.REAPPLY 0).endClears seq t.now stEclipsed
  let s1 := match s.orb.reqs.find? fun r => r.origin == .reapply with
    | some r => drop (s.dequeue fun x => x.origin == .reapply) r.seq
    | none => s
  match s.pln.cycle with
  | some c =>
    match c.req.origin, c.phase with
    | .reapply, .checked => drop (s1.cancelCycle stEclipsed) c.req.seq
    | .reapply, .staged => drop (s1.cancelCycle stEclipsed) c.req.seq
    | _, _ => s1
  | none => s1

/-- Global Eclipse starts (R365), with its effects on commits (R108), generators (R275), players (R290), loops (R229) and a
sweep (R314). -/
def State.startGlobe (s : State) : State :=
  let s1 := ((s.wr SAF_STATUS.GLOBAL_ECLIPSE 1).bump SAF_CNT_ECLIPSE.COUNT).occur 512
  let s2 := s1.dropReapply.eclipseCycle
  let s3 := s2.prf.gens.foldl (fun t g => (t.withdraw 3 g.ch (t.now + 1)).releaseGen g.ch) s2
  let s4 := s3.prf.players.foldl (fun t p => t.stopPlayer p stStreamEclipsed) s3
  (s4.loopChannels.foldl State.pauseLoops s4).abandonSweep

/-- A source holds global Eclipse (R355): the first hold starts it. -/
def State.holdGlobe (s : State) (n : Nat) : State :=
  let first := !(s.saf.latches.any fun l => l.globe)
  let s1 : State := { s with saf := { s.saf with latches := s.saf.latches.map fun l =>
    if l.source = n then { l with globe := true } else l } }
  if first then s1.startGlobe else s1

/-- The block reset of a source (R352). -/
def State.blockReset (s : State) (n : Nat) : State :=
  let t := n / 24
  let d := (n - 192) / 64
  let p := n - 328
  let run (u : State) (frames : Nat) : State :=
    { u with saf := { u.saf with resets := u.saf.resets ++ [(n, u.now + frames)] } }
  match resetKind n with
  | some 0 =>
    let bad := (List.range 16).filter fun m => s.refBad t (m / 2 * 2) || s.refBad t (m / 2 * 2 + 1)
    run (bad.foldl (fun u m => (List.range 8).foldl (fun w i => w.abandonBlock (128 * t + 8 * m + i)) u) s) 40000
  | some 1 => run s 2
  | some 2 => run s 40
  | some 3 => run (s.wr MER_PORT_STATUS.LINK 0 p) 20000
  | some 4 =>
    let s1 := s.hostReset d true
    run { s1 with pins := { s1.pins with training := nset s1.pins.training d 1 } } 0
  | some 5 => run s.resetLoops 1
  | _ => s

/-- LOSS and PATH_LOSS of some tiles (R363). -/
def lossReach (tiles : List Nat) : List Nat := tiles.flatMap fun t => [srcTile t 3, srcTile t 4]

/-- The tiles that hold the monitors of ports. -/
def State.monitorTiles (s : State) (ps : List Nat) : List Nat :=
  (((ps.map fun p => (s.port p).monitor).filter fun m => decide (m < 1024)).map (· / 128)).dedup

/-- The failover reaction of a source (R351, R383, R386, R387). While a mismatch is to be resolved or a hold is in force no
role moves. The answer says whether global Eclipse is taken instead. -/
def State.failoverReaction (s : State) (n : Nat) : Bool × State :=
  if s.lks.mismatch.isSome || s.held_ then (false, s)
  else if decide (192 ≤ n) && decide (n < 320) && s.role ((n - 192) / 64) != 2 then
    (false, if s.role ((n - 192) / 64) = 1 then s.detachStandby else s)
  else if s.standby?.isNone then (true, s)
  else (false, s.failover 1)

/-- The fixed actions that an occurrence's first real latching takes here (R348, R349, R385): a lost tile, and a die-to-die
link that is down. -/
def State.loseTile (s : State) (t : Nat) : State :=
  let mine (ch : Nat) : Bool := ch / 2048 == t
  let s1 := (s.gateChannels.filter mine).foldl (fun u ch => u.chWr DRV_CH_GATEW.LOSTBLK 1 ch) s
  let gates := ((s.crossing t).filterMap s.gateCh).filter fun ch => !mine ch
  let s2 := (((s1.addLost (gates.map fun ch => (ch, t))).tileLossCycle.abandonSweep).abandonMeas fun m => m.group / 64 == t
    ).zonesStay t
  let s3 := (s2.prf.gens.filter fun g => mine g.ch).foldl (fun u g => (u.withdraw 3 g.ch (u.now + 1)).releaseGen g.ch) s2
  let s4 := (s3.prf.players.filter fun p => mine p.ch).foldl (fun u p => u.stopPlayer p stTileLost) s3
  let ctxs := s4.allCtx.filter fun x => mine (x / 3) && s4.ctxState x != 0
  let s5 := (ctxs.foldl (fun u x =>
    (u.setCtxState x 4).wr LPA_OPEN_LOOP.OPEN (clrBit (u.rd LPA_OPEN_LOOP.OPEN (x / 32)) (x % 32)) (x / 32)) s4).discardLoops mine
  { s5 with
    lpa := { s5.lpa with
      resume := s5.lpa.resume.filter fun r => !mine r.ch
      resumeCtx := s5.lpa.resumeCtx.filter fun r => !mine (r.1 / 3) }
    drv := { s5.drv with
      queue := s5.drv.queue.filter fun w => !mine w.ch
      down := s5.drv.down.filter fun w => !mine w.ch } }

@[inherit_doc State.loseTile] def State.fixedAction (s : State) (n : Nat) : State :=
  if n < 192 then (if n % 24 = 0 then s.loseTile (n / 24) else s)
  else if n = srcDie 0 12 ∨ n = srcDie 1 12 then ((s.wr LKS_STATUS.DIE_LINK 0 0).wr LKS_STATUS.DIE_LINK 0 1).detachStandby
  else s

/-! ### Occurrences (R351, R354 to R364) -/

/-- An occurrence as the Safety Supervisors take it: of one source in one frame, real, injected (1 recorded only, 2
reacting), or both (R362). -/
structure Strike where
  source : Nat
  info : Nat
  die : Nat
  at_ : Nat
  real : Bool
  inj : Nat
  deriving DecidableEq, Repr

/-- Word W0 of an occurrence's entry (R359). -/
def Strike.w0 (x : Strike) (sev : Nat) (conseq : Bool) : Nat :=
  x.info * 2 ^ 16 + 2 ^ 15 + 2 ^ 14 * x.die + 2 ^ 13 * b2n conseq + 2 ^ 12 * b2n (x.inj != 0) + 2 ^ 11 * b2n x.real +
    2 ^ 9 * sev + x.source

/-- The windows in whose reach a real occurrence falls (R363). -/
def State.windowsFor (s : State) (x : Strike) : List Conseq :=
  s.saf.windows.filter fun w => x.real && decide (w.first ≤ x.at_) && decide (x.at_ ≤ w.last) && w.reach.contains x.source

/-- The FAULT_RECORD of an occurrence (R360). -/
def State.faultRecord (s : State) (x : Strike) (w0 seq action flags : Nat) : State :=
  s.record 6 x.source (ticksOf x.at_)
    (leBytes 4 w0 ++ leBytes 8 (ticksOf x.at_) ++ leBytes 4 seq ++ leBytes 1 action ++ leBytes 1 flags ++ leBytes 30 0)

/-- The reaction of a source that has latched: what it holds, and what it starts (R351). The answer is the action taken. -/
def State.react (s : State) (x : Strike) (sev : Nat) : Nat × State :=
  let n := x.source
  let act := s.actOf n
  let s0 := if act = 0 ∨ 5 < act then s else s.msix (s.rd SAF_VEC.VECTOR)
  let (instead, s1) := if act = 5 then s0.failoverReaction n else (false, s0)
  let globe := act == 4 || sev == 3 || instead
  let pair := sev == 3 || s.pairOf n
  let s2 := if globe then (s1.holdGlobe n).openWindow x.at_ sev (lossReach (List.range 8)) else s1
  let ports := if act = 3 then s.faultPorts n x.info else []
  let s3 := if ports = [] then s2 else (s2.holdPorts n ports).openWindow x.at_ sev (lossReach (s.monitorTiles ports))
  let s4 := if act = 2 ∧ (resetKind n).isSome then (s3.blockReset n).openWindow x.at_ sev [n] else s3
  let s5 : State := if pair then { s4 with saf := { s4.saf with latches := s4.saf.latches.map fun l =>
    if l.source = n then { l with pair := true } else l } } else s4
  (if instead then 4 else act, s5)

/-- An occurrence of a source that is not latched, or latched by injections only while it is real (R354): a new entry, the
latch and the reaction. -/
def State.newEntry (s : State) (x : Strike) : State :=
  let sev := s.sevOf x.source
  let ws := s.windowsFor x
  let reacts := if x.real then ws.all fun w => decide (w.severity < sev) else x.inj == 2
  let seq := (s.rd SAF_SEQ.SEQ + 1) % 2 ^ 32
  let w0 := x.w0 sev (!ws.isEmpty)
  let dropped := decide (32 ≤ s.saf.hist.length)
  let s1 := s.wr SAF_SEQ.SEQ seq
  let s2 : State := if dropped then s1.bump SAF_HIST_OVF.COUNT
    else { s1 with saf := { s1.saf with hist := s1.saf.hist ++ [{ w0 := w0, ticks := ticksOf x.at_, seq := seq }] } }
  let s3 := if bit (s2.rd SAF_FIRST_W0.ENTRY) 15 then s2
    else (((s2.wr SAF_FIRST_W0.ENTRY w0).wr SAF_FIRST_W1.ENTRY (ticksOf x.at_)).wr SAF_FIRST_W2.ENTRY
      (ticksOf x.at_ / 2 ^ 32)).wr SAF_FIRST_W3.ENTRY seq
  let old := s3.latchOf x.source
  let l : Latch := { source := x.source, real := x.real, seq := seq
                     globe := (old.map Latch.globe).getD false, pair := (old.map Latch.pair).getD false
                     ports := (old.map Latch.ports).getD [] }
  let s4 := s3.setLatch l
  let s5 := if old.isSome then s4 else s4.occur 516
  let s6 := if x.real then s5.fixedAction x.source else s5
  let (action, s7) := if reacts then s6.react x sev else (7, s6)
  let s8 := if decide (2 ≤ sev) && s7.on PWR_CTL.EXIT_ON_FAULT then s7.duskExit else s7
  let pair := reacts && (sev == 3 || s.pairOf x.source)
  (s8.faultRecord x w0 seq action (b2n pair + 2 * b2n dropped)).safRefresh.pairRefresh

/-- A repeat of a latched source (R354): an eclipse of ports that it holds is extended to those of its own INFO. -/
def State.repeatEntry (s : State) (x : Strike) (l : Latch) : State :=
  let s1 := if l.ports = [] ∨ (!x.real ∧ x.inj = 1) then s else s.holdPorts x.source (s.faultPorts x.source x.info)
  s1.faultRecord x (x.w0 (s.sevOf x.source) (!(s.windowsFor x).isEmpty)) l.seq 0 4

/-- A die whose source has a failover as its default reaction raises SELFCHECK while a mismatch is to be resolved (R383). -/
def State.selfcheckToo (s : State) (x : Strike) : State :=
  let d := (x.source - 192) / 64
  if s.lks.mismatch.isNone || !x.real || decide (x.source < 192) || decide (320 ≤ x.source) || actDefault x.source != 5 ||
      s.lks.failed.contains d then s
  else
    let s1 : State := { s with lks := { s.lks with failed := d :: s.lks.failed } }
    let s2 := s1.wr LKS_STATUS.SELFCHECK 1 d
    if x.source = srcDie d 8 then s2 else s2.raise (srcDie d 8) 0 d

/-- An occurrence is taken (R354): COUNT and INFO of the source's entry follow, and it makes an entry of its own or
repeats one. -/
def State.strike (s : State) (x : Strike) : State :=
  let a := fltAddr x.source
  let s1 := ((s.reach x.at_).bumpMem (a + 8) 4).store (a + 6) 2 x.info
  let s2 := s1.selfcheckToo x
  match s2.latchOf x.source with
  | some l => if l.real || !x.real then s2.repeatEntry x l else s2.newEntry x
  | none => s2.newEntry x

/-- The order in which occurrences are taken: by frame, then by source (R357). -/
def Occ.before (a b : Occ) : Bool := decide (a.at_ < b.at_) || (a.at_ == b.at_ && decide (a.source ≤ b.source))

/-- The occurrence to be taken first. -/
def firstOcc : List Occ → Option Occ
  | [] => none
  | a :: t => match firstOcc t with | none => some a | some b => if a.before b then some a else some b

/-- The first occurrence leaves those that wait and is taken, with the injections of its source and frame (R362). -/
def State.takeOcc (s : State) (o : Occ) : State :=
  let same (x : Occ) : Bool := x.source == o.source && x.at_ == o.at_
  let real := s.saf.raised.find? fun x => same x && x.inj == 0
  let mode := (s.saf.raised.filter same).foldl (fun m x => max m x.inj) 0
  let y := real.getD o
  let left := (s.saf.raised.filter fun x => !(same x && x.inj != 0)).eraseP fun x => same x && x.inj == 0
  let injAt := if mode = 0 then s.saf.injAt else nset s.saf.injAt o.source (max o.at_ s.now + 1)
  ({ s with saf := { s.saf with raised := left, injAt := injAt } } : State).strike
    { source := y.source, info := y.info, die := y.die, at_ := y.at_, real := real.isSome, inj := mode }

/-- Occurrences are taken in their order up to one of a source. -/
def State.takeUpTo (s : State) (n : Nat) : Nat → State
  | 0 => s
  | fuel + 1 => match firstOcc s.saf.raised with
    | none => s
    | some o => if o.source = n then s.takeOcc o else (s.takeOcc o).takeUpTo n fuel

/-- Sources whose cause the detector alone shows keep it from the detection on (R345 to R347). -/
def causeKept (n : Nat) : Bool :=
  if n < 192 then [0, 12, 13].contains (n % 24)
  else if n < 320 then [9, 10].contains ((n - 192) % 64)
  else [2, 3, 4, 5, 13].contains (n - 320)

/-- FAULT_OCCURRENCE (R354): the Safety Supervisors take an occurrence of a source, after those detected before it. One
that no command has raised is detected now; the vote correction of a VOTE counts in both dies' buckets (R404). A reserved
source is never raised (R344). -/
def execFaultOccurrence (source : Fin 384) (info : BitVec 16) (die : Fin 2) (s : State) : Host.Outcome State Fault Refusal :=
  .next <|
    let n := source.val
    if !faultListed n then s
    else
      let s1 := if s.saf.raised.any fun x => x.source == n then s
        else
          let s2 := s.raise n info.toNat (if 192 ≤ n ∧ n < 320 then (n - 192) / 64 else die.val)
          let s3 := if n < 192 ∧ n % 24 = 15 then (s2.bucket 0 15).bucket 1 15 else s2
          if causeKept n then s3.setSrcBit SAF_CAUSE.BITS n true else s3
      s1.takeUpTo n s1.saf.raised.length

/-- BLOCK_RESET_DONE (R352): a block reset of a target ends; that of a host link once the link has trained. -/
def execBlockResetDone (target : Fin 8) (s : State) : Host.Outcome State Fault Refusal :=
  .next <|
    match s.saf.resets.find? fun r => resetKind r.1 == some target.val with
    | none => s
    | some r =>
      if target.val = 4 ∧ !s.on HPT_STATUS.LINK_UP ((r.1 - 192) / 64) then s
      else
        let s1 := s.reach r.2
        { s1 with saf := { s1.saf with resets := s1.saf.resets.erase r } }

/-- CONSEQ_WINDOW_END (R363): the consequence window that ends first is over. -/
def execConseqWindowEnd (s : State) : Host.Outcome State Fault Refusal :=
  .next <|
    match s.saf.windows with
    | [] => s
    | w :: t =>
      let f := t.foldl (fun m x => min m x.last) w.last
      let s1 := s.reach (f + 1)
      { s1 with saf := { s1.saf with windows := s1.saf.windows.filter fun x => decide (f < x.last) } }

/-- FAULT_PAIR_REFRESH_TIMEOUT (R368): the active die has not refreshed the pair's driver for 8 frames. -/
def execFaultPairRefreshTimeout (s : State) : Host.Outcome State Fault Refusal :=
  .next <| ({ s with saf := { s.saf with stale := true } } : State).pairRefresh

/-- SAFE_N_REQUEST (R367): two consecutive low samples; every tile blocks its gates, and the dies raise SAFE_N. -/
def execSafeNRequest (s : State) : Host.Outcome State Fault Refusal :=
  .next <|
    if s.on SAF_STATUS.SAFE_N_REQ then s
    else ((s.wr SAF_STATUS.SAFE_N_REQ 1).occur 519).raise (srcModule 0) 0

/-- SAFE_N_RELEASE (R367): two consecutive high samples. -/
def execSafeNRelease (s : State) : Host.Outcome State Fault Refusal := .next <| s.wr SAF_STATUS.SAFE_N_REQ 0

/-! ### Injection (R361) -/

/-- A write of SAF_INJECT. -/
def State.inject (s : State) (n info mode : Nat) : State :=
  if !s.on SAF_CTL.INJ_EN || decide (384 ≤ n) || !faultListed n then s.wr SAF_STATUS.INJ_REFUSED 1
  else { s with saf := { s.saf with raised := s.saf.raised ++
    [{ source := n, info := info, die := 0, at_ := s.now + 1, inj := mode }] } }

/-- INJECT_RECORD (R361): MODE 0. -/
def execInjectRecord (die : Fin 2) (source : Fin 512) (info : BitVec 16) (s : State) : Host.Outcome State Fault Refusal :=
  .next <| s.viaBar0 die 0x800014 fun s => s.inject source info.toNat 1

/-- INJECT_REACT (R361): MODE 1. -/
def execInjectReact (die : Fin 2) (source : Fin 512) (info : BitVec 16) (s : State) : Host.Outcome State Fault Refusal :=
  .next <| s.viaBar0 die 0x800014 fun s => s.inject source info.toNat 2

/-- SW_ECLIPSE (R347): a change from 0 to 1 raises the source. A write of 0 is refused while debug level FULL stands
(R447). -/
def execSwEclipse (die : Fin 2) (value : Bool) (s : State) : Host.Outcome State Fault Refusal :=
  .next <| s.viaBar0 die 0x800000 fun s =>
    if value then
      if s.on SAF_CTL.SW_ECLIPSE then s else (s.wr SAF_CTL.SW_ECLIPSE 1).raise (srcModule 1) 0
    else if s.rd SEC_STATUS.DBG_LEVEL = 2 then s.wr SAF_STATUS.CFG_REJECT 1
    else s.wr SAF_CTL.SW_ECLIPSE 0

/-! ### The history queue and the first-fault record (R357, R358) -/

/-- The first-fault record is emptied. -/
def State.clearFirst (s : State) : State :=
  (((s.wr SAF_FIRST_W0.ENTRY 0).wr SAF_FIRST_W1.ENTRY 0).wr SAF_FIRST_W2.ENTRY 0).wr SAF_FIRST_W3.ENTRY 0

/-- SAF_FIRST_CLR (R358). -/
def execSafFirstClr (die : Fin 2) (s : State) : Host.Outcome State Fault Refusal :=
  .next <| s.viaBar0 die 0x800000 State.clearFirst

/-- SAF_HIST_POP (R357): the oldest entry leaves the history queue. -/
def execSafHistPop (die : Fin 2) (s : State) : Host.Outcome State Fault Refusal :=
  .next <| s.viaBar0 die 0x800030 fun s =>
    ({ s with saf := { s.saf with hist := s.saf.hist.tail } } : State).safRefresh

/-! ### Clearing (R349, R370 to R372) -/

/-- A tile returns (R349): its words and LIVE banks are loaded, its trips are gone, and its channels enter DRIVE at their
live targets; the gate-word bits stand as the dies' records have them. -/
def State.returnTile (s : State) (t : Nat) : State :=
  let es := s.validElems.filter fun e => s.elemTile e == t
  let chs := es.map fun e => (s.elem e).channel
  let orph := (s.latchOf (srcTile t 18)).isSome
  let ins := List.range 4
  let s1 := es.foldl State.loadWord s
  let s2 := ins.foldl (fun u w => (u.wr DRV_GUARD_TRIP.TRIP 0 t w).wr DRV_GUARD_PERSIST.PERSIST 0 t w) s1
  let s3 := (chs.filter fun ch => s2.chOn DRV_CH_GATEW.GATE ch).foldl (fun u ch =>
    let v := ((u.chWr DRV_CH_GATEW.TRIP 0 ch).chWr DRV_CH_GATEW.LOSTBLK (b2n (u.pln.lostBlocks.any fun b => b.1 == ch && b.2 != t))
      ch).chWr DRV_CH_GATEW.ORPH (b2n orph) ch
    { v with drv := { v.drv with trippedAt := nset v.drv.trippedAt ch 0 } }) s2
  let s4 := s3.wr DRV_STATUS.ARMED (s3.rd PWR_STATUS.ARMED) t
  chs.foldl (fun u ch =>
    let v := u.chWr DRV_CH_LIVE.LIVE (u.liveTarget ch) ch
    let st := v.outState ch
    if st = stRest ∨ st = stDrive ∨ st = stGuardRest then v.wake ch else v) s4

/-- What clearing a source also clears, under the conditions of those clears (R345). -/
def State.clearToo (s : State) (n : Nat) : State :=
  if 192 ≤ n then s
  else
    let t := n / 24
    let ins := List.range 128
    match n % 24 with
    | 0 => s.returnTile t
    | 1 | 2 => ins.foldl (fun u i => u.tripClear t i) s
    | 3 => (ins.filter fun i => s.on MON_IN_STATUS.LOSS_TRIP t i && !s.on MON_IN_STATUS.LOSS_OUT t i).foldl
        (fun u i => u.wr MON_IN_STATUS.LOSS_TRIP 0 t i) s
    | 4 => ins.foldl (fun u i => u.pathClear false (128 * t + i)) s
    | 5 => ins.foldl (fun u i => u.pathClear true (128 * t + i)) s
    | 6 | 7 => s.foldClear t
    | 10 => (s.wr MON_REF_LATCH.REF_BAD 0 t).wr MON_REF_LATCH.PAIR_MISMATCH 0 t
    | 11 => s.wr TON_STATUS.RING_ERR 0
    | 18 => { s with drv := { s.drv with orphClear := t :: s.drv.orphClear } }
    | _ => s

/-- The latched sources among some numbers. -/
def State.latchedOf (s : State) (p : Nat → Bool) : List Nat := (List.range 384).filter fun n => p n && (s.latchOf n).isSome

/-- Latched sources are cleared (R370): their own clears, LATCHED and their holds. The answer is the number of the
re-application's request, if one starts. -/
def State.clearLatched (s : State) (ns : List Nat) : Option Nat × State :=
  let gone := s.saf.latches.filter fun l => ns.contains l.source
  let left := s.saf.latches.filter fun l => !ns.contains l.source
  let held := s.saf.latches.any fun l => l.globe
  let s0 := s.markSuspended
  let s1 : State := { s0 with saf := { s0.saf with latches := left } }
  let free := ((gone.flatMap Latch.ports).dedup).filter fun p => !(left.any fun l => l.ports.contains p)
  let s2 := free.foldl (fun t p => t.setEsc p false) s1
  let s3 := (ns.foldl State.clearToo s2).safRefresh.pairRefresh
  let lastHold := held && !(left.any fun l => l.globe)
  let orphan := ns.any fun n => decide (n < 192) && n % 24 == 18
  if lastHold || orphan then
    let r := s3.startReapply
    (some r.1, r.2)
  else (none, s3)

/-- A write of SAF_CLR that names sources (R370). -/
def State.safClear (s : State) (p : Nat → Bool) : State :=
  let ns := s.latchedOf p
  if ns.any s.causeNow then s.wr SAF_STATUS.CLR_REFUSED 1 else (s.clearLatched ns).2

/-- SAF_CLR_SOURCE (R370). -/
def execSafClrSource (die : Fin 2) (source : Fin 512) (s : State) : Host.Outcome State Fault Refusal :=
  .next <| s.viaBar0 die 0x800010 fun s => s.safClear fun n => n == source.val

/-- SAF_CLR_ALL (R370). -/
def execSafClrAll (die : Fin 2) (s : State) : Host.Outcome State Fault Refusal :=
  .next <| s.viaBar0 die 0x800010 fun s => s.safClear fun _ => true

/-- The body of an ECLIPSE_CLEAR is valid (R371). -/
def clearBodyOk (d : Desc) : Bool :=
  let count := d.fld 10 2
  let first := d.fld 12 2
  decide (d.fld 9 1 < 4) && zeros d.bytes 14 50 &&
    match d.fld 8 1 with
    | 0 => decide (1 ≤ count) && decide (first + count ≤ 384)
    | 1 => count == 0 && first == 0
    | _ => false

/-- An ECLIPSE_CLEAR acts at the frame after its acceptance (R370 to R372). -/
def State.eclipseClear (s : State) (d : Desc) : State :=
  if !clearBodyOk d then s.done d stBadField
  else
    let s := s.reach (s.frameAt d.acc + 1)
    let first := d.fld 12 2
    let ns := s.latchedOf fun n => d.fld 8 1 == 1 || (decide (first ≤ n) && decide (n < first + d.fld 10 2))
    match ns.find? s.causeNow with
    | some n => s.done d stCausePresent n
    | none =>
      let r := s.clearLatched ns
      let s1 := if bit (d.fld 9 1) 0 then r.2.clearFirst else r.2
      let s2 : State := if bit (d.fld 9 1) 1 then ({ s1 with saf := { s1.saf with hist := [] } } : State).safRefresh else s1
      match r.1 with
      | none => s2.done d stOK ns.length
      | some seq => { s2 with saf := { s2.saf with clears := s2.saf.clears ++ [{ desc := d.id, count := ns.length, seq := seq }] } }

/-- The descriptor waits for a re-application. -/
def State.clearWaits (s : State) (id : Nat) : Bool := s.saf.clears.any fun w => w.desc == id

/-- ECLIPSE_CLEAR_SOURCES (R372): OP 0, and an OP that names no clearing. -/
def execEclipseClearSources (id : Nat) (s : State) : Host.Outcome State Fault Refusal :=
  .next <| s.withOp id opEclipseClear fun d => if d.fld 8 1 == 1 || s.clearWaits id then s else s.eclipseClear d

/-- ECLIPSE_CLEAR_ALL (R372): OP 1. -/
def execEclipseClearAll (id : Nat) (s : State) : Host.Outcome State Fault Refusal :=
  .next <| s.withOp id opEclipseClear fun d => if d.fld 8 1 != 1 || s.clearWaits id then s else s.eclipseClear d

end Sys2Proof.Machine
end

