-- ==== Sys2Proof/Machine/Lockstep.lean ====
section
/-! DEFINITION. The Lockstep Supervisor (chapter 14): comparison in the tiles, its resolution, heartbeats, failover by command,
detaching, resynchronisation and the frames that the tiles send up. -/
namespace Sys2Proof.Machine

/-! ### Comparison and resolution (R381 to R384) -/

/-- LOCKSTEP_MISMATCH (R381): a tile finds the dies' frames of a stream frame different. The standby's arrives 2 frames
behind, so the frame is k = now - 2; the tile freezes there. -/
def execLockstepMismatch (tile : Fin 8) (kind : Fin 8) (channel : Fin 16384) (s : State) :
    Host.Outcome State Fault Refusal :=
  .next <|
    if !s.on LKS_CTL.CMP_EN || s.standby?.isNone || s.role s.active != 2 || s.frozen tile || decide (4 < kind.val) then s
    else
      let k := s.now - 2
      let s1 := (s.raise (srcTile tile 17) 0).bump LKS_CNT_MISMATCH.COUNT
      let s2 := if s.on LKS_MISMATCH.VALID then s1
        else ((((s1.wr LKS_MISMATCH.VALID 1).wr LKS_MISMATCH.TILE tile).wr LKS_MISMATCH.KIND kind).wr LKS_MISMATCH.CHANNEL
          (if kind.val = 4 then 0 else channel)).wr LKS_MISMATCH_FRAME.FRAME k
      let s3 := s2.freeze tile k
      if s3.lks.mismatch.isSome then s3
      else { s3 with lks := { s3.lks with mismatch := some (s.now, tile), failed := [] } }

/-- A die's self-check fails (R383). -/
def State.selfcheckFails (s : State) (die : Nat) : State := (s.wr LKS_STATUS.SELFCHECK 1 die).raise (srcDie die 8) 0 die

/-- Every frozen tile resumes, unless a hold is in force. -/
def State.unfreezeAll (s : State) : State := if s.held_ then s else (List.range 8).foldl State.unfreeze s

/-- What the dies that failed their own check mean for the roles (R383): the active die alone, the standby alone, or neither
or both. With no standby left nothing is to be decided, and the tiles resume. -/
def State.resolveTo (s : State) (bad : Nat → Bool) : State :=
  match s.standby? with
  | none => s.unfreezeAll
  | some b =>
    if bad (1 - b) && !bad b then (s.failover 3).unfreezeAll
    else if bad b && !bad (1 - b) then s.detachStandby.unfreezeAll
    else if s.held_ then s else s.beginHold

/-- MISMATCH_RESOLVE (R383): each die has compared its own frame anew, or RESOLVE_WIN is over. -/
def execMismatchResolve (failA failB : Bool) (s : State) : Host.Outcome State Fault Refusal :=
  .next <|
    if s.lks.mismatch.isNone then s
    else
      let bad (d : Nat) : Bool := (if d = 0 then failA else failB) || s.lks.failed.contains d
      let s1 := [0, 1].foldl (fun t d =>
        if (if d = 0 then failA else failB) && !s.lks.failed.contains d then t.selfcheckFails d else t) s
      let s2 : State := { s1 with lks := { s1.lks with mismatch := none, failed := [] } }
      s2.resolveTo bad

/-! ### Heartbeats (R385) -/

/-- HEARTBEAT_MISS (R385): a die finds the other's heartbeat absent in a frame. The second frame in a row raises HEARTBEAT
and acts. -/
def execHeartbeatMiss (observer : Fin 2) (s : State) : Host.Outcome State Fault Refusal :=
  .next <|
    let o := observer.val
    if s.role o = 0 ∨ s.role (1 - o) = 0 then s
    else
      let last := nget s.lks.missAt o
      let f := if last = s.now + 1 then s.now + 1 else s.now
      let s1 := (s.reach f).bump LKS_CNT_HB_MISS.COUNT
      let s2 : State := { s1 with lks := { s1.lks with missAt := nset s1.lks.missAt o (f + 1) } }
      if last ≠ f ∨ last = 0 then s2
      else
        let s3 := s2.raise (srcDie o 11) 0 o
        if s3.held_ then s3
        else if s3.role o = 1 then s3.failover 2
        else s3.detachStandby

/-! ### FAILOVER and LKS_CMD (R386, R395) -/

/-- A command of the Lockstep Supervisor that ends at once (R395): a descriptor's completion, or LKS_CMD_STATUS. -/
def State.lksNow (s : State) (d : Option Desc) (status : Nat) : State :=
  match d with
  | some d => s.done d status
  | none => s.wr LKS_CMD_STATUS.STATUS status

/-- A command of the Lockstep Supervisor that waits. -/
def State.lksWait (s : State) (d : Option Desc) (op arg : Nat) : State :=
  let s1 : State := { s with lks := { s.lks with pending := some { op := op, desc := d.map Desc.id, arg := arg } } }
  if d.isNone then s1.wr LKS_CMD_STATUS.BUSY 1 else s1

/-- SWITCH is accepted (R386): it takes effect 2 frames after its acceptance or later. -/
def State.lksSwitch (s : State) (d : Option Desc) : State :=
  if s.standby?.isNone then s.lksNow d stNoStandby
  else if s.lks.pending.isSome then s.lksNow d stLksBusy
  else s.lksWait d 0 ((match d with | some d => s.frameAt d.acc | none => s.now) + 2)

/-- DETACH is accepted (R395): the standby becomes DETACHED at the next frame. -/
def State.lksDetach (s : State) (d : Option Desc) : State :=
  if s.standby?.isNone then s.lksNow d stNoStandby
  else if s.lks.pending.isSome then s.lksNow d stLksBusy
  else ((s.lksNow d stOK).reach (s.now + 1)).detachStandby

/-- The detached die, while the other is ACTIVE. -/
def State.detached? (s : State) : Option Nat := [0, 1].find? fun d => s.role d == 0 && s.role (1 - d) == 2

/-- What a die keeps for itself returns to its reset values as it restarts (R41, R378, R396): its endpoint, its memory
integrity block, Bus Matrix, counters and clocks. `pass` gives the memory groups whose self-test passes. -/
def State.resetDie (s : State) (die pass : Nat) : State :=
  let off := 0x10000000 * die
  let s1 := ((((s.clearRegs (off + 0x0C) (off + 0x1C)).clearRegs (off + 0x24) (off + 0x2C)).clearRegs (off + 0xA00000)
    (off + 0xB00000)).clearRegs (off + 0xC00000) (off + 0xD00000)).clearRegs (off + 0xE00000) (off + 0xF00000)
  let s2 := ((((s1.clearRegs (off + 0xF00140) (off + 0xF0014C)).wr PWR_CLK_LOCK.LOCK 0x3FFFFF die).clearMem
    (off + 0xE30000) (off + 0xE38000)).clearMem (msixBase die) (msixBase (die + 1))).clearMem (cfgBase die) (cfgBase (die + 1))
  let s3 := (((s2.wr HPT_STATUS.HEADLESS 1 die).wr HPT_STATUS.LINK_UP 0 die).wr HPT_STATUS.LINK_WIDTH 0 die).wr
    HPT_STATUS.LINK_SPEED 0 die
  let s4 := ((((s3.wr LKS_STATUS.LAGGING 0 die).wr LKS_STATUS.SELFCHECK 0 die).wr LKS_STATUS.CFG_REJECT 0 die).wr
    MEM_SELFTEST.PASS pass die).wr MEM_STATUS.SELFTEST_OK (b2n (pass == 0xFFFF)) die
  let other (n : Nat) (l : List (Nat × Nat)) : List (Nat × Nat) := l.filter fun x => x.1 / n != die
  { s4 with
    hpt := { s4.hpt with pba := other 256 s4.hpt.pba }
    pins := { s4.pins with training := nset s4.pins.training die 1 }
    pmc := { s4.pmc with
      since := (List.range 64).foldl (fun l c => nset l (64 * die + c) (s.now + 1)) (other 64 s4.pmc.since)
      base := other 64 s4.pmc.base, at_ := other 64 s4.pmc.at_, job := other 64 s4.pmc.job, cls := other 64 s4.pmc.cls
      count := other 8 s4.pmc.count, cfg := other 8 s4.pmc.cfg
      wrapped := s4.pmc.wrapped.filter fun x => x.1 != die, due := s4.pmc.due.filter fun x => x.die != die }
    mig := { s4.mig with
      tracks := s4.mig.tracks.filter fun x => x.die != die
      copies := other 8 s4.mig.copies, leakAt := other 16 s4.mig.leakAt, bad := other 1 s4.mig.bad }
    bmx := { s4.bmx with arbs := s4.bmx.arbs.filter fun x => x.1 / 32 != die }
    pwr := { s4.pwr with clocks := other 32 s4.pwr.clocks } }

/-- RESYNC is accepted (R396): the detached die resets and starts to copy the active die's state. -/
def State.lksResync (s : State) (d : Option Desc) : State :=
  match s.detached? with
  | none => s.lksNow d stNotDetached
  | some x =>
    if s.lks.pending.isSome then s.lksNow d stLksBusy
    else (((s.wr LKS_STATUS.RESYNC 1 0).wr LKS_STATUS.RESYNC 1 1).resetDie x 0xFFFF).lksWait d 2 x

/-- KEEP is accepted (R384): the die named becomes ACTIVE and re-applies its live image, the other DETACHED. -/
def State.lksKeep (s : State) (d : Option Desc) (die : Nat) : State :=
  if !s.held_ then s.lksNow d stNotHeld
  else if (match s.lks.pending with | some p => p.op != 0 | none => false) then s.lksNow d stLksBusy
  else
    let old := s.active
    let s1 := ((((s.endSwitch).setRole die 2).setRole (1 - die) 0).leaveLockstep (1 - die)).followAll die 0
    let s2 := if old = die then s1 else (s1.wr LKS_STATUS.LAGGING 1 die).wr LKS_STATUS.LAGGING 0 (1 - die) |>.repost
    let s3 : State := { s2 with
      saf := { s2.saf with stale := false }
      marks := if old = die then s2.marks else nset s2.marks 3 (s.now + 1) }
    ((s3.pairRefresh.lksWait d 3 die).startReapply).2

/-- A FAILOVER body is valid (R395). -/
def failoverBodyOk (d : Desc) : Bool :=
  decide (d.fld 8 1 ≤ 3) && decide (d.fld 9 1 ≤ (if d.fld 8 1 = 3 then 1 else 0)) && zeros d.bytes 10 54

/-- A FAILOVER descriptor of an OP that does not wait yet is handled as `f` says. An OP that names no operation is refused
with the first. -/
def State.failoverOp (s : State) (id op : Nat) (f : Desc → State) : State :=
  s.withOp id opFailover fun d =>
    let waits := match s.lks.pending with | some p => p.desc == some id | none => false
    if waits || (d.fld 8 1 != op && !(op == 0 && decide (3 < d.fld 8 1))) then s
    else if failoverBodyOk d then f d else s.done d stBadField

/-- SWITCH (R386). -/
def execSwitch (id : Nat) (s : State) : Host.Outcome State Fault Refusal :=
  .next <| s.failoverOp id 0 fun d => s.lksSwitch (some d)

/-- DETACH (R395). -/
def execDetach (id : Nat) (s : State) : Host.Outcome State Fault Refusal :=
  .next <| s.failoverOp id 1 fun d => s.lksDetach (some d)

/-- RESYNC (R396). -/
def execResync (id : Nat) (s : State) : Host.Outcome State Fault Refusal :=
  .next <| s.failoverOp id 2 fun d => s.lksResync (some d)

/-- KEEP (R384). -/
def execKeep (id : Nat) (s : State) : Host.Outcome State Fault Refusal :=
  .next <| s.failoverOp id 3 fun d => s.lksKeep (some d) (d.fld 9 1)

/-- LKS_CMD_SWITCH (R395): OP 1 of LKS_CMD. -/
def execLksCmdSwitch (die : Fin 2) (s : State) : Host.Outcome State Fault Refusal :=
  .next <| s.viaBar0 die 0x900004 fun s => s.lksSwitch none

/-- LKS_CMD_DETACH (R395): OP 2. -/
def execLksCmdDetach (die : Fin 2) (s : State) : Host.Outcome State Fault Refusal :=
  .next <| s.viaBar0 die 0x900004 fun s => s.lksDetach none

/-- LKS_CMD_RESYNC (R395): OP 3. -/
def execLksCmdResync (die : Fin 2) (s : State) : Host.Outcome State Fault Refusal :=
  .next <| s.viaBar0 die 0x900004 fun s => s.lksResync none

/-- LKS_CMD_KEEP (R395): OP 4. -/
def execLksCmdKeep (die : Fin 2) (keep : Fin 2) (s : State) : Host.Outcome State Fault Refusal :=
  .next <| s.viaBar0 die 0x900004 fun s => s.lksKeep none keep

/-! ### What the commands wait for (R386, R390, R396) -/

/-- SWITCH_EFFECT (R386): at frame X, the first from 2 frames after acceptance at which no commit cycle is in progress, the
standby takes over. -/
def execSwitchEffect (s : State) : Host.Outcome State Fault Refusal :=
  .next <|
    match s.lks.pending with
    | none => s
    | some p =>
      if p.op ≠ 0 || s.pln.cycle.isSome || s.held_ || s.standby?.isNone then s
      else
        let s1 := (s.reach p.arg).failover 4
        s1.lksDone stOK (some (s1.rd LKS_LAST_FO.GAP + 256 * s1.rd LKS_LAST_FO.TWILIGHT)) s1.ticks

/-- The first frame from `f` on with no phase 0 of any class in the two frames after it (R218, R390). -/
def lagFrame (f : Nat) : Nat := if f % 40 = 0 then f + 2 else if f % 40 = 1 then f + 1 else f

/-- LAG_CLOSE (R390): the new active die's next timeline frame after k, the first fit frame from the one at which the tiles first
followed it, is k + 3, and its lag is closed. -/
def execLagClose (s : State) : Host.Outcome State Fault Refusal :=
  .next <|
    if !s.on LKS_STATUS.LAGGING s.active || s.pln.cycle.isSome then s
    else (s.reach (lagFrame (max (s.now - 2) (nget s.marks 3)) + 3)).wr LKS_STATUS.LAGGING 0 s.active

/-- A die's clock and core supply causes end (R346). -/
def State.dieUp (s : State) (die : Nat) : State :=
  (s.setSrcBit SAF_CAUSE.BITS (srcDie die 9) false).setSrcBit SAF_CAUSE.BITS (srcDie die 10) false

/-- The pending RESYNC is over. -/
def State.endResync (s : State) (status : Nat) : State :=
  ((s.wr LKS_STATUS.RESYNC 0 0).wr LKS_STATUS.RESYNC 0 1).lksDone status none s.ticks

/-- The context words that the dies hold apart become those of one die (R256, R396). -/
def State.joinK (s : State) (die : Nat) : State :=
  let own := s.lpa.probeK.filter fun c => c.2 != 0
  let s1 := if die = 0 then s else own.foldl (fun t c => t.store (ctxAddr (c.1 / 8) + 24 + 4 * (c.1 % 8)) 4 (c.2 - 1)) s
  { s1 with lpa := { s1.lpa with probeK := [] } }

/-- RESYNC_JOIN (R396): the die joins as STANDBY with a copy of the active die's work, at a frame with no commit cycle and
none of whose next two frames holds a phase 0; or a step of its Dawn or the copy has failed. -/
def execResyncJoin (ok : Bool) (s : State) : Host.Outcome State Fault Refusal :=
  .next <|
    match s.lks.pending with
    | none => s
    | some p =>
      if p.op ≠ 2 then s
      else if !ok then s.endResync stResyncFail
      else if s.pln.cycle.isSome then s
      else
        let s1 := s.reach (lagFrame s.now)
        let s2 := (((s1.setRole p.arg 1).wr LKS_STATUS.DIE_LINK 1 0).wr LKS_STATUS.DIE_LINK 1 1).dieUp p.arg
        let a := 1 - p.arg
        let job (j : Job) : Job := { j with die := p.arg }
        let run (l : List Run) : List Run := (l.filter fun r => r.job.die == a).map fun r => { r with job := job r.job }
        let s2 := s2.joinK a
        let s3 : State := { s2 with lpa := { s2.lpa with
            jobs := s2.lpa.jobs ++ (s2.lpa.jobs.filter fun j => j.die == a).map job
            runs := s2.lpa.runs ++ run s2.lpa.runs
            ended := s2.lpa.ended ++ run s2.lpa.ended } }
        s3.endResync stOK

/-- DIE_RESTART (R378): a die other than the active one, which has lost and regained its supply or clock, restarts on its own
while the other holds a role, and ends DETACHED. Which memory groups pass is free (assumption 1). -/
def execDieRestart (die : Fin 2) (s : State) : Host.Outcome State Fault Refusal :=
  .next <|
    let d := die.val
    if s.role d = 2 ∨ s.role (1 - d) = 0 then s
    else
      let r := s.draw 16
      let s1 := ((if s.role d = 1 then r.2.detachStandby else r.2).resetDie d r.1).dieUp d
      match s.lks.pending with
      | some p => if p.op = 2 ∧ p.arg = d then s1.endResync stResyncFail else s1
      | none => s1

/-! ### Upstream frames (R148, R166, R347, R349, R468, R469) -/

/-- The reading of a tile's VHV in mV. -/
def State.vhvOf (s : State) (t : Nat) : Nat := nget s.pwr.vhv t - 1

/-- The set value that VHV_LOSS compares with (R469). -/
def State.vhvRef (s : State) : Nat := if s.on PWR_STATUS.VHV_RAMP then min s.pwr.before s.pwr.target else s.pwr.target

/-- A cause that a detector holds follows it, and its source is raised as it begins (R347). -/
def State.level (s : State) (n : Nat) (v : Bool) : State :=
  let s1 := s.setSrcBit SAF_CAUSE.BITS n v
  if v && !s.cause n then s1.raise n 0 else s1

/-- What the tiles' readings of VHV show (R347, R469): the lowest, whether every one is good, whether any has been below
85 % of the set value for 20 frames, and whether the module draws more than 120 W. -/
def State.vhvEval (s : State) : State :=
  let ts := List.range 8
  let read := ts.filter fun t => nget s.pwr.vhv t != 0
  let low := match read.map s.vhvOf with | [] => 0 | v :: l => l.foldl min v
  let good := s.pwr.vhvOn && !s.on PWR_STATUS.VHV_RAMP && ts.all fun t =>
    decide (95 * s.pwr.target ≤ 100 * s.vhvOf t) && decide (100 * s.vhvOf t ≤ 105 * s.pwr.target)
  let isLow (t : Nat) : Bool := s.pwr.vhvOn && nget s.pwr.vhv t != 0 && decide (100 * s.vhvOf t < 85 * s.vhvRef)
  let since := ts.foldl (fun l t =>
    if !isLow t then nset l t 0 else if nget l t = 0 then nset l t (s.now + 1) else l) s.pwr.lowAt
  let loss := ts.any fun t => nget since t != 0 && decide (nget since t + 20 ≤ s.now + 1)
  let drawn := (ts.map fun t => s.vhvOf t * s.rd DRV_IVHV.IMEAN t).sum
  let s1 := (s.wr PWR_VHV_MEAS.MV low).wr PWR_STATUS.VHV_GOOD (b2n good)
  let s2 : State := { s1 with pwr := { s1.pwr with lowAt := since } }
  (s2.level (srcModule 2) loss).level (srcModule 3) (decide (120000000 < drawn))

/-- A frame that a die does not receive, or that is not valid (R349): the fourth in a row is the tile's loss when the other
die misses as many, and otherwise a fault of the die's link. -/
def State.upMissed (s : State) (t d : Nat) : State :=
  let n := min 4 (nget s.lks.upMiss (2 * t + d) + 1)
  let s1 : State := { s with lks := { s.lks with
    upMiss := nset s.lks.upMiss (2 * t + d) n, upBad := nset s.lks.upBad (2 * t + d) (s.now + 1) } }
  if n < 4 then s1
  else if nget s.lks.upMiss (2 * t + 1 - d) = 4 then s1.level (srcTile t 0) true
  else if nget s.lks.upMiss (2 * t + 1 - d) = 0 then s1.level (srcTile t (12 + d)) true
  else s1

/-- A valid frame that a die receives (R148, R166, R349): the tile's fatal reports and ORPHAN, its current and VHV, and the
links it hears. -/
def State.upHeard (s : State) (t d : Nat) (f : UpFrame) : State :=
  let fatal := !f.vddOk || !f.wordsOk
  let key := 2 * t + d
  let s1 : State := { s with
    lks := { s.lks with upMiss := nset s.lks.upMiss key 0
                        upBad := if fatal then nset s.lks.upBad key (s.now + 1) else s.lks.upBad }
    pwr := { s.pwr with vhv := nset s.pwr.vhv t (f.vhv.toNat + 1) } }
  let s2 := s1.setMean t f.imean.toNat
  let missed (x : Nat) : Bool := nget s2.lks.upMiss (2 * t + x) == 4
  let s3 := (s2.setSrcBit SAF_CAUSE.BITS (srcTile t 12) (!f.linkA || missed 0)).setSrcBit SAF_CAUSE.BITS (srcTile t 13)
    (!f.linkB || missed 1)
  let quiet (x : Nat) : Bool := nget s3.lks.upMiss (2 * t + x) == 0 && decide (nget s3.lks.upBad (2 * t + x) + 20000 ≤ s3.now + 1)
  let s4 := if fatal then s3.level (srcTile t 0) true
    else if quiet 0 && quiet 1 then s3.setSrcBit SAF_CAUSE.BITS (srcTile t 0) false
    else s3
  let orph := s.on DRV_STATUS.ORPHAN t || (!s.on SAF_STATUS.REAPPLY &&
    s.gateChannels.any fun ch => ch / 2048 == t && s.chOn DRV_CH_GATEW.ORPH ch)
  let known := (s.saf.latches.any fun l => l.source == srcTile t 18 && l.real) || s.saf.raised.any fun o => o.source == srcTile t 18 && o.inj == 0
  (if orph && !known then s4.raise (srcTile t 18) 0 else s4).vhvEval

/-- UPSTREAM_LINK_FRAME (R380): a die takes an upstream frame of a tile, or finds it missing. The monitor samples and the guard
reports it carries are the commands of their own chapters. Before the Dawn has ended nothing is received. -/
def execUpstreamLinkFrame (die : Fin 2) (tile : Fin 8) (frame : UpFrame) (s : State) : Host.Outcome State Fault Refusal :=
  .next <|
    if !s.on HPT_STATUS.READY then s
    else if frame.valid then s.upHeard tile die frame
    else s.upMissed tile die

end Sys2Proof.Machine
end

