-- ==== Sys2Proof/Machine/Bus.lean ====
section
/-! DEFINITION. The Bus Matrices (chapter 16): one matrix cycle at one target of a die. -/
namespace Sys2Proof.Machine

/-- The masters with a path to a target (R427): the loop clusters 0 to 7 first. Target 17 is the default target. -/
def pathMasters (target : Nat) : List Nat :=
  let clusters := List.range 8
  match target with
  | 0 => [8, 11, 12, 15]
  | 1 => [8, 11, 12, 15]
  | 2 => clusters ++ [8, 9, 11, 13, 15]
  | 3 => clusters ++ [11, 12, 14, 15]
  | 4 => clusters ++ [11, 12, 15]
  | 5 => clusters ++ [10, 11, 13, 15]
  | 6 => [8, 11, 12, 14, 15]
  | 7 => [9, 11, 12, 14, 15]
  | 8 => [11, 12, 15]
  | 9 => [8, 9, 11, 12, 13, 15]
  | 10 => [11, 12, 14, 15]
  | 11 => [11, 12, 15]
  | 12 => [11, 14, 15]
  | 13 => [11, 15]
  | 14 => [11, 12, 13, 14, 15]
  | 15 => [11, 12]
  | 16 => [11, 13]
  | _ => []

/-- A master is of class bulk (R427). -/
def isBulk (m : Nat) : Bool := decide (12 ≤ m)

/-- The cycles for which an access holds its target (R429). -/
def accessCycles (bytes : Nat) : Nat := max 1 (min 4 (ceilDiv bytes 16))

/-- The priority of a control master at a target, or the QOS of a bulk master (R429, R432). -/
def State.busRank (s : State) (die target m : Nat) : Nat :=
  if m < 8 then bits (s.rd BMX_PRIO_LO.PRIO die target) (4 * m) 4
  else if m = 8 then s.rd BMX_PRIO_HI.PLN die target
  else if m = 9 then s.rd BMX_PRIO_HI.PRF die target
  else if m = 10 then s.rd BMX_PRIO_HI.TONE die target
  else if m = 11 then s.rd BMX_PRIO_HI.SUPV die target
  else if m = 12 then s.rd BMX_QOS.HOST die
  else if m = 13 then s.rd BMX_QOS.CAL die
  else if m = 14 then s.rd BMX_QOS.TELEM die
  else s.rd BMX_QOS.SCRUB die

/-- Of the masters that ask, the one with the highest rank, and among equals the next after the master last granted. -/
def pickMaster (rank : Nat → Nat) (last : Nat) (ms : List Nat) : Option Nat :=
  let key (m : Nat) : Nat := rank m * 16 + (15 - (m + 31 - last) % 16)
  match ms with
  | [] => none
  | m :: t => some (t.foldl (fun a b => if key a < key b then b else a) m)

/-- The arbitration of R429. -/
def State.arbitrate (s : State) (die target : Nat) (a : Arb) (ms : List Nat) : Option Nat :=
  let rank := s.busRank die target
  let bulk := ms.filter isBulk
  let ctl := ms.filter fun m => !isBulk m
  if bulk ≠ [] ∧ 15 ≤ a.bulkWait then pickMaster rank a.lastBulk bulk
  else if ctl ≠ [] then pickMaster rank a.lastCtl ctl
  else pickMaster rank a.lastBulk bulk

/-- A target's arbiter that has granted nothing yet. -/
def Arb.idle : Arb := { bulkWait := 0, lastCtl := 11, lastBulk := 15, parked := 16, busy := 0, waits := [] }

/-- An access that decodes to no target or has no path goes to the default target (R431). -/
def State.busError (s : State) (die : Nat) (r : BusReq) : State :=
  let s1 := ((s.wr BMX_STATUS.ERR 1 die).bump BMX_CNT_ERR.COUNT 1 die).raise (srcDie die 15) 0 die
  if s.on BMX_ERR_INFO.VALID die then s1
  else (((s1.wr BMX_ERR_INFO.VALID 1 die).wr BMX_ERR_INFO.WRITE (b2n r.write) die).wr BMX_ERR_INFO.MASTER r.master die).wr
    BMX_ERR_ADDR.ADDR r.addr.toNat die

/-- BUS_ACCESS (R429 to R431): one matrix cycle at a target, with the requests pending there. A parked master's request that
comes alone to a free target starts in its cycle; any other grant starts its access in the next. -/
def execBusAccess (die : Fin 2) (target : Fin 18) (requests : List BusReq) (s : State) :
    Host.Outcome State Fault Refusal :=
  .next <|
    let d := die.val
    let t := target.val
    let key := 32 * d + t
    let good := requests.filter fun r => (pathMasters t).contains r.master.val
    let s1 := (requests.filter fun r => !(pathMasters t).contains r.master.val).foldl (fun u r => u.busError d r) s
    if t = 17 then s1
    else
      let a := (aget s.bmx.arbs key).getD Arb.idle
      let ms := (good.map fun r => r.master.val).dedup
      let parked := a.busy == 0 && ms == [a.parked]
      let won := if a.busy ≤ 1 then s.arbitrate d t a ms else none
      let len (m : Nat) : Nat := accessCycles (((good.find? fun r => r.master.val == m).map fun r => r.bytes.val).getD 0)
      let bulkWon := match won with | some m => isBulk m | none => false
      let wait (m : Nat) : Nat := nget a.waits m + (if parked then 0 else 1)
      let a1 : Arb :=
        { bulkWait := if bulkWon || !ms.any isBulk then 0 else a.bulkWait + 1
          lastCtl := match won with | some m => if isBulk m then a.lastCtl else m | none => a.lastCtl
          lastBulk := match won with | some m => if isBulk m then m else a.lastBulk | none => a.lastBulk
          parked := won.getD a.parked
          busy := match won with | some m => if parked then len m - 1 else len m | none => a.busy - 1
          waits := (ms.filter fun m => isBulk m && won != some m).foldl (fun l m => nset l m (nget a.waits m + 1)) [] }
      let s2 : State := { s1 with bmx := { s1.bmx with arbs := aput s1.bmx.arbs key a1 } }
      match won with
      | some m => if isBulk m then
            s2.wr BMX_TGT_STAT.MAX_BULK_WAIT (max (s2.rd BMX_TGT_STAT.MAX_BULK_WAIT d t) (min 65535 (wait m))) d t
          else s2
      | none => s2

end Sys2Proof.Machine
end

