-- ==== Sys2Proof/Machine/Sec.lean ====
section
/-! DEFINITION. Security (chapter 17): the key vault, tamper and erasure, firmware images and debug access. -/
namespace Sys2Proof.Machine

/-! ### ECDSA over P-384 (R442), by its public standard (assumption 10) -/

/-- The prime of the field, the curve's coefficient b, the base point and its order. -/
def p384 : Nat := 2 ^ 384 - 2 ^ 128 - 2 ^ 96 + 2 ^ 32 - 1
@[inherit_doc p384] def p384b : Nat :=
  0xb3312fa7e23ee7e4988e056be3f82d19181d9c6efe8141120314088f5013875ac656398d8a2ed19d2a85c8edd3ec2aef
@[inherit_doc p384] def p384g : Nat × Nat :=
  (0xaa87ca22be8b05378eb1c71ef320ad746e1d3b628ba79b9859f741e082542a385502f25dbf55296c3a545e3872760ab7,
   0x3617de4a96262c6f5d9e98bf9292dc29f8f41dbd289a147ce9da3113b5f0b8c00a60b1ce1d7e819d7a431d7c90ea0e5f)
@[inherit_doc p384] def p384n : Nat :=
  0xffffffffffffffffffffffffffffffffffffffffffffffffc7634d81f4372ddf581a0db248b0a77aecec196accc52973

/-- A power modulo `m`, with the exponent cut to the number of bits given first. -/
def powMod (m : Nat) : Nat → Nat → Nat → Nat
  | 0, _, _ => 1 % m
  | n + 1, x, e => (if e % 2 = 1 then x else 1) * powMod m n (x * x % m) (e / 2) % m

/-- The inverse modulo a prime of 384 bits. -/
def invMod (m x : Nat) : Nat := powMod m 384 (x % m) (m - 2)

/-- The sum of two points of the curve; none is the point at infinity. -/
def ecAdd (a b : Option (Nat × Nat)) : Option (Nat × Nat) :=
  match a, b with
  | none, b => b
  | a, none => a
  | some (x1, y1), some (x2, y2) =>
    if x1 = x2 ∧ (y1 + y2) % p384 = 0 then none
    else
      let l := if x1 = x2 then (3 * x1 * x1 + p384 - 3) * invMod p384 (2 * y1) % p384
        else (y2 + p384 - y1) * invMod p384 (x2 + p384 - x1) % p384
      let x := (l * l + 2 * p384 - x1 - x2) % p384
      some (x, (l * (x1 + p384 - x) + p384 - y1) % p384)

/-- A multiple of a point, with the factor cut to the number of bits given first. -/
def ecMul : Nat → Nat → Option (Nat × Nat) → Option (Nat × Nat)
  | 0, _, _ => none
  | n + 1, k, a =>
    let r := ecMul n (k / 2) (ecAdd a a)
    if k % 2 = 1 then ecAdd a r else r

/-- A point lies on the curve. -/
def onCurve (x y : Nat) : Bool :=
  decide (x < p384) && decide (y < p384) && y * y % p384 == (x * x * x + (p384 - 3) * x + p384b) % p384

/-- A signature verifies under a public key in the uncompressed form. -/
def ecdsaOk (pub sig msg : List Byte) : Bool :=
  let x := beNat ((pub.drop 1).take 48)
  let y := beNat ((pub.drop 49).take 48)
  let r := beNat (sig.take 48)
  let s := beNat ((sig.drop 48).take 48)
  let z := beNat (sha384 msg)
  let w := invMod p384n s
  field pub 0 1 == 4 && onCurve x y && decide (0 < r) && decide (r < p384n) && decide (0 < s) && decide (s < p384n) &&
    match ecAdd (ecMul 384 (z * w % p384n) (some p384g)) (ecMul 384 (r * w % p384n) (some (x, y))) with
    | some q => q.1 % p384n == r
    | none => false

/-! ### Keys (R434 to R437) -/

/-- A write to a SEC field is refused. -/
def State.secReject (s : State) : State := s.wr SEC_STATUS.CFG_REJECT 1

/-- A key command is in progress up to the frame after it (R435). -/
def State.keyBusy (s : State) : Bool := s.sec.keyAt == s.now + 1

/-- A key command of a slot, unless one is in progress or the slot does not exist (R435). -/
def State.keyCmd (s : State) (slot : Nat) (f : State → State) : State :=
  if decide (16 < slot) || s.keyBusy then s.secReject
  else
    let s1 := f s
    { s1 with sec := { s1.sec with keyAt := s.now + 1 } }

/-- The bytes of a set of words, each little-endian. -/
def State.wordBytes (s : State) (f : Fld) (n : Nat) : List Byte := (List.range n).flatMap fun i => leBytes 4 (s.rd f i)

/-- KEY_LOAD (R435, R436, R440): the slot takes the key, the key words are zeroed, and the check value follows. -/
def execKeyLoad (die : Fin 2) (slot : Fin 32) (s : State) : Host.Outcome State Fault Refusal :=
  .next <| s.viaBar0 die 0xD00010 fun s => s.keyCmd slot fun s =>
    let key := s.wordBytes SEC_KEY_W.KEY 8
    let s1 := (List.range 8).foldl (fun t i => t.wr SEC_KEY_W.KEY 0 i) s
    let s2 := (s1.wr SEC_KEY_STATUS.LOADED (setBit (s1.rd SEC_KEY_STATUS.LOADED) slot)).wr SEC_KEY_KCV.KCV
      (field (hmac256 key (List.replicate 32 0)) 0 4) slot
    let s3 := if slot.val = 0 then s2.wr SEC_STATUS.ERASED 0 else s2
    { s3 with sec := { s3.sec with keys := aput s3.sec.keys slot key } }

/-- A slot is emptied. -/
def State.dropKey (s : State) (slot : Nat) : State :=
  let s1 := (s.wr SEC_KEY_STATUS.LOADED (clrBit (s.rd SEC_KEY_STATUS.LOADED) slot)).wr SEC_KEY_KCV.KCV 0 slot
  { s1 with sec := { s1.sec with keys := adel s1.sec.keys slot } }

/-- KEY_ERASE (R435). -/
def execKeyErase (die : Fin 2) (slot : Fin 32) (s : State) : Host.Outcome State Fault Refusal :=
  .next <| s.viaBar0 die 0xD00010 fun s => s.keyCmd slot fun s => s.dropKey slot

/-! ### Tamper (R438 to R440) -/

/-- Every slot is zeroised (R439), with what that means for plans and the Orbit (R440). -/
def State.zeroise (s : State) : State :=
  let s1 := (List.range 17).foldl State.dropKey s
  ((s1.wr SEC_STATUS.ERASED 1).bump SEC_CNT_ERASE.COUNT).orbitErase

/-- ALARM and the cause of TAMPER follow the conditions present (R347, R448). -/
def State.tamperRefresh (s : State) : State :=
  let live := s.rd SEC_TAMPER_STATUS.LIVE
  (s.wr SEC_STATUS.ALARM (b2n (live &&& s.rd SEC_ALARM_CFG.EN != 0))).setSrcBit SAF_CAUSE.BITS (srcModule 13) (live != 0)

/-- TAMPER_ALARM (R438, R439): a condition is detected. Enabled, it raises the alarm: the latch, the fault, debug locked and
the erasure, unless one runs. -/
def execTamperAlarm (cond : Fin 5) (s : State) : Host.Outcome State Fault Refusal :=
  .next <|
    let live := s.rd SEC_TAMPER_STATUS.LIVE
    let c := cond.val
    if bit live c then s
    else
      let s1 := (s.wr SEC_TAMPER_STATUS.LIVE (setBit live c)).tamperRefresh
      if !bit (s.rd SEC_ALARM_CFG.EN) c then s1
      else
        let s2 := ((s1.wr SEC_TAMPER_STATUS.LATCHED (setBit (s1.rd SEC_TAMPER_STATUS.LATCHED) c)).raise (srcModule 13)
          (2 ^ c)).wr SEC_STATUS.DBG_LEVEL 0
        if !s.on SEC_ALARM_CFG.ERASE || decide (s.now + 1 < s.sec.eraseAt + 200 ∧ s.sec.eraseAt ≠ 0) then s2
        else
          let s3 : State := { s2 with sec := { s2.sec with eraseAt := s.now + 1 } }
          s3.zeroise

/-- TAMPER_CONDITION_END (R438): a condition is no longer present. -/
def execTamperConditionEnd (cond : Fin 5) (s : State) : Host.Outcome State Fault Refusal :=
  .next <| (s.wr SEC_TAMPER_STATUS.LIVE (clrBit (s.rd SEC_TAMPER_STATUS.LIVE) cond)).tamperRefresh

/-- ALARM_LOCK (R439): a write of LOCK = 1. -/
def execAlarmLock (die : Fin 2) (s : State) : Host.Outcome State Fault Refusal :=
  .next <| s.viaBar0 die 0xD00008 fun s => s.wr SEC_ALARM_CFG.LOCK 1

/-! ### Firmware (R442 to R444) -/

/-- The checks of R443 on an image: 0 OK, 2 BAD_IMAGE, 3 ROLLBACK. -/
def State.imageResult (s : State) (bs : List Byte) : Nat :=
  let len := field bs 8 4
  let pub := (bs.drop 60).take 97
  let sound := field bs 0 4 == 0x4B584657 && zeros bs 6 2 && decide (1 ≤ len) && decide (len ≤ 1048064) &&
    decide (512 + len ≤ bs.length) && zeros bs 157 3 && zeros bs 256 256 && decide (sha384 pub = Config.fusedKeyHash) &&
    ecdsaOk pub ((bs.drop 160).take 96) (bs.take 160) && decide (sha384 ((bs.drop 512).take len) = (bs.drop 12).take 48)
  if !sound then 2 else if field bs 5 1 < s.rd SEC_FW_STATUS.MINVER then 3 else 0

/-- FW_WRITE (R444): OP 1 reads an image from host memory, given as `read`, and checks it. -/
def execFwWrite (die : Fin 2) (read : HostRead (List Byte)) (s : State) : Host.Outcome State Fault Refusal :=
  .next <| s.viaBar0 die 0xD000A0 fun s =>
    if s.on SEC_STATUS.FW_BUSY then s.secReject
    else
      let len := s.rd SEC_FW_LEN.LEN
      let addr := s.rd SEC_FW_ADDR_LO.ADDR + 2 ^ 32 * s.rd SEC_FW_ADDR_HI.ADDR
      let img := read.data.take len
      let r := if img.length = len then s.imageResult img else 1
      let s1 := (((s.clocksOn 19).emit (.read s.active addr len)).poison read.poisoned 0 addr).wr SEC_STATUS.FW_BUSY 1
      { s1 with sec := { s1.sec with fwWrite := some (field img 4 2, beNat ((img.drop 12).take 48), r) } }

/-- FW_WRITE_DONE (R444): the image has been written to the slot not booted of both flash dies, or one write has failed;
whether the slot's old image has survived a failure is free (assumption 1). -/
def execFwWriteDone (flashOk : Bool) (s : State) : Host.Outcome State Fault Refusal :=
  .next <|
    match s.sec.fwWrite with
    | none => s
    | some (version, digest, r) =>
      let s1 := (s.clocksOn 20).wr SEC_STATUS.FW_BUSY 0
      let s2 : State := { s1 with sec := { s1.sec with fwWrite := none } }
      let slot := 1 - s.rd SEC_FW_STATUS.BOOT_SLOT
      if r ≠ 0 then s2.wr SEC_FW_RESULT.RESULT r
      else if flashOk then
        let w : FwSlot := { sound := true, version := version, digest := digest }
        ({ s2 with flash := { s2.flash with fw := aput (aput s2.flash.fw slot w) (2 + slot) w } } : State).wr SEC_FW_RESULT.RESULT 0
      else
        let d := s2.draw 2
        let s3 : State := { d.2 with flash := { d.2.flash with fw := d.2.flash.fw.map fun x =>
          if x.1 % 2 = slot ∧ (!(bit d.1 (x.1 / 2))) = true then (x.1, { x.2 with sound := false }) else x } }
        s3.wr SEC_FW_RESULT.RESULT 4

/-- RAISE_MIN (R444): the fused minimum takes the major version of the running image, if a fuse is left. -/
def execRaiseMin (die : Fin 2) (s : State) : Host.Outcome State Fault Refusal :=
  .next <| s.viaBar0 die 0xD000A0 fun s =>
    let major := s.rd SEC_FW_STATUS.VERSION / 256
    if s.on SEC_STATUS.FW_BUSY then s.secReject
    else if s.rd SEC_FW_STATUS.MINVER = major then s.wr SEC_FW_RESULT.RESULT 0
    else if 64 ≤ s.sec.raises then s.wr SEC_FW_RESULT.RESULT 5
    else
      let s1 := (s.wr SEC_FW_STATUS.MINVER major).wr SEC_FW_RESULT.RESULT 0
      { s1 with sec := { s1.sec with raises := s1.sec.raises + 1 } }

/-! ### Debug access (R445 to R447) -/

/-- A shadow of R10 takes words `1` and up of a wide value: that of requester `req` at the endpoint of `die` (0 the host, 1 and 2
the dies' supervisor cores). -/
def State.setShadow (s : State) (die req : Nat) (ws : List Nat) : State :=
  { s with hpt := { s.hpt with
      shadow := (ws.zipIdx 1).foldl (fun l w => nset l (16 * (3 * die + req) + w.2) w.1) s.hpt.shadow } }

/-- SEC_DBG_CHAL_W0 is read (R446): the fresh nonce replaces the one before it. -/
def State.challenge (s : State) (die req nonce : Nat) : State :=
  let s1 := (s.setShadow die req ((List.range 3).map fun i => bits nonce (32 * i + 32) 32)).emit
    (.reg die 0xD000B0 (nonce % 2 ^ 32))
  { s1 with sec := { s1.sec with nonce := some nonce } }

/-- DBG_CHALLENGE (R446): a host read of SEC_DBG_CHAL_W0 draws a fresh nonce. -/
def execDbgChallenge (die : Fin 2) (nonce : BitVec 128) (s : State) : Host.Outcome State Fault Refusal :=
  .next <| if !s.on HPT_STATUS.READY then s else s.challenge die 0 nonce.toNat

/-- An unlock grants nothing and is counted; the third locks debug out (R446). -/
def State.dbgFails (s : State) : State :=
  let s1 := s.bump SEC_DBG_FAIL.COUNT
  if 3 ≤ s1.rd SEC_DBG_FAIL.COUNT then s1.wr SEC_STATUS.DBG_LOCKOUT 1 else s1

/-- The response to a nonce under a key for a level (R446). -/
def dbgResponse (key : List Byte) (nonce level : Nat) : List Byte :=
  (hmac256 key (leBytes 16 nonce ++ leBytes 1 level)).take 16

/-- DBG_LEVEL_REQUEST (R446, R447): a level is granted to the right response to the standing nonce. FULL first zeroises the
vault and starts Eclipse. -/
def execDbgLevelRequest (die : Fin 2) (level : Fin 4) (s : State) : Host.Outcome State Fault Refusal :=
  .next <| s.viaBar0 die 0xD000D0 fun s =>
    let l := level.val
    if l = 0 ∨ l = 3 then s.secReject
    else
      match s.sec.nonce, aget s.sec.keys 0 with
      | some n, some key =>
        if s.wordBytes SEC_DBG_RESP_W.RESP 4 ≠ dbgResponse key n l then s.dbgFails
        else if s.on SEC_STATUS.DBG_LOCKOUT then s
        else
          let s1 : State := { s with sec := { s.sec with nonce := none } }
          let s2 := if l = 2 then
              let z := s1.zeroise
              if z.on SAF_CTL.SW_ECLIPSE then z else (z.wr SAF_CTL.SW_ECLIPSE 1).raise (srcModule 1) 0
            else s1
          s2.wr SEC_STATUS.DBG_LEVEL l
      | _, _ => s.dbgFails

/-- DBG_RELOCK (R446). -/
def execDbgRelock (die : Fin 2) (s : State) : Host.Outcome State Fault Refusal :=
  .next <| s.viaBar0 die 0xD00000 fun s => s.wr SEC_STATUS.DBG_LEVEL 0

end Sys2Proof.Machine
end

