-- ==== Sys2Proof/Machine/Pmc.lean ====
section
/-! DEFINITION. The Performance Counters block (chapter 18): overflow, samples, clearing and COUNTER_SNAP. -/
namespace Sys2Proof.Machine

/-- The dies that take a copy of the host's register writes (R40): those with a role. -/
def State.attached (s : State) : List Nat := [0, 1].filter fun d => s.role d != 0

/-- PMC_OVF_SUM of a die follows the OVF bits of a core (R452). -/
def State.ovfSum (s : State) (die core : Nat) : State :=
  let v := s.rd PMC_OVF.OVF die core != 0
  let upd (w : Nat) : Nat := if v then setBit w (core % 32) else clrBit w (core % 32)
  if core < 32 then s.wr PMC_OVF_SUM_LO.CORES (upd (s.rd PMC_OVF_SUM_LO.CORES die)) die
  else s.wr PMC_OVF_SUM_HI.CORES (upd (s.rd PMC_OVF_SUM_HI.CORES die)) die

/-- A counter that has wrapped sets its OVF bit and signals PMC_VEC, if its IRQ is 1 (R452). -/
def State.overflow (s : State) (die core k : Nat) : State :=
  let s1 := (s.wr PMC_OVF.OVF (setBit (s.rd PMC_OVF.OVF die core) k) die core).ovfSum die core
  if s1.on PMC_EVSEL.IRQ die core k then s1.signalVec die (s1.rd PMC_VEC.VECTOR die) else s1

/-- COUNTER_OVERFLOW (R452): a counter has wrapped. -/
def execCounterOverflow (die : Fin 2) (core : Fin 64) (k : Fin 6) (s : State) : Host.Outcome State Fault Refusal :=
  .next <|
    match takeFirst (fun x : Nat × Nat × Nat => x == (die.val, core.val, k.val)) s.pmc.wrapped with
    | none => s
    | some (_, rest) => ({ s with pmc := { s.pmc with wrapped := rest } } : State).overflow die core k

/-- The programmable counters and OVF bits of a core read 0; a wrap still to be signalled is signalled first. -/
def State.clearCore (s : State) (die core : Nat) : State :=
  let mine (x : Nat × Nat × Nat) : Bool := x.1 == die && x.2.1 == core
  let s0 := s.pmcAccrue die core
  let ws := s0.pmc.wrapped.filter mine
  let s1 : State := { s0 with pmc := { s0.pmc with wrapped := s0.pmc.wrapped.filter fun x => !mine x } }
  let s2 := ws.foldl (fun t x => t.overflow die core x.2.2) s1
  (((List.range 6).foldl (fun t k => t.wr PMC_CNT.COUNT 0 die core k) s2).wr PMC_OVF.OVF 0 die core).ovfSum die core

/-- PMC_CLEAR (R463): a write of CLEAR = 1, which both dies take (R40). -/
def execPmcClear (die : Fin 2) (s : State) : Host.Outcome State Fault Refusal :=
  .next <| s.viaBar0 die 0xE00000 fun s =>
    s.attached.foldl (fun t d => (List.range 64).foldl (fun u c => u.clearCore d c) t) s

/-- Where entry `i` of a cluster's sample buffer stands (R463). -/
def smpAddr (die cluster i : Nat) : Nat := 0x10000000 * die + 0xE30000 + 0x400 * cluster + 16 * i

/-- PMC_SMP_W0 to W3 show the oldest entry of a buffer, or 0 when it is empty (R456). -/
def State.smpShow (s : State) (die cluster : Nat) : State :=
  let a := smpAddr die cluster (s.rd PMC_SMP_STATUS.HEAD die cluster)
  let w (i : Nat) : Nat := if s.rd PMC_SMP_STATUS.COUNT die cluster = 0 then 0 else s.load (a + 4 * i) 4
  (((s.wr PMC_SMP_W0.ENTRY (w 0) die cluster).wr PMC_SMP_W1.ENTRY (w 1) die cluster).wr PMC_SMP_W2.ENTRY (w 2) die
    cluster).wr PMC_SMP_W3.ENTRY (w 3) die cluster

/-- A sample goes into its cluster's buffer (R456). -/
def State.smpPut (s : State) (die cluster : Nat) (entry : List Byte) : State :=
  let n := s.rd PMC_SMP_STATUS.COUNT die cluster
  let h := s.rd PMC_SMP_STATUS.HEAD die cluster
  if n < 64 then
    ((s.storeBytes (smpAddr die cluster ((h + n) % 64)) entry).wr PMC_SMP_STATUS.COUNT (n + 1) die cluster).smpShow die
      cluster
  else
    let s1 := s.bump PMC_SMP_LOST.COUNT 1 die cluster
    if s1.on PMC_SMP_CFG.WRAP die cluster then
      ((s1.storeBytes (smpAddr die cluster h) entry).wr PMC_SMP_STATUS.HEAD ((h + 1) % 64) die cluster).smpShow die cluster
    else s1

/-- The PERF_SAMPLE records of a sample, which the active die writes (R457). A tenant's ring takes the samples of contexts
that the tenant may read. -/
def State.smpRecord (s : State) (x : Smp) : State :=
  if !s.isActive x.die then s
  else
    let bs := (s.bound 7 x.core).filter fun b => s.ctxReadable b.dom x.ctx
    { s with hpt := { s.hpt with telq := s.hpt.telq ++ bs.map fun b =>
        { num := b.num, tq := b.tq, type := 7, source := x.core, stamp := x.stamp, payload := x.entry } } }

/-- PMC_SAMPLE (R454 to R457): the sample that a cluster's sampler took is stored and recorded. -/
def execPmcSample (die : Fin 2) (cluster : Fin 8) (s : State) : Host.Outcome State Fault Refusal :=
  .next <|
    match takeFirst (fun x : Smp => x.die == die.val && x.core / 8 == cluster.val) s.pmc.due with
    | none => s
    | some (x, rest) => (({ s with pmc := { s.pmc with due := rest } } : State).smpPut die cluster x.entry).smpRecord x

/-- The oldest entry of a sample buffer is removed. -/
def State.smpPop (s : State) (die cluster : Nat) : State :=
  let n := s.rd PMC_SMP_STATUS.COUNT die cluster
  if n = 0 then s
  else ((s.wr PMC_SMP_STATUS.COUNT (n - 1) die cluster).wr PMC_SMP_STATUS.HEAD
    ((s.rd PMC_SMP_STATUS.HEAD die cluster + 1) % 64) die cluster).smpShow die cluster

/-- PMC_SMP_POP (R456): a write of POP = 1, which both dies take (R40). -/
def execPmcSmpPop (die : Fin 2) (cluster : Fin 8) (s : State) : Host.Outcome State Fault Refusal :=
  .next <| s.viaBar0 die (0xE20008 + 0x20 * cluster) fun s => s.attached.foldl (fun t d => t.smpPop d cluster) s

/-! ### COUNTER_SNAP (R459, R460) -/

/-- A COUNTER_SNAP body is valid (R459). -/
def snapBodyOk (d : Desc) : Bool :=
  decide (d.fld 8 1 ≤ 63) && decide (1 ≤ d.fld 9 1) && decide (d.fld 8 1 + d.fld 9 1 ≤ 64) && decide (d.fld 10 1 < 8) &&
    zeros d.bytes 11 5 && d.fld 24 8 % 8 == 0 && zeros d.bytes 32 32

/-- The CLEAR, STANDBY and NOW flags of a COUNTER_SNAP (R459). -/
def snapFlag (d : Desc) (b : Nat) : Bool := bit (d.fld 10 1) b

/-- The capture frame of a COUNTER_SNAP: the frame of TIME, or the next frame for NOW and for a time that has passed
(R460). -/
def State.snapFrame (s : State) (d : Desc) : Nat :=
  if snapFlag d 2 || decide (tickDiff (d.fld 16 8) s.ticks < 0) then s.now + 1 else s.frameAt (d.fld 16 8)

/-- COUNTER_SNAP (R460): checked at acceptance, it waits for its capture frame. -/
def execCounterSnap (id : Nat) (s : State) : Host.Outcome State Fault Refusal :=
  .next <| s.withOp id opCounterSnap fun d =>
    let dom := d.dom
    let timed := !snapFlag d 2
    if s.pmc.snaps.any fun x => x.1 == id then s
    else if !snapBodyOk d then s.done d stBadField
    else if !s.on PMC_ACCESS.SNAP s.active dom || (dom != 0 && snapFlag d 0) then s.done d stDomainDenied
    else if snapFlag d 1 && s.standby?.isNone then s.done d stPmcNoStandby
    else if timed && s.timeOut (d.fld 16 8) then s.done d stTimeRange
    else if timed && d.strict && decide (tickDiff (d.fld 16 8) s.ticks < 0) then s.done d stLateReject
    else { s with pmc := { s.pmc with snaps := s.pmc.snaps ++ [(id, s.snapFrame d)] } }

/-- The record of one core (R460). -/
def State.snapRecord (s : State) (die core : Nat) : List Byte :=
  leBytes 8 (s.pmcCyc die core) ++ ((List.range 6).flatMap fun k => leBytes 4 (s.rd PMC_CNT.COUNT die core k)) ++
    leBytes 1 core ++ leBytes 1 (s.rd PMC_OVF.OVF die core) ++ leBytes 2 0 ++ leBytes 4 s.now

/-- SNAP_CAPTURE (R460): at the capture frame both dies capture the counters, CLEAR zeroes them in both, and the active die
writes the records and completes the command. -/
def execSnapCapture (id : Nat) (s : State) : Host.Outcome State Fault Refusal :=
  .next <|
    match takeFirst (fun x : Nat × Nat => x.1 == id) s.pmc.snaps with
    | none => s
    | some (x, rest) =>
      let s1 := ({ s with pmc := { s.pmc with snaps := rest } } : State).reach x.2
      s1.withDesc id fun d =>
        let cores := (List.range (d.fld 9 1)).map fun i => d.fld 8 1 + i
        let from_ := if snapFlag d 1 then s1.standby? else some s1.active
        match from_ with
        | none => s1.done d stPmcNoStandby
        | some die =>
          let s2 := s1.attached.foldl (fun t e => cores.foldl (fun u c => u.pmcAccrue e c) t) s1
          let recs := cores.flatMap fun c => s2.snapRecord die c
          let s3 := if snapFlag d 0 then s2.attached.foldl (fun t e => cores.foldl (fun u c => u.clearCore e c) t) s2 else s2
          let by_ := tickDiff s1.ticks (d.fld 16 8)
          let late := !snapFlag d 2 && decide ((Config.ticksPerFrame : Int) ≤ by_)
          (s3.toHost (d.fld 24 8) recs).finish d stOK (some (if late then lateResult by_.toNat else d.fld 9 1)) s1.ticks
            (b2n late)

end Sys2Proof.Machine
end

