-- ==== Sys2Proof/Machine/Power.lean ====
section
/-! DEFINITION. Power (chapter 19): rails and the PMBus, VHV, the Dawn, resets, the drive-stage loss, and ARM. -/
namespace Sys2Proof.Machine

/-! ### What resets leave (R467, R482, R483) -/

/-- The flash slot that is not booted, when a write of it is broken off: whether its old image has survived is free
(assumption 1). -/
def State.fwSpoil (s : State) : State :=
  match s.sec.fwWrite with
  | some (_, _, 0) =>
    let slot := 1 - s.rd SEC_FW_STATUS.BOOT_SLOT
    let d := s.draw 2
    { d.2 with flash := { d.2.flash with fw := d.2.flash.fw.map fun x =>
      if x.1 % 2 = slot ∧ (!(bit d.1 (x.1 / 2))) = true then (x.1, { x.2 with sound := false }) else x } }
  | _ => s

/-- The bit address of a register's bit lies in the fuses' MINVER; in what the always-on domain keeps through RST_N as well:
SEC_ALARM_CFG, the tamper latches, ERASED, the slots loaded with their check values, and PWR_CNT_RST (R434, R439, R482). -/
def fusedBit (a : Nat) : Bool := decide (0xD00090 * 8 + 24 ≤ a) && decide (a < 0xD00094 * 8)
@[inherit_doc fusedBit] def alwaysOnBit (a : Nat) : Bool :=
  fusedBit a || (decide (0xD00008 * 8 ≤ a) && decide (a < 0xD00010 * 8)) || a == 0xD00004 * 8 + 2 ||
    (decide (0xD00014 * 8 ≤ a) && decide (a < 0xD00018 * 8)) || (decide (0xD00040 * 8 ≤ a) && decide (a < 0xD00084 * 8)) ||
    (decide (0xF00030 * 8 ≤ a) && decide (a < 0xF00034 * 8))

/-- The module with all its state at reset but what no reset touches: the commands that wait, what it has put out, the flash,
the fuses and what is at the pins. -/
def State.powerBase (s : State) (keep : Nat → Bool) : State :=
  let t := s.fwSpoil
  { State.reset with
    pending := t.pending, out := t.out, free := t.free, flash := t.flash
    regs := t.regs.filter fun c => keep c.1
    sec := { State.reset.sec with raises := t.sec.raises }
    pins := { State.reset.pins with perst := t.pins.perst, caseTemp := t.pins.caseTemp, rst := t.pins.rst, vaon := t.pins.vaon } }

/-- The module as VAON goes or comes: the vault and the tamper latches are lost (R434, R482). -/
def State.vaonBase (s : State) : State := s.powerBase fusedBit

/-- The module as RST_N is asserted (R482): the always-on domain and the rails keep what they hold. -/
def State.rstBase (s : State) : State :=
  let t := s.powerBase alwaysOnBit
  { t with
    sec := { t.sec with keys := s.sec.keys }
    pwr := { t.pwr with rails := s.pwr.rails, vhvOn := s.pwr.vhvOn, target := s.pwr.target, before := s.pwr.target
                        shutdown := s.pwr.shutdown } }

/-! ### The Dawn (R466, R477, R478) -/

/-- The rails that step 2 brings up, in order, and their nominal values in mV (R464, R466). -/
def dawnRails : List Nat := [6, 0, 1, 2, 3, 4, 5]
@[inherit_doc dawnRails] def nominalMv (r : Nat) : Nat :=
  (([750, 750, 850, 900, 1200, 1200, 1800] : List Nat)[r]?).getD 0

/-- OPERATION and VOUT_COMMAND writes of the PMBus master (R465). OPERATION is shown as 1 for on and 0 for off. -/
def State.railOn (s : State) (r : Nat) (v : Bool) : State := s.emit (.pmbus r 0x01 (b2n v))
@[inherit_doc State.railOn] def State.railSet (s : State) (r mv : Nat) : State := s.emit (.pmbus r 0x21 mv)

/-- An attempt to bring the rails up fails (R466): everything is off, the fault pair shows fault, and after three the
sequencer stays off. -/
def State.railFails (s : State) : State :=
  let s1 := s.wr PWR_STATUS.FAIL_STEP 2
  { s1 with
    pwr := { s1.pwr with attempts := s1.pwr.attempts + 1, off := decide (3 ≤ s1.pwr.attempts + 1), rails := []
                         vhvOn := false }
    pins := { s1.pins with fault := 2 } }

/-- The firmware slot of a die's flash is valid (R443). -/
def State.slotOk (s : State) (die slot : Nat) : Bool :=
  match aget s.flash.fw (2 * die + slot) with
  | some f => f.sound && decide (s.rd SEC_FW_STATUS.MINVER ≤ f.version / 256)
  | none => false

/-- The image in a firmware slot. -/
def State.fwSlot (s : State) (die slot : Nat) : FwSlot :=
  (aget s.flash.fw (2 * die + slot)).getD { sound := false, version := 0, digest := 0 }

/-- The slot that a die boots: the valid one with the higher VERSION, slot 0 of two equal ones (R443). -/
def State.bootSlot (s : State) (die : Nat) : Option Nat :=
  match s.slotOk die 0, s.slotOk die 1 with
  | true, true => some (if (s.fwSlot die 0).version < (s.fwSlot die 1).version then 1 else 0)
  | true, false => some 0
  | false, true => some 1
  | false, false => none

/-- Die B boots another image than die A, which counts as a failed self-test of die B (R443). -/
def State.bootDiffers (s : State) : Bool :=
  match s.bootSlot 0, s.bootSlot 1 with
  | some a, some b => (s.fwSlot 0 a).digest != (s.fwSlot 1 b).digest
  | _, _ => false

/-- A die passes its Dawn self-tests (R378, R403, R408, R443, R477). -/
def State.diePasses (s : State) (x : DawnIn) (die : Nat) : Bool :=
  x.fuses && (if die = 0 then x.checkA else x.checkB) == 0xFFFF && (x.wordsA || x.wordsB) && (s.bootSlot die).isSome &&
    !(die == 1 && s.bootDiffers)

/-- The last step of a Dawn at which something failed, 0 for none (R477). -/
def State.failStep (s : State) (x : DawnIn) : Nat :=
  if s.bootDiffers then 7
  else if (s.bootSlot 0).isNone || (s.bootSlot 1).isNone then 5
  else if !x.wordsA && !x.wordsB then 4
  else if x.checkA != 0xFFFF || x.checkB != 0xFFFF || x.tiles != 0xFF then 3
  else if !x.fuses then 2
  else 0

/-- The self-test results and the running firmware, as the registers show them (R408, R443, R448). -/
def State.showTests (s : State) (x : DawnIn) (die : Nat) : State :=
  let slot := (s.bootSlot die).getD 0
  let s1 := ((((s.wr MEM_SELFTEST.PASS x.checkA.toNat 0).wr MEM_SELFTEST.PASS x.checkB.toNat 1).wr MEM_STATUS.SELFTEST_OK
    (b2n (x.checkA == 0xFFFF)) 0).wr MEM_STATUS.SELFTEST_OK (b2n (x.checkB == 0xFFFF)) 1).wr SEC_FW_STATUS.BOOT_SLOT slot
  ((s1.wr SEC_FW_STATUS.VERSION (s.fwSlot die slot).version).wr SEC_FW_STATUS.SLOT0_VALID (b2n (s.slotOk die 0))).wr
    SEC_FW_STATUS.SLOT1_VALID (b2n (s.slotOk die 1))

/-- The roles of step 7 (R378): `a` is ACTIVE, and the other die STANDBY if it has passed. Both dies show the link between
them up. -/
def State.firstRoles (s : State) (a : Nat) (both : Bool) : State :=
  let r := b2n both
  let s1 := ((((s.wr LKS_STATUS.ROLE 2 a).wr LKS_STATUS.PEER_ROLE 2 (1 - a)).wr LKS_STATUS.ROLE r (1 - a)).wr
    LKS_STATUS.PEER_ROLE r a).wr HPT_STATUS.ACTIVE 1 a
  (s1.wr LKS_STATUS.DIE_LINK 1 0).wr LKS_STATUS.DIE_LINK 1 1

/-- The cycle counters of every core start from zero (R449). -/
def allCores (f : Nat) : List (Nat × Nat) := (List.range 128).map fun q => (q, f)

/-- VHV is enabled at PWR_VHV_SET (R468, R469): the first VOUT_COMMAND starts a ramp. -/
def State.vhvEnable (s : State) : State :=
  let mv := s.rd PWR_VHV_SET.MV
  let s1 := (s.railSet 7 mv).wr PWR_STATUS.VHV_RAMP 1
  let s2 := if s.pwr.vhvOn then s1 else s1.railOn 7 true
  { s2 with pwr := { s2.pwr with
      vhvOn := true
      before := if s.pwr.vhvOn then s.pwr.target else 0
      target := mv
      rampEnd := some (s2.now + Config.framesPerMs * s2.rd PWR_VHV_RAMP.MS) } }

/-- Step 9 of the Dawn (R477): READY, with the fault pair's state, VHV and the counters. A tile whose checker has failed
reports its loss (R408). -/
def State.makeReady (s : State) (x : DawnIn) : State :=
  let us := (x.ends[8]?).getD 0
  let s1 := ((s.wr HPT_STATUS.READY 1).wr PWR_STATUS.DAWN_STEP 9).wr PWR_DAWN_TIME.US us
  let s2 := (s1.wr PWR_CLK_LOCK.LOCK 0x3FFFFF 0).wr PWR_CLK_LOCK.LOCK 0x3FFFFF 1
  let s3 : State := { s2 with pmc := { s2.pmc with since := allCores (s2.now + 1) }, mer := { s2.mer with servoAt := s2.now } }
  let s4 := ((List.range 8).filter fun t => !bit x.tiles.toNat t).foldl (fun u t => u.level (srcTile t 0) true) s3
  s4.vhvEnable.tamperRefresh.pairRefresh

/-- The counts of the Host Port that every Dawn zeroes (R81). -/
def State.zeroCounts (s : State) : State :=
  ((((s.wr HPT_HEADLESS_CNT.COUNT 0 0).wr HPT_HEADLESS_CNT.COUNT 0 1).wr HPT_LOST_COMP.COUNT 0 0).wr HPT_LOST_COMP.COUNT 0
    1).wr HPT_INFLIGHT.COUNT 0

/-- Steps 2 to 9 of a Dawn (R477). `first` is the first step whose end is recorded. With no die fit for a role it ends at
step 7 (R378). -/
def State.dawn (s : State) (x : DawnIn) (first : Nat) : State :=
  let s0 : State := { s.zeroCounts with pins := { s.pins with fault := 2 } }
  if !x.rails then s0.railFails
  else
    let up := (dawnRails.filter fun r => !s0.pwr.rails.contains r).foldl (fun t r => (t.railSet r (nominalMv r)).railOn r true) s0
    let s1 : State := { up with pwr := { up.pwr with rails := dawnRails, attempts := 0 } }
    let s2 := (s1.wr PWR_STATUS.FAIL_STEP (s1.failStep x)).loadAlmanac
    let okA := s2.diePasses x 0
    let okB := s2.diePasses x 1
    let a := if okA then 0 else if okB then 1 else 0
    let s3 := s2.showTests x a
    let last := if okA || okB then 9 else 7
    let s4 := ((List.range 10).filter fun k => decide (first ≤ k) && decide (k ≤ last)).foldl (fun t k =>
      t.wr PWR_DAWN_STEP.US ((x.ends[k - 1]?).getD 0) k) s3
    if okA || okB then (s4.firstRoles a (okA && okB)).makeReady x else s4.wr PWR_STATUS.DAWN_STEP 7

/-- VAON_POWER_ON (R477): step 1 ends, and the Dawn runs on, unless RST_N is low. -/
def execVaonPowerOn (dawn : DawnIn) (s : State) : Host.Outcome State Fault Refusal :=
  .next <|
    if s.pins.vaon then s
    else
      let s1 := (s.vaonBase.wr PWR_STATUS.DAWN_STEP 1).wr PWR_DAWN_STEP.US ((dawn.ends[0]?).getD 0) 1
      let s2 : State := { s1 with pins := { s1.pins with vaon := true } }
      if s.pins.rst then s2 else s2.dawn dawn 1

/-- RAIL_RETRY (R466): 1 s after a failed attempt, the sequencer tries again. -/
def execRailRetry (dawn : DawnIn) (s : State) : Host.Outcome State Fault Refusal :=
  .next <|
    if !s.pins.vaon || s.pins.rst || s.pwr.off || s.pwr.attempts == 0 || s.on HPT_STATUS.READY then s
    else s.dawn dawn 2

/-- RST_N_ASSERT (R482): the module resets, and the fault pair is low on both pins. -/
def execRstNAssert (s : State) : Host.Outcome State Fault Refusal :=
  .next <|
    if s.pins.rst then s
    else if !s.pins.vaon then { s with pins := { s.pins with rst := true } }
    else
      let s1 := s.rstBase.bump PWR_CNT_RST.COUNT
      { s1 with pins := { s1.pins with rst := true } }

/-- RST_N_RELEASE (R482): a Dawn runs from step 2. PWR_RESET_CAUSE shows what started it. -/
def execRstNRelease (dawn : DawnIn) (s : State) : Host.Outcome State Fault Refusal :=
  .next <|
    if !s.pins.rst then s
    else
      let s1 : State := { s with pins := { s.pins with rst := false } }
      if !s.pins.vaon then s1
      else
        let cause := if s.rd PWR_STATUS.DAWN_STEP = 1 then 0 else if s.pwr.shutdown then 2 else 1
        let s2 : State := { s1 with pwr := { s1.pwr with shutdown := false } }
        (s2.wr PWR_RESET_CAUSE.CAUSE cause).dawn dawn 2

/-- VAON_LOSS (R483): the module is unpowered, with both fault pins low. -/
def execVaonLoss (s : State) : Host.Outcome State Fault Refusal :=
  .next <|
    let s1 := s.vaonBase
    { s1 with pins := { s1.pins with vaon := false } }

/-- A refused write of a PWR field. -/
def State.pwrReject (s : State) : State := s.wr PWR_STATUS.CFG_REJECT 1

/-- The key of PWR_ARM and PWR_SEQ_CMD (R467, R480). -/
def pwrKey : Nat := 0xA5C3

/-- SHUTDOWN (R467): the flash write in progress completes, VHV and the rails are turned off in order, and the sequencer
stays off. -/
def execShutdown (die : Fin 2) (key : BitVec 16) (s : State) : Host.Outcome State Fault Refusal :=
  .next <| s.viaBar0 die 0xF00034 fun s =>
    if key.toNat ≠ pwrKey then s.pwrReject
    else
      let s1 := match s.cal.toLog with
        | [] => s
        | r :: _ => (s.flashWrite 0 true fun t => t.appendRec 0 r.bytes).flashWrite 1 true fun t => t.appendRec 1 r.bytes
      let s2 := ([7, 5, 4, 3, 2, 1, 0, 6] : List Nat).foldl (fun t r => t.railOn r false) s1
      let s3 := s2.rstBase
      { s3 with
        pwr := { State.reset.pwr with off := true, shutdown := true }
        pins := { s3.pins with fault := 2 } }

/-! ### VHV (R468, R469) -/

/-- VHV_SET_WRITE (R468): a target outside 6,000 to 12,000 mV, off the steps of 50, or above 15,000 mW for some tile's ICAP,
is refused; another waits for the next PMBus slot. -/
def execVhvSetWrite (die : Fin 2) (mv : BitVec 14) (s : State) : Host.Outcome State Fault Refusal :=
  .next <| s.viaBar0 die 0xF00010 fun s =>
    let v := mv.toNat
    if v < 6000 ∨ 12000 < v ∨ v % 50 ≠ 0 ∨ ((List.range 8).any fun t => decide (15000000 < s.rd DRV_FOLD_CFG.ICAP t * v)) then
      s.pwrReject
    else s.wrF PWR_VHV_SET.MV v

/-- VHV_COMMAND (R468, R469): at the first PMBus slot after any ramp, the target written takes effect and a ramp begins. -/
def execVhvCommand (s : State) : Host.Outcome State Fault Refusal :=
  .next <|
    if !s.pwr.vhvOn || s.on PWR_STATUS.VHV_RAMP || nget s.held (PWR_VHV_SET.MV.key 0 0 0) == 0 then s
    else (s.settleF PWR_VHV_SET.MV).vhvEnable.vhvEval

/-- VHV_RAMP_END (R469). -/
def execVhvRampEnd (s : State) : Host.Outcome State Fault Refusal :=
  .next <|
    match s.pwr.rampEnd with
    | none => s
    | some f =>
      let s1 := (s.reach f).wr PWR_STATUS.VHV_RAMP 0
      ({ s1 with pwr := { s1.pwr with rampEnd := none } } : State).vhvEval

/-! ### The PMBus (R465) -/

/-- The target of a rail in mV: its nominal value, and that of VHV. -/
def State.railTarget (s : State) (r : Nat) : Nat := if r = 7 then s.pwr.target else nominalMv r

/-- A rail's reading is within 3 % of its target. -/
def State.railGood (s : State) (r v : Nat) : Bool :=
  decide (97 * s.railTarget r ≤ 100 * v) && decide (100 * v ≤ 103 * s.railTarget r)

/-- What one rail's poll shows. A transfer that has failed twice is recorded; which of the two reads it was is free
(assumption 1). -/
def State.pollRail (s : State) (x : RailRead) : State :=
  let r := x.rail.val
  if x.ok then
    ((s.wr PWR_RAIL.VOUT x.vout.toNat r).wr PWR_RAIL.IOUT x.iout.toNat r).wr PWR_RAIL.GOOD (b2n (s.railGood r x.vout.toNat)) r
  else
    let d := s.draw 1
    (((d.2.wr PWR_STATUS.PMB_ERR 1).wr PWR_PMB_STATUS.VALID 1).wr PWR_PMB_STATUS.CMD (0x8B + d.1 % 2)).wr PWR_PMB_STATUS.ADDR
      (0x40 + r)

/-- The cause of a source follows the readings of some rails: one that is out of range holds it, and it ends once every one
reads good. -/
def State.railCause (s : State) (n : Nat) (rs : List Nat) (xs : List RailRead) : State :=
  let mine := xs.filter fun x => x.ok && rs.contains x.rail.val
  let bad := mine.any fun x => !s.railGood x.rail x.vout.toNat
  let all := rs.all fun r => mine.any fun x => x.rail.val == r
  s.level n (bad || (s.cause n && !all))

/-- PMBUS_POLL (R465): the rails' voltages and currents are read; a rail out of range raises RAIL, or VDD_CORE of its die, and
VAON raises its own source (R346, R347). -/
def execPmbusPoll (readings : List RailRead) (vaonOk : Bool) (s : State) : Host.Outcome State Fault Refusal :=
  .next <|
    if !s.on HPT_STATUS.READY then s
    else
      let s1 := readings.foldl State.pollRail s
      (((s1.railCause (srcModule 4) [2, 3, 4, 5, 6] readings).railCause (srcDie 0 10) [0] readings).railCause (srcDie 1 10) [1]
        readings).level (srcModule 5) (!vaonOk)

/-- STATUS_WORD reports a fault: any bit but BUSY, OFF, POWER_GOOD# and the reserved bit (assumption 16). -/
def statusFault (w : BitVec 16) : Bool := w &&& 0xF73E != 0

/-- PMB_ALERT (R465): every rail's STATUS_WORD is read, rail 0 first. -/
def execPmbAlert (status : List (BitVec 16)) (s : State) : Host.Outcome State Fault Refusal :=
  .next <|
    if !s.on HPT_STATUS.READY then s
    else
      let bad (r : Nat) : Bool := match status[r]? with | some w => statusFault w | none => false
      let s1 := [0, 1].foldl (fun t d => if bad d then t.raise (srcDie d 10) 0 d else t) s
      if [2, 3, 4, 5, 6, 7].any bad then s1.raise (srcModule 4) 0 else s1

/-! ### Drive-stage loss (R471) -/

/-- I² × LOAD of a current-mode channel at its applied code, in units of 1/(4,000 × 2^32) mW. An element with no usable curve
has no LOAD, and none is subtracted. -/
def State.loadPower (s : State) (e : Nat) : Nat :=
  let ch := (s.elem e).channel
  let st := s.outState ch
  if !s.chOn DRV_CH_STATE.MODE ch || !(st == stDrive || st == stSpared) then 0
  else match s.curve e with
    | some bs => s.chRd DRV_CH_LIVE.APPLIED ch ^ 2 * field bs 12 2 * (if s.chOn DRV_CH_STATE.RANGE ch then 1 else 16)
    | none => 0

/-- The drive-stage loss in units of 1/(4,000 × 2^32) mW. -/
def State.driveLoss (s : State) : Nat :=
  ((List.range 8).map fun t => s.vhvOf t * s.rd DRV_IVHV.IMEAN t).sum * (4 * 2 ^ 32) - (s.validElems.map s.loadPower).sum

/-- LOSS_COMPUTE (R471): every millisecond the loss is computed; above PWR_LOSS_CAP it sets LOSS_HIGH and signals PWR_VEC. How
a fraction of a milliwatt is rounded is free (assumption 1). -/
def execLossCompute (s : State) : Host.Outcome State Fault Refusal :=
  .next <|
    if !s.on HPT_STATUS.READY then s
    else
      let s0 := s.once 2 (s.duty 2 Config.framesPerMs 0)
      let d := s0.draw 1
      let x := s0.driveLoss
      let unit := 4000 * 2 ^ 32
      let mw := if x % unit = 0 then x / unit else x / unit + d.1 % 2
      let s1 := d.2.wr PWR_LOSS.MW (min mw 0x1FFFF)
      if s1.rd PWR_LOSS_CAP.MW < mw then (s1.wr PWR_STATUS.LOSS_HIGH 1).msix (s1.rd PWR_VEC.VECTOR) else s1

/-! ### ARM (R479 to R481) -/

/-- The condition of R480 that fails first: 2 not READY, 3 the Plan Engine disabled, 4 no live plan, 5 VHV not good; 0 for
none. -/
def State.armRefusal (s : State) : Nat :=
  if !s.on HPT_STATUS.READY then 2
  else if !s.on PLN_CTL.ENABLE then 3
  else if !s.on PLN_LIVE.VALID then 4
  else if !s.on PWR_STATUS.VHV_GOOD then 5
  else 0

/-- A write of PWR_ARM with OP 1 or 2: refused with its reason, or effective at frame A. -/
def State.armWrite (s : State) (key why : Nat) (on_ : Bool) : State :=
  let r := if key ≠ pwrKey then 1 else why
  if r ≠ 0 then (s.wr PWR_ARM_STATUS.REFUSED r).pwrReject
  else { s with pwr := { s.pwr with arm := s.pwr.arm ++ [(on_, s.now + 4)] } }

/-- ARM (R480). -/
def execArm (die : Fin 2) (key : BitVec 16) (s : State) : Host.Outcome State Fault Refusal :=
  .next <| s.viaBar0 die 0xF00008 fun s => s.armWrite key.toNat s.armRefusal true

/-- DISARM (R481). -/
def execDisarm (die : Fin 2) (key : BitVec 16) (s : State) : Host.Outcome State Fault Refusal :=
  .next <| s.viaBar0 die 0xF00008 fun s => s.armWrite key.toNat 0 false

/-- A resting channel of an armed tile enters DRIVE, or the state that a fault keeps it in (R163, R480). -/
def State.armChannel (s : State) (ch : Nat) : State :=
  if s.outState ch ≠ stRest then s else s.wake ch

/-- A channel enters REST as its tile is disarmed. One that rests for a reason of its own keeps that. -/
def State.disarmChannel (s : State) (ch : Nat) : State :=
  if s.outState ch = stDrive ∨ s.outState ch = stSpared then (s.chWr DRV_CH_STATE.STATE stRest ch).dueAgain ch else s

/-- ARM_EFFECT (R480, R481): at frame A every tile arms, or disarms. A lost tile takes ARMED at its return (R349). -/
def execArmEffect (s : State) : Host.Outcome State Fault Refusal :=
  .next <|
    match s.pwr.arm with
    | [] => s
    | (on_, f) :: rest =>
      let s0 : State := { (s.reach (f - 1)).markSuspended with pwr := { s.pwr with arm := rest } }
      let s1 := (s0.reach f).wr PWR_STATUS.ARMED (b2n on_)
      let chs := s1.validElems.map fun e => (s1.elem e).channel
      if on_ then
        let ts := (List.range 8).filter fun t => !s1.lostCmd t
        let s2 := ts.foldl (fun t k => t.wr DRV_STATUS.ARMED 1 k) s1
        (chs.filter fun ch => ts.contains (ch / 2048)).foldl State.armChannel s2
      else
        let s2 := (List.range 8).foldl (fun t k => t.wr DRV_STATUS.ARMED 0 k) s1
        chs.foldl State.disarmChannel s2

end Sys2Proof.Machine
end

