-- ==== Sys2Proof/Machine/RegMap.lean ====
section
/-! DEFINITION. How each field of the register map is accessed (R7 to R9): its access type, the enable that stands over a
class S field, the range of the values it takes, and what else a write of it does. -/
namespace Sys2Proof

/-- Access types (R7). -/
inductive Acc where
  | ro | rw | wo | w1c | w1s
  deriving DecidableEq, Repr

/-- What stands as the enable over a field (R9): nothing for the classes L and F; for class S the Host Port's ENABLE, any
ring of the ring set, a ring's own ENABLE, the Loop Array's, an open stream of the player, the Calibration Manager's, and the
timing port's. -/
inductive Gate where
  | live | hpt | set | sq | cq | tq | lpa | player | cal | port
  deriving DecidableEq, Repr

/-- What a write does beside storing the value. `own`: the field's writes are another command. `bound`: the value waits for
the field's boundary. `inputs`: so, without the reserved bits. `bucket`: the buckets' levels are brought up to date.
`slew`: the slew goes on at the new rate. `pathEn`: suspensions end now. `rot`: windows already begun keep the old value.
`dinc` and `phase0`: refused where a binding or the grid sets the value. `portEn`: a disabled port has no link. `sync`: the
Sync interval starts again. `timer`: 0 disarms. `alarm`: refused under LOCK. `aligned`: a multiple of 8. `count`, `event`
and `chain`: the counters are brought up to date; codes not listed are refused; CHAIN is reserved for even counters.
`freeze`: the same for every core. `ovf`: the summary follows. `tamper`: bits whose condition is present stay. `empties n`:
the `n` bytes of the register go back to zero. `darkEn`: a comparator that is asserted trips as it arms. `thresh`: the
comparators compare anew. `clk10`: CLK10_OUT starts or stops. `ppsOut`: 0 ends the pulse of
PPS_OUT. -/
inductive How where
  | plain | own | bound | inputs | bucket | slew | pathEn | rot | dinc | phase0 | portEn | sync | timer | alarm | aligned
  | count | event | chain | freeze | ovf | tamper | servo | darkEn | thresh | clk10 | ppsOut
  | empties (n : Nat)
  deriving DecidableEq, Repr

/-- A field with its access. `first` is the lowest number of its first index. -/
structure RegRow where
  f : Fld
  acc : Acc := .ro
  gate : Gate := .live
  lo : Nat := 0
  hi : Nat := 0xFFFFFFFF
  how : How := .plain
  first : Nat := 0
  deriving DecidableEq, Repr

/-- The fields of the register map, in pieces. -/
def regRows0 : List RegRow := [
  { f := PLN_FMAP_CTL.VALIDATE, acc := .wo, how := .own },
  { f := PLN_FMAP_STATUS.ERR_TABLE },
  { f := PLN_FMAP_STATUS.ERROR },
  { f := PLN_FMAP_STATUS.VALID },
  { f := PLN_FMAP_STATUS.BUSY },
  { f := PLN_FMAP_ERR.ERR_INDEX },
  { f := PLN_REACH_CNT.COUNT },
  { f := HPT_ID.DEVICE },
  { f := HPT_ID.REV },
  { f := HPT_ID.DIE },
  { f := HPT_CTL.ENABLE, acc := .rw, how := .own },
  { f := HPT_STATUS.LINK_WIDTH },
  { f := HPT_STATUS.LINK_SPEED },
  { f := HPT_STATUS.CFG_REJECT, acc := .w1c },
  { f := HPT_STATUS.HEADLESS },
  { f := HPT_STATUS.LINK_UP },
  { f := HPT_STATUS.ACTIVE },
  { f := HPT_STATUS.READY },
  { f := HPT_ERR_STATUS.TQ_LOST, acc := .w1c },
  { f := HPT_ERR_STATUS.CQ_STALL, acc := .w1c },
  { f := HPT_ERR_STATUS.POISONED, acc := .w1c },
  { f := HPT_ERR_STATUS.FETCH_ERR, acc := .w1c },
  { f := HPT_ERR_STATUS.STANDBY_WR, acc := .w1c },
  { f := HPT_ERR_STATUS.DB_STANDBY, acc := .w1c },
  { f := HPT_ERR_STATUS.DB_RANGE, acc := .w1c },
  { f := HPT_ERR_STATUS.PARTIAL_WR, acc := .w1c },
  { f := HPT_ERR_INFO.RING },
  { f := HPT_ERR_INFO.BIT },
  { f := HPT_ERR_ADDR_LO.ADDR },
  { f := HPT_ERR_ADDR_HI.ADDR },
  { f := HPT_ERR_VEC.VECTOR, acc := .rw },
  { f := HPT_DMA_CFG.RO_TELEM, acc := .rw, gate := .hpt },
  { f := HPT_DMA_CFG.MAX_RD_OUT, acc := .rw, gate := .hpt, hi := 256 },
  { f := HPT_HEADLESS_CNT.COUNT },
  { f := HPT_LOST_COMP.COUNT },
  { f := HPT_INFLIGHT.COUNT },
  { f := HPT_RING_DOMAIN.DOMAIN, acc := .rw, gate := .set, hi := 16 },
  { f := HPT_SQ_BASE_LO.BASE, acc := .rw, gate := .sq },
  { f := HPT_SQ_BASE_HI.BASE, acc := .rw, gate := .sq },
  { f := HPT_SQ_CFG.MAX_INFLIGHT, acc := .rw, gate := .sq, hi := 256 },
  { f := HPT_SQ_CFG.URGENT, acc := .rw, gate := .sq },
  { f := HPT_SQ_CFG.CQ, acc := .rw, gate := .sq },
  { f := HPT_SQ_CFG.SIZE_LOG2, acc := .rw, gate := .sq, lo := 4, hi := 16 },
  { f := HPT_SQ_CFG.ENABLE, acc := .rw, how := .own },
  { f := HPT_SQ_HEAD.HEAD },
  { f := HPT_SQ_TAIL.TAIL },
  { f := HPT_SQ_STATUS.INFLIGHT },
  { f := HPT_SQ_STATUS.PAUSED },
  { f := HPT_SQ_STATUS.DB_RANGE, acc := .w1c },
  { f := HPT_SQ_STATUS.ERROR }]

@[inherit_doc regRows0] def regRows1 : List RegRow := [
  { f := HPT_CQ_BASE_LO.BASE, acc := .rw, gate := .cq },
  { f := HPT_CQ_BASE_HI.BASE, acc := .rw, gate := .cq },
  { f := HPT_CQ_CFG.VECTOR, acc := .rw },
  { f := HPT_CQ_CFG.SIZE_LOG2, acc := .rw, gate := .cq, lo := 4, hi := 16 },
  { f := HPT_CQ_CFG.ENABLE, acc := .rw, how := .own },
  { f := HPT_CQ_COAL.COAL_TIME, acc := .rw },
  { f := HPT_CQ_COAL.COAL_COUNT, acc := .rw },
  { f := HPT_CQ_TAIL.PHASE },
  { f := HPT_CQ_TAIL.TAIL },
  { f := HPT_CQ_HEAD.HEAD },
  { f := HPT_CQ_SEQ.SEQ },
  { f := HPT_CQ_STATUS.HELD },
  { f := HPT_CQ_STATUS.DB_RANGE, acc := .w1c },
  { f := HPT_CQ_STATUS.STALL },
  { f := PLN_CTL.ENABLE, acc := .rw, how := .own },
  { f := PLN_STATUS.ENABLED },
  { f := PLN_STATUS.PHASE },
  { f := PLN_STATUS.CFG_REJECT, acc := .w1c },
  { f := PLN_SETTLE_DEF.SETTLE, acc := .rw },
  { f := PLN_MAKEBB_DWELL.DWELL, acc := .rw },
  { f := PLN_LIVE.VALID },
  { f := PLN_LIVE.FB },
  { f := PLN_LIVE.LIVE_ID },
  { f := PLN_LAST_C_LO.TICKS },
  { f := PLN_LAST_C_HI.TICKS },
  { f := PLN_VFY_RESULT.EVALUATED },
  { f := PLN_VFY_RESULT.FAILED },
  { f := PLN_VFY_FIRST.VALID },
  { f := PLN_VFY_FIRST.SAMPLE },
  { f := PLN_VFY_FIRST.MONITOR },
  { f := PLN_STORE_FREE.COUNT },
  { f := PLN_STORE_LARGEST.COUNT },
  { f := PLN_PLANS.COUNT },
  { f := PLN_CNT_COMMIT.COUNT },
  { f := PLN_CNT_FALLBACK.COUNT },
  { f := PLN_CNT_LATE.COUNT },
  { f := PLN_SERIAL.SERIAL, acc := .rw },
  { f := PLN_DIR_A.BASE },
  { f := PLN_DIR_A.DOMAIN },
  { f := PLN_DIR_A.PINNED },
  { f := PLN_DIR_A.LIVE },
  { f := PLN_DIR_A.STATE },
  { f := PLN_DIR_B.SLOW },
  { f := PLN_DIR_B.SLOTS },
  { f := ORB_CTL.STAT_CLR, acc := .wo, how := .own },
  { f := ORB_CTL.LOOKAHEAD, acc := .rw },
  { f := ORB_STATUS.GLOBAL_HOLD },
  { f := ORB_STATUS.LAST_CLASS },
  { f := ORB_STATUS.ENGINE_BUSY },
  { f := ORB_STATUS.CFG_REJECT, acc := .w1c }]

@[inherit_doc regRows0] def regRows2 : List RegRow := [
  { f := ORB_RING_WEIGHT.WEIGHT, acc := .rw, lo := 1, hi := 255 },
  { f := ORB_TB_CFG.EN, acc := .rw, how := .bucket, first := 1 },
  { f := ORB_TB_CFG.BURST, acc := .rw, how := .own, first := 1 },
  { f := ORB_TB_RATE.RATE, acc := .rw, how := .bucket, first := 1 },
  { f := ORB_TB_LEVEL.LEVEL, first := 1 },
  { f := ORB_VTIME.VTIME },
  { f := ORB_GTB_CFG.EN, acc := .rw, how := .bucket },
  { f := ORB_GTB_CFG.BURST, acc := .rw, how := .own },
  { f := ORB_GTB_RATE.RATE, acc := .rw, how := .bucket },
  { f := ORB_GTB_LEVEL.LEVEL },
  { f := ORB_GEB_CFG.EN, acc := .rw, how := .bucket },
  { f := ORB_GEB_CFG.BURST, acc := .rw, how := .own },
  { f := ORB_GEB_RATE.RATE, acc := .rw, how := .bucket },
  { f := ORB_GEB_LEVEL.LEVEL },
  { f := ORB_CLASS_STAT.MAX_HOL_US },
  { f := ORB_CLASS_STAT.DEPTH },
  { f := ORB_ORBIT_STATUS.SHADOW_COUNT },
  { f := ORB_ORBIT_STATUS.ACTIVE_COUNT },
  { f := ORB_ORBIT_STATUS.ENTRY },
  { f := ORB_ORBIT_STATUS.STOP_PENDING },
  { f := ORB_ORBIT_STATUS.SWAP_PENDING },
  { f := ORB_ORBIT_STATUS.RUNNING },
  { f := DRV_CTL.CHK_EN, acc := .rw },
  { f := DRV_CTL.SPARE_AUTO, acc := .rw },
  { f := DRV_STATUS.CLR_REFUSED, acc := .w1c },
  { f := DRV_STATUS.ORPHAN },
  { f := DRV_STATUS.LINK_B },
  { f := DRV_STATUS.LINK_A },
  { f := DRV_STATUS.SRC },
  { f := DRV_STATUS.TWILIGHT },
  { f := DRV_STATUS.FOLD_FLOOR },
  { f := DRV_STATUS.FOLD_ACTIVE },
  { f := DRV_STATUS.ARMED },
  { f := DRV_STATUS.CFG_REJECT, acc := .w1c },
  { f := DRV_FOLD_CFG.ICAP, acc := .rw, lo := 1, hi := 2500 },
  { f := DRV_FOLD_STATUS.STEPS },
  { f := DRV_FOLD_STATUS.FACTOR },
  { f := DRV_FOLD_CLR.CLEAR, acc := .wo, how := .own },
  { f := DRV_IVHV.IPEAK },
  { f := DRV_IVHV.IMEAN },
  { f := DRV_QUEUE.MAX_DEPTH },
  { f := DRV_QUEUE.DEPTH },
  { f := DRV_CNT_LATE.COUNT },
  { f := DRV_CNT_OVERRIDE.COUNT },
  { f := DRV_CNT_CLAMP.COUNT },
  { f := DRV_CHK_TOL.TOL, acc := .rw },
  { f := DRV_GUARD_TRIP.TRIP, acc := .w1c, how := .own },
  { f := DRV_GUARD_PERSIST.PERSIST },
  { f := DRV_SPARE.REASON },
  { f := DRV_SPARE.POSITION }]

@[inherit_doc regRows0] def regRows3 : List RegRow := [
  { f := DRV_FAILED.FAILED, acc := .w1c, how := .own },
  { f := DRV_CH_LIVE.APPLIED },
  { f := DRV_CH_LIVE.LIVE },
  { f := DRV_CH_BANKS.FALLBACK },
  { f := DRV_CH_BANKS.NEXT },
  { f := DRV_CH_STATE.CAL },
  { f := DRV_CH_STATE.FOLDED },
  { f := DRV_CH_STATE.CLAMPED },
  { f := DRV_CH_STATE.BLOCKED },
  { f := DRV_CH_STATE.KEEP },
  { f := DRV_CH_STATE.ARM },
  { f := DRV_CH_STATE.RANGE },
  { f := DRV_CH_STATE.MODE },
  { f := DRV_CH_STATE.STATE },
  { f := DRV_CH_DITHER.DMODE, acc := .rw, how := .own },
  { f := DRV_CH_DITHER.COHERENT, acc := .wo, how := .own },
  { f := DRV_CH_DITHER.AMP, acc := .rw, how := .own },
  { f := DRV_CH_DITHER.TONE, acc := .rw, how := .own },
  { f := DRV_CH_DINC.INC, acc := .rw, how := .dinc },
  { f := DRV_CH_PHASE0.PHASE0, acc := .rw, how := .phase0 },
  { f := DRV_CH_GUARDW.BLOCK_CODE },
  { f := DRV_CH_GUARDW.CAP },
  { f := DRV_CH_GATEW.MONV },
  { f := DRV_CH_GATEW.MON },
  { f := DRV_CH_GATEW.ORPH },
  { f := DRV_CH_GATEW.DKHOLD },
  { f := DRV_CH_GATEW.TRIP },
  { f := DRV_CH_GATEW.LOSTBLK },
  { f := DRV_CH_GATEW.ESC },
  { f := DRV_CH_GATEW.DARK },
  { f := DRV_CH_GATEW.GATE },
  { f := MON_CTL.FINE_RUN, acc := .rw },
  { f := MON_STATUS.CLR_REFUSED, acc := .w1c },
  { f := MON_STATUS.CFG_REJECT, acc := .w1c },
  { f := MON_GUARD_CFG.ARM_DLY, acc := .rw, lo := 4, hi := 1000 },
  { f := MON_REF_CFG.REF_TOL, acc := .rw },
  { f := MON_REF_STATUS.PAIR_MISMATCH },
  { f := MON_REF_STATUS.REF_BAD },
  { f := MON_REF_LATCH.PAIR_MISMATCH, acc := .w1c },
  { f := MON_REF_LATCH.REF_BAD, acc := .w1c },
  { f := MON_FINE_TRIG.TRIG, acc := .wo, how := .own },
  { f := MON_REF_RESULT.RESULT },
  { f := MON_SYSCAL_CTL.STEP, acc := .wo, how := .own },
  { f := MON_SYSCAL_CTL.RANGE, acc := .wo, how := .own },
  { f := MON_SYSCAL_CTL.INPUT, acc := .wo, how := .own },
  { f := MON_SYSCAL_REF.REF, acc := .rw, lo := 1 },
  { f := MON_SYSCAL_STATUS.RANGE },
  { f := MON_SYSCAL_STATUS.INPUT },
  { f := MON_SYSCAL_STATUS.ERROR },
  { f := MON_SYSCAL_STATUS.OVERRUN, acc := .w1c }]

@[inherit_doc regRows0] def regRows4 : List RegRow := [
  { f := MON_SYSCAL_STATUS.REF_DONE },
  { f := MON_SYSCAL_STATUS.DARK_DONE },
  { f := MON_SYSCAL_STATUS.PENDING },
  { f := MON_SYSCAL_STATUS.BUSY },
  { f := MON_SYSCAL_RES_FAST.GAIN },
  { f := MON_SYSCAL_RES_FAST.OFF },
  { f := MON_SYSCAL_RES_FOFF.FOFF },
  { f := MON_SYSCAL_RES_FGAIN.FGAIN },
  { f := MON_SYSCAL_SPREAD.SPREAD },
  { f := MON_CAP_CTL.DECIM, acc := .rw, how := .bound },
  { f := MON_CAP_CTL.SGF_CH, acc := .rw },
  { f := MON_CAP_CTL.COUNT, acc := .rw, how := .bound },
  { f := MON_CAP_CTL.TRIG, acc := .rw },
  { f := MON_CAP_CTL.EN, acc := .rw, how := .own },
  { f := MON_CAP_LIST0.INPUTS, acc := .rw, how := .inputs },
  { f := MON_CAP_LIST1.INPUTS, acc := .rw, how := .inputs },
  { f := MON_CAP_PRE.PRE, acc := .rw, how := .bound },
  { f := MON_CAP_TIME_LO.TICKS, acc := .rw },
  { f := MON_CAP_TIME_HI.TICKS, acc := .rw, how := .own },
  { f := MON_CAP_SWTRIG.TRIG, acc := .wo, how := .own },
  { f := MON_CAP_REL.REL, acc := .wo, how := .own },
  { f := MON_CAP_STATUS.TIME_ERR, acc := .w1c },
  { f := MON_CAP_STATUS.LATE, acc := .w1c },
  { f := MON_CAP_STATUS.OVERRUN, acc := .w1c },
  { f := MON_CAP_STATUS.PENDING },
  { f := MON_CAP_STATUS.BANK1 },
  { f := MON_CAP_STATUS.BANK0 },
  { f := MON_CAP_STAMP_LO.TICKS },
  { f := MON_CAP_STAMP_HI.TICKS },
  { f := MON_CAP_INFO.PRE_VALID },
  { f := MON_IN_CFG.SGF_CH, acc := .rw },
  { f := MON_IN_CFG.TRIG_SGF, acc := .rw },
  { f := MON_IN_CFG.LOSS_EN, acc := .rw },
  { f := MON_IN_CFG.DARK_EN, acc := .rw, how := .darkEn },
  { f := MON_IN_CFG.ODR, acc := .rw, hi := 5, how := .bound },
  { f := MON_IN_CFG.FMODE, acc := .rw, hi := 2, how := .bound },
  { f := MON_IN_CFG.RANGE, acc := .rw, how := .bound },
  { f := MON_IN_DARK.THRESH, acc := .rw, lo := 10, hi := 200000, how := .thresh },
  { f := MON_IN_LOSS.THRESH, acc := .rw, lo := 10, hi := 200000, how := .thresh },
  { f := MON_IN_LOSSQ.QUAL, acc := .rw },
  { f := MON_IN_FAST.RAW },
  { f := MON_IN_FAST.OVR },
  { f := MON_IN_FAST.UNDER },
  { f := MON_IN_FAST.SETTLING },
  { f := MON_IN_FAST.CODE },
  { f := MON_IN_FINE.SUSPECT },
  { f := MON_IN_FINE.OVR },
  { f := MON_IN_FINE.TRIGGERED },
  { f := MON_IN_FINE.SEQ },
  { f := MON_IN_FINE.VALUE }]

@[inherit_doc regRows0] def regRows5 : List RegRow := [
  { f := MON_IN_FINE_RAW.RAW },
  { f := MON_IN_STATUS.OVERRUN, acc := .w1c },
  { f := MON_IN_STATUS.BUSY },
  { f := MON_IN_STATUS.PENDING },
  { f := MON_IN_STATUS.SETTLING },
  { f := MON_IN_STATUS.LOSS_TRIP, acc := .w1c, how := .own },
  { f := MON_IN_STATUS.LOSS_ARMED },
  { f := MON_IN_STATUS.LOSS_OUT },
  { f := MON_IN_STATUS.GUARD },
  { f := MON_IN_STATUS.DARK_ARMED },
  { f := MON_IN_STATUS.DARK_OUT },
  { f := MON_IN_CF_FAST.GAIN, acc := .rw, how := .bound },
  { f := MON_IN_CF_FAST.OFF, acc := .rw, how := .bound },
  { f := MON_IN_CF_FOFF.FOFF, acc := .rw, how := .bound },
  { f := MON_IN_CF_FGAIN.FGAIN, acc := .rw, how := .bound },
  { f := TON_CTL.FIRST_CLR, acc := .wo, how := .own },
  { f := TON_CTL.PT_EN, acc := .rw, how := .pathEn },
  { f := TON_STATUS.PT_FOREIGN },
  { f := TON_STATUS.PT_LOSS },
  { f := TON_STATUS.RING_ERR, acc := .w1c },
  { f := TON_STATUS.CLR_REFUSED, acc := .w1c },
  { f := TON_STATUS.CFG_REJECT, acc := .w1c },
  { f := TON_PT_CFG.QUAL, acc := .rw },
  { f := TON_PT_FIRST.VALID },
  { f := TON_PT_FIRST.KIND },
  { f := TON_PT_FIRST.TONE },
  { f := TON_PT_FIRST.MONITOR },
  { f := TON_CNT_LOSS.COUNT },
  { f := TON_CNT_FOREIGN.COUNT },
  { f := TON_CNT_ABANDON.COUNT },
  { f := TON_CNT_GAP.COUNT },
  { f := TON_TONE_ROT.ROT, acc := .rw, how := .rot },
  { f := TON_PT_LOSS.LOSS, acc := .w1c, how := .own },
  { f := TON_PT_FOREIGN.FOREIGN, acc := .w1c, how := .own },
  { f := TON_PT_CONF.CONF },
  { f := TON_PT_EXPECT.VALID },
  { f := TON_PT_EXPECT.SUSPENDED },
  { f := TON_PT_EXPECT.K },
  { f := TON_PT_EXPECT.TONE },
  { f := LPA_CTL.ENABLE, acc := .rw, how := .own },
  { f := LPA_STATUS.OPEN_ANY },
  { f := LPA_STATUS.OVR_ANY },
  { f := LPA_STATUS.ENABLED },
  { f := LPA_STATUS.CFG_REJECT, acc := .w1c },
  { f := LPA_ADMIT_CFG.WCET_MAX, acc := .rw, gate := .lpa, lo := 32, hi := 600 },
  { f := LPA_ADMIT_CFG.PCT, acc := .rw, gate := .lpa, lo := 10, hi := 90 },
  { f := LPA_CAPS.TRACK_CAP, acc := .rw, gate := .lpa, hi := 2048 },
  { f := LPA_CAPS.SETTLE_CAP, acc := .rw, gate := .lpa, hi := 512 },
  { f := LPA_DWELL.TRACK_DWELL, acc := .rw },
  { f := LPA_DWELL.SETTLE_MAX, acc := .rw }]

@[inherit_doc regRows0] def regRows6 : List RegRow := [
  { f := LPA_OVR_LIMIT.LIMIT, acc := .rw },
  { f := LPA_LOAD.LOAD },
  { f := LPA_UTIL.UTIL },
  { f := LPA_CLASS_CNT.TRACK },
  { f := LPA_CLASS_CNT.SETTLE },
  { f := LPA_WAIT.TWAIT },
  { f := LPA_WAIT.SWAIT },
  { f := LPA_CNT_OVR.COUNT },
  { f := LPA_CNT_STEAL_LOCAL.COUNT },
  { f := LPA_CNT_STEAL_REMOTE.COUNT },
  { f := LPA_CNT_CLIP.COUNT },
  { f := LPA_CNT_DISCARD.COUNT },
  { f := LPA_CNT_SKIP.COUNT },
  { f := LPA_FIRST_OVR.VALID, acc := .w1c, how := (.empties 4) },
  { f := LPA_FIRST_OVR.CLASS },
  { f := LPA_FIRST_OVR.CONTEXT },
  { f := LPA_CORE_STATUS.BUSY },
  { f := LPA_CORE_STATUS.FAULT },
  { f := LPA_CORE_STATUS.QJOBS },
  { f := LPA_CORE_STATUS.QWORK },
  { f := LPA_OPEN_LOOP.OPEN },
  { f := LPA_PROG_CMD.OP, acc := .wo, hi := 2, how := .own },
  { f := LPA_PROG_CMD.PROG, acc := .wo, how := .own },
  { f := LPA_PROG_STATUS.PROG },
  { f := LPA_PROG_STATUS.ERROR },
  { f := LPA_PROG_STATUS.OVERRUN, acc := .w1c },
  { f := LPA_PROG_STATUS.PENDING },
  { f := LPA_PROG_STATUS.BUSY },
  { f := LPA_PROG_COUNT.VALID },
  { f := LPA_PROG_WORDS.FREE },
  { f := LPA_CNT_LISSAT.COUNT },
  { f := LPA_CNT_IMGERR.COUNT },
  { f := LPA_CNT_RDPC_DENY.COUNT },
  { f := PRF_STATUS.CFG_REJECT, acc := .w1c },
  { f := PRF_GEN_USE.MAX },
  { f := PRF_GEN_USE.IN_USE },
  { f := PRF_CNT_BUSY.COUNT },
  { f := PRF_DEV_LIMIT.DEV, acc := .rw },
  { f := PRF_PL_OWNER.DOMAIN, acc := .rw, gate := .player, hi := 16 },
  { f := PRF_PL_CTL.JUMP_SRC, acc := .rw },
  { f := PRF_PL_CTL.TRIG_SRC, acc := .rw },
  { f := PRF_PL_CTL.JUMP_SEG, acc := .rw },
  { f := PRF_PL_CTL.JUMP_SGF, acc := .rw },
  { f := PRF_PL_CTL.TRIG_SGF, acc := .rw },
  { f := PRF_PL_CMD.JUMP, acc := .wo, how := .own },
  { f := PRF_PL_CMD.TRIG, acc := .wo, how := .own },
  { f := PRF_PL_RATE.COHERENT, acc := .wo, how := .own },
  { f := PRF_PL_RATE.INC, acc := .rw, how := .own },
  { f := PRF_PL_STATUS.SEG },
  { f := PRF_PL_STATUS.FETCH_ERR }]

@[inherit_doc regRows0] def regRows7 : List RegRow := [
  { f := PRF_PL_STATUS.JUMP_OVERRUN, acc := .w1c },
  { f := PRF_PL_STATUS.JUMP_PENDING },
  { f := PRF_PL_STATUS.TRIG_OVERRUN, acc := .w1c },
  { f := PRF_PL_STATUS.TRIG_PENDING },
  { f := PRF_PL_STATUS.UNDERRUN, acc := .w1c },
  { f := PRF_PL_STATUS.STARVED },
  { f := PRF_PL_STATUS.WAITING },
  { f := PRF_PL_STATUS.OPEN },
  { f := PRF_PL_PASS.PASS },
  { f := PRF_PL_POS.POS },
  { f := PRF_PL_FILL.FILL },
  { f := PRF_PL_MISSED.COUNT },
  { f := PRF_PL_UNDERRUNS.COUNT },
  { f := PRF_PL_CODE.CHANNEL },
  { f := PRF_PL_CODE.CODE },
  { f := CAL_CTL.AXMODE, acc := .rw, gate := .cal },
  { f := CAL_CTL.AUTO, acc := .rw },
  { f := CAL_CTL.ENABLE, acc := .rw, how := .own },
  { f := CAL_STATUS.TRIM_LIMIT, acc := .w1c },
  { f := CAL_STATUS.ALMANAC_ERR, acc := .w1c },
  { f := CAL_STATUS.FLASH_ERR, acc := .w1c },
  { f := CAL_STATUS.OVERRUN, acc := .w1c },
  { f := CAL_STATUS.DUSK_WAIT },
  { f := CAL_STATUS.BUSY },
  { f := CAL_STATUS.CFG_REJECT, acc := .w1c },
  { f := CAL_DELTA.DELTA, acc := .rw, lo := 10, hi := 2000 },
  { f := CAL_COUNT.COUNT },
  { f := CAL_SKIP.COUNT },
  { f := CAL_UNSAVED.COUNT },
  { f := CAL_LAST_TIME_LO.TICKS },
  { f := CAL_LAST_TIME_HI.TICKS },
  { f := CAL_UNCAL.COUNT },
  { f := CAL_WEAR.TRAVERSALS },
  { f := CAL_LOG_HEAD.HEAD },
  { f := CAL_PENDING.PENDING },
  { f := CAL_ZONE.PENDING },
  { f := CAL_ZONE.RUNNING },
  { f := CAL_ZONE.REF },
  { f := CAL_TEMP.VALID },
  { f := CAL_TEMP.SENSOR_BAD },
  { f := CAL_TEMP.TEMP },
  { f := MER_CTL.PPS_IN_EN, acc := .rw },
  { f := MER_CTL.CLK10_EN, acc := .rw, how := .clk10 },
  { f := MER_CTL.PPS_OUT_EN, acc := .rw, how := .ppsOut },
  { f := MER_STATUS.PPS_OVERRUN, acc := .w1c },
  { f := MER_STATUS.STEPPED, acc := .w1c },
  { f := MER_STATUS.REFCLK_BAD },
  { f := MER_STATUS.HOLDOVER },
  { f := MER_STATUS.SLEWING },
  { f := MER_STATUS.STEP_PENDING }]

@[inherit_doc regRows0] def regRows8 : List RegRow := [
  { f := MER_STATUS.SET },
  { f := MER_STATUS.CFG_REJECT, acc := .w1c },
  { f := MER_INCR_LO.INCR, acc := .rw },
  { f := MER_INCR_HI.INCR, acc := .rw, how := .own },
  { f := MER_SLEW.AMOUNT, acc := .rw, how := .own },
  { f := MER_SLEW_CFG.PPM, acc := .rw, lo := 1, hi := 500, how := .slew },
  { f := MER_STEP_LO.STEP, acc := .rw },
  { f := MER_STEP_HI.STEP, acc := .rw, how := .own },
  { f := MER_SET_NS.NS, acc := .rw, hi := 999999999 },
  { f := MER_SET_SEC_LO.SEC, acc := .rw },
  { f := MER_SET_SEC_HI.SEC, acc := .rw, how := .own },
  { f := MER_TIME_W0.NS },
  { f := MER_TIME_W1.SEC_FRAC },
  { f := MER_TIME_W2.SEC },
  { f := MER_TICKS_LO.TICKS },
  { f := MER_TICKS_HI.TICKS },
  { f := MER_SERVO_TMO.MS, acc := .rw, how := .servo },
  { f := MER_LAST_STEP_LO.STEP },
  { f := MER_LAST_STEP_HI.STEP },
  { f := MER_CNT_STEP.COUNT },
  { f := MER_PPS_OUT_CFG.WIDTH, acc := .rw, lo := 1, hi := 900 },
  { f := MER_PPS_OUT_OFS.OFS, acc := .rw },
  { f := MER_PPS_IN_DLY.DLY, acc := .rw },
  { f := MER_PPSIN_W0.NS },
  { f := MER_PPSIN_W1.X },
  { f := MER_PPSIN_W2.X },
  { f := MER_PPSIN_STATUS.POP, acc := .wo, how := .own },
  { f := MER_PPSIN_STATUS.COUNT },
  { f := MER_PPS_GLITCH.COUNT },
  { f := MER_PORT_CFG.RX_ALL, acc := .rw },
  { f := MER_PORT_CFG.AN, acc := .rw, gate := .port },
  { f := MER_PORT_CFG.MODE, acc := .rw, gate := .port },
  { f := MER_PORT_CFG.ENABLE, acc := .rw, how := .portEn },
  { f := MER_PORT_STATUS.SYNC_LOST },
  { f := MER_PORT_STATUS.PATH },
  { f := MER_PORT_STATUS.OWNER },
  { f := MER_PORT_STATUS.LINK },
  { f := MER_PORT_MAC_LO.MAC, acc := .rw, gate := .port },
  { f := MER_PORT_MAC_HI.MAC, acc := .rw, gate := .port },
  { f := MER_PORT_ASYM.ASYM, acc := .rw },
  { f := MER_PORT_TXDLY.TXDLY, acc := .rw },
  { f := MER_PORT_RXDLY.RXDLY, acc := .rw },
  { f := MER_PORT_SYNC_CFG.SYNC_TMO, acc := .rw, how := .sync },
  { f := MER_PORT_SYNC_CFG.DOMAIN, acc := .rw, how := .sync },
  { f := MER_RX_HEAD.HEAD },
  { f := MER_RX_TAIL.TAIL, acc := .rw },
  { f := MER_RX_DROP.COUNT },
  { f := MER_RX_FILTERED.COUNT },
  { f := MER_TX_CMD.LENGTH, acc := .wo, how := .own },
  { f := MER_TX_CMD.MODE, acc := .wo, hi := 2, how := .own }]

@[inherit_doc regRows0] def regRows9 : List RegRow := [
  { f := MER_TX_CMD.SLOT, acc := .wo, how := .own },
  { f := MER_TX_STATUS.STATE },
  { f := MER_TX_CNT.COUNT },
  { f := SAF_CTL.FIRST_CLR, acc := .wo, how := .own },
  { f := SAF_CTL.SW_ECLIPSE, acc := .rw, how := .own },
  { f := SAF_CTL.INJ_EN, acc := .rw },
  { f := SAF_STATUS.STATE },
  { f := SAF_STATUS.SAFE_N_REQ },
  { f := SAF_STATUS.CONSEQ },
  { f := SAF_STATUS.REAPPLY },
  { f := SAF_STATUS.GLOBAL_ECLIPSE },
  { f := SAF_STATUS.PAIR_FAULT },
  { f := SAF_STATUS.HIST_FULL },
  { f := SAF_STATUS.INJ_REFUSED, acc := .w1c },
  { f := SAF_STATUS.CLR_REFUSED, acc := .w1c },
  { f := SAF_STATUS.CFG_REJECT, acc := .w1c },
  { f := SAF_CONSEQ_WIN.FRAMES, acc := .rw, lo := 1, hi := 2000 },
  { f := SAF_VEC.VECTOR, acc := .rw },
  { f := SAF_CLR.ALL, acc := .wo, how := .own },
  { f := SAF_CLR.SOURCE, acc := .wo, how := .own },
  { f := SAF_INJECT.INFO, acc := .wo, how := .own },
  { f := SAF_INJECT.MODE, acc := .wo, how := .own },
  { f := SAF_INJECT.SOURCE, acc := .wo, how := .own },
  { f := SAF_HIST_STATUS.COUNT },
  { f := SAF_HIST_OVF.COUNT },
  { f := SAF_HIST_W0.ENTRY },
  { f := SAF_HIST_W1.ENTRY },
  { f := SAF_HIST_W2.ENTRY },
  { f := SAF_HIST_W3.ENTRY },
  { f := SAF_HIST_POP.POP, acc := .wo, how := .own },
  { f := SAF_FIRST_W0.ENTRY },
  { f := SAF_FIRST_W1.ENTRY },
  { f := SAF_FIRST_W2.ENTRY },
  { f := SAF_FIRST_W3.ENTRY },
  { f := SAF_CNT_ECLIPSE.COUNT },
  { f := SAF_CNT_REAPPLY.COUNT },
  { f := SAF_SEQ.SEQ },
  { f := LKS_CTL.RESOLVE_WIN, acc := .rw, lo := 2, hi := 8 },
  { f := LKS_CTL.CMP_EN, acc := .rw },
  { f := LKS_CMD.DIE, acc := .wo, how := .own },
  { f := LKS_CMD.OP, acc := .wo, hi := 4, how := .own },
  { f := LKS_CMD_STATUS.BUSY },
  { f := LKS_CMD_STATUS.STATUS },
  { f := LKS_STATUS.PEER_ROLE },
  { f := LKS_STATUS.ROLE },
  { f := LKS_STATUS.DIE_LINK },
  { f := LKS_STATUS.RESYNC },
  { f := LKS_STATUS.LAGGING },
  { f := LKS_STATUS.HOLD },
  { f := LKS_STATUS.SELFCHECK }]

@[inherit_doc regRows0] def regRows10 : List RegRow := [
  { f := LKS_STATUS.CFG_REJECT, acc := .w1c },
  { f := LKS_TIMELINE.FRAME },
  { f := LKS_TILE_HOLD.FOLLOW_B },
  { f := LKS_TILE_HOLD.FROZEN },
  { f := LKS_MISMATCH.VALID, acc := .w1c, how := (.empties 4) },
  { f := LKS_MISMATCH.TILE },
  { f := LKS_MISMATCH.KIND },
  { f := LKS_MISMATCH.CHANNEL },
  { f := LKS_MISMATCH_FRAME.FRAME },
  { f := LKS_LAST_FO.TWILIGHT },
  { f := LKS_LAST_FO.GAP },
  { f := LKS_LAST_FO.TO },
  { f := LKS_LAST_FO.FROM },
  { f := LKS_LAST_FO.TRIGGER },
  { f := LKS_LAST_FO_LO.TICKS },
  { f := LKS_LAST_FO_HI.TICKS },
  { f := LKS_CNT_FAILOVER.COUNT },
  { f := LKS_CNT_MISMATCH.COUNT },
  { f := LKS_CNT_HB_MISS.COUNT },
  { f := LKS_CNT_HOLD.COUNT },
  { f := LKS_VEC.VECTOR, acc := .rw },
  { f := MEM_CTL.REMAP_EN, acc := .rw },
  { f := MEM_STATUS.REMAP_FULL },
  { f := MEM_STATUS.SCRUB_BUSY },
  { f := MEM_STATUS.SELFTEST_OK },
  { f := MEM_STATUS.CFG_REJECT, acc := .w1c },
  { f := MEM_SELFTEST.PASS },
  { f := MEM_UNCORR_LAST.GROUP },
  { f := MEM_UNCORR_LAST.TILE },
  { f := MEM_UNCORR_LAST.ADDR },
  { f := MEM_UNCORR_CNT.COUNT },
  { f := MEM_PERSIST_OVF.COUNT },
  { f := MEM_REMAP_USED.ROWS },
  { f := MEM_BKT_CFG.LEAK_MS, acc := .rw, lo := 1 },
  { f := MEM_BKT_CFG.CAP, acc := .rw, lo := 1 },
  { f := MEM_BKT_LEVEL.TOTAL },
  { f := MEM_BKT_LEVEL.LEVEL },
  { f := MEM_PERSIST_W0.VALID, acc := .w1c, how := (.empties 12) },
  { f := MEM_PERSIST_W0.REMAP },
  { f := MEM_PERSIST_W0.GROUP },
  { f := MEM_PERSIST_W0.TILE },
  { f := MEM_PERSIST_W0.ADDR },
  { f := MEM_PERSIST_W1.TICKS },
  { f := MEM_PERSIST_W2.TICKS },
  { f := SGF_STATUS.DENY, acc := .w1c },
  { f := SGF_STATUS.LOOP_ANY },
  { f := SGF_STATUS.CFG_REJECT, acc := .w1c },
  { f := SGF_VEC.VECTOR, acc := .rw },
  { f := SGF_SWEV.FIRE, acc := .wo, how := .own },
  { f := SGF_WATCH.WATCH, acc := .w1c }]

@[inherit_doc regRows0] def regRows11 : List RegRow := [
  { f := SGF_WATCH_EN.EN, acc := .rw },
  { f := SGF_LOOP_OFF.OFF, acc := .w1c, how := .own },
  { f := SGF_LOOP_FIRST.VALID, acc := .w1c, how := (.empties 4) },
  { f := SGF_LOOP_FIRST.CHANNEL },
  { f := SGF_CNT_SUPPRESS.COUNT },
  { f := SGF_CNT_COINCIDE.COUNT },
  { f := SGF_CNT_DENY.COUNT },
  { f := SGF_CNT_CONSOVR.COUNT },
  { f := SGF_CNT_DROP.COUNT },
  { f := SGF_TMR_CTL.TIME_ERR, acc := .w1c },
  { f := SGF_TMR_CTL.LATE, acc := .w1c },
  { f := SGF_TMR_CTL.ARMED },
  { f := SGF_TMR_CTL.PERIODIC, acc := .rw },
  { f := SGF_TMR_CTL.EN, acc := .rw, how := .timer },
  { f := SGF_TMR_TIME_LO.TICKS, acc := .rw },
  { f := SGF_TMR_TIME_HI.TICKS, acc := .rw, how := .own },
  { f := SGF_TMR_PERIOD.FRAMES, acc := .rw, lo := 40, hi := 20000000, how := .bound },
  { f := BMX_STATUS.ERR, acc := .w1c },
  { f := BMX_STATUS.CFG_REJECT, acc := .w1c },
  { f := BMX_ERR_INFO.VALID, acc := .w1c, how := (.empties 4) },
  { f := BMX_ERR_INFO.WRITE },
  { f := BMX_ERR_INFO.MASTER },
  { f := BMX_ERR_ADDR.ADDR },
  { f := BMX_CNT_ERR.COUNT },
  { f := BMX_CNT_PF_WAIT.COUNT },
  { f := BMX_QOS.SCRUB, acc := .rw },
  { f := BMX_QOS.TELEM, acc := .rw },
  { f := BMX_QOS.CAL, acc := .rw },
  { f := BMX_QOS.HOST, acc := .rw },
  { f := BMX_PRIO_LO.PRIO, acc := .rw },
  { f := BMX_PRIO_HI.SUPV, acc := .rw },
  { f := BMX_PRIO_HI.TONE, acc := .rw },
  { f := BMX_PRIO_HI.PRF, acc := .rw },
  { f := BMX_PRIO_HI.PLN, acc := .rw },
  { f := BMX_TGT_STAT.MAX_BULK_WAIT },
  { f := SEC_CTL.DBG_RELOCK, acc := .wo, how := .own },
  { f := SEC_STATUS.DBG_LEVEL },
  { f := SEC_STATUS.DBG_LOCKOUT },
  { f := SEC_STATUS.FW_BUSY },
  { f := SEC_STATUS.KEY_BUSY },
  { f := SEC_STATUS.ERASED },
  { f := SEC_STATUS.ALARM },
  { f := SEC_STATUS.CFG_REJECT, acc := .w1c },
  { f := SEC_ALARM_CFG.LOCK, acc := .w1s, how := .own },
  { f := SEC_ALARM_CFG.ERASE, acc := .rw, how := .alarm },
  { f := SEC_ALARM_CFG.EN, acc := .rw, how := .alarm },
  { f := SEC_TAMPER_STATUS.LIVE },
  { f := SEC_TAMPER_STATUS.LATCHED, acc := .w1c, how := .tamper },
  { f := SEC_KEY_CMD.OP, acc := .wo, how := .own },
  { f := SEC_KEY_CMD.SLOT, acc := .wo, how := .own }]

@[inherit_doc regRows0] def regRows12 : List RegRow := [
  { f := SEC_KEY_STATUS.LOADED },
  { f := SEC_KEY_W.KEY, acc := .wo },
  { f := SEC_KEY_KCV.KCV },
  { f := SEC_FW_STATUS.MINVER },
  { f := SEC_FW_STATUS.VERSION },
  { f := SEC_FW_STATUS.SLOT1_VALID },
  { f := SEC_FW_STATUS.SLOT0_VALID },
  { f := SEC_FW_STATUS.BOOT_SLOT },
  { f := SEC_FW_ADDR_LO.ADDR, acc := .rw, how := .aligned },
  { f := SEC_FW_ADDR_HI.ADDR, acc := .rw },
  { f := SEC_FW_LEN.LEN, acc := .rw, lo := 513, hi := 1048576 },
  { f := SEC_FW_CMD.OP, acc := .wo, how := .own },
  { f := SEC_FW_RESULT.RESULT },
  { f := SEC_DBG_CHAL_W.NONCE },
  { f := SEC_DBG_RESP_W.RESP, acc := .wo },
  { f := SEC_DBG_CMD.LEVEL, acc := .wo, how := .own },
  { f := SEC_CNT_ERASE.COUNT },
  { f := SEC_DBG_FAIL.COUNT },
  { f := PMC_CTL.CLEAR, acc := .wo, how := .own },
  { f := PMC_CTL.FREEZE, acc := .rw, how := .freeze },
  { f := PMC_STATUS.CFG_REJECT, acc := .w1c },
  { f := PMC_VEC.VECTOR, acc := .rw },
  { f := PMC_OVF_SUM_LO.CORES },
  { f := PMC_OVF_SUM_HI.CORES },
  { f := PMC_ACCESS.SAMPLE, acc := .rw },
  { f := PMC_ACCESS.SNAP, acc := .rw },
  { f := PMC_ACCESS.RDPC, acc := .rw },
  { f := PMC_CYC_LO.CYC },
  { f := PMC_CYC_HI.CYC },
  { f := PMC_CNT.COUNT, acc := .rw, how := .count },
  { f := PMC_EVSEL.EN, acc := .rw, how := .count },
  { f := PMC_EVSEL.EDGE, acc := .rw, how := .count },
  { f := PMC_EVSEL.CHAIN, acc := .rw, how := .chain },
  { f := PMC_EVSEL.IRQ, acc := .rw, how := .count },
  { f := PMC_EVSEL.CLASS_MASK, acc := .rw, how := .count },
  { f := PMC_EVSEL.EVENT, acc := .rw, how := .event },
  { f := PMC_OVF.OVF, acc := .w1c, how := .ovf },
  { f := PMC_SMP_CFG.EN, acc := .rw },
  { f := PMC_SMP_CFG.WRAP, acc := .rw },
  { f := PMC_SMP_CFG.KIND, acc := .rw, hi := 2 },
  { f := PMC_SMP_CFG.CORES, acc := .rw },
  { f := PMC_SMP_CFG.INTERVAL, acc := .rw },
  { f := PMC_SMP_STATUS.COUNT },
  { f := PMC_SMP_STATUS.HEAD },
  { f := PMC_SMP_POP.POP, acc := .wo, how := .own },
  { f := PMC_SMP_LOST.COUNT },
  { f := PMC_SMP_W0.ENTRY },
  { f := PMC_SMP_W1.ENTRY },
  { f := PMC_SMP_W2.ENTRY },
  { f := PMC_SMP_W3.ENTRY }]

@[inherit_doc regRows0] def regRows13 : List RegRow := [
  { f := PWR_CTL.EXIT_ON_FAULT, acc := .rw },
  { f := PWR_CTL.DUSK_REQ, acc := .rw, how := .own },
  { f := PWR_STATUS.FAIL_STEP },
  { f := PWR_STATUS.DAWN_STEP },
  { f := PWR_STATUS.PMB_ERR, acc := .w1c },
  { f := PWR_STATUS.LOSS_HIGH, acc := .w1c },
  { f := PWR_STATUS.ARMED },
  { f := PWR_STATUS.VHV_RAMP },
  { f := PWR_STATUS.VHV_GOOD },
  { f := PWR_STATUS.DUSK },
  { f := PWR_STATUS.CFG_REJECT, acc := .w1c },
  { f := PWR_ARM.KEY, acc := .wo, how := .own },
  { f := PWR_ARM.OP, acc := .wo, how := .own },
  { f := PWR_ARM_STATUS.REFUSED },
  { f := PWR_VHV_SET.MV, acc := .rw, how := .own },
  { f := PWR_VHV_RAMP.MS, acc := .rw, lo := 1, hi := 100 },
  { f := PWR_VHV_MEAS.MV },
  { f := PWR_LOSS.MW },
  { f := PWR_LOSS_CAP.MW, acc := .rw },
  { f := PWR_VEC.VECTOR, acc := .rw },
  { f := PWR_DAWN_TIME.US },
  { f := PWR_RESET_CAUSE.CAUSE },
  { f := PWR_CNT_RST.COUNT },
  { f := PWR_SEQ_CMD.KEY, acc := .wo, how := .own },
  { f := PWR_SEQ_CMD.SHUTDOWN, acc := .wo, how := .own },
  { f := PWR_PMB_STATUS.VALID, acc := .w1c },
  { f := PWR_PMB_STATUS.CMD },
  { f := PWR_PMB_STATUS.ADDR },
  { f := PWR_CNT_DUSK.COUNT },
  { f := PWR_DAWN_STEP.US },
  { f := PWR_RAIL.GOOD },
  { f := PWR_RAIL.IOUT },
  { f := PWR_RAIL.VOUT },
  { f := PWR_CLK_GATED.GATED },
  { f := PWR_CLK_LOCK.LOCK },
  { f := PWR_CNT_WAKE.COUNT },
  { f := HPT_TQ_BASE_LO.BASE, acc := .rw, gate := .tq },
  { f := HPT_TQ_BASE_HI.BASE, acc := .rw, gate := .tq },
  { f := HPT_TQ_CFG.VECTOR, acc := .rw },
  { f := HPT_TQ_CFG.SIZE_LOG2, acc := .rw, gate := .tq, lo := 4, hi := 16 },
  { f := HPT_TQ_CFG.ENABLE, acc := .rw, how := .own },
  { f := HPT_TQ_COAL.COAL_TIME, acc := .rw },
  { f := HPT_TQ_COAL.COAL_COUNT, acc := .rw },
  { f := HPT_TQ_TAIL.PHASE },
  { f := HPT_TQ_TAIL.TAIL },
  { f := HPT_TQ_HEAD.HEAD },
  { f := HPT_TQ_SEQ.SEQ },
  { f := HPT_TQ_STATUS.DB_RANGE, acc := .w1c },
  { f := HPT_TQ_LOST.COUNT },
  { f := ORB_ORBIT_BASE_LO.BASE }]

@[inherit_doc regRows0] def regRows14 : List RegRow := [
  { f := ORB_ORBIT_BASE_HI.BASE },
  { f := ORB_ORBIT_CYCLE.L },
  { f := ORB_ORBIT_CYCLES.COUNT },
  { f := ORB_CNT_LATE.COUNT },
  { f := ORB_CNT_SKIP.COUNT },
  { f := ORB_CNT_VFAIL.COUNT },
  { f := ORB_ORBIT_LATENESS.FRAMES },
  { f := SAF_LATCHED.BITS },
  { f := SAF_CAUSE.BITS },
  { f := SAF_PORT_ESC.BITS }]

/-- The fields of the register map. -/
def regRows : List RegRow :=
  regRows0 ++ regRows1 ++ regRows2 ++ regRows3 ++ regRows4 ++ regRows5 ++
    regRows6 ++ regRows7 ++ regRows8 ++ regRows9 ++ regRows10 ++ regRows11 ++
    regRows12 ++ regRows13 ++ regRows14

end Sys2Proof
end

