-- ==== Sys2Proof/Machine/TimeStep.lean ====
section
/-! DEFINITION. Steps of Meridian time (R322, R323): the clock moves, everything that counts frames by itself moves with it,
and every scheduled time is taken up anew. -/
namespace Sys2Proof.Machine

/-- The frames that Meridian time has: 2^48 seconds (R318). -/
def allFrames : Nat := 2 ^ 48 * Config.framesPerSec

/-- A frame kept plus 1, moved by a step; 0 stands for none. -/
def moveMark (d : Int) (x : Nat) : Nat := if x = 0 then 0 else max 1 (moveFrame d x)

/-- A list of frames kept plus 1, moved by a step. -/
def moveMarks (d : Int) (l : List (Nat × Nat)) : List (Nat × Nat) := l.map fun c => (c.1, moveMark d c.2)

/-- The work of the tiles, monitors and detectors that counts frames moves with the clock. -/
def State.moveTiles (s : State) (d : Int) : State :=
  let code (w : CodeWrite) : CodeWrite := { w with apply := moveFrame d w.apply, taken := moveMark d w.taken }
  let cal (c : SysCal) : SysCal := { c with start := moveFrame d c.start, since := moveFrame d c.since }
  { s with
    hpt := { s.hpt with sig := s.hpt.sig.map fun g => (g.1, { g.2 with since := moveFrame d g.2.since }) }
    pln := { s.pln with crossingDue := s.pln.crossingDue.map (moveFrame d) }
    drv := { s.drv with
      down := s.drv.down.map code
      queue := s.drv.queue.map code
      acc := s.drv.acc.map fun c => if c.1 % 2 = 1 then (c.1, moveMark d c.2) else c
      formed := moveMarks d s.drv.formed
      trippedAt := moveMarks d s.drv.trippedAt
      changedAt := moveMarks d s.drv.changedAt
      changeDue := moveMarks d s.drv.changeDue
      retestDue := moveMarks d s.drv.retestDue
      lastValid := moveMarks d s.drv.lastValid
      twilightEnd := moveMarks d s.drv.twilightEnd
      frozenAt := moveMarks d s.drv.frozenAt
      lowAt := moveMarks d s.drv.lowAt
      backAt := moveMarks d s.drv.backAt
      foldAt := moveMarks d s.drv.foldAt
      visitAt := moveMarks d s.drv.visitAt }
    mon := { s.mon with
      rangeAt := moveMarks d s.mon.rangeAt
      slotAt := moveMarks d s.mon.slotAt
      blocks := s.mon.blocks.map fun b => { b with after := moveFrame d b.after }
      cal := s.mon.cal.map cal
      calNext := s.mon.calNext.map cal
      fill := s.mon.fill.map fun b => { b with hitAt := moveFrame d b.hitAt }
      condSince := moveMarks d s.mon.condSince
      armAt := moveMarks d s.mon.armAt
      lossAt := moveMarks d s.mon.lossAt }
    samples := [] }

/-- The work of the dies that counts frames moves with the clock. -/
def State.moveDies (s : State) (d : Int) : State :=
  { s with
    lpa := { s.lpa with
      resume := s.lpa.resume.map fun r => { r with after := moveFrame d r.after }
      resumeCtx := s.lpa.resumeCtx.map fun r => (r.1, moveFrame d r.2)
      changes := s.lpa.changes.map fun r => { r with after := moveFrame d r.after }
      images := s.lpa.images.map fun i => (i.1, { i.2 with frame := moveFrame d i.2.frame })
      since := moveMarks d s.lpa.since
      waitAt := moveMarks d s.lpa.waitAt
      begun := s.lpa.begun.map fun r => (r.1, moveFrame d r.2) }
    pmc := { s.pmc with since := moveMarks d s.pmc.since, at_ := moveMarks d s.pmc.at_ }
    prf := { s.prf with players := s.prf.players.map fun p => if !p.started then p else
      { p with next := moveFrame d p.next, go := moveMark d p.go, fetchAt := moveFrame d p.fetchAt } }
    cal := { s.cal with
      zoneAt := moveMarks d s.cal.zoneAt
      due := moveMarks d s.cal.due
      meas := s.cal.meas.map fun m => { m with start := moveFrame d m.start }
      sweep := s.cal.sweep.map fun w => { w with c := w.c.map (moveFrame d) } }
    mer := { s.mer with
      slewAt := moveFrame d s.mer.slewAt, servoAt := moveFrame d s.mer.servoAt, syncAt := moveMarks d s.mer.syncAt, ppsNext := 0
      ppsHigh := s.mer.ppsHigh.map fun p => (moveFrame d p.1, moveFrame d p.2)
      clkFrom := s.mer.clkFrom.map (moveFrame d), clkTo := s.mer.clkTo.map (moveFrame d) }
    sec := { s.sec with keyAt := moveMark d s.sec.keyAt, eraseAt := moveMark d s.sec.eraseAt }
    saf := { s.saf with
      raised := s.saf.raised.map fun o => { o with at_ := moveFrame d o.at_ }
      windows := s.saf.windows.map fun w => { w with first := moveFrame d w.first, last := moveFrame d w.last }
      resets := s.saf.resets.map fun r => (r.1, moveFrame d r.2)
      injAt := moveMarks d s.saf.injAt }
    lks := { s.lks with
      pending := s.lks.pending.map fun p => if p.op = 0 then { p with arg := moveFrame d p.arg } else p
      mismatch := s.lks.mismatch.map fun m => (moveFrame d m.1, m.2)
      missAt := moveMarks d s.lks.missAt
      upBad := moveMarks d s.lks.upBad }
    mig := { s.mig with
      tracks := s.mig.tracks.map fun t => { t with times := t.times.map (moveFrame d) }
      copies := s.mig.copies.map fun c => (c.1, moveFrame d c.2)
      leakAt := moveMarks d s.mig.leakAt
      scrub := s.mig.scrub.map fun c => { c with due := moveFrame d c.due } }
    sgf := { s.sgf with rearm := moveMarks d s.sgf.rearm, fired := moveMarks d s.sgf.fired, backAt := moveMarks d s.sgf.backAt }
    pwr := { s.pwr with
      rampEnd := s.pwr.rampEnd.map (moveFrame d)
      lowAt := moveMarks d s.pwr.lowAt
      arm := s.pwr.arm.map fun a => (a.1, moveFrame d a.2)
      clocks := moveMarks d s.pwr.clocks }
    marks := moveMarks d s.marks }

/-- Every period of the loops ends: queued jobs, running results and unsent outputs go, and are counted (R229). -/
def State.endPeriods (s : State) : State :=
  let mine (r : Run) : Bool := r.job.die == s.active
  let n := (s.lpa.jobs.filter fun j => j.die == s.active).length + (s.lpa.runs.filter mine).length +
    (s.lpa.ended.filter fun r => mine r && r.pc != 0xFFFF).length + s.lpa.outs.length
  let s1 := s.bump LPA_CNT_DISCARD.COUNT n
  { s1 with lpa := { s1.lpa with
    jobs := [], runs := [], ended := [], outs := [], skipped := [], pubs := [] } }

/-- A generator's next update is at the first frame of its residue under the new time (R275); one that has made its last
waits out its time. -/
def State.stepGens (s : State) (d : Int) : State :=
  { s with prf := { s.prf with gens := s.prf.gens.map fun g =>
    { g with f0 := if g.last < g.u then moveFrame d g.f0 else nextAt s.now 32 (g.ch % 32) } } }

/-- Timed commits, and an Orbit start that waits, whose time is now out of range (R323). -/
def State.stepRequests (s : State) : State :=
  let far (r : Req) : Bool := match r.origin, r.time with | .host _, some t => s.timeOut t | _, _ => false
  let s1 := s.cancel far stTimeRange
  match s1.orb.start, s1.orb.base with
  | some st, some b => if !st.now && !st.join && s1.timeOut (ticksOf b) then s1.cancelStart stTimeRange else s1
  | _, _ => s1

/-- A stream that has not started takes its start time anew (R290, R323). -/
def State.stepStream (s : State) (d : Int) (p : Player) : State :=
  if p.started then s
  else
    match s.desc p.desc with
    | none => s
    | some x =>
      let t := x.fld 24 8
      let put (start : Nat) (late : Option Nat) : State :=
        { s with prf := { s.prf with players := s.prf.players.map fun q =>
          if q.num = p.num then { q with start := start, next := start, late := late } else q } }
      if bit (x.fld 9 1) 0 then put (moveFrame d p.start) p.late
      else if s.timeOut t then s.stopPlayer p stTimeRange
      else if tickDiff t s.ticks < 0 then
        if x.strict then s.stopPlayer p stLateReject else put s.now (some (lateResult (tickDiff s.ticks t).toNat))
      else put (s.frameAt t) none

/-- A COUNTER_SNAP that waits takes its time anew (R323, R462). -/
def State.stepSnap (s : State) (d : Int) (x : Nat × Nat) : State :=
  let rest := s.pmc.snaps.filter fun y => y.1 != x.1
  let put (f : Nat) : State := { s with pmc := { s.pmc with snaps := s.pmc.snaps.map fun y => if y.1 = x.1 then (y.1, f) else y } }
  let gone : State := { s with pmc := { s.pmc with snaps := rest } }
  match s.desc x.1 with
  | none => put (moveFrame d x.2)
  | some q =>
    if snapFlag q 2 then put (moveFrame d x.2)
    else if s.timeOut (q.fld 16 8) then gone.done q stTimeRange
    else if q.strict && decide (tickDiff (q.fld 16 8) s.ticks < 0) then gone.done q stLateReject
    else put (s.snapFrame q)

/-- The time trigger of a tile's capture is taken anew (R190, R323). -/
def State.stepCapture (s : State) (t : Nat) : State :=
  match nget s.mon.capTime t with
  | 0 => s
  | f + 1 =>
    let none_ : State := { s with mon := { s.mon with capTime := nset s.mon.capTime t 0 } }
    if s.timeOut (ticksOf f) then none_.wr MON_CAP_STATUS.TIME_ERR 1 t
    else if tickDiff (ticksOf f) s.ticks < 0 then (none_.wr MON_CAP_STATUS.LATE 1 t).capTrigger t s.now
    else { s with mon := { s.mon with capTime := nset s.mon.capTime t (s.frameAt (ticksOf f) + 1) } }

/-- An armed timer's time is taken anew (R422, R323). -/
def State.stepTimer (s : State) (j : Nat) : State :=
  match nget s.sgf.timers j with
  | 0 => s
  | f + 1 =>
    if s.timeOut (ticksOf f) then (s.wr SGF_TMR_CTL.TIME_ERR 1 j).setTimer j none
    else s.takeTimer j (s.frameAt (ticksOf f))

/-- A step of Meridian time (R323): the current frame takes the number `f`. `amount` is its amount in ticks. -/
def State.stepTime (s : State) (f : Nat) (amount : Int) : State :=
  let d : Int := (f : Int) - s.now
  let s1 := (s.abandonWindows f).endPeriods
  let s2 := (({ s1 with now := f } : State).moveTiles d).moveDies d
  let s3 := ((s2.stepGens d).orbitStep d).stepRequests
  let s4 := s3.prf.players.foldl (fun t p => t.stepStream d p) s3
  let s5 := s4.pmc.snaps.foldl (fun t x => t.stepSnap d x) s4
  let s6 := (List.range 8).foldl State.stepCapture s5
  let s7 := ((List.range 64).foldl State.stepTimer s6).zeroMs fun _ => true
  ((((((s7.wr MER_STATUS.SET 1).wr MER_STATUS.STEPPED 1).bump MER_CNT_STEP.COUNT).wr MER_LAST_STEP_LO.STEP
    (ofS 64 amount)).wr MER_LAST_STEP_HI.STEP (ofS 64 amount / 2 ^ 32))).occur 451

/-- What is armed leaves the Meridian Time Unit at its frame: the first fast-sample frame that begins at least 2 frames after
the arming write (R322). -/
def State.takeArm (s : State) (at_ : Nat) : State :=
  let s1 := (s.reach (fastAt (max s.now (at_ + 2)))).wr MER_STATUS.STEP_PENDING 0
  { s1 with mer := { s1.mer with arm := none } }

/-- TIME_STEP_APPLY (R322, R323): the whole part of an armed step moves the time, and the remainder is slewed. No commit cycle
is in progress. -/
def execTimeStepApply (s : State) : Host.Outcome State Fault Refusal :=
  .next <|
    match s.mer.arm with
    | some (.step a, at_) =>
      if s.pln.cycle.isSome then s
      else
        let whole := a.tdiv 51200 * 51200
        let s1 := s.takeArm at_
        let s2 := if a = whole then s1 else s1.setSlew (s1.slewLeft + (a - whole))
        if whole = 0 then s2
        else s2.stepTime (((s2.now : Int) + whole / 12800) % (allFrames : Nat)).toNat whole
    | _ => s

/-- TIME_SET_APPLY (R322, R323): the frame takes the time set, rounded down to a multiple of 200 ns. No commit cycle is in
progress. -/
def execTimeSetApply (s : State) : Host.Outcome State Fault Refusal :=
  .next <|
    match s.mer.arm with
    | some (.set sec ns, at_) =>
      if s.pln.cycle.isSome then s
      else
        let s1 := s.takeArm at_
        let f := sec * Config.framesPerSec + ns / 200 * 4
        s1.stepTime f (((f : Int) - s1.now) * Config.ticksPerFrame)
    | _ => s

end Sys2Proof.Machine
end

