-- ==== Sys2Proof/Machine/Tables.lean ====
section
/-! DEFINITION. The set-up table windows (R45): what a 32-bit read of a window word returns, what a 32-bit write to it does
field by field (R18, R211, R236, R261, R269, R278, R350, R424, R425), which entries a tenant may touch (R63), and TABLE_DMA
(R62 to R64). -/
namespace Sys2Proof.Machine

/-- The windows of R45: first offset, size, and whether the host may write. -/
def windows : List (Nat × Nat × Bool) :=
  [(elemBase, 0x20000, true), (fmapBase, 0x20000, true), (portBase, 0x8000, true), (storeBase, 0x100000, false),
   (orbitBase, 0x100000, false), (progBase, 0x100000, true), (ctxBase, 0x300000, true), (prfBase, 0x100000, true),
   (toneBase, 0x100000, true), (almBase, 0x100000, false), (faultBase, 0x100000, true), (sgfBase, 0x100000, true)]

/-- The window that an offset lies in. -/
def windowOf (addr : Nat) : Option (Nat × Nat × Bool) :=
  windows.find? fun w => decide (w.1 ≤ addr) && decide (addr < w.1 + w.2.1)

/-- An offset lies among the entries of a table. -/
def within (addr base len : Nat) : Bool := decide (base ≤ addr) && decide (addr < base + len)

/-! ### Reading a word -/

/-- A slot's word of the Route Plan Store: free slots read 0 (R94). -/
def State.storeWord (s : State) (o : Nat) : Nat :=
  match s.pln.plans.find? fun p => decide (p.base ≤ o / 8) && decide (o / 8 < p.base + planSlots p.bytes) with
  | some p => field p.bytes (o - 8 * p.base) 4
  | none => 0

/-- A word of an Orbit list entry (R127). -/
def orbitWord (l : List OrbitEnt) (o : Nat) : Nat :=
  match l[o / 8]? with
  | some e => if o % 8 = 0 then e.plan + 2 ^ 16 * b2n e.hold else e.dur
  | none => 0

/-- A word of the program store (R260): reserved bits of a directory entry read 0, and USERS is counted. -/
def State.progWord (s : State) (o : Nat) : Nat :=
  let v := s.load (progBase + o) 4
  if 0x10000 ≤ o then v
  else match o % 16 / 4 with
  | 0 => v % 2 ^ 18
  | 1 => v &&& 0x079F07FF
  | 2 => v % 2 ^ 24
  | _ => v / 2 ^ 16 * 2 ^ 16 + min (s.progUsers (o / 16)) 0xFFFF

/-- The updates of a generator that have been applied: the last one it sent applies 32 frames before its next (R267, R293). -/
def State.genDone (s : State) (g : Gen) : Nat := if g.f0 ≤ s.now + 32 then g.u else g.u - 1

/-- A word of a profile generator's entry (R293). -/
def State.genWord (s : State) (o : Nat) : Nat :=
  match s.prf.gens.find? fun g => g.num == o / 16 with
  | none => 0
  | some g =>
    let u := s.genDone g
    match o % 16 / 4 with
    | 0 => g.ch + 2 ^ 15 + 2 ^ 16 * (if u = 0 then 1 else if u ≤ g.hold then 2 else 3) + 2 ^ 24 * g.lset
    | 1 => g.x0 + 2 ^ 16 * g.goal
    | 2 => u
    | _ => g.last

/-- A word of the profile and stimulus window. Reserved bits of a segment read 0 (R278). -/
def State.prfWord (s : State) (o : Nat) : Nat :=
  let v := s.load (prfBase + o) 4
  if within o 0x10000 0x10000 then s.genWord (o - 0x10000)
  else if within o 0x20000 0x2000 then
    match o % 16 / 4 with
    | 0 => v &&& 0xFFFFFF07
    | 1 => v % 2 ^ 16
    | 2 => v % 2 ^ 24
    | _ => v % 2 ^ 25
  else v

/-- A word of the fault source table (R350): STATE shows the cause, the latch and what it holds. -/
def State.faultWord (s : State) (o : Nat) : Nat :=
  let n := o / 16
  let v := s.load (faultBase + o) 4
  if o % 16 / 4 ≠ 1 then v
  else match s.latchOf n with
    | none => v / 256 * 256 + b2n (s.causeNow n)
    | some l => v / 256 * 256 + b2n (s.causeNow n) + 2 + 4 * b2n (l.globe || l.pair || !l.ports.isEmpty)

/-- A word of the Signal Fabric's tables; a source's entry shows its owner (R424), a channel's count is of the current
millisecond (R425). -/
def State.sgfWord (s : State) (o : Nat) : Nat :=
  let v := s.load (sgfBase + o) 4
  let c := (o - 0x4000) / 16
  if o < 16 * 640 ∧ o % 16 = 0 ∧ srcListed (o / 16) then v % 2 ^ 16 + 2 ^ 16 * s.srcOwner (o / 16)
  else if 0x4000 ≤ o ∧ o % 16 = 12 ∧ nget s.sgf.msAt c ≠ s.msNow + 1 then v / 2 ^ 16 * 2 ^ 16
  else v

/-- The 32-bit word of a table window at an aligned BAR0 offset, as software reads it. -/
def State.windowWord (s : State) (addr : Nat) : Nat :=
  if within addr storeBase 0x100000 then s.storeWord (addr - storeBase)
  else if within addr orbitBase 0x1000 then orbitWord s.orb.active (addr - orbitBase)
  else if within addr (orbitBase + 0x1000) 0x1000 then orbitWord s.orb.shadow (addr - orbitBase - 0x1000)
  else if within addr progBase 0x100000 then s.progWord (addr - progBase)
  else if within addr ctxBase 0x300000 then field (s.ctxEntry ((addr - ctxBase) / 64)) (addr % 64) 4
  else if within addr prfBase 0x100000 then s.prfWord (addr - prfBase)
  else if within addr faultBase (16 * 384) then s.faultWord (addr - faultBase)
  else if within addr sgfBase 0x5000 then s.sgfWord (addr - sgfBase)
  else s.load addr 4

/-! ### Writing a word -/

/-- Each writer answers the state and what refused a field of the word (R9): 0 nothing, 1 the field's value or another rule, 2 the
field's class. -/
abbrev Wrote := State × Nat

/-- A state, with a refusal flagged by `rej` if there was one. -/
def Wrote.flag (w : Wrote) (rej : State → State) : Wrote := (if w.2 ≠ 0 then rej w.1 else w.1, w.2)

/-- A refused LPA or context field, and a refused field of the PRF, SAF and SGF tables. -/
def State.lpaReject (s : State) : State := s.wr LPA_STATUS.CFG_REJECT 1
@[inherit_doc State.lpaReject] def State.prfReject (s : State) : State := s.wr PRF_STATUS.CFG_REJECT 1
@[inherit_doc State.lpaReject] def State.safReject (s : State) : State := s.wr SAF_STATUS.CFG_REJECT 1
@[inherit_doc State.lpaReject] def State.sgfReject (s : State) : State := s.wr SGF_STATUS.CFG_REJECT 1

/-- A code word lies in a VALID program (R261). -/
def State.codeValid (s : State) (w : Nat) : Bool :=
  s.programs.any fun p => s.progValid p && decide (s.progStart p ≤ w) && decide (w < s.progStart p + s.progLen p)

/-- A word of the program store is written (R260, R261). Reserved bits of a directory entry take no value (R8), and the word can
be read again (R402). -/
def State.progStore (s : State) (o v : Nat) : Wrote :=
  let a := progBase + o
  if 0x10000 ≤ o then
    let w := (o - 0x10000) / 4
    if s.codeValid w then (s, 2) else ((s.unspoil fun x => x == 8192 + w / 2).store a 4 v, 0)
  else
    let t := s.unspoil fun x => x == o / 8
    match o % 16 / 4 with
    | 0 => if s.progValid (o / 16) then (s, 2) else (t.store a 4 (v % 2 ^ 18), 0)
    | 1 => if s.progValid (o / 16) then (s, 2) else (t.store a 3 (v &&& 0x9F07FF), 0)
    | 2 => if s.progValid (o / 16) then (s, 0) else (t.store (a + 3) 1 (v / 2 ^ 24), 0)
    | _ => (s, 0)

/-- A word of a loop context's entry is written (R236): PROG and MODE while the context is INACTIVE, INIT at once, the limits
of slot 0 for the channel's next combine, and K0 to K7 for the context's next release. MODE of a slot 0 without FOLLOW is refused
(R216, assumption 95). -/
def State.ctxStore (s : State) (x o v : Nat) : Wrote :=
  let a := ctxAddr x
  let host (l : List (Nat × Nat)) (f w : Nat) : List (Nat × Nat) := nset l (4 * (x / 3) + f) (w + 1)
  if o = 0 then
    if s.ctxState x ≠ 0 then (s, 2)
    else if x % 3 = 0 ∧ bit v 16 = false then (s.store a 2 (v % 4096), 1)
    else ((s.store a 2 (v % 4096)).store (a + 2) 1 (bits v 16 5), 0)
  else if o = 4 then (s.store (a + 6) 2 (v / 2 ^ 16), 0)
  else if o = 16 ∧ x % 3 = 0 then
    ({ s with lpa := { s.lpa with hostP := host (host s.lpa.hostP 0 (bits v 0 16)) 1 (bits v 16 16) } }, 0)
  else if o = 20 ∧ x % 3 = 0 then ({ s with lpa := { s.lpa with hostP := host s.lpa.hostP 2 (bits v 0 8) } }, 0)
  else if 24 ≤ o ∧ o < 56 then
    ({ s with lpa := { s.lpa with hostK := nset s.lpa.hostK (8 * x + (o - 24) / 4) (v % 2 ^ 32 + 1) } }, 0)
  else (s, 0)

/-- A word of a limit set is written (R269): values out of range are refused. -/
def State.limitStore (s : State) (a w v : Nat) : Wrote :=
  let half (t : State) (o x : Nat) : Wrote := if 1 ≤ x ∧ x ≤ 1024 then (t.store (a + o) 2 x, 0) else (t, 1)
  match w with
  | 0 => if v = 0 ∨ 256 ≤ v then (s.store a 4 v, 0) else (s, 1)
  | 1 =>
    let p := half s 0 (v % 2 ^ 16)
    let q := half p.1 2 (v / 2 ^ 16)
    (q.1, max p.2 q.2)
  | _ => (s, 0)

/-- A word of the profile and stimulus window is written: limit sets, segments and wave memory (R269, R278). -/
def State.prfStore (s : State) (o v : Nat) : Wrote :=
  if o < 0x1000 then s.limitStore (prfBase + o) (o % 16 / 4) v
  else if within o 0x20000 0x2000 then
    (match o % 16 / 4 with
    | 0 => s.store (prfBase + o) 4 (v &&& 0xFFFFFF07)
    | 1 => s.store (prfBase + o) 2 v
    | 2 => s.store (prfBase + o) 4 (v % 2 ^ 24)
    | _ => s.store (prfBase + o) 4 (v % 2 ^ 25), 0)
  else if within o 0x40000 0x40000 then (s.store (prfBase + o) 4 v, 0)
  else (s, 0)

/-- A word of a tone context's entry is written (R212): windows already begun keep ROT_TRIM and STRIDE as they were. -/
def State.toneStore (s : State) (c o v : Nat) : Wrote :=
  let a := toneAddr c
  if o = 20 then
    let old := s.load (a + 22) 1 + 256 * (s.load (a + 23) 1 % 2)
    let s1 := (s.store (a + 22) 1 (bits v 16 8)).store (a + 23) 1 (bits v 24 1)
    ({ s1 with ton := { s1.ton with trims := (c, s.now, old) :: s1.ton.trims } }, 0)
  else if o = 24 ∧ 16384 ≤ c ∧ c % 4 = 0 then (s.store (a + 24) 4 v, 0)
  else (s, 0)

/-- SEVERITY and REACTION of a source are locked (R345 to R347). -/
def faultLocked (n : Nat) : Bool :=
  if n < 192 then n % 24 == 17
  else if n < 320 then [0, 7, 8, 9, 10, 11].contains ((n - 192) % 64)
  else [0, 1, 14].contains (n - 320)

/-- A source may have an ACTION (R350): 2 where R352 has a row for it, 3 for tile sources; 6 and 7 do not exist. -/
def actionOk (n action : Nat) : Bool :=
  if action = 2 then (resetKind n).isSome else if action = 3 then decide (n < 192) else decide (action < 6)

/-- SEVERITY, ACTION and PAIR of a source are written (R344, R350): the device state follows (R356). -/
def State.faultStore (s : State) (n v : Nat) : Wrote :=
  let a := fltAddr n
  if !faultListed n then (s, 0)
  else if faultLocked n then
    (s, b2n (bits v 0 2 != s.sevOf n || bits v 8 4 != s.load (a + 1) 1 % 16))
  else
    let ok := actionOk n (bits v 8 3)
    let action := if ok then bits v 8 3 else s.load (a + 1) 1 % 8
    (((s.store a 1 (bits v 0 2)).store (a + 1) 1 (action + 8 * bits v 11 1)).safRefresh, b2n !ok)

/-- CH and EN of a source are written (R418, R424): a route to a channel that the source may not drive is refused. -/
def State.srcStore (s : State) (n v : Nat) : Wrote :=
  let a := srcAddr n
  if !srcListed n then (s, 0)
  else if bit v 8 && !s.mayDrive (s.srcOwner n) (bits v 0 8) then (s, 1)
  else ((s.store a 1 (bits v 0 8)).store (a + 1) 1 (bits v 8 1 + 2 * (s.load (a + 1) 1 / 2)), 0)

/-- An enabled source is routed to a channel that it may not drive (R418). -/
def State.badDriver (s : State) (c : Nat) : Bool :=
  (s.listed sgfBase 16 640).any fun n => srcListed n && s.srcEn n && s.srcCh n == c && !s.mayDrive (s.srcOwner n) c

/-- A channel's entry, word 0 (R418, R425): DOMAIN and OPONLY while EN is 0, EN and LOOP_MAX at once. -/
def State.chanStore (s : State) (c v : Nat) : Wrote :=
  let a := chanAddr c
  let on0 := s.chanEn c
  let dom := !on0 && decide (bits v 0 8 ≤ 16)
  let s1 := if dom then s.store a 1 (bits v 0 8) else s
  let s2 := if on0 then s1 else s1.store (a + 1) 1 (2 * bits v 9 1)
  let en := !bit v 8 || on0 || !s2.badDriver c
  let s3 := if en then s2.store (a + 1) 1 (bits v 8 1 + 2 * bits (s2.load (a + 1) 1) 1 1) else s2
  let lm := bits v 16 16 != 0
  (if lm then s3.store (a + 2) 2 (bits v 16 16) else s3,
    if on0 then 2 else b2n (!dom || !en || !lm))

/-- A word of the Signal Fabric's tables is written. In a channel's STATE, writing 1 clears the sticky bits. -/
def State.sgfStore (s : State) (o v : Nat) : Wrote :=
  if o < 16 * 640 then (if o % 16 = 0 then s.srcStore (o / 16) v else (s, 0))
  else if within o 0x4000 0x1000 then
    let c := (o - 0x4000) / 16
    match o % 16 / 4 with
    | 0 => s.chanStore c v
    | 1 =>
      let st := s.load (chanAddr c + 4) 1
      (s.store (chanAddr c + 4) 1 (st &&& (0xFF ^^^ (v &&& 0xE))), 0)
    | _ => (s, 0)
  else (s, 0)

/-- The 32-bit word of a table window at an aligned BAR0 offset is written; read-only tables ignore it. -/
def State.windowWrite (s : State) (addr v : Nat) : Wrote :=
  if addr < storeBase then s.fabricWrite addr v
  else if within addr progBase 0x100000 then (s.progStore (addr - progBase) v).flag State.lpaReject
  else if within addr ctxBase 0x300000 then (s.ctxStore ((addr - ctxBase) / 64) (addr % 64) v).flag State.lpaReject
  else if within addr prfBase 0x100000 then (s.prfStore (addr - prfBase) v).flag State.prfReject
  else if within addr toneBase (32 * 20480) then s.toneStore ((addr - toneBase) / 32) (addr % 32) v
  else if within addr faultBase (16 * 384) then
    (if addr % 16 = 0 then (s.faultStore ((addr - faultBase) / 16) v).flag State.safReject else (s, 0))
  else if within addr sgfBase 0x100000 then (s.sgfStore (addr - sgfBase) v).flag State.sgfReject
  else (s, 0)

/-! ### TABLE_DMA -/

/-- A domain other than 0 may touch the entry that the 8-byte word at an offset belongs to, in the direction given (R63 and
the tables' own rules). Where no entry lies, nothing is touched, and an entry of the Element Table or the Fabric Map whose
element has VALID 0 is owned by no tenant (assumption 81). -/
def State.tenantMay (s : State) (dom addr : Nat) (write : Bool) : Bool :=
  let owns (e : Nat) : Bool := (s.elem e).valid && (s.elem e).domain == dom
  let prog (p : Nat) : Bool := let b := s.load (progAddr p + 6) 1; b % 32 == dom || bit b 7
  let inProg (w : Nat) : Bool :=
    s.programs.any fun p => prog p && decide (s.progStart p ≤ w) && decide (w < s.progStart p + s.progLen p)
  let player (p : Nat) : Bool := write && s.rd PRF_PL_OWNER.DOMAIN p == dom
  if within addr elemBase 0x20000 then !write && owns ((addr - elemBase) / 8)
  else if within addr fmapBase 0x20000 then !write && owns ((addr - fmapBase) / 8)
  else if within addr portBase 0x8000 then !write && (s.port ((addr - portBase) / 16)).domain == dom
  else if within addr storeBase 0x100000 then
    s.pln.plans.any fun p => (planHdr p.bytes).domain == dom && decide (p.base ≤ (addr - storeBase) / 8) &&
      decide ((addr - storeBase) / 8 < p.base + planSlots p.bytes)
  else if within addr orbitBase 0x2000 then false
  else if within addr progBase 0x10000 then !write && prog ((addr - progBase) / 16)
  else if within addr (progBase + 0x10000) 0xF0000 then
    !write && inProg ((addr - progBase - 0x10000) / 4) && inProg ((addr - progBase - 0x10000) / 4 + 1)
  else if within addr ctxBase 0x300000 then
    let x := (addr - ctxBase) / 64
    let o := addr % 64 / 8 * 8
    s.chDomain (x / 3) == some dom && (!write || x % 3 != 1 && (o == 0 || decide (24 ≤ o) && decide (o < 56)))
  else if within addr prfBase 0x1000 then !write
  else if within addr (prfBase + 0x10000) 0x10000 then
    !write && s.prf.gens.any fun g => g.num == (addr - prfBase - 0x10000) / 16 && s.chDomain g.ch == some dom
  else if within addr (prfBase + 0x20000) 0x2000 then player ((addr - prfBase - 0x20000) / 0x100)
  else if within addr (prfBase + 0x40000) 0x40000 then player ((addr - prfBase - 0x40000) / 0x2000)
  else if within addr toneBase (32 * 20480) then
    let c := (addr - toneBase) / 32
    s.toneReadable dom c && (!write || decide (c < 16384))
  else if within addr almBase (16 * 16384) then s.chDomain ((addr - almBase) / 16) == some dom
  else if within addr (almBase + 0x40000) (16 * 512) then false
  else if within addr (almBase + 0x80000) (32 * 16384) then owns ((addr - almBase - 0x80000) / 32)
  else if within addr faultBase (16 * 384) then false
  else if within addr sgfBase (16 * 640) then s.srcOwner ((addr - sgfBase) / 16) == dom
  else if within addr (sgfBase + 0x4000) 0x1000 then
    let d := s.chanDom ((addr - sgfBase - 0x4000) / 16)
    !write && (d == dom || d == 0)
  else true

/-- Window offset, length and direction of a TABLE_DMA body (R62). -/
def dmaOff (d : Desc) : Nat := d.fld 16 4
@[inherit_doc dmaOff] def dmaLen (d : Desc) : Nat := d.fld 20 4
@[inherit_doc dmaOff] def dmaIn (d : Desc) : Bool := d.fld 24 1 == 0

/-- A TABLE_DMA body is valid (R62, R63). -/
def dmaBodyOk (d : Desc) : Bool :=
  d.fld 8 8 % 8 == 0 && dmaOff d % 8 == 0 && dmaLen d % 8 == 0 && decide (8 ≤ dmaLen d) && decide (d.fld 24 1 ≤ 1) &&
    zeros d.bytes 25 39 &&
    match windowOf (dmaOff d) with
    | some w => decide (dmaOff d + dmaLen d ≤ w.1 + w.2.1) && (w.2.2 || !dmaIn d)
    | none => false

/-- An 8-byte word is written to a window, field by field (R64); the answer is the stronger refusal of the two halves. -/
def State.dmaWord (s : State) (addr v : Nat) : Wrote :=
  let a := s.windowWrite addr (v % 2 ^ 32)
  let b := a.1.windowWrite (addr + 4) (v / 2 ^ 32)
  (b.1, max a.2 b.2)

/-- Words from the host are written in ascending order; the answer counts those with a field that its class refused. -/
def State.dmaWords (s : State) (addr : Nat) : List DWord → State × Nat
  | [] => (s, 0)
  | w :: t =>
    let a := s.dmaWord addr w.toNat
    let b := a.1.dmaWords (addr + 8) t
    (b.1, b.2 + b2n (a.2 == 2))

/-- The bytes of `n` words of a window as TABLE_DMA reads them. -/
def State.dmaBytes (s : State) (addr n : Nat) : List Byte :=
  (List.range (2 * n)).flatMap fun i => leBytes 4 (s.windowWord (addr + 4 * i))

/-- TABLE_DMA (R62 to R64): a body that R63 refuses moves nothing. To the device, the words that the host delivers are
written; a read from the host that fails ends the transfer. From the device, the words are written to the host; a word
found uncorrectable ends it with nothing written (R402). -/
def execTableDma (id : Nat) (read : HostRead (List DWord)) (ecc : Option EccHit) (s : State) :
    Host.Outcome State Fault Refusal :=
  let s := s.poisoned read.poisoned id
  .next <| s.withOp id opTableDma fun d =>
    let n := dmaLen d / 8
    let dom := d.dom
    if !dmaBodyOk d then s.done d stBadField
    else if dom != 0 && !(List.range n).all (fun i => s.tenantMay dom (dmaOff d + 8 * i) (dmaIn d)) then
      s.done d stDomainDenied
    else if dmaIn d then
      let r := s.dmaWords (dmaOff d) (read.data.take n)
      if read.data.length < n then r.1.done d stDmaError (some read.data.length) else r.1.done d stOK (some r.2)
    else match ecc with
      | some _ => (s.eccHit ecc).done d stMemUncorr
      | none => (s.toHost (d.fld 8 8) (s.dmaBytes (dmaOff d) n)).done d stOK (some 0)

/-! ### Telemetry bindings (R74, R75) -/

/-- A period is 0 or a multiple of `step` up to one second (R213, R241, R292, R316). -/
def periodOk (step p : Nat) : Bool := p == 0 || p % step == 0 && decide (p ≤ 1000000)

/-- The sources of a telemetry type end here, and a period of it is valid (R126, R192, R213, R241, R292, R316, R338, R360,
R457); 0 sources for a type that does not exist (R73). -/
def telSources (type : Nat) : Nat := ([0, 520, 1024, 20480, 49152, 72, 384, 64, 3, 32][type]?).getD 0
@[inherit_doc telSources] def telPeriodOk (type p : Nat) : Bool :=
  match type with
  | 1 => p == 0 || p == 1000
  | 3 | 4 | 9 => periodOk 50 p
  | 5 => periodOk 1000 p
  | _ => p == 0

/-- A domain other than 0 may bind a source of a type: it owns it, or may read it. -/
def State.mayBind (s : State) (dom type source : Nat) : Bool :=
  match type with
  | 1 => decide (source % 65 < 64) && s.ringDom (source % 65) == dom
  | 2 => s.presentPorts.any fun p => (s.port p).monitor == source && (s.port p).domain == dom
  | 3 => s.toneReadable dom source
  | 4 => s.ctxReadable dom source
  | 5 => s.validElems.any fun e => (s.elem e).domain == dom && (s.elem e).zone == source
  | 7 => s.on PMC_ACCESS.SAMPLE s.active dom
  | 9 => s.rd PRF_PL_OWNER.DOMAIN source == dom
  | _ => false

/-- TELEMETRY_CFG_CREATE (R74, R75): a binding takes the lowest free number, which RESULT returns. An OP that does not exist
is an invalid field. A ring of domain 0 may bind every source, also a tenant's (assumption 82). -/
def execTelemetryCfgCreate (id : Nat) (s : State) : Host.Outcome State Fault Refusal :=
  .next <| s.withOp id opTelemetryCfg fun d =>
    let tq := d.fld 9 1
    let type := d.fld 10 1
    let first := d.fld 12 2
    let count := d.fld 14 2
    let period := d.fld 16 4
    let dom := d.dom
    if d.fld 8 1 = 0 then s
    else if d.fld 8 1 ≠ 1 ∨ 15 < tq ∨ d.fld 11 1 ≠ 0 ∨ count = 0 ∨ telSources type < first + count ∨
        telPeriodOk type period = false ∨ zeros d.bytes 20 44 = false then s.done d stBadField
    else if s.ringDom tq != dom || dom != 0 && !(List.range count).all (fun i => s.mayBind dom type (first + i)) then
      s.done d stDomainDenied
    else
      match (List.range Config.maxBindings).find? fun n => s.hpt.bindings.all fun b => b.num != n with
      | none => s.done d stNoResource
      | some n =>
        let b : Binding := { num := n, dom := dom, tq := tq, type := type, first := first, count := count, period := period }
        let s1 : State := { s with
          hpt := { s.hpt with
            bindings := s.hpt.bindings ++ [b]
            period := s.hpt.period.filter fun c => c.1 / 65536 != n }
          cal := { s.cal with span := s.cal.span.filter fun c => c.1 / 128 != n } }
        s1.done d stOK (some n)

/-- TELEMETRY_CFG_REMOVE (R74, R75): a ring of the domain that created a binding removes it, and its records that wait are
not written. A number with no binding is an invalid field. -/
def execTelemetryCfgRemove (id : Nat) (s : State) : Host.Outcome State Fault Refusal :=
  .next <| s.withOp id opTelemetryCfg fun d =>
    if d.fld 8 1 ≠ 0 then s
    else if !zeros d.bytes 20 44 then s.done d stBadField
    else
      match s.hpt.bindings.find? fun b => b.num == d.fld 11 1 with
      | none => s.done d stBadField
      | some b =>
        if b.dom ≠ d.dom then s.done d stDomainDenied
        else
          let s1 : State := { s with hpt := { s.hpt with
            bindings := s.hpt.bindings.filter fun x => x.num != b.num
            telq := s.hpt.telq.filter fun r => r.num != b.num } }
          s1.done d stOK

end Sys2Proof.Machine
end

