-- ==== Sys2Proof/Machine/RegWrite.lean ====
section
/-! DEFINITION. REGISTER_WRITE: a BAR0 write of a 32-bit word acts on each field of the word by its access type, its change
class and its range (R7 to R9), and on the words of the table windows and transmit slots. -/
namespace Sys2Proof.Machine

/-- An index and what is left of an offset under a stride. -/
def splitIdx (stride count off : Nat) : Option (Nat × Nat) :=
  if stride = 0 then some (0, off) else if off / stride < count then some (off / stride, off % stride) else none

/-- The field is one that each die holds for itself (R41). -/
def perDie (f : Fld) : Bool := f.s1 == 0x10000000

/-- The indices at which a field stands in the word at BAR0 offset `addr` of `die`, if it does. -/
def rowAt (r : RegRow) (die addr : Nat) : Option (Nat × Nat × Nat) :=
  let f := r.f
  if addr < f.base then none
  else
    match (if perDie f then some (die, addr - f.base) else splitIdx f.s1 f.n1 (addr - f.base)) with
    | none => none
    | some (i, o1) =>
      match splitIdx f.s2 f.n2 o1 with
      | none => none
      | some (j, o2) =>
        match splitIdx f.s3 f.n3 o2 with
        | none => none
        | some (k, o3) => if o3 = 0 ∧ r.first ≤ i then some (i, j, k) else none

/-- CFG_REJECT of the block that an offset lies in (R9, R44). -/
def State.reject (s : State) (die addr : Nat) : State :=
  if 0x2000000 ≤ addr then s.wr MON_STATUS.CFG_REJECT 1 ((addr - 0x2000000) / 0x200000)
  else if 0x1000000 ≤ addr then s.drvReject ((addr - 0x1000000) / 0x200000)
  else match addr / 0x100000 with
  | 0 => s.hptReject
  | 1 => s.plnReject
  | 2 => s.wr ORB_STATUS.CFG_REJECT 1
  | 3 => s.lpaReject
  | 4 => s.prfReject
  | 5 => s.wr TON_STATUS.CFG_REJECT 1
  | 6 => s.wr CAL_STATUS.CFG_REJECT 1
  | 7 => s.merReject
  | 8 => s.safReject
  | 9 => s.wr LKS_STATUS.CFG_REJECT 1 die
  | 10 => s.wr MEM_STATUS.CFG_REJECT 1 die
  | 11 => s.sgfReject
  | 12 => s.wr BMX_STATUS.CFG_REJECT 1 die
  | 13 => s.secReject
  | 14 => s.wr PMC_STATUS.CFG_REJECT 1 die
  | _ => s.pwrReject

/-- The enable over a class S field is 1 (R9): `i` is the field's first index. -/
def State.gateOn (s : State) (g : Gate) (i : Nat) : Bool :=
  match g with
  | .live => false
  | .hpt => s.on HPT_CTL.ENABLE
  | .set => s.on HPT_SQ_CFG.ENABLE i || s.on HPT_CQ_CFG.ENABLE i || decide (i < 16) && s.on HPT_TQ_CFG.ENABLE i
  | .sq => s.on HPT_SQ_CFG.ENABLE i
  | .cq => s.on HPT_CQ_CFG.ENABLE i
  | .tq => s.on HPT_TQ_CFG.ENABLE i
  | .lpa => s.on LPA_CTL.ENABLE
  | .player => s.on PRF_PL_STATUS.OPEN i
  | .cal => s.on CAL_CTL.ENABLE
  | .port => s.on MER_PORT_CFG.ENABLE i

/-- The event codes that R450 lists. -/
def eventListed (v : Nat) : Bool := decide (v < 0x14) || decide (0x18 ≤ v) && decide (v < 0x1C)

/-- A rule of the block refuses a write of `v` to a field (R150, R152, R439, R450). -/
def State.refuses (s : State) (h : How) (i j v : Nat) : Bool :=
  match h with
  | .dinc => s.ditherBound (2048 * i + j) || s.rd DRV_CH_DITHER.DMODE i j == 1
  | .phase0 => s.ditherBound (2048 * i + j)
  | .alarm => s.on SEC_ALARM_CFG.LOCK
  | .aligned => v % 8 != 0
  | .event => !eventListed v
  | _ => false

/-- A write of `v` to an RW or WO field that nothing refuses. -/
def State.setField (s : State) (r : RegRow) (i j k v : Nat) : State :=
  let f := r.f
  match r.how with
  | .own | .tamper => s
  | .bound => s.wrF f v i j k
  | .inputs => s.wrF f (v &&& 0x7F7F7F7F) i j k
  | .bucket => s.accrue.wr f v i j k
  | .slew => (s.setSlew s.slewLeft).wr f v i j k
  | .clk10 => (s.setClk10 (v == 1)).wr f v i j k
  | .ppsOut => (if v = 0 then { s with mer := { s.mer with ppsHigh := none } } else s).wr f v i j k
  | .pathEn => (if v = 1 then s.markSuspended else s).wr f v i j k
  | .rot =>
    let s1 : State := { s with ton := { s.ton with rots := (i, s.now, s.rd f i) :: s.ton.rots } }
    s1.wr f v i j k
  | .dinc => (s.freezePhase (2048 * i + j)).wr f v i j k
  | .portEn =>
    let s1 := s.wr f v i j k
    if v = 0 then s1.wr MER_PORT_STATUS.LINK 0 i else s1
  | .sync =>
    let s1 := s.wr f v i j k
    { s1 with mer := { s1.mer with syncAt := nset s1.mer.syncAt i (s1.now + 1) } }
  | .timer => if v = 0 then (s.wr f v i j k).setTimer i none else s.wr f v i j k
  | .alarm => (s.wr f v i j k).tamperRefresh
  | .servo =>
    let s1 := s.wr f v i j k
    if v = 0 ∨ s.now < s.mer.servoAt + v * Config.framesPerMs then s1.wr MER_STATUS.HOLDOVER 0 else s1
  | .count | .event | .chain => (s.pmcAccrue i j).wr f v i j k
  | .freeze => ((List.range 64).foldl (fun t c => t.pmcAccrue i c) s).wr f v i j k
  | .darkEn => (s.wr f v i j k).armDark i j
  | .thresh => (s.wr f v i j k).compare (128 * i + j)
  | .plain | .phase0 | .aligned | .ovf | .empties _ => s.wr f v i j k

/-- The bits of `v` that are 1 are cleared in a W1C field. -/
def State.clearField (s : State) (r : RegRow) (addr i j k v : Nat) : State :=
  let f := r.f
  let left := s.rd f i j k &&& ((2 ^ f.w - 1) ^^^ v)
  match r.how with
  | .own => s
  | .ovf => (s.wr f left i j k).ovfSum i j
  | .tamper =>
    let live := v &&& s.rd SEC_TAMPER_STATUS.LIVE
    let s1 := s.wr f (left ||| (s.rd f i j k &&& live)) i j k
    if s.rd f i j k &&& live ≠ 0 then s1.secReject else s1
  | .empties n =>
    let a := addr + (if perDie f then 0x10000000 * i else 0)
    if v = 0 then s else s.clearRegs a (a + n)
  | _ => s.wr f left i j k

/-- One field of a word is written (R7 to R9). -/
def State.fieldWrite (s : State) (r : RegRow) (die addr i j k w : Nat) : State :=
  let v := bits w r.f.lo r.f.w
  match r.acc with
  | .ro | .w1s => s
  | .w1c => s.clearField r addr i j k v
  | .rw | .wo =>
    if r.how = .chain ∧ k % 2 = 0 then s
    else if v < r.lo ∨ r.hi < v ∨ s.gateOn r.gate i ∨ s.refuses r.how i j v then s.reject die addr
    else s.setField r i j k v

/-- Every field of the word at a BAR0 offset is written. The MEM, BMX and PMC fields of every die that runs take a write
(R40, R41). -/
def State.regWrite (s : State) (die addr w : Nat) : State :=
  regRows.foldl (fun t r =>
    match rowAt r die addr with
    | none => t
    | some (i, j, k) =>
      if perDie r.f && 0xA00000 ≤ addr then t.attached.foldl (fun u d => u.fieldWrite r d addr d j k w) t
      else t.fieldWrite r die addr i j k w) s

/-- A word of a transmit slot, from byte 16 on (R332). -/
def inTxSlot (addr : Nat) : Bool :=
  (within addr 0x710000 0x400 || within addr 0x711000 0x400) && decide (16 ≤ addr % 0x100)

/-- A 32-bit write of an aligned BAR0 word acts on every field that has no command of its own. -/
def State.bar0Write (s : State) (die a v : Nat) : State :=
  s.viaBar0 die a fun s =>
    if elemBase ≤ a then (s.windowWrite a v).1
    else if inTxSlot a then s.store a 4 v
    else s.regWrite die a v

/-- A 32-bit write of a word of a doorbell page (R50); other offsets are reserved. -/
def State.bar2Write (s : State) (die a v : Nat) : State :=
  let page := a / 0x1000 % 64
  match a % 0x1000 with
  | 0 => s.sqDoorbell die page v
  | 4 => s.cqDoorbell die page v
  | 8 => s.tqDoorbell die page v
  | _ => s

/-- A 32-bit write of a word of BAR4 (R43, R77): an MSI-X table entry's address, data and mask bit; a vector that it unmasks
while pending is signalled. The pending bit array is read-only. -/
def State.bar4Write (s : State) (die a v : Nat) : State :=
  if a < 0x1000 then
    (s.store (msixBase die + a) 4
      (match a % 16 with | 0 => v / 4 * 4 | 12 => v % 2 | _ => v)).flushVecs die
  else s

/-- A 32-bit write of a word of configuration space (R39; the places as assumption 74 has them): the power state, which only
RETURN_FROM_D3HOT takes from D3hot to D0, the enable and function mask of MSI-X, and the maximum payload and read request. -/
def State.cfgWrite (s : State) (die o v : Nat) : State :=
  let a := cfgBase die + o
  match o with
  | 0x44 => if v % 4 = 3 then s.store a 1 3 else s
  | 0x50 => (s.store (a + 3) 1 (v / 2 ^ 30 % 4 * 64)).flushVecs die
  | 0x78 =>
    let s1 := if bits v 5 3 ≤ 2 then s.store a 1 (bits v 5 3 * 32) else s
    if bits v 12 3 ≤ 5 then s1.store (a + 1) 1 (bits v 12 3 * 16) else s1
  | _ => s

/-- The bytes of a word that byte enables choose from `v`, the others from `old`. -/
def mergeBytes (be : BitVec 4) (old v : Nat) : Nat :=
  ((List.range 4).map fun b => 256 ^ b * (bits (if be.getLsbD b then v else old) (8 * b) 8)).sum

/-- A write of words to consecutive addresses of a space, in ascending order (R46). -/
def State.writeWords (s : State) (die : Nat) (space : Space) (be : BitVec 4) (a : Nat) : List Word → State
  | [] => s
  | v :: t =>
    let s1 := match space with
      | .bar0 => s.bar0Write die (a % 0x4000000 / 4 * 4) v.toNat
      | .bar2 => s.bar2Write die (a % 0x40000 / 4 * 4) v.toNat
      | .bar4 =>
        let o := a % 0x10000 / 4 * 4
        if s.d3hot die then s else s.bar4Write die o (mergeBytes be (s.load (msixBase die + o) 4) v.toNat)
      | .config =>
        let o := a % 0x1000 / 4 * 4
        s.cfgWrite die o (mergeBytes be (s.load (cfgBase die + o) 4) v.toNat)
    s1.writeWords die space be (a + 4) t

/-- REGISTER_WRITE (R9, R39, R43, R46, R50): a write of aligned words to a space of a die's endpoint; a longer one is split into
words in ascending order. In BAR0 a write with partial byte enables has no effect and is recorded; so is a write of another size
than one word to a doorbell page, with the page's ring set. -/
def execRegisterWrite (die : Fin 2) (target : HostAddr) (be : BitVec 4) (values : List Word) (s : State) :
    Host.Outcome State Fault Refusal :=
  .next <|
    let a := target.addr.toNat
    if target.space = .bar0 ∧ be ≠ 0xF then s.hptError die 0 0 (a % 0x4000000 / 4 * 4)
    else if target.space = .bar2 ∧ (be ≠ 0xF ∨ values.length ≠ 1) then
      s.hptError die 0 (a / 0x1000 % 64) (a % 0x40000 / 4 * 4)
    else s.writeWords die target.space be a values

end Sys2Proof.Machine
end

