-- ==== Sys2Proof/Machine/Read.lean ====
section
/-! DEFINITION. What a BAR0 read returns (R7, R8): the registers that show what the rest of the state holds, the words of
the register map, the table windows, the capture banks and the port slots, and the shadows of wide values (R10, R12). -/
namespace Sys2Proof.Machine

/-! ### Registers that show the state -/

/-- A field that shows the state: its value, given the die whose endpoint is read and the field's indices. -/
abbrev Shown := Fld × (State → Nat → Nat → Nat → Nat → Nat)

/-- The plan of a directory entry. -/
def State.dirPlan (s : State) (n : Nat) (f : Plan → Nat) : Nat := ((s.pln.plan n).map f).getD 0

/-- The lengths of the Route Plan Store's free runs (R94). -/
def State.freeLens (s : State) : List Nat := (freeRuns s.pln.taken 0).map fun r => r.2

/-- The Host Port's fields (R82, R83). -/
def shownHpt : List Shown := [
  (HPT_SQ_STATUS.PAUSED, fun s _ r _ _ => b2n (s.wantsFetch r && s.fetchHeld r)),
  (HPT_CQ_STATUS.HELD, fun s _ r _ _ => s.cqHeld r),
  (HPT_CQ_STATUS.STALL, fun s _ r _ _ => b2n (s.cqHeld r != 0))]

/-- The Plan Engine's fields. -/
def shownPln : List Shown := [
  (PLN_STORE_FREE.COUNT, fun s _ _ _ _ => s.freeLens.sum),
  (PLN_STORE_LARGEST.COUNT, fun s _ _ _ _ => s.freeLens.foldl max 0),
  (PLN_PLANS.COUNT, fun s _ _ _ _ => s.pln.plans.length),
  (PLN_DIR_A.BASE, fun s _ n _ _ => s.dirPlan n Plan.base),
  (PLN_DIR_A.DOMAIN, fun s _ n _ _ => s.dirPlan n fun p => (planHdr p.bytes).domain),
  (PLN_DIR_A.PINNED, fun s _ n _ _ => b2n (s.pinned n)),
  (PLN_DIR_A.LIVE, fun s _ n _ _ => b2n (s.isLive n)),
  (PLN_DIR_A.STATE, fun s _ n _ _ => match s.pln.loading with
    | some l => if (planHdr l.2).id = n then 1 else s.dirPlan n fun _ => 2
    | none => s.dirPlan n fun _ => 2),
  (PLN_DIR_B.SLOW, fun s _ n _ _ => s.dirPlan n fun p => planSlow p.bytes),
  (PLN_DIR_B.SLOTS, fun s _ n _ _ => s.dirPlan n fun p => planSlots p.bytes)]

/-- The Transition Scheduler's fields (R121, R127 to R133). -/
def shownOrb : List Shown := [
  (ORB_TB_LEVEL.LEVEL, fun s _ k _ _ => ofS 32 (s.levelUnits k)),
  (ORB_GTB_LEVEL.LEVEL, fun s _ _ _ _ => ofS 32 (s.levelUnits 8)),
  (ORB_GEB_LEVEL.LEVEL, fun s _ _ _ _ => ofS 32 (s.levelUnits 9)),
  (ORB_CLASS_STAT.MAX_HOL_US, fun s _ k _ _ => ((s.eligibleHeads s.now).filter fun r => r.cls == k).foldl
    (fun m r => max m (min 0xFFFF (s.holDelay r / Config.framesPerUs))) (s.rd ORB_CLASS_STAT.MAX_HOL_US k)),
  (ORB_CLASS_STAT.DEPTH, fun s _ k _ _ => (s.orb.reqs.filter fun r => r.cls == k).length),
  (ORB_ORBIT_STATUS.SHADOW_COUNT, fun s _ _ _ _ => s.orb.shadow.length),
  (ORB_ORBIT_STATUS.ACTIVE_COUNT, fun s _ _ _ _ => s.orb.active.length),
  (ORB_ORBIT_STATUS.ENTRY, fun s _ _ _ _ =>
    match s.orb.base.bind fun b => orbitSpot s.orb.active b s.now with | some r => r.1 | none => 0),
  (ORB_ORBIT_STATUS.STOP_PENDING, fun s _ _ _ _ => b2n s.orb.stop.isSome),
  (ORB_ORBIT_STATUS.SWAP_PENDING, fun s _ _ _ _ => b2n s.orb.swap.isSome),
  (ORB_ORBIT_STATUS.RUNNING, fun s _ _ _ _ => b2n s.orbitRunning),
  (ORB_ORBIT_BASE_LO.BASE, fun s _ _ _ _ => (s.orb.base.map ticksOf).getD 0 % 2 ^ 32),
  (ORB_ORBIT_BASE_HI.BASE, fun s _ _ _ _ => (s.orb.base.map ticksOf).getD 0 / 2 ^ 32),
  (ORB_ORBIT_CYCLE.L, fun s _ _ _ _ => orbitLen s.orb.active)]

/-- A die's link has delivered a valid frame to a tile within the last 2 frames (R166). -/
def State.linkUp (s : State) (tile die : Nat) : Bool :=
  nget s.drv.lastValid (2 * tile + die) != 0 && decide (s.now < nget s.drv.lastValid (2 * tile + die) + 1)

/-- The fields of the drive tiles, monitors and the Tone Demodulator (R145, R147, R150, R166, R182, R183, R206 to R210). -/
def shownTile : List Shown := [
  (DRV_QUEUE.DEPTH, fun s _ t _ _ => (s.queued t).length),
  (DRV_STATUS.LINK_A, fun s _ t _ _ => b2n (s.linkUp t 0)),
  (DRV_STATUS.LINK_B, fun s _ t _ _ => b2n (s.linkUp t 1)),
  (DRV_STATUS.TWILIGHT, fun s _ t _ _ => b2n (decide (s.now < nget s.drv.twilightEnd t))),
  (DRV_CH_DINC.INC, fun s _ t c _ =>
    if s.rd DRV_CH_DITHER.DMODE t c = 1 then gridInc (s.rd DRV_CH_DITHER.TONE t c) else s.rd DRV_CH_DINC.INC t c),
  (MON_IN_STATUS.LOSS_ARMED, fun s _ t i _ => b2n (s.lossArmed t i)),
  (MON_IN_STATUS.GUARD, fun s _ t i _ => b2n (s.gateOfInput t i).isSome),
  (MON_IN_STATUS.DARK_ARMED, fun s _ t i _ => b2n (s.darkArmed t i)),
  (TON_STATUS.PT_LOSS, fun s _ _ _ _ => b2n ((List.range 32).any fun w => s.rd TON_PT_LOSS.LOSS w != 0)),
  (TON_STATUS.PT_FOREIGN, fun s _ _ _ _ => b2n ((List.range 32).any fun w => s.rd TON_PT_FOREIGN.FOREIGN w != 0)),
  (TON_PT_EXPECT.SUSPENDED, fun s _ m _ _ => b2n (s.on TON_PT_EXPECT.VALID m && s.pathSuspended m))]

/-- Code words that lie in no VALID program (R260). -/
def State.freeCode (s : State) : Nat :=
  245760 - ((s.programs.filter s.progValid).map s.progLen).sum

/-- The Loop Array's fields (R223, R225, R233, R243). The core registers show the active die's cores. -/
def shownLpa : List Shown := [
  (LPA_STATUS.OPEN_ANY, fun s _ _ _ _ => b2n ((List.range 1536).any fun w => s.rd LPA_OPEN_LOOP.OPEN w != 0)),
  (LPA_STATUS.OVR_ANY, fun s _ _ _ _ => s.rd LPA_FIRST_OVR.VALID),
  (LPA_LOAD.LOAD, fun s _ k _ _ => s.loopLoad k),
  (LPA_UTIL.UTIL, fun s _ k _ _ => (rndDiv (s.loopUse k * 10000 : Nat) (classCycles 3)).toNat),
  (LPA_CLASS_CNT.TRACK, fun s _ _ _ _ => s.classCount 1),
  (LPA_CLASS_CNT.SETTLE, fun s _ _ _ _ => s.classCount 0),
  (LPA_WAIT.TWAIT, fun s _ _ _ _ => s.lpa.twait.length),
  (LPA_WAIT.SWAIT, fun s _ _ _ _ => s.lpa.swait.length),
  (LPA_CORE_STATUS.BUSY, fun s _ c _ _ => b2n (s.running s.active c).isSome),
  (LPA_CORE_STATUS.QJOBS, fun s _ c _ _ => (s.coreQueue s.active c).length),
  (LPA_CORE_STATUS.QWORK, fun s _ c _ _ => min 0xFFFF (s.coreWork s.active c)),
  (LPA_PROG_COUNT.VALID, fun s _ _ _ _ => (s.programs.filter s.progValid).length),
  (LPA_PROG_WORDS.FREE, fun s _ _ _ _ => s.freeCode)]

/-- A Meridian time as the words of MER_TIME (R339). -/
def timeWord (x : Stamp) (w : Nat) : Nat :=
  match w with
  | 0 => x.ns.toNat
  | 1 => x.sec.toNat % 2 ^ 16 * 2 ^ 16 + x.frac.toNat
  | _ => x.sec.toNat / 2 ^ 16

/-- The Meridian time of the access that reads it (R3, R318). -/
def State.timeNow (s : State) : Stamp :=
  { sec := BitVec.ofNat 48 (s.now / Config.framesPerSec)
    ns := BitVec.ofNat 32 (50 * (s.now % Config.framesPerSec) + s.inFrame / 65536)
    frac := BitVec.ofNat 16 s.inFrame }

/-- The fields of the Calibration Manager and the Meridian Time Unit (R311, R321, R339, R340). -/
def shownTime : List Shown := [
  (CAL_STATUS.BUSY, fun s _ _ _ _ => b2n (!s.cal.meas.isEmpty || s.cal.run.isSome || s.cal.sweep.isSome)),
  (CAL_LOG_HEAD.HEAD, fun s _ die _ _ => 16 * nget s.flash.head die),
  (CAL_WEAR.TRAVERSALS, fun s _ die _ _ => nget s.flash.wear die),
  (MER_SLEW.AMOUNT, fun s _ _ _ _ => ofS 32 s.slewLeft),
  (MER_TIME_W0.NS, fun s _ _ _ _ => timeWord s.timeNow 0),
  (MER_TIME_W1.SEC_FRAC, fun s _ _ _ _ => timeWord s.timeNow 1),
  (MER_TIME_W2.SEC, fun s _ _ _ _ => timeWord s.timeNow 2),
  (MER_TICKS_LO.TICKS, fun s _ _ _ _ => (s.ticks + s.inFrame / 256) % 2 ^ 32),
  (MER_TICKS_HI.TICKS, fun s _ _ _ _ => (s.ticks + s.inFrame / 256) / 2 ^ 32),
  (MER_PPSIN_W0.NS, fun s _ _ _ _ => (s.mer.pps.head?.map fun x => timeWord x 0).getD 0),
  (MER_PPSIN_W1.X, fun s _ _ _ _ => (s.mer.pps.head?.map fun x => timeWord x 1).getD 0),
  (MER_PPSIN_W2.X, fun s _ _ _ _ => (s.mer.pps.head?.map fun x => timeWord x 2).getD 0),
  (MER_PORT_STATUS.PATH, fun _ die p _ _ => (die + p) % 2),
  (MER_PORT_STATUS.OWNER, fun s _ _ _ _ => s.active)]

/-- Word `w` of the oldest history entry (R359). -/
def State.histWord (s : State) (w : Nat) : Nat :=
  match s.saf.hist with
  | [] => 0
  | h :: _ => ([h.w0, h.ticks % 2 ^ 32, h.ticks / 2 ^ 32, h.seq][w]?).getD 0

/-- The bits of 32 sources that hold a condition (R376). -/
def srcBits (w : Nat) (p : Nat → Bool) : Nat := ((List.range 32).map fun b => 2 ^ b * b2n (p (32 * w + b))).sum

/-- The stream frame number that a die processes (R379, R398). -/
def State.timeline (s : State) (die : Nat) : Nat :=
  if s.role die = 1 || s.role die = 2 && s.on LKS_STATUS.LAGGING die then s.now - 2 else s.now

/-- PMC_CNT of a core, brought up to date. -/
def State.pmcCnt (s : State) (die core k : Nat) : Nat := (s.pmcAccrue die core).rd PMC_CNT.COUNT die core k

/-- The fields of the Safety and Lockstep Supervisors, the Security Unit and the counters (R359, R363, R376, R398, R435,
R449, R453). -/
def shownSys : List Shown := [
  (SAF_STATUS.CONSEQ, fun s _ _ _ _ => b2n (s.saf.windows.any fun w => decide (w.first ≤ s.now) && decide (s.now ≤ w.last))),
  (SAF_HIST_W0.ENTRY, fun s _ _ _ _ => s.histWord 0),
  (SAF_HIST_W1.ENTRY, fun s _ _ _ _ => s.histWord 1),
  (SAF_HIST_W2.ENTRY, fun s _ _ _ _ => s.histWord 2),
  (SAF_HIST_W3.ENTRY, fun s _ _ _ _ => s.histWord 3),
  (SAF_LATCHED.BITS, fun s _ w _ _ => srcBits w fun n => (s.latchOf n).isSome),
  (SAF_CAUSE.BITS, fun s _ w _ _ => srcBits w fun n => s.causeNow n),
  (LKS_TIMELINE.FRAME, fun s _ die _ _ => s.timeline die % 2 ^ 32),
  (SEC_STATUS.KEY_BUSY, fun s _ _ _ _ => b2n s.keyBusy),
  (PMC_CYC_LO.CYC, fun s _ die c _ => s.pmcCyc die c % 2 ^ 32),
  (PMC_CYC_HI.CYC, fun s _ die c _ => s.pmcCyc die c / 2 ^ 32 % 2 ^ 32),
  (PMC_CNT.COUNT, fun s _ die c k => s.pmcCnt die c k)]

/-- The fields that show the state. -/
def shownFields : List Shown := shownHpt ++ shownPln ++ shownOrb ++ shownTile ++ shownLpa ++ shownTime ++ shownSys

/-- The value of a field as software reads it. -/
def State.shown (s : State) (die : Nat) (f : Fld) (i j k : Nat) : Nat :=
  match shownFields.find? fun x => x.1 == f with
  | some x => x.2 s die i j k % 2 ^ f.w
  | none => s.rd f i j k

/-! ### Words -/

/-- The word of the register map at a BAR0 offset: WO fields and reserved bits read 0 (R7, R8). -/
def State.regWord (s : State) (die addr : Nat) : Nat :=
  regRows.foldl (fun v r =>
    match rowAt r die addr with
    | some (i, j, k) => if r.acc = .wo then v else v + s.shown die r.f i j k * 2 ^ r.f.lo
    | none => v) 0

/-- The word lies in a receive slot, a transmit slot or a capture bank (R187, R331, R332). -/
def inBank (addr : Nat) : Bool :=
  within addr 0x708000 0x4000 || within addr 0x710000 0x400 || within addr 0x711000 0x400 ||
    decide (0x2000000 ≤ addr) && within (addr % 0x200000) 0x20000 0x4000

/-- A word of a spare's registers, at offset `o` of the spares of a tile: it shows the channel that the spare stands in for, or 0
(R167). -/
def State.spareWord (s : State) (die tile o : Nat) : Nat :=
  let g := o / 0x20
  if s.rd DRV_SPARE.REASON tile g = 0 then 0
  else s.regWord die (0x01010000 + 0x200000 * tile + 0x20 * (32 * g + s.rd DRV_SPARE.POSITION tile g) + o % 0x20)

/-- The word at a BAR0 offset as a die's endpoint reads it now (R41). -/
def State.word (s : State) (die addr : Nat) : Nat :=
  if elemBase ≤ addr then s.windowWord addr
  else if within addr 0x1000000 0x1000000 && within (addr % 0x200000) 0x20000 0x800 then
    s.spareWord die ((addr - 0x1000000) / 0x200000) (addr % 0x200000 - 0x20000)
  else if inBank addr then s.load addr 4
  else s.regWord die addr

/-! ### Wide values -/

/-- The values wider than 32 bits of the register map and the tone results (R10, R12): the offset of the lowest word, the number
of words, and the strides and counts of its copies. -/
def wides : List (Nat × Nat × Nat × Nat × Nat × Nat) :=
  [(0x1000, 2, 0x40, 64, 0, 1), (0x2000, 2, 0x40, 64, 0, 1), (0x3000, 2, 0x40, 16, 0, 1), (0x2000310, 2, 0x200000, 8, 0, 1),
   (0x700010, 2, 0, 1, 0, 1), (0x700020, 2, 0, 1, 0, 1), (0x70002C, 2, 0, 1, 0, 1), (0x700108, 2, 0x80, 2, 0, 1),
   (0xB01004, 2, 0x10, 64, 0, 1), (0xD00094, 2, 0, 1, 0, 1),
   (0x14, 2, 0, 1, 0, 1), (0x100014, 2, 0, 1, 0, 1), (0x200804, 2, 0, 1, 0, 1), (0x2000330, 2, 0x200000, 8, 8, 2),
   (0x600010, 2, 0, 1, 0, 1), (0x700040, 3, 0, 1, 0, 1), (0x70004C, 2, 0, 1, 0, 1), (0x700058, 2, 0, 1, 0, 1),
   (0x700080, 3, 0, 1, 0, 1), (0x800020, 4, 0, 1, 0, 1), (0x800040, 4, 0, 1, 0, 1), (0x900024, 2, 0, 1, 0, 1),
   (0xA00100, 3, 0x10, 8, 0, 1), (0xD000B0, 4, 0, 1, 0, 1), (0xE00010, 2, 0, 1, 0, 1), (0xE10000, 2, 0x40, 64, 0, 1),
   (0xE20010, 4, 0x20, 8, 0, 1), (toneBase, 5, 32, 20480, 0, 1)]

/-- The word of a wide value that stands at a BAR0 offset, and the number of its words. -/
def wideAt (addr : Nat) : Option (Nat × Nat) :=
  wides.findSome? fun (base, n, s1, n1, s2, n2) =>
    if addr < base then none
    else
      match splitIdx s1 n1 (addr - base) with
      | none => none
      | some (_, o1) =>
        match splitIdx s2 n2 o1 with
        | none => none
        | some (_, o2) => if o2 < 4 * n then some (o2 / 4, n) else none

/-- The same, with the counters of a pair that CHAIN joins (R451). -/
def State.wideWord (s : State) (die addr : Nat) : Option (Nat × Nat) :=
  let o := (addr - 0xE10000) % 0x40
  if within addr 0xE10000 0x1000 && within o 8 24 then
    if s.on PMC_EVSEL.CHAIN die ((addr - 0xE10000) / 0x40) ((o - 8) / 8 * 2 + 1) then some (o / 4 % 2, 2) else none
  else wideAt addr

/-- A read of one aligned word of BAR0 (R7, R8, R10, R12); before READY only the HPT block answers (R478). The lowest
word of a wide value copies the whole value into the requester's shadow, from which its higher words are read. Reading
DRV_IVHV clears IPEAK (R166), and reading SEC_DBG_CHAL_W0 draws a nonce (R446), a free value (assumption 1). -/
def State.bar0Read (s : State) (die requester a : Nat) : State :=
    if !s.on HPT_STATUS.READY && !inHpt a then s.emit (.reg die a 0)
    else if (List.range 8).any fun t => 0x01000014 + 0x200000 * t == a then s.readIvhv die ((a - 0x01000014) / 0x200000)
    else if a = 0xD000B0 then (s.draw 128).2.challenge die requester (s.draw 128).1
    else match s.wideWord die a with
      | none => s.emit (.reg die a (s.word die a))
      | some (0, n) =>
        (s.setShadow die requester ((List.range (n - 1)).map fun w => s.word die (a + 4 * (w + 1)))).emit
          (.reg die a (s.word die a))
      | some (w, _) => s.emit (.reg die a (nget s.hpt.shadow (16 * (3 * die + requester) + w)))

/-- A word of a doorbell page as it reads (R50): the heads and tails of the page's rings; other offsets are reserved. -/
def State.bar2Word (s : State) (die a : Nat) : Nat :=
  let n := a / 0x1000 % 64
  match a % 0x1000 with
  | 0 => s.regWord die (0x100C + 0x40 * n)
  | 4 => s.regWord die (0x2010 + 0x40 * n)
  | 8 => if n < 16 then s.regWord die (0x3010 + 0x40 * n) else 0
  | _ => 0

/-- A word of BAR4 as it reads (R43): the MSI-X table, and the pending bit array from 0x8000. -/
def State.bar4Word (s : State) (die a : Nat) : Nat :=
  let o := a % 0x10000
  if o < 0x1000 then s.load (msixBase die + o) 4
  else if within o 0x8000 32 then
    ((List.range 32).map fun b => 2 ^ b * nget s.hpt.pba (256 * die + 8 * (o - 0x8000) + b)).sum
  else 0

/-- A read of one aligned word of a space of a die's endpoint. In D3hot only configuration space answers (assumption 74). -/
def State.readOne (s : State) (die requester : Nat) (space : Space) (a : Nat) : State :=
  match space with
  | .bar0 => if s.d3hot die then s else s.bar0Read die requester (a % 0x4000000 / 4 * 4)
  | .bar2 => if s.d3hot die then s else s.emit (.data die 2 a (s.bar2Word die (a % 0x40000 / 4 * 4)))
  | .bar4 => if s.d3hot die then s else s.emit (.data die 4 a (s.bar4Word die (a % 0x10000 / 4 * 4)))
  | .config => s.emit (.data die 0 a (s.load (cfgBase die + a % 0x1000 / 4 * 4) 4))

/-- Aligned words read in ascending order (R46). -/
def State.readWords (s : State) (die requester : Nat) (space : Space) (a : Nat) : Nat → State
  | 0 => s
  | n + 1 => (s.readOne die requester space a).readWords die requester space (a + 4) n

/-- SNAPSHOT_READ (R7, R10, R46): a read of aligned words of a space of a die's endpoint, some 1/65,536 ns after the start of the
frame. A longer access is split into words in ascending order, so that a wide value is read at one instant. -/
def execSnapshotRead (die : Fin 2) (requester : Fin 3) (target : HostSpan) (s : State) : Host.Outcome State Fault Refusal :=
  .next <| ({ s with sub := (s.now, target.sub.toNat % 3276800) } : State).readWords die requester target.space
    target.addr.toNat target.words

end Sys2Proof.Machine
end

