-- ==== Sys2Proof/Machine/Dispatch.lean ====
section
/-! DEFINITION. The dispatcher: one arm for each command, each a call of the command's own meaning. -/
namespace Sys2Proof.Machine

/-- The effect of a command on everything but the queue. -/
def exec (i : Instr) (s : State) : Host.Outcome State Fault Refusal :=
  match i with
  | .doorbellSqTail die page value => Sys2Proof.Machine.execDoorbellSqTail die page value s
  | .doorbellCqHead die page value => Sys2Proof.Machine.execDoorbellCqHead die page value s
  | .doorbellTqHead die page value => Sys2Proof.Machine.execDoorbellTqHead die page value s
  | .descriptorFetch ring => Sys2Proof.Machine.execDescriptorFetch ring s
  | .descriptorAccept ring read => Sys2Proof.Machine.execDescriptorAccept ring read s
  | .nop id => Sys2Proof.Machine.execNop id s
  | .fence id => Sys2Proof.Machine.execFence id s
  | .tableDma id read ecc => Sys2Proof.Machine.execTableDma id read ecc s
  | .telemetryCfgCreate id => Sys2Proof.Machine.execTelemetryCfgCreate id s
  | .telemetryCfgRemove id => Sys2Proof.Machine.execTelemetryCfgRemove id s
  | .completionWrite cq => Sys2Proof.Machine.execCompletionWrite cq s
  | .telemetryRecord tq => Sys2Proof.Machine.execTelemetryRecord tq s
  | .coalTimeExpiry telemetry ring => Sys2Proof.Machine.execCoalTimeExpiry telemetry ring s
  | .perstAssert die => Sys2Proof.Machine.execPerstAssert die s
  | .perstRelease die => Sys2Proof.Machine.execPerstRelease die s
  | .hotReset die => Sys2Proof.Machine.execHotReset die s
  | .linkDisable die => Sys2Proof.Machine.execLinkDisable die s
  | .dataLinkLoss die => Sys2Proof.Machine.execDataLinkLoss die s
  | .functionLevelReset die => Sys2Proof.Machine.execFunctionLevelReset die s
  | .returnFromD3hot die => Sys2Proof.Machine.execReturnFromD3hot die s
  | .linkTrained die width speed => Sys2Proof.Machine.execLinkTrained die width speed s
  | .hptCtlEnable die value => Sys2Proof.Machine.execHptCtlEnable die value s
  | .sqEnable die ring value => Sys2Proof.Machine.execSqEnable die ring value s
  | .cqEnable die ring value => Sys2Proof.Machine.execCqEnable die ring value s
  | .tqEnable die ring value => Sys2Proof.Machine.execTqEnable die ring value s
  | .registerWrite die target be values => Sys2Proof.Machine.execRegisterWrite die target be values s
  | .fabricTableWrite die addr value => Sys2Proof.Machine.execFabricTableWrite die addr value s
  | .darkSet die port => Sys2Proof.Machine.execDarkSet die port s
  | .darkClear die port domain => Sys2Proof.Machine.execDarkClear die port domain s
  | .validate die => Sys2Proof.Machine.execValidate die s
  | .validationDone => Sys2Proof.Machine.execValidationDone s
  | .crossingSetDone => Sys2Proof.Machine.execCrossingSetDone s
  | .planLoad id => Sys2Proof.Machine.execPlanLoad id s
  | .planCheck id read ecc => Sys2Proof.Machine.execPlanCheck id read ecc s
  | .planCommit id => Sys2Proof.Machine.execPlanCommit id s
  | .planAbort id => Sys2Proof.Machine.execPlanAbort id s
  | .planFree id => Sys2Proof.Machine.execPlanFree id s
  | .commitAdmit ecc => Sys2Proof.Machine.execCommitAdmit ecc s
  | .commitStaging => Sys2Proof.Machine.execCommitStaging s
  | .commitSwap => Sys2Proof.Machine.execCommitSwap s
  | .makebbTarget => Sys2Proof.Machine.execMakebbTarget s
  | .verifySample raws => Sys2Proof.Machine.execVerifySample raws s
  | .verifyDecision => Sys2Proof.Machine.execVerifyDecision s
  | .commitResolve => Sys2Proof.Machine.execCommitResolve s
  | .plnEnableWrite die value => Sys2Proof.Machine.execPlnEnableWrite die value s
  | .plnEnableApply => Sys2Proof.Machine.execPlnEnableApply s
  | .changeExpiry tile ch => Sys2Proof.Machine.execChangeExpiry tile ch s
  | .reapplyAdmit => Sys2Proof.Machine.execReapplyAdmit s
  | .queueSample => Sys2Proof.Machine.execQueueSample s
  | .bucketBurstWrite die bucket burst => Sys2Proof.Machine.execBucketBurstWrite die bucket burst s
  | .statClr die => Sys2Proof.Machine.execStatClr die s
  | .orbitLoad id read => Sys2Proof.Machine.execOrbitLoad id read s
  | .orbitStart id => Sys2Proof.Machine.execOrbitStart id s
  | .orbitListStart => Sys2Proof.Machine.execOrbitListStart s
  | .orbitStop id => Sys2Proof.Machine.execOrbitStop id s
  | .orbitEntryPrep ecc => Sys2Proof.Machine.execOrbitEntryPrep ecc s
  | .orbitSwap => Sys2Proof.Machine.execOrbitSwap s
  | .orbitStopEffect => Sys2Proof.Machine.execOrbitStopEffect s
  | .tileLinkFrame tile die frame => Sys2Proof.Machine.execTileLinkFrame tile die frame s
  | .liveUpdateApply tile ecc => Sys2Proof.Machine.execLiveUpdateApply tile ecc s
  | .tileOrphan tile => Sys2Proof.Machine.execTileOrphan tile s
  | .tileLinkResume tile die => Sys2Proof.Machine.execTileLinkResume tile die s
  | .ditherWrite die tile ch value => Sys2Proof.Machine.execDitherWrite die tile ch value s
  | .foldbackStep tile mean => Sys2Proof.Machine.execFoldbackStep tile mean s
  | .foldClear die tile mean => Sys2Proof.Machine.execFoldClear die tile mean s
  | .guardTrip tile input => Sys2Proof.Machine.execGuardTrip tile input s
  | .guardPersist tile input => Sys2Proof.Machine.execGuardPersist tile input s
  | .guardTripClear die tile w value => Sys2Proof.Machine.execGuardTripClear die tile w value s
  | .outputCheckVisit tile ch measured => Sys2Proof.Machine.execOutputCheckVisit tile ch measured s
  | .failedRetest die tile group value => Sys2Proof.Machine.execFailedRetest die tile group value s
  | .retestDone tile ch pass => Sys2Proof.Machine.execRetestDone tile ch pass s
  | .rangeApply tile => Sys2Proof.Machine.execRangeApply tile s
  | .fineSlotEnd tile modulator stream => Sys2Proof.Machine.execFineSlotEnd tile modulator stream s
  | .fineTrigger die tile w value => Sys2Proof.Machine.execFineTrigger die tile w value s
  | .guardArm tile input => Sys2Proof.Machine.execGuardArm tile input s
  | .lossTrip tile input => Sys2Proof.Machine.execLossTrip tile input s
  | .lossTripClear die tile input => Sys2Proof.Machine.execLossTripClear die tile input s
  | .syscalDark die tile input range => Sys2Proof.Machine.execSyscalDark die tile input range s
  | .syscalReference die tile input range => Sys2Proof.Machine.execSyscalReference die tile input range s
  | .syscalApply die tile input range => Sys2Proof.Machine.execSyscalApply die tile input range s
  | .syscalStepDone tile => Sys2Proof.Machine.execSyscalStepDone tile s
  | .captureEnable die tile value => Sys2Proof.Machine.execCaptureEnable die tile value s
  | .captureSwTrigger die tile => Sys2Proof.Machine.execCaptureSwTrigger die tile s
  | .captureTimeArm die tile hi => Sys2Proof.Machine.execCaptureTimeArm die tile hi s
  | .captureTimeTrigger tile => Sys2Proof.Machine.execCaptureTimeTrigger tile s
  | .captureBankFull tile => Sys2Proof.Machine.execCaptureBankFull tile s
  | .captureRelease die tile value => Sys2Proof.Machine.execCaptureRelease die tile value s
  | .tonePublish elements ecc => Sys2Proof.Machine.execTonePublish elements ecc s
  | .sampleRingGap tile => Sys2Proof.Machine.execSampleRingGap tile s
  | .pathBitClear die foreign w value => Sys2Proof.Machine.execPathBitClear die foreign w value s
  | .tonFirstClr die => Sys2Proof.Machine.execTonFirstClr die s
  | .periodRelease cls => Sys2Proof.Machine.execPeriodRelease cls s
  | .jobDispatch die core ecc => Sys2Proof.Machine.execJobDispatch die core ecc s
  | .jobSteal die core => Sys2Proof.Machine.execJobSteal die core s
  | .prefetchFill die core => Sys2Proof.Machine.execPrefetchFill die core s
  | .candidatePublish cls => Sys2Proof.Machine.execCandidatePublish cls s
  | .combinedOutputSend => Sys2Proof.Machine.execCombinedOutputSend s
  | .classChange ch => Sys2Proof.Machine.execClassChange ch s
  | .jobWcetStop die core => Sys2Proof.Machine.execJobWcetStop die core s
  | .ctxWrite id read => Sys2Proof.Machine.execCtxWrite id read s
  | .activate id read => Sys2Proof.Machine.execActivate id read s
  | .deactivate id read => Sys2Proof.Machine.execDeactivate id read s
  | .setClass id read => Sys2Proof.Machine.execSetClass id read s
  | .ctxRead id => Sys2Proof.Machine.execCtxRead id s
  | .lpaEnable die value => Sys2Proof.Machine.execLpaEnable die value s
  | .lisNop at_ => Sys2Proof.Machine.execLisNop at_ s
  | .lisEnd at_ => Sys2Proof.Machine.execLisEnd at_ s
  | .lisBr at_ off => Sys2Proof.Machine.execLisBr at_ off s
  | .lisDone at_ => Sys2Proof.Machine.execLisDone at_ s
  | .lisWcand at_ ra => Sys2Proof.Machine.execLisWcand at_ ra s
  | .lisAdd at_ rd ra rb => Sys2Proof.Machine.execLisAdd at_ rd ra rb s
  | .lisSub at_ rd ra rb => Sys2Proof.Machine.execLisSub at_ rd ra rb s
  | .lisAddi at_ rd ra imm => Sys2Proof.Machine.execLisAddi at_ rd ra imm s
  | .lisMovi at_ rd imm => Sys2Proof.Machine.execLisMovi at_ rd imm s
  | .lisMovhi at_ rd imm => Sys2Proof.Machine.execLisMovhi at_ rd imm s
  | .lisMovlo at_ rd imm => Sys2Proof.Machine.execLisMovlo at_ rd imm s
  | .lisMul at_ rd ra rb => Sys2Proof.Machine.execLisMul at_ rd ra rb s
  | .lisMulq at_ rd ra rb sh => Sys2Proof.Machine.execLisMulq at_ rd ra rb sh s
  | .lisDiv at_ rd ra rb => Sys2Proof.Machine.execLisDiv at_ rd ra rb s
  | .lisMin at_ rd ra rb => Sys2Proof.Machine.execLisMin at_ rd ra rb s
  | .lisMax at_ rd ra rb => Sys2Proof.Machine.execLisMax at_ rd ra rb s
  | .lisClmp at_ rd ra rb => Sys2Proof.Machine.execLisClmp at_ rd ra rb s
  | .lisAbs at_ rd ra => Sys2Proof.Machine.execLisAbs at_ rd ra s
  | .lisAnd at_ rd ra rb => Sys2Proof.Machine.execLisAnd at_ rd ra rb s
  | .lisOr at_ rd ra rb => Sys2Proof.Machine.execLisOr at_ rd ra rb s
  | .lisXor at_ rd ra rb => Sys2Proof.Machine.execLisXor at_ rd ra rb s
  | .lisShl at_ rd ra sh => Sys2Proof.Machine.execLisShl at_ rd ra sh s
  | .lisAsr at_ rd ra sh rnd => Sys2Proof.Machine.execLisAsr at_ rd ra sh rnd s
  | .lisSel at_ rd ra rb p => Sys2Proof.Machine.execLisSel at_ rd ra rb p s
  | .lisCmplt at_ pd ra rb => Sys2Proof.Machine.execLisCmplt at_ pd ra rb s
  | .lisCmple at_ pd ra rb => Sys2Proof.Machine.execLisCmple at_ pd ra rb s
  | .lisCmpeq at_ pd ra rb => Sys2Proof.Machine.execLisCmpeq at_ pd ra rb s
  | .lisTbit at_ pd ra b => Sys2Proof.Machine.execLisTbit at_ pd ra b s
  | .lisCmplti at_ pd ra imm => Sys2Proof.Machine.execLisCmplti at_ pd ra imm s
  | .lisCmpgti at_ pd ra imm => Sys2Proof.Machine.execLisCmpgti at_ pd ra imm s
  | .lisLdi at_ rd sel idx => Sys2Proof.Machine.execLisLdi at_ rd sel idx s
  | .lisLdx at_ rd sel ra => Sys2Proof.Machine.execLisLdx at_ rd sel ra s
  | .lisLdk at_ rd k => Sys2Proof.Machine.execLisLdk at_ rd k s
  | .lisStk at_ ra k => Sys2Proof.Machine.execLisStk at_ ra k s
  | .lisRdpc at_ rd n => Sys2Proof.Machine.execLisRdpc at_ rd n s
  | .publish die prog => Sys2Proof.Machine.execPublish die prog s
  | .retire die prog => Sys2Proof.Machine.execRetire die prog s
  | .progCmdDone => Sys2Proof.Machine.execProgCmdDone s
  | .profileUpdate gen => Sys2Proof.Machine.execProfileUpdate gen s
  | .streamOpen id => Sys2Proof.Machine.execStreamOpen id s
  | .streamStart player => Sys2Proof.Machine.execStreamStart player s
  | .streamClose id => Sys2Proof.Machine.execStreamClose id s
  | .streamStop player => Sys2Proof.Machine.execStreamStop player s
  | .playerPassEnd player => Sys2Proof.Machine.execPlayerPassEnd player s
  | .playerTrigger die player => Sys2Proof.Machine.execPlayerTrigger die player s
  | .playerJump die player => Sys2Proof.Machine.execPlayerJump die player s
  | .jumpApply player => Sys2Proof.Machine.execJumpApply player s
  | .rateWrite die player value => Sys2Proof.Machine.execRateWrite die player value s
  | .streamFetch player tail => Sys2Proof.Machine.execStreamFetch player tail s
  | .streamFetchDone player samples => Sys2Proof.Machine.execStreamFetchDone player samples s
  | .underrun player => Sys2Proof.Machine.execUnderrun player s
  | .underrunResume player => Sys2Proof.Machine.execUnderrunResume player s
  | .tempConversion readings case_ => Sys2Proof.Machine.execTempConversion readings case_ s
  | .zonePassStart zone => Sys2Proof.Machine.execZonePassStart zone s
  | .channelMeasureStart tile group => Sys2Proof.Machine.execChannelMeasureStart tile group s
  | .channelMeasureDone tile group m => Sys2Proof.Machine.execChannelMeasureDone tile group m s
  | .logAppend okA okB => Sys2Proof.Machine.execLogAppend okA okB s
  | .calEnable die value => Sys2Proof.Machine.execCalEnable die value s
  | .zones id => Sys2Proof.Machine.execZones id s
  | .channels id => Sys2Proof.Machine.execChannels id s
  | .importRecs id read => Sys2Proof.Machine.execImportRecs id read s
  | .curveWrite id read okA okB => Sys2Proof.Machine.execCurveWrite id read okA okB s
  | .curveSweep id => Sys2Proof.Machine.execCurveSweep id s
  | .sweepPointDone => Sys2Proof.Machine.execSweepPointDone s
  | .monSave id okA okB => Sys2Proof.Machine.execMonSave id okA okB s
  | .incrCommit die hi => Sys2Proof.Machine.execIncrCommit die hi s
  | .slewWrite die value => Sys2Proof.Machine.execSlewWrite die value s
  | .slewDone => Sys2Proof.Machine.execSlewDone s
  | .stepArm die hi => Sys2Proof.Machine.execStepArm die hi s
  | .setArm die hi => Sys2Proof.Machine.execSetArm die hi s
  | .timeStepApply => Sys2Proof.Machine.execTimeStepApply s
  | .timeSetApply => Sys2Proof.Machine.execTimeSetApply s
  | .holdoverTimeout => Sys2Proof.Machine.execHoldoverTimeout s
  | .refclkLoss => Sys2Proof.Machine.execRefclkLoss s
  | .refclkRecover => Sys2Proof.Machine.execRefclkRecover s
  | .frameReceive port bytes fcsOk pcs => Sys2Proof.Machine.execFrameReceive port bytes fcsOk pcs s
  | .send die port slot len => Sys2Proof.Machine.execSend die port slot len s
  | .sendAndStamp die port slot len => Sys2Proof.Machine.execSendAndStamp die port slot len s
  | .oneStep die port slot len => Sys2Proof.Machine.execOneStep die port slot len s
  | .txComplete port pcs => Sys2Proof.Machine.execTxComplete port pcs s
  | .timingLinkChange port up => Sys2Proof.Machine.execTimingLinkChange port up s
  | .syncTimeout port => Sys2Proof.Machine.execSyncTimeout port s
  | .ppsOutPulse => Sys2Proof.Machine.execPpsOutPulse s
  | .ppsInEdge at_ => Sys2Proof.Machine.execPpsInEdge at_ s
  | .ppsinPop die => Sys2Proof.Machine.execPpsinPop die s
  | .faultOccurrence source info die => Sys2Proof.Machine.execFaultOccurrence source info die s
  | .blockResetDone target => Sys2Proof.Machine.execBlockResetDone target s
  | .conseqWindowEnd => Sys2Proof.Machine.execConseqWindowEnd s
  | .faultPairRefreshTimeout => Sys2Proof.Machine.execFaultPairRefreshTimeout s
  | .safeNRequest => Sys2Proof.Machine.execSafeNRequest s
  | .safeNRelease => Sys2Proof.Machine.execSafeNRelease s
  | .safClrSource die source => Sys2Proof.Machine.execSafClrSource die source s
  | .safClrAll die => Sys2Proof.Machine.execSafClrAll die s
  | .eclipseClearSources id => Sys2Proof.Machine.execEclipseClearSources id s
  | .eclipseClearAll id => Sys2Proof.Machine.execEclipseClearAll id s
  | .injectRecord die source info => Sys2Proof.Machine.execInjectRecord die source info s
  | .injectReact die source info => Sys2Proof.Machine.execInjectReact die source info s
  | .swEclipse die value => Sys2Proof.Machine.execSwEclipse die value s
  | .safFirstClr die => Sys2Proof.Machine.execSafFirstClr die s
  | .safHistPop die => Sys2Proof.Machine.execSafHistPop die s
  | .lockstepMismatch tile kind channel => Sys2Proof.Machine.execLockstepMismatch tile kind channel s
  | .mismatchResolve failA failB => Sys2Proof.Machine.execMismatchResolve failA failB s
  | .heartbeatMiss observer => Sys2Proof.Machine.execHeartbeatMiss observer s
  | .switch id => Sys2Proof.Machine.execSwitch id s
  | .detach id => Sys2Proof.Machine.execDetach id s
  | .resync id => Sys2Proof.Machine.execResync id s
  | .keep id => Sys2Proof.Machine.execKeep id s
  | .lksCmdSwitch die => Sys2Proof.Machine.execLksCmdSwitch die s
  | .lksCmdDetach die => Sys2Proof.Machine.execLksCmdDetach die s
  | .lksCmdResync die => Sys2Proof.Machine.execLksCmdResync die s
  | .lksCmdKeep die keep => Sys2Proof.Machine.execLksCmdKeep die keep s
  | .switchEffect => Sys2Proof.Machine.execSwitchEffect s
  | .lagClose => Sys2Proof.Machine.execLagClose s
  | .resyncJoin ok => Sys2Proof.Machine.execResyncJoin ok s
  | .dieRestart die => Sys2Proof.Machine.execDieRestart die s
  | .bucketLeak die group => Sys2Proof.Machine.execBucketLeak die group s
  | .remapSwitch die => Sys2Proof.Machine.execRemapSwitch die s
  | .scrubRange id results => Sys2Proof.Machine.execScrubRange id results s
  | .scrubDone => Sys2Proof.Machine.execScrubDone s
  | .softwareEvent die w value => Sys2Proof.Machine.execSoftwareEvent die w value s
  | .eventFire source => Sys2Proof.Machine.execEventFire source s
  | .sourceRearm source => Sys2Proof.Machine.execSourceRearm source s
  | .loopReenable die w value => Sys2Proof.Machine.execLoopReenable die w value s
  | .timerArm die timer hi => Sys2Proof.Machine.execTimerArm die timer hi s
  | .timerFire timer => Sys2Proof.Machine.execTimerFire timer s
  | .busAccess die target requests => Sys2Proof.Machine.execBusAccess die target requests s
  | .keyLoad die slot => Sys2Proof.Machine.execKeyLoad die slot s
  | .keyErase die slot => Sys2Proof.Machine.execKeyErase die slot s
  | .tamperAlarm cond => Sys2Proof.Machine.execTamperAlarm cond s
  | .alarmLock die => Sys2Proof.Machine.execAlarmLock die s
  | .fwWrite die read => Sys2Proof.Machine.execFwWrite die read s
  | .fwWriteDone flashOk => Sys2Proof.Machine.execFwWriteDone flashOk s
  | .raiseMin die => Sys2Proof.Machine.execRaiseMin die s
  | .dbgChallenge die nonce => Sys2Proof.Machine.execDbgChallenge die nonce s
  | .dbgLevelRequest die level => Sys2Proof.Machine.execDbgLevelRequest die level s
  | .dbgRelock die => Sys2Proof.Machine.execDbgRelock die s
  | .counterSnap id => Sys2Proof.Machine.execCounterSnap id s
  | .snapCapture id => Sys2Proof.Machine.execSnapCapture id s
  | .counterOverflow die core k => Sys2Proof.Machine.execCounterOverflow die core k s
  | .pmcSample die cluster => Sys2Proof.Machine.execPmcSample die cluster s
  | .pmcClear die => Sys2Proof.Machine.execPmcClear die s
  | .pmcSmpPop die cluster => Sys2Proof.Machine.execPmcSmpPop die cluster s
  | .vaonPowerOn dawn => Sys2Proof.Machine.execVaonPowerOn dawn s
  | .railRetry dawn => Sys2Proof.Machine.execRailRetry dawn s
  | .rstNAssert => Sys2Proof.Machine.execRstNAssert s
  | .rstNRelease dawn => Sys2Proof.Machine.execRstNRelease dawn s
  | .vaonLoss => Sys2Proof.Machine.execVaonLoss s
  | .shutdown die key => Sys2Proof.Machine.execShutdown die key s
  | .vhvSetWrite die mv => Sys2Proof.Machine.execVhvSetWrite die mv s
  | .vhvCommand => Sys2Proof.Machine.execVhvCommand s
  | .vhvRampEnd => Sys2Proof.Machine.execVhvRampEnd s
  | .pmbusPoll readings vaonOk => Sys2Proof.Machine.execPmbusPoll readings vaonOk s
  | .pmbAlert status => Sys2Proof.Machine.execPmbAlert status s
  | .lossCompute => Sys2Proof.Machine.execLossCompute s
  | .duskRequest die => Sys2Proof.Machine.execDuskRequest die s
  | .duskEntry => Sys2Proof.Machine.execDuskEntry s
  | .duskExit die => Sys2Proof.Machine.execDuskExit die s
  | .clockRestart die dom => Sys2Proof.Machine.execClockRestart die dom s
  | .arm die key => Sys2Proof.Machine.execArm die key s
  | .disarm die key => Sys2Proof.Machine.execDisarm die key s
  | .armEffect => Sys2Proof.Machine.execArmEffect s
  | .fastSample raws currents => Sys2Proof.Machine.execFastSample raws currents s
  | .orbitEntryStart => Sys2Proof.Machine.execOrbitEntryStart s
  | .playerFrameOutput player ecc => Sys2Proof.Machine.execPlayerFrameOutput player ecc s
  | .tamperConditionEnd cond => Sys2Proof.Machine.execTamperConditionEnd cond s
  | .snapshotRead die requester target => Sys2Proof.Machine.execSnapshotRead die requester target s
  | .ipeakRead die tile => Sys2Proof.Machine.execIpeakRead die tile s
  | .upstreamLinkFrame die tile frame => Sys2Proof.Machine.execUpstreamLinkFrame die tile frame s

end Sys2Proof.Machine
end

