-- ==== Sys2Proof/Safety.lean ====
section
/-! DEFINITION. What claims about runs are stated in: the canonical form of the register file and of the memory, and what
every command keeps. -/
namespace Sys2Proof.Machine

/-- The register file is canonical: keys rise strictly and no field is listed that holds its reset value. -/
def Registers.wf (l : List (Nat × Nat)) : Bool := risingKeys l && l.all fun c => c.2 != 0

/-- The memory is canonical: addresses rise strictly and no byte is listed that equals what an unlisted address reads as. -/
def Memory.wf (m : List Host.Cell) : Bool := risingKeys m && m.all fun c => c.2 != memDefault c.1

/-- The register file and the memory of a state are canonical. -/
def State.canonical (s : State) : Prop := Registers.wf s.regs = true ∧ Memory.wf s.mem = true

/-- What every command keeps from `s` to `t`: the canonical form, and the queue of the commands that wait. -/
def Kept (s t : State) : Prop := (s.canonical → t.canonical) ∧ t.pending = s.pending

/-- An answer keeps the same, where it is a next state. -/
def KeptOut (s : State) (o : Host.Outcome State Fault Refusal) : Prop :=
  match o with
  | .next t => Kept s t
  | _ => True

/-- The register fields of `t` are those of `s`, but for those with a key in `l`. -/
def RegsBut (l : List Nat) (s t : State) : Prop := ∀ k, k ∉ l → nget t.regs k = nget s.regs k

/-- Nothing but the register fields with a key in `l` differs between `s` and `t`: no byte of memory, no queue, no work in
progress. -/
def OnlyRegs (l : List Nat) (s t : State) : Prop := t = { s with regs := t.regs } ∧ RegsBut l s t

/-- Every byte of memory reads in `t` as in `s`. -/
def MemSame (s t : State) : Prop := ∀ a, t.loadB a = s.loadB a

/-- Nothing but the Host Port differs between `s` and `t`: its queues, its registers (BAR0 offsets below 0x100000 of either
die), what the module puts out and the number of free values drawn. -/
def OnlyHpt (s t : State) : Prop :=
  t = { s with regs := t.regs, hpt := t.hpt, out := t.out, free := t.free } ∧
    ∀ k, 0x800000 ≤ k % 0x80000000 → nget t.regs k = nget s.regs k

/-- Between `s` and `t` the descriptor `d` has completed with a status, FLAGS bits 2:0 and, where given, a RESULT (R65): it
is no longer in execution, and its completion is owed as the last of all, unless QUIET suppresses it (R56) or a reset or a
disabled ring drops it (R48, R79). -/
def Completed (d : Desc) (st : Nat) (res : Option Nat) (s t : State) (flags : Nat := 0) : Prop :=
  t.hpt.accepted = s.hpt.accepted.filter (fun x => x.id != d.id) ∧
    if d.lost = true ∨ (d.quiet = true ∧ st = stOK ∧ flags % 4 = 0) then t.hpt.owed = s.hpt.owed
    else ∃ c : Compl, t.hpt.owed = s.hpt.owed ++ [c] ∧ c.cq = d.cq ∧ c.sq = d.ring ∧ c.tag = d.tag ∧
      c.status = st % 2 ^ 16 ∧ c.flags = flags % 8 ∧ c.acc = d.acc ∧ c.irq = d.irq ∧ c.repost = none ∧
      ∀ r, res = some r → c.result = r % 2 ^ 32

/-- In `t` the descriptor `d` is no longer in execution, and its completion with a status, FLAGS bits 2:0 and, where given, a
RESULT is the last that is owed, unless QUIET suppresses it or it is dropped. -/
def Answered (d : Desc) (st : Nat) (res : Option Nat) (t : State) (flags : Nat := 0) : Prop :=
  (∀ x ∈ t.hpt.accepted, x.id ≠ d.id) ∧
    (d.lost = true ∨ (d.quiet = true ∧ st = stOK ∧ flags % 4 = 0) ∨
      ∃ (pre : List Compl) (c : Compl), t.hpt.owed = pre ++ [c] ∧ c.cq = d.cq ∧ c.sq = d.ring ∧ c.tag = d.tag ∧
        c.status = st % 2 ^ 16 ∧ c.flags = flags % 8 ∧ c.acc = d.acc ∧ ∀ r, res = some r → c.result = r % 2 ^ 32)

/-- Between `s` and `t` a vector of a die has been signalled: its message has been put out, or its pending bit is set while it is
masked (R77). -/
def Signalled (s t : State) (die vec : Nat) : Prop :=
  if s.vecMasked die vec = true then nget t.hpt.pba (256 * die + vec) ≠ 0 else Out.msix die vec ∈ t.out

/-- The descriptor that the commands of number `id` act on: it is in execution and has this opcode. -/
def Runs (s : State) (id op : Nat) (d : Desc) : Prop := s.desc id = some d ∧ d.op = op

/-- The least and the greatest value of a register of a loop core (R248). -/
def lisMin : Int := -2147483648
@[inherit_doc lisMin] def lisMax : Int := 2147483647

/-- A job with the saturated value of `x` in V[rd], and SAT set where that changes the value (R248). -/
def Run.satPut (r : Run) (rd : Nat) (x : Int) : Run :=
  { r.put rd (max lisMin (min lisMax x)) with sat := r.sat || decide (x < lisMin ∨ lisMax < x) }

/-- The job that runs on the core an instruction names, which has come to the word `w` of its program. -/
def LisReady (s : State) (a : LisAt) (r : Run) (w : Nat) : Prop :=
  s.running a.die a.core = some r ∧ ∃ addr, s.fetch r = some (w, addr)

/-- Between `s` and `t` the job `r` has executed an instruction of `n` cycles and stands as `r'`, at the next instruction. No
other job, no memory and no register outside the core's performance counters and `l` has changed. -/
def LisRan (s t : State) (a : LisAt) (n : Nat) (r r' : Run) (l : List Nat := []) : Prop :=
  t.running a.die a.core = some { r' with pc := r.pc + 1, cycles := r.cycles + n } ∧
    (∀ die core : Nat, ¬(die = a.die ∧ core = a.core) → t.running die core = s.running die core) ∧
    t = { s with regs := t.regs, lpa := { s.lpa with runs := t.lpa.runs }, pmc := t.pmc } ∧
    ∀ k, k ∉ l → (∀ c : Fin 6, k ≠ PMC_CNT.COUNT.key a.die a.core c) → nget t.regs k = nget s.regs k

/-- The core and the word of a LIS instruction, from the encodings of R251 and R252. -/
def lisOf (i : Instr) : Option (LisAt × Nat) :=
  let w (a : LisAt) (op d : Nat) (ra rb x : Nat) : Option (LisAt × Nat) :=
    some (a, op * 2 ^ 26 + a.pg * 2 ^ 24 + (if a.pn then 1 else 0) * 2 ^ 23 + d + ra * 2 ^ 15 + rb * 2 ^ 11 + x)
  let v (rd : Nat) : Nat := rd * 2 ^ 19
  let q (pd : Nat) : Nat := pd * 2 ^ 21
  match i with
  | .lisNop a => w a 0x00 0 0 0 0
  | .lisEnd a => w a 0x01 0 0 0 0
  | .lisBr a off => w a 0x02 0 0 0 off
  | .lisDone a => w a 0x03 0 0 0 0
  | .lisWcand a ra => w a 0x04 0 ra 0 0
  | .lisAdd a rd ra rb => w a 0x08 (v rd) ra rb 0
  | .lisSub a rd ra rb => w a 0x09 (v rd) ra rb 0
  | .lisAddi a rd ra imm => w a 0x0A (v rd) ra 0 imm.toNat
  | .lisMovi a rd imm => w a 0x0B (v rd) 0 0 imm.toNat
  | .lisMovhi a rd imm => w a 0x0C (v rd) 0 0 imm.toNat
  | .lisMovlo a rd imm => w a 0x0D (v rd) 0 0 imm.toNat
  | .lisMul a rd ra rb => w a 0x10 (v rd) ra rb 0
  | .lisMulq a rd ra rb sh => w a 0x11 (v rd) ra rb sh
  | .lisDiv a rd ra rb => w a 0x12 (v rd) ra rb 0
  | .lisMin a rd ra rb => w a 0x14 (v rd) ra rb 0
  | .lisMax a rd ra rb => w a 0x15 (v rd) ra rb 0
  | .lisClmp a rd ra rb => w a 0x16 (v rd) ra rb 0
  | .lisAbs a rd ra => w a 0x17 (v rd) ra 0 0
  | .lisAnd a rd ra rb => w a 0x18 (v rd) ra rb 0
  | .lisOr a rd ra rb => w a 0x19 (v rd) ra rb 0
  | .lisXor a rd ra rb => w a 0x1A (v rd) ra rb 0
  | .lisShl a rd ra sh => w a 0x1B (v rd) ra 0 sh
  | .lisAsr a rd ra sh rnd => w a 0x1C (v rd) ra 0 (sh + if rnd then 32 else 0)
  | .lisSel a rd ra rb p => w a 0x1D (v rd) ra rb p
  | .lisCmplt a pd ra rb => w a 0x20 (q pd) ra rb 0
  | .lisCmple a pd ra rb => w a 0x21 (q pd) ra rb 0
  | .lisCmpeq a pd ra rb => w a 0x22 (q pd) ra rb 0
  | .lisTbit a pd ra b => w a 0x23 (q pd) ra 0 b
  | .lisCmplti a pd ra imm => w a 0x24 (q pd) ra 0 imm.toNat
  | .lisCmpgti a pd ra imm => w a 0x25 (q pd) ra 0 imm.toNat
  | .lisLdi a rd sel idx => w a 0x28 (v rd) 0 0 (sel * 2 ^ 14 + idx.toNat)
  | .lisLdx a rd sel ra => w a 0x29 (v rd) 0 0 (sel * 2 ^ 14 + ra)
  | .lisLdk a rd k => w a 0x2A (v rd) 0 0 k
  | .lisStk a ra k => w a 0x2B 0 ra 0 k
  | .lisRdpc a rd n => w a 0x30 (v rd) 0 0 n
  | _ => none

/-- The instruction `i` of the LIS executes in `n` cycles where its job has come to it and its guard lets it act, whatever
the state, and changes the job as `f` says. -/
def LisDoes (i : Instr) (n : Nat) (f : Run → Run) : Prop :=
  ∀ (s : State) (a : LisAt) (w : Nat) (r : Run), lisOf i = some (a, w) → LisReady s a r w → (r.pred a.pg != a.pn) = true →
    ∃ t, exec i s = .next t ∧ LisRan s t a n r (f r)

end Sys2Proof.Machine
end

