-- ==== Sys2Proof/WellFormed.lean ====
section
/-! DEFINITION. Well-formed commands: operands that the module or its surroundings can present. What a constructor's types
already bound is not checked again. -/
namespace Sys2Proof

/-- An aligned offset in BAR0's 64 MiB (R43, R46). -/
def aligned (addr : Word) : Bool := addr.toNat % 4 == 0 && decide (addr.toNat < 0x4000000)

/-- Aligned words of a space of an endpoint, at least one of them (R43, R46). -/
def Space.holds (space : Space) (addr : Word) (words : Nat) : Bool :=
  addr.toNat % 4 == 0 && decide (1 ≤ words) && decide (addr.toNat + 4 * words ≤
    match space with | .bar0 => 0x4000000 | .bar2 => 0x40000 | .bar4 => 0x10000 | .config => 0x1000)

/-- No entry stands twice. -/
def distinct {α : Type} [DecidableEq α] (l : List α) : Bool := decide l.Nodup

/-- The nanoseconds of a Meridian time are below one second (R318). -/
def Stamp.wf (x : Stamp) : Bool := decide (x.ns.toNat < 1000000000)

/-- A Dawn shows the end of each of its nine steps (R477). -/
def DawnIn.wf (x : DawnIn) : Bool := x.ends.length == 9

/-- The command is well-formed. -/
def Instr.wf : Instr → Bool
  | .doorbellSqTail _ _ _ => true
  | .doorbellCqHead _ _ _ => true
  | .doorbellTqHead _ _ _ => true
  | .descriptorFetch _ => true
  | .descriptorAccept _ read => match read.data with | some bs => bs.length % 64 == 0 | none => true
  | .nop _ => true
  | .fence _ => true
  | .tableDma _ read _ => decide (read.data.length ≤ 393216)
  | .telemetryCfgCreate _ => true
  | .telemetryCfgRemove _ => true
  | .completionWrite _ => true
  | .telemetryRecord _ => true
  | .coalTimeExpiry _ _ => true
  | .perstAssert _ => true
  | .perstRelease _ => true
  | .hotReset _ => true
  | .linkDisable _ => true
  | .dataLinkLoss _ => true
  | .functionLevelReset _ => true
  | .returnFromD3hot _ => true
  | .linkTrained _ _ _ => true
  | .hptCtlEnable _ _ => true
  | .sqEnable _ _ _ => true
  | .cqEnable _ _ _ => true
  | .tqEnable _ _ _ => true
  | .registerWrite _ target _ values => target.space.holds target.addr values.length
  | .fabricTableWrite _ addr _ => aligned addr && decide (0x3000000 ≤ addr.toNat) && decide (addr.toNat < 0x3048000)
  | .darkSet _ _ => true
  | .darkClear _ _ _ => true
  | .validate _ => true
  | .validationDone => true
  | .crossingSetDone => true
  | .planLoad _ => true
  | .planCheck _ read _ => read.data.length % 8 == 0 && decide (read.data.length ≤ 0x100000)
  | .planCommit _ => true
  | .planAbort _ => true
  | .planFree _ => true
  | .commitAdmit _ => true
  | .commitStaging => true
  | .commitSwap => true
  | .makebbTarget => true
  | .verifySample raws => distinct (raws.map fun r => r.1)
  | .verifyDecision => true
  | .commitResolve => true
  | .plnEnableWrite _ _ => true
  | .plnEnableApply => true
  | .changeExpiry _ _ => true
  | .reapplyAdmit => true
  | .queueSample => true
  | .bucketBurstWrite _ _ _ => true
  | .statClr _ => true
  | .orbitLoad _ read => read.data.length % 8 == 0 && decide (read.data.length ≤ 4096)
  | .orbitStart _ => true
  | .orbitListStart => true
  | .orbitStop _ => true
  | .orbitEntryPrep _ => true
  | .orbitSwap => true
  | .orbitStopEffect => true
  | .tileLinkFrame _ _ _ => true
  | .liveUpdateApply _ _ => true
  | .tileOrphan _ => true
  | .tileLinkResume _ _ => true
  | .ditherWrite _ _ _ _ => true
  | .foldbackStep _ _ => true
  | .foldClear _ _ _ => true
  | .guardTrip _ _ => true
  | .guardPersist _ _ => true
  | .guardTripClear _ _ _ _ => true
  | .outputCheckVisit _ _ _ => true
  | .failedRetest _ _ _ _ => true
  | .retestDone _ _ _ => true
  | .rangeApply _ => true
  | .fineSlotEnd _ _ stream => decide (stream.length ≤ 2000)
  | .fineTrigger _ _ _ _ => true
  | .guardArm _ _ => true
  | .lossTrip _ _ => true
  | .lossTripClear _ _ _ => true
  | .syscalDark _ _ _ _ => true
  | .syscalReference _ _ _ _ => true
  | .syscalApply _ _ _ _ => true
  | .syscalStepDone _ => true
  | .captureEnable _ _ _ => true
  | .captureSwTrigger _ _ => true
  | .captureTimeArm _ _ _ => true
  | .captureTimeTrigger _ => true
  | .captureBankFull _ => true
  | .captureRelease _ _ _ => true
  | .tonePublish _ _ => true
  | .sampleRingGap _ => true
  | .pathBitClear _ _ _ _ => true
  | .tonFirstClr _ => true
  | .periodRelease _ => true
  | .jobDispatch _ _ _ => true
  | .jobSteal _ _ => true
  | .prefetchFill _ _ => true
  | .candidatePublish _ => true
  | .combinedOutputSend => true
  | .classChange _ => true
  | .jobWcetStop _ _ => true
  | .ctxWrite _ read => read.data.length % 64 == 0
  | .activate _ read => read.data.length % 64 == 0
  | .deactivate _ read => read.data.length % 64 == 0
  | .setClass _ read => read.data.length % 64 == 0
  | .ctxRead _ => true
  | .lpaEnable _ _ => true
  | .lisNop _ => true
  | .lisEnd _ => true
  | .lisBr _ _ => true
  | .lisDone _ => true
  | .lisWcand _ _ => true
  | .lisAdd _ _ _ _ => true
  | .lisSub _ _ _ _ => true
  | .lisAddi _ _ _ _ => true
  | .lisMovi _ _ _ => true
  | .lisMovhi _ _ _ => true
  | .lisMovlo _ _ _ => true
  | .lisMul _ _ _ _ => true
  | .lisMulq _ _ _ _ _ => true
  | .lisDiv _ _ _ _ => true
  | .lisMin _ _ _ _ => true
  | .lisMax _ _ _ _ => true
  | .lisClmp _ _ _ _ => true
  | .lisAbs _ _ _ => true
  | .lisAnd _ _ _ _ => true
  | .lisOr _ _ _ _ => true
  | .lisXor _ _ _ _ => true
  | .lisShl _ _ _ _ => true
  | .lisAsr _ _ _ _ _ => true
  | .lisSel _ _ _ _ _ => true
  | .lisCmplt _ _ _ _ => true
  | .lisCmple _ _ _ _ => true
  | .lisCmpeq _ _ _ _ => true
  | .lisTbit _ _ _ _ => true
  | .lisCmplti _ _ _ _ => true
  | .lisCmpgti _ _ _ _ => true
  | .lisLdi _ _ _ _ => true
  | .lisLdx _ _ _ _ => true
  | .lisLdk _ _ _ => true
  | .lisStk _ _ _ => true
  | .lisRdpc _ _ _ => true
  | .publish _ _ => true
  | .retire _ _ => true
  | .progCmdDone => true
  | .profileUpdate _ => true
  | .streamOpen _ => true
  | .streamStart _ => true
  | .streamClose _ => true
  | .streamStop _ => true
  | .playerPassEnd _ => true
  | .playerTrigger _ _ => true
  | .playerJump _ _ => true
  | .jumpApply _ => true
  | .rateWrite _ _ _ => true
  | .streamFetch _ _ => true
  | .streamFetchDone _ _ => true
  | .underrun _ => true
  | .underrunResume _ => true
  | .tempConversion readings _ => distinct (readings.map fun r => r.1)
  | .zonePassStart _ => true
  | .channelMeasureStart _ _ => true
  | .channelMeasureDone _ _ _ => true
  | .logAppend _ _ => true
  | .calEnable _ _ => true
  | .zones _ => true
  | .channels _ => true
  | .importRecs _ read => read.data.length % 16 == 0
  | .curveWrite _ read _ _ => read.data.length % 32 == 0
  | .curveSweep _ => true
  | .sweepPointDone => true
  | .monSave _ _ _ => true
  | .incrCommit _ _ => true
  | .slewWrite _ _ => true
  | .slewDone => true
  | .stepArm _ _ => true
  | .setArm _ _ => true
  | .timeStepApply => true
  | .timeSetApply => true
  | .holdoverTimeout => true
  | .refclkLoss => true
  | .refclkRecover => true
  | .frameReceive _ _ _ pcs => pcs.wf
  | .send _ _ _ _ => true
  | .sendAndStamp _ _ _ _ => true
  | .oneStep _ _ _ _ => true
  | .txComplete _ pcs => pcs.wf
  | .timingLinkChange _ _ => true
  | .syncTimeout _ => true
  | .ppsOutPulse => true
  -- the input's resolution is 1/8 ns (R337)
  | .ppsInEdge at_ => at_.wf && at_.frac.toNat % 8192 == 0
  | .ppsinPop _ => true
  | .faultOccurrence _ _ _ => true
  | .blockResetDone _ => true
  | .conseqWindowEnd => true
  | .faultPairRefreshTimeout => true
  | .safeNRequest => true
  | .safeNRelease => true
  | .safClrSource _ _ => true
  | .safClrAll _ => true
  | .eclipseClearSources _ => true
  | .eclipseClearAll _ => true
  | .injectRecord _ _ _ => true
  | .injectReact _ _ _ => true
  | .swEclipse _ _ => true
  | .safFirstClr _ => true
  | .safHistPop _ => true
  | .lockstepMismatch _ _ _ => true
  | .mismatchResolve _ _ => true
  | .heartbeatMiss _ => true
  | .switch _ => true
  | .detach _ => true
  | .resync _ => true
  | .keep _ => true
  | .lksCmdSwitch _ => true
  | .lksCmdDetach _ => true
  | .lksCmdResync _ => true
  | .lksCmdKeep _ _ => true
  | .switchEffect => true
  | .lagClose => true
  | .resyncJoin _ => true
  | .dieRestart _ => true
  | .bucketLeak _ _ => true
  | .remapSwitch _ => true
  | .scrubRange _ _ => true
  | .scrubDone => true
  | .softwareEvent _ _ _ => true
  | .eventFire _ => true
  | .sourceRearm _ => true
  | .loopReenable _ _ _ => true
  | .timerArm _ _ _ => true
  | .timerFire _ => true
  | .busAccess _ _ requests => distinct (requests.map fun r => r.master)
  | .keyLoad _ _ => true
  | .keyErase _ _ => true
  | .tamperAlarm _ => true
  | .alarmLock _ => true
  | .fwWrite _ read => decide (read.data.length ≤ 0x100000)
  | .fwWriteDone _ => true
  | .raiseMin _ => true
  | .dbgChallenge _ _ => true
  | .dbgLevelRequest _ _ => true
  | .dbgRelock _ => true
  | .counterSnap _ => true
  | .snapCapture _ => true
  | .counterOverflow _ _ _ => true
  | .pmcSample _ _ => true
  | .pmcClear _ => true
  | .pmcSmpPop _ _ => true
  | .vaonPowerOn dawn => dawn.wf
  | .railRetry dawn => dawn.wf
  | .rstNAssert => true
  | .rstNRelease dawn => dawn.wf
  | .vaonLoss => true
  | .shutdown _ _ => true
  | .vhvSetWrite _ _ => true
  | .vhvCommand => true
  | .vhvRampEnd => true
  | .pmbusPoll readings _ => distinct (readings.map fun r => r.rail)
  | .pmbAlert status => status.length == 8
  | .lossCompute => true
  | .duskRequest _ => true
  | .duskEntry => true
  | .duskExit _ => true
  | .clockRestart _ _ => true
  | .arm _ _ => true
  | .disarm _ _ => true
  | .armEffect => true
  | .fastSample raws currents => distinct (raws.map fun r => r.1) && distinct (currents.map fun r => r.1)
  | .orbitEntryStart => true
  | .playerFrameOutput _ _ => true
  | .tamperConditionEnd _ => true
  | .snapshotRead _ _ t => t.space.holds t.addr t.words && decide (t.sub.toNat < 3276800)
  | .ipeakRead _ _ => true
  | .upstreamLinkFrame _ _ _ => true

end Sys2Proof
end

