-- ==== Sys2Proof/Certificates/Slice0/Obligations.lean ====
section
/-! DEFINITION. The statements for the provers: what the commands do, what they leave alone, and what every step keeps. -/
open Sys2Proof Sys2Proof.Machine

/-- A step with a command at the front of the queue is that command on the rest of the queue; with an empty queue the block idles
(assumption 5, the model's choice). -/
def Obligations.StepRunsTheFrontCommand : Prop :=
  (∀ (c : Instr) (rest : List Instr) (s : State), step { s with pending := c :: rest } = exec c { s with pending := rest }) ∧
  (∀ s : State, s.pending = [] → step s = .next s)

/-- Every step answers a next state: no command faults or is refused. INVARIANT: a step takes exactly the command at the front: no
command adds to the queue, drops from it or reorders it. -/
def Obligations.EveryStepTakesTheFrontCommand : Prop :=
  (∀ s : State, ∃ t, step s = .next t) ∧
  (∀ s t : State, step s = .next t → t.pending = s.pending.tail)

/-- After reset the register file and the memory are in canonical form, no command waits, no register differs from its reset value
and nothing is loaded, live or running. -/
def Obligations.ResetIsCanonical : Prop :=
  State.reset.canonical ∧ State.reset.pending = [] ∧
  (∀ (f : Fld) (i j k : Nat), State.reset.rd f i j k = f.reset i j k) ∧ (∀ a, State.reset.loadB a = memDefault a) ∧
  State.reset.pln.plans = [] ∧ State.reset.pln.live = [] ∧ State.reset.orb.reqs = [] ∧ State.reset.hpt.accepted = []

/-- INVARIANT: every step keeps the register file and the memory in canonical form. -/
def Obligations.EveryStepKeepsCanonicalForm : Prop :=
  ∀ s t : State, s.canonical → step s = .next t → t.canonical

/-- A register write changes the one field, which then reads the value cut to its width, and nothing else; a byte of memory stored
reads back, and no other byte changes. -/
def Obligations.WritesReadBack : Prop :=
  (∀ (s : State) (f : Fld) (v i j k : Nat),
    (s.wr f v i j k).rd f i j k = v % 2 ^ f.w ∧ OnlyRegs [f.key i j k] s (s.wr f v i j k)) ∧
  (∀ (s : State) (a : Nat) (v : Byte), (s.storeB a v).loadB a = v ∧ (s.storeB a v) = { s with mem := (s.storeB a v).mem } ∧
    ∀ b, b ≠ a → (s.storeB a v).loadB b = s.loadB b)

/-- Doorbells that are accepted (R50 to R52): the pointer takes the value and nothing else changes, but for the report of the
completions that wait. A telemetry doorbell of a page from 16 up changes nothing, and neither does any of a die in D3hot
(assumption 74, the model's choice). Doorbells that are discarded (R52): the ring's DB_RANGE flag and the error bit of the die
are set, the pointers stay, and so does everything outside the Host Port; the error vector of the die is signalled (R81). On a
die that is not active a doorbell only sets DB_STANDBY (R41). -/
def Obligations.DoorbellsMoveTheirPointer : Prop :=
  ((∀ (s : State) (die : Fin 2) (page : Fin 64) (value : Word),
    s.isActive die = true → s.d3hot die = false → s.on HPT_SQ_CFG.ENABLE page = true →
    value.toNat % 2 ^ 16 < 2 ^ s.rd HPT_SQ_CFG.SIZE_LOG2 page →
    span (2 ^ s.rd HPT_SQ_CFG.SIZE_LOG2 page) (s.rd HPT_SQ_HEAD.HEAD page) (s.rd HPT_SQ_TAIL.TAIL page) ≤
      span (2 ^ s.rd HPT_SQ_CFG.SIZE_LOG2 page) (s.rd HPT_SQ_HEAD.HEAD page) (value.toNat % 2 ^ 16) →
    ∃ t, exec (.doorbellSqTail die page value) s = .next t ∧ t.rd HPT_SQ_TAIL.TAIL page = value.toNat % 2 ^ 16 ∧
      OnlyRegs [HPT_SQ_TAIL.TAIL.key page 0 0] s t) ∧
  (∀ (s : State) (die : Fin 2) (page : Fin 64) (value : Word),
    s.isActive die = true → s.d3hot die = false → s.on HPT_CQ_CFG.ENABLE page = true →
    value.toNat % 2 ^ 16 < 2 ^ s.rd HPT_CQ_CFG.SIZE_LOG2 page →
    span (2 ^ s.rd HPT_CQ_CFG.SIZE_LOG2 page) (s.rd HPT_CQ_HEAD.HEAD page) (value.toNat % 2 ^ 16) ≤
      span (2 ^ s.rd HPT_CQ_CFG.SIZE_LOG2 page) (s.rd HPT_CQ_HEAD.HEAD page) (s.rd HPT_CQ_TAIL.TAIL page) →
    ∃ t, exec (.doorbellCqHead die page value) s = .next t ∧ t.rd HPT_CQ_HEAD.HEAD page = value.toNat % 2 ^ 16 ∧
      (t.on HPT_CQ_STATUS.STALL page = true ↔ t.rd HPT_CQ_STATUS.HELD page ≠ 0) ∧
      OnlyRegs [HPT_CQ_HEAD.HEAD.key page 0 0, HPT_CQ_STATUS.HELD.key page 0 0, HPT_CQ_STATUS.STALL.key page 0 0] s t) ∧
  (∀ (s : State) (die : Fin 2) (page : Fin 64) (value : Word),
    s.isActive die = true → s.d3hot die = false → page.val < 16 → s.on HPT_TQ_CFG.ENABLE page = true →
    value.toNat % 2 ^ 16 < 2 ^ s.rd HPT_TQ_CFG.SIZE_LOG2 page →
    span (2 ^ s.rd HPT_TQ_CFG.SIZE_LOG2 page) (s.rd HPT_TQ_HEAD.HEAD page) (value.toNat % 2 ^ 16) ≤
      span (2 ^ s.rd HPT_TQ_CFG.SIZE_LOG2 page) (s.rd HPT_TQ_HEAD.HEAD page) (s.rd HPT_TQ_TAIL.TAIL page) →
    ∃ t, exec (.doorbellTqHead die page value) s = .next t ∧ t.rd HPT_TQ_HEAD.HEAD page = value.toNat % 2 ^ 16 ∧
      OnlyRegs [HPT_TQ_HEAD.HEAD.key page 0 0] s t) ∧
  (∀ (s : State) (die : Fin 2) (page : Fin 64) (value : Word), s.isActive die = true → s.d3hot die = false → 16 ≤ page.val →
    exec (.doorbellTqHead die page value) s = .next s) ∧
  (∀ (s : State) (die : Fin 2) (page : Fin 64) (value : Word), s.d3hot die = true →
    exec (.doorbellSqTail die page value) s = .next s ∧ exec (.doorbellCqHead die page value) s = .next s ∧
      exec (.doorbellTqHead die page value) s = .next s)) ∧
  ((∀ (s : State) (die : Fin 2) (page : Fin 64) (value : Word),
    s.isActive die = true → s.d3hot die = false →
    (s.on HPT_SQ_CFG.ENABLE page = false ∨ 2 ^ s.rd HPT_SQ_CFG.SIZE_LOG2 page ≤ value.toNat % 2 ^ 16 ∨
      span (2 ^ s.rd HPT_SQ_CFG.SIZE_LOG2 page) (s.rd HPT_SQ_HEAD.HEAD page) (value.toNat % 2 ^ 16) <
        span (2 ^ s.rd HPT_SQ_CFG.SIZE_LOG2 page) (s.rd HPT_SQ_HEAD.HEAD page) (s.rd HPT_SQ_TAIL.TAIL page)) →
    ∃ t, exec (.doorbellSqTail die page value) s = .next t ∧ t.on HPT_SQ_STATUS.DB_RANGE page = true ∧
      t.on HPT_ERR_STATUS.DB_RANGE die = true ∧ t.rd HPT_SQ_TAIL.TAIL page = s.rd HPT_SQ_TAIL.TAIL page ∧
      t.rd HPT_SQ_HEAD.HEAD page = s.rd HPT_SQ_HEAD.HEAD page ∧ t.hpt = { s.hpt with pba := t.hpt.pba } ∧
      Signalled s t die (s.rd HPT_ERR_VEC.VECTOR) ∧ OnlyHpt s t) ∧
  (∀ (s : State) (die : Fin 2) (page : Fin 64) (value : Word),
    s.isActive die = true → s.d3hot die = false →
    (s.on HPT_CQ_CFG.ENABLE page = false ∨ 2 ^ s.rd HPT_CQ_CFG.SIZE_LOG2 page ≤ value.toNat % 2 ^ 16 ∨
      span (2 ^ s.rd HPT_CQ_CFG.SIZE_LOG2 page) (s.rd HPT_CQ_HEAD.HEAD page) (s.rd HPT_CQ_TAIL.TAIL page) <
        span (2 ^ s.rd HPT_CQ_CFG.SIZE_LOG2 page) (s.rd HPT_CQ_HEAD.HEAD page) (value.toNat % 2 ^ 16)) →
    ∃ t, exec (.doorbellCqHead die page value) s = .next t ∧ t.on HPT_CQ_STATUS.DB_RANGE page = true ∧
      t.on HPT_ERR_STATUS.DB_RANGE die = true ∧ t.rd HPT_CQ_HEAD.HEAD page = s.rd HPT_CQ_HEAD.HEAD page ∧
      t.rd HPT_CQ_TAIL.TAIL page = s.rd HPT_CQ_TAIL.TAIL page ∧ t.hpt = { s.hpt with pba := t.hpt.pba } ∧
      Signalled s t die (s.rd HPT_ERR_VEC.VECTOR) ∧ OnlyHpt s t) ∧
  (∀ (s : State) (die : Fin 2) (page : Fin 64) (value : Word),
    s.isActive die = true → s.d3hot die = false → page.val < 16 →
    (s.on HPT_TQ_CFG.ENABLE page = false ∨ 2 ^ s.rd HPT_TQ_CFG.SIZE_LOG2 page ≤ value.toNat % 2 ^ 16 ∨
      span (2 ^ s.rd HPT_TQ_CFG.SIZE_LOG2 page) (s.rd HPT_TQ_HEAD.HEAD page) (s.rd HPT_TQ_TAIL.TAIL page) <
        span (2 ^ s.rd HPT_TQ_CFG.SIZE_LOG2 page) (s.rd HPT_TQ_HEAD.HEAD page) (value.toNat % 2 ^ 16)) →
    ∃ t, exec (.doorbellTqHead die page value) s = .next t ∧ t.on HPT_TQ_STATUS.DB_RANGE page = true ∧
      t.on HPT_ERR_STATUS.DB_RANGE die = true ∧ t.rd HPT_TQ_HEAD.HEAD page = s.rd HPT_TQ_HEAD.HEAD page ∧
      t.rd HPT_TQ_TAIL.TAIL page = s.rd HPT_TQ_TAIL.TAIL page ∧ t.hpt = { s.hpt with pba := t.hpt.pba } ∧
      Signalled s t die (s.rd HPT_ERR_VEC.VECTOR) ∧ OnlyHpt s t) ∧
  (∀ (s : State) (die : Fin 2) (page : Fin 64) (value : Word), s.isActive die = false → s.on HPT_STATUS.READY = true →
    s.d3hot die = false →
    ∀ c ∈ [Instr.doorbellSqTail die page value, .doorbellCqHead die page value, .doorbellTqHead die page value],
    ∃ t, exec c s = .next t ∧ t.on HPT_ERR_STATUS.DB_STANDBY die = true ∧ t.hpt = { s.hpt with pba := t.hpt.pba } ∧
      Signalled s t die (s.rd HPT_ERR_VEC.VECTOR) ∧ OnlyHpt s t ∧
      ∀ k, 0x8000 ≤ k % 0x80000000 → nget t.regs k = nget s.regs k))

/-- DESCRIPTOR_FETCH (R53, R39, R81): the ring that R53 chooses, while a read may be outstanding, asks for up to 8 descriptors,
never above the maximum read request, past the ring's end or past the tail; its head advances over them. With no read slot free,
or for a ring that is not the one chosen, nothing happens. -/
def Obligations.FetchAsksForAnnouncedDescriptors : Prop :=
  (∀ (s : State) (ring : Fin 64) (n : Nat), s.fetchChoice = some ring.val → s.readSlot = true →
    n = min (min (min 8 (s.maxRead s.active / 64)) (2 ^ s.rd HPT_SQ_CFG.SIZE_LOG2 ring - s.rd HPT_SQ_HEAD.HEAD ring))
      (min (span (2 ^ s.rd HPT_SQ_CFG.SIZE_LOG2 ring) (s.rd HPT_SQ_HEAD.HEAD ring) (s.rd HPT_SQ_TAIL.TAIL ring))
        (s.fetchRoom ring)) →
    ∃ t, exec (.descriptorFetch ring) s = .next t ∧ t.hpt.fetching = s.hpt.fetching ++ [(ring.val, n)] ∧
      t.rd HPT_SQ_HEAD.HEAD ring =
        (s.rd HPT_SQ_HEAD.HEAD ring + n) % 2 ^ s.rd HPT_SQ_CFG.SIZE_LOG2 ring % 2 ^ 16 ∧
      t.out = .read s.active (s.rd HPT_SQ_BASE_HI.BASE ring * 2 ^ 32 + s.rd HPT_SQ_BASE_LO.BASE ring * 2 ^ 12 +
        64 * s.rd HPT_SQ_HEAD.HEAD ring) (64 * n) :: s.out ∧
      t.hpt.accepted = s.hpt.accepted ∧ t.hpt.owed = s.hpt.owed ∧ OnlyHpt s t) ∧
  (∀ (s : State) (ring : Fin 64), s.fetchChoice ≠ some ring.val ∨ s.readSlot = false →
    exec (.descriptorFetch ring) s = .next s)

/-- DESCRIPTOR_ACCEPT (R58, R55, R61) of a read for one descriptor, the ring's oldest: a descriptor that passes the checks of R58 is
in execution; one that fails completes with the first status that applies; a read that ended in error sets ERROR and FETCH_ERR
and accepts nothing, and poisoned data sets POISONED (R81); behind a FENCE nothing is accepted. A CURVE_SWEEP of an element that
a live path crosses is refused here (R314, R315; before its body is looked at: assumption 97). -/
def Obligations.AcceptChecksInOrder : Prop :=
  (∀ (s : State) (ring : Fin 64) (bs : List Byte) (rest : List (Nat × Nat)),
    takeFirst (fun f => f.1 == ring.val) s.hpt.fetching = some ((ring.val, 1), rest) → bs.length = 64 →
    (∀ f ∈ s.hpt.fetched, f.1 ≠ ring.val) → s.fenced ring = false → s.acceptStatus ring bs = stOK →
    ∃ t, exec (.descriptorAccept ring ⟨some bs, false⟩) s = .next t ∧ t.hpt.fetching = rest ∧ t.hpt.fetched = s.hpt.fetched ∧
      t.hpt.accepted = s.hpt.accepted ++ [⟨s.hpt.nextId, ring, field bs 0 1, field bs 1 1, field bs 2 2, s.ticks, bs,
        s.rd HPT_SQ_CFG.CQ ring, false, s.rd HPT_RING_DOMAIN.DOMAIN ring⟩] ∧
      t.hpt.owed = s.hpt.owed ∧ OnlyHpt s t) ∧
  (∀ (s : State) (ring : Fin 64) (bs : List Byte) (rest : List (Nat × Nat)),
    takeFirst (fun f => f.1 == ring.val) s.hpt.fetching = some ((ring.val, 1), rest) → bs.length = 64 →
    (∀ f ∈ s.hpt.fetched, f.1 ≠ ring.val) → s.fenced ring = false → s.acceptStatus ring bs ≠ stOK →
    ∃ t c, exec (.descriptorAccept ring ⟨some bs, false⟩) s = .next t ∧
      t.hpt.accepted = s.hpt.accepted.filter (fun x => x.id != s.hpt.nextId) ∧
      t.hpt.owed = s.hpt.owed ++ [c] ∧ c.status = s.acceptStatus ring bs ∧ c.tag = field bs 2 2 ∧ c.sq = ring.val ∧
      c.cq = s.rd HPT_SQ_CFG.CQ ring ∧ OnlyHpt s t) ∧
  (∀ (s : State) (ring : Fin 64) (bs : List Byte), field bs 0 1 = 0x90 → s.acceptStatus ring bs = stBadOpcode) ∧
  (∀ (s : State) (ring : Fin 64) (bs : List Byte), tenantMay (field bs 0 1) ≠ none → 8 ≤ field bs 1 1 →
    s.acceptStatus ring bs = stBadField) ∧
  (∀ (s : State) (ring : Fin 64) (bs : List Byte), tenantMay (field bs 0 1) = some false → field bs 1 1 < 8 →
    field bs 4 4 = 0 → s.rd HPT_RING_DOMAIN.DOMAIN ring ≠ 0 → s.acceptStatus ring bs = stDomainDenied) ∧
  (∀ (s : State) (ring : Fin 64) (bs : List Byte), field bs 0 1 = opCalRun → field bs 1 1 < 8 → field bs 4 4 = 0 →
    s.rd HPT_RING_DOMAIN.DOMAIN ring = 0 → field bs 8 1 = 4 → s.livePathThrough (field bs 12 4) = true →
    s.acceptStatus ring bs = stCalLivePath) ∧
  (∀ (s : State) (ring : Fin 64) (n : Nat) (rest : List (Nat × Nat)) (data : Option (List Byte)) (poisoned : Bool),
    takeFirst (fun f => f.1 == ring.val) s.hpt.fetching = some ((ring.val, n), rest) →
    poisoned = true ∨ data = none ∨ (data.getD []).length < 64 * n →
    ∃ t, exec (.descriptorAccept ring ⟨data, poisoned⟩) s = .next t ∧ t.on HPT_SQ_STATUS.ERROR ring = true ∧
      t.on HPT_ERR_STATUS.FETCH_ERR s.active = true ∧ (poisoned = true → t.on HPT_ERR_STATUS.POISONED s.active = true) ∧
      t.hpt = { s.hpt with fetching := rest, pba := t.hpt.pba } ∧ OnlyHpt s t) ∧
  (∀ (s : State) (ring : Fin 64), takeFirst (fun f => f.1 == ring.val) s.hpt.fetching = none → s.fenced ring = true →
    ∀ data poisoned, exec (.descriptorAccept ring ⟨data, poisoned⟩) s = .next s)

/-- NOP (R60): with a body byte not zero it completes with BAD_FIELD; otherwise with OK, ACCEPTED and EXECUTED equal. -/
def Obligations.NopCompletesAtOnce : Prop :=
  (∀ (s : State) (id : Nat) (d : Desc), Runs s id opNop d → zeros d.bytes 8 56 = false →
    ∃ t, exec (.nop id) s = .next t ∧ Completed d stBadField none s t ∧ OnlyHpt s t) ∧
  (∀ (s : State) (id : Nat) (d : Desc), Runs s id opNop d → zeros d.bytes 8 56 = true →
    ∃ t, exec (.nop id) s = .next t ∧ Completed d stOK none s t ∧ OnlyHpt s t ∧
      ∀ c, t.hpt.owed = s.hpt.owed ++ [c] → c.acc = d.acc ∧ c.exe = d.acc % 2 ^ 64)

/-- FENCE (R61): with a body byte not zero, or once no earlier descriptor of its ring is in execution, it completes, and nothing
else of what waits in other rings changes; while an earlier one is in execution nothing happens. -/
def Obligations.FenceWaitsForEarlierDescriptors : Prop :=
  (∀ (s : State) (id : Nat) (d : Desc), Runs s id opFence d → zeros d.bytes 8 56 = true →
    (∀ x ∈ s.hpt.accepted, x.ring = d.ring → d.id ≤ x.id) → (∀ f ∈ s.hpt.fetched, f.1 ≠ d.ring) →
    ∃ t, exec (.fence id) s = .next t ∧ Completed d stOK none s t ∧ OnlyHpt s t) ∧
  (∀ (s : State) (id : Nat) (d : Desc), Runs s id opFence d → zeros d.bytes 8 56 = false →
    (∀ f ∈ s.hpt.fetched, f.1 ≠ d.ring) →
    ∃ t, exec (.fence id) s = .next t ∧ Completed d stBadField none s t ∧ OnlyHpt s t) ∧
  (∀ (s : State) (id : Nat) (d x : Desc), Runs s id opFence d → zeros d.bytes 8 56 = true → x ∈ s.hpt.accepted →
    x.ring = d.ring → x.id < d.id → exec (.fence id) s = .next s)

/-- COMPLETION_WRITE (R65, R68, R70, R78): the oldest completion owed to an enabled ring that is not full is written at the tail
with the next SEQ and the current phase; the tail advances and the phase inverts on the wrap; a completion with IRQ, a status
other than OK or FALLBACK signals at once. One that is written again keeps its SEQ and carries REPOST (R71). A full or disabled
ring writes nothing. -/
def Obligations.CompletionsAreWrittenInOrder : Prop :=
  (∀ (s : State) (cq : Fin 64) (c : Compl) (rest : List Compl), s.on HPT_CQ_CFG.ENABLE cq = true → s.cqFull cq = false →
    takeFirst (fun c => c.cq == cq.val) s.hpt.owed = some (c, rest) → c.repost = none →
    ∃ t, exec (.completionWrite cq) s = .next t ∧ t.hpt.owed = rest ∧ t.hpt.accepted = s.hpt.accepted ∧
      t.rd HPT_CQ_SEQ.SEQ cq = (s.rd HPT_CQ_SEQ.SEQ cq + 1) % 2 ^ 32 ∧
      t.rd HPT_CQ_TAIL.TAIL cq = (s.rd HPT_CQ_TAIL.TAIL cq + 1) % 2 ^ s.rd HPT_CQ_CFG.SIZE_LOG2 cq % 2 ^ 16 ∧
      ((s.rd HPT_CQ_TAIL.TAIL cq + 1) % 2 ^ s.rd HPT_CQ_CFG.SIZE_LOG2 cq = 0 →
        t.rd HPT_CQ_TAIL.PHASE cq = 1 - s.rd HPT_CQ_TAIL.PHASE cq) ∧
      ((s.rd HPT_CQ_TAIL.TAIL cq + 1) % 2 ^ s.rd HPT_CQ_CFG.SIZE_LOG2 cq ≠ 0 →
        t.rd HPT_CQ_TAIL.PHASE cq = s.rd HPT_CQ_TAIL.PHASE cq) ∧
      .host s.active (s.rd HPT_CQ_BASE_HI.BASE cq * 2 ^ 32 + s.rd HPT_CQ_BASE_LO.BASE cq * 2 ^ 12 +
        32 * s.rd HPT_CQ_TAIL.TAIL cq) false (complBytes c ((s.rd HPT_CQ_SEQ.SEQ cq + 1) % 2 ^ 32)
          (s.rd HPT_SQ_HEAD.HEAD c.sq) (s.rd HPT_CQ_TAIL.PHASE cq)) ∈ t.out ∧
      (c.irq = true ∨ c.status ≠ stOK ∨ bit c.flags 1 = true → Signalled s t s.active (s.rd HPT_CQ_CFG.VECTOR cq)) ∧
      OnlyHpt s t) ∧
  (∀ (s : State) (cq : Fin 64) (c : Compl) (rest : List Compl) (seq : Nat), s.on HPT_CQ_CFG.ENABLE cq = true →
    s.cqFull cq = false → takeFirst (fun c => c.cq == cq.val) s.hpt.owed = some (c, rest) → c.repost = some seq →
    ∃ t, exec (.completionWrite cq) s = .next t ∧ t.hpt.owed = rest ∧
      t.rd HPT_CQ_SEQ.SEQ cq = s.rd HPT_CQ_SEQ.SEQ cq ∧
      t.rd HPT_CQ_TAIL.TAIL cq = (s.rd HPT_CQ_TAIL.TAIL cq + 1) % 2 ^ s.rd HPT_CQ_CFG.SIZE_LOG2 cq % 2 ^ 16 ∧
      .host s.active (s.rd HPT_CQ_BASE_HI.BASE cq * 2 ^ 32 + s.rd HPT_CQ_BASE_LO.BASE cq * 2 ^ 12 +
        32 * s.rd HPT_CQ_TAIL.TAIL cq) false (complBytes { c with flags := c.flags % 8 + 8 } seq
          (s.rd HPT_SQ_HEAD.HEAD c.sq) (s.rd HPT_CQ_TAIL.PHASE cq)) ∈ t.out ∧ OnlyHpt s t) ∧
  (∀ (s : State) (cq : Fin 64), s.cqFull cq = true ∨ s.on HPT_CQ_CFG.ENABLE cq = false → exec (.completionWrite cq) s = .next s)

/-- TELEMETRY_RECORD (R72, R76) and COAL_TIME_EXPIRY (R78): the oldest record of an enabled ring that is not full is written at the
tail, with LOST when records were dropped before it; a full ring drops it, counts it and sets TQ_LOST; COAL_TIME µs after the
oldest unsignalled entry the ring signals its vector and its count is cleared; a masked vector becomes pending instead (R77). -/
def Obligations.TelemetryRecordsAndCoalescing : Prop :=
  (∀ (s : State) (tq : Fin 16) (r : TelRec) (rest : List TelRec),
    takeFirst (fun r : TelRec => r.tq == tq.val) (s.idleStreams tq).hpt.telq = some (r, rest) → s.on HPT_TQ_CFG.ENABLE tq = true →
    s.tqFull tq = false →
    ∃ t, exec (.telemetryRecord tq) s = .next t ∧ t.hpt.telq = rest ∧ nget t.hpt.tqLost tq = 0 ∧
      t.rd HPT_TQ_SEQ.SEQ tq = (s.rd HPT_TQ_SEQ.SEQ tq + 1) % 2 ^ 32 ∧
      t.rd HPT_TQ_TAIL.TAIL tq = (s.rd HPT_TQ_TAIL.TAIL tq + 1) % 2 ^ s.rd HPT_TQ_CFG.SIZE_LOG2 tq % 2 ^ 16 ∧
      .host s.active (s.rd HPT_TQ_BASE_HI.BASE tq * 2 ^ 32 + s.rd HPT_TQ_BASE_LO.BASE tq * 2 ^ 12 +
        64 * s.rd HPT_TQ_TAIL.TAIL tq) (s.on HPT_DMA_CFG.RO_TELEM) (telBytes r ((s.rd HPT_TQ_SEQ.SEQ tq + 1) % 2 ^ 32)
          (nget s.hpt.tqLost tq) (s.rd HPT_TQ_TAIL.PHASE tq)) ∈ t.out ∧
      t.hpt.owed = s.hpt.owed ∧ OnlyHpt s t) ∧
  (∀ (s : State) (tq : Fin 16) (r : TelRec) (rest : List TelRec),
    takeFirst (fun r : TelRec => r.tq == tq.val) (s.idleStreams tq).hpt.telq = some (r, rest) → s.on HPT_TQ_CFG.ENABLE tq = true →
    s.tqFull tq = true →
    ∃ t, exec (.telemetryRecord tq) s = .next t ∧ t.hpt.telq = rest ∧ nget t.hpt.tqLost tq = 1 ∧
      t.rd HPT_TQ_LOST.COUNT tq = min (s.rd HPT_TQ_LOST.COUNT tq + 1) (2 ^ 32 - 1) ∧
      t.rd HPT_TQ_TAIL.TAIL tq = s.rd HPT_TQ_TAIL.TAIL tq ∧ t.rd HPT_TQ_SEQ.SEQ tq = s.rd HPT_TQ_SEQ.SEQ tq ∧
      t.on HPT_ERR_STATUS.TQ_LOST s.active = true ∧ t.hpt.owed = s.hpt.owed ∧ OnlyHpt s t) ∧
  (∀ (s : State) (ring : Fin 64) (g : RingSig), aget s.hpt.sig ring = some g → s.rd HPT_CQ_COAL.COAL_TIME ring ≠ 0 →
    ∃ t, exec (.coalTimeExpiry false ring) s = .next t ∧
      t = { s with now := max s.now (g.since + 20 * s.rd HPT_CQ_COAL.COAL_TIME ring), hpt := t.hpt, out := t.out } ∧
      t.hpt = { s.hpt with sig := adel s.hpt.sig ring, pba := t.hpt.pba } ∧
      Signalled s t s.active (s.rd HPT_CQ_CFG.VECTOR ring)) ∧
  (∀ (s : State) (ring : Fin 64) (g : RingSig), ring.val < 16 → aget s.hpt.sig (64 + ring) = some g →
    s.rd HPT_TQ_COAL.COAL_TIME ring ≠ 0 →
    ∃ t, exec (.coalTimeExpiry true ring) s = .next t ∧
      t = { s with now := max s.now (g.since + 20 * s.rd HPT_TQ_COAL.COAL_TIME ring), hpt := t.hpt, out := t.out } ∧
      t.hpt = { s.hpt with sig := adel s.hpt.sig (64 + ring), pba := t.hpt.pba } ∧
      Signalled s t s.active (s.rd HPT_TQ_CFG.VECTOR ring))

/-- Host-side resets (R79, R80): HEADLESS is 1 and the reset is counted; a reset that takes the link down reads LINK_UP, LINK_WIDTH
and LINK_SPEED as 0, the others keep them; at the active die every ring is disabled, every binding removed, owed completions
dropped and counted, accepted descriptors kept; at another die the rings and bindings stay. The fabric, the loops, the Orbit
list and Meridian time stay: nothing but the Host Port, the pins and the fault detections changes. No vector of the die stays
pending. PERST_ASSERT, HOT_RESET, LINK_DISABLE, DATA_LINK_LOSS, FUNCTION_LEVEL_RESET, RETURN_FROM_D3HOT, PERST_RELEASE and
LINK_TRAINED each complete. Ring enables (R48, R68, R80 to R83): enabling HPT_CTL ends the headless hold of the endpoint;
enabling a ring sets its pointers to 0, and of a completion or telemetry ring the phase to 1 and SEQ to 0; disabling a
submission ring clears ERROR. -/
def Obligations.HostSideResetsAndEnables : Prop :=
  ((∀ (s : State) (die : Fin 2),
    ∀ c ∈ [Instr.perstAssert die, .hotReset die, .linkDisable die, .dataLinkLoss die, .functionLevelReset die,
        .returnFromD3hot die],
    ∃ t, exec c s = .next t ∧
      t = { s with regs := t.regs, mem := t.mem, hpt := t.hpt, pins := t.pins, saf := t.saf } ∧
      (∀ k, 0x800000 ≤ k % 0x80000000 → nget t.regs k = nget s.regs k) ∧
      (∀ a, a < 0x4000000 → t.loadB a = s.loadB a) ∧
      t.rd HPT_STATUS.HEADLESS die = 1 ∧
      t.rd HPT_HEADLESS_CNT.COUNT die = min (s.rd HPT_HEADLESS_CNT.COUNT die + 1) (2 ^ 32 - 1) ∧
      t.hpt.accepted.map (fun d => d.id) = s.hpt.accepted.map (fun d => d.id) ∧
      (s.isActive die = true → (∀ ring : Fin 64, t.on HPT_SQ_CFG.ENABLE ring = false ∧ t.on HPT_CQ_CFG.ENABLE ring = false) ∧
        t.hpt.owed = [] ∧ t.hpt.bindings = [] ∧ t.hpt.fetched = [] ∧ t.hpt.fetching = [] ∧
        t.hpt.accepted.all (fun d => d.lost) = true) ∧
      (∀ c ∈ t.hpt.pba, c.1 / 256 ≠ die) ∧
      (s.isActive die = false → t.hpt = { s.hpt with pba := t.hpt.pba } ∧ ∀ k, 0x2000 ≤ k → k < 0x80000000 → nget t.regs k = nget s.regs k)) ∧
  (∀ (s : State) (die : Fin 2), ∀ c ∈ [Instr.perstAssert die, .hotReset die, .linkDisable die, .dataLinkLoss die],
    ∃ t, exec c s = .next t ∧ t.rd HPT_STATUS.LINK_UP die = 0 ∧ t.rd HPT_STATUS.LINK_WIDTH die = 0 ∧
      t.rd HPT_STATUS.LINK_SPEED die = 0) ∧
  (∀ (s : State) (die : Fin 2), ∀ c ∈ [Instr.functionLevelReset die, .returnFromD3hot die],
    ∃ t, exec c s = .next t ∧ t.rd HPT_STATUS.LINK_UP die = s.rd HPT_STATUS.LINK_UP die ∧
      t.rd HPT_STATUS.LINK_WIDTH die = s.rd HPT_STATUS.LINK_WIDTH die ∧
      t.rd HPT_STATUS.LINK_SPEED die = s.rd HPT_STATUS.LINK_SPEED die ∧ t.saf = s.saf) ∧
  (∀ (s : State) (die : Fin 2), ∃ t, exec (.perstRelease die) s = .next t ∧ t = { s with pins := t.pins } ∧
    nget t.pins.perst die = 0) ∧
  (∀ (s : State) (die : Fin 2) (width : Fin 5) (speed : Fin 6), nget s.pins.training die ≠ 0 → nget s.pins.perst die = 0 →
    2 ≤ s.rd PWR_STATUS.DAWN_STEP → width.val = 1 ∨ width.val = 2 ∨ width.val = 4 → speed.val ≠ 0 →
    ∃ t, exec (.linkTrained die width speed) s = .next t ∧ t.rd HPT_STATUS.LINK_UP die = 1 ∧
      t.rd HPT_STATUS.LINK_WIDTH die = width.val ∧ t.rd HPT_STATUS.LINK_SPEED die = speed.val ∧
      nget t.pins.training die = 0 ∧ t = { s with regs := t.regs, pins := t.pins } ∧
      RegsBut [HPT_STATUS.LINK_UP.key die 0 0, HPT_STATUS.LINK_WIDTH.key die 0 0, HPT_STATUS.LINK_SPEED.key die 0 0] s t)) ∧
  ((∀ (s : State) (die : Fin 2), s.bar0 die 0x04 = .act →
    ∃ t, exec (.hptCtlEnable die true) s = .next t ∧ t.rd HPT_CTL.ENABLE = 1 ∧ t.rd HPT_STATUS.HEADLESS die = 0 ∧
      OnlyRegs [HPT_CTL.ENABLE.key 0 0 0, HPT_STATUS.HEADLESS.key die 0 0] s t) ∧
  (∀ (s : State) (die : Fin 2), s.bar0 die 0x04 = .act →
    ∃ t, exec (.hptCtlEnable die false) s = .next t ∧ t.rd HPT_CTL.ENABLE = 0 ∧
      t.rd HPT_STATUS.HEADLESS die = s.rd HPT_STATUS.HEADLESS die ∧ OnlyRegs [HPT_CTL.ENABLE.key 0 0 0] s t) ∧
  (∀ (s : State) (die : Fin 2) (ring : Fin 64), s.bar0 die (0x1008 + 0x40 * ring) = .act →
    s.on HPT_SQ_CFG.ENABLE ring = false → s.on HPT_CQ_CFG.ENABLE (s.rd HPT_SQ_CFG.CQ ring) = true →
    s.rd HPT_RING_DOMAIN.DOMAIN (s.rd HPT_SQ_CFG.CQ ring) = s.rd HPT_RING_DOMAIN.DOMAIN ring →
    ∃ t, exec (.sqEnable die ring true) s = .next t ∧ t.rd HPT_SQ_CFG.ENABLE ring = 1 ∧ t.rd HPT_SQ_HEAD.HEAD ring = 0 ∧
      t.rd HPT_SQ_TAIL.TAIL ring = 0 ∧
      OnlyRegs [HPT_SQ_CFG.ENABLE.key ring 0 0, HPT_SQ_HEAD.HEAD.key ring 0 0, HPT_SQ_TAIL.TAIL.key ring 0 0] s t) ∧
  (∀ (s : State) (die : Fin 2) (ring : Fin 64), s.bar0 die (0x1008 + 0x40 * ring) = .act →
    s.on HPT_SQ_CFG.ENABLE ring = false → s.on HPT_CQ_CFG.ENABLE (s.rd HPT_SQ_CFG.CQ ring) = false ∨
      s.rd HPT_RING_DOMAIN.DOMAIN (s.rd HPT_SQ_CFG.CQ ring) ≠ s.rd HPT_RING_DOMAIN.DOMAIN ring →
    ∃ t, exec (.sqEnable die ring true) s = .next t ∧ t.rd HPT_STATUS.CFG_REJECT = 1 ∧
      OnlyRegs [HPT_STATUS.CFG_REJECT.key 0 0 0] s t) ∧
  (∀ (s : State) (die : Fin 2) (ring : Fin 64), s.bar0 die (0x1008 + 0x40 * ring) = .act →
    s.on HPT_SQ_CFG.ENABLE ring = true →
    ∃ t, exec (.sqEnable die ring false) s = .next t ∧ t.rd HPT_SQ_CFG.ENABLE ring = 0 ∧ t.rd HPT_SQ_STATUS.ERROR ring = 0 ∧
      t.hpt.accepted = s.hpt.accepted ∧ (∀ f ∈ t.hpt.fetched, f.1 ≠ ring.val) ∧ OnlyHpt s t) ∧
  (∀ (s : State) (die : Fin 2) (ring : Fin 64), s.bar0 die (0x2008 + 0x40 * ring) = .act →
    s.on HPT_CQ_CFG.ENABLE ring = false →
    ∃ t, exec (.cqEnable die ring true) s = .next t ∧ t.rd HPT_CQ_CFG.ENABLE ring = 1 ∧ t.rd HPT_CQ_TAIL.TAIL ring = 0 ∧
      t.rd HPT_CQ_HEAD.HEAD ring = 0 ∧ t.rd HPT_CQ_TAIL.PHASE ring = 1 ∧ t.rd HPT_CQ_SEQ.SEQ ring = 0 ∧
      t.hpt.accepted = s.hpt.accepted ∧ t.hpt.owed = s.hpt.owed ∧ OnlyHpt s t) ∧
  (∀ (s : State) (die : Fin 2) (ring r : Fin 64), s.bar0 die (0x2008 + 0x40 * ring) = .act →
    s.on HPT_CQ_CFG.ENABLE ring = true → s.on HPT_SQ_CFG.ENABLE r = true → s.rd HPT_SQ_CFG.CQ r = ring.val →
    ∃ t, exec (.cqEnable die ring false) s = .next t ∧ t.rd HPT_STATUS.CFG_REJECT = 1 ∧
      OnlyRegs [HPT_STATUS.CFG_REJECT.key 0 0 0] s t) ∧
  (∀ (s : State) (die : Fin 2) (ring : Fin 16), s.bar0 die (0x3008 + 0x40 * ring) = .act →
    s.on HPT_TQ_CFG.ENABLE ring = false →
    ∃ t, exec (.tqEnable die ring true) s = .next t ∧ t.rd HPT_TQ_CFG.ENABLE ring = 1 ∧ t.rd HPT_TQ_TAIL.TAIL ring = 0 ∧
      t.rd HPT_TQ_HEAD.HEAD ring = 0 ∧ t.rd HPT_TQ_TAIL.PHASE ring = 1 ∧ t.rd HPT_TQ_SEQ.SEQ ring = 0 ∧
      t.rd HPT_TQ_LOST.COUNT ring = 0 ∧ OnlyHpt s t) ∧
  (∀ (s : State) (die : Fin 2) (ring : Fin 64), s.bar0 die (0x2008 + 0x40 * ring) = .act →
    s.on HPT_CQ_CFG.ENABLE ring = true →
    (∀ r : Fin 64, s.on HPT_SQ_CFG.ENABLE r = true → s.rd HPT_SQ_CFG.CQ r ≠ ring.val) →
    ∃ t, exec (.cqEnable die ring false) s = .next t ∧ t.rd HPT_CQ_CFG.ENABLE ring = 0 ∧
      t.hpt.owed = s.hpt.owed.filter (fun c => c.cq != ring.val) ∧
      t.hpt.accepted.map (fun d => d.id) = s.hpt.accepted.map (fun d => d.id) ∧ OnlyHpt s t) ∧
  (∀ (s : State) (die : Fin 2) (ring : Fin 16), s.bar0 die (0x3008 + 0x40 * ring) = .act →
    s.on HPT_TQ_CFG.ENABLE ring = true →
    ∃ t, exec (.tqEnable die ring false) s = .next t ∧ t.rd HPT_TQ_CFG.ENABLE ring = 0 ∧
      OnlyRegs [HPT_TQ_CFG.ENABLE.key ring 0 0] s t))

/-- REGISTER_WRITE (R9, R41, R46) on registers of the Host Port: a live field takes the value at once; a class S field takes it
while its enable is 0 and its value is in range, and otherwise keeps its value and sets CFG_REJECT; a write with partial byte
enables and a write to the standby have no effect but their error bit; read-only fields keep their value. A longer write acts as
its words in ascending order. In BAR2 a write of one word is the doorbell (R50), and of another size sets PARTIAL_WR; in BAR4 it
reaches the MSI-X table (R43), and in configuration space the power state (R39, its place as assumption 74 has it). -/
def Obligations.RegisterWritesFollowTheirClass : Prop :=
  (∀ (s : State) (die : Fin 2) (addr : Word) (be : BitVec 4) (values : List Word), be ≠ 0xF →
    ∃ t, exec (.registerWrite die ⟨.bar0, addr⟩ be values) s = .next t ∧ t.on HPT_ERR_STATUS.PARTIAL_WR die = true ∧
      t.hpt = { s.hpt with pba := t.hpt.pba } ∧ Signalled s t die (s.rd HPT_ERR_VEC.VECTOR) ∧ OnlyHpt s t) ∧
  (∀ (s : State) (die : Fin 2) (page : Fin 64) (be : BitVec 4) (values : List Word), be ≠ 0xF ∨ values.length ≠ 1 →
    ∃ t, exec (.registerWrite die ⟨.bar2, BitVec.ofNat 32 (0x1000 * page)⟩ be values) s = .next t ∧
      t.on HPT_ERR_STATUS.PARTIAL_WR die = true ∧ (s.errClear die = true → t.rd HPT_ERR_INFO.RING die = page.val) ∧
      t.hpt = { s.hpt with pba := t.hpt.pba } ∧ OnlyHpt s t) ∧
  (∀ (s : State) (die : Fin 2) (page : Fin 64) (value : Word),
    exec (.registerWrite die ⟨.bar2, BitVec.ofNat 32 (0x1000 * page)⟩ 0xF [value]) s = exec (.doorbellSqTail die page value) s ∧
    exec (.registerWrite die ⟨.bar2, BitVec.ofNat 32 (0x1000 * page + 4)⟩ 0xF [value]) s = exec (.doorbellCqHead die page value) s ∧
    exec (.registerWrite die ⟨.bar2, BitVec.ofNat 32 (0x1000 * page + 8)⟩ 0xF [value]) s = exec (.doorbellTqHead die page value) s) ∧
  (∀ (s : State) (die : Fin 2) (addr v w : Word), addr.toNat + 4 < 2 ^ 32 →
    ∃ t, exec (.registerWrite die ⟨.bar0, addr⟩ 0xF [v]) s = .next t ∧
      exec (.registerWrite die ⟨.bar0, addr⟩ 0xF [v, w]) s = exec (.registerWrite die ⟨.bar0, addr + 4⟩ 0xF [w]) t) ∧
  (∀ (s : State) (die : Fin 2) (vec : Fin 256) (value : Word), s.d3hot die = false →
    ∃ t, exec (.registerWrite die ⟨.bar4, BitVec.ofNat 32 (16 * vec + 12)⟩ 0xF [value]) s = .next t ∧
      t.load (msixBase die + 16 * vec + 12) 4 = value.toNat % 2 ∧ t = { s with mem := t.mem, hpt := t.hpt, out := t.out } ∧
      (∀ a, a < msixBase die + 16 * vec + 12 ∨ msixBase die + 16 * vec + 16 ≤ a → t.loadB a = s.loadB a)) ∧
  (∀ (s : State) (die : Fin 2) (value : Word), value.toNat % 4 = 3 →
    ∃ t, exec (.registerWrite die ⟨.config, 0x44⟩ 0xF [value]) s = .next t ∧ t.d3hot die = true ∧ t = { s with mem := t.mem } ∧
      ∀ a, a ≠ cfgBase die + 0x44 → t.loadB a = s.loadB a) ∧
  (∀ (s : State) (die : Fin 2) (value : Word), s.bar0 die 0x1C = .act →
    ∃ t, exec (.registerWrite die ⟨.bar0, 0x1C⟩ 0xF [value]) s = .next t ∧ t.rd HPT_ERR_VEC.VECTOR = value.toNat % 256 ∧
      OnlyRegs [HPT_ERR_VEC.VECTOR.key 0 0 0] s t) ∧
  (∀ (s : State) (die : Fin 2) (value : Word), s.bar0 die 0x20 = .act → s.on HPT_CTL.ENABLE = false →
    value.toNat % 512 ≤ 256 →
    ∃ t, exec (.registerWrite die ⟨.bar0, 0x20⟩ 0xF [value]) s = .next t ∧ t.rd HPT_DMA_CFG.MAX_RD_OUT = value.toNat % 512 ∧
      t.rd HPT_DMA_CFG.RO_TELEM = value.toNat / 512 % 2 ∧
      OnlyRegs [HPT_DMA_CFG.MAX_RD_OUT.key 0 0 0, HPT_DMA_CFG.RO_TELEM.key 0 0 0] s t) ∧
  (∀ (s : State) (die : Fin 2) (value : Word), s.bar0 die 0x20 = .act → s.on HPT_CTL.ENABLE = true →
    ∃ t, exec (.registerWrite die ⟨.bar0, 0x20⟩ 0xF [value]) s = .next t ∧ t.rd HPT_STATUS.CFG_REJECT = 1 ∧
      OnlyRegs [HPT_STATUS.CFG_REJECT.key 0 0 0] s t) ∧
  (∀ (s : State) (die : Fin 2) (value : Word), s.bar0 die 0x20 = .act → s.on HPT_CTL.ENABLE = false →
    256 < value.toNat % 512 →
    ∃ t, exec (.registerWrite die ⟨.bar0, 0x20⟩ 0xF [value]) s = .next t ∧ t.rd HPT_STATUS.CFG_REJECT = 1 ∧
      t.rd HPT_DMA_CFG.MAX_RD_OUT = s.rd HPT_DMA_CFG.MAX_RD_OUT ∧
      OnlyRegs [HPT_STATUS.CFG_REJECT.key 0 0 0, HPT_DMA_CFG.RO_TELEM.key 0 0 0] s t) ∧
  (∀ (s : State) (die : Fin 2) (value : Word), s.bar0 die 0x00 = .act →
    exec (.registerWrite die ⟨.bar0, 0x00⟩ 0xF [value]) s = .next s) ∧
  (∀ (s : State) (die : Fin 2) (addr value : Word), aligned addr = true → addr.toNat < 0x4000000 →
    s.bar0 die addr.toNat = .standby →
    ∃ t, exec (.registerWrite die ⟨.bar0, addr⟩ 0xF [value]) s = .next t ∧ t.on HPT_ERR_STATUS.STANDBY_WR die = true ∧
      t.hpt = { s.hpt with pba := t.hpt.pba } ∧ OnlyHpt s t)

/-- Fabric tables and dark ports (R18, R30, R31, R34): with the Plan Engine off a Fabric Map word takes the value, no other byte
changes, and a change clears VALID; with it on the write is refused. DARK_SET and DARK_CLEAR change DARK of the port and the
gate word of its gate; a clear by another domain is refused. Validation and the crossing sets (R26, R33 to R35): VALIDATE starts
a validation and the Plan Engine's clock where that is gated (R474), refused while the Plan Engine is on; VALIDATION_DONE ends
it with VALID, or with the first error's table, code and index; CROSSING_SET_DONE puts the new sets alone in force. -/
def Obligations.FabricTablesAndValidation : Prop :=
  ((∀ (s : State) (die : Fin 2) (e : Fin 16384) (value : Word), s.bar0 die (fmapBase + 8 * e) = .act →
    s.on PLN_STATUS.ENABLED = false → value.toNat ≠ s.load (fmapBase + 8 * e) 4 →
    ∃ t, exec (.fabricTableWrite die (BitVec.ofNat 32 (fmapBase + 8 * e)) value) s = .next t ∧
      t.load (fmapBase + 8 * e) 4 = value.toNat ∧ t.rd PLN_FMAP_STATUS.VALID = 0 ∧
      (∀ a, a < fmapBase + 8 * e ∨ fmapBase + 8 * e + 4 ≤ a → t.loadB a = s.loadB a) ∧
      t = { s with regs := t.regs, mem := t.mem, pln := t.pln } ∧ RegsBut [PLN_FMAP_STATUS.VALID.key 0 0 0] s t ∧
      t.pln = { s.pln with touched := true }) ∧
  (∀ (s : State) (die : Fin 2) (e : Fin 16384) (value : Word), s.bar0 die (fmapBase + 8 * e) = .act →
    s.on PLN_STATUS.ENABLED = true →
    ∃ t, exec (.fabricTableWrite die (BitVec.ofNat 32 (fmapBase + 8 * e)) value) s = .next t ∧
      t.rd PLN_STATUS.CFG_REJECT = 1 ∧ OnlyRegs [PLN_STATUS.CFG_REJECT.key 0 0 0] s t) ∧
  (∀ (s : State) (die : Fin 2) (p : Fin 2048) (ch : Nat), s.bar0 die (portBase + 16 * p) = .act →
    (s.port p).dark = false → s.gateCh p = some ch →
    ∃ t, exec (.darkSet die p) s = .next t ∧ (t.port p).dark = true ∧ t.chRd DRV_CH_GATEW.DARK ch = 1 ∧
      (∀ a, a ≠ portBase + 16 * p → t.loadB a = s.loadB a) ∧ t = { s with regs := t.regs, mem := t.mem } ∧
      RegsBut [DRV_CH_GATEW.DARK.key (ch / 2048) (ch % 2048) 0] s t) ∧
  (∀ (s : State) (die : Fin 2) (p : Fin 2048) (ch : Nat), s.bar0 die (portBase + 16 * p) = .act →
    (s.port p).dark = true → s.gateCh p = some ch →
    ∃ t, exec (.darkClear die p 0) s = .next t ∧ (t.port p).dark = false ∧ t.chRd DRV_CH_GATEW.DARK ch = 0 ∧
      t.chRd DRV_CH_GATEW.DKHOLD ch = 1 ∧ (∀ a, a ≠ portBase + 16 * p → t.loadB a = s.loadB a) ∧
      t = { s with regs := t.regs, mem := t.mem, ton := t.ton } ∧
      RegsBut [DRV_CH_GATEW.DARK.key (ch / 2048) (ch % 2048) 0, DRV_CH_GATEW.DKHOLD.key (ch / 2048) (ch % 2048) 0] s t) ∧
  (∀ (s : State) (die : Fin 2) (p : Fin 2048) (dom : Fin 17), s.bar0 die (portBase + 16 * p) = .act → dom ≠ 0 →
    (s.port p).dark = false → exec (.darkClear die p dom) s = .next s) ∧
  (∀ (s : State) (die : Fin 2) (p : Fin 2048) (dom : Fin 17), s.bar0 die (portBase + 16 * p) = .act → dom ≠ 0 →
    (s.port p).dark = true →
    ∃ t, exec (.darkClear die p dom) s = .next t ∧ t.rd PLN_STATUS.CFG_REJECT = 1 ∧
      OnlyRegs [PLN_STATUS.CFG_REJECT.key 0 0 0] s t)) ∧
  ((∀ (s : State) (die : Fin 2), s.bar0 die 0x10F000 = .act → s.on PLN_STATUS.ENABLED = false →
    s.on PLN_FMAP_STATUS.BUSY = false →
    ∃ t, exec (.validate die) s = .next t ∧ t.rd PLN_FMAP_STATUS.BUSY = 1 ∧
      t = { s with regs := t.regs, pln := t.pln, pwr := t.pwr } ∧ t.pln = { s.pln with touched := false } ∧
      t.clockOff 17 = false ∧
      (s.clockOff 17 = false → t.pwr = s.pwr ∧ RegsBut [PLN_FMAP_STATUS.BUSY.key 0 0 0] s t)) ∧
  (∀ (s : State) (die : Fin 2), s.bar0 die 0x10F000 = .act → s.on PLN_STATUS.ENABLED = true →
    ∃ t, exec (.validate die) s = .next t ∧ t.rd PLN_STATUS.CFG_REJECT = 1 ∧ OnlyRegs [PLN_STATUS.CFG_REJECT.key 0 0 0] s t) ∧
  (∀ s : State, s.on PLN_FMAP_STATUS.BUSY = true → s.firstFmapError = none →
    ∃ t, exec .validationDone s = .next t ∧ t.rd PLN_FMAP_STATUS.BUSY = 0 ∧
      t.rd PLN_FMAP_STATUS.VALID = b2n (!s.pln.touched) ∧ t.rd PLN_FMAP_STATUS.ERROR = 0 ∧
      OnlyRegs [PLN_FMAP_STATUS.BUSY.key 0 0 0, PLN_FMAP_STATUS.VALID.key 0 0 0, PLN_FMAP_STATUS.ERROR.key 0 0 0,
        PLN_FMAP_STATUS.ERR_TABLE.key 0 0 0, PLN_FMAP_ERR.ERR_INDEX.key 0 0 0] s t) ∧
  (∀ (s : State) (tab i c : Nat), s.on PLN_FMAP_STATUS.BUSY = true → s.firstFmapError = some (tab, i, c) →
    ∃ t, exec .validationDone s = .next t ∧ t.rd PLN_FMAP_STATUS.BUSY = 0 ∧ t.rd PLN_FMAP_STATUS.VALID = 0 ∧
      t.rd PLN_FMAP_STATUS.ERROR = c % 2 ^ 4 ∧ t.rd PLN_FMAP_STATUS.ERR_TABLE = tab % 2 ^ 2 ∧
      t.rd PLN_FMAP_ERR.ERR_INDEX = i % 2 ^ 16 ∧
      OnlyRegs [PLN_FMAP_STATUS.BUSY.key 0 0 0, PLN_FMAP_STATUS.VALID.key 0 0 0, PLN_FMAP_STATUS.ERROR.key 0 0 0,
        PLN_FMAP_STATUS.ERR_TABLE.key 0 0 0, PLN_FMAP_ERR.ERR_INDEX.key 0 0 0] s t) ∧
  (∀ (s : State) (f : Nat), s.pln.crossingDue = some f →
    ∃ t, exec .crossingSetDone s = .next t ∧ t.pln = { s.pln with crossingOld := [], crossingDue := none } ∧
      t = { s with regs := t.regs, pln := t.pln, ton := t.ton } ∧
      RegsBut ((List.range 8).map fun k => PLN_REACH_CNT.COUNT.key k 0 0) s t))

/-- TABLE_DMA (R62 to R64): an invalid body gives BAD_FIELD and moves nothing; a tenant that may not touch a word gives
DOMAIN_DENIED; from the device the words are written to the host before the completion; to the device the words that arrive are
written in ascending order, RESULT counts those with a field its class refused, and a read that ends early gives DMA_ERROR; a
word found uncorrectable in a read from the device gives MEM_UNCORR with nothing written (R402). A poisoned TLP adds its error
bit alone (R81). So TABLE_DMA completes in every form. -/
def Obligations.TableDmaMovesWords : Prop :=
  (∀ (s : State) (id : Nat) (d : Desc) (data : List DWord) (ecc : Option EccHit) (p : Bool), Runs s id opTableDma d →
    dmaBodyOk d = false →
    ∃ t, exec (.tableDma id ⟨data, p⟩ ecc) s = .next t ∧ Completed d stBadField none s t ∧ OnlyHpt s t) ∧
  (∀ (s : State) (id : Nat) (d : Desc) (data : List DWord) (ecc : Option EccHit) (p : Bool) (i : Nat), Runs s id opTableDma d →
    dmaBodyOk d = true → d.dom ≠ 0 → i < dmaLen d / 8 → s.tenantMay d.dom (dmaOff d + 8 * i) (dmaIn d) = false →
    ∃ t, exec (.tableDma id ⟨data, p⟩ ecc) s = .next t ∧ Completed d stDomainDenied none s t ∧ OnlyHpt s t) ∧
  (∀ (s : State) (id : Nat) (d : Desc) (data : List DWord), Runs s id opTableDma d → dmaBodyOk d = true →
    d.dom = 0 ∨ (∀ i < dmaLen d / 8, s.tenantMay d.dom (dmaOff d + 8 * i) false = true) → dmaIn d = false →
    ∃ t, exec (.tableDma id ⟨data, false⟩ none) s = .next t ∧ Completed d stOK (some 0) s t ∧ OnlyHpt s t ∧
      .host s.active (d.fld 8 8) false (s.dmaBytes (dmaOff d) (dmaLen d / 8)) ∈ t.out) ∧
  (∀ (s : State) (id : Nat) (d : Desc) (data : List DWord) (e : EccHit), Runs s id opTableDma d → dmaBodyOk d = true →
    d.dom = 0 → dmaIn d = false →
    ∃ t, exec (.tableDma id ⟨data, false⟩ (some e)) s = .next t ∧ Answered d stMemUncorr none t ∧ t.mem = s.mem ∧
      ∀ die addr ro bs, .host die addr ro bs ∈ t.out → .host die addr ro bs ∈ s.out) ∧
  (∀ (s : State) (id : Nat) (d : Desc) (data : List DWord) (ecc : Option EccHit), Runs s id opTableDma d → dmaBodyOk d = true →
    d.dom = 0 ∨ (∀ i < dmaLen d / 8, s.tenantMay d.dom (dmaOff d + 8 * i) true = true) → dmaIn d = true →
    data.length = dmaLen d / 8 →
    ∃ t, exec (.tableDma id ⟨data, false⟩ ecc) s = .next t ∧
      Completed d stOK (some (s.dmaWords (dmaOff d) data).2) (s.dmaWords (dmaOff d) data).1 t ∧
      OnlyHpt (s.dmaWords (dmaOff d) data).1 t) ∧
  (∀ (s : State) (id : Nat) (d : Desc) (data : List DWord) (ecc : Option EccHit), Runs s id opTableDma d → dmaBodyOk d = true →
    d.dom = 0 → dmaIn d = true → data.length < dmaLen d / 8 →
    ∃ t, exec (.tableDma id ⟨data, false⟩ ecc) s = .next t ∧
      Completed d stDmaError (some data.length) (s.dmaWords (dmaOff d) data).1 t) ∧
  (∀ (s : State) (id : Nat) (d : Desc) (data : List DWord) (ecc : Option EccHit), s.desc id = some d →
    exec (.tableDma id ⟨data, true⟩ ecc) s = exec (.tableDma id ⟨data, false⟩ ecc) (s.hptError s.active 5 d.ring d.hostAddr))

/-- TELEMETRY_CFG (R74, R75): a valid binding of domain 0 to a ring of domain 0 takes the lowest free number, which RESULT returns;
with all 64 in use NO_RESOURCE; a binding is removed by a descriptor of the domain that created it, and the records of it that
wait go; from another domain DOMAIN_DENIED. A binding number that is not in use is an invalid field. -/
def Obligations.TelemetryBindings : Prop :=
  (∀ (s : State) (id n : Nat) (d : Desc), Runs s id opTelemetryCfg d → d.fld 8 1 = 1 → d.fld 9 1 ≤ 15 → d.fld 11 1 = 0 →
    1 ≤ d.fld 14 2 → d.fld 12 2 + d.fld 14 2 ≤ telSources (d.fld 10 1) → telPeriodOk (d.fld 10 1) (d.fld 16 4) = true →
    zeros d.bytes 20 44 = true → d.dom = 0 → s.rd HPT_RING_DOMAIN.DOMAIN (d.fld 9 1) = 0 →
    n < 64 → (∀ b ∈ s.hpt.bindings, b.num ≠ n) → (∀ m, m < n → ∃ b ∈ s.hpt.bindings, b.num = m) →
    ∃ t, exec (.telemetryCfgCreate id) s = .next t ∧ Completed d stOK (some n) s t ∧
      t.hpt.bindings = s.hpt.bindings ++ [⟨n, 0, d.fld 9 1, d.fld 10 1, d.fld 12 2, d.fld 14 2, d.fld 16 4⟩] ∧
      MemSame s t ∧ ∀ k, 0x800000 ≤ k % 0x80000000 → nget t.regs k = nget s.regs k) ∧
  (∀ (s : State) (id : Nat) (d : Desc), Runs s id opTelemetryCfg d → d.fld 8 1 = 1 → d.fld 9 1 ≤ 15 → d.fld 11 1 = 0 →
    1 ≤ d.fld 14 2 → d.fld 12 2 + d.fld 14 2 ≤ telSources (d.fld 10 1) → telPeriodOk (d.fld 10 1) (d.fld 16 4) = true →
    zeros d.bytes 20 44 = true → d.dom = 0 → s.rd HPT_RING_DOMAIN.DOMAIN (d.fld 9 1) = 0 →
    (∀ m, m < 64 → ∃ b ∈ s.hpt.bindings, b.num = m) →
    ∃ t, exec (.telemetryCfgCreate id) s = .next t ∧ Completed d stNoResource none s t ∧ OnlyHpt s t ∧
      t.hpt.bindings = s.hpt.bindings) ∧
  (∀ (s : State) (id : Nat) (d : Desc) (b : Binding), Runs s id opTelemetryCfg d → d.fld 8 1 = 0 →
    zeros d.bytes 20 44 = true → s.hpt.bindings.find? (fun b => b.num == d.fld 11 1) = some b →
    b.dom = d.dom →
    ∃ t, exec (.telemetryCfgRemove id) s = .next t ∧ Completed d stOK none s t ∧ OnlyHpt s t ∧
      t.hpt.bindings = s.hpt.bindings.filter (fun x => x.num != d.fld 11 1) ∧
      t.hpt.telq = s.hpt.telq.filter (fun r => r.num != d.fld 11 1)) ∧
  (∀ (s : State) (id : Nat) (d : Desc), Runs s id opTelemetryCfg d → d.fld 8 1 = 0 →
    s.hpt.bindings.find? (fun b => b.num == d.fld 11 1) = none →
    ∃ t, exec (.telemetryCfgRemove id) s = .next t ∧ Completed d stBadField none s t ∧ OnlyHpt s t ∧
      t.hpt.bindings = s.hpt.bindings) ∧
  (∀ (s : State) (id : Nat) (d : Desc) (b : Binding), Runs s id opTelemetryCfg d → d.fld 8 1 = 0 →
    zeros d.bytes 20 44 = true → s.hpt.bindings.find? (fun b => b.num == d.fld 11 1) = some b →
    b.dom ≠ d.dom →
    ∃ t, exec (.telemetryCfgRemove id) s = .next t ∧ Completed d stDomainDenied none s t ∧ OnlyHpt s t ∧
      t.hpt.bindings = s.hpt.bindings)

/-- PLAN_LOAD and PLAN_CHECK (R91 to R94): with the Plan Engine off the load completes with PLN_DISABLED, an invalid body with
BAD_FIELD; otherwise the plan is read and its checks wait their turn; the oldest load's plan that passes every check is stored
with its bytes exactly as loaded, its SERIAL is kept and RESULT holds its first slot; one that fails is not stored. A load waits
while MAX_RD_OUT reads are outstanding (R81) and starts the Plan Engine's clock where that is gated (R474); after step 6 its
plan stands in LOADING, and the rest of the checks are taken from the bytes read; a word found uncorrectable gives MEM_UNCORR.
The checks of a load in their order (R92): a read that fails gives DMA_ERROR; a plan that is not well-formed BAD_PLAN; a plan of
another domain than a tenant's own DOMAIN_DENIED; a stored PLAN_ID PLAN_BUSY; a SERIAL not above the last one loaded REPLAY; a
TAG that the domain's key does not give AUTH_FAIL. -/
def Obligations.PlansAreLoadedAndChecked : Prop :=
  ((∀ (s : State) (id : Nat) (d : Desc), Runs s id opPlanLoad d → s.pln.loads.contains id = false → s.readSlot = true →
    s.on PLN_STATUS.ENABLED = false →
    ∃ t, exec (.planLoad id) s = .next t ∧ Completed d stPlnDisabled none s t ∧ OnlyHpt s t) ∧
  (∀ (s : State) (id : Nat) (d : Desc), Runs s id opPlanLoad d → s.pln.loads.contains id = false → s.readSlot = true →
    s.on PLN_STATUS.ENABLED = true → loadBodyOk d = false →
    ∃ t, exec (.planLoad id) s = .next t ∧ Completed d stBadField none s t ∧ OnlyHpt s t) ∧
  (∀ (s : State) (id : Nat) (d : Desc), Runs s id opPlanLoad d → s.pln.loads.contains id = false → s.readSlot = true →
    s.on PLN_STATUS.ENABLED = true → loadBodyOk d = true →
    ∃ t, exec (.planLoad id) s = .next t ∧ t = { s with regs := t.regs, pln := t.pln, pwr := t.pwr, out := t.out } ∧
      t.pln = { s.pln with loads := s.pln.loads ++ [id] } ∧ t.out = .read s.active (d.fld 8 8) (d.fld 16 4) :: s.out ∧
      t.clockOff 17 = false ∧ (s.clockOff 17 = false → t.regs = s.regs ∧ t.pwr = s.pwr)) ∧
  (∀ (s : State) (id : Nat) (d : Desc), Runs s id opPlanLoad d → s.readSlot = false → exec (.planLoad id) s = .next s) ∧
  (∀ (s : State) (id base : Nat) (d : Desc) (data : List Byte), Runs s id opPlanLoad d → s.pln.loads.head? = some id →
    s.pln.loading = none → s.loadStatus d data = (stOK, base) →
    ∃ t p, exec (.planCheck id ⟨data, false, false⟩ none) s = .next t ∧ Completed d stOK (some base) s t ∧
      t.pln.plans = s.pln.plans ++ [p] ∧ p.bytes = data.take (d.fld 16 4) ∧ p.base = base ∧ p.id = (planHdr p.bytes).id ∧
      t.pln.loads = s.pln.loads.tail ∧ t.pln.loading = none ∧
      t.rd PLN_SERIAL.SERIAL (planHdr p.bytes).domain = (planHdr p.bytes).serial % 2 ^ 32 ∧ MemSame s t) ∧
  (∀ (s : State) (id : Nat) (d : Desc) (data : List Byte), Runs s id opPlanLoad d → s.pln.loads.head? = some id →
    s.pln.loading = none → (s.loadStatus d data).1 ≠ stOK →
    ∃ t, exec (.planCheck id ⟨data, false, false⟩ none) s = .next t ∧ Completed d (s.loadStatus d data).1 none s t ∧
      t.pln = { s.pln with loads := s.pln.loads.tail } ∧ MemSame s t) ∧
  (∀ (s : State) (id : Nat) (d : Desc) (data : List Byte), Runs s id opPlanLoad d → s.pln.loads.head? = some id →
    s.pln.loading = none → s.headStatus d data = stOK →
    exec (.planCheck id ⟨data, false, true⟩ none) s =
      .next { s with pln := { s.pln with loading := some (id, data.take (d.fld 16 4)) } }) ∧
  (∀ (s : State) (id base : Nat) (d : Desc) (bs data : List Byte), Runs s id opPlanLoad d → s.pln.loads.head? = some id →
    s.pln.loading = some (id, bs) → s.bodyStatus bs = (stOK, base) →
    ∃ t p, exec (.planCheck id ⟨data, false, false⟩ none) s = .next t ∧ Completed d stOK (some base) s t ∧
      t.pln.plans = s.pln.plans ++ [p] ∧ p.bytes = bs ∧ p.base = base ∧ t.pln.loads = s.pln.loads.tail ∧
      t.pln.loading = none ∧ MemSame s t) ∧
  (∀ (s : State) (id : Nat) (d : Desc) (data : List Byte) (e : EccHit) (half : Bool), Runs s id opPlanLoad d →
    s.pln.loads.head? = some id →
    ∃ t, exec (.planCheck id ⟨data, false, half⟩ (some e)) s = .next t ∧ Answered d stMemUncorr none t ∧
      t.pln = { s.pln with loads := s.pln.loads.tail, loading := none } ∧ MemSame s t)) ∧
  ((∀ (s : State) (d : Desc) (data : List Byte), data.length < d.fld 16 4 → (s.loadStatus d data).1 = stDmaError) ∧
  (∀ (s : State) (d : Desc) (data : List Byte), d.fld 16 4 ≤ data.length → planWellFormed (data.take (d.fld 16 4)) = false →
    (s.loadStatus d data).1 = stBadPlan) ∧
  (∀ (s : State) (d : Desc) (data : List Byte), d.fld 16 4 ≤ data.length → planWellFormed (data.take (d.fld 16 4)) = true →
    d.dom ≠ 0 →
    (planHdr (data.take (d.fld 16 4))).domain ≠ d.dom →
    (s.loadStatus d data).1 = stDomainDenied) ∧
  (∀ (s : State) (d : Desc) (data : List Byte), d.fld 16 4 ≤ data.length → planWellFormed (data.take (d.fld 16 4)) = true →
    d.dom = 0 → (s.pln.plan (planHdr (data.take (d.fld 16 4))).id).isSome = true →
    (s.loadStatus d data).1 = stPlanBusy) ∧
  (∀ (s : State) (d : Desc) (data : List Byte), d.fld 16 4 ≤ data.length → planWellFormed (data.take (d.fld 16 4)) = true →
    d.dom = 0 → s.pln.plan (planHdr (data.take (d.fld 16 4))).id = none →
    (planHdr (data.take (d.fld 16 4))).serial ≤ s.rd PLN_SERIAL.SERIAL (planHdr (data.take (d.fld 16 4))).domain →
    (s.loadStatus d data).1 = stReplay) ∧
  (∀ (s : State) (d : Desc) (data : List Byte), d.fld 16 4 ≤ data.length → planWellFormed (data.take (d.fld 16 4)) = true →
    d.dom = 0 → s.pln.plan (planHdr (data.take (d.fld 16 4))).id = none →
    s.rd PLN_SERIAL.SERIAL (planHdr (data.take (d.fld 16 4))).domain < (planHdr (data.take (d.fld 16 4))).serial →
    (∀ key, aget s.sec.keys (planHdr (data.take (d.fld 16 4))).domain = some key →
      hmac256 key ((data.take (d.fld 16 4)).take 32 ++ (data.take (d.fld 16 4)).drop 64) ≠
        ((data.take (d.fld 16 4)).drop 32).take 32) →
    (s.loadStatus d data).1 = stAuthFail))

/-- PLAN_COMMIT, PLAN_ABORT and PLAN_FREE (R96 to R99, R109): a commit that passes joins the queue of its class and ring; one
refused completes at once; STRICT with a commit frame less than 40 frames ahead gives LATE_REJECT. An abort withdraws the plan's
waiting commits and counts them. A plan that is neither live nor named is freed; otherwise PLAN_BUSY. -/
def Obligations.CommitsAreQueuedAndWithdrawn : Prop :=
  (∀ (s : State) (id : Nat) (d : Desc), Runs s id opPlanCommit d → s.commitPending id = false → s.commitStatus d = stOK →
    ((s.commitReq d).strict = true → s.now + 40 ≤ (s.commitReq d).creq) →
    ∃ t r, exec (.planCommit id) s = .next t ∧ t = { s with orb := t.orb } ∧ r ∈ t.orb.reqs ∧
      t.orb.reqs.length = s.orb.reqs.length + 1 ∧ r.origin = .host d.id ∧ r.plan = d.fld 8 2 ∧ r.cls = d.fld 12 1 ∧
      r.src = d.ring ∧ r.creq = (s.commitReq d).creq ∧ r.seq = s.orb.nextSeq) ∧
  (∀ (s : State) (id : Nat) (d : Desc), Runs s id opPlanCommit d → s.commitPending id = false → s.commitStatus d ≠ stOK →
    ∃ t, exec (.planCommit id) s = .next t ∧ Completed d (s.commitStatus d) none s t ∧ OnlyHpt s t) ∧
  (∀ (s : State) (id : Nat) (d : Desc), Runs s id opPlanCommit d → s.commitPending id = false → s.commitStatus d = stOK →
    (s.commitReq d).strict = true → (s.commitReq d).creq < s.now + 40 →
    ∃ t, exec (.planCommit id) s = .next t ∧ Completed d stLateReject none s t ∧ OnlyHpt s t) ∧
  (∀ (s : State) (id : Nat) (d : Desc), Runs s id opPlanAbort d → d.fld 8 2 ≤ 1023 → zeros d.bytes 10 54 = true →
    d.dom = 0 → s.pln.cycle = none →
    ∃ t, exec (.planAbort id) s = .next t ∧
      t.orb.reqs = s.orb.reqs.filter (fun r => match r.origin with | .host _ => r.plan != d.fld 8 2 | _ => true) ∧
      Answered d stOK (some (s.orb.reqs.filter fun r => match r.origin with
        | .host _ => r.plan == d.fld 8 2
        | _ => false).length) t ∧ MemSame s t) ∧
  (∀ (s : State) (id : Nat) (d : Desc) (p : Plan), Runs s id opPlanFree d → d.fld 8 2 ≤ 1023 → zeros d.bytes 10 54 = true →
    d.dom = 0 → s.pln.plan (d.fld 8 2) = some p → s.isLive (d.fld 8 2) = false →
    s.pinned (d.fld 8 2) = false →
    ∃ t, exec (.planFree id) s = .next t ∧ Completed d stOK none s t ∧
      t.pln = { s.pln with plans := s.pln.plans.filter (fun y => y.id != d.fld 8 2) } ∧ MemSame s t) ∧
  (∀ (s : State) (id : Nat) (d : Desc) (p : Plan), Runs s id opPlanFree d → d.fld 8 2 ≤ 1023 → zeros d.bytes 10 54 = true →
    d.dom = 0 → s.pln.plan (d.fld 8 2) = some p →
    (s.isLive (d.fld 8 2) = true ∨ s.pinned (d.fld 8 2) = true) →
    ∃ t, exec (.planFree id) s = .next t ∧ Completed d stPlanBusy none s t ∧ OnlyHpt s t)

/-- COMMIT_ADMIT and REAPPLY_ADMIT (R99, R115, R116, R373): at a frame with no commit cycle the request chosen leaves its queue and
its cycle begins, with its commit frame at the requested frame or 40 frames on, whichever is later; with a cycle in progress, or
while a write of ENABLE waits to act (R111), nothing is admitted. -/
def Obligations.AdmissionBeginsACycle : Prop :=
  (∀ (s : State) (r : Req) (desc f : Nat), s.pln.cycle = none → s.orb.reqs = [r] → r.origin = .host desc → s.tooLate = [] →
    s.on LKS_STATUS.HOLD s.active = false → s.enableWaits = false → s.clockOff 17 = false → s.cal.sweep = none →
    f = max s.now r.prep →
    (s.reach f).choose f (List.range 8) = .take r → (s.reach f).admitStatus r = stOK →
    ∃ t c, exec (.commitAdmit none) s = .next t ∧ t.now = f ∧ t.orb.reqs = [] ∧ t.pln.cycle = some c ∧ c.req = r ∧
      c.phase = .checked ∧ c.prep = f ∧ c.c = max r.creq (f + 40) ∧ t.rd ORB_STATUS.ENGINE_BUSY = 1 ∧
      t.rd PLN_STATUS.PHASE = 1) ∧
  (∀ (s : State) (r : Req), s.pln.cycle = none → s.orb.reqs.find? (fun r => r.origin == .reapply) = some r →
    s.enableWaits = false → s.clockOff 17 = false →
    ∃ t c, exec .reapplyAdmit s = .next t ∧ t.now = max s.now r.prep ∧ t.pln.cycle = some c ∧ c.req = r ∧ c.phase = .checked ∧
      c.c = max r.creq (max s.now r.prep + 40) ∧ (∀ x ∈ t.orb.reqs, x.seq ≠ r.seq) ∧ MemSame s t) ∧
  (∀ (s : State) (c : Cycle), s.pln.cycle = some c → exec .reapplyAdmit s = .next s) ∧
  (∀ (s : State) (c : Cycle), s.pln.cycle = some c → s.tooLate = [] → s.orb.reqs ≠ [] →
    exec (.commitAdmit none) s = .next s) ∧
  (∀ s : State, s.enableWaits = true → exec .reapplyAdmit s = .next s)

/-- The steps of a commit cycle (R90, R101 to R103, R144): staging from C − 16, with at most 256 writes and 256 dither settings for
a tile in a frame and one COMMIT_STAGING for each frame, the swap at C once the staging frames before C are sent, the MAKEBB
targets after the dwell, the verify samples at V and the decision at V + 6, 2 frames later on a die that lags (R390). -/
def Obligations.CommitStepsFollowTheTimeline : Prop :=
  (∀ (s : State) (c : Cycle), s.pln.cycle = some c → c.phase = .checked → s.on SAF_STATUS.GLOBAL_ECLIPSE = false →
    c.sent = 0 → s.lag = 0 → c.c ≠ 0 →
    ∃ t c', exec .commitStaging s = .next t ∧ t.now = max s.now (c.c - 16) ∧ t.pln.cycle = some c' ∧ c'.phase = .staged ∧
      c'.req = c.req ∧ c'.c = c.c ∧ c'.sent = 1 ∧ c'.todo = (oneFrame Stage.ch ((s.stagesOf c.req).flatMap Stage.writes)).2 ∧
      t.rd PLN_STATUS.PHASE = 2 ∧ t.pln.live = s.pln.live ∧ MemSame s t) ∧
  (∀ (s : State) (c : Cycle), s.pln.cycle = some c → c.phase ≠ .checked → c.todo ≠ [] ∨ c.dtodo ≠ [] →
    s.stageFrame c < c.c →
    ∃ t c', exec .commitStaging s = .next t ∧ t.now = max s.now (s.stageFrame c) ∧ t.pln.cycle = some c' ∧
      c'.phase = c.phase ∧ c'.sent = c.sent + 1 ∧ c'.todo = (oneFrame Stage.ch c.todo).2 ∧ MemSame s t) ∧
  (∀ (s : State) (c : Cycle), s.pln.cycle = some c → c.phase ≠ .checked → c.todo = [] → c.dtodo = [] →
    exec .commitStaging s = .next s) ∧
  (∀ (s : State) (c : Cycle), s.pln.cycle = some c → c.phase = .staged → s.on SAF_STATUS.GLOBAL_ECLIPSE = false →
    (c.todo = [] ∧ c.dtodo = []) ∨ c.c ≤ s.stageFrame c →
    ∃ t c', exec .commitSwap s = .next t ∧ t.now = max s.now c.c ∧ t.pln.cycle = some c' ∧ c'.phase = .swapped ∧
      c'.req = c.req ∧ t.rd PLN_STATUS.PHASE = 3 ∧ t.rd PLN_LAST_C_LO.TICKS = ticksOf c.c % 2 ^ 32 ∧
      t.rd PLN_LAST_C_HI.TICKS = ticksOf c.c / 2 ^ 32 ∧ t.pln.live = s.pln.live ∧ MemSame s t) ∧
  (∀ (s : State) (c : Cycle) (d : Nat) (x : Stage), s.pln.cycle = some c → c.dwell = some d → c.phase = .swapped →
    c.eclipsed = false → c.stage = [x] → x.kind = 3 → x.next.isSome = true → s.outState x.ch ≠ stChange →
    ∃ t, exec .makebbTarget s = .next t ∧ t.now = max s.now (c.c + d) ∧ t.pln.cycle = some { c with phase := .dwelt } ∧
      t.live x.ch = x.target % 2 ^ 16 ∧ MemSame s t ∧
      RegsBut [DRV_CH_LIVE.LIVE.key (x.ch / 2048) (x.ch % 2048) 0, DRV_CNT_OVERRIDE.COUNT.key (x.ch / 2048) 0 0] s t) ∧
  (∀ (s : State) (c : Cycle) (raws : List (Fin 1024 × BitVec 12)), s.pln.cycle = some c →
    (c.phase = .swapped ∧ c.dwell = none ∨ c.phase = .dwelt) → c.todo = [] → c.dtodo = [] →
    ∃ t c', exec (.verifySample raws) s = .next t ∧ t.now = max s.now c.v ∧ t.pln.cycle = some c' ∧ c'.phase = .sampled ∧
      c'.codes.map (fun x => x.1) = (s.verifiesOf c.req).map (fun v => v.monitor) ∧
      c'.unarmed = !(s.on PWR_STATUS.ARMED) ∧ t.rd PLN_STATUS.PHASE = 4 ∧ MemSame s t) ∧
  (∀ (s : State) (c : Cycle) (desc : Nat), s.pln.cycle = some c → c.phase = .sampled → c.unarmed = false → c.eclipsed = false →
    c.req.origin = .host desc →
    ∃ t c', exec .verifyDecision s = .next t ∧ t.now = max s.now (c.v + 6 + s.lag) ∧ t.pln.cycle = some c' ∧ c'.phase = .decided ∧
      c'.evaluated = ((s.verifiesOf c.req).filter fun v => (aget c.codes v.monitor).getD 0 != 0).length ∧
      c'.failed = (((s.verifiesOf c.req).filter fun v => (aget c.codes v.monitor).getD 0 != 0).filter
        (s.entryFails c.codes)).length ∧
      t.rd PLN_VFY_RESULT.FAILED = c'.failed % 2 ^ PLN_VFY_RESULT.FAILED.w ∧ MemSame s t)

/-- COMMIT_RESOLVE (R106, R107): at V + 7, 2 frames later on a die that lags (R390), a commit from a descriptor whose entries all
pass becomes the live plan and completes with OK, its RESULT counting the entries evaluated and failed (its lateness, where it
was late); one with a failed entry falls back: FB is 1, the fallback is counted, and it completes with VERIFY_FAILED, FALLBACK
and VERIFY_FAIL. Either way the cycle ends. -/
def Obligations.CommitsResolveOrFallBack : Prop :=
  (∀ (s : State) (c : Cycle) (d : Desc), s.pln.cycle = some c → c.phase = .decided → c.req.origin = .host d.id →
    s.desc d.id = some d → c.eclipsed = false → c.failed = 0 → c.late = none →
    ∃ t, exec .commitResolve s = .next t ∧ t.now = max s.now (c.v + 7 + s.lag) ∧ t.pln.cycle = none ∧
      t.pln.live = overlayLive s.pln.live (s.planBytes c.req.plan) ∧ t.rd PLN_LIVE.VALID = 1 ∧ t.rd PLN_LIVE.FB = 0 ∧
      t.rd PLN_LIVE.LIVE_ID = c.req.plan % 2 ^ PLN_LIVE.LIVE_ID.w ∧ t.rd ORB_STATUS.ENGINE_BUSY = 0 ∧
      Answered d stOK (some (c.evaluated * 2 ^ 16)) t) ∧
  (∀ (s : State) (c : Cycle) (d : Desc), s.pln.cycle = some c → c.phase = .decided → c.req.origin = .host d.id →
    s.desc d.id = some d → c.eclipsed = false → c.unarmed = false → c.failed ≠ 0 → c.tileLost = false → c.late = none →
    ∃ t, exec .commitResolve s = .next t ∧ t.now = max s.now (c.v + 7 + s.lag) ∧ t.pln.cycle = none ∧
      t.pln.live = overlayLive c.before (match c.req.fb with | some p => s.planBytes p | none => []) ∧
      t.rd PLN_LIVE.VALID = 1 ∧ t.rd PLN_LIVE.FB = 1 ∧
      t.rd PLN_CNT_FALLBACK.COUNT = min (s.rd PLN_CNT_FALLBACK.COUNT + 1) (2 ^ 32 - 1) ∧
      t.rd ORB_STATUS.ENGINE_BUSY = 0 ∧ Answered d stVerifyFailed (some (c.evaluated * 2 ^ 16 + c.failed)) t 6)

/-- The enable of the Plan Engine and CHANGE (R111, R141): a write of ENABLE waits for the cycle's end and then shows in PLN_STATUS;
setting it without a valid fabric is refused, also where VALID cleared while the write waited (assumption 87, the model's
choice); a channel leaves CHANGE at the end of its 40 frames, for the state that is then its own. Queue samples and the token
buckets (R123, R125, R136): at the next millisecond a queue that a binding covers is sampled into a record and the interval
begins again; BURST takes a value other than 0 and clamps the bucket's level; STAT_CLR sets the greatest delays to 0. That a
boundary is sampled once is the model's choice (assumption 72). -/
def Obligations.EnableQueuesAndBuckets : Prop :=
  ((∀ (s : State) (die : Fin 2) (v : Bool), s.bar0 die 0x100000 = .act → (v = true → s.on PLN_FMAP_STATUS.VALID = true) →
    ∃ t, exec (.plnEnableWrite die v) s = .next t ∧ t.rd PLN_CTL.ENABLE = b2n v ∧ t.pln = { s.pln with enablePending := some v } ∧
      t = { s with regs := t.regs, pln := t.pln } ∧ RegsBut [PLN_CTL.ENABLE.key 0 0 0] s t) ∧
  (∀ (s : State) (die : Fin 2), s.bar0 die 0x100000 = .act → s.on PLN_FMAP_STATUS.VALID = false →
    ∃ t, exec (.plnEnableWrite die true) s = .next t ∧ t.rd PLN_STATUS.CFG_REJECT = 1 ∧
      OnlyRegs [PLN_STATUS.CFG_REJECT.key 0 0 0] s t) ∧
  (∀ (s : State) (v : Bool), s.pln.enablePending = some v → s.pln.cycle = none →
    (v = true → s.on PLN_FMAP_STATUS.VALID = true) →
    ∃ t, exec .plnEnableApply s = .next t ∧ t.on PLN_STATUS.ENABLED = v ∧ t.pln.enablePending = none ∧ t.pln.live = s.pln.live ∧
      MemSame s t) ∧
  (∀ s : State, s.pln.enablePending = some true → s.pln.cycle = none → s.on PLN_STATUS.ENABLED = false →
    s.on PLN_FMAP_STATUS.VALID = false →
    ∃ t, exec .plnEnableApply s = .next t ∧ t.rd PLN_CTL.ENABLE = 0 ∧ t.rd PLN_STATUS.CFG_REJECT = 1 ∧
      t = { s with regs := t.regs, pln := { s.pln with enablePending := none } } ∧
      RegsBut [PLN_CTL.ENABLE.key 0 0 0, PLN_STATUS.CFG_REJECT.key 0 0 0] s t) ∧
  (∀ (s : State) (c : Cycle), s.pln.cycle = some c → exec .plnEnableApply s = .next s) ∧
  (∀ (s : State) (tile : Fin 8) (ch : Fin 2048), nget s.drv.changeDue (2048 * tile + ch) ≠ 0 →
    ∃ t, exec (.changeExpiry tile ch) s = .next t ∧ nget t.drv.changeDue (2048 * tile + ch) = 0 ∧
      t.now = max s.now (nget s.drv.changeDue (2048 * tile + ch)) ∧
      t.outState (2048 * tile + ch) = s.stateOf (2048 * tile + ch) ∧
      t = { s with now := t.now, regs := t.regs, drv := t.drv, cal := t.cal } ∧
      RegsBut [DRV_CH_STATE.STATE.key tile ch 0] s t)) ∧
  ((∀ (s : State) (q : Nat) (b : Binding), s.hpt.bindings = [b] → b.type = 1 → b.first = q → b.count = 1 → q < 520 →
    s.pln.cycle = none →
    ∃ t, exec .queueSample s = .next t ∧ t.now = nextAt (max s.now (nget s.marks 0)) 20000 0 ∧
      t.hpt.telq = s.hpt.telq ++ [⟨b.num, b.tq, 1, q, ticksOf t.now, ({ s with now := t.now } : State).queuePayload q⟩] ∧
      t = { s with now := t.now, hpt := t.hpt, orb := t.orb, marks := t.marks } ∧ nget t.marks 0 = t.now + 1 ∧
      t.orb.reqs = s.orb.reqs) ∧
  (∀ (s : State) (die : Fin 2) (b : Fin 10) (v : BitVec 24), 1 ≤ b.val → b.val ≤ 7 → s.bar0 die (0x200200 + 16 * b) = .act →
    v.toNat ≠ 0 →
    ∃ t, exec (.bucketBurstWrite die b v) s = .next t ∧ t.rd ORB_TB_CFG.BURST b = v.toNat ∧
      t.bktLevel b = min (v.toNat * 20000 : Int) (s.bktLevel b) ∧ t = { s with regs := t.regs, orb := t.orb } ∧
      RegsBut [ORB_TB_CFG.BURST.key b 0 0] s t) ∧
  (∀ (s : State) (die : Fin 2) (b : Fin 10), 1 ≤ b.val → b.val ≤ 7 → s.bar0 die (0x200200 + 16 * b) = .act →
    ∃ t, exec (.bucketBurstWrite die b 0) s = .next t ∧ t.rd ORB_STATUS.CFG_REJECT = 1 ∧
      OnlyRegs [ORB_STATUS.CFG_REJECT.key 0 0 0] s t) ∧
  (∀ (s : State) (die : Fin 2), s.bar0 die 0x200000 = .act →
    ∃ t, exec (.statClr die) s = .next t ∧ (∀ k : Fin 8, t.rd ORB_CLASS_STAT.MAX_HOL_US k = 0) ∧
      OnlyRegs ((List.range 8).map fun k => ORB_CLASS_STAT.MAX_HOL_US.key k 0 0) s t))

/-- ORBIT_LOAD, ORBIT_START and ORBIT_STOP (R130 to R133): a load that passes replaces the shadow list, and completes at once with
the list's length or, with SWAP while a list runs, waits for the swap; a start makes the shadow list active with its base, or,
with NOW or a time that has passed, asks for a commit at once; a stop of a running list waits for its boundary, before B it
cancels the start and the list returns to the shadow, and without a list gives NO_ORBIT. With the Plan Engine disabled the first
commit is skipped, and the start ends; from which frame the list then runs is the model's reading (assumption 30). What a
running Orbit list does (R128 to R133): 40 frames before an entry it asks for the entry's commit; at its boundary the entry
starts, and at a cycle boundary a cycle is counted; at a swap the shadow list becomes active and the load completes; at the stop
the list is empty and the stop completes with the cycles made; a list that commits nothing completes its start. -/
def Obligations.OrbitListCommandsAndRuns : Prop :=
  ((∀ (s : State) (id : Nat) (d : Desc) (data : List Byte), Runs s id opOrbitLoad d → s.orb.swap = none →
    s.orbitLoadStatus d data = stOK → (d.fld 18 1 = 0 ∨ s.orbitRunning = false) →
    ∃ t, exec (.orbitLoad id ⟨data, false⟩) s = .next t ∧ t.orb = { s.orb with shadow := (words8 (d.fld 16 2) data).map orbitEnt } ∧
      Completed d stOK (some (orbitLen ((words8 (d.fld 16 2) data).map orbitEnt))) s t ∧ MemSame s t) ∧
  (∀ (s : State) (id : Nat) (d : Desc) (data : List Byte), Runs s id opOrbitLoad d → s.orb.swap = none →
    s.orbitLoadStatus d data = stOK → d.fld 18 1 = 1 → s.orbitRunning = true →
    ∃ t, exec (.orbitLoad id ⟨data, false⟩) s = .next t ∧ t = { s with orb := t.orb, out := t.out } ∧
      t.orb = { s.orb with shadow := (words8 (d.fld 16 2) data).map orbitEnt, swap := some (id, s.now) }) ∧
  (∀ (s : State) (id : Nat) (d : Desc) (data : List Byte), Runs s id opOrbitLoad d → s.orb.swap = none →
    s.orbitLoadStatus d data ≠ stOK →
    ∃ t, exec (.orbitLoad id ⟨data, false⟩) s = .next t ∧ Completed d (s.orbitLoadStatus d data) none s t ∧ OnlyHpt s t) ∧
  (∀ (s : State) (id : Nat) (d : Desc) (data : List Byte), s.desc id = some d →
    exec (.orbitLoad id ⟨data, true⟩) s = exec (.orbitLoad id ⟨data, false⟩) (s.hptError s.active 5 d.ring d.hostAddr)) ∧
  (∀ (s : State) (id : Nat) (d : Desc), Runs s id opOrbitStart d → d.fld 16 1 = 0 → zeros d.bytes 17 47 = true →
    s.keysErased = false → s.orb.active = [] → s.orb.start = none → s.orb.shadow ≠ [] → s.timeOut (d.fld 8 8) = false →
    s.frameAt (d.fld 8 8) < s.now → s.on PLN_STATUS.ENABLED = true →
    ∃ t r, exec (.orbitStart id) s = .next t ∧ t.orb.active = s.orb.shadow ∧ t.orb.base = some (s.frameAt (d.fld 8 8)) ∧
      r ∈ t.orb.reqs ∧ r.origin = .join ∧ r.prep = s.now ∧ t.orb.reqs.length = s.orb.reqs.length + 1 ∧
      t = { s with regs := t.regs, orb := t.orb }) ∧
  (∀ (s : State) (id : Nat) (d : Desc), Runs s id opOrbitStart d → d.fld 16 1 = 0 → zeros d.bytes 17 47 = true →
    s.keysErased = false → s.orb.active = [] → s.orb.start = none → s.orb.shadow ≠ [] → s.timeOut (d.fld 8 8) = false →
    s.now ≤ s.frameAt (d.fld 8 8) →
    ∃ t st, exec (.orbitStart id) s = .next t ∧ t.orb.active = s.orb.shadow ∧ t.orb.shadow = [] ∧
      t.orb.base = some (s.frameAt (d.fld 8 8)) ∧ t.orb.start = some st ∧ st.desc = id ∧ st.at_ = some (s.frameAt (d.fld 8 8)) ∧
      t.orb.reqs = s.orb.reqs ∧ t = { s with regs := t.regs, orb := t.orb } ∧ RegsBut [ORB_ORBIT_CYCLES.COUNT.key 0 0 0] s t) ∧
  (∀ (s : State) (id : Nat) (d : Desc), Runs s id opOrbitStart d → d.fld 16 1 = 1 → zeros d.bytes 17 47 = true →
    s.keysErased = false → s.orb.active = [] → s.orb.start = none → s.orb.shadow ≠ [] →
    (s.on PLN_STATUS.ENABLED = true → ∃ t r, exec (.orbitStart id) s = .next t ∧ t.orb.active = s.orb.shadow ∧ t.orb.base = none ∧
      r ∈ t.orb.reqs ∧ r.origin = .join ∧ r.prep = s.now ∧ t.orb.reqs.length = s.orb.reqs.length + 1 ∧
      t = { s with regs := t.regs, orb := t.orb }) ∧
    (s.on PLN_STATUS.ENABLED = false → (orbitStand s.orb.shadow 0).isSome = true →
      ∃ t, exec (.orbitStart id) s = .next t ∧ t.orb.active = s.orb.shadow ∧ t.orb.base = some (s.now + 40) ∧ t.orb.reqs = s.orb.reqs ∧
        t.rd ORB_CNT_SKIP.COUNT = min (s.rd ORB_CNT_SKIP.COUNT + 1) (2 ^ 32 - 1) ∧ t.orb.start = none ∧
        Answered d stPlnDisabled none t)) ∧
  (∀ (s : State) (id : Nat) (d : Desc), Runs s id opOrbitStop d → d.fld 8 1 < 2 → zeros d.bytes 9 55 = true →
    s.orbitRunning = true → s.orb.stop = none →
    exec (.orbitStop id) s = .next { s with orb := { s.orb with stop := some ⟨id, d.fld 8 1, s.now⟩ } }) ∧
  (∀ (s : State) (id : Nat) (d : Desc), Runs s id opOrbitStop d → d.fld 8 1 < 2 → zeros d.bytes 9 55 = true →
    s.orbitRunning = false → s.orb.active ≠ [] → s.orb.stop = none →
    ∃ t, exec (.orbitStop id) s = .next t ∧ t.orb.active = [] ∧ t.orb.shadow = s.orb.active ∧ t.orb.base = none ∧
      t.orb.start = none ∧ t.orb.reqs = s.orb.reqs.filter (fun r => !r.orbital) ∧ Answered d stOK (some 0) t ∧ MemSame s t) ∧
  (∀ (s : State) (id : Nat) (d : Desc), Runs s id opOrbitStop d → d.fld 8 1 < 2 → zeros d.bytes 9 55 = true →
    s.orb.active = [] → s.orb.start = none → s.orb.stop = none →
    ∃ t, exec (.orbitStop id) s = .next t ∧ Completed d stNoOrbit none s t ∧ OnlyHpt s t)) ∧
  ((∀ (s : State) (st : OrbitStart) (f : Nat), s.orb.start = some st → st.at_ = some f → st.idle = false →
    exec .orbitListStart s = .next { s with now := max s.now f }) ∧
  (∀ (s : State) (st : OrbitStart) (f : Nat) (d : Desc), s.orb.start = some st → st.at_ = some f → st.idle = true →
    s.desc st.desc = some d →
    ∃ t, exec .orbitListStart s = .next t ∧ t.now = max s.now f ∧ t.orb.start = none ∧ Answered d stOK none t ∧ MemSame s t) ∧
  (∀ (s : State) (e i : Nat) (x : OrbitEnt), s.nextEdge = some (e, i) → (s.reach (e - 40)).edge e = .entry →
    s.orb.active[i]? = some x → x.hold = false → s.on PLN_STATUS.ENABLED = true → (∀ r ∈ s.orb.reqs, r.orbital = false) →
    ∃ t r, exec (.orbitEntryPrep none) s = .next t ∧ t.now = max s.now (e - 40) ∧ r ∈ t.orb.reqs ∧ r.origin = .orbit i ∧
      r.plan = x.plan ∧ r.cls = 2 ∧ r.creq = e ∧ r.prep = e - 40 ∧ t.orb.reqs.length = s.orb.reqs.length + 1 ∧
      t.orb.settled = e + 1 ∧ t = { s with now := t.now, orb := t.orb }) ∧
  (∀ (s : State) (e i : Nat), s.nextStart = some (e, i) → s.edge e = .entry →
    ∃ t, exec .orbitEntryStart s = .next t ∧ t.now = max s.now e ∧ t.orb = { s.orb with entered := e + 1 } ∧
      (cycleEdge s.orb.active (s.orb.base.getD 0) e = true → s.orb.base.getD 0 < e →
        t.rd ORB_ORBIT_CYCLES.COUNT = min (s.rd ORB_ORBIT_CYCLES.COUNT + 1) (2 ^ 32 - 1)) ∧
      t = { s with now := t.now, regs := t.regs, orb := t.orb, sgf := t.sgf } ∧
      RegsBut [ORB_ORBIT_CYCLES.COUNT.key 0 0 0] s t) ∧
  (∀ (s : State) (e i id a : Nat) (d : Desc), s.nextStart = some (e, i) → s.orb.swap = some (id, a) → s.edge e = .swap →
    s.desc id = some d →
    ∃ t, exec .orbitSwap s = .next t ∧ t.now = max s.now e ∧ t.orb.active = s.orb.shadow ∧ t.orb.shadow = [] ∧
      t.orb.base = some e ∧ t.orb.swap = none ∧ t.rd ORB_ORBIT_CYCLES.COUNT = 0 ∧
      Answered d stOK (some (orbitLen s.orb.shadow)) t ∧ MemSame s t) ∧
  (∀ (s : State) (e i : Nat) (p : OrbitStop) (d : Desc), s.nextStart = some (e, i) → s.edge e = .stop → s.orb.stop = some p →
    s.desc p.desc = some d → s.orb.start = none → s.orb.swap = none → (∀ r ∈ s.orb.reqs, r.orbital = false) →
    ∃ t, exec .orbitStopEffect s = .next t ∧ t.now = max s.now e ∧ t.orb.active = [] ∧ t.orb.base = none ∧ t.orb.stop = none ∧
      t.orb.reqs = s.orb.reqs ∧ Answered d stOK (some (t.rd ORB_ORBIT_CYCLES.COUNT)) t ∧ MemSame s t))

/-- Tile Links and the update queue (R144 to R146, R148): a valid frame of the die that the tile follows carries a waiting write
into the tile's queue and marks the link; a queued write is applied to LIVE at its frame, and one that came late at the first
frame after its arrival, and is counted; with no frame for 20,000 frames the tile sets ORPHAN and ORPH of its gate words and
applies BLOCK_CODE, at most CAP, to its gates; ORPHAN clears when a link delivers again. In a frame that a link delivers the
tile forms each bound channel's applied code (R142). Dither writes and heater fold-back (R151 to R155): a channel without a
binding takes DMODE, AMP and TONE, one with a binding refuses; once the mean has stood above ICAP for 200 frames the factor
falls to 7/8 and the step is counted, or at the floor FOLD_FLOOR is set, the current-mode channels rest and the fault is raised;
a mean that is not above ICAP resets the counter; a clear restores the factor unless the mean still exceeds ICAP. -/
def Obligations.TileLinksAndDither : Prop :=
  ((∀ (s : State) (tile : Fin 8) (die : Fin 2) (idle : Bool),
    ∃ t, exec (.tileLinkFrame tile die ⟨idle, .none⟩) s = .next t ∧ nget t.drv.lastValid (2 * tile + die) = s.now + 1 ∧
      t.now = s.now ∧ MemSame s t) ∧
  (∀ (s : State) (tile : Fin 8) (die : Fin 2) (ch : Nat), ch ∈ s.tileChans tile → nget s.drv.formed tile ≠ s.now + 1 →
    s.on DRV_STATUS.ORPHAN tile = false →
    ∃ t, exec (.tileLinkFrame tile die ⟨true, .none⟩) s = .next t ∧
      t.chRd DRV_CH_LIVE.APPLIED ch = (s.appliedOf ch s.now).1 % 2 ^ 16 ∧
      t.chRd DRV_CH_STATE.BLOCKED ch = b2n (s.blocked ch) ∧ nget t.drv.formed tile = s.now + 1) ∧
  (∀ (s : State) (tile : Fin 8) (die : Fin 2) (w : CodeWrite), s.rd DRV_STATUS.SRC tile = die.val → s.frozen tile = false →
    s.lostCmd tile = false → s.drv.down = [w] → s.drv.queue = [] → w.ch / 2048 = tile.val → (w.rank = 3 ∨ w.rank = 4) →
    s.outState w.ch ≠ stChange →
    ∃ t, exec (.tileLinkFrame tile die ⟨false, .none⟩) s = .next t ∧ t.drv.down = [] ∧
      t.drv.queue = [{ w with taken := s.now + 1 }] ∧ MemSame s t) ∧
  (∀ (s : State) (tile : Fin 8) (w : CodeWrite), s.queued tile = [w] → s.outState w.ch ≠ stChange →
    s.twilit tile w = false →
    ∃ t, exec (.liveUpdateApply tile none) s = .next t ∧ t.now = max s.now w.due ∧ t.live w.ch = w.code % 2 ^ 16 ∧
      (w.late = true → t.rd DRV_CNT_LATE.COUNT tile = min (s.rd DRV_CNT_LATE.COUNT tile + 1) (2 ^ DRV_CNT_LATE.COUNT.w - 1)) ∧
      t.queued tile = [] ∧ MemSame s t) ∧
  (∀ (s : State) (tile : Fin 8),
    ∃ t, exec (.tileOrphan tile) s = .next t ∧ t.rd DRV_STATUS.ORPHAN tile = 1 ∧
      t.now = max s.now (max (nget s.drv.lastValid (2 * tile)) (nget s.drv.lastValid (2 * tile + 1)) + 20000) ∧
      (∀ ch ∈ s.gateChannels, ch / 2048 = tile.val → t.chRd DRV_CH_GATEW.ORPH ch = 1 ∧
        t.chRd DRV_CH_LIVE.APPLIED ch = min (s.chRd DRV_CH_GUARDW.BLOCK_CODE ch) (s.chRd DRV_CH_GUARDW.CAP ch) % 2 ^ 16) ∧
      t = { s with now := t.now, regs := t.regs, drv := t.drv, mon := t.mon, cal := t.cal }) ∧
  (∀ (s : State) (tile : Fin 8) (die : Fin 2),
    ∃ t, exec (.tileLinkResume tile die) s = .next t ∧ t.rd DRV_STATUS.ORPHAN tile = 0 ∧
      nget t.drv.lastValid (2 * tile + die) = s.now + 1 ∧ t = { s with regs := t.regs, drv := t.drv } ∧
      RegsBut [DRV_STATUS.ORPHAN.key tile 0 0, DRV_STATUS.LINK_A.key tile 0 0, DRV_STATUS.LINK_B.key tile 0 0] s t)) ∧
  ((∀ (s : State) (die : Fin 2) (tile : Fin 8) (ch : Fin 2048) (value : Word),
    s.bar0 die (0x01010000 + 0x200000 * tile + 0x20 * ch + 0xC) = .act → s.ditherBound (2048 * tile + ch) = false →
    value.toNat / 2 ^ 30 < 3 → value.toNat % 128 ≤ 70 →
    ∃ t, exec (.ditherWrite die tile ch value) s = .next t ∧ t.rd DRV_CH_DITHER.DMODE tile ch = value.toNat / 2 ^ 30 ∧
      t.rd DRV_CH_DITHER.AMP tile ch = value.toNat / 256 % 256 ∧ t.rd DRV_CH_DITHER.TONE tile ch = value.toNat % 128 ∧
      t = { s with regs := t.regs, drv := t.drv } ∧
      RegsBut [DRV_CH_DITHER.DMODE.key tile ch 0, DRV_CH_DITHER.AMP.key tile ch 0, DRV_CH_DITHER.TONE.key tile ch 0] s t) ∧
  (∀ (s : State) (die : Fin 2) (tile : Fin 8) (ch : Fin 2048) (value : Word),
    s.bar0 die (0x01010000 + 0x200000 * tile + 0x20 * ch + 0xC) = .act → s.ditherBound (2048 * tile + ch) = true →
    ∃ t, exec (.ditherWrite die tile ch value) s = .next t ∧ t.rd DRV_STATUS.CFG_REJECT tile = 1 ∧
      OnlyRegs [DRV_STATUS.CFG_REJECT.key tile 0 0] s t) ∧
  (∀ (s : State) (tile : Fin 8) (mean : BitVec 16), s.rd DRV_FOLD_CFG.ICAP tile < mean.toNat →
    0x1000 ≤ s.rd DRV_FOLD_STATUS.FACTOR tile * 7 / 8 → s.rd DRV_FOLD_STATUS.FACTOR tile ≤ 0x10000 →
    ∃ t, exec (.foldbackStep tile mean) s = .next t ∧
      t.now = max s.now ((if nget s.drv.foldAt tile = 0 then s.now + 1 else nget s.drv.foldAt tile) + 198) ∧
      t.rd DRV_FOLD_STATUS.FACTOR tile = s.rd DRV_FOLD_STATUS.FACTOR tile * 7 / 8 ∧ t.rd DRV_IVHV.IMEAN tile = mean.toNat ∧
      t.on DRV_STATUS.FOLD_ACTIVE tile = true ∧
      t = { s with now := t.now, regs := t.regs, saf := t.saf, sgf := t.sgf, drv := { s.drv with foldAt := t.drv.foldAt } } ∧
      RegsBut [DRV_FOLD_STATUS.FACTOR.key tile 0 0, DRV_FOLD_STATUS.STEPS.key tile 0 0, DRV_IVHV.IMEAN.key tile 0 0,
        DRV_IVHV.IPEAK.key tile 0 0, DRV_STATUS.FOLD_ACTIVE.key tile 0 0] s t) ∧
  (∀ (s : State) (tile : Fin 8) (mean : BitVec 16), mean.toNat ≤ s.rd DRV_FOLD_CFG.ICAP tile →
    ∃ t, exec (.foldbackStep tile mean) s = .next t ∧ nget t.drv.foldAt tile = 0 ∧ t.rd DRV_IVHV.IMEAN tile = mean.toNat ∧
      t = { s with regs := t.regs, drv := { s.drv with foldAt := t.drv.foldAt } } ∧
      RegsBut [DRV_IVHV.IMEAN.key tile 0 0, DRV_IVHV.IPEAK.key tile 0 0] s t) ∧
  (∀ (s : State) (tile : Fin 8) (mean : BitVec 16), s.rd DRV_FOLD_CFG.ICAP tile < mean.toNat →
    s.rd DRV_FOLD_STATUS.FACTOR tile * 7 / 8 < 0x1000 →
    ∃ t, exec (.foldbackStep tile mean) s = .next t ∧ t.rd DRV_STATUS.FOLD_FLOOR tile = 1 ∧
      (∀ ch ∈ s.tileChans tile, s.chOn DRV_CH_STATE.MODE ch = true → t.outState ch = stRest) ∧
      (∃ o, t.saf.raised = s.saf.raised ++ [o] ∧ o.source = srcTile tile 7) ∧ MemSame s t) ∧
  (∀ (s : State) (die : Fin 2) (tile : Fin 8) (mean : BitVec 16), s.bar0 die (0x01000010 + 0x200000 * tile) = .act →
    mean.toNat ≤ s.rd DRV_FOLD_CFG.ICAP tile →
    ∃ t, exec (.foldClear die tile mean) s = .next t ∧ t.rd DRV_FOLD_STATUS.FACTOR tile = 0x10000 ∧
      t.rd DRV_FOLD_STATUS.STEPS tile = 0 ∧ t.rd DRV_STATUS.FOLD_ACTIVE tile = 0 ∧ t.rd DRV_STATUS.FOLD_FLOOR tile = 0 ∧
      MemSame s t) ∧
  (∀ (s : State) (die : Fin 2) (tile : Fin 8) (mean : BitVec 16), s.bar0 die (0x01000010 + 0x200000 * tile) = .act →
    s.rd DRV_FOLD_CFG.ICAP tile < mean.toNat →
    ∃ t, exec (.foldClear die tile mean) s = .next t ∧ t.rd DRV_STATUS.CLR_REFUSED tile = 1 ∧
      t.rd DRV_FOLD_STATUS.FACTOR tile = s.rd DRV_FOLD_STATUS.FACTOR tile ∧
      t = { s with regs := t.regs, drv := { s.drv with foldAt := t.drv.foldAt } } ∧
      RegsBut [DRV_IVHV.IMEAN.key tile 0 0, DRV_IVHV.IPEAK.key tile 0 0, DRV_STATUS.CLR_REFUSED.key tile 0 0] s t))

/-- Guards (R157 to R161, R182): an armed DARK comparator that asserts latches its input's trip and its gate's, and raises the
tile's guard trip; one that is not armed only shows; one that persists 8 frames after BLOCK_CODE puts the gate's channel into
GUARD_REST; a trip clears unless its comparator is still asserted; a guard monitor arms ARM_DLY frames after its gate is
blocked. The output check, retests and the supply reading (R162 to R166): at its group's visit, which comes in channel order
(its phase is the model's choice, assumption 92), a driven channel whose pad is out of tolerance twice in a row goes to its
group's idle spare, or to FAILED, and is marked; a retest of a marked channel runs 128 frames; on a pass its mark clears and a
spared channel starts to be handed back, on a failure CLR_REFUSED is set; reading DRV_IVHV returns it and clears IPEAK. -/
def Obligations.GuardsAndOutputCheck : Prop :=
  ((∀ (s : State) (tile : Fin 8) (input : Fin 128) (ch : Nat), s.darkArmed tile input = true →
    s.guardBit DRV_GUARD_TRIP.TRIP tile input = false → s.gateOfInput tile input = some ch →
    ∃ t, exec (.guardTrip tile input) s = .next t ∧ t.guardBit DRV_GUARD_TRIP.TRIP tile input = true ∧
      t.chRd DRV_CH_GATEW.TRIP ch = 1 ∧ (∃ o, t.saf.raised = s.saf.raised ++ [o] ∧ o.source = srcTile tile 1) ∧ MemSame s t) ∧
  (∀ (s : State) (tile : Fin 8) (input : Fin 128), s.darkArmed tile input = false →
    ∃ t, exec (.guardTrip tile input) s = .next t ∧ t.rd MON_IN_STATUS.DARK_OUT tile input = 1 ∧
      OnlyRegs [MON_IN_STATUS.DARK_OUT.key tile input 0] s t) ∧
  (∀ (s : State) (tile : Fin 8) (input : Fin 128) (ch f : Nat), s.gateOfInput tile input = some ch →
    nget s.drv.trippedAt ch = f + 1 → s.chOn DRV_CH_GATEW.TRIP ch = true → s.on MON_IN_STATUS.DARK_OUT tile input = true →
    s.guardBit DRV_GUARD_PERSIST.PERSIST tile input = false →
    ∃ t, exec (.guardPersist tile input) s = .next t ∧ t.now = max s.now (f + 8) ∧ t.outState ch = stGuardRest ∧
      t.guardBit DRV_GUARD_PERSIST.PERSIST tile input = true ∧
      (∃ o, t.saf.raised = s.saf.raised ++ [o] ∧ o.source = srcTile tile 2) ∧
      t = { s with now := t.now, regs := t.regs, saf := t.saf, sgf := t.sgf } ∧
      RegsBut [DRV_CH_STATE.STATE.key (ch / 2048) (ch % 2048) 0, DRV_GUARD_PERSIST.PERSIST.key tile (input / 32) 0] s t) ∧
  (∀ (s : State) (die : Fin 2) (tile : Fin 8) (w : Fin 4) (b : Fin 32),
    s.bar0 die (0x01000030 + 0x200000 * tile + 4 * w) = .act → s.guardBit DRV_GUARD_TRIP.TRIP tile (32 * w + b) = true →
    s.on MON_IN_STATUS.DARK_OUT tile (32 * w + b) = false →
    ∃ t, exec (.guardTripClear die tile w (BitVec.ofNat 32 (2 ^ b.val))) s = .next t ∧
      t.guardBit DRV_GUARD_TRIP.TRIP tile (32 * w + b) = false ∧ t.guardBit DRV_GUARD_PERSIST.PERSIST tile (32 * w + b) = false ∧
      MemSame s t) ∧
  (∀ (s : State) (die : Fin 2) (tile : Fin 8) (w : Fin 4) (b : Fin 32),
    s.bar0 die (0x01000030 + 0x200000 * tile + 4 * w) = .act → s.guardBit DRV_GUARD_TRIP.TRIP tile (32 * w + b) = true →
    s.on MON_IN_STATUS.DARK_OUT tile (32 * w + b) = true →
    ∃ t, exec (.guardTripClear die tile w (BitVec.ofNat 32 (2 ^ b.val))) s = .next t ∧ t.rd DRV_STATUS.CLR_REFUSED tile = 1 ∧
      OnlyRegs [DRV_STATUS.CLR_REFUSED.key tile 0 0] s t) ∧
  (∀ (s : State) (tile : Fin 8) (input : Fin 128) (ch : Nat), s.gateOfInput tile input = some ch → s.heldBlock ch = true →
    s.on MON_IN_STATUS.DARK_OUT tile input = false → nget s.mon.condSince (128 * tile + input) ≠ 0 →
    ∃ t, exec (.guardArm tile input) s = .next t ∧ t.rd MON_IN_STATUS.DARK_ARMED tile input = 1 ∧
      t.now = max s.now (nget s.mon.armAt (128 * tile + input) - 1) ∧
      t = { s with now := t.now, regs := t.regs } ∧ RegsBut [MON_IN_STATUS.DARK_ARMED.key tile input 0] s t) ∧
  (∀ (s : State) (tile : Fin 8) (input : Fin 128) (ch : Nat), s.gateOfInput tile input = some ch → s.heldBlock ch = true →
    s.on MON_IN_STATUS.DARK_OUT tile input = false → nget s.mon.condSince (128 * tile + input) = 0 →
    ∃ t, exec (.guardArm tile input) s = .next t ∧ t.rd MON_IN_STATUS.DARK_ARMED tile input = 1 ∧
      t.now = s.now + s.rd MON_GUARD_CFG.ARM_DLY tile ∧
      t = { s with now := t.now, regs := t.regs, mon := t.mon } ∧ RegsBut [MON_IN_STATUS.DARK_ARMED.key tile input 0] s t)) ∧
  ((∀ (s : State) (tile : Fin 8) (ch : Fin 2048) (m : BitVec 16), s.on DRV_CTL.CHK_EN tile = true →
    s.outState (2048 * tile + ch) = stDrive ∨ s.outState (2048 * tile + ch) = stSpared →
    nget s.drv.changedAt (2048 * tile + ch) + 4 ≤ s.nextVisit (2048 * tile + ch) →
    s.rd DRV_CHK_TOL.TOL tile < ((m.toNat : Int) - s.rd DRV_CH_LIVE.APPLIED tile ch).natAbs →
    nget s.drv.checkBad (2048 * tile + ch) = 0 →
    ∃ t, exec (.outputCheckVisit tile ch m) s = .next t ∧ t.now = s.nextVisit (2048 * tile + ch) ∧
      nget t.drv.checkBad (2048 * tile + ch) = 1 ∧ nget t.drv.visitAt (2048 * tile + ch) = t.now + 1 ∧
      t = { s with now := t.now, drv := t.drv }) ∧
  (∀ (s : State) (tile : Fin 8) (ch : Fin 2048) (m : BitVec 16), s.on DRV_CTL.CHK_EN tile = true →
    s.outState (2048 * tile + ch) = stDrive → nget s.drv.changedAt (2048 * tile + ch) + 4 ≤ s.nextVisit (2048 * tile + ch) →
    s.rd DRV_CHK_TOL.TOL tile < ((m.toNat : Int) - s.rd DRV_CH_LIVE.APPLIED tile ch).natAbs →
    nget s.drv.checkBad (2048 * tile + ch) ≠ 0 → s.cal.meas = [] →
    ∃ t, exec (.outputCheckVisit tile ch m) s = .next t ∧ t.markedFailed (2048 * tile + ch) = true ∧
      t.outState (2048 * tile + ch) =
        (if s.on DRV_CTL.SPARE_AUTO tile = true ∧ s.rd DRV_SPARE.REASON tile (ch / 32) = 0 then stSpared else stFailed) ∧
      (∃ o, t.saf.raised = s.saf.raised ++ [o]) ∧ MemSame s t) ∧
  (∀ (s : State) (die : Fin 2) (tile : Fin 8) (g : Fin 64) (b : Fin 32),
    s.bar0 die (0x01000200 + 0x200000 * tile + 4 * g) = .act → s.markedFailed (2048 * tile + 32 * g + b) = true →
    nget s.drv.retestDue (2048 * tile + 32 * g + b) = 0 →
    ∃ t, exec (.failedRetest die tile g (BitVec.ofNat 32 (2 ^ b.val))) s = .next t ∧
      nget t.drv.retestDue (2048 * tile + 32 * g + b) = s.now + 128 ∧ t = { s with drv := t.drv }) ∧
  (∀ (s : State) (tile : Fin 8) (ch : Fin 2048) (f : Nat), nget s.drv.retestDue (2048 * tile + ch) = f + 1 →
    ∃ t, exec (.retestDone tile ch true) s = .next t ∧ t.now = max s.now (f + 1) ∧ t.markedFailed (2048 * tile + ch) = false ∧
      nget t.drv.retestDue (2048 * tile + ch) = 0 ∧
      (s.outState (2048 * tile + ch) = stSpared → t.outState (2048 * tile + ch) = stSpared ∧
        nget t.drv.backAt (2048 * tile + ch) = t.now + 1) ∧
      (s.outState (2048 * tile + ch) = stFailed → t.outState (2048 * tile + ch) = stDrive ∨
        t.outState (2048 * tile + ch) = stRest ∨ t.outState (2048 * tile + ch) = stGuardRest) ∧ MemSame s t) ∧
  (∀ (s : State) (tile : Fin 8) (ch : Fin 2048) (f : Nat), nget s.drv.retestDue (2048 * tile + ch) = f + 1 →
    ∃ t, exec (.retestDone tile ch false) s = .next t ∧ t.rd DRV_STATUS.CLR_REFUSED tile = 1 ∧
      nget t.drv.retestDue (2048 * tile + ch) = 0 ∧ t = { s with now := t.now, regs := t.regs, drv := t.drv } ∧
      RegsBut [DRV_STATUS.CLR_REFUSED.key tile 0 0] s t) ∧
  (∀ (s : State) (die : Fin 2) (tile : Fin 8), s.on HPT_STATUS.READY = true →
    ∃ t, exec (.ipeakRead die tile) s = .next t ∧
      t.out = .reg die (0x01000014 + 0x200000 * tile)
        (s.rd DRV_IVHV.IPEAK tile * 65536 + s.rd DRV_IVHV.IMEAN tile) :: s.out ∧
      t.rd DRV_IVHV.IPEAK tile = 0 ∧ t = { s with regs := t.regs, out := t.out } ∧
      RegsBut [DRV_IVHV.IPEAK.key tile 0 0] s t))

/-- A fast sample (R171 to R173): it is taken at the next multiple of 4 frames that no earlier sample has; a code becomes (raw −
OFF) × GAIN / 16,384, rounded, within 0 to 4,095, with OVR for a raw 4,095 or a result above, and UNDER below; only the
monitors' registers change. A comparator whose replica current has changed asserts past its threshold and releases 10 % beyond
it (R181). -/
def Obligations.FastSamplesAreCorrected : Prop :=
  ∀ (s : State) (raws : List (Fin 1024 × BitVec 12)) (currents : List (Fin 1024 × Word)),
    (∀ x ∈ s.samples, x.frame < s.now) →
    ∃ t x, exec (.fastSample raws currents) s = .next t ∧ t.now = s.now + (4 - s.now % 4) % 4 ∧ t.samples = (x :: s.samples).take 512 ∧
      x.frame = t.now ∧ t = { s with now := t.now, regs := t.regs, held := t.held, samples := t.samples, mon := t.mon } ∧
      (∀ (m : Fin 1024) (raw off gain : Nat), aget (raws.map fun r => (r.1.val, r.2.toNat)) m.val = some raw →
        off = s.settleFast.eff MON_IN_CF_FAST.OFF (m / 128) (m % 128) (s.rangeOf m) →
        gain = s.settleFast.eff MON_IN_CF_FAST.GAIN (m / 128) (m % 128) (s.rangeOf m) →
        t.mRd MON_IN_FAST.RAW m = raw ∧
        (t.mRd MON_IN_FAST.CODE m : Int) = clampI 0 4095 (((raw - toS 12 off) * gain + 8192) / 16384) ∧
        t.mOn MON_IN_FAST.OVR m = (raw == 4095 || decide (4095 < (((raw : Int) - toS 12 off) * gain + 8192) / 16384)) ∧
        t.mOn MON_IN_FAST.UNDER m = decide ((((raw : Int) - toS 12 off) * gain + 8192) / 16384 < 0)) ∧
      (∀ (m : Fin 1024) (i : Word), currents = [(m, i)] →
        (s.mRd MON_IN_DARK.THRESH m < i.toNat → t.mOn MON_IN_STATUS.DARK_OUT m = true) ∧
        (i.toNat ≤ s.mRd MON_IN_DARK.THRESH m → 10 * i.toNat < 9 * s.mRd MON_IN_DARK.THRESH m →
          t.mOn MON_IN_STATUS.DARK_OUT m = false) ∧
        (i.toNat ≤ s.mRd MON_IN_DARK.THRESH m → 9 * s.mRd MON_IN_DARK.THRESH m ≤ 10 * i.toNat →
          t.mOn MON_IN_STATUS.DARK_OUT m = s.mOn MON_IN_STATUS.DARK_OUT m) ∧
        (i.toNat < s.mRd MON_IN_LOSS.THRESH m → t.mOn MON_IN_STATUS.LOSS_OUT m = true) ∧
        (s.mRd MON_IN_LOSS.THRESH m ≤ i.toNat → 11 * s.mRd MON_IN_LOSS.THRESH m < 10 * i.toNat →
          t.mOn MON_IN_STATUS.LOSS_OUT m = false)) ∧
      ∀ k, (∀ m, k ∉ [MON_IN_FAST.RAW.key (m / 128) (m % 128) 0, MON_IN_FAST.CODE.key (m / 128) (m % 128) 0,
        MON_IN_FAST.OVR.key (m / 128) (m % 128) 0, MON_IN_FAST.UNDER.key (m / 128) (m % 128) 0,
        MON_IN_FAST.SETTLING.key (m / 128) (m % 128) 0, MON_IN_STATUS.SETTLING.key (m / 128) (m % 128) 0,
        MON_IN_STATUS.DARK_OUT.key (m / 128) (m % 128) 0, MON_IN_STATUS.LOSS_OUT.key (m / 128) (m % 128) 0]) →
        nget t.regs k = nget s.regs k

/-- Range changes and the fine path (R169, R175 to R179): a waiting range comes into force at a fast-sample frame without a commit
cycle, and 5 samples settle; a modulator's slots end 4,000 frames apart, and what it gave over the slot is filtered (its
rounding is the model's choice, assumption 93); the slot that completes a block of n results gives F = their mean, rounded,
corrected by FOFF and FGAIN, and one more SEQ; slot 9 replaces the zero; a trigger asks for a block that starts at the next
slot, and waits where one runs. LOSS comparators (R183): one asserted through QUAL frames while armed latches its input's trip
and raises the tile's fault; one that is not armed only shows its output; a trip clears unless the output is still asserted. -/
def Obligations.RangesLossAndFineResults : Prop :=
  ((∀ (s : State) (tile : Fin 8) (i : Fin 128), s.pln.cycle = none → nget s.held (MON_IN_CFG.RANGE.key tile i 0) ≠ 0 →
    ∃ t, exec (.rangeApply tile) s = .next t ∧ t.now = s.now + (4 - s.now % 4) % 4 ∧
      t.rangeOf (128 * tile + i) = s.rd MON_IN_CFG.RANGE tile i ∧
      (s.rangeOf (128 * tile + i) ≠ s.rd MON_IN_CFG.RANGE tile i →
        t.rd MON_IN_STATUS.SETTLING tile i = 1 ∧ nget t.mon.settle (128 * tile + i) = 5) ∧
      t = { s with now := t.now, regs := t.regs, held := t.held, mon := t.mon }) ∧
  (∀ (s : State) (tile : Fin 8), s.pln.cycle ≠ none → exec (.rangeApply tile) s = .next s) ∧
  (∀ (s : State) (tile : Fin 8) (m : Fin 16) (v : List (BitVec 24)) (e : Nat),
    e = nextAt (max (max s.now 1) (nget s.mon.slotAt (16 * tile + m))) 4000 0 →
    ∃ t, exec (.fineSlotEnd tile m v) s = .next t ∧ t.now = e ∧ nget t.mon.slotAt (16 * tile + m) = e + 1 ∧ MemSame s t ∧
      (e / 4000 % 10 = 0 → nget s.mon.idle (16 * tile + m) = 0 → nget t.mon.zero (16 * tile + m) = ofS 24 (slotFilter v))) ∧
  (∀ (s : State) (tile : Fin 8) (md : Fin 16) (v : List (BitVec 24)) (e k x : Nat) (b : FineBlock) (f mean : Int),
    e = nextAt (max (max s.now 1) (nget s.mon.slotAt (16 * tile + md))) 4000 0 → nget s.mon.slotAt (16 * tile + md) + 4000 = e + 1 →
    e / 4000 % 10 = k + 1 → k < 8 → x = 128 * tile + 8 * md + k →
    nget s.mon.idle (16 * tile + md) = 0 → s.eff MON_IN_CFG.FMODE tile (8 * md + k) = 1 → nget s.mon.rangeAt x = 0 →
    s.mon.blocks.find? (fun b => b.mon == x && b.need != 0) = some b → b.triggered = false → b.need = b.vals.length + 1 →
    f = clampI (-8388607) 8388607 (slotFilter v - toS 24 (nget s.mon.zero (16 * tile + md))) →
    mean = (b.vals.sum + f + (b.need / 2 : Nat)) / b.need →
    ∃ t, exec (.fineSlotEnd tile md v) s = .next t ∧ t.mRd MON_IN_FINE_RAW.RAW x = ofS 24 mean ∧
      t.mRd MON_IN_FINE.VALUE x = ofS 24 (clampI (-8388607) 8388607 (((mean -
        toS 24 (s.eff MON_IN_CF_FOFF.FOFF tile (8 * md + k) (s.rangeOf x))) *
        (s.eff MON_IN_CF_FGAIN.FGAIN tile (8 * md + k) (s.rangeOf x) : Nat) + 2 ^ 21) / 2 ^ 22)) ∧
      t.mRd MON_IN_FINE.SEQ x = (s.mRd MON_IN_FINE.SEQ x + 1) % 16 ∧
      (∀ y ∈ t.mon.blocks, y.mon ≠ x) ∧ MemSame s t) ∧
  (∀ (s : State) (die : Fin 2) (tile : Fin 8) (w : Fin 4) (b : Fin 32) (x : Nat), s.bar0 die (monAddr tile (0x20 + 4 * w)) = .act →
    x = 128 * tile + 32 * w + b → s.eff MON_IN_CFG.FMODE tile (32 * w + b) = 2 → (∀ y ∈ s.mon.blocks, y.mon ≠ x) →
    s.mOn MON_IN_STATUS.PENDING x = false →
    ∃ y, exec (.fineTrigger die tile w (BitVec.ofNat 32 (2 ^ b.val))) s = .next { s with
        mon := { s.mon with blocks := y :: s.mon.blocks } } ∧
      y.mon = x ∧ y.after = s.now ∧ y.triggered = true ∧ y.need = 0 ∧ y.vals = []) ∧
  (∀ (s : State) (die : Fin 2) (tile : Fin 8) (w : Fin 4) (b : Fin 32) (x : Nat), s.bar0 die (monAddr tile (0x20 + 4 * w)) = .act →
    x = 128 * tile + 32 * w + b → s.eff MON_IN_CFG.FMODE tile (32 * w + b) ≠ 2 →
    exec (.fineTrigger die tile w (BitVec.ofNat 32 (2 ^ b.val))) s = .next s) ∧
  (∀ (s : State) (die : Fin 2) (tile : Fin 8) (w : Fin 4) (b : Fin 32) (x : Nat), s.bar0 die (monAddr tile (0x20 + 4 * w)) = .act →
    x = 128 * tile + 32 * w + b → s.eff MON_IN_CFG.FMODE tile (32 * w + b) = 2 → (∃ y ∈ s.mon.blocks, y.mon = x) →
    ∃ t, exec (.fineTrigger die tile w (BitVec.ofNat 32 (2 ^ b.val))) s = .next t ∧
      (if s.mOn MON_IN_STATUS.PENDING x then t.mRd MON_IN_STATUS.OVERRUN x = 1 else t.mRd MON_IN_STATUS.PENDING x = 1) ∧
      OnlyRegs [MON_IN_STATUS.OVERRUN.key tile (32 * w + b) 0, MON_IN_STATUS.PENDING.key tile (32 * w + b) 0] s t)) ∧
  ((∀ (s : State) (tile : Fin 8) (i : Fin 128), s.lossArmed tile i = true → s.on MON_IN_STATUS.LOSS_TRIP tile i = false →
    ∃ t o, exec (.lossTrip tile i) s = .next t ∧
      t.now = max s.now ((if nget s.mon.lossAt (128 * tile + i) = 0 then s.now + 1 else nget s.mon.lossAt (128 * tile + i)) - 1 +
        (max 1 (s.rd MON_IN_LOSSQ.QUAL tile i) - 1)) ∧
      t.rd MON_IN_STATUS.LOSS_OUT tile i = 1 ∧ t.rd MON_IN_STATUS.LOSS_TRIP tile i = 1 ∧
      t.saf.raised = s.saf.raised ++ [o] ∧ o.source = srcTile tile 3 ∧ o.info = 128 * tile.val + i.val ∧ MemSame s t) ∧
  (∀ (s : State) (tile : Fin 8) (i : Fin 128), s.lossArmed tile i = false →
    ∃ t, exec (.lossTrip tile i) s = .next t ∧ t.rd MON_IN_STATUS.LOSS_OUT tile i = 1 ∧
      nget t.mon.lossAt (128 * tile + i) = 0 ∧ t = { s with regs := t.regs, mon := { s.mon with lossAt := t.mon.lossAt } } ∧
      RegsBut [MON_IN_STATUS.LOSS_OUT.key tile i 0] s t) ∧
  (∀ (s : State) (die : Fin 2) (tile : Fin 8) (i : Fin 128), s.bar0 die (inputAddr tile i 0x1C) = .act →
    s.on MON_IN_STATUS.LOSS_TRIP tile i = true → s.on MON_IN_STATUS.LOSS_OUT tile i = false →
    ∃ t, exec (.lossTripClear die tile i) s = .next t ∧ t.rd MON_IN_STATUS.LOSS_TRIP tile i = 0 ∧
      OnlyRegs [MON_IN_STATUS.LOSS_TRIP.key tile i 0] s t) ∧
  (∀ (s : State) (die : Fin 2) (tile : Fin 8) (i : Fin 128), s.bar0 die (inputAddr tile i 0x1C) = .act →
    s.on MON_IN_STATUS.LOSS_TRIP tile i = true → s.on MON_IN_STATUS.LOSS_OUT tile i = true →
    ∃ t, exec (.lossTripClear die tile i) s = .next t ∧ t.rd MON_STATUS.CLR_REFUSED tile = 1 ∧
      OnlyRegs [MON_STATUS.CLR_REFUSED.key tile 0 0] s t))

/-- System calibration (R184 to R186): a dark step runs and takes back earlier results; a reference step needs the dark step of the
same input and range; applying writes the four coefficients; a step asked for while one runs is latched once; a dark step that
ends well gives the offsets. -/
def Obligations.SystemCalibration : Prop :=
  (∀ (s : State) (die : Fin 2) (tile : Fin 8) (i : Fin 128) (r : Fin 4), s.bar0 die (monAddr tile 0x200) = .act →
    (∀ c ∈ s.mon.cal, c.tile ≠ tile.val) → s.rangeOf (128 * tile + i) = r.val →
    ∃ t c, exec (.syscalDark die tile i r) s = .next t ∧ t.rd MON_SYSCAL_STATUS.BUSY tile = 1 ∧ t.rd MON_SYSCAL_STATUS.DARK_DONE tile = 0 ∧
      t.rd MON_SYSCAL_STATUS.REF_DONE tile = 0 ∧ t.mon.cal = c :: s.mon.cal ∧ c.tile = tile.val ∧ c.input = i.val ∧ c.step = 1 ∧
      c.slots = [] ∧ c.count = 0 ∧ t = { s with regs := t.regs, mon := t.mon } ∧
      RegsBut [MON_SYSCAL_STATUS.INPUT.key tile 0 0, MON_SYSCAL_STATUS.RANGE.key tile 0 0, MON_SYSCAL_STATUS.REF_DONE.key tile 0 0,
        MON_SYSCAL_STATUS.DARK_DONE.key tile 0 0, MON_SYSCAL_STATUS.BUSY.key tile 0 0] s t) ∧
  (∀ (s : State) (die : Fin 2) (tile : Fin 8) (i : Fin 128) (r : Fin 4), s.bar0 die (monAddr tile 0x200) = .act →
    (∀ c ∈ s.mon.cal, c.tile ≠ tile.val) → s.rangeOf (128 * tile + i) ≠ r.val →
    (∃ t, exec (.syscalDark die tile i r) s = .next t ∧ t.rd MON_SYSCAL_STATUS.ERROR tile = 1 ∧ t.mon.cal = s.mon.cal ∧ MemSame s t) ∧
    (∃ t, exec (.syscalReference die tile i r) s = .next t ∧ t.rd MON_SYSCAL_STATUS.ERROR tile = 1 ∧ t.mon.cal = s.mon.cal ∧ MemSame s t)) ∧
  (∀ (s : State) (die : Fin 2) (tile : Fin 8) (i : Fin 128) (r : Fin 4), s.bar0 die (monAddr tile 0x200) = .act →
    (∀ c ∈ s.mon.cal, c.tile ≠ tile.val) → s.rangeOf (128 * tile + i) = r.val →
    ∃ t, exec (.syscalReference die tile i r) s = .next t ∧ t.rd MON_SYSCAL_STATUS.REF_DONE tile = 0 ∧
      (if nget s.mon.darkOk tile = 4 * i + r + 1 then
        t.rd MON_SYSCAL_STATUS.BUSY tile = 1 ∧ ∃ c, t.mon.cal = c :: s.mon.cal ∧ c.step = 2 ∧ c.ref = s.rd MON_SYSCAL_REF.REF tile
      else t.rd MON_SYSCAL_STATUS.ERROR tile = 5 ∧ t.mon.cal = s.mon.cal) ∧
      t = { s with regs := t.regs, mon := t.mon }) ∧
  (∀ (s : State) (die : Fin 2) (tile : Fin 8) (i : Fin 128) (r : Fin 4) (i' : Fin 128) (r' : Fin 4), s.bar0 die (monAddr tile 0x200) = .act →
    (∀ c ∈ s.mon.cal, c.tile ≠ tile.val) → s.on MON_SYSCAL_STATUS.DARK_DONE tile = true → s.on MON_SYSCAL_STATUS.REF_DONE tile = true →
    nget s.mon.refOk tile = 4 * i' + r' + 1 →
    ∃ t, exec (.syscalApply die tile i r) s = .next t ∧
      t.rd MON_IN_CF_FAST.GAIN tile i' r' = s.rd MON_SYSCAL_RES_FAST.GAIN tile ∧
      t.rd MON_IN_CF_FAST.OFF tile i' r' = s.rd MON_SYSCAL_RES_FAST.OFF tile ∧
      t.rd MON_IN_CF_FOFF.FOFF tile i' r' = s.rd MON_SYSCAL_RES_FOFF.FOFF tile ∧
      t.rd MON_IN_CF_FGAIN.FGAIN tile i' r' = s.rd MON_SYSCAL_RES_FGAIN.FGAIN tile ∧
      t.rd MON_SYSCAL_STATUS.ERROR tile = 0 ∧ t = { s with regs := t.regs, held := t.held } ∧
      RegsBut [MON_IN_CF_FAST.GAIN.key tile i' r', MON_IN_CF_FAST.OFF.key tile i' r', MON_IN_CF_FOFF.FOFF.key tile i' r',
        MON_IN_CF_FGAIN.FGAIN.key tile i' r', MON_SYSCAL_STATUS.ERROR.key tile 0 0] s t) ∧
  (∀ (s : State) (die : Fin 2) (tile : Fin 8) (i : Fin 128) (r : Fin 4), s.bar0 die (monAddr tile 0x200) = .act →
    (∃ c ∈ s.mon.cal, c.tile = tile.val) →
    ∃ t, exec (.syscalDark die tile i r) s = .next t ∧
      (if s.mon.calNext.any (fun c => c.tile == tile.val) then t.rd MON_SYSCAL_STATUS.OVERRUN tile = 1 ∧ t.mon = s.mon
      else t.rd MON_SYSCAL_STATUS.PENDING tile = 1 ∧ t.mon.cal = s.mon.cal ∧ t.mon.calNext.length = s.mon.calNext.length + 1) ∧
      t = { s with regs := t.regs, mon := t.mon } ∧
      RegsBut [MON_SYSCAL_STATUS.OVERRUN.key tile 0 0, MON_SYSCAL_STATUS.PENDING.key tile 0 0] s t) ∧
  (∀ (s : State) (tile : Fin 8) (c : SysCal), s.mon.cal.find? (fun c => c.tile == tile.val) = some c → c.slots.length < 50 →
    exec (.syscalStepDone tile) s = .next s) ∧
  (∀ (s : State) (tile : Fin 8) (c : SysCal) (n : Nat) (a : Int), s.mon.cal.find? (fun c => c.tile == tile.val) = some c → c.step = 1 →
    50 ≤ c.slots.length → (∀ y ∈ s.mon.calNext, y.tile ≠ tile.val) → nget s.mon.rangeAt (128 * tile + c.input) ≤ c.start →
    s.rangeOf (128 * tile + c.input) = c.range → c.count = n + 1 →
    c.sum ≤ 2047 * c.count → (∀ x ∈ c.slots, x = a) → -1048576 ≤ a → a ≤ 1048575 →
    ∃ t, exec (.syscalStepDone tile) s = .next t ∧ t.now = max s.now (c.since + 2000000) ∧ t.rd MON_SYSCAL_STATUS.BUSY tile = 0 ∧
      t.rd MON_SYSCAL_STATUS.DARK_DONE tile = 1 ∧ t.rd MON_SYSCAL_STATUS.ERROR tile = 0 ∧ t.rd MON_SYSCAL_SPREAD.SPREAD tile = 0 ∧
      t.rd MON_SYSCAL_RES_FOFF.FOFF tile = ofS 24 a ∧ t.rd MON_SYSCAL_RES_FAST.OFF tile = (2 * c.sum + c.count) / (2 * c.count) ∧
      nget t.mon.darkOk tile = 4 * c.input + c.range + 1 ∧ (∀ y ∈ t.mon.cal, y.tile ≠ tile.val) ∧
      t = { s with now := t.now, regs := t.regs, mon := t.mon })

/-- Capture sequences (R187 to R190): enabling starts the lower free bank; disabling abandons what fills; a trigger makes the
filling bank record; a full bank is stamped and stored; a release frees it; a time to come arms, one that has passed triggers at
once. -/
def Obligations.CaptureSequences : Prop :=
  (∀ (s : State) (die : Fin 2) (tile : Fin 8), s.bar0 die (monAddr tile 0x300) = .act → (∀ b ∈ s.mon.fill, b.tile ≠ tile.val) →
    s.rd MON_CAP_STATUS.BANK0 tile = 0 → s.on MON_CAP_STATUS.PENDING tile = false →
    ∃ t b, exec (.captureEnable die tile true) s = .next t ∧ t.rd MON_CAP_CTL.EN tile = 1 ∧ t.rd MON_CAP_STATUS.BANK0 tile = 1 ∧
      t.mon.fill = b :: s.mon.fill ∧ b.tile = tile.val ∧ b.bank = 0 ∧ b.inputs.length = 2 ^ s.rd MON_CAP_CTL.COUNT tile ∧
      b.kept = [] ∧ b.hit = false ∧ t = { s with regs := t.regs, held := t.held, mon := t.mon } ∧
      RegsBut [MON_CAP_CTL.EN.key tile 0 0, MON_CAP_STATUS.BANK0.key tile 0 0, MON_CAP_STATUS.PENDING.key tile 0 0] s t) ∧
  (∀ (s : State) (die : Fin 2) (tile : Fin 8), s.bar0 die (monAddr tile 0x300) = .act →
    ∃ t, exec (.captureEnable die tile false) s = .next t ∧ t.rd MON_CAP_CTL.EN tile = 0 ∧ t.rd MON_CAP_STATUS.PENDING tile = 0 ∧
      (∀ b ∈ t.mon.fill, b.tile ≠ tile.val) ∧ t = { s with regs := t.regs, mon := t.mon } ∧
      RegsBut [MON_CAP_CTL.EN.key tile 0 0, MON_CAP_STATUS.PENDING.key tile 0 0, MON_CAP_STATUS.BANK0.key tile 0 0,
        MON_CAP_STATUS.BANK1.key tile 0 0] s t) ∧
  (∀ (s : State) (die : Fin 2) (tile : Fin 8) (b : Filling), s.bar0 die (monAddr tile 0x318) = .act → s.rd MON_CAP_CTL.TRIG tile = 0 →
    s.mon.fill.find? (fun b => b.tile == tile.val && !b.hit) = some b → b.bank < 2 →
    ∃ t, exec (.captureSwTrigger die tile) s = .next t ∧ t.rd (bankFld b.bank) tile = 2 ∧
      (∀ x ∈ t.mon.fill, x.tile = tile.val → x.hit = true ∧ x.hitAt = s.now) ∧ t = { s with regs := t.regs, mon := t.mon } ∧
      RegsBut [(bankFld b.bank).key tile 0 0] s t) ∧
  (∀ (s : State) (die : Fin 2) (tile : Fin 8), s.bar0 die (monAddr tile 0x318) = .act → s.rd MON_CAP_CTL.TRIG tile ≠ 0 →
    exec (.captureSwTrigger die tile) s = .next s) ∧
  (∀ (s : State) (die : Fin 2) (tile : Fin 8) (hi : Word) (v : Nat), s.bar0 die (monAddr tile 0x314) = .act → s.rd MON_CAP_CTL.TRIG tile = 2 →
    v = s.rd MON_CAP_TIME_LO.TICKS tile + 2 ^ 32 * hi.toNat → s.timeOut v = false → 0 ≤ tickDiff v s.ticks →
    ∃ t, exec (.captureTimeArm die tile hi) s = .next t ∧ t.rd MON_CAP_TIME_HI.TICKS tile = hi.toNat ∧
      nget t.mon.capTime tile = fastAt (s.frameAt v) + 1 ∧ t = { s with regs := t.regs, mon := t.mon } ∧
      RegsBut [MON_CAP_TIME_HI.TICKS.key tile 0 0] s t) ∧
  (∀ (s : State) (die : Fin 2) (tile : Fin 8) (hi : Word) (v : Nat), s.bar0 die (monAddr tile 0x314) = .act → s.rd MON_CAP_CTL.TRIG tile = 2 →
    v = s.rd MON_CAP_TIME_LO.TICKS tile + 2 ^ 32 * hi.toNat → s.timeOut v = false → tickDiff v s.ticks < 0 →
    ∃ t, exec (.captureTimeArm die tile hi) s = .next t ∧ t.rd MON_CAP_STATUS.LATE tile = 1 ∧ t.mon.capTime = s.mon.capTime ∧
      t = { s with regs := t.regs, mon := t.mon }) ∧
  (∀ (s : State) (tile : Fin 8) (f : Nat) (b : Filling), nget s.mon.capTime tile = f + 1 → s.rd MON_CAP_CTL.TRIG tile = 2 →
    s.mon.fill.find? (fun b => b.tile == tile.val && !b.hit) = some b → b.bank < 2 →
    ∃ t, exec (.captureTimeTrigger tile) s = .next t ∧ t.now = max s.now f ∧ nget t.mon.capTime tile = 0 ∧
      t.rd (bankFld b.bank) tile = 2 ∧ t = { s with now := t.now, regs := t.regs, mon := t.mon } ∧ RegsBut [(bankFld b.bank).key tile 0 0] s t) ∧
  (∀ (s : State) (tile : Fin 8) (b : Filling) (stamp : Nat), s.mon.fill.find? (fun b => b.tile == tile.val) = some b → b.bank < 2 →
    b.trig = some stamp → b.left = 0 → (∀ r ∈ b.kept, r.length = b.inputs.length) → b.pre < capDepth b.inputs.length →
    ∃ t, exec (.captureBankFull tile) s = .next t ∧ t.rd (bankFld b.bank) tile = 3 ∧
      t.rd MON_CAP_STAMP_LO.TICKS tile b.bank = stamp % 2 ^ 32 ∧ t.rd MON_CAP_STAMP_HI.TICKS tile b.bank = stamp / 2 ^ 32 % 2 ^ 32 ∧
      ∀ a, a < monAddr tile (0x20000 + 0x2000 * b.bank) ∨ monAddr tile (0x20000 + 0x2000 * b.bank) + 8192 ≤ a → t.loadB a = s.loadB a) ∧
  (∀ (s : State) (die : Fin 2) (tile : Fin 8), s.bar0 die (monAddr tile 0x320) = .act → s.rd MON_CAP_STATUS.BANK1 tile = 3 →
    s.on MON_CAP_CTL.EN tile = false →
    ∃ t, exec (.captureRelease die tile 2) s = .next t ∧ t.rd MON_CAP_STATUS.BANK1 tile = 0 ∧
      OnlyRegs [MON_CAP_STATUS.BANK1.key tile 0 0] s t)

/-- Windows of a context (R200 to R203, R211): at frame b + 2 an element context publishes the window that ends at b, with its time
stamp and one more SEQ, and its sums over 16,000, rounded, unless it has a gap; at frame b + 1 a path context does. The other
contexts keep their entries. -/
def Obligations.ToneWindowsArePublished : Prop :=
  (∀ (s : State) (e m k b : Nat) (w : Window), s.boundElems = [(e, m, k)] → b = s.windowEnd (max (s.now - 2) s.ton.doneElem) 200 →
    s.tileLost (s.elemTile e) = false → (b % 1000 = 0 ∨ s.trimAt e (b - 1000) / 256 = 1) →
    w = s.window e (s.elemTile e) b (some (m, k)) →
    ∃ t, exec (.tonePublish true none) s = .next t ∧ t.now = max s.now (b + 2) ∧ t.ton = { s.ton with doneElem := b + 1 } ∧
      t.load (toneAddr e + 8) 8 = ticksOf b ∧ t.load (toneAddr e + 16) 1 = w.flags ∧
      t.load (toneAddr e + 17) 1 = (s.load (toneAddr e + 17) 1 + 1) % 16 ∧
      (if w.gap then t.load (toneAddr e) 8 = s.load (toneAddr e) 8
      else t.load (toneAddr e) 4 = ofS 32 (rndDiv w.si 16000) ∧ t.load (toneAddr e + 4) 4 = ofS 32 (rndDiv w.sq 16000)) ∧
      (∀ a, a < toneAddr e ∨ toneAddr e + 18 ≤ a → t.loadB a = s.loadB a) ∧
      t = { s with now := t.now, regs := t.regs, mem := t.mem, ton := t.ton, hpt := t.hpt } ∧ RegsBut [TON_CNT_GAP.COUNT.key 0 0 0] s t) ∧
  (∀ (s : State) (m : Nat) (b c : Nat) (w : Window), s.expecting = [m] → b = s.windowEnd (max (s.now - 1) s.ton.donePath) 1000 →
    s.tileLost (m / 128) = false → c = 16384 + 4 * m → w = s.window c (m / 128) b (some (m, s.rd TON_PT_EXPECT.TONE m)) →
    ∃ t, exec (.tonePublish false none) s = .next t ∧ t.now = max s.now (b + 1) ∧ t.ton.donePath = b + 1 ∧
      t.load (toneAddr c + 8) 8 = ticksOf b ∧ t.load (toneAddr c + 16) 1 = w.flags ∧
      (w.gap = false → t.load (toneAddr c) 4 = ofS 32 (rndDiv w.si 16000) ∧ t.load (toneAddr c + 4) 4 = ofS 32 (rndDiv w.sq 16000)) ∧
      (∀ a, a < toneAddr c ∨ toneAddr c + 128 ≤ a → t.loadB a = s.loadB a))

/-- The path check of a monitor (R207 to R210), as TONE_PUBLISH applies it to each window: it counts consecutive windows whose own
tone lies below PT_MIN, and once QUAL or more of them have come in a row sets the monitor's LOSS bit, raises its tile's source 4
and takes the first failure, once for a run of them (a count of 16 stands for a run that has raised, as no QUAL is above 15); a
good window sets CONF; while the check is suspended nothing happens. Gaps of the sample ring and the clearing of path failures
(R198, R210, R214): a gap marks the latest sample and raises the tile's source 11, unless the tile is lost; a set bit clears
unless the monitor's latest window failed the same test; TON_FIRST_CLR empties TON_PT_FIRST. -/
def Obligations.PathChecksAndRingGaps : Prop :=
  ((∀ (s : State) (m b : Nat), s.pathSuspended m = true → s.evalPath m b = s) ∧
  (∀ (s : State) (m b c : Nat), m < 1024 → c = 16384 + 4 * m → s.pathSuspended m = false → nget s.ton.suspended m = 0 →
    nget s.ton.since m + 999 ≤ b → s.clean c = true → (aget s.ton.foreign m).getD [] = [] →
    s.power c < (s.load (toneAddr c + 24) 2 : Int) ^ 2 →
    nget (s.evalPath m b).ton.failL m =
        (if nget s.ton.failL m = 16 ∨ max 1 (s.rd TON_PT_CFG.QUAL) ≤ nget s.ton.failL m + 1 then 16 else nget s.ton.failL m + 1) ∧
      (if nget s.ton.failL m ≠ 16 ∧ max 1 (s.rd TON_PT_CFG.QUAL) ≤ nget s.ton.failL m + 1 then
        bit ((s.evalPath m b).rd TON_PT_LOSS.LOSS (m / 32)) (m % 32) = true ∧
        (∃ o, (s.evalPath m b).saf.raised = s.saf.raised ++ [o] ∧ o.source = srcTile (m / 128) 4 ∧ o.info = m) ∧
        (s.on TON_PT_FIRST.VALID = false → (s.evalPath m b).rd TON_PT_FIRST.VALID = 1 ∧
          (s.evalPath m b).rd TON_PT_FIRST.KIND = 0 ∧ (s.evalPath m b).rd TON_PT_FIRST.MONITOR = m)
      else (s.evalPath m b).saf = s.saf ∧ (s.evalPath m b).regs = s.regs)) ∧
  (∀ (s : State) (m b c : Nat), m < 1024 → c = 16384 + 4 * m → s.pathSuspended m = false → nget s.ton.suspended m = 0 →
    nget s.ton.since m + 999 ≤ b → s.clean c = true → (aget s.ton.foreign m).getD [] = [] →
    (s.load (toneAddr c + 24) 2 : Int) ^ 2 ≤ s.power c →
    nget (s.evalPath m b).ton.failL m = 0 ∧ bit ((s.evalPath m b).rd TON_PT_CONF.CONF (m / 32)) (m % 32) = true ∧
      OnlyRegs [TON_PT_CONF.CONF.key (m / 32) 0 0] { s with ton := (s.evalPath m b).ton } (s.evalPath m b))) ∧
  ((∀ (s : State) (tile : Fin 8) (x : Sample) (l : List Sample), s.samples = x :: l → tile.val ∉ x.absent →
    ∃ t o, exec (.sampleRingGap tile) s = .next t ∧ t.samples = { x with ring := tile.val :: x.ring } :: l ∧
      t.rd TON_STATUS.RING_ERR = 1 ∧ t.saf.raised = s.saf.raised ++ [o] ∧ o.source = srcTile tile 11 ∧
      t = { s with regs := t.regs, samples := t.samples, saf := t.saf } ∧ RegsBut [TON_STATUS.RING_ERR.key 0 0 0] s t) ∧
  (∀ (s : State) (tile : Fin 8) (x : Sample) (l : List Sample), s.samples = x :: l → tile.val ∈ x.absent →
    exec (.sampleRingGap tile) s = .next s) ∧
  (∀ (s : State) (die : Fin 2) (w : Fin 32) (b : Fin 32), s.bar0 die (0x500400 + 4 * w) = .act →
    bit (s.rd TON_PT_LOSS.LOSS w) b = true →
    ∃ t, exec (.pathBitClear die false w (BitVec.ofNat 32 (2 ^ b.val))) s = .next t ∧
      (if nget s.ton.lastL (32 * w + b) = 0 then bit (t.rd TON_PT_LOSS.LOSS w) b = false
      else t.rd TON_STATUS.CLR_REFUSED = 1 ∧ t.rd TON_PT_LOSS.LOSS w = s.rd TON_PT_LOSS.LOSS w) ∧
      OnlyRegs [TON_PT_LOSS.LOSS.key w 0 0, TON_STATUS.CLR_REFUSED.key 0 0 0] s t) ∧
  (∀ (s : State) (die : Fin 2) (w : Fin 32) (b : Fin 32), s.bar0 die (0x500480 + 4 * w) = .act →
    bit (s.rd TON_PT_FOREIGN.FOREIGN w) b = true →
    ∃ t, exec (.pathBitClear die true w (BitVec.ofNat 32 (2 ^ b.val))) s = .next t ∧
      (if nget s.ton.lastF (32 * w + b) = 0 then bit (t.rd TON_PT_FOREIGN.FOREIGN w) b = false else t.rd TON_STATUS.CLR_REFUSED = 1) ∧
      OnlyRegs [TON_PT_FOREIGN.FOREIGN.key w 0 0, TON_STATUS.CLR_REFUSED.key 0 0 0] s t) ∧
  (∀ (s : State) (die : Fin 2), s.bar0 die 0x500000 = .act →
    ∃ t, exec (.tonFirstClr die) s = .next t ∧ t.rd TON_PT_FIRST.VALID = 0 ∧ t.rd TON_PT_FIRST.MONITOR = 0 ∧
      OnlyRegs [TON_PT_FIRST.VALID.key 0 0 0, TON_PT_FIRST.KIND.key 0 0 0, TON_PT_FIRST.TONE.key 0 0 0,
        TON_PT_FIRST.MONITOR.key 0 0 0] s t))

/-- The instructions that saturate (R248, R252, R254): the exact result is brought into 32 bits, and SAT is set where that changes
it; DIV truncates toward zero and by 0 gives the limit of RA's sign; CLMP takes |RB| as at most 2,147,483,647. The moves, the
bitwise instructions, MIN, MAX, ASR and SEL (R248, R252): they never saturate and leave SAT. The compares write P[PD], and V0
and P0 stand (R245, R252): V0 reads 0 and P0 reads 1 whatever is written to them. -/
def Obligations.LisArithmeticAndLogic : Prop :=
  ((∀ a rd ra rb, LisDoes (.lisAdd a rd ra rb) 1 fun r => r.satPut rd (r.get ra + r.get rb)) ∧
  (∀ a rd ra rb, LisDoes (.lisSub a rd ra rb) 1 fun r => r.satPut rd (r.get ra - r.get rb)) ∧
  (∀ a rd ra imm, LisDoes (.lisAddi a rd ra imm) 1 fun r => r.satPut rd (r.get ra + imm.toInt)) ∧
  (∀ a rd ra rb, LisDoes (.lisMul a rd ra rb) 2 fun r => r.satPut rd (r.get ra * r.get rb)) ∧
  (∀ a rd ra rb sh, LisDoes (.lisMulq a rd ra rb sh) 2 fun r => r.satPut rd
    (if sh = 0 then r.get ra * r.get rb else (r.get ra * r.get rb + 2 ^ (sh.val - 1)) / 2 ^ sh.val)) ∧
  (∀ a rd ra rb, LisDoes (.lisDiv a rd ra rb) 10 fun r =>
    if r.get rb = 0 then
      { r.put rd (if 0 < r.get ra then lisMax else if r.get ra < 0 then lisMin else 0) with sat := true }
    else r.satPut rd ((r.get ra).tdiv (r.get rb))) ∧
  (∀ a rd ra rb, LisDoes (.lisClmp a rd ra rb) 1 fun r => r.satPut rd
    (min (max (r.get ra) (-min ((r.get rb).natAbs : Int) lisMax)) (min ((r.get rb).natAbs : Int) lisMax))) ∧
  (∀ a rd ra, LisDoes (.lisAbs a rd ra) 1 fun r => r.satPut rd (r.get ra).natAbs) ∧
  (∀ a rd ra sh, LisDoes (.lisShl a rd ra sh) 1 fun r => r.satPut rd (r.get ra * 2 ^ sh.val))) ∧
  ((∀ a rd imm, LisDoes (.lisMovi a rd imm) 1 fun r => r.put rd imm.toInt) ∧
  (∀ a rd imm, LisDoes (.lisMovhi a rd imm) 1 fun r => r.put rd (toS 32 (imm.toNat * 65536 + ofS 32 (r.get rd) % 65536))) ∧
  (∀ a rd imm, LisDoes (.lisMovlo a rd imm) 1 fun r => r.put rd (toS 32 (ofS 32 (r.get rd) - ofS 32 (r.get rd) % 65536 + imm.toNat))) ∧
  (∀ a rd ra rb, LisDoes (.lisMin a rd ra rb) 1 fun r => r.put rd (if r.get ra ≤ r.get rb then r.get ra else r.get rb)) ∧
  (∀ a rd ra rb, LisDoes (.lisMax a rd ra rb) 1 fun r => r.put rd (if r.get ra ≤ r.get rb then r.get rb else r.get ra)) ∧
  (∀ a rd ra rb, LisDoes (.lisAnd a rd ra rb) 1 fun r =>
    r.put rd (BitVec.ofInt 32 (r.get ra) &&& BitVec.ofInt 32 (r.get rb)).toInt) ∧
  (∀ a rd ra rb, LisDoes (.lisOr a rd ra rb) 1 fun r =>
    r.put rd (BitVec.ofInt 32 (r.get ra) ||| BitVec.ofInt 32 (r.get rb)).toInt) ∧
  (∀ a rd ra rb, LisDoes (.lisXor a rd ra rb) 1 fun r =>
    r.put rd (BitVec.ofInt 32 (r.get ra) ^^^ BitVec.ofInt 32 (r.get rb)).toInt) ∧
  (∀ a rd ra sh rnd, LisDoes (.lisAsr a rd ra sh rnd) 1 fun r => r.put rd
    (if rnd = true ∧ sh ≠ 0 then (r.get ra + 2 ^ (sh.val - 1)) / 2 ^ sh.val else r.get ra / 2 ^ sh.val)) ∧
  (∀ a rd ra rb p, LisDoes (.lisSel a rd ra rb p) 1 fun r => r.put rd (if r.pred p then r.get ra else r.get rb))) ∧
  ((∀ a pd ra rb, LisDoes (.lisCmplt a pd ra rb) 1 fun r => r.putP pd (decide (r.get ra < r.get rb))) ∧
  (∀ a pd ra rb, LisDoes (.lisCmple a pd ra rb) 1 fun r => r.putP pd (decide (r.get ra ≤ r.get rb))) ∧
  (∀ a pd ra rb, LisDoes (.lisCmpeq a pd ra rb) 1 fun r => r.putP pd (decide (r.get ra = r.get rb))) ∧
  (∀ a pd ra b, LisDoes (.lisTbit a pd ra b) 1 fun r => r.putP pd ((BitVec.ofInt 32 (r.get ra)).getLsbD b)) ∧
  (∀ a pd ra imm, LisDoes (.lisCmplti a pd ra imm) 1 fun r => r.putP pd (decide (r.get ra < imm.toInt))) ∧
  (∀ a pd ra imm, LisDoes (.lisCmpgti a pd ra imm) 1 fun r => r.putP pd (decide (imm.toInt < r.get ra))) ∧
  (∀ (r : Run) (i j : Nat) (v : Int), r.v.length = 16 → i < 16 → j < 16 →
    (r.put j v).get i = if i = 0 then 0 else if i = j then v else r.get i) ∧
  (∀ (r : Run) (i j : Nat) (v : Bool), r.p.length = 4 → i < 4 → j < 4 →
    (r.putP j v).pred i = if i = 0 then true else if i = j then v else r.pred i))

/-- WCAND, DONE, STK, LDK and BR (R245, R246, R247, R256, R257): WCAND clamps to 16 bits and a clamp sets SAT, but in a probe
program it has no effect; an LDK returns the value the job stored, or the context's word as the job's release found it, whatever
has been written since; BR counts from the branch. Image reads and counter reads (R249, R250, R255): a read gives the image's
value, or 0 with a count; a register index reads by its signed value; the channel's class and element are those latched at phase
0; RDPC gives the counter of its core, or 0 with a count where PMC_ACCESS does not allow the program's domain. Only the jobs of
the active die count. -/
def Obligations.LisCandidateAndCounters : Prop :=
  ((∀ (s : State) (a : LisAt) (ra : Fin 16) (w : Nat) (r : Run), lisOf (.lisWcand a ra) = some (a, w) → LisReady s a r w →
    (r.pred a.pg != a.pn) = true →
    ∃ t, exec (.lisWcand a ra) s = .next t ∧ LisRan s t a 1 r (if s.isProbe (s.ctxProg r.job.ctx) = true then r else
      { r with cand := some (max 0 (min 65535 (r.get ra))).toNat, sat := r.sat || decide (r.get ra < 0 ∨ 65535 < r.get ra) })) ∧
  (∀ a, LisDoes (.lisDone a) 1 fun r => { r with done := true }) ∧
  (∀ a ra k, LisDoes (.lisStk a ra k) 1 fun r => { r with k := aput r.k k (BitVec.ofInt 32 (r.get ra)).toNat }) ∧
  (∀ (s : State) (a : LisAt) (rd : Fin 16) (k : Fin 8) (w : Nat) (r : Run), lisOf (.lisLdk a rd k) = some (a, w) →
    LisReady s a r w → (r.pred a.pg != a.pn) = true →
    ∃ t, exec (.lisLdk a rd k) s = .next t ∧ LisRan s t a 1 r (r.put rd (match aget r.k k with
      | some v => toS 32 v
      | none => toS 32 ((r.job.k[k.val]?).getD 0)))) ∧
  (∀ (s : State) (a : LisAt) (off : Fin 1024) (w : Nat) (r : Run), lisOf (.lisBr a off) = some (a, w) → LisReady s a r w →
    (r.pred a.pg != a.pn) = true →
    ∃ t, exec (.lisBr a off) s = .next t ∧ t.running a.die a.core = some { r with pc := r.pc + off, cycles := r.cycles + 1 } ∧
      MemSame s t)) ∧
  ((∀ (s : State) (a : LisAt) (rd : Fin 16) (sel : Fin 32) (idx : BitVec 14) (w : Nat) (r : Run),
    lisOf (.lisLdi a rd sel idx) = some (a, w) → LisReady s a r w → (r.pred a.pg != a.pn) = true →
    ∃ t, exec (.lisLdi a rd sel idx) s = .next t ∧
      match s.imgRead r.job sel idx.toNat with
      | some v => LisRan s t a 2 r (r.put rd v)
      | none => if s.isActive a.die = true then LisRan s t a 2 r (r.put rd 0) [LPA_CNT_IMGERR.COUNT.key 0 0 0] ∧
          t.rd LPA_CNT_IMGERR.COUNT = min (s.rd LPA_CNT_IMGERR.COUNT + 1) (2 ^ 32 - 1)
        else LisRan s t a 2 r (r.put rd 0)) ∧
  (∀ (s : State) (a : LisAt) (rd ra : Fin 16) (sel : Fin 32) (w : Nat) (r : Run),
    lisOf (.lisLdx a rd sel ra) = some (a, w) → LisReady s a r w → (r.pred a.pg != a.pn) = true →
    ∃ t, exec (.lisLdx a rd sel ra) s = .next t ∧
      match s.imgRead r.job sel (r.get ra) with
      | some v => LisRan s t a 2 r (r.put rd v)
      | none => if s.isActive a.die = true then LisRan s t a 2 r (r.put rd 0) [LPA_CNT_IMGERR.COUNT.key 0 0 0] ∧
          t.rd LPA_CNT_IMGERR.COUNT = min (s.rd LPA_CNT_IMGERR.COUNT + 1) (2 ^ 32 - 1)
        else LisRan s t a 2 r (r.put rd 0)) ∧
  (∀ (s : State) (j : Job), s.imgRead j 0 0 = some ((aget (s.image j.cls).target (j.ctx / 3)).getD 0 : Nat) ∧
    s.imgRead j 3 0 = some (j.ctx / 3 : Nat) ∧ s.imgRead j 3 5 = some (j.ctx : Nat) ∧ s.imgRead j 3 8 = none ∧ s.imgRead j 0 1 = none) ∧
  (∀ (s : State) (j : Job) (d : Ident), aget (s.image j.cls).ident (j.ctx / 3) = some d →
    s.imgRead j 3 6 = some (d.cls : Nat) ∧ s.imgRead j 3 1 = some (d.elem.getD 0 : Nat) ∧
    s.imgRead j 3 7 = some ((if d.current = true then 1 else 0 : Nat))) ∧
  (∀ (s : State) (j : Job) (d : Ident) (i : Nat), aget (s.image j.cls).ident (j.ctx / 3) = some d → d.elem = none → i < 1024 →
    s.imgRead j 10 i = some (((aget (s.image j.cls).fast i).map FastVal.code).getD 0 : Nat)) ∧
  (∀ (s : State) (j : Job) (sel : Nat) (x : Int), x < 0 ∨ 20480 ≤ x ∨ 16 ≤ sel → s.imgRead j sel x = none) ∧
  (∀ (s : State) (a : LisAt) (rd : Fin 16) (n : Fin 8) (w : Nat) (r : Run), lisOf (.lisRdpc a rd n) = some (a, w) →
    LisReady s a r w → (r.pred a.pg != a.pn) = true →
    s.on PMC_ACCESS.RDPC a.die (s.load (progAddr (s.ctxProg r.job.ctx) + 6) 1 % 32) = false →
    ∃ t, exec (.lisRdpc a rd n) s = .next t ∧
      if s.isActive a.die = true then LisRan s t a 2 r (r.put rd 0) [LPA_CNT_RDPC_DENY.COUNT.key 0 0 0] ∧
        t.rd LPA_CNT_RDPC_DENY.COUNT = min (s.rd LPA_CNT_RDPC_DENY.COUNT + 1) (2 ^ 32 - 1)
      else LisRan s t a 2 r (r.put rd 0)) ∧
  (∀ (s : State) (a : LisAt) (rd : Fin 16) (n : Fin 8) (w c : Nat) (r : Run), lisOf (.lisRdpc a rd n) = some (a, w) →
    LisReady s a r w → (r.pred a.pg != a.pn) = true → n < 2 → r.snap = some c →
    s.on PMC_ACCESS.RDPC a.die (s.load (progAddr (s.ctxProg r.job.ctx) + 6) 1 % 32) = true →
    ∃ t, exec (.lisRdpc a rd n) s = .next t ∧ LisRan s t a 2 r (r.put rd (toS 32 (c / 2 ^ (32 * n.val))))) ∧
  (∀ (s : State) (a : LisAt) (rd : Fin 16) (n : Fin 8) (w : Nat) (r : Run), lisOf (.lisRdpc a rd n) = some (a, w) →
    LisReady s a r w → (r.pred a.pg != a.pn) = true →
    s.on PMC_ACCESS.RDPC a.die (s.load (progAddr (s.ctxProg r.job.ctx) + 6) 1 % 32) = true →
    ∃ t v, exec (.lisRdpc a rd n) s = .next t ∧
      (t.running a.die a.core).map (fun x => (x.v, x.p, x.k, x.pc, x.cycles)) =
        some ((r.put rd v).v, r.p, r.k, r.pc + 1, r.cycles + 2) ∧ MemSame s t ∧
      (2 ≤ n → v = toS 32 (t.rd PMC_CNT.COUNT a.die a.core (n - 2))) ∧
      (n < 2 → r.snap = none → ((t.running a.die a.core).bind (·.snap)).map (fun c => toS 32 (c / 2 ^ (32 * n.val))) = some v)))

/-- NOP, END and what every instruction shares (R220, R244, R252, R253): an END before the period's end takes the job from its core,
and its candidate waits for that end. On the active die the job commits at once: RUNS counts it, PFLAGS shows DONE and STOLEN,
and a word it stored stands in the context unless a host value waits there; on the other die no byte of memory changes. No other
instruction of the LIS acts where its guard is off, and it still takes its cycles. -/
def Obligations.LisEndAndGuards : Prop :=
  (∀ a, LisDoes (.lisNop a) 1 fun r => r) ∧
  (∀ (s : State) (a : LisAt) (w : Nat) (r : Run), lisOf (.lisEnd a) = some (a, w) → LisReady s a r w →
    (r.pred a.pg != a.pn) = true → s.now < r.job.s + classPeriod r.job.cls →
    ∃ t, exec (.lisEnd a) s = .next t ∧ t.running a.die a.core = none ∧
      (t.lpa.ended.head?.map fun e => (e.job, e.cand, e.done, e.k)) = some (r.job, r.cand, r.done, r.k) ∧
      (∀ die core : Nat, ¬(die = a.die ∧ core = a.core) → t.running die core = s.running die core) ∧
      (s.isProbe (s.ctxProg r.job.ctx) = false →
        (s.isActive a.die = false → MemSame s t) ∧
        (s.isActive a.die = true → s.takesJob r.job.ctx = true →
          (∀ e ∈ s.lpa.ended, ¬(e.job.ctx = r.job.ctx ∧ e.job.s = r.job.s ∧ e.fin = true)) →
          t.load (ctxAddr r.job.ctx + 12) 4 = min (s.load (ctxAddr r.job.ctx + 12) 4 + 1) 0xFFFFFFFF ∧
          t.load (ctxAddr r.job.ctx + 11) 1 = (if r.done = true then 1 else 0) + (if r.job.stolen ≠ 0 then 16 else 0) ∧
          ∀ k v : Nat, r.k = [(k, v)] → v < 2 ^ 32 → nget s.lpa.hostK (8 * r.job.ctx + k) = 0 →
            t.load (ctxAddr r.job.ctx + 24 + 4 * k) 4 = v))) ∧
  (∀ (i : Instr) (s : State) (a : LisAt) (w : Nat) (r : Run), lisOf i = some (a, w) → LisReady s a r w →
    (r.pred a.pg != a.pn) = false → ∃ t, exec i s = .next t ∧ LisRan s t a (lisCycles (w / 2 ^ 26)) r r) ∧
  (∀ (i : Instr) (s : State) (a : LisAt) (w : Nat), lisOf i = some (a, w) → s.running a.die a.core = none → exec i s = .next s)

/-- The start of a period (R217 to R219, R224, R227, R229, R236, R237, R245): at the class's phase 0 the image is latched; with
ENABLE 0 nothing is released; a context that is due becomes a job on its home core of each die that runs, with K0 to K7 as they
stand there, a host value that waited first, and one activated at this phase 0 or later does not; a tone-bound slot 0 without a
clean tone result is skipped and counted, and its period's end will show it. ENABLE itself only stands for the next phase 0.
Cores (R224, R225, R232, R245, R265, R428): a core with nothing to run starts the head of its queue, with every register 0, once
its prefetch is complete, unless a word of its program cannot be read, which ends the job unpublished; a core with an empty
queue takes its victim's last job; a job carried past its WCET is stopped, publishes nothing and faults its core. -/
def Obligations.PeriodsAndCores : Prop :=
  ((∀ (s : State) (cls : Fin 4), (∀ i, aget s.lpa.images cls = some i → i.frame < s.now) → s.on LPA_CTL.ENABLE = false →
    ∃ t i, exec (.periodRelease cls) s = .next t ∧ t.now = s.now + (2 + classPeriod cls - s.now % classPeriod cls) % classPeriod cls ∧
      aget t.lpa.images cls = some i ∧ i.frame = t.now ∧ t.lpa.jobs = s.lpa.jobs ∧ nget t.lpa.on cls = 0) ∧
  (∀ (s : State) (cls : Fin 4) (x f : Nat), (∀ i, aget s.lpa.images cls = some i → i.frame < s.now) → s.on LPA_CTL.ENABLE = true →
    f = s.now + (2 + classPeriod cls - s.now % classPeriod cls) % classPeriod cls → s.lpa.resume = [] → s.lpa.resumeCtx = [] →
    s.allCtx = [x] → s.dueIn x cls f = true → (x % 3 = 0 → s.toneBound (x / 3) = none) → (∀ b ∈ s.lpa.begun, b.1 = x → b.2 < f) →
    ∃ t, exec (.periodRelease cls) s = .next t ∧ t.now = f ∧ nget t.lpa.on cls = 1 ∧
      t.lpa.jobs = s.lpa.jobs ++ ([0, 1].filter fun d => s.rd LKS_STATUS.ROLE d != 0).map fun d =>
        ⟨d, 8 * (x / 3 / 2048) + x / 3 % 2048 / 256, x, cls, f, s.load (ctxAddr x + 8) 2, false, 0,
         (List.range 8).map fun k => match nget s.lpa.hostK (8 * x + k) with | 0 => s.ctxK d x k | v + 1 => v % 2 ^ 32⟩) ∧
  (∀ (s : State) (cls : Fin 4) (x f : Nat), (∀ i, aget s.lpa.images cls = some i → i.frame < s.now) → s.on LPA_CTL.ENABLE = true →
    f = s.now + (2 + classPeriod cls - s.now % classPeriod cls) % classPeriod cls → s.lpa.resume = [] → s.lpa.resumeCtx = [] →
    s.allCtx = [x] → (∃ b ∈ s.lpa.begun, b.1 = x ∧ f ≤ b.2) →
    ∃ t, exec (.periodRelease cls) s = .next t ∧ t.now = f ∧ t.lpa.jobs = s.lpa.jobs ∧ t.notBegun x = true) ∧
  (∀ (s : State) (cls : Fin 4) (x f : Nat) (b : ToneBind), (∀ i, aget s.lpa.images cls = some i → i.frame < s.now) →
    s.on LPA_CTL.ENABLE = true → f = s.now + (2 + classPeriod cls - s.now % classPeriod cls) % classPeriod cls → s.lpa.resume = [] →
    s.lpa.resumeCtx = [] → s.allCtx = [x] → s.dueIn x cls f = true → x % 3 = 0 → s.toneBound (x / 3) = some b → b.elem < 16384 →
    s.load (toneAddr b.elem + 16) 2 % 32 ≠ 1 → (∀ b ∈ s.lpa.begun, b.1 = x → b.2 < f) →
    ∃ t, exec (.periodRelease cls) s = .next t ∧ t.lpa.jobs = s.lpa.jobs ∧ (x, f + classPeriod cls) ∈ t.lpa.skipped ∧
      t.rd LPA_CNT_SKIP.COUNT = min (s.rd LPA_CNT_SKIP.COUNT + 1) (2 ^ 32 - 1)) ∧
  (∀ (s : State) (die : Fin 2) (v : Bool), s.bar0 die 0x300000 = .act →
    ∃ t, exec (.lpaEnable die v) s = .next t ∧ t.rd LPA_CTL.ENABLE = (if v then 1 else 0) ∧ OnlyRegs [LPA_CTL.ENABLE.key 0 0 0] s t)) ∧
  ((∀ (s : State) (die : Fin 2) (core : Fin 64) (j : Job) (l : List Job), s.running die core = none → s.coreQueue die core = j :: l →
    j.filled = true → s.badWord die j.ctx = none →
    ∃ t, exec (.jobDispatch die core none) s = .next t ∧
      t.running die core = some ⟨j, 0, List.replicate 16 0, [true, false, false, false], [], none, false, false, 9, none, false⟩ ∧
      t.lpa.jobs = s.lpa.jobs.filter (fun x => x != j) ∧ MemSame s t ∧
      (s.gated die (core / 8) = false → t = { s with regs := t.regs, lpa := t.lpa, pmc := t.pmc } ∧
        ∀ k, (∀ c : Fin 6, k ≠ PMC_CNT.COUNT.key die core c) → nget t.regs k = nget s.regs k)) ∧
  (∀ (s : State) (die : Fin 2) (core : Fin 64) (j : Job) (l : List Job) (w : Nat), s.running die core = none →
    s.coreQueue die core = j :: l → j.filled = true → s.badWord die j.ctx = some w →
    ∃ t o, exec (.jobDispatch die core none) s = .next t ∧ t.running die core = none ∧ j ∉ t.lpa.jobs ∧
      (t.lpa.ended.head?.map fun e => (e.job, e.pc)) = some (j, 0xFFFF) ∧ t.badWord die j.ctx ≠ none ∧
      t.saf.raised = s.saf.raised ++ [o] ∧ o.source = srcDie die 4 ∧ MemSame s t) ∧
  (∀ (s : State) (die : Fin 2) (core : Fin 64) (j : Job) (l : List Job), s.coreQueue die core = j :: l → j.filled = false →
    exec (.jobDispatch die core none) s = .next s) ∧
  (∀ (s : State) (die : Fin 2) (core : Fin 64) (v : Nat) (far : Bool) (j : Job), s.running die core = none →
    s.coreQueue die core = [] → s.victim die core = some (v, far) → (s.coreQueue die v).getLast? = some j → v ≠ core →
    ∃ t, exec (.jobSteal die core) s = .next t ∧
      { j with core := core.val, filled := false, stolen := if far then 2 else 1 } ∈ t.lpa.jobs ∧ j ∉ t.lpa.jobs ∧
      t.lpa.jobs.length = s.lpa.jobs.length ∧ MemSame s t ∧
      (s.isActive die = true → far = false →
        t.rd LPA_CNT_STEAL_LOCAL.COUNT = min (s.rd LPA_CNT_STEAL_LOCAL.COUNT + 1) (2 ^ 32 - 1)) ∧
      (s.isActive die = true → far = true →
        t.rd LPA_CNT_STEAL_REMOTE.COUNT = min (s.rd LPA_CNT_STEAL_REMOTE.COUNT + 1) (2 ^ 32 - 1))) ∧
  (∀ (s : State) (die : Fin 2) (core : Fin 64) (j : Job), (s.coreQueue die core).find? (fun j => !j.filled) = some j →
    ∃ t, exec (.prefetchFill die core) s = .next t ∧ { j with filled := true } ∈ t.lpa.jobs ∧ j ∉ t.lpa.jobs ∧
      t.lpa.jobs.length = s.lpa.jobs.length ∧ t.rd BMX_CNT_PF_WAIT.COUNT die ≤ s.rd BMX_CNT_PF_WAIT.COUNT die + 30 * (s.now - j.s) ∧
      MemSame s t) ∧
  (∀ (s : State) (die : Fin 2) (core : Fin 64) (r : Run), s.running die core = some r →
    ∃ t o, exec (.jobWcetStop die core) s = .next t ∧ t.rd LPA_CORE_STATUS.FAULT core = 1 ∧ r ∉ t.lpa.runs ∧
      t.lpa.ended = { r with done := false, cand := none, pc := 0xFFFF } :: s.lpa.ended ∧
      t.saf.raised = s.saf.raised ++ [o] ∧ o.source = srcDie die 0 ∧ o.info = core.val ∧ MemSame s t))

/-- The end of a period (R220, R221, R227, R228, R230): a job that ended in time publishes its candidate, and where it has not
committed (assumption 48) counts a run and clears OVR_RUN; one still queued overruns; a context skipped shows it; the Output
Combiner's output of a channel is its lowest candidate, slot 0's clipped into the last output ± STEP_MAX, for the class's apply
frame. That a period ends once is the model's choice (assumption 72). Outputs and classes (R221 to R223): 24 frames before its
apply frame an output goes to the tiles as a write of rank 4; a class change takes effect at the first phase 0 of the new class,
discards the channel's unsent outputs of the old one, and starts the count of periods again. -/
def Obligations.CandidatesOutputsAndClasses : Prop :=
  ((∀ (s : State) (cls : Fin 4) (r : Run) (c x : Nat), s.lpa.jobs = [] → s.lpa.runs = [] → s.lpa.ended = [r] → r.job.ctx = x →
    r.job.die = s.active → r.pc ≠ 0xFFFF → r.job.s + classPeriod r.job.cls ≤ phase0 cls (max s.now (nget s.marks (4 + cls.val))) → nget s.lpa.on cls = 0 →
    s.ctxState x = 1 → s.isProbe (s.ctxProg x) = false → r.k = [] → r.cand = some c → r.done = false → s.lpa.skipped = [] →
    ∃ t, exec (.candidatePublish cls) s = .next t ∧ t.now = phase0 cls (max s.now (nget s.marks (4 + cls.val))) ∧ t.load (ctxAddr x + 4) 2 = c % 2 ^ 16 ∧
      t.lpa.ended = [] ∧
      (if r.fin = true then ∀ a, a < ctxAddr x + 4 ∨ ctxAddr x + 6 ≤ a → t.loadB a = s.loadB a
      else t.load (ctxAddr x + 10) 1 = 0 ∧ t.load (ctxAddr x + 12) 4 = min (s.load (ctxAddr x + 12) 4 + 1) 0xFFFFFFFF ∧
        ∀ a, a < ctxAddr x ∨ ctxAddr x + 64 ≤ a → t.loadB a = s.loadB a)) ∧
  (∀ (s : State) (cls : Fin 4) (x e : Nat), s.lpa.jobs = [] → s.lpa.runs = [] → s.lpa.ended = [] → nget s.lpa.on cls = 0 →
    s.lpa.skipped = [(x, e)] → e ≤ phase0 cls (max s.now (nget s.marks (4 + cls.val))) →
    ∃ t, exec (.candidatePublish cls) s = .next t ∧ t.pflags x = 4 ∧ t.lpa.skipped = [] ∧
      ∀ a, a ≠ ctxAddr x + 11 → t.loadB a = s.loadB a) ∧
  (∀ (s : State) (cls : Fin 4) (j : Job) (x : Nat), s.lpa.jobs = [j] → s.lpa.runs = [] → s.lpa.ended = [] → j.ctx = x →
    s.isActive j.die = true → j.s + classPeriod j.cls ≤ phase0 cls (max s.now (nget s.marks (4 + cls.val))) → nget s.lpa.on cls = 0 → s.ctxState x = 1 →
    s.load (ctxAddr x + 10) 1 + 1 < max 1 (s.rd LPA_OVR_LIMIT.LIMIT) → s.load (ctxAddr x + 10) 1 < 255 → j.die < 2 →
    ∃ t o, exec (.candidatePublish cls) s = .next t ∧ t.lpa.jobs = [] ∧
      t.load (ctxAddr x + 10) 1 = s.load (ctxAddr x + 10) 1 + 1 ∧
      t.rd LPA_CNT_OVR.COUNT = min (s.rd LPA_CNT_OVR.COUNT + 1) (2 ^ 32 - 1) ∧ t.saf.raised = s.saf.raised ++ [o] ∧
      o.source = srcDie j.die 1 ∧ (s.on LPA_FIRST_OVR.VALID = false → t.rd LPA_FIRST_OVR.CONTEXT = x % 2 ^ 16)) ∧
  (∀ (s : State) (cls : Fin 4) (ch f : Nat) (last step cand : Int), s.lpa.jobs = [] → s.lpa.runs = [] → s.lpa.ended = [] → f = phase0 cls (max s.now (nget s.marks (4 + cls.val))) →
    nget s.lpa.on cls = 1 → s.loopChannels = [ch] → s.chClass ch = cls → s.chPaused ch = false →
    nget s.lpa.since ch + classPeriod cls ≤ f + 1 → s.ctxState (3 * ch) = 1 → s.ctxState (3 * ch + 1) = 0 →
    s.ctxState (3 * ch + 2) = 0 → (∀ k < 3, nget s.lpa.hostP (4 * ch + k) = 0) → s.lpa.fresh = [] → s.lpa.begun = [] →
    s.lpa.skipped = [] →
    s.load (ctxAddr (3 * ch) + 18) 2 = 0 → step = s.load (ctxAddr (3 * ch) + 16) 2 → last = s.load (ctxAddr (3 * ch) + 56) 2 →
    cand = s.load (ctxAddr (3 * ch) + 4) 2 →
    ∃ t o, exec (.candidatePublish cls) s = .next t ∧ t.lpa.outs = s.lpa.outs ++ [o] ∧ o.ch = ch ∧ o.cls = cls.val ∧
      o.apply = f - classPeriod cls + classApply cls ∧
      (o.code : Int) = (if step = 0 then cand else max 0 (max (last - step) (min (last + step) cand))) ∧
      t.load (ctxAddr (3 * ch) + 56) 2 = o.code % 2 ^ 16) ∧
  (∀ (s : State) (cls : Fin 4) (ch f : Nat), s.lpa.jobs = [] → s.lpa.runs = [] → s.lpa.ended = [] → f = phase0 cls (max s.now (nget s.marks (4 + cls.val))) →
    nget s.lpa.on cls = 1 → s.loopChannels = [ch] → s.chClass ch = cls → s.chPaused ch = false →
    nget s.lpa.since ch + classPeriod cls ≤ f + 1 → s.ctxState (3 * ch) = 1 → s.ctxState (3 * ch + 1) = 1 →
    s.ctxState (3 * ch + 2) = 0 → (∀ k < 3, nget s.lpa.hostP (4 * ch + k) = 0) → s.load (ctxAddr (3 * ch) + 18) 2 = 0 →
    s.load (ctxAddr (3 * ch) + 16) 2 = 0 → s.lpa.begun = [] → s.lpa.skipped = [] →
    ∃ t o, exec (.candidatePublish cls) s = .next t ∧ t.lpa.outs = s.lpa.outs ++ [o] ∧
      o.code = min (s.load (ctxAddr (3 * ch) + 4) 2) (s.load (ctxAddr (3 * ch + 1) + 4) 2))) ∧
  ((∀ (s : State) (o : OutWrite), s.lpa.outs = [o] → s.now + 24 ≤ o.apply → nget s.lpa.on o.cls ≠ 0 →
    exec .combinedOutputSend s = .next { s with
      now := o.apply - 24, lpa := { s.lpa with outs := [] },
      drv := { s.drv with down := s.drv.down ++ [⟨o.ch, o.code, o.apply, 4, s.active, 0⟩] } }) ∧
  (∀ (s : State) (ch : Fin 16384) (c : ClassWait), s.lpa.changes.find? (fun c => c.ch == ch.val) = some c → s.lpa.swait = [] →
    s.lpa.twait = [] → (∀ r ∈ s.lpa.resume, r.ch ≠ ch.val) →
    ∃ t, exec (.classChange ch) s = .next t ∧ t.now = phase0 c.cls (max s.now c.after) ∧ t.chClass ch = c.cls % 4 ∧
      nget t.lpa.ran ch = 0 ∧ nget t.lpa.since ch = t.now + 1 ∧ (∀ x ∈ t.lpa.changes, x.ch ≠ ch.val) ∧
      t.lpa.outs = s.lpa.outs.filter (fun o => !(o.ch == ch.val && o.cls != c.cls)) ∧
      (∀ a, a ≠ ctxAddr (3 * ch) + 58 → t.loadB a = s.loadB a) ∧
      t = { s with now := t.now, regs := t.regs, mem := t.mem, lpa := t.lpa } ∧ RegsBut [LPA_CNT_DISCARD.COUNT.key 0 0 0] s t))

/-- CTX_WRITE, ACTIVATE, DEACTIVATE, SET_CLASS and CTX_READ (R223, R235 to R239): a command that R238 refuses completes with its
status and RESULT and nothing else; the others write, run, stop or move the contexts named, or return their entries, and
complete with their number. -/
def Obligations.ContextCommands : Prop :=
  (∀ (s : State) (id : Nat) (d : Desc) (data : List Byte) (p : Bool) (st r : Nat) (i : Instr), Runs s id opCtxWrite d →
    s.ctxRefusal d data = some (st, r) →
    (i = .ctxWrite id ⟨data, p⟩ ∧ ((ctxBody d).op = 0 ∨ 3 < (ctxBody d).op)) ∨ (i = .activate id ⟨data, p⟩ ∧ (ctxBody d).op = 1) ∨
      (i = .deactivate id ⟨data, p⟩ ∧ (ctxBody d).op = 2) ∨ (i = .setClass id ⟨data, p⟩ ∧ (ctxBody d).op = 3) →
    ∃ t, exec i s = .next t ∧ Completed d st (some r) s t ∧ OnlyHpt s t) ∧
  (∀ (s : State) (d : Desc) (data : List Byte), ctxBodyOk d = true → (ctxBody d).op = 2 → (ctxBody d).count = 1 →
    s.ctxRefusal d data =
      if s.ctxWritable d.dom (ctxBody d).first 0 = false then some (stDomainDenied, 0)
      else if s.elemAt ((ctxBody d).first / 3) = none then some (stCtxUnbound, 0) else none) ∧
  (∀ (s : State) (d : Desc) (data : List Byte), ctxBodyOk d = true → (ctxBody d).op = 1 → (ctxBody d).count = 1 → (ctxBody d).mask = 0 →
    (ctxBody d).first % 3 = 0 → bit (s.load (ctxAddr (ctxBody d).first + 2) 1) 0 = false →
    s.ctxRefusal d data = some (stBadField, 0)) ∧
  (∀ (s : State) (id x : Nat) (d : Desc) (data : List Byte) (p : Bool), Runs s id opCtxWrite d → s.ctxRefusal d data = none →
    (ctxBody d).op = 0 → (ctxBody d).count = 1 → (ctxBody d).first = x → (ctxBody d).mask = 18 →
    ∃ t, exec (.ctxWrite id ⟨data, p⟩) s = .next t ∧ t.load (ctxAddr x + 6) 2 = field data 6 2 ∧
      nget t.lpa.hostK (8 * x) = field data 24 4 + 1 ∧ Completed d stOK (some 1) s t ∧
      (∀ a, a < ctxAddr x + 6 ∨ ctxAddr x + 8 ≤ a → t.loadB a = s.loadB a)) ∧
  (∀ (s : State) (id x : Nat) (d : Desc) (data : List Byte) (p : Bool), Runs s id opCtxWrite d → s.ctxRefusal d data = none →
    (ctxBody d).op = 1 → (ctxBody d).count = 1 → (ctxBody d).first = x → (ctxBody d).mask = 0 → s.tileLost (x / 3 / 2048) = false →
    s.chPaused (x / 3) = false →
    ∃ t, exec (.activate id ⟨data, p⟩) s = .next t ∧ t.ctxState x = 1 ∧ (x, s.now) ∈ t.lpa.begun ∧ t.load (ctxAddr x + 8) 2 = s.load (progAddr (s.ctxProg x) + 8) 2 ∧
      t.load (ctxAddr x + 4) 2 = (if x % 3 = 0 then s.liveTarget (x / 3) % 2 ^ 16 else s.load (ctxAddr x + 6) 2) ∧
      t.load (ctxAddr x + 10) 1 = 0 ∧ bit (t.rd LPA_OPEN_LOOP.OPEN (x / 32)) (x % 32) = false ∧ Completed d stOK (some 1) s t ∧
      (∀ a, a < ctxAddr x ∨ ctxAddr x + 64 ≤ a → t.loadB a = s.loadB a)) ∧
  (∀ (s : State) (id : Nat) (d : Desc) (data : List Byte) (p : Bool), Runs s id opCtxWrite d → s.ctxRefusal d data = none →
    (ctxBody d).op = 2 →
    ∃ t, exec (.deactivate id ⟨data, p⟩) s = .next t ∧ Completed d stOK (some (ctxBody d).count) s t ∧
      ∀ x, (ctxBody d).first ≤ x → x < (ctxBody d).first + (ctxBody d).count →
        t.ctxState x = 0 ∧ (∀ j ∈ t.lpa.jobs, j.ctx ≠ x) ∧ (∀ r ∈ t.lpa.runs, r.job.ctx ≠ x) ∧ ∀ r ∈ t.lpa.ended, r.job.ctx ≠ x) ∧
  (∀ (s : State) (id ch : Nat) (d : Desc) (data : List Byte) (p : Bool), Runs s id opCtxWrite d → s.ctxRefusal d data = none →
    (ctxBody d).op = 3 → (ctxBody d).count = 1 → (ctxBody d).first = 3 * ch → s.duskAsked = false → s.classFull (ctxBody d).ncls = false →
    s.lpa.changes = [] → s.lpa.swait = [] → s.lpa.twait = [] → s.chClass ch ≠ (ctxBody d).ncls →
    ∃ t, exec (.setClass id ⟨data, p⟩) s = .next t ∧ t.lpa.changes = [⟨ch, (ctxBody d).ncls, s.now⟩] ∧ Completed d stOK (some 1) s t) ∧
  (∀ (s : State) (id first count : Nat) (d : Desc), Runs s id opCtxRead d → first = d.fld 8 4 → count = d.fld 12 2 → 1 ≤ count →
    count ≤ 1024 → first + count ≤ 49152 → d.fld 16 8 % 8 = 0 → zeros d.bytes 14 2 = true → zeros d.bytes 24 40 = true →
    ((List.range count).all fun i => s.ctxReadable d.dom (first + i)) = true →
    ∃ t, exec (.ctxRead id) s = .next t ∧ Completed d stOK (some count) s t ∧ OnlyHpt s t ∧
      ∃ pre, t.out = pre ++ .host s.active (d.fld 16 8) false ((List.range count).flatMap fun i => s.ctxEntry (first + i)) :: s.out)

/-- A write to LPA_PROG_CMD (R264): with no command running it starts one; while one runs it is latched once, as written, and
PENDING is set; a further write while one is pending sets OVERRUN and nothing else; the latched command starts when the running
one ends. -/
def Obligations.LatchedProgramCommands : Prop :=
  (∀ (s : State) (die : Fin 2) (p : Fin 4096) (i : Instr) (op : Nat), s.bar0 die 0x302000 = .act →
    (i = .publish die p ∧ op = 1) ∨ (i = .retire die p ∧ op = 2) →
    (s.lpa.cmd = none → ∃ t, exec i s = .next t ∧ t.rd LPA_PROG_STATUS.BUSY = 1 ∧ t.lpa = { s.lpa with cmd := some (op, p.val) } ∧
      t = { s with regs := t.regs, lpa := t.lpa } ∧ RegsBut [LPA_PROG_STATUS.BUSY.key 0 0 0] s t) ∧
    (s.lpa.cmd ≠ none → s.lpa.cmdNext = none → ∃ t, exec i s = .next t ∧ t.rd LPA_PROG_STATUS.PENDING = 1 ∧
      t.lpa = { s.lpa with cmdNext := some (op, p.val) } ∧
      t = { s with regs := t.regs, lpa := t.lpa } ∧ RegsBut [LPA_PROG_STATUS.PENDING.key 0 0 0] s t) ∧
    (s.lpa.cmd ≠ none → s.lpa.cmdNext ≠ none → ∃ t, exec i s = .next t ∧ t.rd LPA_PROG_STATUS.OVERRUN = 1 ∧
      OnlyRegs [LPA_PROG_STATUS.OVERRUN.key 0 0 0] s t)) ∧
  (∀ (s : State) (op p : Nat), s.lpa.cmd = some (op, p) →
    ∃ t, exec .progCmdDone s = .next t ∧ t.lpa.cmd = s.lpa.cmdNext ∧ t.lpa.cmdNext = none ∧ t.rd LPA_PROG_STATUS.PENDING = 0 ∧
      t.rd LPA_PROG_STATUS.BUSY = (if s.lpa.cmdNext = none then 0 else 1))

/-- The end of a program command (R260, R263): a PUBLISH that passes makes the program VALID with its WCET, a RETIRE that passes
makes it EMPTY, and one that fails only gives its code. A job costs 9 cycles besides its instructions, and a program's WCET
follows R258 from its last word back: an END counts 1, an unguarded branch 1 and its target, a guarded one 1 and the longer way,
any other its cycles and the next. -/
def Obligations.ProgramCommandsAndWcet : Prop :=
  ((∀ (s : State) (p : Nat), s.lpa.cmd = some (1, p) → s.publishError p = none → p < 4096 →
    ∃ t, exec .progCmdDone s = .next t ∧ t.progValid p = true ∧ t.isProbe p = (s.progWords p).any (fun w => opOf w == 0x30) ∧
      t.load (progAddr p + 8) 2 = lisWcet (s.progWords p) % 2 ^ 16 ∧ t.rd LPA_PROG_STATUS.ERROR = 0 ∧
      t.rd LPA_PROG_STATUS.PROG = p ∧ t.lpa = { s.lpa with cmd := s.lpa.cmdNext, cmdNext := none } ∧
      ∀ a, a < progAddr p + 7 ∨ progAddr p + 10 ≤ a → t.loadB a = s.loadB a) ∧
  (∀ (s : State) (p e : Nat) (pc : Option Nat), s.lpa.cmd = some (1, p) → s.publishError p = some (e, pc) →
    ∃ t, exec .progCmdDone s = .next t ∧ t.rd LPA_PROG_STATUS.ERROR = e ∧ t.load (progAddr p + 10) 1 = e ∧
      (∀ i, pc = some i → t.load (progAddr p + 14) 2 = i % 2 ^ 16) ∧ t.lpa = { s.lpa with cmd := s.lpa.cmdNext, cmdNext := none } ∧
      ∀ a, (a < progAddr p + 10 ∨ progAddr p + 16 ≤ a) → t.loadB a = s.loadB a) ∧
  (∀ (s : State) (p : Nat), s.lpa.cmd = some (2, p) →
    ∃ t, exec .progCmdDone s = .next t ∧
      (if s.progValid p = true ∧ s.progUsers p = 0 then t.progValid p = false ∧ t.rd LPA_PROG_STATUS.ERROR = 0
      else t.rd LPA_PROG_STATUS.ERROR = (if s.progValid p then 7 else 1) ∧ t.progValid p = s.progValid p) ∧
      t.lpa = { s.lpa with cmd := s.lpa.cmdNext, cmdNext := none } ∧ t.rd LPA_PROG_STATUS.PENDING = 0 ∧
      t.rd LPA_PROG_STATUS.BUSY = (if s.lpa.cmdNext = none then 0 else 1))) ∧
  ((∀ ws, lisWcet ws = 9 + (lisCosts ws).headD 0) ∧
  (∀ w t, w / 2 ^ 26 % 64 = 1 → (lisCosts (w :: t)).head? = some 1) ∧
  (∀ w t, w / 2 ^ 26 % 64 = 2 → w / 2 ^ 23 % 8 = 0 → w % 1024 ≠ 0 →
    (lisCosts (w :: t)).head? = some (1 + ((lisCosts t)[w % 1024 - 1]?).getD 0)) ∧
  (∀ w t, w / 2 ^ 26 % 64 = 2 → w / 2 ^ 23 % 8 ≠ 0 → w % 1024 ≠ 0 →
    (lisCosts (w :: t)).head? = some (1 + max ((lisCosts t).headD 0) (((lisCosts t)[w % 1024 - 1]?).getD 0))) ∧
  (∀ w t, w / 2 ^ 26 % 64 ≠ 1 → w / 2 ^ 26 % 64 ≠ 2 →
    (lisCosts (w :: t)).head? = some ((if w / 2 ^ 26 % 64 = 0x12 then 10
      else if w / 2 ^ 26 % 64 ∈ [0x10, 0x11, 0x28, 0x29, 0x30] then 2 else 1) + (lisCosts t).headD 0)) ∧
  (∀ ws, (lisCosts ws).length = ws.length))

/-- Generators (R267, R270, R272, R274): 16 frames before its update frame a generator sends its code for that frame to its channel,
as a write of rank 3, and moves on by 32 frames; one that a staged commit allocates does so before C where its update frame is
near; after its last update a generator releases its channel; a move keeps between its start and its goal and ends on the goal.
A started player's frames and passes (R276, R278 to R282, R284): 16 frames ahead it sends the code of its sample, within DEV of
the live target, and advances by INC; while a pass waits it repeats its code; a pass that ends starts the next, or ends the
stream; a trigger starts a waiting pass, or is kept once; a jump is kept once and starts its segment; a rate outside 1 to
0x100_0000 is refused; without a sample it starves, and goes on with RESUME of them, or in time-locked mode from the shadow's
place; after a failed fetch one that starves ends (R290). -/
def Obligations.GeneratorsAndPlayers : Prop :=
  ((∀ (s : State) (n : Fin 4096) (g : Gen), s.prf.gens.find? (fun g => g.num == n.val) = some g → g.u ≤ g.last →
    (∀ c, s.pln.cycle = some c → c.gens = [] ∧ c.early = []) →
    ∃ t, exec (.profileUpdate n) s = .next t ∧ t.now = max s.now (g.f0 - 16) ∧
      t.drv.down = s.drv.down ++ [⟨g.ch, g.code g.u, g.f0, 3, s.active, 0⟩] ∧
      t.prf.gens = s.prf.gens.map (fun x => if x.num = n.val then { x with u := x.u + 1, f0 := x.f0 + 32 } else x) ∧
      t = { s with now := t.now, drv := { s.drv with down := t.drv.down }, prf := t.prf }) ∧
  (∀ (s : State) (n : Fin 4096) (c : Cycle) (x : Stage) (f0 : Nat), s.prf.gens = [] → s.drv.queue = [] → s.drv.down = [] →
    s.pln.cycle = some c → c.phase = .staged → c.gens = [(x.ch, n.val)] → c.early = [] → c.stage = [x] →
    f0 = c.c + (x.ch % 32 + 32 - c.c % 32) % 32 → f0 < c.c + 16 →
    ∃ t, exec (.profileUpdate n) s = .next t ∧ t.now = max s.now (f0 - 16) ∧
      t.drv.down = [⟨x.ch, (s.makeGen x n 0 c.c (s.live x.ch)).code 0, f0, 3, s.active, 0⟩] ∧
      t.pln.cycle.map (·.early) = some [(x.ch, s.live x.ch)] ∧ t.prf = s.prf ∧ MemSame s t) ∧
  (∀ (s : State) (n : Fin 4096) (g : Gen), s.prf.gens.find? (fun g => g.num == n.val) = some g → g.last < g.u →
    (∀ c, s.pln.cycle = some c → c.gens = []) →
    ∃ t, exec (.profileUpdate n) s = .next t ∧ t.now = max s.now (g.f0 - 32) ∧ t.prf.gens = s.prf.gens.filter (fun x => x.ch != g.ch) ∧
      (if s.inCycle g.ch = true then ∀ a, a ≠ ctxAddr (3 * g.ch) + 58 → t.loadB a = s.loadB a else MemSame s t)) ∧
  (∀ (x0 goal v na nj u : Nat), (v = 0 ∨ 1 ≤ na ∧ 1 ≤ nj) →
    trajCode x0 goal v na nj (trajLast x0 goal v na nj) = goal ∧ min x0 goal ≤ trajCode x0 goal v na nj u ∧
      trajCode x0 goal v na nj u ≤ max x0 goal) ∧
  (∀ (peak hold goal v na nj : Nat), (v = 0 ∨ 1 ≤ na ∧ 1 ≤ nj) →
    odCode peak hold goal v na nj (odLast peak hold goal v na nj) = goal ∧
      (∀ u < hold, odCode peak hold goal v na nj u = peak) ∧ (1 ≤ v → odCode peak hold goal v na nj hold ≤ max peak goal))) ∧
  ((∀ (s : State) (n : Fin 32) (x : Player) (a : Int), s.player n = some x → x.started = true → x.stopDue = false → x.jumpDue = false →
    x.closeDue = false → x.passOver = false → x.rate = none → x.starved = false → x.waiting = false → s.playValue x = some a →
    ∃ t y w, exec (.playerFrameOutput n none) s = .next t ∧ t.now = max s.now (x.next - 16) ∧ t.drv.down = s.drv.down ++ [w] ∧
      w.ch = x.ch ∧ w.apply = x.next ∧ w.rank = 3 ∧
      w.code = (min (max (max 0 (min 65535 ((x.base : Int) + (a * toS 16 x.scale + 8192) / 16384))) ((s.liveTarget x.ch : Int) - x.dev))
        ((s.liveTarget x.ch : Int) + x.dev)).toNat ∧
      t.player n = some y ∧ y.pos = x.pos + x.inc ∧ y.next = x.next + 1 ∧ y.code = w.code ∧ y.passFrames = x.passFrames + 1 ∧ MemSame s t) ∧
  (∀ (s : State) (n : Fin 32) (x : Player), s.player n = some x → x.started = true → x.stopDue = false → x.jumpDue = false →
    x.closeDue = false → x.passOver = false → x.rate = none → x.starved = false → x.waiting = true → x.go = 0 →
    ∃ t y w, exec (.playerFrameOutput n none) s = .next t ∧ t.drv.down = s.drv.down ++ [w] ∧ w.code = x.code ∧ w.apply = x.next ∧
      t.player n = some y ∧ y.pos = x.pos ∧ y.next = x.next + 1 ∧ y.waiting = true) ∧
  (∀ (s : State) (n : Fin 32) (x : Player), s.player n = some x → x.passOver = true → x.jumpDue = false → x.stopDue = false →
    x.closing = none →
    ∃ t y, exec (.playerPassEnd n) s = .next t ∧ t.player n = some y ∧ y.pos = x.pos - x.segv.length * 2 ^ 24 ∧
      (if x.segv.repeats = 0 ∨ x.pass + 1 < x.segv.repeats then y.pass = x.pass + 1 ∧ y.seg = x.seg ∧ y.passFrames = 0
      else if x.segv.next = 0xFF then y.stopDue = true else y.seg = x.segv.next ∧ y.pass = 0)) ∧
  (∀ (s : State) (die : Fin 2) (n : Fin 32) (x : Player), s.bar0 die (0x401008 + 0x40 * n) = .act → s.player n = some x →
    ∃ t, exec (.playerTrigger die n) s = .next t ∧
      (if x.waiting = true ∧ x.go = 0 then (t.player n).map (·.go) = some (x.next + 1)
      else if s.on PRF_PL_STATUS.TRIG_PENDING n then t.rd PRF_PL_STATUS.TRIG_OVERRUN n = 1 ∧ t.prf = s.prf
      else t.rd PRF_PL_STATUS.TRIG_PENDING n = 1 ∧ t.prf = s.prf) ∧ t = { s with regs := t.regs, prf := t.prf }) ∧
  (∀ (s : State) (die : Fin 2) (n : Fin 32) (x : Player), s.bar0 die (0x401008 + 0x40 * n) = .act → s.player n = some x →
    ∃ t, exec (.playerJump die n) s = .next t ∧
      (if x.jump = none then (t.player n).map (·.jump) = some (some (s.rd PRF_PL_CTL.JUMP_SEG n, x.pos / 2 ^ 24))
      else t.rd PRF_PL_STATUS.JUMP_OVERRUN n = 1 ∧ t.prf = s.prf) ∧ t = { s with regs := t.regs, prf := t.prf }) ∧
  (∀ (s : State) (n : Fin 32) (x : Player) (g k : Nat), s.player n = some x → x.jump = some (g, k) → x.started = true →
    x.stopDue = false → (x.starved = true ∨ x.pos / 2 ^ 24 ≠ k) →
    ∃ t y, exec (.jumpApply n) s = .next t ∧ t.player n = some y ∧ y.seg = g ∧ y.pass = 0 ∧ y.pos = x.pos % 2 ^ 24 ∧ y.jump = none ∧
      y.starved = false ∧ y.segv = s.segOf n g) ∧
  (∀ (s : State) (die : Fin 2) (n : Fin 32) (v : Word), s.bar0 die (0x40100C + 0x40 * n) = .act → 1 ≤ v.toNat % 2 ^ 25 →
    v.toNat % 2 ^ 25 ≤ 0x1000000 →
    ∃ t, exec (.rateWrite die n v) s = .next t ∧ t.rd PRF_PL_RATE.INC n = v.toNat % 2 ^ 25 ∧
      (∀ x, s.player n = some x → (t.player n).map (·.rate) = some (some (v.toNat % 2 ^ 25, bit v.toNat 31))) ∧
      t = { s with regs := t.regs, prf := t.prf }) ∧
  (∀ (s : State) (die : Fin 2) (n : Fin 32) (v : Word), s.bar0 die (0x40100C + 0x40 * n) = .act →
    (v.toNat % 2 ^ 25 = 0 ∨ 0x1000000 < v.toNat % 2 ^ 25) →
    ∃ t, exec (.rateWrite die n v) s = .next t ∧ t.rd PRF_STATUS.CFG_REJECT = 1 ∧ OnlyRegs [PRF_STATUS.CFG_REJECT.key 0 0 0] s t) ∧
  (∀ (s : State) (n : Fin 32) (x : Player), s.player n = some x → x.started = true → x.stopDue = false → x.starved = false →
    x.jumpDue = false → x.closeDue = false → x.passOver = false → s.playValue x = none → x.waiting = false →
    s.on PRF_PL_STATUS.FETCH_ERR n = false →
    ∃ t y w, exec (.underrun n) s = .next t ∧ t.now = max s.now (x.next - 16) ∧ t.rd PRF_PL_STATUS.UNDERRUN n = 1 ∧
      t.player n = some y ∧ y.starved = true ∧ t.drv.down = s.drv.down ++ [w] ∧ w.code = x.code ∧ MemSame s t) ∧
  (∀ (s : State) (n : Fin 32) (x : Player), s.player n = some x → x.starved = true → x.timelock = false → x.resume ≤ x.buf.length →
    x.stopDue = false →
    ∃ t y, exec (.underrunResume n) s = .next t ∧ t.player n = some y ∧ y.starved = false ∧ y.pos = x.pos ∧
      t = { s with regs := t.regs, prf := t.prf }) ∧
  (∀ (s : State) (n : Fin 32) (x : Player), s.player n = some x → x.starved = true → x.timelock = true → x.stopDue = false →
    x.shadow.segv.stream = false →
    ∃ t y, exec (.underrunResume n) s = .next t ∧ t.player n = some y ∧ y.starved = false ∧ y.pos = x.shadow.pos ∧
      y.seg = x.shadow.seg ∧ y.pass = x.shadow.pass ∧ y.inc = x.shadow.inc ∧ t = { s with regs := t.regs, prf := t.prf }) ∧
  (∀ (s : State) (n : Fin 32) (x : Player) (d : Desc), s.player n = some x → x.started = true → x.stopDue = false → x.starved = true →
    x.timelock = false → x.jump = none → x.closing = none → x.passOver = false → x.rate = none → x.buf.length < x.resume →
    x.segv.next ≠ 0xFF → s.playValue x = none → s.on PRF_PL_STATUS.FETCH_ERR n = true → s.desc x.desc = some d → x.closers = [] →
    x.late = none →
    ∃ t, exec (.playerFrameOutput n none) s = .next t ∧ t.now = max s.now x.next ∧ t.player n = none ∧
      Answered d stDmaError (some x.consumed) t))

/-- Streams (R283, R286 to R290): an open that R288 refuses completes with its status, one that passes waits for its start frame; at
it the stream takes its channel, or ends with CHANNEL_BUSY; a fetch reads the tail word and asks for samples, and those that
come are kept and the head word is written; a failure sets FETCH_ERR; a close waits, and a stream that stops completes, with its
closes. -/
def Obligations.StreamsOpenFetchAndClose : Prop :=
  (∀ (s : State) (id : Nat) (d : Desc), Runs s id opStreamOpen d → (∀ p ∈ s.prf.players, p.desc ≠ id) → s.openStatus d ≠ stOK →
    ∃ t, exec (.streamOpen id) s = .next t ∧ Completed d (s.openStatus d) none s t ∧ OnlyHpt s t) ∧
  (∀ (s : State) (id : Nat) (d : Desc), Runs s id opStreamOpen d → (∀ p ∈ s.prf.players, p.desc ≠ id) → s.openStatus d = stOK →
    ∃ t x, exec (.streamOpen id) s = .next t ∧ t.prf.players = s.prf.players ++ [x] ∧ x.num = d.fld 8 1 ∧ x.desc = id ∧ x.ch = d.fld 10 2 ∧
      x.seg = d.fld 12 1 ∧ x.scale = d.fld 14 2 ∧ x.started = false ∧ s.now ≤ x.start ∧
      (d.fld 9 1 % 2 = 1 → x.start = s.now ∧ x.late = none) ∧
      x.dev ≤ s.rd PRF_DEV_LIMIT.DEV d.dom ∧ t.hpt = s.hpt ∧ t = { s with regs := t.regs, prf := t.prf }) ∧
  (∀ (s : State) (n : Fin 32) (x : Player), s.player n = some x → x.started = false → x.stopDue = false → s.hasGen x.ch = false →
    s.playersOf x.ch = [] → s.inCycle x.ch = false →
    ∃ t y, exec (.streamStart n) s = .next t ∧ t.now = max s.now x.start ∧ t.player n = some y ∧ y.started = true ∧
      y.next = t.now ∧ y.base = (if x.baseTgt then s.liveTarget x.ch else x.base) ∧ t.chPaused x.ch = true) ∧
  (∀ (s : State) (n : Fin 32) (x : Player) (d : Desc), s.player n = some x → x.started = false → x.stopDue = false →
    (s.hasGen x.ch = true ∨ s.inCycle x.ch = true) → s.desc x.desc = some d → x.closers = [] → x.late = none →
    ∃ t, exec (.streamStart n) s = .next t ∧ Answered d stChannelBusy (some x.consumed) t ∧ t.player n = none ∧ MemSame s t) ∧
  (∀ (s : State) (n : Fin 32) (x : Player), s.player n = some x → x.asked = none → s.on PRF_PL_STATUS.FETCH_ERR n = false →
    x.buf.length + 1024 ≤ 8192 → x.ring ≠ 0 → s.readsOut < max 1 (s.rd HPT_DMA_CFG.MAX_RD_OUT) →
    (∃ t, exec (.streamFetch n ⟨none, false⟩) s = .next t ∧ t.rd PRF_PL_STATUS.FETCH_ERR n = 1 ∧
      t.out = .read s.active x.tailAddr 4 :: s.out ∧ MemSame s t) ∧
    (∀ (tail : Word), tail.toNat % 2 = 0 → (tail.toNat + 2 ^ 32 - x.fetched % 2 ^ 32) % 2 ^ 32 = 0 →
      ∃ t, exec (.streamFetch n ⟨some tail, false⟩) s = .next t ∧ (t.player n).map (·.asked) = some none ∧
        t.out = .read s.active x.tailAddr 4 :: s.out) ∧
    (∀ (tail : Word), tail.toNat % 2 = 0 → (tail.toNat + 2 ^ 32 - x.fetched % 2 ^ 32) % 2 ^ 32 = 64 →
      x.fetched % 2 ^ x.ringLog2 + 64 ≤ 2 ^ x.ringLog2 →
      ∃ t, exec (.streamFetch n ⟨some tail, false⟩) s = .next t ∧ (t.player n).map (·.asked) = some (some 64) ∧
        t.out = .read s.active (x.ring + x.fetched % 2 ^ x.ringLog2) 64 :: .read s.active x.tailAddr 4 :: s.out) ∧
    (∀ tail : Option Word, ∃ t, exec (.streamFetch n ⟨tail, true⟩) s = .next t ∧ t.on HPT_ERR_STATUS.POISONED s.active = true ∧
      MemSame s t)) ∧
  (∀ (s : State) (n : Fin 32) (x : Player) (m : Nat) (l : List (BitVec 16)), s.player n = some x → x.asked = some m → m = 2 * l.length →
    x.owed = 0 →
    ∃ t y, exec (.streamFetchDone n ⟨some l, false⟩) s = .next t ∧ t.player n = some y ∧ y.buf = x.buf ++ l.map BitVec.toNat ∧
      y.fetched = x.fetched + m ∧ y.asked = none ∧ t.out = .host s.active x.headAddr false (leBytes 4 (x.fetched + m)) :: s.out) ∧
  (∀ (s : State) (n : Fin 32) (x : Player) (m : Nat), s.player n = some x → x.asked = some m →
    ∃ t, exec (.streamFetchDone n ⟨none, false⟩) s = .next t ∧ t.rd PRF_PL_STATUS.FETCH_ERR n = 1 ∧ t.out = s.out ∧ MemSame s t) ∧
  (∀ (s : State) (id : Nat) (d : Desc) (x : Player), Runs s id opStreamClose d → (∀ p ∈ s.prf.players, id ∉ p.closers) → d.fld 8 1 < 32 →
    d.fld 9 1 ≤ 2 → zeros d.bytes 10 54 = true → s.ownsPlayer d.dom (d.fld 8 1) = true → s.player (d.fld 8 1) = some x →
    x.closing = none →
    ∃ t y, exec (.streamClose id) s = .next t ∧ t.player (d.fld 8 1) = some y ∧ y.closing = some (d.fld 9 1, x.pos / 2 ^ 24) ∧
      y.closers = x.closers ++ [id] ∧ (x.started = false → y.stopDue = true) ∧ t = { s with regs := t.regs, prf := t.prf }) ∧
  (∀ (s : State) (id : Nat) (d : Desc), Runs s id opStreamClose d → (∀ p ∈ s.prf.players, id ∉ p.closers) → d.fld 8 1 < 32 →
    d.fld 9 1 ≤ 2 → zeros d.bytes 10 54 = true → s.ownsPlayer d.dom (d.fld 8 1) = true → s.player (d.fld 8 1) = none →
    ∃ t, exec (.streamClose id) s = .next t ∧ Completed d stNoStream none s t ∧ OnlyHpt s t) ∧
  (∀ (s : State) (n : Fin 32) (x : Player) (d : Desc), s.player n = some x → x.stopDue = true → s.desc x.desc = some d → x.late = none →
    x.closers = [] →
    ∃ t, exec (.streamStop n) s = .next t ∧ t.player n = none ∧ Answered d stOK (some x.consumed) t ∧ t.rd PRF_PL_STATUS.OPEN n = 0 ∧
      MemSame s t)

/-- Temperatures, passes and measurements (R296 to R304, R308, R309): a conversion, at a millisecond boundary, stores the reading
and makes a zone due that has moved by more than DELTA; a pass takes its reference and makes its units due, but waits while a
tile of its units is lost; a due unit is measured behind a takeover, directly in REST, or skipped; a measurement ends with its
trims in force and its record waiting for the log; and the log takes it on each die, or loses it where neither writes. That a
boundary converts once is the model's choice (assumption 72). -/
def Obligations.PassesMeasureAndLog : Prop :=
  (∀ (s : State) (z : Fin 72) (raw : BitVec 16),
    ∃ t, exec (.tempConversion [(z, raw)] none) s = .next t ∧ t.now = nextAt (max s.now (nget s.marks 1)) 20000 0 ∧
      t.rd CAL_TEMP.TEMP z = raw.toNat ∧ t.rd CAL_TEMP.VALID z = b2n (decide (-5500 ≤ raw.toInt ∧ raw.toInt ≤ 15000)) ∧
      t.rd CAL_TEMP.SENSOR_BAD z = 1 - t.rd CAL_TEMP.VALID z ∧
      (-5500 ≤ raw.toInt → raw.toInt ≤ 15000 → s.on CAL_CTL.ENABLE = true → s.on CAL_CTL.AUTO = true →
        s.rd CAL_DELTA.DELTA < (raw.toInt - toS 16 (s.rd CAL_ZONE.REF z)).natAbs →
        if s.on CAL_ZONE.PENDING z = true then t.rd CAL_STATUS.OVERRUN = 1 else t.zoneDue? z = true) ∧ MemSame s t) ∧
  (∀ (s : State) (z : Fin 72), (∃ u ∈ s.zoneUnits z, s.tileLost (unitTile u) = true) → exec (.zonePassStart z) s = .next s) ∧
  (∀ (s : State) (z : Fin 72), s.zoneDue? z = true → s.on CAL_ZONE.RUNNING z = false → s.on CAL_CTL.ENABLE = true → s.dusk = false →
    (∀ u ∈ s.zoneUnits z, s.tileLost (unitTile u) = false) →
    ∃ t, exec (.zonePassStart z) s = .next t ∧ t.zoneDue? z = false ∧ t.rd CAL_ZONE.PENDING z = 0 ∧
      (∀ v, s.reading z = some v → t.rd CAL_ZONE.REF z = ofS 16 v) ∧
      (if s.zoneUnits z = [] then t.rd CAL_ZONE.RUNNING z = 0
      else t.rd CAL_ZONE.RUNNING z = 1 ∧ (∃ p, t.cal.passes = s.cal.passes ++ [p] ∧ p.zone = z.val ∧ p.left = s.zoneUnits z) ∧
        ∀ u ∈ s.zoneUnits z, nget t.cal.due u = if nget s.cal.due u = 0 then s.now + 1 else nget s.cal.due u) ∧ MemSame s t) ∧
  (∀ (s : State) (tile : Fin 8) (g : Fin 64) (u : Nat), s.mayMeasure (64 * tile.val + g.val) = true →
    s.nextDue (64 * tile.val + g.val) = some u →
    (∃ f, (u, f) ∈ s.cal.due ∧ ∀ c ∈ s.cal.due, unitGroup c.1 = 64 * tile.val + g.val → f ≤ c.2) ∧
    ∃ t, exec (.channelMeasureStart tile g) s = .next t ∧ nget t.cal.due u = 0 ∧
      (if 16384 ≤ u ∨ s.outState u = stRest ∨ s.outState u = stDrive then
        ∃ m, t.cal.meas = s.cal.meas ++ [m] ∧ m.unit = u ∧ m.group = 64 * tile.val + g.val ∧ m.start = s.now ∧
          m.behind = decide (u < 16384 ∧ s.outState u ≠ stRest) ∧
          m.len = (if m.behind then (if s.chOn DRV_CH_STATE.MODE u then 340 else 260) else 258) +
            (if s.on CAL_CTL.AXMODE then 768 else 0) ∧
          (m.behind = true → t.chRd DRV_CH_STATE.CAL u = 1)
      else t.cal.meas = s.cal.meas ∧ t.rd CAL_SKIP.COUNT = min (s.rd CAL_SKIP.COUNT + 1) (2 ^ 32 - 1)) ∧ MemSame s t) ∧
  (∀ (s : State) (tile : Fin 8) (g : Fin 64) (m : CalMeasure) (x : Meas), x.group = 64 * tile.val + g.val →
    s.cal.meas.find? (fun y => y.group == 64 * tile.val + g.val) = some x →
    ∃ t bs, exec (.channelMeasureDone tile g m) s = .next t ∧ t.now = max s.now (x.start + x.len) ∧
      t.cal.meas = s.cal.meas.filter (fun y => y.group != x.group) ∧ nget t.cal.due x.unit = 0 ∧
      t.rd CAL_COUNT.COUNT = min (s.rd CAL_COUNT.COUNT + 1) (2 ^ 32 - 1) ∧ t.cal.toLog = s.cal.toLog ++ [⟨bs, false⟩] ∧
      bs.length = 16 ∧ field bs 2 1 = ofS 8 (calTrims m (s.on CAL_CTL.AXMODE)).1 ∧
      field bs 3 1 = ofS 8 (calTrims m (s.on CAL_CTL.AXMODE)).2.1 ∧
      field bs 4 2 = (calTrims m (s.on CAL_CTL.AXMODE)).2.2.1 % 2 ^ 16 ∧ field bs 12 4 = crc32c (bs.take 12) % 2 ^ 32 ∧
      nget t.cal.trims x.unit = recTrims bs ∧
      ((calTrims m (s.on CAL_CTL.AXMODE)).2.2.2 = true → t.rd CAL_STATUS.TRIM_LIMIT = 1) ∧ MemSame s t) ∧
  (∀ (s : State) (a b : Bool) (r : LogRec) (l : List LogRec), s.cal.toLog = r :: l → r.imported = false →
    s.unwritten a b = false → r.bytes.length = 16 →
    ∃ t, exec (.logAppend a b) s = .next t ∧ t.cal.toLog = l ∧
      (t.loadBytes (recAddr ((recUnit r.bytes).getD 0)) 16 = r.bytes) ∧
      (∀ spare, spare = bit (field r.bytes 0 2) 15 → a = true → s.rd LKS_STATUS.ROLE 0 ≠ 0 → s.logHead 0 spare < logSize spare →
        s.logHead 0 spare % 4096 ≠ 0 →
        aget t.flash.cells (logBase 0 spare + s.logHead 0 spare) = some r.bytes ∧
          t.logHead 0 spare = (s.logHead 0 spare + 1) % logSize spare) ∧
      (a = false → s.rd LKS_STATUS.ROLE 0 ≠ 0 → t.rd CAL_STATUS.FLASH_ERR = 1)) ∧
  (∀ (s : State) (a b : Bool) (r : LogRec) (l : List LogRec), s.cal.toLog = r :: l → r.imported = false → s.unwritten a b = true →
    ∃ t, exec (.logAppend a b) s = .next t ∧ t.cal.toLog = l ∧ t.rd CAL_UNSAVED.COUNT = min (s.rd CAL_UNSAVED.COUNT + 1) (2 ^ 32 - 1) ∧
      t.rd CAL_STATUS.ALMANAC_ERR = 1 ∧ nget t.cal.due ((recUnit r.bytes).getD 0) ≠ 0 ∧ t.flash = s.flash ∧ MemSame s t) ∧
  (∀ (s : State) (die : Fin 2) (v : Bool), s.bar0 die 0x600000 = .act →
    ∃ t, exec (.calEnable die v) s = .next t ∧ t.rd CAL_CTL.ENABLE = b2n v ∧
      (v = true → s.cal.enabled = false → ∀ z : Fin 72, t.zoneDue? z = true ∨ s.on CAL_ZONE.PENDING z = true) ∧
      t = { s with regs := t.regs, cal := t.cal })

/-- CAL_RUN (R311 to R314): a sweep of an element that a tenant's live path crosses is not accepted; a bad body completes with
BAD_FIELD, and all but MON_SAVE complete with CAL_DISABLED without ENABLE; ZONES and CHANNELS make their units due and wait;
IMPORT and CURVE_WRITE check every record before any is used; a sweep writes each point to the host and requests the next;
MON_SAVE writes both parameter arrays. -/
def Obligations.CalRunOperations : Prop :=
  (∀ (s : State) (ring : Nat) (bs : List Byte), field bs 0 1 = opCalRun → field bs 1 1 < 8 → field bs 4 4 = 0 → field bs 8 1 = 4 →
    s.ringDom ring = 0 → s.acceptStatus ring bs = (if s.livePathThrough (field bs 12 4) = true then 0x0603 else stOK)) ∧
  (∀ (s : State) (id : Nat) (d : Desc) (data : List Byte) (a b p : Bool) (op : Nat) (i : Instr), Runs s id opCalRun d →
    s.calMayRun id = true → d.fld 8 1 = op →
    (op, i) ∈ [(0, .zones id), (1, .channels id), (2, .importRecs id ⟨data, p⟩), (3, .curveWrite id ⟨data, p⟩ a b), (4, .curveSweep id),
      (5, .monSave id a b)] →
    (calBodyOk d = false → ∃ t, exec i s = .next t ∧ Completed d stBadField none s t ∧ OnlyHpt s t) ∧
    (calBodyOk d = true → op ≠ 5 → s.on CAL_CTL.ENABLE = false → ∃ t, exec i s = .next t ∧ Completed d 0x0601 none s t ∧ OnlyHpt s t)) ∧
  (∀ (s : State) (id : Nat) (d : Desc), Runs s id opCalRun d → s.calMayRun id = true → d.fld 8 1 = 0 → calBodyOk d = true →
    s.on CAL_CTL.ENABLE = true →
    ∃ t r, exec (.zones id) s = .next t ∧ t.cal.run = some r ∧ r.desc = id ∧
      (∀ z, z ∈ r.zones ↔ d.fld 12 4 ≤ z ∧ z < d.fld 12 4 + d.fld 10 2) ∧
      (∀ z ∈ r.zones, t.zoneDue? z = true ∨ s.on CAL_ZONE.PENDING z = true) ∧ t = { s with regs := t.regs, cal := t.cal }) ∧
  (∀ (s : State) (id : Nat) (d : Desc), Runs s id opCalRun d → s.calMayRun id = true → d.fld 8 1 = 1 → calBodyOk d = true →
    s.on CAL_CTL.ENABLE = true →
    ∃ t r, exec (.channels id) s = .next t ∧ t.cal.run = some r ∧ r.desc = id ∧ r.zones = [] ∧
      (∀ u, u ∈ r.left ↔ d.fld 12 4 ≤ u ∧ u < d.fld 12 4 + d.fld 10 2) ∧ (∀ u ∈ r.left, nget t.cal.due u ≠ 0) ∧
      t = { s with cal := t.cal }) ∧
  (∀ (s : State) (id : Nat) (d : Desc) (data : List Byte), Runs s id opCalRun d → s.calMayRun id = true → d.fld 8 1 = 2 →
    calBodyOk d = true → s.on CAL_CTL.ENABLE = true → 16 * d.fld 10 2 ≤ data.length →
    if ∀ i < d.fld 10 2, s.importOk ((data.drop (16 * i)).take 16) = true then
      ∃ t l, exec (.importRecs id ⟨data, false⟩) s = .next t ∧ t.cal.toLog = s.cal.toLog ++ l ∧ l.length = d.fld 10 2 ∧
        (∀ i < d.fld 10 2, l[i]? = some ⟨(data.drop (16 * i)).take 16, true⟩) ∧ t = { s with cal := t.cal }
    else ∃ t, exec (.importRecs id ⟨data, false⟩) s = .next t ∧ Completed d 0x0602 none s t ∧ OnlyHpt s t) ∧
  (∀ (s : State) (id : Nat) (d : Desc) (data : List Byte), Runs s id opCalRun d → s.calMayRun id = true → d.fld 8 1 = 3 →
    calBodyOk d = true → s.on CAL_CTL.ENABLE = true → 32 * d.fld 10 2 ≤ data.length → s.rd LKS_STATUS.ROLE 0 ≠ 0 →
    s.rd LKS_STATUS.ROLE 1 ≠ 0 →
    if ∀ i < d.fld 10 2, field (data.drop (32 * i)) 0 1 ≠ 0 ∧
        crc32c ((data.drop (32 * i)).take 28) = field ((data.drop (32 * i)).take 32) 28 4 then
      (∃ t, exec (.curveWrite id ⟨data, false⟩ true true) s = .next t ∧ Completed d stOK (some (d.fld 10 2)) s t ∧
        ∀ i < d.fld 10 2, t.loadBytes (curveAddr (d.fld 12 4 + i)) 32 = (data.drop (32 * i)).take 32 ∧
          (s.isElem (d.fld 12 4 + i) = true → nget t.cal.due (s.elem (d.fld 12 4 + i)).channel ≠ 0)) ∧
      ∃ t, exec (.curveWrite id ⟨data, false⟩ false false) s = .next t ∧ Completed d 0x0605 none s t ∧ t.rd CAL_STATUS.FLASH_ERR = 1 ∧ MemSame s t
    else ∃ t, exec (.curveWrite id ⟨data, false⟩ true true) s = .next t ∧ Completed d 0x0602 none s t ∧ OnlyHpt s t) ∧
  (∀ (s : State) (id : Nat) (d : Desc), Runs s id opCalRun d → s.calMayRun id = true → d.fld 8 1 = 4 → calBodyOk d = true →
    s.on CAL_CTL.ENABLE = true → s.isElem (d.fld 12 4) = true →
    ∃ t w, exec (.curveSweep id) s = .next t ∧ t.cal.sweep = some w ∧ w.desc = id ∧ w.k = 0 ∧ w.ch = (s.elem (d.fld 12 4)).channel ∧
      (∃ r ∈ t.orb.reqs, r.origin = .sweep ∧ r.moves = [(w.ch, 0)] ∧ r.cls = 6 ∧ r.tcost = 2) ∧ MemSame s t) ∧
  (∀ (s : State) (w : Sweep) (c : Nat), s.cal.sweep = some w → s.pln.cycle.any (fun c => c.req.origin == .sweep) = false →
    w.final = false → w.c = some c → 2 ≤ w.count →
    ∃ t f, exec .sweepPointDone s = .next t ∧ f = nextAt (c + w.dwell) Config.framesPerHold 0 ∧
      t.now = max s.now (f + Config.framesPerHold) ∧
      (∃ bs, .host s.active (w.addr + 8 * w.k) false bs ∈ t.out ∧ bs.length = 8 ∧
        field bs 0 2 = min (w.k * 65535 / (w.count - 1)) (s.elem w.elem).cap % 2 ^ 16 ∧ field bs 5 3 = 0) ∧
      (if w.k + 1 < w.count then t.cal.sweep = some { w with k := w.k + 1, c := none } ∧
        ∃ r ∈ t.orb.reqs, r.origin = .sweep ∧ r.moves = [(w.ch, min ((w.k + 1) * 65535 / (w.count - 1)) (s.elem w.elem).cap)]
      else (∃ r ∈ t.orb.reqs, r.origin = .sweep ∧ r.moves = [(w.ch, s.liveTarget w.ch)]) ∧
        ∀ d, s.desc w.desc = some d → Answered d stOK (some w.count) t) ∧ MemSame s t) ∧
  (∀ (s : State) (id : Nat) (d : Desc), Runs s id opCalRun d → s.calMayRun id = true → d.fld 8 1 = 5 → calBodyOk d = true →
    s.rd LKS_STATUS.ROLE 0 ≠ 0 → s.rd LKS_STATUS.ROLE 1 ≠ 0 →
    ∃ t, exec (.monSave id true true) s = .next t ∧ Completed d stOK (some 4096) s t ∧
      (∀ die : Fin 2, aget t.flash.coefs die = some (s.regs.filter fun c => inCoef c.1)) ∧ MemSame s t)

/-- Rate, slews, steps and references (R320 to R325): a committed increment, unless it lies more than 500 ppm from the nominal rate;
a slew that ends when its amount has been made up; a step or set armed in place of another, and applied at the first fast-sample
frame at least 2 frames later, its whole part as a step that is recorded, the rest slewed; holdover; and the loss of REFCLK. -/
def Obligations.MeridianTimeIsSteered : Prop :=
  (∀ (s : State) (die : Fin 2) (hi : BitVec 16) (v : Nat), s.bar0 die 0x700014 = .act →
    v = hi.toNat * 2 ^ 32 + s.rd MER_INCR_LO.INCR →
    ∃ t, exec (.incrCommit die hi) s = .next t ∧ t.rd MER_STATUS.HOLDOVER = 0 ∧ t.mer.servoAt = s.now ∧
      (if ((v : Int) - 0x066666666666).natAbs * 2000 ≤ 0x066666666666 then t.mer.incr = v ∧ t.rd MER_INCR_HI.INCR = hi.toNat
      else t.mer.incr = s.mer.incr ∧ t.rd MER_STATUS.CFG_REJECT = 1 ∧ t.rd MER_INCR_LO.INCR = s.mer.incr % 2 ^ 32) ∧
      t = { s with regs := t.regs, mer := { s.mer with incr := t.mer.incr, servoAt := s.now } }) ∧
  (∀ (s : State) (die : Fin 2) (v : Word), s.bar0 die 0x700018 = .act →
    ∃ t, exec (.slewWrite die v) s = .next t ∧ t.rd MER_SLEW.AMOUNT = v.toNat ∧ t.rd MER_STATUS.SLEWING = (if v = 0 then 0 else 1) ∧
      t.rd MER_STATUS.HOLDOVER = 0 ∧ t = { s with regs := t.regs, mer := { s.mer with slewAt := s.now, servoAt := s.now } }) ∧
  (∀ (s : State) (a : Int) (k : Nat), s.on MER_STATUS.SLEWING = true → a = toS 32 (s.rd MER_SLEW.AMOUNT) →
    1 ≤ s.rd MER_SLEW_CFG.PPM → s.rd MER_SLEW_CFG.PPM < 1000 →
    k = (if 0 ≤ a then 1000000 + s.rd MER_SLEW_CFG.PPM else 1000000 - s.rd MER_SLEW_CFG.PPM) →
    ∃ t n, exec .slewDone s = .next t ∧ t.now = max s.now (s.mer.slewAt + n) ∧ a.natAbs * k ≤ n * 12800 * s.rd MER_SLEW_CFG.PPM ∧
      (∀ m < n, m * 12800 * s.rd MER_SLEW_CFG.PPM < a.natAbs * k) ∧ t.rd MER_SLEW.AMOUNT = 0 ∧ t.rd MER_STATUS.SLEWING = 0) ∧
  (∀ (s : State) (die : Fin 2) (hi : Word), s.bar0 die 0x700024 = .act →
    ∃ t, exec (.stepArm die hi) s = .next t ∧ t.rd MER_STATUS.STEP_PENDING = 1 ∧
      t.mer.arm = some (.step (toS 64 (hi.toNat * 2 ^ 32 + s.rd MER_STEP_LO.STEP)), s.now) ∧
      t = { s with regs := t.regs, mer := { s.mer with arm := t.mer.arm } }) ∧
  (∀ (s : State) (die : Fin 2) (hi : BitVec 16), s.bar0 die 0x700030 = .act →
    ∃ t, exec (.setArm die hi) s = .next t ∧ t.rd MER_STATUS.STEP_PENDING = 1 ∧
      t.mer.arm = some (.set (hi.toNat * 2 ^ 32 + s.rd MER_SET_SEC_LO.SEC) (s.rd MER_SET_NS.NS), s.now) ∧
      t = { s with regs := t.regs, mer := { s.mer with arm := t.mer.arm } }) ∧
  (∀ (s : State) (a : Int) (armed f : Nat), s.mer.arm = some (.step a, armed) → s.pln.cycle = none → f = fastAt (max s.now (armed + 2)) →
    ∃ t, exec .timeStepApply s = .next t ∧ t.mer.arm = none ∧ t.rd MER_STATUS.STEP_PENDING = 0 ∧
      (if a.natAbs < 51200 then t.now = f ∧ t.rd MER_CNT_STEP.COUNT = s.rd MER_CNT_STEP.COUNT ∧
        (a ≠ 0 → s.on MER_STATUS.SLEWING = false → t.rd MER_SLEW.AMOUNT = ofS 32 a ∧ t.rd MER_STATUS.SLEWING = 1)
      else t.now = (((f : Int) + a.tdiv 51200 * 4) % (allFrames : Int)).toNat ∧ t.rd MER_STATUS.STEPPED = 1 ∧
        t.rd MER_CNT_STEP.COUNT = min (s.rd MER_CNT_STEP.COUNT + 1) (2 ^ 32 - 1) ∧
        t.rd MER_LAST_STEP_LO.STEP = ofS 64 (a.tdiv 51200 * 51200) % 2 ^ 32 ∧ t.lpa.jobs = [])) ∧
  (∀ (s : State) (sec ns armed : Nat), s.mer.arm = some (.set sec ns, armed) → s.pln.cycle = none →
    ∃ t, exec .timeSetApply s = .next t ∧ t.mer.arm = none ∧ t.rd MER_STATUS.STEP_PENDING = 0 ∧ t.now = sec * 20000000 + ns / 200 * 4 ∧
      t.rd MER_STATUS.SET = 1 ∧ t.rd MER_STATUS.STEPPED = 1) ∧
  (∀ (s : State), s.rd MER_SERVO_TMO.MS ≠ 0 → s.on MER_STATUS.HOLDOVER = false → s.on HPT_STATUS.READY = true →
    ∃ t, exec .holdoverTimeout s = .next t ∧ t.now = max s.now (s.mer.servoAt + s.rd MER_SERVO_TMO.MS * 20000) ∧
      t.rd MER_STATUS.HOLDOVER = 1 ∧ (∃ o, t.saf.raised = s.saf.raised ++ [o] ∧ o.source = 327)) ∧
  (∀ (s : State), s.on MER_STATUS.REFCLK_BAD = false →
    ∃ t, exec .refclkLoss s = .next t ∧ t.rd MER_STATUS.REFCLK_BAD = 1 ∧ t.now = s.now ∧
      ∃ o, t.saf.raised = s.saf.raised ++ [o] ∧ o.source = 326) ∧
  (∀ (s : State), ∃ t, exec .refclkRecover s = .next t ∧ t.rd MER_STATUS.REFCLK_BAD = 0 ∧ OnlyRegs [MER_STATUS.REFCLK_BAD.key 0 0 0] s t)

/-- The timing ports and pulses (R328 to R337): a frame is dropped, filtered, or stands with its stamp in the next receive slot; a
queued slot is sent with its FCS, and stamped as its mode says; a Sync that stays away is noticed; PPS_OUT rises at each second
plus its offset, within the 1/8 ns that the edge resolves (assumption 108), for WIDTH ms; an edge of PPS_IN is stamped and kept,
unless it is a glitch or finds four; and CLK10_OUT, once enabled, is high in every even frame after the current one, and once
disabled stays low after the falling edge. -/
def Obligations.TimingPortsStampFrames : Prop :=
  (∀ (s : State) (p : Fin 2) (bs : List Byte) (fcs : Bool) (x : Stamp), s.on MER_PORT_CFG.ENABLE p = true →
    s.on MER_PORT_STATUS.LINK p = true →
    ∃ t, exec (.frameReceive p bs fcs x) s = .next t ∧
      (if 240 < bs.length ∨ fcs = false ∨ (s.frameTaken p bs = true ∧ (s.rd MER_RX_HEAD.HEAD p + 32 - s.rd MER_RX_TAIL.TAIL p) % 32 = 31) then
        t.rd MER_RX_DROP.COUNT p = min (s.rd MER_RX_DROP.COUNT p + 1) (2 ^ 32 - 1) ∧ MemSame s t
      else if s.frameTaken p bs = false then
        t.rd MER_RX_FILTERED.COUNT p = min (s.rd MER_RX_FILTERED.COUNT p + 1) (2 ^ 32 - 1) ∧ MemSame s t
      else t.rd MER_RX_HEAD.HEAD p = (s.rd MER_RX_HEAD.HEAD p + 1) % 32 ∧
        t.load (rxAddr p (s.rd MER_RX_HEAD.HEAD p)) 2 = bs.length ∧
        t.loadBytes (rxAddr p (s.rd MER_RX_HEAD.HEAD p) + 4) 12 = stampBytes (s.rxStamp p x) ∧
        t.loadBytes (rxAddr p (s.rd MER_RX_HEAD.HEAD p) + 16) bs.length = bs ∧
        ∀ a, ¬(rxAddr p (s.rd MER_RX_HEAD.HEAD p) ≤ a ∧ a < rxAddr p (s.rd MER_RX_HEAD.HEAD p) + 16 + bs.length) →
          t.loadB a = s.loadB a)) ∧
  (∀ (s : State) (die p : Fin 2) (n : Fin 4) (len : Byte) (mode : Nat) (i : Instr), s.bar0 die (0x700130 + 0x80 * p) = .act →
    (mode, i) ∈ [(0, .send die p n len), (1, .sendAndStamp die p n len), (2, .oneStep die p n len)] →
    ∃ t, exec i s = .next t ∧
      (if s.txState p n = 1 ∨ len.toNat < 14 ∨ 240 < len.toNat then
        t.rd MER_STATUS.CFG_REJECT = 1 ∧ OnlyRegs [MER_STATUS.CFG_REJECT.key 0 0 0] s t
      else t.txState p n = 1 ∧ t.mer.txq = s.mer.txq ++ [⟨p, n, len.toNat, mode⟩] ∧
        t = { s with regs := t.regs, mer := { s.mer with txq := t.mer.txq } })) ∧
  (∀ (s : State) (p : Fin 2) (x : Stamp) (c : TxCmd) (rest : List TxCmd), s.mer.txq = c :: rest → c.port = p.val → c.slot < 4 →
    s.on MER_PORT_STATUS.LINK p = true →
    ∃ t bs, exec (.txComplete p x) s = .next t ∧ t.mer.txq = rest ∧ t.txState p c.slot = 2 ∧
      t.rd MER_TX_CNT.COUNT p = min (s.rd MER_TX_CNT.COUNT p + 1) (2 ^ 32 - 1) ∧ .frame p (bs ++ leBytes 4 (frameFcs bs)) ∈ t.out ∧
      (c.mode ≠ 2 → bs = s.loadBytes (txAddr p c.slot + 16) c.len) ∧ (c.mode = 0 → MemSame s t) ∧
      (c.mode ≠ 0 → t.loadBytes (txAddr p c.slot + 4) 12 = stampBytes (s.txStamp p x))) ∧
  (∀ (s : State) (p : Fin 2) (up : Bool),
    ∃ t, exec (.timingLinkChange p up) s = .next t ∧ t.rd MER_PORT_STATUS.LINK p = b2n (up && s.on MER_PORT_CFG.ENABLE p) ∧
      OnlyRegs [MER_PORT_STATUS.LINK.key p 0 0] s t) ∧
  (∀ (s : State) (p : Fin 2), s.rd MER_PORT_SYNC_CFG.SYNC_TMO p ≠ 0 → s.on MER_PORT_STATUS.SYNC_LOST p = false →
    ∃ t, exec (.syncTimeout p) s = .next t ∧ t.rd MER_PORT_STATUS.SYNC_LOST p = 1 ∧
      t.now = max s.now (nget s.mer.syncAt p - 1 + s.rd MER_PORT_SYNC_CFG.SYNC_TMO p * 20000) ∧
      ∃ o, t.saf.raised = s.saf.raised ++ [o] ∧ o.source = 328 + p.val) ∧
  (∀ (s : State), s.on MER_CTL.PPS_OUT_EN = true →
    ∃ t k r due, exec .ppsOutPulse s = .next t ∧ t.mer.ppsNext = k + 2 ∧ s.mer.ppsNext ≤ k + 1 ∧
      (s.now * 12800 : Int) ≤ (k : Int) * 256000000000 + toS 32 (s.rd MER_PPS_OUT_OFS.OFS) ∧
      (∀ j < k, (j : Int) * 256000000000 + toS 32 (s.rd MER_PPS_OUT_OFS.OFS) < (s.now * 12800 : Int) ∨ j + 1 < s.mer.ppsNext) ∧
      due = ((k : Int) * 256000000000 + toS 32 (s.rd MER_PPS_OUT_OFS.OFS)).toNat ∧ r % 32 = 0 ∧ r ≤ due + 31 ∧ due ≤ r + 31 ∧
      t.out = .pps (r % 2 ^ 64) (s.rd MER_PPS_OUT_CFG.WIDTH) :: s.out ∧ t.now = max s.now (r / 12800) ∧
      t.mer.ppsHigh = some (r / 12800, r / 12800 + s.rd MER_PPS_OUT_CFG.WIDTH * 20000) ∧
      t = { s with now := t.now, out := t.out, free := t.free, mer := { s.mer with ppsNext := t.mer.ppsNext, ppsHigh := t.mer.ppsHigh } }) ∧
  (∀ (s : State) (f : Nat), s.now ≤ f → s.on MER_CTL.CLK10_EN = false → s.clk10Out = false →
    ({ s.setClk10 true with now := f } : State).clk10Out = decide (f % 2 = 0 ∧ s.now < f)) ∧
  (∀ (s : State) (f : Nat), s.now ≤ f → s.on MER_CTL.CLK10_EN = true →
    ({ s.setClk10 false with now := f } : State).clk10Out = (s.clk10Out && decide (f = s.now))) ∧
  (∀ (s : State) (x y : Stamp), s.on MER_CTL.PPS_IN_EN = true →
    y = stampOf (stampUnits x + 256 * toS 32 (s.rd MER_PPS_IN_DLY.DLY)) →
    ∃ t, exec (.ppsInEdge x) s = .next t ∧ MemSame s t ∧
      (if ∃ l, s.mer.lastPps = some l ∧ stampUnits y - stampUnits l < 500000000 * 65536 then
        t.rd MER_PPS_GLITCH.COUNT = min (s.rd MER_PPS_GLITCH.COUNT + 1) (2 ^ 32 - 1) ∧ t.mer = s.mer
      else if 4 ≤ s.mer.pps.length then t.rd MER_STATUS.PPS_OVERRUN = 1 ∧ t.mer = s.mer
      else t.mer.pps = s.mer.pps ++ [y] ∧ t.mer.lastPps = some y ∧ t.rd MER_PPSIN_STATUS.COUNT = s.mer.pps.length + 1 ∧
        t.sgf.occ = s.sgf.occ ++ [450])) ∧
  (∀ (s : State) (die : Fin 2) (x : Stamp) (l : List Stamp), s.bar0 die 0x70008C = .act → s.mer.pps = x :: l → l.length < 4 →
    ∃ t, exec (.ppsinPop die) s = .next t ∧ t.mer.pps = l ∧ t.rd MER_PPSIN_STATUS.COUNT = l.length ∧
      t = { s with regs := t.regs, mer := { s.mer with pps := l } })

/-- Occurrences (R349 to R364): a source that is not latched latches, writes a history entry and the first-fault record, and
advances its COUNT; its vector is signalled; a latched source only advances COUNT and INFO; CRITICAL and ACTION 4 start global
Eclipse and open its consequence window; ACTION 3 eclipses the source's ports; ACTION 2 resets its block; a lost tile's gates
are blocked. In the model the command that detects a source also takes its fixed actions (assumption 3). The device state is the
highest severity of the latched sources. -/
def Obligations.OccurrencesLatchAndReact : Prop :=
  (∀ (s : State) (n : Fin 384) (info : BitVec 16) (die : Fin 2), faultListed n = true → s.saf.raised = [] → s.latchOf n = none →
    n.val ≠ 204 → n.val ≠ 268 → s.actOf n ≤ 1 → s.sevOf n < 3 → s.pairOf n = false → s.saf.windows = [] → s.lks.mismatch = none →
    s.duskAsked = false →
    ∃ t w0 seq, exec (.faultOccurrence n info die) s = .next t ∧ seq = (s.rd SAF_SEQ.SEQ + 1) % 2 ^ 32 ∧ t.rd SAF_SEQ.SEQ = seq ∧
      t.saf.latches = s.saf.latches ++ [⟨n, true, seq, false, false, []⟩] ∧
      bits w0 0 9 = n.val ∧ bits w0 9 2 = s.sevOf n ∧ bits w0 11 5 = 17 + 8 * (if 256 ≤ n.val ∧ n.val < 320 then 1 else 0) ∧
      bits w0 16 16 = info.toNat ∧
      (if s.saf.hist.length < 32 then t.saf.hist = s.saf.hist ++ [⟨w0, ticksOf s.now, seq⟩]
      else t.saf.hist = s.saf.hist ∧ t.rd SAF_HIST_OVF.COUNT = min (s.rd SAF_HIST_OVF.COUNT + 1) (2 ^ 32 - 1)) ∧
      t.rd SAF_FIRST_W0.ENTRY = (if bit (s.rd SAF_FIRST_W0.ENTRY) 15 then s.rd SAF_FIRST_W0.ENTRY else w0) ∧
      t.load (fltAddr n + 8) 4 = min (s.load (fltAddr n + 8) 4 + 1) (2 ^ 32 - 1) ∧ t.load (fltAddr n + 6) 2 = info.toNat ∧
      (s.actOf n = 1 → Signalled s t s.active (s.rd SAF_VEC.VECTOR)) ∧
      (n.val < 192 → n.val % 24 = 0 → (∀ ch ∈ s.gateChannels, ch / 2048 = n.val / 24 → t.chRd DRV_CH_GATEW.LOSTBLK ch = 1) ∧
        ∀ w ∈ t.drv.queue, w.ch / 2048 ≠ n.val / 24)) ∧
  (∀ (s : State) (n : Fin 384) (info : BitVec 16) (die : Fin 2) (l : Latch), faultListed n = true → s.saf.raised = [] →
    s.latchOf n = some l → l.real = true → l.ports = [] → s.lks.mismatch = none →
    ∃ t, exec (.faultOccurrence n info die) s = .next t ∧ t.saf.latches = s.saf.latches ∧ t.saf.hist = s.saf.hist ∧
      t.rd SAF_SEQ.SEQ = s.rd SAF_SEQ.SEQ ∧ t.load (fltAddr n + 8) 4 = min (s.load (fltAddr n + 8) 4 + 1) (2 ^ 32 - 1) ∧
      t.load (fltAddr n + 6) 2 = info.toNat) ∧
  (∀ (s : State) (n : Fin 384) (info : BitVec 16) (die : Fin 2), faultListed n = true → s.saf.raised = [] → s.latchOf n = none →
    192 ≤ n.val → n.val ≠ 204 → n.val ≠ 268 → s.sevOf n = 3 ∧ s.actOf n < 2 ∨ s.actOf n = 4 → s.saf.windows = [] →
    s.lks.mismatch = none → s.saf.latches.any (fun l => l.globe) = false → s.duskAsked = false →
    ∃ t, exec (.faultOccurrence n info die) s = .next t ∧ t.rd SAF_STATUS.GLOBAL_ECLIPSE = 1 ∧
      t.rd SAF_CNT_ECLIPSE.COUNT = min (s.rd SAF_CNT_ECLIPSE.COUNT + 1) (2 ^ 32 - 1) ∧
      (∃ l ∈ t.saf.latches, l.source = n.val ∧ l.globe = true) ∧
      ∃ w, t.saf.windows = [w] ∧ w.first = s.now + 1 ∧ w.last = s.now + s.rd SAF_CONSEQ_WIN.FRAMES ∧ w.severity = s.sevOf n ∧
        ∀ tile < 8, srcTile tile 3 ∈ w.reach ∧ srcTile tile 4 ∈ w.reach) ∧
  (∀ (s : State) (n : Fin 384) (info : BitVec 16) (die : Fin 2), n.val < 192 → n.val % 24 ≠ 0 → faultListed n = true → s.saf.raised = [] →
    s.latchOf n = none → s.actOf n = 3 → s.sevOf n < 3 → s.saf.windows = [] → s.duskAsked = false →
    ∃ t l, exec (.faultOccurrence n info die) s = .next t ∧ l ∈ t.saf.latches ∧ l.source = n.val ∧
      ∀ p ∈ s.faultPorts n info.toNat, p ∈ l.ports ∧ (p < 2048 → bit (t.rd SAF_PORT_ESC.BITS (p / 32)) (p % 32) = true)) ∧
  (∀ (s : State) (n : Fin 384) (info : BitVec 16) (die : Fin 2) (k : Nat), resetKind n = some k → s.saf.raised = [] →
    s.latchOf n = none → s.actOf n = 2 → s.sevOf n < 3 → s.saf.windows = [] → s.duskAsked = false →
    s.lks.mismatch = none →
    ∃ t, exec (.faultOccurrence n info die) s = .next t ∧
      t.saf.resets = s.saf.resets ++ [(n.val, s.now + (if k = 0 then 40000 else if k = 1 then 2 else if k = 2 then 40 else
        if k = 3 then 20000 else if k = 5 then 1 else 0))] ∧ ∃ w, t.saf.windows = [w] ∧ w.reach = [n.val]) ∧
  (∀ (s t : State) (n : Fin 384) (info : BitVec 16) (die : Fin 2), faultListed n = true → s.saf.raised = [] →
    (∀ l, s.latchOf n = some l → l.real = false) → exec (.faultOccurrence n info die) s = .next t →
    (∀ l ∈ t.saf.latches, t.sevOf l.source + 1 ≤ t.rd SAF_STATUS.STATE) ∧ (∃ l ∈ t.saf.latches, l.source = n.val ∧ l.real = true) ∧
    ∃ l ∈ t.saf.latches, t.rd SAF_STATUS.STATE = t.sevOf l.source + 1)

/-- Resets, windows, the fault pair, SAFE_N, injection and Eclipse by software (R352, R357, R358, R361, R363, R367, R368). -/
def Obligations.FaultTimersAndRequests : Prop :=
  (∀ (s : State) (k : Fin 8) (r : Nat × Nat), s.saf.resets.find? (fun r => resetKind r.1 == some k.val) = some r →
    if k.val = 4 ∧ s.on HPT_STATUS.LINK_UP ((r.1 - 192) / 64) = false then exec (.blockResetDone k) s = .next s
    else ∃ t, exec (.blockResetDone k) s = .next t ∧ t.now = max s.now r.2 ∧ t.saf.resets = s.saf.resets.erase r ∧
      t = { s with now := t.now, saf := { s.saf with resets := t.saf.resets } }) ∧
  (∀ (s : State) (w : Conseq), w ∈ s.saf.windows → (∀ x ∈ s.saf.windows, w.last ≤ x.last) →
    ∃ t, exec .conseqWindowEnd s = .next t ∧ t.now = max s.now (w.last + 1) ∧
      (∀ x, x ∈ t.saf.windows ↔ x ∈ s.saf.windows ∧ w.last < x.last) ∧
      t = { s with now := t.now, saf := { s.saf with windows := t.saf.windows } }) ∧
  (∀ (s : State), ∃ t, exec .faultPairRefreshTimeout s = .next t ∧ t.saf.stale = true ∧
    (s.pins.fault ≠ 0 → t.pins.fault = 2 ∧ t.rd SAF_STATUS.PAIR_FAULT = 1) ∧
    (s.pins.fault = 0 → t = { s with saf := { s.saf with stale := true } })) ∧
  (∀ (s : State), s.on SAF_STATUS.SAFE_N_REQ = false →
    ∃ t o, exec .safeNRequest s = .next t ∧ t.rd SAF_STATUS.SAFE_N_REQ = 1 ∧ t.saf.raised = s.saf.raised ++ [o] ∧ o.source = 320 ∧
      t.sgf.occ = s.sgf.occ ++ [519] ∧ MemSame s t) ∧
  (∀ (s : State), ∃ t, exec .safeNRelease s = .next t ∧ t.rd SAF_STATUS.SAFE_N_REQ = 0 ∧
    OnlyRegs [SAF_STATUS.SAFE_N_REQ.key 0 0 0] s t) ∧
  (∀ (s : State) (die : Fin 2) (n : Fin 512) (info : BitVec 16) (mode : Nat) (i : Instr), s.bar0 die 0x800014 = .act →
    (mode, i) ∈ [(1, .injectRecord die n info), (2, .injectReact die n info)] →
    ∃ t, exec i s = .next t ∧
      if s.on SAF_CTL.INJ_EN = true ∧ n.val < 384 ∧ faultListed n = true then
        t = { s with saf := { s.saf with raised := s.saf.raised ++ [⟨n, info.toNat, 0, s.now + 1, mode⟩] } }
      else t.rd SAF_STATUS.INJ_REFUSED = 1 ∧ OnlyRegs [SAF_STATUS.INJ_REFUSED.key 0 0 0] s t) ∧
  (∀ (s : State) (die : Fin 2) (v : Bool), s.bar0 die 0x800000 = .act →
    ∃ t, exec (.swEclipse die v) s = .next t ∧
      (v = true → s.on SAF_CTL.SW_ECLIPSE = true → t = s) ∧
      (v = true → s.on SAF_CTL.SW_ECLIPSE = false → t.rd SAF_CTL.SW_ECLIPSE = 1 ∧
        ∃ o, t.saf.raised = s.saf.raised ++ [o] ∧ o.source = 321) ∧
      (v = false → if s.rd SEC_STATUS.DBG_LEVEL = 2 then t.rd SAF_STATUS.CFG_REJECT = 1 ∧ t.rd SAF_CTL.SW_ECLIPSE = s.rd SAF_CTL.SW_ECLIPSE
        else t.rd SAF_CTL.SW_ECLIPSE = 0 ∧ OnlyRegs [SAF_CTL.SW_ECLIPSE.key 0 0 0] s t) ∧ MemSame s t) ∧
  (∀ (s : State) (die : Fin 2), s.bar0 die 0x800000 = .act →
    ∃ t, exec (.safFirstClr die) s = .next t ∧ t.rd SAF_FIRST_W0.ENTRY = 0 ∧ t.rd SAF_FIRST_W1.ENTRY = 0 ∧ t.rd SAF_FIRST_W2.ENTRY = 0 ∧
      t.rd SAF_FIRST_W3.ENTRY = 0 ∧ OnlyRegs [SAF_FIRST_W0.ENTRY.key 0 0 0, SAF_FIRST_W1.ENTRY.key 0 0 0, SAF_FIRST_W2.ENTRY.key 0 0 0,
        SAF_FIRST_W3.ENTRY.key 0 0 0] s t) ∧
  (∀ (s : State) (die : Fin 2), s.bar0 die 0x800030 = .act →
    ∃ t, exec (.safHistPop die) s = .next t ∧ t.saf.hist = s.saf.hist.tail ∧
      (∀ l ∈ s.saf.latches, s.sevOf l.source + 1 ≤ t.rd SAF_STATUS.STATE) ∧
      t.rd SAF_HIST_STATUS.COUNT = s.saf.hist.tail.length % 64 ∧
      t = { s with regs := t.regs, saf := { s.saf with hist := t.saf.hist } })

/-- Clearing (R370 to R372): a clear that names a source whose cause is present is refused whole; otherwise the named sources are no
longer latched, a port that no source holds any more is free of ESC, and the last hold on global Eclipse asks for the
re-application, for which the descriptor waits. A descriptor looks for the causes in the frame after its acceptance. -/
def Obligations.ClearingSources : Prop :=
  (∀ (s : State) (die : Fin 2) (k : Fin 512) (i : Instr) (p : Nat → Bool), s.bar0 die 0x800010 = .act →
    (i = .safClrSource die k ∧ p = (fun n => n == k.val) ∨ i = .safClrAll die ∧ p = fun _ => true) →
    if (List.range 384).any (fun n => p n && (s.latchOf n).isSome && s.causeNow n) = true then
      ∃ t, exec i s = .next t ∧ t.rd SAF_STATUS.CLR_REFUSED = 1 ∧ OnlyRegs [SAF_STATUS.CLR_REFUSED.key 0 0 0] s t
    else ∃ t, exec i s = .next t ∧ t.saf.latches = s.saf.latches.filter (fun l => !(decide (l.source < 384) && p l.source)) ∧
      (∀ l ∈ s.saf.latches, l ∉ t.saf.latches → ∀ q ∈ l.ports, q < 2048 → (∀ x ∈ t.saf.latches, q ∉ x.ports) →
        bit (t.rd SAF_PORT_ESC.BITS (q / 32)) (q % 32) = false) ∧
      ((∃ l ∈ s.saf.latches, l.globe = true) → (∀ l ∈ t.saf.latches, l.globe = false) →
        ∃ r ∈ t.orb.reqs, r.origin = .reapply)) ∧
  (∀ (s : State) (id op : Nat) (d : Desc) (i : Instr), Runs s id opEclipseClear d →
    (op, i) ∈ [(0, .eclipseClearSources id), (1, .eclipseClearAll id)] → d.fld 8 1 = op → (∀ w ∈ s.saf.clears, w.desc ≠ id) →
    (clearBodyOk d = false → ∃ t, exec i s = .next t ∧ Completed d stBadField none s t ∧ OnlyHpt s t) ∧
    (clearBodyOk d = true → ∀ (u : State) (named : Nat → Prop), u = { s with now := max s.now (s.frameAt d.acc + 1) } → (∀ n, named n ↔ n < 384 ∧ (s.latchOf n).isSome = true ∧
        (op = 1 ∨ d.fld 12 2 ≤ n ∧ n < d.fld 12 2 + d.fld 10 2)) →
      (∀ n, named n → u.causeNow n = true → (∀ m < n, named m → u.causeNow m = false) →
        ∃ t, exec i s = .next t ∧ Completed d stCausePresent (some n) s t ∧ MemSame s t) ∧
      ((∀ n, named n → u.causeNow n = false) →
        ∃ t k, exec i s = .next t ∧ t.now = max s.now (s.frameAt d.acc + 1) ∧ (∀ l ∈ t.saf.latches, ¬named l.source) ∧
          (d.fld 9 1 / 2 % 2 = 1 → t.saf.hist = []) ∧ (d.fld 9 1 % 2 = 1 → t.rd SAF_FIRST_W0.ENTRY = 0) ∧
          (Answered d stOK (some k) t ∨ (∃ w ∈ t.saf.clears, w.desc = id ∧ w.count = k) ∧ ∃ r ∈ t.orb.reqs, r.origin = .reapply))))

/-- Comparison, heartbeats and the tiles' frames (R381 to R387, R349): a difference freezes its tile and waits to be resolved; the
die that failed its own check loses its role, and neither or both begin a hold; a second missed heartbeat makes the standby
ACTIVE or DETACHED; and a tile whose frames neither die receives four times in a row, or that reports a fatal condition, is
lost. FAILOVER and LKS_CMD (R384, R386, R390, R395, R396, R378): an operation whose condition does not hold ends at once;
SWITCH, RESYNC and KEEP wait, DETACH ends at the next frame; the standby takes over when no commit cycle is in progress; the new
active die closes its lag; a die joins as STANDBY; and one that has restarted ends DETACHED. Where the lag is counted from is
the model's reading (assumption 72). -/
def Obligations.LockstepAndFailover : Prop :=
  ((∀ (s : State) (tile kind : Fin 8) (ch : Fin 16384), s.on LKS_CTL.CMP_EN = true → s.standby?.isSome = true → s.role s.active = 2 →
    s.frozen tile = false → kind.val ≤ 4 →
    ∃ t o, exec (.lockstepMismatch tile kind ch) s = .next t ∧ t.frozen tile = true ∧ t.lks.mismatch.isSome = true ∧
      t.rd LKS_CNT_MISMATCH.COUNT = min (s.rd LKS_CNT_MISMATCH.COUNT + 1) (2 ^ 32 - 1) ∧ t.saf.raised = s.saf.raised ++ [o] ∧
      o.source = 24 * tile.val + 17 ∧
      (s.on LKS_MISMATCH.VALID = false → t.rd LKS_MISMATCH.VALID = 1 ∧ t.rd LKS_MISMATCH.TILE = tile.val ∧
        t.rd LKS_MISMATCH.KIND = kind.val ∧ t.rd LKS_MISMATCH_FRAME.FRAME = (s.now - 2) % 2 ^ 32) ∧
      (∀ w ∈ t.drv.queue, w.ch / 2048 = tile.val → w.taken ≤ s.now - 2) ∧ MemSame s t) ∧
  (∀ (s : State) (a b : Bool) (y : Nat), s.lks.mismatch.isSome = true → s.lks.failed = [] → s.standby? = some y →
    (∀ d : Fin 2, s.on LKS_STATUS.HOLD d = false) →
    ∃ t, exec (.mismatchResolve a b) s = .next t ∧ t.lks.mismatch = none ∧
      (if (if y = 0 then b else a) = true ∧ (if y = 0 then a else b) = false then
        t.role y = 2 ∧ t.role (1 - y) = 0 ∧ t.rd LKS_CNT_FAILOVER.COUNT = min (s.rd LKS_CNT_FAILOVER.COUNT + 1) (2 ^ 32 - 1) ∧
          (∀ k < 8, t.frozen k = false)
      else if (if y = 0 then b else a) = false ∧ (if y = 0 then a else b) = true then
        t.role y = 0 ∧ t.role (1 - y) = s.role (1 - y) ∧ (∀ k < 8, t.frozen k = false)
      else (∀ d : Fin 2, t.rd LKS_STATUS.HOLD d = 1) ∧ (∀ k < 8, t.frozen k = true) ∧ ∃ o ∈ t.saf.raised, o.source = 334)) ∧
  (∀ (s : State) (o : Fin 2), s.role o ≠ 0 → s.role (1 - o.val) ≠ 0 → nget s.lks.missAt o = 0 →
    ∃ t, exec (.heartbeatMiss o) s = .next t ∧ nget t.lks.missAt o = s.now + 1 ∧
      t.rd LKS_CNT_HB_MISS.COUNT = min (s.rd LKS_CNT_HB_MISS.COUNT + 1) (2 ^ 32 - 1) ∧
      t = { s with regs := t.regs, lks := { s.lks with missAt := t.lks.missAt } }) ∧
  (∀ (s : State) (o : Fin 2), nget s.lks.missAt o = s.now → s.now ≠ 0 → (∀ d : Fin 2, s.on LKS_STATUS.HOLD d = false) →
    (s.role o = 1 ∧ s.role (1 - o.val) = 2 ∨ s.role o = 2 ∧ s.role (1 - o.val) = 1) →
    ∃ t, exec (.heartbeatMiss o) s = .next t ∧ t.role o = 2 ∧ t.role (1 - o.val) = 0 ∧
      ∃ f ∈ t.saf.raised, f.source = 203 + 64 * o.val) ∧
  (∀ (s : State) (die : Fin 2) (tile : Fin 8) (f : UpFrame), s.on HPT_STATUS.READY = true → f.valid = true →
    ∃ t, exec (.upstreamLinkFrame die tile f) s = .next t ∧ nget t.pwr.vhv tile = f.vhv.toNat + 1 ∧ t.rd DRV_IVHV.IMEAN tile = f.imean.toNat ∧
      nget t.lks.upMiss (2 * tile.val + die.val) = 0 ∧
      (f.vddOk = false ∨ f.wordsOk = false → t.cause (srcTile tile 0) = true ∧
        (s.cause (srcTile tile 0) = false → ∃ o ∈ t.saf.raised, o.source = 24 * tile.val)) ∧ MemSame s t) ∧
  (∀ (s : State) (die : Fin 2) (tile : Fin 8) (f : UpFrame), s.on HPT_STATUS.READY = true → f.valid = false →
    ∃ t, exec (.upstreamLinkFrame die tile f) s = .next t ∧
      nget t.lks.upMiss (2 * tile.val + die.val) = min 4 (nget s.lks.upMiss (2 * tile.val + die.val) + 1) ∧
      (3 ≤ nget s.lks.upMiss (2 * tile.val + die.val) → nget s.lks.upMiss (2 * tile.val + 1 - die.val) = 4 →
        s.cause (srcTile tile 0) = false → ∃ o, t.saf.raised = s.saf.raised ++ [o] ∧ o.source = 24 * tile.val) ∧ MemSame s t)) ∧
  ((∀ (s : State) (id op : Nat) (d : Desc) (i : Instr), Runs s id opFailover d →
    (op, i) ∈ [(0, .switch id), (1, .detach id), (2, .resync id), (3, .keep id)] → d.fld 8 1 = op → s.lks.pending = none →
    (failoverBodyOk d = false → ∃ t, exec i s = .next t ∧ Completed d stBadField none s t ∧ OnlyHpt s t) ∧
    ∀ st, (op < 2 ∧ s.standby? = none ∧ st = 0x0901 ∨ op = 2 ∧ s.detached? = none ∧ st = 0x0904 ∨ op = 3 ∧ s.held_ = false ∧ st = 0x0905) →
      failoverBodyOk d = true → ∃ t, exec i s = .next t ∧ Completed d st none s t ∧ OnlyHpt s t) ∧
  (∀ (s : State) (id op : Nat) (d : Desc) (i : Instr) (p : LksOp), Runs s id opFailover d →
    (op, i) ∈ [(0, .switch id), (1, .detach id), (2, .resync id)] → d.fld 8 1 = op → failoverBodyOk d = true → s.lks.pending = some p →
    p.desc ≠ some id → s.standby?.isSome = true ∧ op < 2 ∨ s.detached?.isSome = true ∧ op = 2 →
    ∃ t, exec i s = .next t ∧ Completed d 0x0902 none s t ∧ OnlyHpt s t) ∧
  (∀ (s : State) (die : Fin 2) (op st : Nat) (keep : Fin 2) (i : Instr), s.bar0 die 0x900004 = .act →
    (op, i) ∈ [(0, .lksCmdSwitch die), (1, .lksCmdDetach die), (2, .lksCmdResync die), (3, .lksCmdKeep die keep)] →
    (op < 2 ∧ s.standby? = none ∧ st = 0x0901 ∨ op = 2 ∧ s.detached? = none ∧ st = 0x0904 ∨ op = 3 ∧ s.held_ = false ∧ st = 0x0905 ∨
      op < 2 ∧ s.standby?.isSome = true ∧ s.lks.pending.isSome = true ∧ st = 0x0902) →
    ∃ t, exec i s = .next t ∧ t.rd LKS_CMD_STATUS.STATUS = st ∧ OnlyRegs [LKS_CMD_STATUS.STATUS.key 0 0 0] s t) ∧
  (∀ (s : State) (id : Nat) (d : Desc), Runs s id opFailover d → d.fld 8 1 = 0 → failoverBodyOk d = true → s.standby?.isSome = true →
    s.lks.pending = none →
    ∃ t, exec (.switch id) s = .next t ∧ t = { s with lks := { s.lks with pending := some ⟨0, some id, s.frameAt d.acc + 2⟩ } }) ∧
  (∀ (s : State) (die : Fin 2), s.bar0 die 0x900004 = .act → s.standby?.isSome = true → s.lks.pending = none →
    ∃ t, exec (.lksCmdSwitch die) s = .next t ∧ t.rd LKS_CMD_STATUS.BUSY = 1 ∧
      t = { s with regs := t.regs, lks := { s.lks with pending := some ⟨0, none, s.now + 2⟩ } }) ∧
  (∀ (s : State) (id b : Nat) (d : Desc) (die : Fin 2), s.standby? = some b → s.lks.pending = none →
    (Runs s id opFailover d → d.fld 8 1 = 1 → failoverBodyOk d = true →
      ∃ t, exec (.detach id) s = .next t ∧ t.now = s.now + 1 ∧ t.role b = 0 ∧
        (s.pmc.snaps = [] → Answered d stOK none t)) ∧
    (s.bar0 die 0x900004 = .act → ∃ t, exec (.lksCmdDetach die) s = .next t ∧ t.now = s.now + 1 ∧ t.role b = 0 ∧
      t.rd LKS_CMD_STATUS.STATUS = stOK)) ∧
  (∀ (s : State) (id x : Nat) (d : Desc) (die : Fin 2), s.detached? = some x → s.lks.pending = none →
    (Runs s id opFailover d → d.fld 8 1 = 2 → failoverBodyOk d = true →
      ∃ t, exec (.resync id) s = .next t ∧ t.lks.pending = some ⟨2, some id, x⟩ ∧ (∀ y : Fin 2, t.rd LKS_STATUS.RESYNC y = 1) ∧
        t.now = s.now ∧ t.drv = s.drv ∧ t.hpt.pba = s.hpt.pba.filter (fun v => v.1 / 256 != x) ∧
        t.hpt = { s.hpt with pba := t.hpt.pba }) ∧
    (s.bar0 die 0x900004 = .act → ∃ t, exec (.lksCmdResync die) s = .next t ∧ t.lks.pending = some ⟨2, none, x⟩ ∧
      t.rd LKS_CMD_STATUS.BUSY = 1 ∧ ∀ y : Fin 2, t.rd LKS_STATUS.RESYNC y = 1)) ∧
  (∀ (s : State) (id : Nat) (d : Desc) (die k : Fin 2), s.held_ = true → s.lks.pending = none →
    (Runs s id opFailover d → d.fld 8 1 = 3 → failoverBodyOk d = true → d.fld 9 1 = k.val →
      ∃ t, exec (.keep id) s = .next t ∧ t.role k = 2 ∧ t.role (1 - k.val) = 0 ∧ t.lks.pending = some ⟨3, some id, k⟩ ∧
        ∃ r ∈ t.orb.reqs, r.origin = .reapply) ∧
    (s.bar0 die 0x900004 = .act → ∃ t, exec (.lksCmdKeep die k) s = .next t ∧ t.role k = 2 ∧ t.role (1 - k.val) = 0 ∧
      t.lks.pending = some ⟨3, none, k⟩ ∧ ∃ r ∈ t.orb.reqs, r.origin = .reapply)) ∧
  (∀ (s : State) (p : LksOp) (b : Nat), s.lks.pending = some p → p.op = 0 → s.pln.cycle = none → s.standby? = some b →
    (∀ d : Fin 2, s.on LKS_STATUS.HOLD d = false) →
    ∃ t, exec .switchEffect s = .next t ∧ t.now = max s.now p.arg ∧ t.role b = 2 ∧ t.role (1 - b) = 1 ∧ t.lks.pending = none ∧
      ∀ id d, p.desc = some id → s.desc id = some d → Answered d stOK (some 514) t) ∧
  (∀ (s : State), s.on LKS_STATUS.LAGGING s.active = true → s.pln.cycle = none →
    ∃ t k, exec .lagClose s = .next t ∧ t.rd LKS_STATUS.LAGGING s.active = 0 ∧ s.now - 2 ≤ k ∧ nget s.marks 3 ≤ k ∧
      k ≤ max (s.now - 2) (nget s.marks 3) + 2 ∧ (k + 1) % 40 ≠ 2 ∧
      (k + 2) % 40 ≠ 2 ∧ t.now = max s.now (k + 3) ∧ OnlyRegs [LKS_STATUS.LAGGING.key s.active 0 0] { s with now := t.now } t) ∧
  (∀ (s : State) (p : LksOp), s.lks.pending = some p → p.op = 2 → p.arg < 2 →
    (s.pln.cycle = none → ∃ t, exec (.resyncJoin true) s = .next t ∧ t.role p.arg = 1 ∧ t.lks.pending = none ∧
      (∀ y : Fin 2, t.rd LKS_STATUS.RESYNC y = 0) ∧ ∀ id d, p.desc = some id → s.desc id = some d → Answered d stOK none t) ∧
    ∃ t, exec (.resyncJoin false) s = .next t ∧ t.role p.arg = s.role p.arg ∧ t.lks.pending = none ∧
      ∀ id d, p.desc = some id → s.desc id = some d → Answered d 0x0906 none t) ∧
  (∀ (s : State) (d : Fin 2), s.role d ≠ 2 → s.role (1 - d.val) = 2 → s.role d ≤ 1 →
    ∃ t, exec (.dieRestart d) s = .next t ∧ t.role d = 0 ∧ t.role (1 - d.val) = 2 ∧ t.now = s.now))

/-- Buckets, rows and scrubs (R401, R405 to R410): a level leaks by 1; a copy that ends switches its row; a scrub counts each word
it corrects in its group's bucket, which overflows at CAP, and raises the words it cannot; a word corrected four times in time
is persistent; the summary goes to the host. How long the model takes a scrub to last, and that a word corrected by a scrub is
all that adds to a bucket, is the model's choice (assumption 3). A matrix cycle (R427 to R431): an access without a path goes to
the default target and is recorded; a control request goes before a bulk request, until that has waited 15 cycles; of two
control requests the one of the higher priority goes first, and the granted master holds the target for a cycle per 16 bytes, up
to 4. -/
def Obligations.MemoryAndBusCycles : Prop :=
  ((∀ (s : State) (die : Fin 2) (g : Fin 16) (p : Nat), p = 20000 * max 1 (s.rd MEM_BKT_CFG.LEAK_MS die g) →
    ∃ t, exec (.bucketLeak die g) s = .next t ∧ s.now ≤ t.now ∧ t.now % p = 0 ∧ nget s.mig.leakAt (16 * die.val + g.val) ≤ t.now ∧
      (∀ f, s.now ≤ f → nget s.mig.leakAt (16 * die.val + g.val) ≤ f → f % p = 0 → t.now ≤ f) ∧
      t.rd MEM_BKT_LEVEL.LEVEL die g = (s.rd MEM_BKT_LEVEL.LEVEL die g - 1) % 256 ∧
      nget t.mig.leakAt (16 * die.val + g.val) = t.now + 1) ∧
  (∀ (s : State) (die : Fin 2) (c : Nat × Nat) (rest : List (Nat × Nat)), s.mig.copies = c :: rest → c.1 / 8 = die.val →
    ∃ t, exec (.remapSwitch die) s = .next t ∧ t.now = max s.now c.2 ∧ t.mig.copies = rest ∧
      t.rd MEM_PERSIST_W0.REMAP die (c.1 % 8) =
        (if s.on MEM_PERSIST_W0.VALID die (c.1 % 8) = true then 2 else s.rd MEM_PERSIST_W0.REMAP die (c.1 % 8))) ∧
  (∀ (s : State) (id : Nat) (d : Desc) (ws : List ScrubWord), Runs s id opScrubRange d → s.mig.scrub = none →
    (∀ x ∈ s.hpt.accepted, x.op = opScrubRange → id ≤ x.id) →
    (scrubBodyOk d = false → ∃ t, exec (.scrubRange id ws) s = .next t ∧ Completed d stBadField none s t ∧ OnlyHpt s t) ∧
    (scrubBodyOk d = true →
      (∃ t c, exec (.scrubRange id []) s = .next t ∧ t.mig.scrub = some c ∧ c.desc = id ∧ c.scanned = d.fld 16 4 ∧
        c.corrA + c.corrB + c.uncA + c.uncB + c.persist = 0 ∧ c.firstUnc = 0xFFFFFFFF ∧ s.now + 20000 ≤ c.due ∧
        (∀ die : Fin 2, t.rd MEM_STATUS.SCRUB_BUSY die = 1) ∧ MemSame s t) ∧
      (∀ (die : Fin 2) (off : Nat), off < d.fld 16 4 → d.fld 8 1 ≠ 14 →
        (∀ x ∈ s.mig.tracks, ¬(x.die = die ∧ x.group = d.fld 8 1 ∧ x.tile = 0 ∧ x.addr = d.fld 12 4 + off)) →
        ∃ t c, exec (.scrubRange id [⟨die, off, false⟩]) s = .next t ∧ t.mig.scrub = some c ∧ c.corrA + c.corrB = 1 ∧
          t.rd MEM_BKT_LEVEL.TOTAL die (d.fld 8 1) = min (s.rd MEM_BKT_LEVEL.TOTAL die (d.fld 8 1) + 1) (2 ^ 24 - 1) ∧
          (if s.rd MEM_BKT_CFG.CAP die (d.fld 8 1) ≤ s.rd MEM_BKT_LEVEL.LEVEL die (d.fld 8 1) + 1 then
            t.rd MEM_BKT_LEVEL.LEVEL die (d.fld 8 1) = 0 ∧ ∃ o, t.saf.raised = s.saf.raised ++ [o] ∧ o.source = 197 + 64 * die.val
          else t.rd MEM_BKT_LEVEL.LEVEL die (d.fld 8 1) = (s.rd MEM_BKT_LEVEL.LEVEL die (d.fld 8 1) + 1) % 256 ∧
            t.saf.raised = s.saf.raised)) ∧
      (∀ (die : Fin 2) (off : Nat), off < d.fld 16 4 → d.fld 8 1 ≠ 14 → d.fld 12 4 + off < 0xFFFFFFFF →
        ∃ t c o, exec (.scrubRange id [⟨die, off, true⟩]) s = .next t ∧ t.mig.scrub = some c ∧ c.uncA + c.uncB = 1 ∧
          c.firstUnc = d.fld 12 4 + off ∧ t.saf.raised = s.saf.raised ++ [o] ∧ o.source = 196 + 64 * die.val) ∧
      (∀ (die : Fin 2) (off : Nat) (x : Track), off < d.fld 16 4 → d.fld 8 1 = 4 → s.mig.tracks = [x] → x.die = die.val → x.group = 4 →
        x.tile = 0 → x.addr = d.fld 12 4 + off → x.times.length = 3 →
        (∀ f ∈ x.times, s.now ≤ f + 20000 * s.rd MEM_BKT_CFG.LEAK_MS die 4) → (∀ e < 8, s.on MEM_PERSIST_W0.VALID die e = false) →
        s.on MEM_CTL.REMAP_EN die = true → s.rd MEM_REMAP_USED.ROWS die < 16 →
        ∃ t, exec (.scrubRange id [⟨die, off, false⟩]) s = .next t ∧ t.rd MEM_PERSIST_W0.VALID die 0 = 1 ∧
          t.rd MEM_PERSIST_W0.GROUP die 0 = 4 ∧ t.rd MEM_PERSIST_W0.ADDR die 0 = (d.fld 12 4 + off) % 2 ^ 19 ∧
          t.rd MEM_PERSIST_W0.REMAP die 0 = 1 ∧ t.mig.copies = s.mig.copies ++ [(8 * die.val, s.now + 40)]))) ∧
  (∀ (s : State) (c : Scrub) (d : Desc), s.mig.scrub = some c → s.desc c.desc = some d →
    ∃ t bs, exec .scrubDone s = .next t ∧ t.now = max s.now c.due ∧ t.mig.scrub = none ∧ (∀ die : Fin 2, t.rd MEM_STATUS.SCRUB_BUSY die = 0) ∧
      .host s.active (d.fld 24 8) false bs ∈ t.out ∧ bs.length = 32 ∧ field bs 0 4 = c.scanned % 2 ^ 32 ∧ field bs 20 4 = c.firstUnc % 2 ^ 32 ∧
      Answered d (if c.uncA + c.uncB = 0 then stOK else 0x0A02) (some (c.corrA + c.corrB)) t)) ∧
  ((∀ (s : State) (die : Fin 2) (target : Fin 18) (r : BusReq), r.master.val ∉ pathMasters target →
    ∃ t o, exec (.busAccess die target [r]) s = .next t ∧ t.rd BMX_STATUS.ERR die = 1 ∧
      t.rd BMX_CNT_ERR.COUNT die = min (s.rd BMX_CNT_ERR.COUNT die + 1) (2 ^ 32 - 1) ∧
      t.saf.raised = s.saf.raised ++ [o] ∧ o.source = 207 + 64 * die.val ∧
      (s.on BMX_ERR_INFO.VALID die = false → t.rd BMX_ERR_INFO.VALID die = 1 ∧ t.rd BMX_ERR_INFO.MASTER die = r.master.val ∧
        t.rd BMX_ERR_INFO.WRITE die = b2n r.write ∧ t.rd BMX_ERR_ADDR.ADDR die = r.addr.toNat) ∧ MemSame s t) ∧
  (∀ (s : State) (die : Fin 2) (target : Fin 18) (a : Arb) (x y : BusReq), target.val ≠ 17 →
    aget s.bmx.arbs (32 * die.val + target.val) = some a → a.busy ≤ 1 → x.master.val ∈ pathMasters target →
    y.master.val ∈ pathMasters target → x.master ≠ y.master →
    ∃ t u, exec (.busAccess die target [x, y]) s = .next t ∧ aget t.bmx.arbs (32 * die.val + target.val) = some u ∧
      (x.master.val < 12 → 12 ≤ y.master.val → if a.bulkWait < 15 then u.parked = x.master.val ∧ u.bulkWait = a.bulkWait + 1
        else u.parked = y.master.val ∧ u.bulkWait = 0) ∧
      (x.master.val < 12 → y.master.val < 12 → s.busRank die target y.master < s.busRank die target x.master →
        u.parked = x.master.val ∧ u.lastCtl = x.master.val ∧ u.busy = max 1 (min 4 ((x.bytes.val + 15) / 16))) ∧
      t = { s with regs := t.regs, bmx := t.bmx } ∧
      ∀ k, k ≠ BMX_TGT_STAT.MAX_BULK_WAIT.key die target 0 → nget t.regs k = nget s.regs k) ∧
  (∀ (s : State) (die : Fin 2) (target : Fin 18) (x : BusReq), target.val ≠ 17 →
    aget s.bmx.arbs (32 * die.val + target.val) = none → x.master.val ∈ pathMasters target →
    ∃ t u, exec (.busAccess die target [x]) s = .next t ∧ aget t.bmx.arbs (32 * die.val + target.val) = some u ∧
      u.parked = x.master.val ∧ u.busy = max 1 (min 4 ((x.bytes.val + 15) / 16)) ∧
      ∃ v, exec (.busAccess die target []) t = .next v ∧ ∃ w, aget v.bmx.arbs (32 * die.val + target.val) = some w ∧ w.busy = u.busy - 1))

/-- Events (R413 to R420, R422): a software event, a fault or a timer gives an occurrence; a source fires it, and its channel counts
and carries it; a second one in 40 frames is held, further ones are counted; a channel that is not enabled, or has been enabled
anew in the frame, drops it, one that has carried an event in the frame merges it, and one that exceeds its limit is disabled.
That a source without EN fires, and drives nothing, is the model's reading (assumption 53). -/
def Obligations.EventsFireAndTimersRun : Prop :=
  (∀ (s : State) (die w : Fin 2) (v : Word), s.bar0 die (0xB00010 + 4 * w) = .act →
    ∃ t, exec (.softwareEvent die w v) s = .next t ∧ t = { s with sgf := { s.sgf with occ := t.sgf.occ } } ∧
      ∃ l, t.sgf.occ = s.sgf.occ ++ l ∧ ∀ n, n ∈ l ↔ ∃ b < 32, bit v.toNat b = true ∧ n = 32 * w.val + b) ∧
  (∀ (s : State) (n : Fin 640) (rest : List Nat), n.val ≠ 448 → n.val ≠ 449 → s.sgf.occ = n.val :: rest → srcListed n = true →
    (∀ k, srcTileOf n = some k → s.tileLost k = false) →
    ∃ t, exec (.eventFire n) s = .next t ∧ t.sgf.occ = rest ∧
      (if s.now + 1 < nget s.sgf.rearm n then
        (if s.srcHeld n = true then t.load (srcAddr n + 8) 4 = min (s.load (srcAddr n + 8) 4 + 1) (2 ^ 32 - 1) ∧
          t.rd SGF_CNT_SUPPRESS.COUNT = min (s.rd SGF_CNT_SUPPRESS.COUNT + 1) (2 ^ 32 - 1)
        else t.srcHeld n = true)
      else t.load (srcAddr n + 4) 4 = min (s.load (srcAddr n + 4) 4 + 1) (2 ^ 32 - 1) ∧ nget t.sgf.rearm n = s.now + 41 ∧
        (s.srcEn n = true → s.mayDrive (s.srcOwner n) (s.srcCh n) = true →
          if s.chanEn (s.srcCh n) = false ∨ s.wordBit SGF_LOOP_OFF.OFF (s.srcCh n) = true ∨
              nget s.sgf.backAt (s.srcCh n) = s.now + 1 then
            t.rd SGF_CNT_DROP.COUNT = min (s.rd SGF_CNT_DROP.COUNT + 1) (2 ^ 32 - 1)
          else if nget s.sgf.fired (s.srcCh n) = s.now + 1 then
            t.rd SGF_CNT_COINCIDE.COUNT = min (s.rd SGF_CNT_COINCIDE.COUNT + 1) (2 ^ 32 - 1)
          else t.load (chanAddr (s.srcCh n) + 8) 4 = min (s.load (chanAddr (s.srcCh n) + 8) 4 + 1) (2 ^ 32 - 1) ∧
            t.wordBit SGF_WATCH.WATCH (s.srcCh n) = true ∧
            (nget s.sgf.msAt (s.srcCh n) = s.msNow + 1 →
              s.load (chanAddr (s.srcCh n) + 2) 2 ≤ s.load (chanAddr (s.srcCh n) + 12) 2 →
              t.wordBit SGF_LOOP_OFF.OFF (s.srcCh n) = true ∧ ∃ o, t.saf.raised = s.saf.raised ++ [o] ∧
                o.source = 206 + 64 * s.active)))) ∧
  (∀ (s : State) (n : Fin 640) (p : Nat), n.val = 448 ∧ p = 20000000 ∨ n.val = 449 ∧ p = 20000 →
    ∃ t, exec (.eventFire n) s = .next t ∧ s.now ≤ t.now ∧ t.now % p = 0 ∧ t.sgf.occ = s.sgf.occ ∧
      (nget s.sgf.rearm n = 0 → nget t.sgf.rearm n = t.now + 41)) ∧
  (∀ (s : State) (n : Fin 640) (f : Nat), nget s.sgf.rearm n = f + 1 →
    ∃ t, exec (.sourceRearm n) s = .next t ∧ t.now = max s.now f ∧ t.srcHeld n = false ∧
      (if s.srcHeld n = true ∧ s.mayFire n = true then
        nget t.sgf.rearm n = t.now + 41 ∧ t.load (srcAddr n + 4) 4 = min (s.load (srcAddr n + 4) 4 + 1) (2 ^ 32 - 1)
      else nget t.sgf.rearm n = 0)) ∧
  (∀ (s : State) (die : Fin 2) (w : Fin 8) (v : Word), s.bar0 die (0xB00060 + 4 * w) = .act →
    ∃ t, exec (.loopReenable die w v) s = .next t ∧
      ∀ b < 32, t.wordBit SGF_LOOP_OFF.OFF (32 * w.val + b) = (s.wordBit SGF_LOOP_OFF.OFF (32 * w.val + b) && !bit v.toNat b) ∧
        (s.wordBit SGF_LOOP_OFF.OFF (32 * w.val + b) = true → bit v.toNat b = true →
          nget t.sgf.backAt (32 * w.val + b) = s.now + 1)) ∧
  (∀ (s : State) (die : Fin 2) (j : Fin 64) (hi : Word) (x : Nat), s.bar0 die (0xB01008 + 0x10 * j) = .act →
    x = s.rd SGF_TMR_TIME_LO.TICKS j + 2 ^ 32 * hi.toNat →
    ∃ t, exec (.timerArm die j hi) s = .next t ∧ t.rd SGF_TMR_TIME_HI.TICKS j = hi.toNat ∧
      t = { s with regs := t.regs, sgf := { s.sgf with timers := t.sgf.timers } } ∧
      (if s.on SGF_TMR_CTL.EN j = false then t.sgf = s.sgf
      else if s.timeOut x = true then t.rd SGF_TMR_CTL.TIME_ERR j = 1 ∧ t.sgf = s.sgf
      else t.rd SGF_TMR_CTL.ARMED j = 1 ∧ (s.on SGF_TMR_CTL.PERIODIC j = false →
        if tickDiff x s.ticks < 0 then t.rd SGF_TMR_CTL.LATE j = 1 ∧ nget t.sgf.timers j = s.now + 1
        else s.now ≤ s.frameAt x → nget t.sgf.timers j = s.frameAt x + 1))) ∧
  (∀ (s : State) (j : Fin 64) (f : Nat), nget s.sgf.timers j = f + 1 →
    ∃ t, exec (.timerFire j) s = .next t ∧ t.now = max s.now f ∧ t.sgf.occ = s.sgf.occ ++ [64 + j.val] ∧
      nget t.sgf.timers j = (if s.on SGF_TMR_CTL.PERIODIC j = true then f + max 1 (s.rd SGF_TMR_PERIOD.FRAMES j) + 1 else 0) ∧
      t.rd SGF_TMR_CTL.ARMED j = b2n (s.on SGF_TMR_CTL.PERIODIC j) ∧ MemSame s t)

/-- Keys, tamper and debug (R435 to R440, R446, R447): a load zeroes the key words and shows the check value; an alarm locks debug
and erases the vault; a challenge gives a fresh nonce; a level goes to the right response, FULL after zeroising the vault and
asking for Eclipse; the third failure locks debug out. The cryptography is that of the public standards (assumption 10).
Firmware (R443, R444, R474, R81): a write reads the image and waits, with the flash's clock running and POISONED set by a
poisoned TLP, unless one runs; its result comes with the end of the write; and the fused minimum follows the running image,
while a fuse is left. -/
def Obligations.KeysDebugAndFirmware : Prop :=
  ((∀ (s : State) (die : Fin 2) (slot : Fin 32), s.bar0 die 0xD00010 = .act → slot.val ≤ 16 → s.sec.keyAt ≠ s.now + 1 →
    ∃ t key, exec (.keyLoad die slot) s = .next t ∧ key = (List.range 8).flatMap (fun i => leBytes 4 (s.rd SEC_KEY_W.KEY i)) ∧
      aget t.sec.keys slot = some key ∧ (∀ i < 8, t.rd SEC_KEY_W.KEY i = 0) ∧ bit (t.rd SEC_KEY_STATUS.LOADED) slot = true ∧
      t.rd SEC_KEY_KCV.KCV slot = field (hmac256 key (List.replicate 32 0)) 0 4 ∧ (slot.val = 0 → t.rd SEC_STATUS.ERASED = 0) ∧
      t = { s with regs := t.regs, sec := { s.sec with keys := t.sec.keys, keyAt := s.now + 1 } }) ∧
  (∀ (s : State) (die : Fin 2) (slot : Fin 32), s.bar0 die 0xD00010 = .act → slot.val ≤ 16 → s.sec.keyAt ≠ s.now + 1 →
    ∃ t, exec (.keyErase die slot) s = .next t ∧ aget t.sec.keys slot = none ∧ bit (t.rd SEC_KEY_STATUS.LOADED) slot = false ∧
      t.rd SEC_KEY_KCV.KCV slot = 0 ∧ t = { s with regs := t.regs, sec := { s.sec with keys := t.sec.keys, keyAt := s.now + 1 } }) ∧
  (∀ (s : State) (die : Fin 2) (slot : Fin 32) (i : Instr), s.bar0 die 0xD00010 = .act → i = .keyLoad die slot ∨ i = .keyErase die slot →
    16 < slot.val ∨ s.sec.keyAt = s.now + 1 →
    ∃ t, exec i s = .next t ∧ t.rd SEC_STATUS.CFG_REJECT = 1 ∧ OnlyRegs [SEC_STATUS.CFG_REJECT.key 0 0 0] s t) ∧
  (∀ (s : State) (c : Fin 5), bit (s.rd SEC_TAMPER_STATUS.LIVE) c = false →
    ∃ t, exec (.tamperAlarm c) s = .next t ∧ bit (t.rd SEC_TAMPER_STATUS.LIVE) c = true ∧
      (if bit (s.rd SEC_ALARM_CFG.EN) c = true then
        bit (t.rd SEC_TAMPER_STATUS.LATCHED) c = true ∧ t.rd SEC_STATUS.DBG_LEVEL = 0 ∧ t.rd SEC_STATUS.ALARM = 1 ∧
          (∃ o ∈ t.saf.raised, o.source = 333 ∧ o.info = 2 ^ c.val) ∧
          (s.on SEC_ALARM_CFG.ERASE = true → s.sec.eraseAt = 0 →
            (∀ k ≤ 16, aget t.sec.keys k = none) ∧ t.rd SEC_STATUS.ERASED = 1 ∧
              t.rd SEC_CNT_ERASE.COUNT = min (s.rd SEC_CNT_ERASE.COUNT + 1) (2 ^ 32 - 1))
      else t.rd SEC_TAMPER_STATUS.LATCHED = s.rd SEC_TAMPER_STATUS.LATCHED ∧ t.sec = s.sec ∧ t.saf = s.saf)) ∧
  (∀ (s : State) (c : Fin 5), ∃ t, exec (.tamperConditionEnd c) s = .next t ∧ bit (t.rd SEC_TAMPER_STATUS.LIVE) c = false ∧
    t.rd SEC_TAMPER_STATUS.LATCHED = s.rd SEC_TAMPER_STATUS.LATCHED ∧ t = { s with regs := t.regs }) ∧
  (∀ (s : State) (die : Fin 2), s.bar0 die 0xD00008 = .act →
    ∃ t, exec (.alarmLock die) s = .next t ∧ t.rd SEC_ALARM_CFG.LOCK = 1 ∧ OnlyRegs [SEC_ALARM_CFG.LOCK.key 0 0 0] s t) ∧
  (∀ (s : State) (die : Fin 2) (n : BitVec 128), s.on HPT_STATUS.READY = true →
    ∃ t, exec (.dbgChallenge die n) s = .next t ∧ t.sec.nonce = some n.toNat ∧
      t.out = .reg die 0xD000B0 (n.toNat % 2 ^ 32) :: s.out ∧
      t = { s with hpt := { s.hpt with shadow := t.hpt.shadow }, out := t.out, sec := { s.sec with nonce := t.sec.nonce } }) ∧
  (∀ (s : State) (die : Fin 2) (l : Fin 4) (n : Nat) (key : List Byte), s.bar0 die 0xD000D0 = .act → l = 1 ∨ l = 2 →
    s.sec.nonce = some n → aget s.sec.keys 0 = some key →
    if s.wordBytes SEC_DBG_RESP_W.RESP 4 = (hmac256 key (leBytes 16 n ++ leBytes 1 l)).take 16 then
      if s.on SEC_STATUS.DBG_LOCKOUT = true then exec (.dbgLevelRequest die l) s = .next s
      else ∃ t, exec (.dbgLevelRequest die l) s = .next t ∧ t.rd SEC_STATUS.DBG_LEVEL = l.val ∧ t.sec.nonce = none ∧
        (l = 2 → (∀ k ≤ 16, aget t.sec.keys k = none) ∧ t.on SAF_CTL.SW_ECLIPSE = true) ∧ (l = 1 → t.sec.keys = s.sec.keys)
    else ∃ t, exec (.dbgLevelRequest die l) s = .next t ∧ t.rd SEC_DBG_FAIL.COUNT = min (s.rd SEC_DBG_FAIL.COUNT + 1) (2 ^ 32 - 1) ∧
      (2 ≤ s.rd SEC_DBG_FAIL.COUNT → t.rd SEC_STATUS.DBG_LOCKOUT = 1) ∧ t.rd SEC_STATUS.DBG_LEVEL = s.rd SEC_STATUS.DBG_LEVEL ∧
      t.sec = s.sec) ∧
  (∀ (s : State) (die : Fin 2), s.bar0 die 0xD00000 = .act →
    ∃ t, exec (.dbgRelock die) s = .next t ∧ t.rd SEC_STATUS.DBG_LEVEL = 0 ∧ OnlyRegs [SEC_STATUS.DBG_LEVEL.key 0 0 0] s t)) ∧
  ((∀ (s : State) (die : Fin 2) (data : List Byte) (p : Bool), s.bar0 die 0xD000A0 = .act → s.on SEC_STATUS.FW_BUSY = false →
    ∃ t v g r, exec (.fwWrite die ⟨data, p⟩) s = .next t ∧ t.rd SEC_STATUS.FW_BUSY = 1 ∧ t.sec.fwWrite = some (v, g, r) ∧
      (data.length < s.rd SEC_FW_LEN.LEN → r = 1) ∧
      (∀ img, img = data.take (s.rd SEC_FW_LEN.LEN) → v = field img 4 2 ∧ (s.rd SEC_FW_LEN.LEN ≤ data.length →
        (field img 0 4 ≠ 0x4B584657 ∨ sha384 ((img.drop 60).take 97) ≠ Config.fusedKeyHash → r = 2) ∧
        (r = 0 → s.rd SEC_FW_STATUS.MINVER ≤ field img 5 1 ∧ sha384 ((img.drop 512).take (field img 8 4)) = (img.drop 12).take 48))) ∧
      (p = false → t.out = .read s.active (s.rd SEC_FW_ADDR_LO.ADDR + 2 ^ 32 * s.rd SEC_FW_ADDR_HI.ADDR) (s.rd SEC_FW_LEN.LEN) :: s.out) ∧
      (p = true → t.on HPT_ERR_STATUS.POISONED s.active = true) ∧ (∀ d : Fin 2, t.gated d 19 = false) ∧ MemSame s t) ∧
  (∀ (s : State) (die : Fin 2) (data : List Byte) (p : Bool) (i : Instr), s.bar0 die 0xD000A0 = .act → s.on SEC_STATUS.FW_BUSY = true →
    i = .fwWrite die ⟨data, p⟩ ∨ i = .raiseMin die →
    ∃ t, exec i s = .next t ∧ t.rd SEC_STATUS.CFG_REJECT = 1 ∧ OnlyRegs [SEC_STATUS.CFG_REJECT.key 0 0 0] s t) ∧
  (∀ (s : State) (v g r : Nat) (ok : Bool), s.sec.fwWrite = some (v, g, r) → r < 16 → s.rd SEC_FW_STATUS.BOOT_SLOT ≤ 1 →
    ∃ t, exec (.fwWriteDone ok) s = .next t ∧ t.rd SEC_STATUS.FW_BUSY = 0 ∧ t.sec.fwWrite = none ∧
      t.rd SEC_FW_RESULT.RESULT = (if r ≠ 0 then r else if ok then 0 else 4) ∧
      (r ≠ 0 → t.flash = s.flash) ∧
      (r = 0 → ok = true → ∀ die : Fin 2, aget t.flash.fw (2 * die.val + (1 - s.rd SEC_FW_STATUS.BOOT_SLOT)) = some ⟨true, v, g⟩)) ∧
  (∀ (s : State) (die : Fin 2), s.bar0 die 0xD000A0 = .act → s.on SEC_STATUS.FW_BUSY = false →
    ∃ t, exec (.raiseMin die) s = .next t ∧
      (if s.rd SEC_FW_STATUS.MINVER = s.rd SEC_FW_STATUS.VERSION / 256 then t.rd SEC_FW_RESULT.RESULT = 0 ∧ t.sec = s.sec
      else if 64 ≤ s.sec.raises then t.rd SEC_FW_RESULT.RESULT = 5 ∧ t.rd SEC_FW_STATUS.MINVER = s.rd SEC_FW_STATUS.MINVER
      else t.rd SEC_FW_RESULT.RESULT = 0 ∧ t.rd SEC_FW_STATUS.MINVER = s.rd SEC_FW_STATUS.VERSION / 256 % 256 ∧
        t.sec.raises = s.sec.raises + 1)))

/-- A capture of the standby's counters that is asked for with no die STANDBY completes with 0x0E01, PMC_NO_STANDBY (R461). -/
def Obligations.NoStandbyCapture : Prop :=
  ∀ (s : State) (id : Nat) (d : Desc), Runs s id opCounterSnap d → (∀ x ∈ s.pmc.snaps, x.1 ≠ id) → snapBodyOk d = true →
    s.on PMC_ACCESS.SNAP s.active (d.dom) = true → (d.fld 10 1 % 2 = 1 → d.dom = 0) →
    d.fld 10 1 / 2 % 2 = 1 → s.role 0 ≠ 1 → s.role 1 ≠ 1 →
    ∃ t, exec (.counterSnap id) s = .next t ∧ Completed d 0x0E01 none s t ∧ OnlyHpt s t

/-- The performance counters (R452, R456, R459, R460, R463): a wrap sets its OVF bits and signals PMC_VEC; a sample stands in its
cluster's buffer, or is lost, or with WRAP takes the place of the oldest; a pop removes the oldest; a clear zeroes every counter
and OVF; a snapshot is checked, waits for its frame and writes 40 bytes for each core. -/
def Obligations.CountersAndSnapshots : Prop :=
  (∀ (s : State) (die : Fin 2) (c : Fin 64) (k : Fin 6) (rest : List (Nat × Nat × Nat)),
    s.pmc.wrapped = (die.val, c.val, k.val) :: rest →
    ∃ t, exec (.counterOverflow die c k) s = .next t ∧ t.pmc = { s.pmc with wrapped := rest } ∧ bit (t.rd PMC_OVF.OVF die c) k = true ∧
      (if c.val < 32 then bit (t.rd PMC_OVF_SUM_LO.CORES die) c = true else bit (t.rd PMC_OVF_SUM_HI.CORES die) (c.val - 32) = true) ∧
      (if s.on PMC_EVSEL.IRQ die c k = true then Signalled s t die (s.rd PMC_VEC.VECTOR die) else t.out = s.out ∧ t.hpt = s.hpt) ∧
      MemSame s t) ∧
  (∀ (s : State) (die : Fin 2) (c : Fin 8) (x : Smp) (rest : List Smp), s.pmc.due = x :: rest → x.die = die.val → x.core / 8 = c.val →
    x.entry.length = 16 →
    ∃ t, exec (.pmcSample die c) s = .next t ∧ t.pmc = { s.pmc with due := rest } ∧
      (if s.rd PMC_SMP_STATUS.COUNT die c < 64 then t.rd PMC_SMP_STATUS.COUNT die c = s.rd PMC_SMP_STATUS.COUNT die c + 1 ∧
        t.loadBytes (smpAddr die c ((s.rd PMC_SMP_STATUS.HEAD die c + s.rd PMC_SMP_STATUS.COUNT die c) % 64)) 16 = x.entry
      else t.rd PMC_SMP_LOST.COUNT die c = min (s.rd PMC_SMP_LOST.COUNT die c + 1) (2 ^ 32 - 1) ∧
        if s.on PMC_SMP_CFG.WRAP die c = true then
          t.loadBytes (smpAddr die c (s.rd PMC_SMP_STATUS.HEAD die c)) 16 = x.entry ∧
            t.rd PMC_SMP_STATUS.HEAD die c = (s.rd PMC_SMP_STATUS.HEAD die c + 1) % 64
        else MemSame s t)) ∧
  (∀ (s : State) (die : Fin 2) (c : Fin 8), s.bar0 die (0xE20008 + 0x20 * c) = .act →
    ∃ t, exec (.pmcSmpPop die c) s = .next t ∧ t = { s with regs := t.regs } ∧
      ∀ d : Fin 2, s.role d ≠ 0 → 1 ≤ s.rd PMC_SMP_STATUS.COUNT d c → s.rd PMC_SMP_STATUS.COUNT d c ≤ 64 →
        t.rd PMC_SMP_STATUS.COUNT d c = s.rd PMC_SMP_STATUS.COUNT d c - 1 ∧
        t.rd PMC_SMP_STATUS.HEAD d c = (s.rd PMC_SMP_STATUS.HEAD d c + 1) % 64 ∧
        (2 ≤ s.rd PMC_SMP_STATUS.COUNT d c → t.rd PMC_SMP_W0.ENTRY d c = s.load (smpAddr d c ((s.rd PMC_SMP_STATUS.HEAD d c + 1) % 64)) 4) ∧
        (s.rd PMC_SMP_STATUS.COUNT d c = 1 → t.rd PMC_SMP_W0.ENTRY d c = 0)) ∧
  (∀ (s : State) (die : Fin 2), s.bar0 die 0xE00000 = .act →
    ∃ t, exec (.pmcClear die) s = .next t ∧ MemSame s t ∧ ∀ (d : Fin 2) (c : Fin 64), s.role d ≠ 0 → t.rd PMC_OVF.OVF d c = 0 ∧
      ∀ k : Fin 6, t.rd PMC_CNT.COUNT d c k = 0) ∧
  (∀ (s : State) (id : Nat) (d : Desc), Runs s id opCounterSnap d → (∀ x ∈ s.pmc.snaps, x.1 ≠ id) →
    (snapBodyOk d = false → ∃ t, exec (.counterSnap id) s = .next t ∧ Completed d stBadField none s t ∧ OnlyHpt s t) ∧
    (snapBodyOk d = true → (s.on PMC_ACCESS.SNAP s.active (d.dom) = false ∨ d.dom ≠ 0 ∧ d.fld 10 1 % 2 = 1) →
      ∃ t, exec (.counterSnap id) s = .next t ∧ Completed d stDomainDenied none s t ∧ OnlyHpt s t) ∧
    (snapBodyOk d = true → s.on PMC_ACCESS.SNAP s.active (d.dom) = true → (d.dom ≠ 0 → d.fld 10 1 % 2 = 0) →
      (d.fld 10 1 / 2 % 2 = 1 → s.standby?.isSome = true) →
      (d.fld 10 1 / 4 % 2 = 0 → s.timeOut (d.fld 16 8) = false ∧ 0 ≤ tickDiff (d.fld 16 8) s.ticks) →
      ∃ t f, exec (.counterSnap id) s = .next t ∧ f = (if d.fld 10 1 / 4 % 2 = 1 then s.now + 1 else s.frameAt (d.fld 16 8)) ∧
        t = { s with pmc := { s.pmc with snaps := s.pmc.snaps ++ [(id, f)] } })) ∧
  (∀ (s : State) (id f : Nat) (d : Desc) (rest : List (Nat × Nat)), s.pmc.snaps = (id, f) :: rest → s.desc id = some d →
    snapBodyOk d = true → d.fld 10 1 / 2 % 2 = 0 →
    ∃ t bs, exec (.snapCapture id) s = .next t ∧ t.now = max s.now f ∧ t.pmc.snaps = rest ∧ .host s.active (d.fld 24 8) false bs ∈ t.out ∧
      bs.length = 40 * d.fld 9 1 ∧ (∀ i < d.fld 9 1, field bs (40 * i + 32) 1 = d.fld 8 1 + i) ∧
      (d.fld 10 1 / 4 % 2 = 1 → Answered d stOK (some (d.fld 9 1)) t) ∧
      (d.fld 10 1 % 2 = 1 → ∀ (e : Fin 2), s.role e ≠ 0 → ∀ c k, d.fld 8 1 ≤ c → c < d.fld 8 1 + d.fld 9 1 → k < 6 →
        t.rd PMC_CNT.COUNT e c k = 0))

/-- The Dawn and the resets (R408, R443, R466, R467, R477, R482, R483). With everything in order VAON brings the module to READY
with die A ACTIVE and die B STANDBY, and VHV ramps; rails that fail leave FAIL_STEP 2, and a third failure leaves the sequencer
off. RST_N clears all but the always-on domain and counts; its release records the cause and runs a Dawn. The loss of VAON loses
the vault. SHUTDOWN with its key ends with every rail off. A whole Dawn is one command here, an inference of the model
(assumption 40). -/
def Obligations.ResetsAndTheDawn : Prop :=
  (∀ (s : State) (x : DawnIn), s.pins.vaon = false → s.pins.rst = false → s.sec.fwWrite = none →
    (x.rails = true → x.fuses = true → x.checkA = 0xFFFF → x.checkB = 0xFFFF → (x.wordsA = true ∨ x.wordsB = true) →
      (s.bootSlot 0).isSome = true → (s.bootSlot 1).isSome = true → s.bootDiffers = false →
      ∃ t, exec (.vaonPowerOn x) s = .next t ∧ t.rd HPT_STATUS.READY = 1 ∧ t.rd PWR_STATUS.DAWN_STEP = 9 ∧ t.rd LKS_STATUS.ROLE 0 = 2 ∧
        t.rd LKS_STATUS.ROLE 1 = 1 ∧ t.rd PWR_STATUS.VHV_RAMP = 1 ∧ t.pins.vaon = true ∧ t.flash.fw = s.flash.fw ∧ t.sec.keys = []) ∧
    (x.rails = false → ∃ t, exec (.vaonPowerOn x) s = .next t ∧ t.rd HPT_STATUS.READY = 0 ∧ t.rd PWR_STATUS.FAIL_STEP = 2 ∧
      t.pins.fault = 2 ∧ t.pwr.vhvOn = false ∧ t.pwr.rails = [])) ∧
  (∀ (s : State) (x : DawnIn), s.pins.vaon = true → s.pins.rst = false → s.pwr.off = false → s.pwr.attempts ≠ 0 →
    s.on HPT_STATUS.READY = false → x.rails = false →
    ∃ t, exec (.railRetry x) s = .next t ∧ t.pwr.attempts = s.pwr.attempts + 1 ∧ t.pwr.off = decide (3 ≤ s.pwr.attempts + 1) ∧
      t.rd PWR_STATUS.FAIL_STEP = 2 ∧ MemSame s t) ∧
  (∀ s : State, s.pins.rst = false → s.pins.vaon = true → s.sec.fwWrite = none →
    ∃ t, exec .rstNAssert s = .next t ∧ t.pins.rst = true ∧ t.pins.fault = 0 ∧ t.rd HPT_STATUS.READY = 0 ∧ t.mem = [] ∧
      t.sec.keys = s.sec.keys ∧ t.flash = s.flash ∧ t.rd PWR_CNT_RST.COUNT = min (s.rd PWR_CNT_RST.COUNT + 1) (2 ^ 32 - 1) ∧
      t.rd SEC_TAMPER_STATUS.LATCHED = s.rd SEC_TAMPER_STATUS.LATCHED ∧ t.rd SEC_FW_STATUS.MINVER = s.rd SEC_FW_STATUS.MINVER ∧
      t.rd SEC_ALARM_CFG.EN = s.rd SEC_ALARM_CFG.EN ∧ (∀ k, alwaysOnBit k = false → nget t.regs k = 0)) ∧
  (∀ (s : State) (x : DawnIn), s.pins.rst = true →
    (s.pins.vaon = false → ∃ t, exec (.rstNRelease x) s = .next t ∧ t = { s with pins := { s.pins with rst := false } }) ∧
    (s.pins.vaon = true → ∃ t, exec (.rstNRelease x) s = .next t ∧ t.pins.rst = false ∧ t.pwr.shutdown = false ∧
      t.rd PWR_RESET_CAUSE.CAUSE = (if s.rd PWR_STATUS.DAWN_STEP = 1 then 0 else if s.pwr.shutdown = true then 2 else 1) ∧
      (x.rails = false → t.rd PWR_STATUS.FAIL_STEP = 2 ∧ t.pins.fault = 2))) ∧
  (∀ s : State, s.sec.fwWrite = none →
    ∃ t, exec .vaonLoss s = .next t ∧ t.pins.vaon = false ∧ t.pins.fault = 0 ∧ t.sec.keys = [] ∧ t.mem = [] ∧ t.flash = s.flash ∧
      t.rd HPT_STATUS.READY = 0 ∧ t.rd SEC_TAMPER_STATUS.LATCHED = 0 ∧ t.rd SEC_FW_STATUS.MINVER = s.rd SEC_FW_STATUS.MINVER) ∧
  (∀ (s : State) (die : Fin 2) (key : BitVec 16), s.bar0 die 0xF00034 = .act →
    (key ≠ 0xA5C3 → ∃ t, exec (.shutdown die key) s = .next t ∧ t = s.wr PWR_STATUS.CFG_REJECT 1) ∧
    (key = 0xA5C3 → ∃ t, exec (.shutdown die key) s = .next t ∧ t.pwr.off = true ∧ t.pwr.rails = [] ∧ t.pwr.vhvOn = false ∧
      t.rd HPT_STATUS.READY = 0 ∧ t.rd PWR_STATUS.ARMED = 0 ∧ t.pins.fault = 2 ∧
      t.out = ([6, 0, 1, 2, 3, 4, 5, 7].map fun r => Out.pmbus r 0x01 0) ++ s.out))

/-- VHV, the rails, the loss and ARM (R465, R468, R469, R471, R480, R481). A target out of its span is refused; another goes to rail
7 once no ramp runs, and a ramp of PWR_VHV_RAMP ms begins. A poll shows what it reads, and a rail out of range raises its
source; so does a fault bit after PMB_ALERT_N. The loss is shown in milliwatts (how a fraction is rounded is free, assumption
1), and LOSS_HIGH set above the cap. ARM and DISARM are refused for their first failing condition, or act at frame A. That a
rail is out of range beyond 3 % of its target is the model's reading (assumption 41). -/
def Obligations.SupplyAndArming : Prop :=
  (∀ (s : State) (die : Fin 2) (mv : BitVec 14), s.bar0 die 0xF00010 = .act →
    ∃ t, exec (.vhvSetWrite die mv) s = .next t ∧
      (if mv.toNat < 6000 ∨ 12000 < mv.toNat ∨ mv.toNat % 50 ≠ 0 ∨ ∃ k : Fin 8, 15000000 < s.rd DRV_FOLD_CFG.ICAP k * mv.toNat then
        t = s.wr PWR_STATUS.CFG_REJECT 1
      else t.rd PWR_VHV_SET.MV = mv.toNat ∧ t.eff PWR_VHV_SET.MV = s.eff PWR_VHV_SET.MV ∧ t = { s with regs := t.regs, held := t.held })) ∧
  (∀ s : State, s.pwr.vhvOn = true → s.on PWR_STATUS.VHV_RAMP = false → nget s.held (PWR_VHV_SET.MV.key 0 0 0) ≠ 0 →
    ∃ t, exec .vhvCommand s = .next t ∧ t.rd PWR_STATUS.VHV_RAMP = 1 ∧ t.rd PWR_STATUS.VHV_GOOD = 0 ∧
      t.pwr.target = s.rd PWR_VHV_SET.MV ∧ t.pwr.before = s.pwr.target ∧
      t.pwr.rampEnd = some (s.now + 20000 * s.rd PWR_VHV_RAMP.MS) ∧ t.out = .pmbus 7 0x21 (s.rd PWR_VHV_SET.MV) :: s.out ∧ MemSame s t) ∧
  (∀ (s : State) (f : Nat), s.pwr.rampEnd = some f →
    ∃ t, exec .vhvRampEnd s = .next t ∧ t.rd PWR_STATUS.VHV_RAMP = 0 ∧ t.pwr.rampEnd = none ∧ t.now = max s.now f ∧ MemSame s t) ∧
  (∀ (s : State) (r : Fin 8) (ok vaonOk : Bool) (v : BitVec 16) (i : BitVec 15), s.on HPT_STATUS.READY = true →
    ∃ t, exec (.pmbusPoll [⟨r, ok, v, i⟩] vaonOk) s = .next t ∧ MemSame s t ∧ t.out = s.out ∧
      (if ok = true then t.rd PWR_RAIL.VOUT r = v.toNat ∧ t.rd PWR_RAIL.IOUT r = i.toNat ∧ t.free = s.free ∧
        (t.rd PWR_RAIL.GOOD r = if 97 * s.railTarget r ≤ 100 * v.toNat ∧ 100 * v.toNat ≤ 103 * s.railTarget r then 1 else 0) ∧
        (t.rd PWR_RAIL.GOOD r = 0 → 2 ≤ r.val → r.val ≤ 6 → s.cause 324 = false → ∃ o ∈ t.saf.raised, o.source = 324) ∧
        (t.rd PWR_RAIL.GOOD r = 0 → r.val = 1 → s.cause 266 = false → ∃ o ∈ t.saf.raised, o.source = 266)
      else t.rd PWR_STATUS.PMB_ERR = 1 ∧ t.rd PWR_PMB_STATUS.VALID = 1 ∧ t.rd PWR_PMB_STATUS.ADDR = 0x40 + r ∧
        ∀ q : Fin 8, t.rd PWR_RAIL.VOUT q = s.rd PWR_RAIL.VOUT q)) ∧
  (∀ (s : State) (ws : List (BitVec 16)), s.on HPT_STATUS.READY = true →
    ∃ t, exec (.pmbAlert ws) s = .next t ∧ t = { s with saf := { s.saf with raised := t.saf.raised } } ∧
      ((∀ w ∈ ws, statusFault w = false) → t = s) ∧
      (∀ (r : Fin 8) (w : BitVec 16), ws[r.val]? = some w → statusFault w = true →
        ∃ o ∈ t.saf.raised, o.source = if r.val < 2 then 202 + 64 * r else 324)) ∧
  (∀ s : State, s.on HPT_STATUS.READY = true →
    ∃ t mw, exec .lossCompute s = .next t ∧ t.rd PWR_LOSS.MW = min mw 0x1FFFF ∧ MemSame s t ∧
      s.driveLoss ≤ mw * (4000 * 2 ^ 32) + (4000 * 2 ^ 32 - 1) ∧ mw * (4000 * 2 ^ 32) ≤ s.driveLoss + (4000 * 2 ^ 32 - 1) ∧
      (if s.rd PWR_LOSS_CAP.MW < mw then t.rd PWR_STATUS.LOSS_HIGH = 1 ∧ Signalled s t s.active (s.rd PWR_VEC.VECTOR)
      else t.out = s.out ∧ t.rd PWR_STATUS.LOSS_HIGH = s.rd PWR_STATUS.LOSS_HIGH)) ∧
  (∀ (s : State) (die : Fin 2) (key : BitVec 16), s.bar0 die 0xF00008 = .act →
    ∃ t, exec (.arm die key) s = .next t ∧ MemSame s t ∧
      (if key ≠ 0xA5C3 then t.rd PWR_ARM_STATUS.REFUSED = 1 ∧ t.rd PWR_STATUS.CFG_REJECT = 1 ∧ t.pwr = s.pwr
      else if s.on PLN_CTL.ENABLE = false then t.rd PWR_ARM_STATUS.REFUSED = 3 ∧ t.rd PWR_STATUS.CFG_REJECT = 1 ∧ t.pwr = s.pwr
      else if s.on PLN_LIVE.VALID = false then t.rd PWR_ARM_STATUS.REFUSED = 4 ∧ t.rd PWR_STATUS.CFG_REJECT = 1 ∧ t.pwr = s.pwr
      else if s.on PWR_STATUS.VHV_GOOD = false then t.rd PWR_ARM_STATUS.REFUSED = 5 ∧ t.rd PWR_STATUS.CFG_REJECT = 1 ∧ t.pwr = s.pwr
      else t = { s with pwr := { s.pwr with arm := s.pwr.arm ++ [(true, s.now + 4)] } })) ∧
  (∀ (s : State) (die : Fin 2) (key : BitVec 16), s.bar0 die 0xF00008 = .act →
    ∃ t, exec (.disarm die key) s = .next t ∧
      (if key ≠ 0xA5C3 then t.rd PWR_ARM_STATUS.REFUSED = 1 ∧ t.rd PWR_STATUS.CFG_REJECT = 1 ∧ t.pwr = s.pwr
      else t = { s with pwr := { s.pwr with arm := s.pwr.arm ++ [(false, s.now + 4)] } })) ∧
  (∀ (s : State) (on_ : Bool) (f : Nat) (rest : List (Bool × Nat)), s.pwr.arm = (on_, f) :: rest →
    ∃ t, exec .armEffect s = .next t ∧ t.now = max s.now f ∧ t.pwr.arm = rest ∧ MemSame s t ∧ t.out = s.out ∧
      (t.rd PWR_STATUS.ARMED = if on_ = true then 1 else 0) ∧
      (∀ k : Fin 8, on_ = false → t.rd DRV_STATUS.ARMED k = 0) ∧
      (∀ k : Fin 8, on_ = true → s.lostCmd k = false → t.rd DRV_STATUS.ARMED k = 1) ∧
      (∀ k : Fin 8, on_ = true → s.lostCmd k = true → t.rd DRV_STATUS.ARMED k = s.rd DRV_STATUS.ARMED k) ∧
      (∀ e ∈ s.validElems, on_ = false → s.outState (s.elem e).channel = stDrive → t.outState (s.elem e).channel = stRest))

/-- Dusk, the clocks and the reads (R7, R10, R39, R43, R46, R50, R166, R446, R473 to R475, R478). A request sends every channel to
Dusk, keeping its class; Dusk is in force from the first Dusk phase 0 at which every one is there; at its end DUSK and DUSK_REQ
read 0 and no on-demand domain is gated. A gated domain restarts for its work. A longer read is made of aligned words in
ascending order; a doorbell page reads its rings' heads and tails, BAR4 the vectors' words and pending bits; in D3hot only
configuration space answers (assumption 74, the model's choice). Before READY only the HPT block answers a read of BAR0; the
lowest word of a wide value takes the rest into the requester's shadow; a read of DRV_IVHV clears IPEAK, and one of
SEC_DBG_CHAL_W0 draws a nonce. -/
def Obligations.DuskClocksAndReads : Prop :=
  (∀ (s : State) (die : Fin 2), s.bar0 die 0xF00000 = .act →
    (s.duskAsked = true → exec (.duskRequest die) s = .next s) ∧
    (s.duskAsked = false → ∃ t, exec (.duskRequest die) s = .next t ∧ t.rd PWR_CTL.DUSK_REQ = 1 ∧ t.out = s.out ∧
      (∀ a, (∀ ch < 16384, a ≠ ctxAddr (3 * ch) + 58) → t.loadB a = s.loadB a) ∧
      (∀ ch ∈ s.loopChannels, nget t.lpa.duskFrom ch ≠ 0) ∧ (∀ r ∈ t.lpa.resume, r.cls = 3) ∧
      (∀ ch, s.chClass ch ≠ 3 → ch ∈ s.loopChannels → s.chPaused ch = false → ∃ c ∈ t.lpa.changes, c.ch = ch ∧ c.cls = 3))) ∧
  (∀ s : State, s.duskAsked = true → s.dusk = false → s.lpa.changes = [] →
    (∀ ch ∈ s.loopChannels, s.chClass ch = 3 ∧ s.chPaused ch = false) →
    ∃ t, exec .duskEntry s = .next t ∧ t.now = max s.now (phase0 3 s.now) ∧ t.rd PWR_STATUS.DUSK = 1 ∧
      t.rd PWR_CNT_DUSK.COUNT = min (s.rd PWR_CNT_DUSK.COUNT + 1) (2 ^ 32 - 1) ∧ MemSame s t ∧ t.out = s.out) ∧
  (∀ (s : State) (die : Fin 2), s.bar0 die 0xF00000 = .act →
    (s.duskAsked = false → exec (.duskExit die) s = .next s) ∧
    (s.duskAsked = true → ∃ t, exec (.duskExit die) s = .next t ∧ t.rd PWR_STATUS.DUSK = 0 ∧ t.rd PWR_CTL.DUSK_REQ = 0 ∧
      t.rd CAL_STATUS.DUSK_WAIT = 0 ∧ t.lpa.duskFrom = [] ∧ t.out = s.out ∧
      (∀ a, (∀ x ∈ s.lpa.duskFrom, a ≠ ctxAddr (3 * x.1) + 58) → t.loadB a = s.loadB a) ∧
      (∀ d : Fin 2, ∀ dom ∈ onDemand, t.gated d dom = false) ∧ (∀ d : Fin 2, ∀ dom ∈ onDemand, s.gated d dom = true →
        bit (t.rd PWR_CLK_LOCK.LOCK d) dom = true))) ∧
  (∀ (s : State) (die : Fin 2) (dom : Fin 22), s.on PWR_STATUS.DUSK = false → s.gated die dom = true →
    ∃ t, exec (.clockRestart die dom) s = .next t ∧ t.gated die dom = false ∧ bit (t.rd PWR_CLK_LOCK.LOCK die) dom = true ∧
      t.rd PWR_CNT_WAKE.COUNT die = min (s.rd PWR_CNT_WAKE.COUNT die + 1) (2 ^ 32 - 1) ∧ MemSame s t ∧ t.out = s.out ∧
      (∀ b : Fin 22, b ≠ dom → t.gated die b = s.gated die b)) ∧
  (∀ (s u : State) (die : Fin 2) (q : Fin 3) (sp : Space) (addr : Word) (sub : BitVec 22), u = { s with sub := (s.now, sub.toNat % 3276800) } →
    exec (.snapshotRead die q ⟨sp, addr, 0, sub⟩) s = .next u ∧
    (∀ n, addr.toNat + 4 < 2 ^ 32 →
      ∃ t, exec (.snapshotRead die q ⟨sp, addr, 1, sub⟩) s = .next t ∧
        exec (.snapshotRead die q ⟨sp, addr, n + 1, sub⟩) s = exec (.snapshotRead die q ⟨sp, addr + 4, n, sub⟩) t) ∧
    (s.d3hot die = true → sp ≠ .config → exec (.snapshotRead die q ⟨sp, addr, 1, sub⟩) s = .next u) ∧
    (sp = .config → ∃ t, exec (.snapshotRead die q ⟨sp, addr, 1, sub⟩) s = .next t ∧
      t = { u with out := .data die 0 addr.toNat (s.load (cfgBase die + addr.toNat % 0x1000 / 4 * 4) 4) :: s.out }) ∧
    (∀ n o, s.d3hot die = false → sp = .bar2 → n < 64 → addr.toNat = 0x1000 * n + o →
      ((o = 0 → exec (.snapshotRead die q ⟨sp, addr, 1, sub⟩) s =
        .next { u with out := .data die 2 addr.toNat (u.regWord die (0x100C + 0x40 * n)) :: s.out }) ∧
      (o = 4 → exec (.snapshotRead die q ⟨sp, addr, 1, sub⟩) s =
        .next { u with out := .data die 2 addr.toNat (u.regWord die (0x2010 + 0x40 * n)) :: s.out }) ∧
      (o = 8 → exec (.snapshotRead die q ⟨sp, addr, 1, sub⟩) s =
        .next { u with out := .data die 2 addr.toNat (if n < 16 then u.regWord die (0x3010 + 0x40 * n) else 0) :: s.out }) ∧
      (12 ≤ o → o < 0x1000 → exec (.snapshotRead die q ⟨sp, addr, 1, sub⟩) s = .next { u with out := .data die 2 addr.toNat 0 :: s.out }))) ∧
    (∀ v, s.d3hot die = false → sp = .bar4 → v < 256 → addr.toNat = 16 * v + 12 →
      exec (.snapshotRead die q ⟨sp, addr, 1, sub⟩) s = .next { u with out := .data die 4 addr.toNat (s.load (msixBase die + 16 * v + 12) 4) :: s.out }) ∧
    (∀ w, s.d3hot die = false → sp = .bar4 → w < 8 → addr.toNat = 0x8000 + 4 * w →
      ∃ x, exec (.snapshotRead die q ⟨sp, addr, 1, sub⟩) s = .next { u with out := .data die 4 addr.toNat x :: s.out } ∧
        ((∀ b < 32, nget s.hpt.pba (256 * die.val + 32 * w + b) ≤ 1) →
          ∀ b < 32, bit x b = true ↔ nget s.hpt.pba (256 * die.val + 32 * w + b) = 1))) ∧
  (∀ (s u : State) (die : Fin 2) (q : Fin 3) (addr : Word) (sub : BitVec 22) (a : Nat), u = { s with sub := (s.now, sub.toNat % 3276800) } →
    a = addr.toNat % 0x4000000 / 4 * 4 → s.d3hot die = false →
    (s.on HPT_STATUS.READY = false → 0x100000 ≤ a →
      ∃ t, exec (.snapshotRead die q ⟨.bar0, addr, 1, sub⟩) s = .next t ∧ t = { u with out := .reg die a 0 :: s.out }) ∧
    (s.on HPT_STATUS.READY = true →
      (∀ k : Fin 8, a = 0x01000014 + 0x200000 * k →
        ∃ t, exec (.snapshotRead die q ⟨.bar0, addr, 1, sub⟩) s = .next t ∧ t.rd DRV_IVHV.IPEAK k = 0 ∧
          t = { u with regs := t.regs, out := .reg die a (s.rd DRV_IVHV.IPEAK k * 65536 + s.rd DRV_IVHV.IMEAN k) :: s.out } ∧
          ∀ key, key ≠ DRV_IVHV.IPEAK.key k 0 0 → nget t.regs key = nget s.regs key) ∧
      (a = 0xD000B0 →
        ∃ t n, exec (.snapshotRead die q ⟨.bar0, addr, 1, sub⟩) s = .next t ∧ t.sec.nonce = some n ∧ t.out = .reg die a (n % 2 ^ 32) :: s.out ∧
          (∀ i < 3, nget t.hpt.shadow (16 * (3 * die.val + q.val) + i + 1) = bits n (32 * i + 32) 32) ∧ MemSame s t ∧ t.regs = s.regs)) ∧
    (s.on HPT_STATUS.READY = true → (∀ k : Fin 8, a ≠ 0x01000014 + 0x200000 * k) → a ≠ 0xD000B0 →
      (s.wideWord die a = none →
        ∃ t, exec (.snapshotRead die q ⟨.bar0, addr, 1, sub⟩) s = .next t ∧ t = { u with out := .reg die a (u.word die a) :: s.out }) ∧
      (∀ n, s.wideWord die a = some (0, n) →
        ∃ t, exec (.snapshotRead die q ⟨.bar0, addr, 1, sub⟩) s = .next t ∧ t.out = .reg die a (u.word die a) :: s.out ∧
          t = { u with out := t.out, hpt := { s.hpt with shadow := t.hpt.shadow } } ∧
          ∀ w : Nat, 1 ≤ w → w < n → n ≤ 16 → nget t.hpt.shadow (16 * (3 * die + q) + w) = u.word die (a + 4 * w)) ∧
      (∀ w n, s.wideWord die a = some (w + 1, n) →
        ∃ t, exec (.snapshotRead die q ⟨.bar0, addr, 1, sub⟩) s = .next t ∧
          t = { u with out := .reg die a (nget s.hpt.shadow (16 * (3 * die + q) + (w + 1))) :: s.out })))

/-- Each command named here completes with its own effect (R52, R62, R64, R79, R80, R82, R83, R263, R264, R332, R364, R370, R371,
R478). TABLE_DMA of domain 0 moves its words to the host, or the words that arrive into the device; PERST_ASSERT, HOT_RESET,
LINK_DISABLE and DATA_LINK_LOSS leave the endpoint headless with its link down, FUNCTION_LEVEL_RESET and RETURN_FROM_D3HOT
headless with the link up; PERST_RELEASE starts training, which LINK_TRAINED ends; HPT_CTL_ENABLE, SQ_ENABLE, CQ_ENABLE and
TQ_ENABLE set ENABLE; PUBLISH and RETIRE start a program command; SEND, SEND_AND_STAMP and ONE_STEP queue a frame;
SAF_CLR_SOURCE, SAF_CLR_ALL, ECLIPSE_CLEAR_SOURCES and ECLIPSE_CLEAR_ALL clear what they name; INJECT_RECORD and INJECT_REACT
raise an injected occurrence. -/
def Obligations.HostAndBlockCommandsComplete : Prop :=
  (∀ (s : State) (id : Nat) (d : Desc) (data : List DWord), Runs s id opTableDma d → dmaBodyOk d = true → d.dom = 0 →
    (dmaIn d = false → ∃ t, exec (.tableDma id ⟨data, false⟩ none) s = .next t ∧ Answered d stOK (some 0) t ∧
      .host s.active (d.fld 8 8) false (s.dmaBytes (dmaOff d) (dmaLen d / 8)) ∈ t.out ∧ MemSame s t) ∧
    (dmaIn d = true → data.length = dmaLen d / 8 → ∃ t, exec (.tableDma id ⟨data, false⟩ none) s = .next t ∧
      Answered d stOK (some (s.dmaWords (dmaOff d) data).2) t ∧ MemSame (s.dmaWords (dmaOff d) data).1 t)) ∧
  (∀ (s : State) (die : Fin 2),
    (∃ t, exec (.perstAssert die) s = .next t ∧ t.rd HPT_STATUS.HEADLESS die = 1 ∧ t.rd HPT_STATUS.LINK_UP die = 0 ∧
      nget t.pins.perst die = 1) ∧
    (∃ t, exec (.perstRelease die) s = .next t ∧ nget t.pins.perst die = 0 ∧
      nget t.pins.training die = (if s.on HPT_STATUS.LINK_UP die = true then 0 else 1)) ∧
    (∃ t, exec (.hotReset die) s = .next t ∧ t.rd HPT_STATUS.HEADLESS die = 1 ∧ t.rd HPT_STATUS.LINK_UP die = 0 ∧
      nget t.pins.training die = 1) ∧
    (∃ t, exec (.linkDisable die) s = .next t ∧ t.rd HPT_STATUS.HEADLESS die = 1 ∧ t.rd HPT_STATUS.LINK_UP die = 0 ∧
      nget t.pins.training die = 1) ∧
    (∃ t o, exec (.dataLinkLoss die) s = .next t ∧ t.rd HPT_STATUS.HEADLESS die = 1 ∧ t.rd HPT_STATUS.LINK_UP die = 0 ∧
      o ∈ t.saf.raised ∧ o.source = 205 + 64 * die.val) ∧
    (∃ t, exec (.functionLevelReset die) s = .next t ∧ t.rd HPT_STATUS.HEADLESS die = 1 ∧
      t.rd HPT_STATUS.LINK_UP die = s.rd HPT_STATUS.LINK_UP die) ∧
    (∃ t, exec (.returnFromD3hot die) s = .next t ∧ t.rd HPT_STATUS.HEADLESS die = 1 ∧ t.d3hot die = false ∧
      t.rd HPT_STATUS.LINK_UP die = s.rd HPT_STATUS.LINK_UP die)) ∧
  (∀ (s : State) (die : Fin 2) (width : Fin 5) (speed : Fin 6), nget s.pins.training die ≠ 0 → nget s.pins.perst die = 0 →
    2 ≤ s.rd PWR_STATUS.DAWN_STEP → width.val = 1 ∨ width.val = 2 ∨ width.val = 4 → 1 ≤ speed.val →
    ∃ t, exec (.linkTrained die width speed) s = .next t ∧ t.rd HPT_STATUS.LINK_UP die = 1 ∧ nget t.pins.training die = 0 ∧ MemSame s t) ∧
  (∀ (s : State) (die : Fin 2) (v : Bool), s.bar0 die 0x04 = .act →
    ∃ t, exec (.hptCtlEnable die v) s = .next t ∧ t.on HPT_CTL.ENABLE = v ∧ MemSame s t) ∧
  (∀ (s : State) (die : Fin 2) (ring : Fin 64), s.bar0 die (0x1008 + 0x40 * ring) = .act → s.on HPT_SQ_CFG.ENABLE ring = false →
    s.on HPT_CQ_CFG.ENABLE (s.rd HPT_SQ_CFG.CQ ring) = true →
    s.rd HPT_RING_DOMAIN.DOMAIN (s.rd HPT_SQ_CFG.CQ ring) = s.rd HPT_RING_DOMAIN.DOMAIN ring →
    ∃ t, exec (.sqEnable die ring true) s = .next t ∧ t.on HPT_SQ_CFG.ENABLE ring = true ∧ t.rd HPT_SQ_TAIL.TAIL ring = 0 ∧ MemSame s t) ∧
  (∀ (s : State) (die : Fin 2) (ring : Fin 64), s.bar0 die (0x2008 + 0x40 * ring) = .act → s.on HPT_CQ_CFG.ENABLE ring = false →
    ∃ t, exec (.cqEnable die ring true) s = .next t ∧ t.on HPT_CQ_CFG.ENABLE ring = true ∧ t.rd HPT_CQ_SEQ.SEQ ring = 0 ∧ MemSame s t) ∧
  (∀ (s : State) (die : Fin 2) (ring : Fin 16), s.bar0 die (0x3008 + 0x40 * ring) = .act → s.on HPT_TQ_CFG.ENABLE ring = false →
    ∃ t, exec (.tqEnable die ring true) s = .next t ∧ t.on HPT_TQ_CFG.ENABLE ring = true ∧ t.rd HPT_TQ_SEQ.SEQ ring = 0 ∧ MemSame s t) ∧
  (∀ (s : State) (die : Fin 2) (p : Fin 4096), s.bar0 die 0x302000 = .act → s.lpa.cmd = none →
    (∃ t, exec (.publish die p) s = .next t ∧ t.lpa.cmd = some (1, p.val) ∧ t.rd LPA_PROG_STATUS.BUSY = 1 ∧ MemSame s t) ∧
    (∃ t, exec (.retire die p) s = .next t ∧ t.lpa.cmd = some (2, p.val) ∧ t.rd LPA_PROG_STATUS.BUSY = 1 ∧ MemSame s t)) ∧
  (∀ (s : State) (die p : Fin 2) (n : Fin 4) (len : Byte), s.bar0 die (0x700130 + 0x80 * p) = .act → s.txState p n ≠ 1 →
    14 ≤ len.toNat → len.toNat ≤ 240 →
    (∃ t, exec (.send die p n len) s = .next t ∧ t.txState p n = 1 ∧ t.mer.txq = s.mer.txq ++ [⟨p, n, len.toNat, 0⟩] ∧ MemSame s t) ∧
    (∃ t, exec (.sendAndStamp die p n len) s = .next t ∧ t.txState p n = 1 ∧ t.mer.txq = s.mer.txq ++ [⟨p, n, len.toNat, 1⟩] ∧
      MemSame s t) ∧
    (∃ t, exec (.oneStep die p n len) s = .next t ∧ t.txState p n = 1 ∧ t.mer.txq = s.mer.txq ++ [⟨p, n, len.toNat, 2⟩] ∧ MemSame s t)) ∧
  (∀ (s : State) (die : Fin 2) (k : Fin 512), s.bar0 die 0x800010 = .act → k.val < 384 → ((s.latchOf k).isSome = true → s.causeNow k = false) →
    ∃ t, exec (.safClrSource die k) s = .next t ∧ (∀ l ∈ t.saf.latches, l.source ≠ k.val) ∧
      ∀ l ∈ s.saf.latches, l.source ≠ k.val → l ∈ t.saf.latches) ∧
  (∀ (s : State) (die : Fin 2), s.bar0 die 0x800010 = .act → (∀ n < 384, (s.latchOf n).isSome = true → s.causeNow n = false) →
    ∃ t, exec (.safClrAll die) s = .next t ∧ ∀ l ∈ t.saf.latches, 384 ≤ l.source) ∧
  (∀ (s : State) (id : Nat) (d : Desc), Runs s id opEclipseClear d → clearBodyOk d = true → (∀ w ∈ s.saf.clears, w.desc ≠ id) →
    (∀ n < 384, (s.latchOf n).isSome = true → ({ s with now := max s.now (s.frameAt d.acc + 1) } : State).causeNow n = false) →
    (d.fld 8 1 = 0 → ∃ t, exec (.eclipseClearSources id) s = .next t ∧
      ∀ l ∈ t.saf.latches, ¬(d.fld 12 2 ≤ l.source ∧ l.source < d.fld 12 2 + d.fld 10 2 ∧ l.source < 384)) ∧
    (d.fld 8 1 = 1 → ∃ t, exec (.eclipseClearAll id) s = .next t ∧ ∀ l ∈ t.saf.latches, 384 ≤ l.source)) ∧
  (∀ (s : State) (die : Fin 2) (n : Fin 512) (info : BitVec 16), s.bar0 die 0x800014 = .act → s.on SAF_CTL.INJ_EN = true →
    n.val < 384 → faultListed n = true →
    (∃ t, exec (.injectRecord die n info) s = .next t ∧ t.saf.raised = s.saf.raised ++ [⟨n, info.toNat, 0, s.now + 1, 1⟩] ∧ MemSame s t) ∧
    (∃ t, exec (.injectReact die n info) s = .next t ∧ t.saf.raised = s.saf.raised ++ [⟨n, info.toNat, 0, s.now + 1, 2⟩] ∧ MemSame s t))

/-- Every instruction of a loop program completes with its own effect where its guard is on (R244 to R249, R252 to R257): the job
running on the core executes LIS_NOP, LIS_END, LIS_BR, LIS_DONE, LIS_WCAND, the arithmetic, the moves, the logic and the shifts,
LIS_SEL, the compares, LIS_LDI, LIS_LDX, LIS_LDK, LIS_STK and LIS_RDPC, and its registers are afterwards what the instruction
says. V0 reads 0 and P0 reads 1 whatever is written. -/
def Obligations.LoopInstructionsComplete : Prop :=
  ∀ (s : State) (a : LisAt) (w : Nat) (r : Run), LisReady s a r w → (r.pred a.pg != a.pn) = true → r.v.length = 16 → r.p.length = 4 →
  ∀ (sat : Int → Int), (∀ x, sat x = max lisMin (min lisMax x)) →
  (lisOf (.lisNop a) = some (a, w) → ∃ t u, exec (.lisNop a) s = .next t ∧ t.running a.die a.core = some u ∧ u.pc = r.pc + 1 ∧ u.v = r.v) ∧
  (lisOf (.lisEnd a) = some (a, w) → s.now < r.job.s + classPeriod r.job.cls →
    ∃ t, exec (.lisEnd a) s = .next t ∧ t.running a.die a.core = none ∧ ∃ u ∈ t.lpa.ended, u.job = r.job ∧ u.cand = r.cand) ∧
  (∀ off, lisOf (.lisBr a off) = some (a, w) →
    ∃ t u, exec (.lisBr a off) s = .next t ∧ t.running a.die a.core = some u ∧ u.pc = r.pc + off) ∧
  (lisOf (.lisDone a) = some (a, w) → ∃ t u, exec (.lisDone a) s = .next t ∧ t.running a.die a.core = some u ∧ u.done = true) ∧
  (∀ ra, lisOf (.lisWcand a ra) = some (a, w) → s.isProbe (s.ctxProg r.job.ctx) = false →
    ∃ t u, exec (.lisWcand a ra) s = .next t ∧ t.running a.die a.core = some u ∧ u.cand = some (max 0 (min 65535 (r.get ra))).toNat) ∧
  (∀ rd ra rb, lisOf (.lisAdd a rd ra rb) = some (a, w) → ∃ t u, exec (.lisAdd a rd ra rb) s = .next t ∧
    t.running a.die a.core = some u ∧ u.get rd = if rd = 0 then 0 else sat (r.get ra + r.get rb)) ∧
  (∀ rd ra rb, lisOf (.lisSub a rd ra rb) = some (a, w) → ∃ t u, exec (.lisSub a rd ra rb) s = .next t ∧
    t.running a.die a.core = some u ∧ u.get rd = if rd = 0 then 0 else sat (r.get ra - r.get rb)) ∧
  (∀ rd ra imm, lisOf (.lisAddi a rd ra imm) = some (a, w) → ∃ t u, exec (.lisAddi a rd ra imm) s = .next t ∧
    t.running a.die a.core = some u ∧ u.get rd = if rd = 0 then 0 else sat (r.get ra + imm.toInt)) ∧
  (∀ rd imm, lisOf (.lisMovi a rd imm) = some (a, w) → ∃ t u, exec (.lisMovi a rd imm) s = .next t ∧
    t.running a.die a.core = some u ∧ u.get rd = if rd = 0 then 0 else imm.toInt) ∧
  (∀ rd imm, lisOf (.lisMovhi a rd imm) = some (a, w) → ∃ t u, exec (.lisMovhi a rd imm) s = .next t ∧
    t.running a.die a.core = some u ∧ u.get rd = if rd = 0 then 0 else toS 32 (imm.toNat * 65536 + ofS 32 (r.get rd) % 65536)) ∧
  (∀ rd imm, lisOf (.lisMovlo a rd imm) = some (a, w) → ∃ t u, exec (.lisMovlo a rd imm) s = .next t ∧
    t.running a.die a.core = some u ∧
    u.get rd = if rd = 0 then 0 else toS 32 (ofS 32 (r.get rd) - ofS 32 (r.get rd) % 65536 + imm.toNat)) ∧
  (∀ rd ra rb, lisOf (.lisMul a rd ra rb) = some (a, w) → ∃ t u, exec (.lisMul a rd ra rb) s = .next t ∧
    t.running a.die a.core = some u ∧ u.get rd = if rd = 0 then 0 else sat (r.get ra * r.get rb)) ∧
  (∀ rd ra rb sh, lisOf (.lisMulq a rd ra rb sh) = some (a, w) → ∃ t u, exec (.lisMulq a rd ra rb sh) s = .next t ∧
    t.running a.die a.core = some u ∧ u.get rd = if rd = 0 then 0 else sat
      (if sh = 0 then r.get ra * r.get rb else (r.get ra * r.get rb + 2 ^ (sh.val - 1)) / 2 ^ sh.val)) ∧
  (∀ rd ra rb, lisOf (.lisDiv a rd ra rb) = some (a, w) → ∃ t u, exec (.lisDiv a rd ra rb) s = .next t ∧
    t.running a.die a.core = some u ∧ u.get rd = if rd = 0 then 0
      else if r.get rb ≠ 0 then sat ((r.get ra).tdiv (r.get rb))
      else if 0 < r.get ra then lisMax else if r.get ra < 0 then lisMin else 0) ∧
  (∀ rd ra rb, lisOf (.lisMin a rd ra rb) = some (a, w) → ∃ t u, exec (.lisMin a rd ra rb) s = .next t ∧
    t.running a.die a.core = some u ∧ u.get rd = if rd = 0 then 0 else min (r.get ra) (r.get rb)) ∧
  (∀ rd ra rb, lisOf (.lisMax a rd ra rb) = some (a, w) → ∃ t u, exec (.lisMax a rd ra rb) s = .next t ∧
    t.running a.die a.core = some u ∧ u.get rd = if rd = 0 then 0 else max (r.get ra) (r.get rb)) ∧
  (∀ rd ra rb, lisOf (.lisClmp a rd ra rb) = some (a, w) → ∃ t u, exec (.lisClmp a rd ra rb) s = .next t ∧
    t.running a.die a.core = some u ∧ u.get rd = if rd = 0 then 0 else
      min (max (r.get ra) (-min ((r.get rb).natAbs : Int) lisMax)) (min ((r.get rb).natAbs : Int) lisMax)) ∧
  (∀ rd ra, lisOf (.lisAbs a rd ra) = some (a, w) → ∃ t u, exec (.lisAbs a rd ra) s = .next t ∧
    t.running a.die a.core = some u ∧ u.get rd = if rd = 0 then 0 else sat (r.get ra).natAbs) ∧
  (∀ rd ra rb, lisOf (.lisAnd a rd ra rb) = some (a, w) → ∃ t u, exec (.lisAnd a rd ra rb) s = .next t ∧
    t.running a.die a.core = some u ∧ u.get rd = if rd = 0 then 0 else (BitVec.ofInt 32 (r.get ra) &&& BitVec.ofInt 32 (r.get rb)).toInt) ∧
  (∀ rd ra rb, lisOf (.lisOr a rd ra rb) = some (a, w) → ∃ t u, exec (.lisOr a rd ra rb) s = .next t ∧
    t.running a.die a.core = some u ∧ u.get rd = if rd = 0 then 0 else (BitVec.ofInt 32 (r.get ra) ||| BitVec.ofInt 32 (r.get rb)).toInt) ∧
  (∀ rd ra rb, lisOf (.lisXor a rd ra rb) = some (a, w) → ∃ t u, exec (.lisXor a rd ra rb) s = .next t ∧
    t.running a.die a.core = some u ∧ u.get rd = if rd = 0 then 0 else (BitVec.ofInt 32 (r.get ra) ^^^ BitVec.ofInt 32 (r.get rb)).toInt) ∧
  (∀ rd ra sh, lisOf (.lisShl a rd ra sh) = some (a, w) → ∃ t u, exec (.lisShl a rd ra sh) s = .next t ∧
    t.running a.die a.core = some u ∧ u.get rd = if rd = 0 then 0 else sat (r.get ra * 2 ^ sh.val)) ∧
  (∀ rd ra sh rnd, lisOf (.lisAsr a rd ra sh rnd) = some (a, w) → ∃ t u, exec (.lisAsr a rd ra sh rnd) s = .next t ∧
    t.running a.die a.core = some u ∧ u.get rd = if rd = 0 then 0
      else if rnd = true ∧ sh ≠ 0 then (r.get ra + 2 ^ (sh.val - 1)) / 2 ^ sh.val else r.get ra / 2 ^ sh.val) ∧
  (∀ rd ra rb p, lisOf (.lisSel a rd ra rb p) = some (a, w) → ∃ t u, exec (.lisSel a rd ra rb p) s = .next t ∧
    t.running a.die a.core = some u ∧ u.get rd = if rd = 0 then 0 else if r.pred p = true then r.get ra else r.get rb) ∧
  (∀ pd ra rb, lisOf (.lisCmplt a pd ra rb) = some (a, w) → ∃ t u, exec (.lisCmplt a pd ra rb) s = .next t ∧
    t.running a.die a.core = some u ∧ u.pred pd = (pd == 0 || decide (r.get ra < r.get rb))) ∧
  (∀ pd ra rb, lisOf (.lisCmple a pd ra rb) = some (a, w) → ∃ t u, exec (.lisCmple a pd ra rb) s = .next t ∧
    t.running a.die a.core = some u ∧ u.pred pd = (pd == 0 || decide (r.get ra ≤ r.get rb))) ∧
  (∀ pd ra rb, lisOf (.lisCmpeq a pd ra rb) = some (a, w) → ∃ t u, exec (.lisCmpeq a pd ra rb) s = .next t ∧
    t.running a.die a.core = some u ∧ u.pred pd = (pd == 0 || decide (r.get ra = r.get rb))) ∧
  (∀ pd ra b, lisOf (.lisTbit a pd ra b) = some (a, w) → ∃ t u, exec (.lisTbit a pd ra b) s = .next t ∧
    t.running a.die a.core = some u ∧ u.pred pd = (pd == 0 || (BitVec.ofInt 32 (r.get ra)).getLsbD b)) ∧
  (∀ pd ra imm, lisOf (.lisCmplti a pd ra imm) = some (a, w) → ∃ t u, exec (.lisCmplti a pd ra imm) s = .next t ∧
    t.running a.die a.core = some u ∧ u.pred pd = (pd == 0 || decide (r.get ra < imm.toInt))) ∧
  (∀ pd ra imm, lisOf (.lisCmpgti a pd ra imm) = some (a, w) → ∃ t u, exec (.lisCmpgti a pd ra imm) s = .next t ∧
    t.running a.die a.core = some u ∧ u.pred pd = (pd == 0 || decide (imm.toInt < r.get ra))) ∧
  (∀ rd sel idx, lisOf (.lisLdi a rd sel idx) = some (a, w) → ∃ t u, exec (.lisLdi a rd sel idx) s = .next t ∧
    t.running a.die a.core = some u ∧ u.get rd = if rd = 0 then 0 else (s.imgRead r.job sel idx.toNat).getD 0) ∧
  (∀ rd sel ra, lisOf (.lisLdx a rd sel ra) = some (a, w) → ∃ t u, exec (.lisLdx a rd sel ra) s = .next t ∧
    t.running a.die a.core = some u ∧ u.get rd = if rd = 0 then 0 else (s.imgRead r.job sel (r.get ra)).getD 0) ∧
  (∀ rd k, lisOf (.lisLdk a rd k) = some (a, w) → ∃ t u, exec (.lisLdk a rd k) s = .next t ∧
    t.running a.die a.core = some u ∧ u.get rd = if rd = 0 then 0 else toS 32 ((aget r.k k).getD ((r.job.k[k.val]?).getD 0))) ∧
  (∀ ra k, lisOf (.lisStk a ra k) = some (a, w) → ∃ t u, exec (.lisStk a ra k) s = .next t ∧
    t.running a.die a.core = some u ∧ aget u.k k = some (BitVec.ofInt 32 (r.get ra)).toNat) ∧
  (∀ rd n, lisOf (.lisRdpc a rd n) = some (a, w) → ∃ t u, exec (.lisRdpc a rd n) s = .next t ∧
    t.running a.die a.core = some u ∧ (rd = 0 → u.get rd = 0) ∧
    (s.on PMC_ACCESS.RDPC a.die (s.load (progAddr (s.ctxProg r.job.ctx) + 6) 1 % 32) = false → u.get rd = 0))
end

