-- ==== Sys2Proof/Laws/Maps.lean ====
section
/-! SUPPORT. Laws of the sorted lists of Maps.lean: a look-up after an insertion or a removal, and the rising keys that
every operation keeps. -/
namespace Sys2Proof

variable {β : Type}

/-- Every key of a list lies above a bound. -/
def keysAbove (b : Nat) (m : List (Nat × β)) : Prop := ∀ c ∈ m, b < c.1

theorem rising_cons (a : Nat) (v : β) (m : List (Nat × β)) :
    risingKeys ((a, v) :: m) = true ↔ keysAbove a m ∧ risingKeys m = true := by
  induction m generalizing a v with
  | nil => simp [risingKeys, keysAbove]
  | cons c t ih =>
    obtain ⟨b, w⟩ := c
    simp only [risingKeys, Bool.and_eq_true, decide_eq_true_eq, keysAbove, List.mem_cons, forall_eq_or_imp]
    constructor
    · rintro ⟨h, h2⟩
      exact ⟨⟨h, fun c hc => Nat.lt_trans h (((ih b w).mp h2).1 c hc)⟩, h2⟩
    · exact fun ⟨⟨h, _⟩, h2⟩ => ⟨h, h2⟩

@[simp] theorem aget_nil (k : Nat) : aget ([] : List (Nat × β)) k = none := rfl

theorem aget_cons (a : Nat) (v : β) (m : List (Nat × β)) (k : Nat) :
    aget ((a, v) :: m) k = if a = k then some v else aget m k := rfl

theorem adel_cons (a : Nat) (v : β) (m : List (Nat × β)) (k : Nat) :
    adel ((a, v) :: m) k = if a = k then adel m k else (a, v) :: adel m k := rfl

theorem ains_cons (a : Nat) (w : β) (m : List (Nat × β)) (k : Nat) (v : β) :
    ains ((a, w) :: m) k v = if k < a then (k, v) :: (a, w) :: m else (a, w) :: ains m k v := rfl

theorem adel_eq_filter (m : List (Nat × β)) (k : Nat) : adel m k = m.filter fun c => !(c.1 == k) := by
  induction m with
  | nil => rfl
  | cons c t ih =>
    obtain ⟨a, v⟩ := c
    by_cases h : a = k <;> simp [adel_cons, h, ih]

theorem aget_adel_same (m : List (Nat × β)) (k : Nat) : aget (adel m k) k = none := by
  induction m with
  | nil => rfl
  | cons c t ih =>
    obtain ⟨a, v⟩ := c
    by_cases h : a = k <;> simp [adel_cons, aget_cons, h, ih]

theorem aget_adel_other (m : List (Nat × β)) {j k : Nat} (h : j ≠ k) : aget (adel m k) j = aget m j := by
  induction m with
  | nil => rfl
  | cons c t ih =>
    obtain ⟨a, v⟩ := c
    by_cases hk : a = k
    · have : a ≠ j := by omega
      simp [adel_cons, hk, ih, aget_cons, show k ≠ j from fun e => h e.symm]
    · simp [adel_cons, hk, aget_cons, ih]

theorem aget_ains_same (m : List (Nat × β)) (k : Nat) (v : β) (h : aget m k = none) : aget (ains m k v) k = some v := by
  induction m with
  | nil => simp [ains, aget_cons]
  | cons c t ih =>
    obtain ⟨a, w⟩ := c
    rw [aget_cons] at h
    split at h
    · cases h
    · rename_i hk
      by_cases hl : k < a <;> simp [ains_cons, hl, aget_cons, hk, ih h]

theorem aget_ains_other (m : List (Nat × β)) {j k : Nat} (v : β) (h : j ≠ k) : aget (ains m k v) j = aget m j := by
  induction m with
  | nil => simp [ains, aget_cons, show k ≠ j from fun e => h e.symm]
  | cons c t ih =>
    obtain ⟨a, w⟩ := c
    by_cases hl : k < a
    · simp [ains_cons, hl, aget_cons, show k ≠ j from fun e => h e.symm]
    · simp [ains_cons, hl, aget_cons, ih]

variable [DecidableEq β]

/-- A look-up after an insertion at the same key. -/
theorem aget_aset_same (d : β) (m : List (Nat × β)) (k : Nat) (v : β) : (aget (aset d m k v) k).getD d = v := by
  unfold aset
  split
  · rename_i h; simp [aget_adel_same, h]
  · simp [aget_ains_same _ _ _ (aget_adel_same m k)]

/-- A look-up after an insertion at another key. -/
theorem aget_aset_other (d : β) (m : List (Nat × β)) {j k : Nat} (v : β) (h : j ≠ k) :
    aget (aset d m k v) j = aget m j := by
  unfold aset
  split
  · exact aget_adel_other m h
  · rw [aget_ains_other _ _ h, aget_adel_other m h]

@[simp] theorem nget_nset_same (m : List (Nat × Nat)) (k v : Nat) : nget (nset m k v) k = v := aget_aset_same 0 m k v

theorem nget_nset_other (m : List (Nat × Nat)) {j k : Nat} (v : Nat) (h : j ≠ k) : nget (nset m k v) j = nget m j := by
  simp [nget, nset, aget_aset_other 0 m v h]

theorem nget_nset (m : List (Nat × Nat)) (j k v : Nat) : nget (nset m k v) j = if j = k then v else nget m j := by
  split
  · rename_i h; subst h; simp
  · rename_i h; exact nget_nset_other m v h

omit [DecidableEq β] in
theorem rising_filter (m : List (Nat × β)) (p : Nat × β → Bool) (h : risingKeys m = true) : risingKeys (m.filter p) = true := by
  induction m with
  | nil => rfl
  | cons c t ih =>
    obtain ⟨a, v⟩ := c
    rw [rising_cons] at h
    rw [List.filter_cons]
    split
    · rw [rising_cons]
      exact ⟨fun c hc => h.1 c (List.mem_of_mem_filter hc), ih h.2⟩
    · exact ih h.2

omit [DecidableEq β] in
theorem mem_ains (m : List (Nat × β)) (k : Nat) (v : β) (c : Nat × β) : c ∈ ains m k v ↔ c = (k, v) ∨ c ∈ m := by
  induction m with
  | nil => simp [ains]
  | cons b t ih =>
    obtain ⟨a, w⟩ := b
    by_cases hl : k < a
    · simp [ains_cons, hl]
    · simp [ains_cons, hl, ih]; tauto

omit [DecidableEq β] in
theorem rising_ains (m : List (Nat × β)) (k : Nat) (v : β) (h : risingKeys m = true) (hk : ∀ c ∈ m, c.1 ≠ k) :
    risingKeys (ains m k v) = true := by
  induction m with
  | nil => rfl
  | cons b t ih =>
    obtain ⟨a, w⟩ := b
    have h' := (rising_cons a w t).mp h
    have ha : a ≠ k := hk (a, w) (by simp)
    by_cases hl : k < a
    · simp only [ains_cons, hl, if_true]
      rw [rising_cons]
      refine ⟨fun c hc => ?_, h⟩
      rcases List.mem_cons.mp hc with rfl | hc
      · exact hl
      · exact Nat.lt_trans hl (h'.1 c hc)
    · simp only [ains_cons, hl, if_false]
      rw [rising_cons]
      refine ⟨fun c hc => ?_, ih h'.2 fun c hc => hk c (by simp [hc])⟩
      rcases (mem_ains t k v c).mp hc with rfl | hc
      · show a < k; omega
      · exact h'.1 c hc

/-- An insertion keeps the canonical form: rising keys, and a test on every entry that the inserted value passes. -/
theorem aset_canonical (d : β) (m : List (Nat × β)) (k : Nat) (v : β) (p : Nat × β → Bool)
    (h : (risingKeys m && m.all p) = true) (hv : v ≠ d → p (k, v) = true) :
    (risingKeys (aset d m k v) && (aset d m k v).all p) = true := by
  simp only [Bool.and_eq_true, List.all_eq_true] at h ⊢
  have hr : risingKeys (adel m k) = true := by rw [adel_eq_filter]; exact rising_filter m _ h.1
  have hp : ∀ c ∈ adel m k, p c = true ∧ c.1 ≠ k := by
    rw [adel_eq_filter]
    intro c hc
    simp only [List.mem_filter] at hc
    exact ⟨h.2 c hc.1, by simpa using hc.2⟩
  unfold aset
  split
  · exact ⟨hr, fun c hc => (hp c hc).1⟩
  · rename_i hd
    refine ⟨rising_ains _ k v hr fun c hc => (hp c hc).2, fun c hc => ?_⟩
    rcases (mem_ains _ k v c).mp hc with rfl | hc
    · exact hv hd
    · exact (hp c hc).1

omit [DecidableEq β] in
/-- Taking entries out keeps the canonical form. -/
theorem filter_canonical (m : List (Nat × β)) (p q : Nat × β → Bool) (h : (risingKeys m && m.all p) = true) :
    (risingKeys (m.filter q) && (m.filter q).all p) = true := by
  simp only [Bool.and_eq_true, List.all_eq_true] at h ⊢
  exact ⟨rising_filter m q h.1, fun c hc => h.2 c (List.mem_of_mem_filter hc)⟩

end Sys2Proof
end

