-- ==== Sys2Proof/Laws/State.lean ====
section
/-! SUPPORT. What the updates of the state leave as it was, field by field, and what a register field and a byte read as
after a write. -/
namespace Sys2Proof.Machine

@[simp] theorem wr_pending (s : State) (f : Fld) (v i j k : Nat) : (s.wr f v i j k).pending = s.pending := rfl
@[simp] theorem wr_now (s : State) (f : Fld) (v i j k : Nat) : (s.wr f v i j k).now = s.now := rfl
@[simp] theorem wr_mem (s : State) (f : Fld) (v i j k : Nat) : (s.wr f v i j k).mem = s.mem := rfl
@[simp] theorem wr_held (s : State) (f : Fld) (v i j k : Nat) : (s.wr f v i j k).held = s.held := rfl
@[simp] theorem wr_hpt (s : State) (f : Fld) (v i j k : Nat) : (s.wr f v i j k).hpt = s.hpt := rfl
@[simp] theorem wr_pln (s : State) (f : Fld) (v i j k : Nat) : (s.wr f v i j k).pln = s.pln := rfl
@[simp] theorem wr_orb (s : State) (f : Fld) (v i j k : Nat) : (s.wr f v i j k).orb = s.orb := rfl
@[simp] theorem wr_drv (s : State) (f : Fld) (v i j k : Nat) : (s.wr f v i j k).drv = s.drv := rfl
@[simp] theorem wr_mon (s : State) (f : Fld) (v i j k : Nat) : (s.wr f v i j k).mon = s.mon := rfl
@[simp] theorem wr_samples (s : State) (f : Fld) (v i j k : Nat) : (s.wr f v i j k).samples = s.samples := rfl
@[simp] theorem wr_ton (s : State) (f : Fld) (v i j k : Nat) : (s.wr f v i j k).ton = s.ton := rfl
@[simp] theorem wr_lpa (s : State) (f : Fld) (v i j k : Nat) : (s.wr f v i j k).lpa = s.lpa := rfl
@[simp] theorem wr_pmc (s : State) (f : Fld) (v i j k : Nat) : (s.wr f v i j k).pmc = s.pmc := rfl
@[simp] theorem wr_prf (s : State) (f : Fld) (v i j k : Nat) : (s.wr f v i j k).prf = s.prf := rfl
@[simp] theorem wr_cal (s : State) (f : Fld) (v i j k : Nat) : (s.wr f v i j k).cal = s.cal := rfl
@[simp] theorem wr_flash (s : State) (f : Fld) (v i j k : Nat) : (s.wr f v i j k).flash = s.flash := rfl
@[simp] theorem wr_mer (s : State) (f : Fld) (v i j k : Nat) : (s.wr f v i j k).mer = s.mer := rfl
@[simp] theorem wr_sec (s : State) (f : Fld) (v i j k : Nat) : (s.wr f v i j k).sec = s.sec := rfl
@[simp] theorem wr_saf (s : State) (f : Fld) (v i j k : Nat) : (s.wr f v i j k).saf = s.saf := rfl
@[simp] theorem wr_lks (s : State) (f : Fld) (v i j k : Nat) : (s.wr f v i j k).lks = s.lks := rfl
@[simp] theorem wr_sub (s : State) (f : Fld) (v i j k : Nat) : (s.wr f v i j k).sub = s.sub := rfl
@[simp] theorem wr_mig (s : State) (f : Fld) (v i j k : Nat) : (s.wr f v i j k).mig = s.mig := rfl
@[simp] theorem wr_sgf (s : State) (f : Fld) (v i j k : Nat) : (s.wr f v i j k).sgf = s.sgf := rfl
@[simp] theorem wr_bmx (s : State) (f : Fld) (v i j k : Nat) : (s.wr f v i j k).bmx = s.bmx := rfl
@[simp] theorem wr_pwr (s : State) (f : Fld) (v i j k : Nat) : (s.wr f v i j k).pwr = s.pwr := rfl
@[simp] theorem wr_pins (s : State) (f : Fld) (v i j k : Nat) : (s.wr f v i j k).pins = s.pins := rfl
@[simp] theorem wr_out (s : State) (f : Fld) (v i j k : Nat) : (s.wr f v i j k).out = s.out := rfl
@[simp] theorem wr_free (s : State) (f : Fld) (v i j k : Nat) : (s.wr f v i j k).free = s.free := rfl
@[simp] theorem wr_marks (s : State) (f : Fld) (v i j k : Nat) : (s.wr f v i j k).marks = s.marks := rfl

@[simp] theorem bump_pending (s : State) (f : Fld) (n i j k : Nat) : (s.bump f n i j k).pending = s.pending := rfl
@[simp] theorem bump_now (s : State) (f : Fld) (n i j k : Nat) : (s.bump f n i j k).now = s.now := rfl
@[simp] theorem bump_mem (s : State) (f : Fld) (n i j k : Nat) : (s.bump f n i j k).mem = s.mem := rfl
@[simp] theorem bump_held (s : State) (f : Fld) (n i j k : Nat) : (s.bump f n i j k).held = s.held := rfl
@[simp] theorem bump_hpt (s : State) (f : Fld) (n i j k : Nat) : (s.bump f n i j k).hpt = s.hpt := rfl
@[simp] theorem bump_pln (s : State) (f : Fld) (n i j k : Nat) : (s.bump f n i j k).pln = s.pln := rfl
@[simp] theorem bump_orb (s : State) (f : Fld) (n i j k : Nat) : (s.bump f n i j k).orb = s.orb := rfl
@[simp] theorem bump_drv (s : State) (f : Fld) (n i j k : Nat) : (s.bump f n i j k).drv = s.drv := rfl
@[simp] theorem bump_mon (s : State) (f : Fld) (n i j k : Nat) : (s.bump f n i j k).mon = s.mon := rfl
@[simp] theorem bump_samples (s : State) (f : Fld) (n i j k : Nat) : (s.bump f n i j k).samples = s.samples := rfl
@[simp] theorem bump_ton (s : State) (f : Fld) (n i j k : Nat) : (s.bump f n i j k).ton = s.ton := rfl
@[simp] theorem bump_lpa (s : State) (f : Fld) (n i j k : Nat) : (s.bump f n i j k).lpa = s.lpa := rfl
@[simp] theorem bump_pmc (s : State) (f : Fld) (n i j k : Nat) : (s.bump f n i j k).pmc = s.pmc := rfl
@[simp] theorem bump_prf (s : State) (f : Fld) (n i j k : Nat) : (s.bump f n i j k).prf = s.prf := rfl
@[simp] theorem bump_cal (s : State) (f : Fld) (n i j k : Nat) : (s.bump f n i j k).cal = s.cal := rfl
@[simp] theorem bump_flash (s : State) (f : Fld) (n i j k : Nat) : (s.bump f n i j k).flash = s.flash := rfl
@[simp] theorem bump_mer (s : State) (f : Fld) (n i j k : Nat) : (s.bump f n i j k).mer = s.mer := rfl
@[simp] theorem bump_sec (s : State) (f : Fld) (n i j k : Nat) : (s.bump f n i j k).sec = s.sec := rfl
@[simp] theorem bump_saf (s : State) (f : Fld) (n i j k : Nat) : (s.bump f n i j k).saf = s.saf := rfl
@[simp] theorem bump_lks (s : State) (f : Fld) (n i j k : Nat) : (s.bump f n i j k).lks = s.lks := rfl
@[simp] theorem bump_sub (s : State) (f : Fld) (n i j k : Nat) : (s.bump f n i j k).sub = s.sub := rfl
@[simp] theorem bump_mig (s : State) (f : Fld) (n i j k : Nat) : (s.bump f n i j k).mig = s.mig := rfl
@[simp] theorem bump_sgf (s : State) (f : Fld) (n i j k : Nat) : (s.bump f n i j k).sgf = s.sgf := rfl
@[simp] theorem bump_bmx (s : State) (f : Fld) (n i j k : Nat) : (s.bump f n i j k).bmx = s.bmx := rfl
@[simp] theorem bump_pwr (s : State) (f : Fld) (n i j k : Nat) : (s.bump f n i j k).pwr = s.pwr := rfl
@[simp] theorem bump_pins (s : State) (f : Fld) (n i j k : Nat) : (s.bump f n i j k).pins = s.pins := rfl
@[simp] theorem bump_out (s : State) (f : Fld) (n i j k : Nat) : (s.bump f n i j k).out = s.out := rfl
@[simp] theorem bump_free (s : State) (f : Fld) (n i j k : Nat) : (s.bump f n i j k).free = s.free := rfl
@[simp] theorem bump_marks (s : State) (f : Fld) (n i j k : Nat) : (s.bump f n i j k).marks = s.marks := rfl

@[simp] theorem lower_pending (s : State) (f : Fld) (n i j k : Nat) : (s.lower f n i j k).pending = s.pending := rfl
@[simp] theorem lower_now (s : State) (f : Fld) (n i j k : Nat) : (s.lower f n i j k).now = s.now := rfl
@[simp] theorem lower_mem (s : State) (f : Fld) (n i j k : Nat) : (s.lower f n i j k).mem = s.mem := rfl
@[simp] theorem lower_held (s : State) (f : Fld) (n i j k : Nat) : (s.lower f n i j k).held = s.held := rfl
@[simp] theorem lower_hpt (s : State) (f : Fld) (n i j k : Nat) : (s.lower f n i j k).hpt = s.hpt := rfl
@[simp] theorem lower_pln (s : State) (f : Fld) (n i j k : Nat) : (s.lower f n i j k).pln = s.pln := rfl
@[simp] theorem lower_orb (s : State) (f : Fld) (n i j k : Nat) : (s.lower f n i j k).orb = s.orb := rfl
@[simp] theorem lower_drv (s : State) (f : Fld) (n i j k : Nat) : (s.lower f n i j k).drv = s.drv := rfl
@[simp] theorem lower_mon (s : State) (f : Fld) (n i j k : Nat) : (s.lower f n i j k).mon = s.mon := rfl
@[simp] theorem lower_samples (s : State) (f : Fld) (n i j k : Nat) : (s.lower f n i j k).samples = s.samples := rfl
@[simp] theorem lower_ton (s : State) (f : Fld) (n i j k : Nat) : (s.lower f n i j k).ton = s.ton := rfl
@[simp] theorem lower_lpa (s : State) (f : Fld) (n i j k : Nat) : (s.lower f n i j k).lpa = s.lpa := rfl
@[simp] theorem lower_pmc (s : State) (f : Fld) (n i j k : Nat) : (s.lower f n i j k).pmc = s.pmc := rfl
@[simp] theorem lower_prf (s : State) (f : Fld) (n i j k : Nat) : (s.lower f n i j k).prf = s.prf := rfl
@[simp] theorem lower_cal (s : State) (f : Fld) (n i j k : Nat) : (s.lower f n i j k).cal = s.cal := rfl
@[simp] theorem lower_flash (s : State) (f : Fld) (n i j k : Nat) : (s.lower f n i j k).flash = s.flash := rfl
@[simp] theorem lower_mer (s : State) (f : Fld) (n i j k : Nat) : (s.lower f n i j k).mer = s.mer := rfl
@[simp] theorem lower_sec (s : State) (f : Fld) (n i j k : Nat) : (s.lower f n i j k).sec = s.sec := rfl
@[simp] theorem lower_saf (s : State) (f : Fld) (n i j k : Nat) : (s.lower f n i j k).saf = s.saf := rfl
@[simp] theorem lower_lks (s : State) (f : Fld) (n i j k : Nat) : (s.lower f n i j k).lks = s.lks := rfl
@[simp] theorem lower_sub (s : State) (f : Fld) (n i j k : Nat) : (s.lower f n i j k).sub = s.sub := rfl
@[simp] theorem lower_mig (s : State) (f : Fld) (n i j k : Nat) : (s.lower f n i j k).mig = s.mig := rfl
@[simp] theorem lower_sgf (s : State) (f : Fld) (n i j k : Nat) : (s.lower f n i j k).sgf = s.sgf := rfl
@[simp] theorem lower_bmx (s : State) (f : Fld) (n i j k : Nat) : (s.lower f n i j k).bmx = s.bmx := rfl
@[simp] theorem lower_pwr (s : State) (f : Fld) (n i j k : Nat) : (s.lower f n i j k).pwr = s.pwr := rfl
@[simp] theorem lower_pins (s : State) (f : Fld) (n i j k : Nat) : (s.lower f n i j k).pins = s.pins := rfl
@[simp] theorem lower_out (s : State) (f : Fld) (n i j k : Nat) : (s.lower f n i j k).out = s.out := rfl
@[simp] theorem lower_free (s : State) (f : Fld) (n i j k : Nat) : (s.lower f n i j k).free = s.free := rfl
@[simp] theorem lower_marks (s : State) (f : Fld) (n i j k : Nat) : (s.lower f n i j k).marks = s.marks := rfl

@[simp] theorem chWr_pending (s : State) (f : Fld) (v c : Nat) : (s.chWr f v c).pending = s.pending := rfl
@[simp] theorem chWr_now (s : State) (f : Fld) (v c : Nat) : (s.chWr f v c).now = s.now := rfl
@[simp] theorem chWr_mem (s : State) (f : Fld) (v c : Nat) : (s.chWr f v c).mem = s.mem := rfl
@[simp] theorem chWr_held (s : State) (f : Fld) (v c : Nat) : (s.chWr f v c).held = s.held := rfl
@[simp] theorem chWr_hpt (s : State) (f : Fld) (v c : Nat) : (s.chWr f v c).hpt = s.hpt := rfl
@[simp] theorem chWr_pln (s : State) (f : Fld) (v c : Nat) : (s.chWr f v c).pln = s.pln := rfl
@[simp] theorem chWr_orb (s : State) (f : Fld) (v c : Nat) : (s.chWr f v c).orb = s.orb := rfl
@[simp] theorem chWr_drv (s : State) (f : Fld) (v c : Nat) : (s.chWr f v c).drv = s.drv := rfl
@[simp] theorem chWr_mon (s : State) (f : Fld) (v c : Nat) : (s.chWr f v c).mon = s.mon := rfl
@[simp] theorem chWr_samples (s : State) (f : Fld) (v c : Nat) : (s.chWr f v c).samples = s.samples := rfl
@[simp] theorem chWr_ton (s : State) (f : Fld) (v c : Nat) : (s.chWr f v c).ton = s.ton := rfl
@[simp] theorem chWr_lpa (s : State) (f : Fld) (v c : Nat) : (s.chWr f v c).lpa = s.lpa := rfl
@[simp] theorem chWr_pmc (s : State) (f : Fld) (v c : Nat) : (s.chWr f v c).pmc = s.pmc := rfl
@[simp] theorem chWr_prf (s : State) (f : Fld) (v c : Nat) : (s.chWr f v c).prf = s.prf := rfl
@[simp] theorem chWr_cal (s : State) (f : Fld) (v c : Nat) : (s.chWr f v c).cal = s.cal := rfl
@[simp] theorem chWr_flash (s : State) (f : Fld) (v c : Nat) : (s.chWr f v c).flash = s.flash := rfl
@[simp] theorem chWr_mer (s : State) (f : Fld) (v c : Nat) : (s.chWr f v c).mer = s.mer := rfl
@[simp] theorem chWr_sec (s : State) (f : Fld) (v c : Nat) : (s.chWr f v c).sec = s.sec := rfl
@[simp] theorem chWr_saf (s : State) (f : Fld) (v c : Nat) : (s.chWr f v c).saf = s.saf := rfl
@[simp] theorem chWr_lks (s : State) (f : Fld) (v c : Nat) : (s.chWr f v c).lks = s.lks := rfl
@[simp] theorem chWr_sub (s : State) (f : Fld) (v c : Nat) : (s.chWr f v c).sub = s.sub := rfl
@[simp] theorem chWr_mig (s : State) (f : Fld) (v c : Nat) : (s.chWr f v c).mig = s.mig := rfl
@[simp] theorem chWr_sgf (s : State) (f : Fld) (v c : Nat) : (s.chWr f v c).sgf = s.sgf := rfl
@[simp] theorem chWr_bmx (s : State) (f : Fld) (v c : Nat) : (s.chWr f v c).bmx = s.bmx := rfl
@[simp] theorem chWr_pwr (s : State) (f : Fld) (v c : Nat) : (s.chWr f v c).pwr = s.pwr := rfl
@[simp] theorem chWr_pins (s : State) (f : Fld) (v c : Nat) : (s.chWr f v c).pins = s.pins := rfl
@[simp] theorem chWr_out (s : State) (f : Fld) (v c : Nat) : (s.chWr f v c).out = s.out := rfl
@[simp] theorem chWr_free (s : State) (f : Fld) (v c : Nat) : (s.chWr f v c).free = s.free := rfl
@[simp] theorem chWr_marks (s : State) (f : Fld) (v c : Nat) : (s.chWr f v c).marks = s.marks := rfl

@[simp] theorem mWr_pending (s : State) (f : Fld) (v m : Nat) : (s.mWr f v m).pending = s.pending := rfl
@[simp] theorem mWr_now (s : State) (f : Fld) (v m : Nat) : (s.mWr f v m).now = s.now := rfl
@[simp] theorem mWr_mem (s : State) (f : Fld) (v m : Nat) : (s.mWr f v m).mem = s.mem := rfl
@[simp] theorem mWr_held (s : State) (f : Fld) (v m : Nat) : (s.mWr f v m).held = s.held := rfl
@[simp] theorem mWr_hpt (s : State) (f : Fld) (v m : Nat) : (s.mWr f v m).hpt = s.hpt := rfl
@[simp] theorem mWr_pln (s : State) (f : Fld) (v m : Nat) : (s.mWr f v m).pln = s.pln := rfl
@[simp] theorem mWr_orb (s : State) (f : Fld) (v m : Nat) : (s.mWr f v m).orb = s.orb := rfl
@[simp] theorem mWr_drv (s : State) (f : Fld) (v m : Nat) : (s.mWr f v m).drv = s.drv := rfl
@[simp] theorem mWr_mon (s : State) (f : Fld) (v m : Nat) : (s.mWr f v m).mon = s.mon := rfl
@[simp] theorem mWr_samples (s : State) (f : Fld) (v m : Nat) : (s.mWr f v m).samples = s.samples := rfl
@[simp] theorem mWr_ton (s : State) (f : Fld) (v m : Nat) : (s.mWr f v m).ton = s.ton := rfl
@[simp] theorem mWr_lpa (s : State) (f : Fld) (v m : Nat) : (s.mWr f v m).lpa = s.lpa := rfl
@[simp] theorem mWr_pmc (s : State) (f : Fld) (v m : Nat) : (s.mWr f v m).pmc = s.pmc := rfl
@[simp] theorem mWr_prf (s : State) (f : Fld) (v m : Nat) : (s.mWr f v m).prf = s.prf := rfl
@[simp] theorem mWr_cal (s : State) (f : Fld) (v m : Nat) : (s.mWr f v m).cal = s.cal := rfl
@[simp] theorem mWr_flash (s : State) (f : Fld) (v m : Nat) : (s.mWr f v m).flash = s.flash := rfl
@[simp] theorem mWr_mer (s : State) (f : Fld) (v m : Nat) : (s.mWr f v m).mer = s.mer := rfl
@[simp] theorem mWr_sec (s : State) (f : Fld) (v m : Nat) : (s.mWr f v m).sec = s.sec := rfl
@[simp] theorem mWr_saf (s : State) (f : Fld) (v m : Nat) : (s.mWr f v m).saf = s.saf := rfl
@[simp] theorem mWr_lks (s : State) (f : Fld) (v m : Nat) : (s.mWr f v m).lks = s.lks := rfl
@[simp] theorem mWr_sub (s : State) (f : Fld) (v m : Nat) : (s.mWr f v m).sub = s.sub := rfl
@[simp] theorem mWr_mig (s : State) (f : Fld) (v m : Nat) : (s.mWr f v m).mig = s.mig := rfl
@[simp] theorem mWr_sgf (s : State) (f : Fld) (v m : Nat) : (s.mWr f v m).sgf = s.sgf := rfl
@[simp] theorem mWr_bmx (s : State) (f : Fld) (v m : Nat) : (s.mWr f v m).bmx = s.bmx := rfl
@[simp] theorem mWr_pwr (s : State) (f : Fld) (v m : Nat) : (s.mWr f v m).pwr = s.pwr := rfl
@[simp] theorem mWr_pins (s : State) (f : Fld) (v m : Nat) : (s.mWr f v m).pins = s.pins := rfl
@[simp] theorem mWr_out (s : State) (f : Fld) (v m : Nat) : (s.mWr f v m).out = s.out := rfl
@[simp] theorem mWr_free (s : State) (f : Fld) (v m : Nat) : (s.mWr f v m).free = s.free := rfl
@[simp] theorem mWr_marks (s : State) (f : Fld) (v m : Nat) : (s.mWr f v m).marks = s.marks := rfl

@[simp] theorem wrF_pending (s : State) (f : Fld) (v i j k : Nat) : (s.wrF f v i j k).pending = s.pending := rfl
@[simp] theorem wrF_now (s : State) (f : Fld) (v i j k : Nat) : (s.wrF f v i j k).now = s.now := rfl
@[simp] theorem wrF_mem (s : State) (f : Fld) (v i j k : Nat) : (s.wrF f v i j k).mem = s.mem := rfl
@[simp] theorem wrF_hpt (s : State) (f : Fld) (v i j k : Nat) : (s.wrF f v i j k).hpt = s.hpt := rfl
@[simp] theorem wrF_pln (s : State) (f : Fld) (v i j k : Nat) : (s.wrF f v i j k).pln = s.pln := rfl
@[simp] theorem wrF_orb (s : State) (f : Fld) (v i j k : Nat) : (s.wrF f v i j k).orb = s.orb := rfl
@[simp] theorem wrF_drv (s : State) (f : Fld) (v i j k : Nat) : (s.wrF f v i j k).drv = s.drv := rfl
@[simp] theorem wrF_mon (s : State) (f : Fld) (v i j k : Nat) : (s.wrF f v i j k).mon = s.mon := rfl
@[simp] theorem wrF_samples (s : State) (f : Fld) (v i j k : Nat) : (s.wrF f v i j k).samples = s.samples := rfl
@[simp] theorem wrF_ton (s : State) (f : Fld) (v i j k : Nat) : (s.wrF f v i j k).ton = s.ton := rfl
@[simp] theorem wrF_lpa (s : State) (f : Fld) (v i j k : Nat) : (s.wrF f v i j k).lpa = s.lpa := rfl
@[simp] theorem wrF_pmc (s : State) (f : Fld) (v i j k : Nat) : (s.wrF f v i j k).pmc = s.pmc := rfl
@[simp] theorem wrF_prf (s : State) (f : Fld) (v i j k : Nat) : (s.wrF f v i j k).prf = s.prf := rfl
@[simp] theorem wrF_cal (s : State) (f : Fld) (v i j k : Nat) : (s.wrF f v i j k).cal = s.cal := rfl
@[simp] theorem wrF_flash (s : State) (f : Fld) (v i j k : Nat) : (s.wrF f v i j k).flash = s.flash := rfl
@[simp] theorem wrF_mer (s : State) (f : Fld) (v i j k : Nat) : (s.wrF f v i j k).mer = s.mer := rfl
@[simp] theorem wrF_sec (s : State) (f : Fld) (v i j k : Nat) : (s.wrF f v i j k).sec = s.sec := rfl
@[simp] theorem wrF_saf (s : State) (f : Fld) (v i j k : Nat) : (s.wrF f v i j k).saf = s.saf := rfl
@[simp] theorem wrF_lks (s : State) (f : Fld) (v i j k : Nat) : (s.wrF f v i j k).lks = s.lks := rfl
@[simp] theorem wrF_sub (s : State) (f : Fld) (v i j k : Nat) : (s.wrF f v i j k).sub = s.sub := rfl
@[simp] theorem wrF_mig (s : State) (f : Fld) (v i j k : Nat) : (s.wrF f v i j k).mig = s.mig := rfl
@[simp] theorem wrF_sgf (s : State) (f : Fld) (v i j k : Nat) : (s.wrF f v i j k).sgf = s.sgf := rfl
@[simp] theorem wrF_bmx (s : State) (f : Fld) (v i j k : Nat) : (s.wrF f v i j k).bmx = s.bmx := rfl
@[simp] theorem wrF_pwr (s : State) (f : Fld) (v i j k : Nat) : (s.wrF f v i j k).pwr = s.pwr := rfl
@[simp] theorem wrF_pins (s : State) (f : Fld) (v i j k : Nat) : (s.wrF f v i j k).pins = s.pins := rfl
@[simp] theorem wrF_out (s : State) (f : Fld) (v i j k : Nat) : (s.wrF f v i j k).out = s.out := rfl
@[simp] theorem wrF_free (s : State) (f : Fld) (v i j k : Nat) : (s.wrF f v i j k).free = s.free := rfl
@[simp] theorem wrF_marks (s : State) (f : Fld) (v i j k : Nat) : (s.wrF f v i j k).marks = s.marks := rfl

@[simp] theorem settleF_pending (s : State) (f : Fld) (i j k : Nat) : (s.settleF f i j k).pending = s.pending := rfl
@[simp] theorem settleF_now (s : State) (f : Fld) (i j k : Nat) : (s.settleF f i j k).now = s.now := rfl
@[simp] theorem settleF_regs (s : State) (f : Fld) (i j k : Nat) : (s.settleF f i j k).regs = s.regs := rfl
@[simp] theorem settleF_mem (s : State) (f : Fld) (i j k : Nat) : (s.settleF f i j k).mem = s.mem := rfl
@[simp] theorem settleF_hpt (s : State) (f : Fld) (i j k : Nat) : (s.settleF f i j k).hpt = s.hpt := rfl
@[simp] theorem settleF_pln (s : State) (f : Fld) (i j k : Nat) : (s.settleF f i j k).pln = s.pln := rfl
@[simp] theorem settleF_orb (s : State) (f : Fld) (i j k : Nat) : (s.settleF f i j k).orb = s.orb := rfl
@[simp] theorem settleF_drv (s : State) (f : Fld) (i j k : Nat) : (s.settleF f i j k).drv = s.drv := rfl
@[simp] theorem settleF_mon (s : State) (f : Fld) (i j k : Nat) : (s.settleF f i j k).mon = s.mon := rfl
@[simp] theorem settleF_samples (s : State) (f : Fld) (i j k : Nat) : (s.settleF f i j k).samples = s.samples := rfl
@[simp] theorem settleF_ton (s : State) (f : Fld) (i j k : Nat) : (s.settleF f i j k).ton = s.ton := rfl
@[simp] theorem settleF_lpa (s : State) (f : Fld) (i j k : Nat) : (s.settleF f i j k).lpa = s.lpa := rfl
@[simp] theorem settleF_pmc (s : State) (f : Fld) (i j k : Nat) : (s.settleF f i j k).pmc = s.pmc := rfl
@[simp] theorem settleF_prf (s : State) (f : Fld) (i j k : Nat) : (s.settleF f i j k).prf = s.prf := rfl
@[simp] theorem settleF_cal (s : State) (f : Fld) (i j k : Nat) : (s.settleF f i j k).cal = s.cal := rfl
@[simp] theorem settleF_flash (s : State) (f : Fld) (i j k : Nat) : (s.settleF f i j k).flash = s.flash := rfl
@[simp] theorem settleF_mer (s : State) (f : Fld) (i j k : Nat) : (s.settleF f i j k).mer = s.mer := rfl
@[simp] theorem settleF_sec (s : State) (f : Fld) (i j k : Nat) : (s.settleF f i j k).sec = s.sec := rfl
@[simp] theorem settleF_saf (s : State) (f : Fld) (i j k : Nat) : (s.settleF f i j k).saf = s.saf := rfl
@[simp] theorem settleF_lks (s : State) (f : Fld) (i j k : Nat) : (s.settleF f i j k).lks = s.lks := rfl
@[simp] theorem settleF_sub (s : State) (f : Fld) (i j k : Nat) : (s.settleF f i j k).sub = s.sub := rfl
@[simp] theorem settleF_mig (s : State) (f : Fld) (i j k : Nat) : (s.settleF f i j k).mig = s.mig := rfl
@[simp] theorem settleF_sgf (s : State) (f : Fld) (i j k : Nat) : (s.settleF f i j k).sgf = s.sgf := rfl
@[simp] theorem settleF_bmx (s : State) (f : Fld) (i j k : Nat) : (s.settleF f i j k).bmx = s.bmx := rfl
@[simp] theorem settleF_pwr (s : State) (f : Fld) (i j k : Nat) : (s.settleF f i j k).pwr = s.pwr := rfl
@[simp] theorem settleF_pins (s : State) (f : Fld) (i j k : Nat) : (s.settleF f i j k).pins = s.pins := rfl
@[simp] theorem settleF_out (s : State) (f : Fld) (i j k : Nat) : (s.settleF f i j k).out = s.out := rfl
@[simp] theorem settleF_free (s : State) (f : Fld) (i j k : Nat) : (s.settleF f i j k).free = s.free := rfl
@[simp] theorem settleF_marks (s : State) (f : Fld) (i j k : Nat) : (s.settleF f i j k).marks = s.marks := rfl

@[simp] theorem clearRegs_pending (s : State) (lo hi : Nat) : (s.clearRegs lo hi).pending = s.pending := rfl
@[simp] theorem clearRegs_now (s : State) (lo hi : Nat) : (s.clearRegs lo hi).now = s.now := rfl
@[simp] theorem clearRegs_mem (s : State) (lo hi : Nat) : (s.clearRegs lo hi).mem = s.mem := rfl
@[simp] theorem clearRegs_held (s : State) (lo hi : Nat) : (s.clearRegs lo hi).held = s.held := rfl
@[simp] theorem clearRegs_hpt (s : State) (lo hi : Nat) : (s.clearRegs lo hi).hpt = s.hpt := rfl
@[simp] theorem clearRegs_pln (s : State) (lo hi : Nat) : (s.clearRegs lo hi).pln = s.pln := rfl
@[simp] theorem clearRegs_orb (s : State) (lo hi : Nat) : (s.clearRegs lo hi).orb = s.orb := rfl
@[simp] theorem clearRegs_drv (s : State) (lo hi : Nat) : (s.clearRegs lo hi).drv = s.drv := rfl
@[simp] theorem clearRegs_mon (s : State) (lo hi : Nat) : (s.clearRegs lo hi).mon = s.mon := rfl
@[simp] theorem clearRegs_samples (s : State) (lo hi : Nat) : (s.clearRegs lo hi).samples = s.samples := rfl
@[simp] theorem clearRegs_ton (s : State) (lo hi : Nat) : (s.clearRegs lo hi).ton = s.ton := rfl
@[simp] theorem clearRegs_lpa (s : State) (lo hi : Nat) : (s.clearRegs lo hi).lpa = s.lpa := rfl
@[simp] theorem clearRegs_pmc (s : State) (lo hi : Nat) : (s.clearRegs lo hi).pmc = s.pmc := rfl
@[simp] theorem clearRegs_prf (s : State) (lo hi : Nat) : (s.clearRegs lo hi).prf = s.prf := rfl
@[simp] theorem clearRegs_cal (s : State) (lo hi : Nat) : (s.clearRegs lo hi).cal = s.cal := rfl
@[simp] theorem clearRegs_flash (s : State) (lo hi : Nat) : (s.clearRegs lo hi).flash = s.flash := rfl
@[simp] theorem clearRegs_mer (s : State) (lo hi : Nat) : (s.clearRegs lo hi).mer = s.mer := rfl
@[simp] theorem clearRegs_sec (s : State) (lo hi : Nat) : (s.clearRegs lo hi).sec = s.sec := rfl
@[simp] theorem clearRegs_saf (s : State) (lo hi : Nat) : (s.clearRegs lo hi).saf = s.saf := rfl
@[simp] theorem clearRegs_lks (s : State) (lo hi : Nat) : (s.clearRegs lo hi).lks = s.lks := rfl
@[simp] theorem clearRegs_sub (s : State) (lo hi : Nat) : (s.clearRegs lo hi).sub = s.sub := rfl
@[simp] theorem clearRegs_mig (s : State) (lo hi : Nat) : (s.clearRegs lo hi).mig = s.mig := rfl
@[simp] theorem clearRegs_sgf (s : State) (lo hi : Nat) : (s.clearRegs lo hi).sgf = s.sgf := rfl
@[simp] theorem clearRegs_bmx (s : State) (lo hi : Nat) : (s.clearRegs lo hi).bmx = s.bmx := rfl
@[simp] theorem clearRegs_pwr (s : State) (lo hi : Nat) : (s.clearRegs lo hi).pwr = s.pwr := rfl
@[simp] theorem clearRegs_pins (s : State) (lo hi : Nat) : (s.clearRegs lo hi).pins = s.pins := rfl
@[simp] theorem clearRegs_out (s : State) (lo hi : Nat) : (s.clearRegs lo hi).out = s.out := rfl
@[simp] theorem clearRegs_free (s : State) (lo hi : Nat) : (s.clearRegs lo hi).free = s.free := rfl
@[simp] theorem clearRegs_marks (s : State) (lo hi : Nat) : (s.clearRegs lo hi).marks = s.marks := rfl

@[simp] theorem storeB_pending (s : State) (a : Nat) (v : Byte) : (s.storeB a v).pending = s.pending := rfl
@[simp] theorem storeB_now (s : State) (a : Nat) (v : Byte) : (s.storeB a v).now = s.now := rfl
@[simp] theorem storeB_regs (s : State) (a : Nat) (v : Byte) : (s.storeB a v).regs = s.regs := rfl
@[simp] theorem storeB_held (s : State) (a : Nat) (v : Byte) : (s.storeB a v).held = s.held := rfl
@[simp] theorem storeB_hpt (s : State) (a : Nat) (v : Byte) : (s.storeB a v).hpt = s.hpt := rfl
@[simp] theorem storeB_pln (s : State) (a : Nat) (v : Byte) : (s.storeB a v).pln = s.pln := rfl
@[simp] theorem storeB_orb (s : State) (a : Nat) (v : Byte) : (s.storeB a v).orb = s.orb := rfl
@[simp] theorem storeB_drv (s : State) (a : Nat) (v : Byte) : (s.storeB a v).drv = s.drv := rfl
@[simp] theorem storeB_mon (s : State) (a : Nat) (v : Byte) : (s.storeB a v).mon = s.mon := rfl
@[simp] theorem storeB_samples (s : State) (a : Nat) (v : Byte) : (s.storeB a v).samples = s.samples := rfl
@[simp] theorem storeB_ton (s : State) (a : Nat) (v : Byte) : (s.storeB a v).ton = s.ton := rfl
@[simp] theorem storeB_lpa (s : State) (a : Nat) (v : Byte) : (s.storeB a v).lpa = s.lpa := rfl
@[simp] theorem storeB_pmc (s : State) (a : Nat) (v : Byte) : (s.storeB a v).pmc = s.pmc := rfl
@[simp] theorem storeB_prf (s : State) (a : Nat) (v : Byte) : (s.storeB a v).prf = s.prf := rfl
@[simp] theorem storeB_cal (s : State) (a : Nat) (v : Byte) : (s.storeB a v).cal = s.cal := rfl
@[simp] theorem storeB_flash (s : State) (a : Nat) (v : Byte) : (s.storeB a v).flash = s.flash := rfl
@[simp] theorem storeB_mer (s : State) (a : Nat) (v : Byte) : (s.storeB a v).mer = s.mer := rfl
@[simp] theorem storeB_sec (s : State) (a : Nat) (v : Byte) : (s.storeB a v).sec = s.sec := rfl
@[simp] theorem storeB_saf (s : State) (a : Nat) (v : Byte) : (s.storeB a v).saf = s.saf := rfl
@[simp] theorem storeB_lks (s : State) (a : Nat) (v : Byte) : (s.storeB a v).lks = s.lks := rfl
@[simp] theorem storeB_sub (s : State) (a : Nat) (v : Byte) : (s.storeB a v).sub = s.sub := rfl
@[simp] theorem storeB_mig (s : State) (a : Nat) (v : Byte) : (s.storeB a v).mig = s.mig := rfl
@[simp] theorem storeB_sgf (s : State) (a : Nat) (v : Byte) : (s.storeB a v).sgf = s.sgf := rfl
@[simp] theorem storeB_bmx (s : State) (a : Nat) (v : Byte) : (s.storeB a v).bmx = s.bmx := rfl
@[simp] theorem storeB_pwr (s : State) (a : Nat) (v : Byte) : (s.storeB a v).pwr = s.pwr := rfl
@[simp] theorem storeB_pins (s : State) (a : Nat) (v : Byte) : (s.storeB a v).pins = s.pins := rfl
@[simp] theorem storeB_out (s : State) (a : Nat) (v : Byte) : (s.storeB a v).out = s.out := rfl
@[simp] theorem storeB_free (s : State) (a : Nat) (v : Byte) : (s.storeB a v).free = s.free := rfl
@[simp] theorem storeB_marks (s : State) (a : Nat) (v : Byte) : (s.storeB a v).marks = s.marks := rfl

@[simp] theorem clearMem_pending (s : State) (lo hi : Nat) : (s.clearMem lo hi).pending = s.pending := rfl
@[simp] theorem clearMem_now (s : State) (lo hi : Nat) : (s.clearMem lo hi).now = s.now := rfl
@[simp] theorem clearMem_regs (s : State) (lo hi : Nat) : (s.clearMem lo hi).regs = s.regs := rfl
@[simp] theorem clearMem_held (s : State) (lo hi : Nat) : (s.clearMem lo hi).held = s.held := rfl
@[simp] theorem clearMem_hpt (s : State) (lo hi : Nat) : (s.clearMem lo hi).hpt = s.hpt := rfl
@[simp] theorem clearMem_pln (s : State) (lo hi : Nat) : (s.clearMem lo hi).pln = s.pln := rfl
@[simp] theorem clearMem_orb (s : State) (lo hi : Nat) : (s.clearMem lo hi).orb = s.orb := rfl
@[simp] theorem clearMem_drv (s : State) (lo hi : Nat) : (s.clearMem lo hi).drv = s.drv := rfl
@[simp] theorem clearMem_mon (s : State) (lo hi : Nat) : (s.clearMem lo hi).mon = s.mon := rfl
@[simp] theorem clearMem_samples (s : State) (lo hi : Nat) : (s.clearMem lo hi).samples = s.samples := rfl
@[simp] theorem clearMem_ton (s : State) (lo hi : Nat) : (s.clearMem lo hi).ton = s.ton := rfl
@[simp] theorem clearMem_lpa (s : State) (lo hi : Nat) : (s.clearMem lo hi).lpa = s.lpa := rfl
@[simp] theorem clearMem_pmc (s : State) (lo hi : Nat) : (s.clearMem lo hi).pmc = s.pmc := rfl
@[simp] theorem clearMem_prf (s : State) (lo hi : Nat) : (s.clearMem lo hi).prf = s.prf := rfl
@[simp] theorem clearMem_cal (s : State) (lo hi : Nat) : (s.clearMem lo hi).cal = s.cal := rfl
@[simp] theorem clearMem_flash (s : State) (lo hi : Nat) : (s.clearMem lo hi).flash = s.flash := rfl
@[simp] theorem clearMem_mer (s : State) (lo hi : Nat) : (s.clearMem lo hi).mer = s.mer := rfl
@[simp] theorem clearMem_sec (s : State) (lo hi : Nat) : (s.clearMem lo hi).sec = s.sec := rfl
@[simp] theorem clearMem_saf (s : State) (lo hi : Nat) : (s.clearMem lo hi).saf = s.saf := rfl
@[simp] theorem clearMem_lks (s : State) (lo hi : Nat) : (s.clearMem lo hi).lks = s.lks := rfl
@[simp] theorem clearMem_sub (s : State) (lo hi : Nat) : (s.clearMem lo hi).sub = s.sub := rfl
@[simp] theorem clearMem_mig (s : State) (lo hi : Nat) : (s.clearMem lo hi).mig = s.mig := rfl
@[simp] theorem clearMem_sgf (s : State) (lo hi : Nat) : (s.clearMem lo hi).sgf = s.sgf := rfl
@[simp] theorem clearMem_bmx (s : State) (lo hi : Nat) : (s.clearMem lo hi).bmx = s.bmx := rfl
@[simp] theorem clearMem_pwr (s : State) (lo hi : Nat) : (s.clearMem lo hi).pwr = s.pwr := rfl
@[simp] theorem clearMem_pins (s : State) (lo hi : Nat) : (s.clearMem lo hi).pins = s.pins := rfl
@[simp] theorem clearMem_out (s : State) (lo hi : Nat) : (s.clearMem lo hi).out = s.out := rfl
@[simp] theorem clearMem_free (s : State) (lo hi : Nat) : (s.clearMem lo hi).free = s.free := rfl
@[simp] theorem clearMem_marks (s : State) (lo hi : Nat) : (s.clearMem lo hi).marks = s.marks := rfl

@[simp] theorem reach_pending (s : State) (n : Nat) : (s.reach n).pending = s.pending := rfl
@[simp] theorem reach_regs (s : State) (n : Nat) : (s.reach n).regs = s.regs := rfl
@[simp] theorem reach_mem (s : State) (n : Nat) : (s.reach n).mem = s.mem := rfl
@[simp] theorem reach_held (s : State) (n : Nat) : (s.reach n).held = s.held := rfl
@[simp] theorem reach_hpt (s : State) (n : Nat) : (s.reach n).hpt = s.hpt := rfl
@[simp] theorem reach_pln (s : State) (n : Nat) : (s.reach n).pln = s.pln := rfl
@[simp] theorem reach_orb (s : State) (n : Nat) : (s.reach n).orb = s.orb := rfl
@[simp] theorem reach_drv (s : State) (n : Nat) : (s.reach n).drv = s.drv := rfl
@[simp] theorem reach_mon (s : State) (n : Nat) : (s.reach n).mon = s.mon := rfl
@[simp] theorem reach_samples (s : State) (n : Nat) : (s.reach n).samples = s.samples := rfl
@[simp] theorem reach_ton (s : State) (n : Nat) : (s.reach n).ton = s.ton := rfl
@[simp] theorem reach_lpa (s : State) (n : Nat) : (s.reach n).lpa = s.lpa := rfl
@[simp] theorem reach_pmc (s : State) (n : Nat) : (s.reach n).pmc = s.pmc := rfl
@[simp] theorem reach_prf (s : State) (n : Nat) : (s.reach n).prf = s.prf := rfl
@[simp] theorem reach_cal (s : State) (n : Nat) : (s.reach n).cal = s.cal := rfl
@[simp] theorem reach_flash (s : State) (n : Nat) : (s.reach n).flash = s.flash := rfl
@[simp] theorem reach_mer (s : State) (n : Nat) : (s.reach n).mer = s.mer := rfl
@[simp] theorem reach_sec (s : State) (n : Nat) : (s.reach n).sec = s.sec := rfl
@[simp] theorem reach_saf (s : State) (n : Nat) : (s.reach n).saf = s.saf := rfl
@[simp] theorem reach_lks (s : State) (n : Nat) : (s.reach n).lks = s.lks := rfl
@[simp] theorem reach_sub (s : State) (n : Nat) : (s.reach n).sub = s.sub := rfl
@[simp] theorem reach_mig (s : State) (n : Nat) : (s.reach n).mig = s.mig := rfl
@[simp] theorem reach_sgf (s : State) (n : Nat) : (s.reach n).sgf = s.sgf := rfl
@[simp] theorem reach_bmx (s : State) (n : Nat) : (s.reach n).bmx = s.bmx := rfl
@[simp] theorem reach_pwr (s : State) (n : Nat) : (s.reach n).pwr = s.pwr := rfl
@[simp] theorem reach_pins (s : State) (n : Nat) : (s.reach n).pins = s.pins := rfl
@[simp] theorem reach_out (s : State) (n : Nat) : (s.reach n).out = s.out := rfl
@[simp] theorem reach_free (s : State) (n : Nat) : (s.reach n).free = s.free := rfl
@[simp] theorem reach_marks (s : State) (n : Nat) : (s.reach n).marks = s.marks := rfl

@[simp] theorem emit_pending (s : State) (o : Out) : (s.emit o).pending = s.pending := rfl
@[simp] theorem emit_now (s : State) (o : Out) : (s.emit o).now = s.now := rfl
@[simp] theorem emit_regs (s : State) (o : Out) : (s.emit o).regs = s.regs := rfl
@[simp] theorem emit_mem (s : State) (o : Out) : (s.emit o).mem = s.mem := rfl
@[simp] theorem emit_held (s : State) (o : Out) : (s.emit o).held = s.held := rfl
@[simp] theorem emit_hpt (s : State) (o : Out) : (s.emit o).hpt = s.hpt := rfl
@[simp] theorem emit_pln (s : State) (o : Out) : (s.emit o).pln = s.pln := rfl
@[simp] theorem emit_orb (s : State) (o : Out) : (s.emit o).orb = s.orb := rfl
@[simp] theorem emit_drv (s : State) (o : Out) : (s.emit o).drv = s.drv := rfl
@[simp] theorem emit_mon (s : State) (o : Out) : (s.emit o).mon = s.mon := rfl
@[simp] theorem emit_samples (s : State) (o : Out) : (s.emit o).samples = s.samples := rfl
@[simp] theorem emit_ton (s : State) (o : Out) : (s.emit o).ton = s.ton := rfl
@[simp] theorem emit_lpa (s : State) (o : Out) : (s.emit o).lpa = s.lpa := rfl
@[simp] theorem emit_pmc (s : State) (o : Out) : (s.emit o).pmc = s.pmc := rfl
@[simp] theorem emit_prf (s : State) (o : Out) : (s.emit o).prf = s.prf := rfl
@[simp] theorem emit_cal (s : State) (o : Out) : (s.emit o).cal = s.cal := rfl
@[simp] theorem emit_flash (s : State) (o : Out) : (s.emit o).flash = s.flash := rfl
@[simp] theorem emit_mer (s : State) (o : Out) : (s.emit o).mer = s.mer := rfl
@[simp] theorem emit_sec (s : State) (o : Out) : (s.emit o).sec = s.sec := rfl
@[simp] theorem emit_saf (s : State) (o : Out) : (s.emit o).saf = s.saf := rfl
@[simp] theorem emit_lks (s : State) (o : Out) : (s.emit o).lks = s.lks := rfl
@[simp] theorem emit_sub (s : State) (o : Out) : (s.emit o).sub = s.sub := rfl
@[simp] theorem emit_mig (s : State) (o : Out) : (s.emit o).mig = s.mig := rfl
@[simp] theorem emit_sgf (s : State) (o : Out) : (s.emit o).sgf = s.sgf := rfl
@[simp] theorem emit_bmx (s : State) (o : Out) : (s.emit o).bmx = s.bmx := rfl
@[simp] theorem emit_pwr (s : State) (o : Out) : (s.emit o).pwr = s.pwr := rfl
@[simp] theorem emit_pins (s : State) (o : Out) : (s.emit o).pins = s.pins := rfl
@[simp] theorem emit_free (s : State) (o : Out) : (s.emit o).free = s.free := rfl
@[simp] theorem emit_marks (s : State) (o : Out) : (s.emit o).marks = s.marks := rfl

/-- Signalling a vector only puts out its message, or sets its pending bit while it is masked (R77). -/
theorem signalVec_eq (s : State) (die vec : Nat) :
    s.signalVec die vec = if s.vecMasked die vec then { s with hpt := { s.hpt with pba := nset s.hpt.pba (256 * die + vec) 1 } }
      else s.emit (.msix die vec) := rfl

@[simp] theorem signalVec_pending (s : State) (die v : Nat) : (s.signalVec die v).pending = s.pending := by
  unfold State.signalVec; split <;> rfl
@[simp] theorem signalVec_now (s : State) (die v : Nat) : (s.signalVec die v).now = s.now := by
  unfold State.signalVec; split <;> rfl
@[simp] theorem signalVec_sub (s : State) (die v : Nat) : (s.signalVec die v).sub = s.sub := by
  unfold State.signalVec; split <;> rfl
@[simp] theorem signalVec_regs (s : State) (die v : Nat) : (s.signalVec die v).regs = s.regs := by
  unfold State.signalVec; split <;> rfl
@[simp] theorem signalVec_mem (s : State) (die v : Nat) : (s.signalVec die v).mem = s.mem := by
  unfold State.signalVec; split <;> rfl
@[simp] theorem signalVec_held (s : State) (die v : Nat) : (s.signalVec die v).held = s.held := by
  unfold State.signalVec; split <;> rfl
@[simp] theorem signalVec_pln (s : State) (die v : Nat) : (s.signalVec die v).pln = s.pln := by
  unfold State.signalVec; split <;> rfl
@[simp] theorem signalVec_orb (s : State) (die v : Nat) : (s.signalVec die v).orb = s.orb := by
  unfold State.signalVec; split <;> rfl
@[simp] theorem signalVec_drv (s : State) (die v : Nat) : (s.signalVec die v).drv = s.drv := by
  unfold State.signalVec; split <;> rfl
@[simp] theorem signalVec_mon (s : State) (die v : Nat) : (s.signalVec die v).mon = s.mon := by
  unfold State.signalVec; split <;> rfl
@[simp] theorem signalVec_samples (s : State) (die v : Nat) : (s.signalVec die v).samples = s.samples := by
  unfold State.signalVec; split <;> rfl
@[simp] theorem signalVec_ton (s : State) (die v : Nat) : (s.signalVec die v).ton = s.ton := by
  unfold State.signalVec; split <;> rfl
@[simp] theorem signalVec_lpa (s : State) (die v : Nat) : (s.signalVec die v).lpa = s.lpa := by
  unfold State.signalVec; split <;> rfl
@[simp] theorem signalVec_pmc (s : State) (die v : Nat) : (s.signalVec die v).pmc = s.pmc := by
  unfold State.signalVec; split <;> rfl
@[simp] theorem signalVec_prf (s : State) (die v : Nat) : (s.signalVec die v).prf = s.prf := by
  unfold State.signalVec; split <;> rfl
@[simp] theorem signalVec_cal (s : State) (die v : Nat) : (s.signalVec die v).cal = s.cal := by
  unfold State.signalVec; split <;> rfl
@[simp] theorem signalVec_flash (s : State) (die v : Nat) : (s.signalVec die v).flash = s.flash := by
  unfold State.signalVec; split <;> rfl
@[simp] theorem signalVec_mer (s : State) (die v : Nat) : (s.signalVec die v).mer = s.mer := by
  unfold State.signalVec; split <;> rfl
@[simp] theorem signalVec_sec (s : State) (die v : Nat) : (s.signalVec die v).sec = s.sec := by
  unfold State.signalVec; split <;> rfl
@[simp] theorem signalVec_saf (s : State) (die v : Nat) : (s.signalVec die v).saf = s.saf := by
  unfold State.signalVec; split <;> rfl
@[simp] theorem signalVec_lks (s : State) (die v : Nat) : (s.signalVec die v).lks = s.lks := by
  unfold State.signalVec; split <;> rfl
@[simp] theorem signalVec_mig (s : State) (die v : Nat) : (s.signalVec die v).mig = s.mig := by
  unfold State.signalVec; split <;> rfl
@[simp] theorem signalVec_sgf (s : State) (die v : Nat) : (s.signalVec die v).sgf = s.sgf := by
  unfold State.signalVec; split <;> rfl
@[simp] theorem signalVec_bmx (s : State) (die v : Nat) : (s.signalVec die v).bmx = s.bmx := by
  unfold State.signalVec; split <;> rfl
@[simp] theorem signalVec_pwr (s : State) (die v : Nat) : (s.signalVec die v).pwr = s.pwr := by
  unfold State.signalVec; split <;> rfl
@[simp] theorem signalVec_pins (s : State) (die v : Nat) : (s.signalVec die v).pins = s.pins := by
  unfold State.signalVec; split <;> rfl
@[simp] theorem signalVec_free (s : State) (die v : Nat) : (s.signalVec die v).free = s.free := by
  unfold State.signalVec; split <;> rfl
@[simp] theorem signalVec_marks (s : State) (die v : Nat) : (s.signalVec die v).marks = s.marks := by
  unfold State.signalVec; split <;> rfl

@[simp] theorem msix_pending (s : State) (v : Nat) : (s.msix v).pending = s.pending := signalVec_pending s _ v
@[simp] theorem msix_now (s : State) (v : Nat) : (s.msix v).now = s.now := signalVec_now s _ v
@[simp] theorem msix_regs (s : State) (v : Nat) : (s.msix v).regs = s.regs := signalVec_regs s _ v
@[simp] theorem msix_mem (s : State) (v : Nat) : (s.msix v).mem = s.mem := signalVec_mem s _ v
@[simp] theorem msix_held (s : State) (v : Nat) : (s.msix v).held = s.held := signalVec_held s _ v
@[simp] theorem msix_pln (s : State) (v : Nat) : (s.msix v).pln = s.pln := signalVec_pln s _ v
@[simp] theorem msix_orb (s : State) (v : Nat) : (s.msix v).orb = s.orb := signalVec_orb s _ v
@[simp] theorem msix_drv (s : State) (v : Nat) : (s.msix v).drv = s.drv := signalVec_drv s _ v
@[simp] theorem msix_mon (s : State) (v : Nat) : (s.msix v).mon = s.mon := signalVec_mon s _ v
@[simp] theorem msix_samples (s : State) (v : Nat) : (s.msix v).samples = s.samples := signalVec_samples s _ v
@[simp] theorem msix_ton (s : State) (v : Nat) : (s.msix v).ton = s.ton := signalVec_ton s _ v
@[simp] theorem msix_lpa (s : State) (v : Nat) : (s.msix v).lpa = s.lpa := signalVec_lpa s _ v
@[simp] theorem msix_pmc (s : State) (v : Nat) : (s.msix v).pmc = s.pmc := signalVec_pmc s _ v
@[simp] theorem msix_prf (s : State) (v : Nat) : (s.msix v).prf = s.prf := signalVec_prf s _ v
@[simp] theorem msix_cal (s : State) (v : Nat) : (s.msix v).cal = s.cal := signalVec_cal s _ v
@[simp] theorem msix_flash (s : State) (v : Nat) : (s.msix v).flash = s.flash := signalVec_flash s _ v
@[simp] theorem msix_mer (s : State) (v : Nat) : (s.msix v).mer = s.mer := signalVec_mer s _ v
@[simp] theorem msix_sec (s : State) (v : Nat) : (s.msix v).sec = s.sec := signalVec_sec s _ v
@[simp] theorem msix_saf (s : State) (v : Nat) : (s.msix v).saf = s.saf := signalVec_saf s _ v
@[simp] theorem msix_lks (s : State) (v : Nat) : (s.msix v).lks = s.lks := signalVec_lks s _ v
@[simp] theorem msix_sub (s : State) (v : Nat) : (s.msix v).sub = s.sub := signalVec_sub s _ v
@[simp] theorem msix_mig (s : State) (v : Nat) : (s.msix v).mig = s.mig := signalVec_mig s _ v
@[simp] theorem msix_sgf (s : State) (v : Nat) : (s.msix v).sgf = s.sgf := signalVec_sgf s _ v
@[simp] theorem msix_bmx (s : State) (v : Nat) : (s.msix v).bmx = s.bmx := signalVec_bmx s _ v
@[simp] theorem msix_pwr (s : State) (v : Nat) : (s.msix v).pwr = s.pwr := signalVec_pwr s _ v
@[simp] theorem msix_pins (s : State) (v : Nat) : (s.msix v).pins = s.pins := signalVec_pins s _ v
@[simp] theorem msix_free (s : State) (v : Nat) : (s.msix v).free = s.free := signalVec_free s _ v
@[simp] theorem msix_marks (s : State) (v : Nat) : (s.msix v).marks = s.marks := signalVec_marks s _ v

@[simp] theorem raise_pending (s : State) (a b c : Nat) : (s.raise a b c).pending = s.pending := rfl
@[simp] theorem raise_now (s : State) (a b c : Nat) : (s.raise a b c).now = s.now := rfl
@[simp] theorem raise_regs (s : State) (a b c : Nat) : (s.raise a b c).regs = s.regs := rfl
@[simp] theorem raise_mem (s : State) (a b c : Nat) : (s.raise a b c).mem = s.mem := rfl
@[simp] theorem raise_held (s : State) (a b c : Nat) : (s.raise a b c).held = s.held := rfl
@[simp] theorem raise_hpt (s : State) (a b c : Nat) : (s.raise a b c).hpt = s.hpt := rfl
@[simp] theorem raise_pln (s : State) (a b c : Nat) : (s.raise a b c).pln = s.pln := rfl
@[simp] theorem raise_orb (s : State) (a b c : Nat) : (s.raise a b c).orb = s.orb := rfl
@[simp] theorem raise_drv (s : State) (a b c : Nat) : (s.raise a b c).drv = s.drv := rfl
@[simp] theorem raise_mon (s : State) (a b c : Nat) : (s.raise a b c).mon = s.mon := rfl
@[simp] theorem raise_samples (s : State) (a b c : Nat) : (s.raise a b c).samples = s.samples := rfl
@[simp] theorem raise_ton (s : State) (a b c : Nat) : (s.raise a b c).ton = s.ton := rfl
@[simp] theorem raise_lpa (s : State) (a b c : Nat) : (s.raise a b c).lpa = s.lpa := rfl
@[simp] theorem raise_pmc (s : State) (a b c : Nat) : (s.raise a b c).pmc = s.pmc := rfl
@[simp] theorem raise_prf (s : State) (a b c : Nat) : (s.raise a b c).prf = s.prf := rfl
@[simp] theorem raise_cal (s : State) (a b c : Nat) : (s.raise a b c).cal = s.cal := rfl
@[simp] theorem raise_flash (s : State) (a b c : Nat) : (s.raise a b c).flash = s.flash := rfl
@[simp] theorem raise_mer (s : State) (a b c : Nat) : (s.raise a b c).mer = s.mer := rfl
@[simp] theorem raise_sec (s : State) (a b c : Nat) : (s.raise a b c).sec = s.sec := rfl
@[simp] theorem raise_lks (s : State) (a b c : Nat) : (s.raise a b c).lks = s.lks := rfl
@[simp] theorem raise_sub (s : State) (a b c : Nat) : (s.raise a b c).sub = s.sub := rfl
@[simp] theorem raise_mig (s : State) (a b c : Nat) : (s.raise a b c).mig = s.mig := rfl
@[simp] theorem raise_sgf (s : State) (a b c : Nat) : (s.raise a b c).sgf = s.sgf := rfl
@[simp] theorem raise_bmx (s : State) (a b c : Nat) : (s.raise a b c).bmx = s.bmx := rfl
@[simp] theorem raise_pwr (s : State) (a b c : Nat) : (s.raise a b c).pwr = s.pwr := rfl
@[simp] theorem raise_pins (s : State) (a b c : Nat) : (s.raise a b c).pins = s.pins := rfl
@[simp] theorem raise_out (s : State) (a b c : Nat) : (s.raise a b c).out = s.out := rfl
@[simp] theorem raise_free (s : State) (a b c : Nat) : (s.raise a b c).free = s.free := rfl
@[simp] theorem raise_marks (s : State) (a b c : Nat) : (s.raise a b c).marks = s.marks := rfl

@[simp] theorem occur_pending (s : State) (n : Nat) : (s.occur n).pending = s.pending := rfl
@[simp] theorem occur_now (s : State) (n : Nat) : (s.occur n).now = s.now := rfl
@[simp] theorem occur_regs (s : State) (n : Nat) : (s.occur n).regs = s.regs := rfl
@[simp] theorem occur_mem (s : State) (n : Nat) : (s.occur n).mem = s.mem := rfl
@[simp] theorem occur_held (s : State) (n : Nat) : (s.occur n).held = s.held := rfl
@[simp] theorem occur_hpt (s : State) (n : Nat) : (s.occur n).hpt = s.hpt := rfl
@[simp] theorem occur_pln (s : State) (n : Nat) : (s.occur n).pln = s.pln := rfl
@[simp] theorem occur_orb (s : State) (n : Nat) : (s.occur n).orb = s.orb := rfl
@[simp] theorem occur_drv (s : State) (n : Nat) : (s.occur n).drv = s.drv := rfl
@[simp] theorem occur_mon (s : State) (n : Nat) : (s.occur n).mon = s.mon := rfl
@[simp] theorem occur_samples (s : State) (n : Nat) : (s.occur n).samples = s.samples := rfl
@[simp] theorem occur_ton (s : State) (n : Nat) : (s.occur n).ton = s.ton := rfl
@[simp] theorem occur_lpa (s : State) (n : Nat) : (s.occur n).lpa = s.lpa := rfl
@[simp] theorem occur_pmc (s : State) (n : Nat) : (s.occur n).pmc = s.pmc := rfl
@[simp] theorem occur_prf (s : State) (n : Nat) : (s.occur n).prf = s.prf := rfl
@[simp] theorem occur_cal (s : State) (n : Nat) : (s.occur n).cal = s.cal := rfl
@[simp] theorem occur_flash (s : State) (n : Nat) : (s.occur n).flash = s.flash := rfl
@[simp] theorem occur_mer (s : State) (n : Nat) : (s.occur n).mer = s.mer := rfl
@[simp] theorem occur_sec (s : State) (n : Nat) : (s.occur n).sec = s.sec := rfl
@[simp] theorem occur_saf (s : State) (n : Nat) : (s.occur n).saf = s.saf := rfl
@[simp] theorem occur_lks (s : State) (n : Nat) : (s.occur n).lks = s.lks := rfl
@[simp] theorem occur_sub (s : State) (n : Nat) : (s.occur n).sub = s.sub := rfl
@[simp] theorem occur_mig (s : State) (n : Nat) : (s.occur n).mig = s.mig := rfl
@[simp] theorem occur_bmx (s : State) (n : Nat) : (s.occur n).bmx = s.bmx := rfl
@[simp] theorem occur_pwr (s : State) (n : Nat) : (s.occur n).pwr = s.pwr := rfl
@[simp] theorem occur_pins (s : State) (n : Nat) : (s.occur n).pins = s.pins := rfl
@[simp] theorem occur_out (s : State) (n : Nat) : (s.occur n).out = s.out := rfl
@[simp] theorem occur_free (s : State) (n : Nat) : (s.occur n).free = s.free := rfl
@[simp] theorem occur_marks (s : State) (n : Nat) : (s.occur n).marks = s.marks := rfl

@[simp] theorem draw_free (s : State) (w : Nat) : (s.draw w).2.free = s.free + 1 := rfl

/-- A field just written holds the value, cut to its width. -/
@[simp] theorem rd_wr_same (s : State) (f : Fld) (v i j k : Nat) : (s.wr f v i j k).rd f i j k = v % 2 ^ f.w := by
  simp [State.rd, State.wr, Nat.xor_assoc]

/-- A write of one field leaves a field with another key. -/
theorem rd_wr_other (s : State) {f g : Fld} (v : Nat) {i j k a b c : Nat} (h : g.key a b c ≠ f.key i j k) :
    (s.wr f v i j k).rd g a b c = s.rd g a b c := by
  simp [State.rd, State.wr, nget_nset_other _ _ h]

/-- The registers decide what a field reads as. -/
theorem rd_congr {s t : State} (h : t.regs = s.regs) (f : Fld) (i j k : Nat) : t.rd f i j k = s.rd f i j k := by
  simp [State.rd, h]

/-- The memory decides what a byte reads as. -/
theorem memSame_of_mem {s t : State} (h : t.mem = s.mem) : MemSame s t := fun a => by simp [State.loadB, h]

@[simp] theorem loadB_wr (s : State) (f : Fld) (v i j k a : Nat) : (s.wr f v i j k).loadB a = s.loadB a := rfl

/-- A byte just stored reads back. -/
@[simp] theorem loadB_storeB_same (s : State) (a : Nat) (v : Byte) : (s.storeB a v).loadB a = v := by
  simp [State.loadB, State.storeB, aget_aset_same]

/-- A store leaves the bytes at other addresses. -/
theorem loadB_storeB_other (s : State) {a b : Nat} (v : Byte) (h : b ≠ a) : (s.storeB a v).loadB b = s.loadB b := by
  simp [State.loadB, State.storeB, aget_aset_other _ _ _ h]

theorem onlyRegs_refl (l : List Nat) (s : State) : OnlyRegs l s s := ⟨rfl, fun _ _ => rfl⟩

theorem OnlyRegs.trans {l : List Nat} {a b c : State} (h : OnlyRegs l a b) (g : OnlyRegs l b c) : OnlyRegs l a c := by
  refine ⟨?_, fun k hk => (g.2 k hk).trans (h.2 k hk)⟩
  have h1 := g.1
  rw [h.1] at h1
  exact h1

/-- A write of a listed field changes only the listed fields. -/
theorem onlyRegs_wr {l : List Nat} (s : State) (f : Fld) (v i j k : Nat) (h : f.key i j k ∈ l) : OnlyRegs l s (s.wr f v i j k) :=
  ⟨rfl, fun n hn => nget_nset_other _ _ fun e => hn (e ▸ h)⟩

theorem OnlyRegs.wr {l : List Nat} {s t : State} (h : OnlyRegs l s t) (f : Fld) (v i j k : Nat) (hk : f.key i j k ∈ l) :
    OnlyRegs l s (t.wr f v i j k) := h.trans (onlyRegs_wr t f v i j k hk)

end Sys2Proof.Machine
end

