-- ==== Sys2Proof/Laws/Host.lean ====
section
/-! SUPPORT. What completing a descriptor does (R65) and what it leaves. -/
namespace Sys2Proof.Machine

/-- A field whose register lies in the HPT block of either die. -/
def hptKey (k : Nat) : Prop := k % 0x80000000 < 0x800000

theorem onlyHpt_refl (s : State) : OnlyHpt s s := ⟨rfl, fun _ _ => rfl⟩

theorem OnlyHpt.trans {a b c : State} (h : OnlyHpt a b) (g : OnlyHpt b c) : OnlyHpt a c := by
  refine ⟨?_, fun k hk => (g.2 k hk).trans (h.2 k hk)⟩
  have h1 := g.1
  rw [h.1] at h1
  exact h1

/-- Nothing outside the Host Port changes with the memory unchanged. -/
theorem OnlyHpt.mem {s t : State} (h : OnlyHpt s t) : t.mem = s.mem := by rw [h.1]

theorem onlyHpt_wr (s : State) (f : Fld) (v i j k : Nat) (h : hptKey (f.key i j k)) : OnlyHpt s (s.wr f v i j k) :=
  ⟨rfl, fun n hn => nget_nset_other _ _ fun e => by unfold hptKey at h; omega⟩

theorem onlyHpt_hpt (s : State) (h : Hpt) : OnlyHpt s { s with hpt := h } := ⟨rfl, fun _ _ => rfl⟩

theorem onlyHpt_emit (s : State) (o : Out) : OnlyHpt s (s.emit o) := ⟨rfl, fun _ _ => rfl⟩

theorem onlyHpt_signalVec (s : State) (die v : Nat) : OnlyHpt s (s.signalVec die v) := by
  unfold State.signalVec
  split
  · exact onlyHpt_hpt _ _
  · exact onlyHpt_emit _ _

/-- Signalling a vector leaves all of the Host Port's state but the pending bits. -/
theorem signalVec_hpt (s : State) (die v : Nat) :
    (s.signalVec die v).hpt = { s.hpt with pba := (s.signalVec die v).hpt.pba } := by
  unfold State.signalVec; split <;> rfl

theorem onlyHpt_draw (s : State) (w : Nat) : OnlyHpt s (s.draw w).2 := ⟨rfl, fun _ _ => rfl⟩

theorem onlyHpt_ite {s a b : State} {p : Prop} [Decidable p] (ha : OnlyHpt s a) (hb : OnlyHpt s b) :
    OnlyHpt s (if p then a else b) := by split <;> assumption

theorem hptKey_error (b die : Nat) : hptKey ((errFld b).key die 0 0) := by
  unfold errFld
  split <;> simp only [hptKey, Fld.key, HPT_ERR_STATUS.PARTIAL_WR, HPT_ERR_STATUS.DB_RANGE, HPT_ERR_STATUS.DB_STANDBY,
    HPT_ERR_STATUS.STANDBY_WR, HPT_ERR_STATUS.FETCH_ERR, HPT_ERR_STATUS.POISONED, HPT_ERR_STATUS.CQ_STALL,
    HPT_ERR_STATUS.TQ_LOST] <;> omega

/-- An error of the Host Port changes the Host Port alone (R81). -/
theorem onlyHpt_hptError (s : State) (die b ring addr : Nat) : OnlyHpt s (s.hptError die b ring addr) := by
  refine OnlyHpt.trans (OnlyHpt.trans ?_ (onlyHpt_wr _ _ _ _ _ _ (hptKey_error b die))) (onlyHpt_signalVec _ _ _)
  refine onlyHpt_ite ?_ (onlyHpt_refl s)
  refine (((onlyHpt_wr _ _ _ _ _ _ ?_).trans (onlyHpt_wr _ _ _ _ _ _ ?_)).trans (onlyHpt_wr _ _ _ _ _ _ ?_)).trans
    (onlyHpt_wr _ _ _ _ _ _ ?_) <;>
  simp only [hptKey, Fld.key, HPT_ERR_INFO.RING, HPT_ERR_INFO.BIT, HPT_ERR_ADDR_LO.ADDR, HPT_ERR_ADDR_HI.ADDR] <;> omega

/-- An error of the Host Port leaves all of its state but the pending bits of MSI-X. -/
theorem hptError_hpt (s : State) (die b ring addr : Nat) :
    (s.hptError die b ring addr).hpt = { s.hpt with pba := (s.hptError die b ring addr).hpt.pba } := by
  unfold State.hptError
  split <;> exact signalVec_hpt _ _ _

/-- What a completion ring's queue reports changes the Host Port's registers alone (R70, R83). -/
theorem onlyHpt_cqRefresh (s : State) (cq : Nat) : OnlyHpt s (s.cqRefresh cq) := by
  refine ((onlyHpt_ite (onlyHpt_hptError _ _ _ _ _) (onlyHpt_refl s)).trans (onlyHpt_wr _ _ _ _ _ _ ?_)).trans
    (onlyHpt_wr _ _ _ _ _ _ ?_)
  all_goals simp only [hptKey, Fld.key, HPT_CQ_STATUS.HELD, HPT_CQ_STATUS.STALL]; omega

theorem cqRefresh_hpt (s : State) (cq : Nat) : (s.cqRefresh cq).hpt = { s.hpt with pba := (s.cqRefresh cq).hpt.pba } := by
  unfold State.cqRefresh
  simp only [wr_hpt]
  split
  · exact hptError_hpt _ _ _ _ _
  · rfl

/-- The Host Port's reports change its registers alone (R70, R81, R82). -/
theorem onlyHpt_hptRefresh (s : State) (ring cq : Nat) : OnlyHpt s (s.hptRefresh ring cq) := by
  refine ((onlyHpt_wr _ _ _ _ _ _ ?_).trans (onlyHpt_wr _ _ _ _ _ _ ?_)).trans (onlyHpt_cqRefresh _ _) <;>
  simp only [hptKey, Fld.key, HPT_INFLIGHT.COUNT, HPT_SQ_STATUS.INFLIGHT] <;> omega

/-- The descriptors in execution and the completions owed stay as they are. -/
@[simp] theorem hptRefresh_accepted (s : State) (ring cq : Nat) : (s.hptRefresh ring cq).hpt.accepted = s.hpt.accepted := by
  unfold State.hptRefresh
  rw [cqRefresh_hpt]; rfl

@[simp] theorem hptRefresh_owed (s : State) (ring cq : Nat) : (s.hptRefresh ring cq).hpt.owed = s.hpt.owed := by
  unfold State.hptRefresh
  rw [cqRefresh_hpt]; rfl

/-- Completing a descriptor changes the Host Port alone. -/
theorem onlyHpt_finish (s : State) (d : Desc) (st : Nat) (res : Option Nat) (exe fl : Nat) :
    OnlyHpt s (s.finish d st res exe fl) := by
  unfold State.finish
  have h0 : OnlyHpt s (if res.isNone then (s.draw 32).2 else s) := onlyHpt_ite (onlyHpt_draw s 32) (onlyHpt_refl s)
  generalize (if res.isNone then (s.draw 32).2 else s) = s0 at h0
  refine onlyHpt_ite ?_ (onlyHpt_ite ?_ ?_)
  · exact (h0.trans (onlyHpt_hpt _ _)).trans (onlyHpt_hptRefresh _ _ _)
  · refine ((h0.trans (onlyHpt_hpt _ _)).trans (onlyHpt_wr _ _ _ _ _ _ ?_)).trans (onlyHpt_hptRefresh _ _ _)
    simp only [hptKey, Fld.key, HPT_LOST_COMP.COUNT]; omega
  · exact ((h0.trans (onlyHpt_hpt _ _)).trans (onlyHpt_hpt _ _)).trans (onlyHpt_hptRefresh _ _ _)

/-- Completing a descriptor completes it, with the status, flags and RESULT given. -/
theorem completed_finish (s : State) (d : Desc) (st : Nat) (res : Option Nat) (exe fl : Nat) :
    Completed d st res s (s.finish d st res exe fl) fl := by
  have hd : (if res.isNone then (s.draw 32).2 else s).hpt = s.hpt := by split <;> rfl
  unfold Completed State.finish
  generalize hs : (if res.isNone then (s.draw 32).2 else s) = s0 at hd
  dsimp only
  by_cases h1 : (d.quiet && st == stOK && fl % 4 == 0) = true
  · have h2 : d.quiet = true ∧ st = stOK ∧ fl % 4 = 0 := by simpa [and_assoc] using h1
    rw [if_pos h1, if_pos (Or.inr h2), hptRefresh_accepted, hptRefresh_owed]
    exact ⟨by rw [hd], by rw [hd]⟩
  · have h2 : ¬ (d.quiet = true ∧ st = stOK ∧ fl % 4 = 0) := by simpa [and_assoc] using h1
    rw [if_neg h1]
    by_cases h3 : d.lost = true
    · rw [if_pos h3, if_pos (Or.inl h3), hptRefresh_accepted, hptRefresh_owed]
      exact ⟨by rw [bump_hpt, hd], by rw [bump_hpt, hd]⟩
    · rw [if_neg h3, if_neg (not_or.mpr ⟨h3, h2⟩), hptRefresh_accepted, hptRefresh_owed]
      refine ⟨by rw [hd], ⟨d.cq, d.ring, d.tag, st % 2 ^ 16, fl % 8, _, d.acc, _, d.irq, none⟩, by rw [hd], rfl, rfl, rfl,
        rfl, rfl, rfl, rfl, rfl, ?_⟩
      rintro r rfl
      rfl

/-- Completing at the current frame. -/
theorem completed_done (s : State) (d : Desc) (st : Nat) (res : Option Nat) : Completed d st res s (s.done d st res) :=
  completed_finish s d st res s.ticks 0

theorem onlyHpt_done (s : State) (d : Desc) (st : Nat) (res : Option Nat) : OnlyHpt s (s.done d st res) :=
  onlyHpt_finish s d st res s.ticks 0

end Sys2Proof.Machine
end

