-- ==== Sys2Proof/Laws/Kept.lean ====
section
/-! SUPPORT. What every operation over the state keeps (Kept): the base lemmas. -/
namespace Sys2Proof.Machine

theorem kept_self (s : State) : Kept s s := ⟨id, rfl⟩

theorem Kept.trans {a b c : State} (h : Kept a b) (k : Kept b c) : Kept a c := ⟨k.1 ∘ h.1, k.2.trans h.2⟩

theorem keptOut_next {s t : State} (h : Kept s t) : KeptOut s (.next t) := h

/-- Nothing that an update of other fields changes matters. -/
theorem kept_with {s x : State} (v_now : Nat) (v_sub : Nat × Nat) (v_held : List (Nat × Nat)) (v_hpt : Hpt) (v_pln : Pln) (v_orb : Orb) (v_drv : Drv) (v_mon : Mon) (v_samples : List Sample) (v_ton : Ton) (v_lpa : Lpa) (v_pmc : Pmc) (v_prf : Prf) (v_cal : Cal) (v_flash : Flash) (v_mer : Mer) (v_sec : Sec) (v_saf : Saf) (v_lks : Lks) (v_mig : Mig) (v_sgf : Sgf) (v_bmx : Bmx) (v_pwr : Pwr) (v_pins : Pins) (v_out : List Out) (v_free : Nat) (v_marks : List (Nat × Nat)) :
    Kept s (State.mk x.pending v_now v_sub x.regs x.mem v_held v_hpt v_pln v_orb v_drv v_mon v_samples v_ton v_lpa v_pmc v_prf v_cal v_flash v_mer v_sec v_saf v_lks v_mig v_sgf v_bmx v_pwr v_pins v_out v_free v_marks) ↔ Kept s x := Iff.rfl

theorem kept_ite {s a b : State} {p : Prop} [Decidable p] (ha : Kept s a) (hb : Kept s b) : Kept s (if p then a else b) := by
  split <;> assumption

theorem kept_ite_fst {β : Type} {s : State} {a b : State × β} {p : Prop} [Decidable p] (ha : Kept s a.1) (hb : Kept s b.1) :
    Kept s (if p then a else b).1 := by
  split <;> assumption

theorem kept_ite_snd {β : Type} {s : State} {a b : β × State} {p : Prop} [Decidable p] (ha : Kept s a.2) (hb : Kept s b.2) :
    Kept s (if p then a else b).2 := by
  split <;> assumption

theorem kept_foldl_fst {α β : Type} {s : State} {f : State × β → α → State × β} (hf : ∀ x a, Kept s x.1 → Kept s (f x a).1)
    (l : List α) {x : State × β} (h : Kept s x.1) : Kept s (l.foldl f x).1 := by
  induction l generalizing x with
  | nil => exact h
  | cons a t ih => exact ih (hf x a h)

theorem kept_foldl {α : Type} {s : State} {f : State → α → State} (hf : ∀ x a, Kept s x → Kept s (f x a)) (l : List α) {x : State}
    (h : Kept s x) : Kept s (l.foldl f x) := by
  induction l generalizing x with
  | nil => exact h
  | cons a t ih => exact ih (hf x a h)

theorem kept_wr {s x : State} (h : Kept s x) (f : Fld) (v i j k : Nat) : Kept s (x.wr f v i j k) :=
  ⟨fun hc => ⟨aset_canonical 0 _ _ _ _ (h.1 hc).1 fun hv => by simpa using hv, (h.1 hc).2⟩, h.2⟩

theorem kept_storeB {s x : State} (h : Kept s x) (a : Nat) (v : Byte) : Kept s (x.storeB a v) :=
  ⟨fun hc => ⟨(h.1 hc).1, aset_canonical _ _ _ _ _ (h.1 hc).2 fun hv => by simpa using hv⟩, h.2⟩

theorem kept_clearRegs {s x : State} (h : Kept s x) (lo hi : Nat) : Kept s (x.clearRegs lo hi) :=
  ⟨fun hc => ⟨filter_canonical _ _ _ (h.1 hc).1, (h.1 hc).2⟩, h.2⟩

theorem kept_clearMem {s x : State} (h : Kept s x) (lo hi : Nat) : Kept s (x.clearMem lo hi) :=
  ⟨fun hc => ⟨(h.1 hc).1, filter_canonical _ _ _ (h.1 hc).2⟩, h.2⟩

theorem kept_store {s x : State} (h : Kept s x) (a n v : Nat) : Kept s (x.store a n v) := by
  induction n generalizing x a v with
  | zero => exact h
  | succ n ih => exact ih (kept_storeB h a _) (a + 1) _

theorem kept_storeBytes {s x : State} (h : Kept s x) (a : Nat) (bs : List Byte) : Kept s (x.storeBytes a bs) := by
  induction bs generalizing x a with
  | nil => exact h
  | cons b t ih => exact ih (kept_storeB h a b) (a + 1)

/-- The saved coefficients keep the register file canonical. -/
theorem kept_putCoefs {s x : State} (h : Kept s x) (cs : List (Nat × Nat)) : Kept s (x.putCoefs cs) := by
  refine ⟨fun hc => ⟨?_, (h.1 hc).2⟩, h.2⟩
  have h0 : Registers.wf (x.regs.filter fun c => !inCoef c.1) = true := filter_canonical _ _ _ (h.1 hc).1
  show Registers.wf (cs.foldl (fun l c => nset l c.1 c.2) (x.regs.filter fun c => !inCoef c.1)) = true
  generalize x.regs.filter (fun c => !inCoef c.1) = l at h0
  induction cs generalizing l with
  | nil => exact h0
  | cons c t ih => exact ih _ (aset_canonical 0 _ _ _ _ h0 fun hv => by simpa using hv)

/-- What a state at the start of a Dawn keeps of the one before: some registers, and the queue. -/
theorem kept_base {s x : State} (h : Kept s x) (p : Nat × Nat → Bool) (v_now : Nat) (v_sub : Nat × Nat) (v_held : List (Nat × Nat)) (v_hpt : Hpt) (v_pln : Pln) (v_orb : Orb) (v_drv : Drv) (v_mon : Mon) (v_samples : List Sample) (v_ton : Ton) (v_lpa : Lpa) (v_pmc : Pmc) (v_prf : Prf) (v_cal : Cal) (v_flash : Flash) (v_mer : Mer) (v_sec : Sec) (v_saf : Saf) (v_lks : Lks) (v_mig : Mig) (v_sgf : Sgf) (v_bmx : Bmx) (v_pwr : Pwr) (v_pins : Pins) (v_out : List Out) (v_free : Nat) (v_marks : List (Nat × Nat)) :
    Kept s (State.mk x.pending v_now v_sub (x.regs.filter p) [] v_held v_hpt v_pln v_orb v_drv v_mon v_samples v_ton v_lpa v_pmc v_prf v_cal v_flash v_mer v_sec v_saf v_lks v_mig v_sgf v_bmx v_pwr v_pins v_out v_free v_marks) :=
  ⟨fun hc => ⟨filter_canonical _ _ _ (h.1 hc).1, rfl⟩, h.2⟩

end Sys2Proof.Machine
end

