-- ==== Sys2Proof/Laws/KeptOps.lean ====
section
/-! SUPPORT. What the operations and commands of Machine/Ops.lean keep (Kept). -/
namespace Sys2Proof.Machine

theorem kept_bump {s0 : State} (s : State) (f : Fld) (n : ℕ) (i : ℕ) (j : ℕ) (k : ℕ) (hk : Kept s0 s) :
    Kept s0 (State.bump s f n i j k) := by
  unfold State.bump
  repeat' first | (simp +contextual (maxDischargeDepth := 99) only [↓kept_wr, hk]; done) | split

theorem kept_lower {s0 : State} (s : State) (f : Fld) (n : ℕ) (i : ℕ) (j : ℕ) (k : ℕ) (hk : Kept s0 s) :
    Kept s0 (State.lower s f n i j k) := by
  unfold State.lower
  repeat' first | (simp +contextual (maxDischargeDepth := 99) only [↓kept_wr, hk]; done) | split

theorem kept_wrF {s0 : State} (s : State) (f : Fld) (v : ℕ) (i : ℕ) (j : ℕ) (k : ℕ) (hk : Kept s0 s) :
    Kept s0 (State.wrF s f v i j k) := by
  unfold State.wrF
  repeat' first | (simp +contextual (maxDischargeDepth := 99) only [↓kept_with, ↓kept_wr, hk]; done) | split

theorem kept_settleF {s0 : State} (s : State) (f : Fld) (i : ℕ) (j : ℕ) (k : ℕ) (hk : Kept s0 s) :
    Kept s0 (State.settleF s f i j k) := by
  unfold State.settleF
  repeat' first | (simp +contextual (maxDischargeDepth := 99) only [↓kept_with, hk]; done) | split

theorem kept_chWr {s0 : State} (s : State) (f : Fld) (v : ℕ) (ch : ℕ) (hk : Kept s0 s) :
    Kept s0 (State.chWr s f v ch) := by
  unfold State.chWr
  repeat' first | (simp +contextual (maxDischargeDepth := 99) only [↓kept_wr, hk]; done) | split

theorem kept_mWr {s0 : State} (s : State) (f : Fld) (v : ℕ) (m : ℕ) (hk : Kept s0 s) :
    Kept s0 (State.mWr s f v m) := by
  unfold State.mWr
  repeat' first | (simp +contextual (maxDischargeDepth := 99) only [↓kept_wr, hk]; done) | split

theorem kept_reach {s0 : State} (s : State) (f : ℕ) (hk : Kept s0 s) :
    Kept s0 (State.reach s f) := by
  unfold State.reach
  repeat' first | (simp +contextual (maxDischargeDepth := 99) only [↓kept_with, hk]; done) | split

theorem kept_once {s0 : State} (s : State) (key : ℕ) (f : ℕ) (hk : Kept s0 s) :
    Kept s0 (State.once s key f) := by
  unfold State.once
  repeat' first | (simp +contextual (maxDischargeDepth := 99) only [↓kept_with, ↓kept_reach, hk]; done) | split

theorem kept_draw {s0 : State} (s : State) (w : ℕ) (hk : Kept s0 s) :
    Kept s0 (State.draw s w).2 := by
  unfold State.draw
  try dsimp only
  repeat' first | with_reducible assumption | simp only [↓kept_with] | with_reducible apply kept_ite_fst | with_reducible apply kept_ite_snd | with_reducible apply kept_foldl_fst | with_reducible apply kept_ite | with_reducible apply kept_foldl | with_reducible apply keptOut_next | intro _ | split

theorem kept_emit {s0 : State} (s : State) (o : Out) (hk : Kept s0 s) :
    Kept s0 (State.emit s o) := by
  unfold State.emit
  repeat' first | (simp +contextual (maxDischargeDepth := 99) only [↓kept_with, hk]; done) | split

theorem kept_signalVec {s0 : State} (s : State) (die : ℕ) (vec : ℕ) (hk : Kept s0 s) :
    Kept s0 (State.signalVec s die vec) := by
  unfold State.signalVec
  repeat' first | (simp +contextual (maxDischargeDepth := 99) only [↓kept_ite, ↓kept_with, ↓kept_emit, hk]; done) | split

theorem kept_flushVecs {s0 : State} (s : State) (die : ℕ) (hk : Kept s0 s) :
    Kept s0 (State.flushVecs s die) := by
  unfold State.flushVecs
  repeat' first | (simp +contextual (maxDischargeDepth := 99) only [↓kept_with, hk]; done) | split

theorem kept_msix {s0 : State} (s : State) (vec : ℕ) (hk : Kept s0 s) :
    Kept s0 (State.msix s vec) := by
  unfold State.msix
  repeat' first | (simp +contextual (maxDischargeDepth := 99) only [↓kept_signalVec, hk]; done) | split

theorem kept_hptError {s0 : State} (s : State) (die : ℕ) (b : ℕ) (ring : ℕ) (addr : ℕ) (hk : Kept s0 s) :
    Kept s0 (State.hptError s die b ring addr) := by
  unfold State.hptError
  repeat' first | (simp +contextual (maxDischargeDepth := 99) only [↓kept_ite, ↓kept_signalVec, ↓kept_wr, hk]; done) | split

theorem kept_viaBar0 {s0 : State} (s : State) (die : ℕ) (addr : ℕ) (f : State → State) (hk : Kept s0 s) (h_f : ∀ y0, Kept s0 y0 → Kept s0 (f y0)) :
    Kept s0 (State.viaBar0 s die addr f) := by
  unfold State.viaBar0
  repeat' first | (simp +contextual (maxDischargeDepth := 99) only [↓kept_hptError, hk, h_f]; done) | split

theorem kept_cqRefresh {s0 : State} (s : State) (cq : ℕ) (hk : Kept s0 s) :
    Kept s0 (State.cqRefresh s cq) := by
  unfold State.cqRefresh
  repeat' first | (simp +contextual (maxDischargeDepth := 99) only [↓kept_ite, ↓kept_hptError, ↓kept_wr, hk]; done) | split

theorem kept_hptRefresh {s0 : State} (s : State) (ring : ℕ) (cq : ℕ) (hk : Kept s0 s) :
    Kept s0 (State.hptRefresh s ring cq) := by
  unfold State.hptRefresh
  repeat' first | (simp +contextual (maxDischargeDepth := 99) only [↓kept_cqRefresh, ↓kept_wr, hk]; done) | split

theorem kept_finish {s0 : State} (s : State) (d : Desc) (status : ℕ) (result : Option ℕ) (exe : ℕ) (flags : ℕ) (hk : Kept s0 s) :
    Kept s0 (State.finish s d status result exe flags) := by
  unfold State.finish
  repeat' first | (simp +contextual (maxDischargeDepth := 99) only [↓kept_ite, ↓kept_with, ↓kept_bump, ↓kept_draw, ↓kept_hptRefresh, hk]; done) | split

theorem kept_done {s0 : State} (s : State) (d : Desc) (status : ℕ) (result : (Option ℕ)) (hk : Kept s0 s) :
    Kept s0 (State.done s d status result) := by
  unfold State.done
  repeat' first | (simp +contextual (maxDischargeDepth := 99) only [↓kept_finish, hk]; done) | split

theorem kept_withDesc {s0 : State} (s : State) (id : ℕ) (f : Desc → State) (hk : Kept s0 s) (h_f : ∀ y0, Kept s0 (f y0)) :
    Kept s0 (State.withDesc s id f) := by
  unfold State.withDesc
  repeat' first | (simp +contextual (maxDischargeDepth := 99) only [hk, h_f]; done) | split

theorem kept_toHost {s0 : State} (s : State) (addr : ℕ) (bytes : List Byte) (hk : Kept s0 s) :
    Kept s0 (State.toHost s addr bytes) := by
  unfold State.toHost
  repeat' first | (simp +contextual (maxDischargeDepth := 99) only [↓kept_emit, hk]; done) | split

theorem kept_withOp {s0 : State} (s : State) (id : ℕ) (op : ℕ) (f : Desc → State) (hk : Kept s0 s) (h_f : ∀ y0, Kept s0 (f y0)) :
    Kept s0 (State.withOp s id op f) := by
  unfold State.withOp
  repeat' first | (simp +contextual (maxDischargeDepth := 99) only [implies_true, ↓kept_ite, ↓kept_withDesc, hk, h_f]; done) | split

theorem kept_poison {s0 : State} (s : State) (p : Bool) (ring : ℕ) (addr : ℕ) (hk : Kept s0 s) :
    Kept s0 (State.poison s p ring addr) := by
  unfold State.poison
  repeat' first | (simp +contextual (maxDischargeDepth := 99) only [↓kept_ite, ↓kept_hptError, hk]; done) | split

theorem kept_poisoned {s0 : State} (s : State) (p : Bool) (id : ℕ) (hk : Kept s0 s) :
    Kept s0 (State.poisoned s p id) := by
  unfold State.poisoned
  repeat' first | (simp +contextual (maxDischargeDepth := 99) only [↓kept_poison, hk]; done) | split

theorem kept_raise {s0 : State} (s : State) (source : ℕ) (info : ℕ) (die : ℕ) (hk : Kept s0 s) :
    Kept s0 (State.raise s source info die) := by
  unfold State.raise
  repeat' first | (simp +contextual (maxDischargeDepth := 99) only [↓kept_with, hk]; done) | split

theorem kept_uncorrectable {s0 : State} (s : State) (die : ℕ) (group : ℕ) (tile : ℕ) (addr : ℕ) (hk : Kept s0 s) :
    Kept s0 (State.uncorrectable s die group tile addr) := by
  unfold State.uncorrectable
  repeat' first | (simp +contextual (maxDischargeDepth := 99) only [implies_true, ↓kept_foldl, ↓kept_bump, ↓kept_raise, ↓kept_wr, hk]; done) | split

theorem kept_eccHit {s0 : State} (s : State) (ecc : Option EccHit) (tile : ℕ) (hk : Kept s0 s) :
    Kept s0 (State.eccHit s ecc tile) := by
  unfold State.eccHit
  repeat' first | (simp +contextual (maxDischargeDepth := 99) only [↓kept_uncorrectable, hk]; done) | split

theorem kept_occur {s0 : State} (s : State) (source : ℕ) (hk : Kept s0 s) :
    Kept s0 (State.occur s source) := by
  unfold State.occur
  repeat' first | (simp +contextual (maxDischargeDepth := 99) only [↓kept_with, hk]; done) | split

theorem kept_record {s0 : State} (s : State) (type : ℕ) (source : ℕ) (stamp : ℕ) (payload : List Byte) (hk : Kept s0 s) :
    Kept s0 (State.record s type source stamp payload) := by
  unfold State.record
  repeat' first | (simp +contextual (maxDischargeDepth := 99) only [↓kept_with, hk]; done) | split

theorem kept_recordP {s0 : State} (s : State) (type : ℕ) (source : ℕ) (stamp : ℕ) (frame : ℕ) (dflt : ℕ) (payload : List Byte) (hk : Kept s0 s) :
    Kept s0 (State.recordP s type source stamp frame dflt payload) := by
  unfold State.recordP
  repeat' first | (simp +contextual (maxDischargeDepth := 99) only [implies_true, ↓kept_ite, ↓kept_foldl, ↓kept_with, hk]; done) | split

theorem kept_clockOn {s0 : State} (s : State) (die : ℕ) (dom : ℕ) (hk : Kept s0 s) :
    Kept s0 (State.clockOn s die dom) := by
  unfold State.clockOn
  repeat' first | (simp +contextual (maxDischargeDepth := 99) only [↓kept_ite, ↓kept_with, ↓kept_bump, ↓kept_wr, hk]; done) | split

theorem kept_clocksOn {s0 : State} (s : State) (dom : ℕ) (hk : Kept s0 s) :
    Kept s0 (State.clocksOn s dom) := by
  unfold State.clocksOn
  repeat' first | (simp +contextual (maxDischargeDepth := 99) only [↓kept_clockOn, hk]; done) | split

theorem kept_clockWait {s0 : State} (s : State) (dom : ℕ) (since : ℕ) (hk : Kept s0 s) :
    Kept s0 (State.clockWait s dom since) := by
  unfold State.clockWait
  repeat' first | (simp +contextual (maxDischargeDepth := 99) only [↓kept_ite, ↓kept_clocksOn, ↓kept_draw, ↓kept_reach, hk]; done) | split

end Sys2Proof.Machine
end

