-- ==== Sys2Proof/Laws/KeptFabric.lean ====
section
/-! SUPPORT. What the operations and commands of Machine/Fabric.lean keep (Kept). -/
namespace Sys2Proof.Machine

theorem kept_recross {s0 : State} (s : State) (f : ℕ) (hk : Kept s0 s) :
    Kept s0 (State.recross s f) := by
  unfold State.recross
  repeat' first | (simp +contextual (maxDischargeDepth := 99) only [↓kept_with, hk]; done) | split

theorem kept_loadWord {s0 : State} (s : State) (e : ℕ) (hk : Kept s0 s) :
    Kept s0 (State.loadWord s e) := by
  unfold State.loadWord
  repeat' first | (simp +contextual (maxDischargeDepth := 99) only [↓kept_ite, ↓kept_chWr, hk]; done) | split

theorem kept_loadWords {s0 : State} (s : State) (hk : Kept s0 s) :
    Kept s0 (State.loadWords s) := by
  unfold State.loadWords
  repeat' first | (simp +contextual (maxDischargeDepth := 99) only [implies_true, ↓kept_foldl, ↓kept_chWr, ↓kept_loadWord, hk]; done) | split

theorem kept_plnReject {s0 : State} (s : State) (hk : Kept s0 s) :
    Kept s0 (State.plnReject s) := by
  unfold State.plnReject
  repeat' first | (simp +contextual (maxDischargeDepth := 99) only [↓kept_wr, hk]; done) | split

theorem kept_invalidate {s0 : State} (s : State) (hk : Kept s0 s) :
    Kept s0 (State.invalidate s) := by
  unfold State.invalidate
  repeat' first | (simp +contextual (maxDischargeDepth := 99) only [↓kept_with, ↓kept_wr, hk]; done) | split

theorem kept_tableS {s0 : State} (s : State) (addr : ℕ) (mask : ℕ) (value : ℕ) (hk : Kept s0 s) :
    Kept s0 (State.tableS s addr mask value).1 := by
  unfold State.tableS
  try dsimp only
  repeat' first | with_reducible assumption | simp only [↓kept_with] | with_reducible apply kept_ite_fst | with_reducible apply kept_ite_snd | with_reducible apply kept_foldl_fst | with_reducible apply kept_ite | with_reducible apply kept_foldl | with_reducible apply keptOut_next | with_reducible apply kept_invalidate | with_reducible apply kept_store | intro _ | split

theorem kept_tableOwner {s0 : State} (s : State) (addr : ℕ) (op : ℕ) (value : ℕ) (pinned : Bool) (hk : Kept s0 s) :
    Kept s0 (State.tableOwner s addr op value pinned).1 := by
  unfold State.tableOwner
  try dsimp only
  repeat' first | with_reducible assumption | simp only [↓kept_with] | with_reducible apply kept_ite_fst | with_reducible apply kept_ite_snd | with_reducible apply kept_foldl_fst | with_reducible apply kept_ite | with_reducible apply kept_foldl | with_reducible apply keptOut_next | with_reducible apply kept_invalidate | with_reducible apply kept_store | intro _ | split

theorem kept_tableCap {s0 : State} (s : State) (e : ℕ) (cap : ℕ) (hk : Kept s0 s) :
    Kept s0 (State.tableCap s e cap).1 := by
  unfold State.tableCap
  try dsimp only
  repeat' first | with_reducible assumption | simp only [↓kept_with] | with_reducible apply kept_ite_fst | with_reducible apply kept_ite_snd | with_reducible apply kept_foldl_fst | with_reducible apply kept_ite | with_reducible apply kept_foldl | with_reducible apply keptOut_next | with_reducible apply kept_chWr | with_reducible apply kept_invalidate | with_reducible apply kept_store | intro _ | split

theorem kept_elemWrite {s0 : State} (s : State) (e : ℕ) (w : ℕ) (value : ℕ) (hk : Kept s0 s) :
    Kept s0 (State.elemWrite s e w value).1 := by
  unfold State.elemWrite
  try dsimp only
  repeat' first | with_reducible assumption | simp only [↓kept_with] | with_reducible apply kept_ite_fst | with_reducible apply kept_ite_snd | with_reducible apply kept_foldl_fst | with_reducible apply kept_ite | with_reducible apply kept_foldl | with_reducible apply keptOut_next | with_reducible apply kept_tableCap | with_reducible apply kept_tableOwner | with_reducible apply kept_tableS | intro _ | split

theorem kept_markPort {s0 : State} (s : State) (p : ℕ) (hk : Kept s0 s) :
    Kept s0 (State.markPort s p) := by
  unfold State.markPort
  repeat' first | (simp +contextual (maxDischargeDepth := 99) only [↓kept_ite, ↓kept_with, hk]; done) | split

theorem kept_setDark {s0 : State} (s : State) (p : ℕ) (dark : Bool) (hk : Kept s0 s) :
    Kept s0 (State.setDark s p dark) := by
  unfold State.setDark
  try dsimp only
  repeat' first | with_reducible assumption | simp only [↓kept_with] | with_reducible apply kept_ite_fst | with_reducible apply kept_ite_snd | with_reducible apply kept_foldl_fst | with_reducible apply kept_ite | with_reducible apply kept_foldl | with_reducible apply keptOut_next | with_reducible apply kept_chWr | with_reducible apply kept_markPort | with_reducible apply kept_store | intro _ | split

theorem kept_portWrite {s0 : State} (s : State) (p : ℕ) (w : ℕ) (value : ℕ) (hk : Kept s0 s) :
    Kept s0 (State.portWrite s p w value).1 := by
  unfold State.portWrite
  try dsimp only
  repeat' first | with_reducible assumption | simp only [↓kept_with] | with_reducible apply kept_ite_fst | with_reducible apply kept_ite_snd | with_reducible apply kept_foldl_fst | with_reducible apply kept_ite | with_reducible apply kept_foldl | with_reducible apply keptOut_next | with_reducible apply kept_markPort | with_reducible apply kept_setDark | with_reducible apply kept_store | with_reducible apply kept_tableOwner | with_reducible apply kept_tableS | intro _ | split

theorem kept_fmapWrite {s0 : State} (s : State) (e : ℕ) (w : ℕ) (value : ℕ) (hk : Kept s0 s) :
    Kept s0 (State.fmapWrite s e w value).1 := by
  unfold State.fmapWrite
  try dsimp only
  repeat' first | with_reducible assumption | simp only [↓kept_with] | with_reducible apply kept_ite_fst | with_reducible apply kept_ite_snd | with_reducible apply kept_foldl_fst | with_reducible apply kept_ite | with_reducible apply kept_foldl | with_reducible apply keptOut_next | with_reducible apply kept_tableS | intro _ | split

theorem kept_fabricWord {s0 : State} (s : State) (addr : ℕ) (value : ℕ) (hk : Kept s0 s) :
    Kept s0 (State.fabricWord s addr value).1 := by
  unfold State.fabricWord
  try dsimp only
  repeat' first | with_reducible assumption | simp only [↓kept_with] | with_reducible apply kept_ite_fst | with_reducible apply kept_ite_snd | with_reducible apply kept_foldl_fst | with_reducible apply kept_ite | with_reducible apply kept_foldl | with_reducible apply keptOut_next | with_reducible apply kept_elemWrite | with_reducible apply kept_fmapWrite | with_reducible apply kept_portWrite | intro _ | split

theorem kept_fabricWrite {s0 : State} (s : State) (addr : ℕ) (value : ℕ) (hk : Kept s0 s) :
    Kept s0 (State.fabricWrite s addr value).1 := by
  unfold State.fabricWrite
  try dsimp only
  repeat' first | with_reducible assumption | simp only [↓kept_with] | with_reducible apply kept_ite_fst | with_reducible apply kept_ite_snd | with_reducible apply kept_foldl_fst | with_reducible apply kept_ite | with_reducible apply kept_foldl | with_reducible apply keptOut_next | with_reducible apply kept_fabricWord | with_reducible apply kept_plnReject | intro _ | split

theorem kept_execFabricTableWrite {s0 : State} (die : Fin 2) (addr : Word) (value : Word) (s : State) (hk : Kept s0 s) :
    KeptOut s0 (execFabricTableWrite die addr value s) := by
  unfold execFabricTableWrite
  repeat' first | (simp +contextual (maxDischargeDepth := 99) only [implies_true, ↓keptOut_next, ↓kept_fabricWrite, ↓kept_viaBar0, hk]; done) | split

theorem kept_execDarkSet {s0 : State} (die : Fin 2) (port : Fin 2048) (s : State) (hk : Kept s0 s) :
    KeptOut s0 (execDarkSet die port s) := by
  unfold execDarkSet
  repeat' first | (simp +contextual (maxDischargeDepth := 99) only [implies_true, ↓keptOut_next, ↓kept_setDark, ↓kept_viaBar0, hk]; done) | split

theorem kept_execDarkClear {s0 : State} (die : Fin 2) (port : Fin 2048) (domain : Fin 17) (s : State) (hk : Kept s0 s) :
    KeptOut s0 (execDarkClear die port domain s) := by
  unfold execDarkClear
  repeat' first | (simp +contextual (maxDischargeDepth := 99) only [implies_true, ↓kept_ite, ↓keptOut_next, ↓kept_plnReject, ↓kept_setDark, ↓kept_viaBar0, hk]; done) | split

theorem kept_execValidate {s0 : State} (die : Fin 2) (s : State) (hk : Kept s0 s) :
    KeptOut s0 (execValidate die s) := by
  unfold execValidate
  repeat' first | (simp +contextual (maxDischargeDepth := 99) only [implies_true, ↓kept_ite, ↓kept_with, ↓keptOut_next, ↓kept_clocksOn, ↓kept_plnReject, ↓kept_viaBar0, ↓kept_wr, hk]; done) | split

theorem kept_execValidationDone {s0 : State} (s : State) (hk : Kept s0 s) :
    KeptOut s0 (execValidationDone s) := by
  unfold execValidationDone
  repeat' first | (simp +contextual (maxDischargeDepth := 99) only [↓keptOut_next, ↓kept_wr, hk]; done) | split

theorem kept_execCrossingSetDone {s0 : State} (s : State) (hk : Kept s0 s) :
    KeptOut s0 (execCrossingSetDone s) := by
  unfold execCrossingSetDone
  repeat' first | (simp +contextual (maxDischargeDepth := 99) only [implies_true, ↓kept_foldl, ↓kept_with, ↓keptOut_next, ↓kept_markPort, ↓kept_wr, hk]; done) | split

end Sys2Proof.Machine
end

