-- ==== Sys2Proof/Laws/KeptShapes.lean ====
section
/-! SUPPORT. What the operations and commands of Machine/Shapes.lean keep (Kept). -/
namespace Sys2Proof.Machine

theorem kept_setCtxState {s0 : State} (s : State) (x : ℕ) (v : ℕ) (hk : Kept s0 s) :
    Kept s0 (State.setCtxState s x v) := by
  unfold State.setCtxState
  repeat' first | (simp +contextual (maxDischargeDepth := 99) only [↓kept_store, hk]; done) | split

theorem kept_duskClass {s0 : State} (s : State) (ch : ℕ) (cls : ℕ) (hk : Kept s0 s) :
    Kept s0 (State.duskClass s ch cls).2 := by
  unfold State.duskClass
  try dsimp only
  repeat' first | with_reducible assumption | simp only [↓kept_with] | with_reducible apply kept_ite_fst | with_reducible apply kept_ite_snd | with_reducible apply kept_foldl_fst | with_reducible apply kept_ite | with_reducible apply kept_foldl | with_reducible apply keptOut_next | intro _ | split

theorem kept_setCclass {s0 : State} (s : State) (ch : ℕ) (v : ℕ) (hk : Kept s0 s) :
    Kept s0 (State.setCclass s ch v) := by
  unfold State.setCclass
  repeat' first | (simp +contextual (maxDischargeDepth := 99) only [↓kept_store, hk]; done) | split

theorem kept_discardLoops {s0 : State} (s : State) (p : ℕ → Bool) (hk : Kept s0 s) :
    Kept s0 (State.discardLoops s p) := by
  unfold State.discardLoops
  repeat' first | (simp +contextual (maxDischargeDepth := 99) only [↓kept_with, ↓kept_bump, hk]; done) | split

theorem kept_moveCtx {s0 : State} (s : State) (ch : ℕ) (src : ℕ) (dst : ℕ) (hk : Kept s0 s) :
    Kept s0 (State.moveCtx s ch src dst) := by
  unfold State.moveCtx
  repeat' first | (simp +contextual (maxDischargeDepth := 99) only [implies_true, ↓kept_ite, ↓kept_foldl, ↓kept_setCtxState, hk]; done) | split

theorem kept_pauseLoops {s0 : State} (s : State) (ch : ℕ) (hk : Kept s0 s) :
    Kept s0 (State.pauseLoops s ch) := by
  unfold State.pauseLoops
  repeat' first | (simp +contextual (maxDischargeDepth := 99) only [↓kept_with, ↓kept_discardLoops, ↓kept_moveCtx, ↓kept_setCclass, hk]; done) | split

theorem kept_resumeLoops {s0 : State} (s : State) (ch : ℕ) (cls : ℕ) (after : ℕ) (hk : Kept s0 s) :
    Kept s0 (State.resumeLoops s ch cls after) := by
  unfold State.resumeLoops
  repeat' first | (simp +contextual (maxDischargeDepth := 99) only [↓kept_ite, ↓kept_with, ↓kept_duskClass, hk]; done) | split

theorem kept_dropChange {s0 : State} (s : State) (ch : ℕ) (hk : Kept s0 s) :
    Kept s0 (State.dropChange s ch) := by
  unfold State.dropChange
  repeat' first | (simp +contextual (maxDischargeDepth := 99) only [↓kept_with, ↓kept_setCclass, hk]; done) | split

theorem kept_genCount {s0 : State} (s : State) (hk : Kept s0 s) :
    Kept s0 (State.genCount s) := by
  unfold State.genCount
  repeat' first | (simp +contextual (maxDischargeDepth := 99) only [↓kept_wr, hk]; done) | split

theorem kept_withdraw {s0 : State} (s : State) (rank : ℕ) (ch : ℕ) (f : ℕ) (hk : Kept s0 s) :
    Kept s0 (State.withdraw s rank ch f) := by
  unfold State.withdraw
  repeat' first | (simp +contextual (maxDischargeDepth := 99) only [↓kept_with, ↓kept_bump, hk]; done) | split

theorem kept_releaseGen {s0 : State} (s : State) (ch : ℕ) (hk : Kept s0 s) :
    Kept s0 (State.releaseGen s ch) := by
  unfold State.releaseGen
  repeat' first | (simp +contextual (maxDischargeDepth := 99) only [↓kept_with, ↓kept_genCount, hk]; done) | split

theorem kept_playerRefresh {s0 : State} (s : State) (p : Player) (hk : Kept s0 s) :
    Kept s0 (State.playerRefresh s p) := by
  unfold State.playerRefresh
  repeat' first | (simp +contextual (maxDischargeDepth := 99) only [↓kept_wr, hk]; done) | split

theorem kept_setPlayer {s0 : State} (s : State) (p : Player) (hk : Kept s0 s) :
    Kept s0 (State.setPlayer s p) := by
  unfold State.setPlayer
  repeat' first | (simp +contextual (maxDischargeDepth := 99) only [↓kept_with, ↓kept_playerRefresh, hk]; done) | split

theorem kept_stopPlayer {s0 : State} (s : State) (p : Player) (status : ℕ) (hk : Kept s0 s) :
    Kept s0 (State.stopPlayer s p status) := by
  unfold State.stopPlayer
  repeat' first | (simp +contextual (maxDischargeDepth := 99) only [implies_true, ↓kept_ite, ↓kept_foldl, ↓kept_with, ↓kept_done, ↓kept_finish, ↓kept_occur, ↓kept_resumeLoops, ↓kept_withDesc, ↓kept_wr, hk]; done) | split

end Sys2Proof.Machine
end

