-- ==== Sys2Proof/Laws/KeptPlanCheck.lean ====
section
/-! SUPPORT. What the operations and commands of Machine/PlanCheck.lean keep (Kept). -/
namespace Sys2Proof.Machine

theorem kept_setSrcBit {s0 : State} (s : State) (f : Fld) (source : ℕ) (v : Bool) (hk : Kept s0 s) :
    Kept s0 (State.setSrcBit s f source v) := by
  unfold State.setSrcBit
  repeat' first | (simp +contextual (maxDischargeDepth := 99) only [↓kept_wr, hk]; done) | split

theorem kept_execPlanLoad {s0 : State} (id : ℕ) (s : State) (hk : Kept s0 s) :
    KeptOut s0 (execPlanLoad id s) := by
  unfold execPlanLoad
  repeat' first | (simp +contextual (maxDischargeDepth := 99) only [implies_true, ↓kept_ite, ↓kept_with, ↓keptOut_next, ↓kept_clocksOn, ↓kept_done, ↓kept_emit, ↓kept_withOp, hk]; done) | split

theorem kept_execPlanCheck {s0 : State} (id : ℕ) (read : PlanRead) (ecc : Option EccHit) (s : State) (hk : Kept s0 s) :
    KeptOut s0 (execPlanCheck id read ecc s) := by
  unfold execPlanCheck
  repeat' first | (simp +contextual (maxDischargeDepth := 99) only [implies_true, ↓kept_ite, ↓kept_with, ↓keptOut_next, ↓kept_done, ↓kept_eccHit, ↓kept_poisoned, ↓kept_withOp, ↓kept_wr, hk]; done) | split

theorem kept_execPlanFree {s0 : State} (id : ℕ) (s : State) (hk : Kept s0 s) :
    KeptOut s0 (execPlanFree id s) := by
  unfold execPlanFree
  try dsimp only
  repeat' first | with_reducible assumption | simp only [↓kept_with] | with_reducible apply kept_ite_fst | with_reducible apply kept_ite_snd | with_reducible apply kept_foldl_fst | with_reducible apply kept_ite | with_reducible apply kept_foldl | with_reducible apply keptOut_next | with_reducible apply kept_done | with_reducible apply kept_withOp | intro _ | split

end Sys2Proof.Machine
end

