-- ==== Sys2Proof/Laws/KeptSched.lean ====
section
/-! SUPPORT. What the operations and commands of Machine/Sched.lean keep (Kept). -/
namespace Sys2Proof.Machine

theorem kept_setStat {s0 : State} (s : State) (q : ℕ) (k : ℕ) (v : ℕ) (hk : Kept s0 s) :
    Kept s0 (State.setStat s q k v) := by
  unfold State.setStat
  repeat' first | (simp +contextual (maxDischargeDepth := 99) only [↓kept_with, hk]; done) | split

theorem kept_enqueue {s0 : State} (s : State) (r : Req) (hk : Kept s0 s) :
    Kept s0 (State.enqueue s r) := by
  unfold State.enqueue
  repeat' first | (simp +contextual (maxDischargeDepth := 99) only [↓kept_with, ↓kept_setStat, hk]; done) | split

theorem kept_noteHol {s0 : State} (s : State) (r : Req) (hk : Kept s0 s) :
    Kept s0 (State.noteHol s r) := by
  unfold State.noteHol
  repeat' first | (simp +contextual (maxDischargeDepth := 99) only [↓kept_setStat, ↓kept_wr, hk]; done) | split

theorem kept_dequeue {s0 : State} (s : State) (p : Req → Bool) (hk : Kept s0 s) :
    Kept s0 (State.dequeue s p) := by
  unfold State.dequeue
  repeat' first | (simp +contextual (maxDischargeDepth := 99) only [implies_true, ↓kept_foldl, ↓kept_with, ↓kept_noteHol, hk]; done) | split

theorem kept_accrue {s0 : State} (s : State) (hk : Kept s0 s) :
    Kept s0 (State.accrue s) := by
  unfold State.accrue
  repeat' first | (simp +contextual (maxDischargeDepth := 99) only [↓kept_with, hk]; done) | split

theorem kept_debit {s0 : State} (s : State) (b : ℕ) (cost : ℕ) (hk : Kept s0 s) :
    Kept s0 (State.debit s b cost) := by
  unfold State.debit
  repeat' first | (simp +contextual (maxDischargeDepth := 99) only [↓kept_ite, ↓kept_with, ↓kept_accrue, hk]; done) | split

theorem kept_debits {s0 : State} (s : State) (r : Req) (hk : Kept s0 s) :
    Kept s0 (State.debits s r) := by
  unfold State.debits
  repeat' first | (simp +contextual (maxDischargeDepth := 99) only [↓kept_ite, ↓kept_debit, hk]; done) | split

theorem kept_clampBurst {s0 : State} (s : State) (b : ℕ) (hk : Kept s0 s) :
    Kept s0 (State.clampBurst s b) := by
  unfold State.clampBurst
  repeat' first | (simp +contextual (maxDischargeDepth := 99) only [↓kept_with, ↓kept_accrue, hk]; done) | split

theorem kept_noteHeld {s0 : State} (s : State) (l : List (Req × ℕ)) (hk : Kept s0 s) :
    Kept s0 (State.noteHeld s l) := by
  unfold State.noteHeld
  repeat' first | (simp +contextual (maxDischargeDepth := 99) only [implies_true, ↓kept_foldl, ↓kept_setStat, hk]; done) | split

theorem kept_noteEngine {s0 : State} (s : State) (hk : Kept s0 s) :
    Kept s0 (State.noteEngine s) := by
  unfold State.noteEngine
  repeat' first | (simp +contextual (maxDischargeDepth := 99) only [↓kept_noteHeld, hk]; done) | split

theorem kept_admitReq {s0 : State} (s : State) (r : Req) (hk : Kept s0 s) :
    Kept s0 (State.admitReq s r) := by
  unfold State.admitReq
  repeat' first | (simp +contextual (maxDischargeDepth := 99) only [↓kept_with, ↓kept_debits, ↓kept_dequeue, ↓kept_setStat, ↓kept_wr, hk]; done) | split

theorem kept_execQueueSample {s0 : State} (s : State) (hk : Kept s0 s) :
    KeptOut s0 (execQueueSample s) := by
  unfold execQueueSample
  repeat' first | (simp +contextual (maxDischargeDepth := 99) only [implies_true, ↓kept_ite, ↓kept_foldl, ↓kept_with, ↓keptOut_next, ↓kept_noteEngine, ↓kept_once, ↓kept_record, hk]; done) | split

theorem kept_execBucketBurstWrite {s0 : State} (die : Fin 2) (bucket : Fin 10) (burst : BitVec 24) (s : State) (hk : Kept s0 s) :
    KeptOut s0 (execBucketBurstWrite die bucket burst s) := by
  unfold execBucketBurstWrite
  repeat' first | (simp +contextual (maxDischargeDepth := 99) only [implies_true, ↓kept_ite, ↓keptOut_next, ↓kept_accrue, ↓kept_clampBurst, ↓kept_viaBar0, ↓kept_wr, hk]; done) | split

theorem kept_execStatClr {s0 : State} (die : Fin 2) (s : State) (hk : Kept s0 s) :
    KeptOut s0 (execStatClr die s) := by
  unfold execStatClr
  repeat' first | (simp +contextual (maxDischargeDepth := 99) only [implies_true, ↓kept_foldl, ↓keptOut_next, ↓kept_viaBar0, ↓kept_wr, hk]; done) | split

end Sys2Proof.Machine
end

