-- ==== Sys2Proof/Laws/KeptTile.lean ====
section
/-! SUPPORT. What the operations and commands of Machine/Tile.lean keep (Kept). -/
namespace Sys2Proof.Machine

theorem kept_override {s0 : State} (s : State) (ch : ℕ) (n : ℕ) (hk : Kept s0 s) :
    Kept s0 (State.override s ch n) := by
  unfold State.override
  repeat' first | (simp +contextual (maxDischargeDepth := 99) only [↓kept_bump, hk]; done) | split

theorem kept_setLive {s0 : State} (s : State) (ch : ℕ) (code : ℕ) (f : ℕ) (hk : Kept s0 s) :
    Kept s0 (State.setLive s ch code f) := by
  unfold State.setLive
  repeat' first | (simp +contextual (maxDischargeDepth := 99) only [↓kept_ite, ↓kept_with, ↓kept_chWr, ↓kept_override, hk]; done) | split

theorem kept_applyDue {s0 : State} (s : State) (tile : ℕ) (due : List CodeWrite) (ch : ℕ) (hk : Kept s0 s) :
    Kept s0 (State.applyDue s tile due ch) := by
  unfold State.applyDue
  try dsimp only
  repeat' first | with_reducible assumption | simp only [↓kept_with] | with_reducible apply kept_ite_fst | with_reducible apply kept_ite_snd | with_reducible apply kept_foldl_fst | with_reducible apply kept_ite | with_reducible apply kept_foldl | with_reducible apply keptOut_next | with_reducible apply kept_chWr | with_reducible apply kept_override | intro _ | split

theorem kept_dueAgain {s0 : State} (s : State) (u : ℕ) (hk : Kept s0 s) :
    Kept s0 (State.dueAgain s u) := by
  unfold State.dueAgain
  repeat' first | (simp +contextual (maxDischargeDepth := 99) only [↓kept_ite, ↓kept_with, hk]; done) | split

theorem kept_wake {s0 : State} (s : State) (ch : ℕ) (hk : Kept s0 s) :
    Kept s0 (State.wake s ch) := by
  unfold State.wake
  repeat' first | (simp +contextual (maxDischargeDepth := 99) only [↓kept_chWr, ↓kept_dueAgain, hk]; done) | split

theorem kept_setAcc {s0 : State} (s : State) (ch : ℕ) (phi : ℕ) (f : ℕ) (hk : Kept s0 s) :
    Kept s0 (State.setAcc s ch phi f) := by
  unfold State.setAcc
  repeat' first | (simp +contextual (maxDischargeDepth := 99) only [↓kept_with, hk]; done) | split

theorem kept_freezePhase {s0 : State} (s : State) (ch : ℕ) (hk : Kept s0 s) :
    Kept s0 (State.freezePhase s ch) := by
  unfold State.freezePhase
  repeat' first | (simp +contextual (maxDischargeDepth := 99) only [↓kept_ite, ↓kept_setAcc, hk]; done) | split

theorem kept_setDither {s0 : State} (s : State) (ch : ℕ) (d : DitherSet) (hk : Kept s0 s) :
    Kept s0 (State.setDither s ch d) := by
  unfold State.setDither
  repeat' first | (simp +contextual (maxDischargeDepth := 99) only [↓kept_chWr, ↓kept_freezePhase, hk]; done) | split

theorem kept_setSpare {s0 : State} (s : State) (ch : ℕ) (reason : ℕ) (pos : ℕ) (hk : Kept s0 s) :
    Kept s0 (State.setSpare s ch reason pos) := by
  unfold State.setSpare
  repeat' first | (simp +contextual (maxDischargeDepth := 99) only [↓kept_ite, ↓kept_with, ↓kept_wr, hk]; done) | split

theorem kept_unspare {s0 : State} (s : State) (ch : ℕ) (hk : Kept s0 s) :
    Kept s0 (State.unspare s ch) := by
  unfold State.unspare
  repeat' first | (simp +contextual (maxDischargeDepth := 99) only [↓kept_chWr, ↓kept_setSpare, hk]; done) | split

theorem kept_abandonMeas {s0 : State} (s : State) (p : Meas → Bool) (hk : Kept s0 s) :
    Kept s0 (State.abandonMeas s p) := by
  unfold State.abandonMeas
  repeat' first | (simp +contextual (maxDischargeDepth := 99) only [implies_true, ↓kept_foldl, ↓kept_with, ↓kept_unspare, hk]; done) | split

end Sys2Proof.Machine
end

