-- ==== Sys2Proof/Laws/KeptFastPath.lean ====
section
/-! SUPPORT. What the operations and commands of Machine/FastPath.lean keep (Kept). -/
namespace Sys2Proof.Machine

theorem kept_setFast {s0 : State} (s : State) (m : ℕ) (raw : ℕ) (v : FastVal) (hk : Kept s0 s) :
    Kept s0 (State.setFast s m raw v) := by
  unfold State.setFast
  repeat' first | (simp +contextual (maxDischargeDepth := 99) only [↓kept_mWr, hk]; done) | split

end Sys2Proof.Machine
end

