-- ==== Sys2Proof/Laws/KeptCommit.lean ====
section
/-! SUPPORT. What the operations and commands of Machine/Commit.lean keep (Kept). -/
namespace Sys2Proof.Machine

theorem kept_execPlanCommit {s0 : State} (id : ℕ) (s : State) (hk : Kept s0 s) :
    KeptOut s0 (execPlanCommit id s) := by
  unfold execPlanCommit
  repeat' first | (simp +contextual (maxDischargeDepth := 99) only [implies_true, ↓kept_ite, ↓keptOut_next, ↓kept_done, ↓kept_enqueue, ↓kept_withOp, hk]; done) | split

theorem kept_cancel {s0 : State} (s : State) (p : Req → Bool) (status : ℕ) (hk : Kept s0 s) :
    Kept s0 (State.cancel s p status) := by
  unfold State.cancel
  try dsimp only
  repeat' first | with_reducible assumption | simp only [↓kept_with] | with_reducible apply kept_ite_fst | with_reducible apply kept_ite_snd | with_reducible apply kept_foldl_fst | with_reducible apply kept_ite | with_reducible apply kept_foldl | with_reducible apply keptOut_next | with_reducible apply kept_dequeue | with_reducible apply kept_done | with_reducible apply kept_withDesc | with_reducible apply kept_wr | intro _ | split

theorem kept_execPlanAbort {s0 : State} (id : ℕ) (s : State) (hk : Kept s0 s) :
    KeptOut s0 (execPlanAbort id s) := by
  unfold execPlanAbort
  repeat' first | (simp +contextual (maxDischargeDepth := 99) only [implies_true, ↓kept_ite, ↓keptOut_next, ↓kept_cancel, ↓kept_done, ↓kept_withOp, hk]; done) | split

theorem kept_endStart {s0 : State} (s : State) (r : Req) (status : ℕ) (entry : ℕ) (exe : ℕ) (flags : ℕ) (hk : Kept s0 s) :
    Kept s0 (State.endStart s r status entry exe flags) := by
  unfold State.endStart
  repeat' first | (simp +contextual (maxDischargeDepth := 99) only [implies_true, ↓kept_ite, ↓kept_with, ↓kept_finish, ↓kept_withDesc, hk]; done) | split

theorem kept_orbitSkip {s0 : State} (s : State) (hk : Kept s0 s) :
    Kept s0 (State.orbitSkip s) := by
  unfold State.orbitSkip
  repeat' first | (simp +contextual (maxDischargeDepth := 99) only [↓kept_bump, hk]; done) | split

theorem kept_endUnmade {s0 : State} (s : State) (r : Req) (status : ℕ) (exe : ℕ) (hk : Kept s0 s) :
    Kept s0 (State.endUnmade s r status exe) := by
  unfold State.endUnmade
  repeat' first | (simp +contextual (maxDischargeDepth := 99) only [implies_true, ↓kept_endStart, ↓kept_finish, ↓kept_orbitSkip, ↓kept_withDesc, hk]; done) | split

theorem kept_markSuspended {s0 : State} (s : State) (hk : Kept s0 s) :
    Kept s0 (State.markSuspended s) := by
  unfold State.markSuspended
  repeat' first | (simp +contextual (maxDischargeDepth := 99) only [↓kept_with, hk]; done) | split

theorem kept_endCycle {s0 : State} (s : State) (hk : Kept s0 s) :
    Kept s0 (State.endCycle s) := by
  unfold State.endCycle
  repeat' first | (simp +contextual (maxDischargeDepth := 99) only [↓kept_with, ↓kept_markSuspended, ↓kept_noteEngine, ↓kept_wr, hk]; done) | split

theorem kept_resumeOld {s0 : State} (s : State) (chans : List ℕ) (after : ℕ) (hk : Kept s0 s) :
    Kept s0 (State.resumeOld s chans after) := by
  unfold State.resumeOld
  repeat' first | (simp +contextual (maxDischargeDepth := 99) only [implies_true, ↓kept_ite, ↓kept_foldl, ↓kept_resumeLoops, hk]; done) | split

theorem kept_abandonSweep {s0 : State} (s : State) (hk : Kept s0 s) :
    Kept s0 (State.abandonSweep s) := by
  unfold State.abandonSweep
  repeat' first | (simp +contextual (maxDischargeDepth := 99) only [implies_true, ↓kept_ite, ↓kept_with, ↓kept_dequeue, ↓kept_done, ↓kept_enqueue, ↓kept_withDesc, hk]; done) | split

theorem kept_beginCycle {s0 : State} (s : State) (r : Req) (hk : Kept s0 s) :
    Kept s0 (State.beginCycle s r) := by
  unfold State.beginCycle
  repeat' first | (simp +contextual (maxDischargeDepth := 99) only [implies_true, ↓kept_ite, ↓kept_foldl, ↓kept_with, ↓kept_abandonSweep, ↓kept_bump, ↓kept_endCycle, ↓kept_endUnmade, ↓kept_pauseLoops, ↓kept_reach, ↓kept_resumeOld, ↓kept_stopPlayer, ↓kept_wr, hk]; done) | split

theorem kept_beginOrbit {s0 : State} (s : State) (r : Req) (entry : ℕ) (hk : Kept s0 s) :
    Kept s0 (State.beginOrbit s r entry) := by
  unfold State.beginOrbit
  repeat' first | (simp +contextual (maxDischargeDepth := 99) only [↓kept_ite, ↓kept_beginCycle, ↓kept_bump, ↓kept_endStart, ↓kept_orbitSkip, ↓kept_wr, hk]; done) | split

theorem kept_beginJoin {s0 : State} (s : State) (r : Req) (hk : Kept s0 s) :
    Kept s0 (State.beginJoin s r) := by
  unfold State.beginJoin
  repeat' first | (simp +contextual (maxDischargeDepth := 99) only [↓kept_ite, ↓kept_with, ↓kept_beginCycle, hk]; done) | split

theorem kept_admitNow {s0 : State} (s : State) (r : Req) (hk : Kept s0 s) :
    Kept s0 (State.admitNow s r) := by
  unfold State.admitNow
  repeat' first | (simp +contextual (maxDischargeDepth := 99) only [↓kept_ite, ↓kept_admitReq, ↓kept_beginCycle, ↓kept_beginJoin, ↓kept_beginOrbit, ↓kept_dequeue, hk]; done) | split

theorem kept_rejectLate {s0 : State} (s : State) (hk : Kept s0 s) :
    Kept s0 (State.rejectLate s) := by
  unfold State.rejectLate
  repeat' first | (simp +contextual (maxDischargeDepth := 99) only [↓kept_cancel, hk]; done) | split

theorem kept_spoilCycle {s0 : State} (s : State) (ecc : Option EccHit) (hk : Kept s0 s) :
    Kept s0 (State.spoilCycle s ecc) := by
  unfold State.spoilCycle
  repeat' first | (simp +contextual (maxDischargeDepth := 99) only [↓kept_eccHit, ↓kept_endCycle, ↓kept_endUnmade, ↓kept_reach, ↓kept_resumeOld, hk]; done) | split

theorem kept_planClock {s0 : State} (s : State) (hk : Kept s0 s) :
    Kept s0 (State.planClock s) := by
  unfold State.planClock
  repeat' first | (simp +contextual (maxDischargeDepth := 99) only [↓kept_ite, ↓kept_clockWait, ↓kept_clocksOn, hk]; done) | split

theorem kept_execCommitAdmit {s0 : State} (ecc : Option EccHit) (s : State) (hk : Kept s0 s) :
    KeptOut s0 (execCommitAdmit ecc s) := by
  unfold execCommitAdmit
  try dsimp only
  repeat' first | with_reducible assumption | simp only [↓kept_with] | with_reducible apply kept_ite_fst | with_reducible apply kept_ite_snd | with_reducible apply kept_foldl_fst | with_reducible apply kept_ite | with_reducible apply kept_foldl | with_reducible apply keptOut_next | with_reducible apply kept_admitNow | with_reducible apply kept_noteHeld | with_reducible apply kept_planClock | with_reducible apply kept_reach | with_reducible apply kept_rejectLate | with_reducible apply kept_spoilCycle | with_reducible apply kept_wr | intro _ | split

theorem kept_execReapplyAdmit {s0 : State} (s : State) (hk : Kept s0 s) :
    KeptOut s0 (execReapplyAdmit s) := by
  unfold execReapplyAdmit
  repeat' first | (simp +contextual (maxDischargeDepth := 99) only [↓kept_ite, ↓keptOut_next, ↓kept_admitReq, ↓kept_beginCycle, ↓kept_noteHeld, ↓kept_planClock, ↓kept_reach, ↓kept_wr, hk]; done) | split

theorem kept_stageOne {s0 : State} (s : State) (w : Stage) (hk : Kept s0 s) :
    Kept s0 (State.stageOne s w) := by
  unfold State.stageOne
  repeat' first | (simp +contextual (maxDischargeDepth := 99) only [↓kept_with, ↓kept_chWr, ↓kept_override, hk]; done) | split

theorem kept_stageLate {s0 : State} (s : State) (f : ℕ) (dwelt : Bool) (w : Stage) (hk : Kept s0 s) :
    Kept s0 (State.stageLate s f dwelt w) := by
  unfold State.stageLate
  repeat' first | (simp +contextual (maxDischargeDepth := 99) only [↓kept_ite, ↓kept_chWr, ↓kept_setLive, ↓kept_stageOne, hk]; done) | split

theorem kept_putDither {s0 : State} (s : State) (d : DitherStage) (hk : Kept s0 s) :
    Kept s0 (State.putDither s d) := by
  unfold State.putDither
  repeat' first | (simp +contextual (maxDischargeDepth := 99) only [↓kept_with, hk]; done) | split

theorem kept_stageDither {s0 : State} (s : State) (w : ℕ × Bool × DitherSet) (hk : Kept s0 s) :
    Kept s0 (State.stageDither s w) := by
  unfold State.stageDither
  repeat' first | (simp +contextual (maxDischargeDepth := 99) only [↓kept_ite, ↓kept_with, ↓kept_putDither, hk]; done) | split

theorem kept_untake {s0 : State} (s : State) (t : Took) (hk : Kept s0 s) :
    Kept s0 (State.untake s t) := by
  unfold State.untake
  repeat' first | (simp +contextual (maxDischargeDepth := 99) only [↓kept_ite, ↓kept_with, ↓kept_chWr, hk]; done) | split

theorem kept_unstage {s0 : State} (s : State) (tile : ℕ) (k : ℕ) (hk : Kept s0 s) :
    Kept s0 (State.unstage s tile k) := by
  unfold State.unstage
  repeat' first | (simp +contextual (maxDischargeDepth := 99) only [implies_true, ↓kept_foldl, ↓kept_with, ↓kept_putDither, ↓kept_untake, hk]; done) | split

theorem kept_restage {s0 : State} (s : State) (tile : ℕ) (hk : Kept s0 s) :
    Kept s0 (State.restage s tile) := by
  unfold State.restage
  repeat' first | (simp +contextual (maxDischargeDepth := 99) only [implies_true, ↓kept_ite, ↓kept_foldl, ↓kept_with, ↓kept_stageDither, ↓kept_stageLate, ↓kept_stageOne, hk]; done) | split

theorem kept_sendStaging {s0 : State} (s : State) (c : Cycle) (hk : Kept s0 s) :
    Kept s0 (State.sendStaging s c) := by
  unfold State.sendStaging
  repeat' first | (simp +contextual (maxDischargeDepth := 99) only [implies_true, ↓kept_ite, ↓kept_foldl, ↓kept_with, ↓kept_reach, ↓kept_stageDither, ↓kept_stageLate, ↓kept_stageOne, hk]; done) | split

theorem kept_askFinal {s0 : State} (s : State) (r : Req) (hk : Kept s0 s) :
    Kept s0 (State.askFinal s r) := by
  unfold State.askFinal
  repeat' first | (simp +contextual (maxDischargeDepth := 99) only [↓kept_ite, ↓kept_enqueue, hk]; done) | split

theorem kept_cancelCycle {s0 : State} (s : State) (status : ℕ) (hk : Kept s0 s) :
    Kept s0 (State.cancelCycle s status) := by
  unfold State.cancelCycle
  repeat' first | (simp +contextual (maxDischargeDepth := 99) only [implies_true, ↓kept_foldl, ↓kept_with, ↓kept_askFinal, ↓kept_chWr, ↓kept_endCycle, ↓kept_endUnmade, ↓kept_resumeOld, ↓kept_withdraw, hk]; done) | split

theorem kept_execCommitStaging {s0 : State} (s : State) (hk : Kept s0 s) :
    KeptOut s0 (execCommitStaging s) := by
  unfold execCommitStaging
  repeat' first | (simp +contextual (maxDischargeDepth := 99) only [↓kept_ite, ↓kept_with, ↓keptOut_next, ↓kept_cancelCycle, ↓kept_reach, ↓kept_sendStaging, ↓kept_wr, hk]; done) | split

theorem kept_startGen {s0 : State} (s : State) (c : Cycle) (x : Stage) (num : ℕ) (cls : ℕ) (hk : Kept s0 s) :
    Kept s0 (State.startGen s c x num cls) := by
  unfold State.startGen
  repeat' first | (simp +contextual (maxDischargeDepth := 99) only [↓kept_with, ↓kept_genCount, hk]; done) | split

theorem kept_genCode {s0 : State} (s : State) (c : Cycle) (ch : ℕ) (hk : Kept s0 s) :
    Kept s0 (State.genCode s c ch) := by
  unfold State.genCode
  repeat' first | (simp +contextual (maxDischargeDepth := 99) only [↓kept_ite, ↓kept_with, ↓kept_applyDue, ↓kept_withdraw, hk]; done) | split

theorem kept_swapOne {s0 : State} (s : State) (c : Cycle) (x : Stage) (hk : Kept s0 s) :
    Kept s0 (State.swapOne s c x) := by
  unfold State.swapOne
  repeat' first | (simp +contextual (maxDischargeDepth := 99) only [↓kept_ite, ↓kept_chWr, ↓kept_setLive, hk]; done) | split

theorem kept_dropHold {s0 : State} (s : State) (chans : List ℕ) (hk : Kept s0 s) :
    Kept s0 (State.dropHold s chans) := by
  unfold State.dropHold
  repeat' first | (simp +contextual (maxDischargeDepth := 99) only [implies_true, ↓kept_foldl, ↓kept_chWr, hk]; done) | split

theorem kept_dropLost {s0 : State} (s : State) (bs : List (ℕ × ℕ)) (hk : Kept s0 s) :
    Kept s0 (State.dropLost s bs) := by
  unfold State.dropLost
  repeat' first | (simp +contextual (maxDischargeDepth := 99) only [implies_true, ↓kept_ite, ↓kept_foldl, ↓kept_with, ↓kept_chWr, hk]; done) | split

theorem kept_addLost {s0 : State} (s : State) (bs : List (ℕ × ℕ)) (hk : Kept s0 s) :
    Kept s0 (State.addLost s bs) := by
  unfold State.addLost
  repeat' first | (simp +contextual (maxDischargeDepth := 99) only [implies_true, ↓kept_foldl, ↓kept_with, ↓kept_chWr, hk]; done) | split

theorem kept_recrossWith {s0 : State} (s : State) (ov : List (ℕ × ℕ)) (f : ℕ) (hk : Kept s0 s) :
    Kept s0 (State.recrossWith s ov f) := by
  unfold State.recrossWith
  repeat' first | (simp +contextual (maxDischargeDepth := 99) only [↓kept_with, hk]; done) | split

theorem kept_clearOrph {s0 : State} (s : State) (hk : Kept s0 s) :
    Kept s0 (State.clearOrph s) := by
  unfold State.clearOrph
  repeat' first | (simp +contextual (maxDischargeDepth := 99) only [implies_true, ↓kept_foldl, ↓kept_with, ↓kept_chWr, hk]; done) | split

theorem kept_lksDone {s0 : State} (s : State) (status : ℕ) (result : Option ℕ) (exe : ℕ) (hk : Kept s0 s) :
    Kept s0 (State.lksDone s status result exe) := by
  unfold State.lksDone
  repeat' first | (simp +contextual (maxDischargeDepth := 99) only [implies_true, ↓kept_with, ↓kept_finish, ↓kept_withDesc, ↓kept_wr, hk]; done) | split

theorem kept_lksVec {s0 : State} (s : State) (hk : Kept s0 s) :
    Kept s0 (State.lksVec s) := by
  unfold State.lksVec
  repeat' first | (simp +contextual (maxDischargeDepth := 99) only [↓kept_signalVec, hk]; done) | split

theorem kept_endHold {s0 : State} (s : State) (c : ℕ) (hk : Kept s0 s) :
    Kept s0 (State.endHold s c) := by
  unfold State.endHold
  repeat' first | (simp +contextual (maxDischargeDepth := 99) only [↓kept_ite, ↓kept_with, ↓kept_lksDone, ↓kept_lksVec, ↓kept_wr, hk]; done) | split

theorem kept_endClears {s0 : State} (s : State) (seq : ℕ) (c : ℕ) (status : ℕ) (hk : Kept s0 s) :
    Kept s0 (State.endClears s seq c status) := by
  unfold State.endClears
  repeat' first | (simp +contextual (maxDischargeDepth := 99) only [implies_true, ↓kept_foldl, ↓kept_with, ↓kept_finish, ↓kept_withDesc, hk]; done) | split

theorem kept_swapRest {s0 : State} (s : State) (c : Cycle) (hk : Kept s0 s) :
    Kept s0 (State.swapRest s c) := by
  unfold State.swapRest
  repeat' first | (simp +contextual (maxDischargeDepth := 99) only [↓kept_ite, ↓kept_with, ↓kept_bump, ↓kept_clearOrph, ↓kept_dropHold, ↓kept_dropLost, ↓kept_endHold, ↓kept_markSuspended, ↓kept_occur, ↓kept_recrossWith, ↓kept_wr, hk]; done) | split

theorem kept_execCommitSwap {s0 : State} (s : State) (hk : Kept s0 s) :
    KeptOut s0 (execCommitSwap s) := by
  unfold execCommitSwap
  refine keptOut_next ?_
  split
  · exact hk
  · refine kept_ite hk (kept_ite (kept_cancelCycle _ _ (kept_reach _ _ hk)) ?_)
    refine kept_swapRest _ _ (kept_occur _ _ (kept_wr (kept_wr (kept_wr ((kept_with ..).mpr ?_) _ _ _ _ _) _ _ _ _ _) _ _ _ _ _))
    refine kept_foldl (fun x g hx => ?_) _ (kept_foldl (fun x y hx => kept_swapOne _ _ _ hx) _
      (kept_foldl (fun x ch hx => kept_ite (kept_releaseGen _ _ (kept_genCode _ _ _ hx)) hx) _ (kept_reach _ _ hk)))
    split
    · exact kept_startGen _ _ _ _ _ hx
    · exact hx

theorem kept_execMakebbTarget {s0 : State} (s : State) (hk : Kept s0 s) :
    KeptOut s0 (execMakebbTarget s) := by
  unfold execMakebbTarget
  repeat' first | (simp +contextual (maxDischargeDepth := 99) only [implies_true, ↓kept_ite, ↓kept_foldl, ↓kept_with, ↓keptOut_next, ↓kept_reach, ↓kept_setLive, hk]; done) | split

theorem kept_execVerifySample {s0 : State} (raws : List (Fin 1024 × BitVec 12)) (s : State) (hk : Kept s0 s) :
    KeptOut s0 (execVerifySample raws s) := by
  unfold execVerifySample
  repeat' first | (simp +contextual (maxDischargeDepth := 99) only [implies_true, ↓kept_ite, ↓kept_foldl, ↓kept_with, ↓keptOut_next, ↓kept_reach, ↓kept_setFast, ↓kept_wr, hk]; done) | split

theorem kept_execVerifyDecision {s0 : State} (s : State) (hk : Kept s0 s) :
    KeptOut s0 (execVerifyDecision s) := by
  unfold execVerifyDecision
  try dsimp only
  repeat' first | with_reducible assumption | simp only [↓kept_with] | with_reducible apply kept_ite_fst | with_reducible apply kept_ite_snd | with_reducible apply kept_foldl_fst | with_reducible apply kept_ite | with_reducible apply kept_foldl | with_reducible apply keptOut_next | with_reducible apply kept_reach | with_reducible apply kept_wr | intro _ | split

theorem kept_noteBind {s0 : State} (s : State) (c : ℕ) (f : ℕ) (was : Option (ℕ × ℕ)) (hk : Kept s0 s) :
    Kept s0 (State.noteBind s c f was) := by
  unfold State.noteBind
  repeat' first | (simp +contextual (maxDischargeDepth := 99) only [↓kept_with, hk]; done) | split

theorem kept_unvalid {s0 : State} (s : State) (c : ℕ) (hk : Kept s0 s) :
    Kept s0 (State.unvalid s c) := by
  unfold State.unvalid
  repeat' first | (simp +contextual (maxDischargeDepth := 99) only [↓kept_store, hk]; done) | split

theorem kept_bindCtx {s0 : State} (s : State) (e : ℕ) (b : Option ToneBind) (f : ℕ) (hk : Kept s0 s) :
    Kept s0 (State.bindCtx s e b f) := by
  unfold State.bindCtx
  repeat' first | (simp +contextual (maxDischargeDepth := 99) only [↓kept_ite, ↓kept_bump, ↓kept_noteBind, ↓kept_store, ↓kept_unvalid, hk]; done) | split

theorem kept_rebind {s0 : State} (s : State) (ts : List ToneEnt) (f : ℕ) (hk : Kept s0 s) :
    Kept s0 (State.rebind s ts f) := by
  unfold State.rebind
  repeat' first | (simp +contextual (maxDischargeDepth := 99) only [implies_true, ↓kept_foldl, ↓kept_with, ↓kept_bindCtx, hk]; done) | split

theorem kept_pathTune {s0 : State} (s : State) (m : ℕ) (j : ℕ) (tone : Option ℕ) (hk : Kept s0 s) :
    Kept s0 (State.pathTune s m j tone) := by
  unfold State.pathTune
  repeat' first | (simp +contextual (maxDischargeDepth := 99) only [↓kept_store, ↓kept_unvalid, hk]; done) | split

theorem kept_expect {s0 : State} (s : State) (m : ℕ) (tone : Option ℕ) (f : ℕ) (hk : Kept s0 s) :
    Kept s0 (State.expect s m tone f) := by
  unfold State.expect
  repeat' first | (simp +contextual (maxDischargeDepth := 99) only [↓kept_with, ↓kept_bump, ↓kept_noteBind, ↓kept_pathTune, ↓kept_wr, hk]; done) | split

theorem kept_retune {s0 : State} (s : State) (m : ℕ) (j : ℕ) (f : ℕ) (hk : Kept s0 s) :
    Kept s0 (State.retune s m j f) := by
  unfold State.retune
  repeat' first | (simp +contextual (maxDischargeDepth := 99) only [↓kept_ite, ↓kept_bump, ↓kept_noteBind, ↓kept_pathTune, hk]; done) | split

theorem kept_formForeign {s0 : State} (s : State) (f : ℕ) (hk : Kept s0 s) :
    Kept s0 (State.formForeign s f) := by
  unfold State.formForeign
  repeat' first | (simp +contextual (maxDischargeDepth := 99) only [implies_true, ↓kept_foldl, ↓kept_with, ↓kept_retune, ↓kept_wr, hk]; done) | split

theorem kept_expectAll {s0 : State} (s : State) (vs : List VerifyEnt) (f : ℕ) (hk : Kept s0 s) :
    Kept s0 (State.expectAll s vs f) := by
  unfold State.expectAll
  repeat' first | (simp +contextual (maxDischargeDepth := 99) only [implies_true, ↓kept_foldl, ↓kept_expect, hk]; done) | split

theorem kept_applyDither {s0 : State} (s : State) (pass : Bool) (hk : Kept s0 s) :
    Kept s0 (State.applyDither s pass) := by
  unfold State.applyDither
  try dsimp only
  repeat' first | with_reducible assumption | simp only [↓kept_with] | with_reducible apply kept_ite_fst | with_reducible apply kept_ite_snd | with_reducible apply kept_foldl_fst | with_reducible apply kept_ite | with_reducible apply kept_foldl | with_reducible apply keptOut_next | with_reducible apply kept_setDither | intro _ | split

theorem kept_clearFlags {s0 : State} (s : State) (xs : List Stage) (hk : Kept s0 s) :
    Kept s0 (State.clearFlags s xs) := by
  unfold State.clearFlags
  repeat' first | (simp +contextual (maxDischargeDepth := 99) only [implies_true, ↓kept_foldl, ↓kept_chWr, hk]; done) | split

theorem kept_resolvePass {s0 : State} (s : State) (c : Cycle) (f : ℕ) (hk : Kept s0 s) :
    Kept s0 (State.resolvePass s c f) := by
  unfold State.resolvePass
  try dsimp only
  repeat' first | with_reducible assumption | simp only [↓kept_with] | with_reducible apply kept_ite_fst | with_reducible apply kept_ite_snd | with_reducible apply kept_foldl_fst | with_reducible apply kept_ite | with_reducible apply kept_foldl | with_reducible apply keptOut_next | with_reducible apply kept_applyDither | with_reducible apply kept_dropChange | with_reducible apply kept_expectAll | with_reducible apply kept_formForeign | with_reducible apply kept_rebind | with_reducible apply kept_resumeLoops | with_reducible apply kept_wr | intro _ | split

theorem kept_resolveFail {s0 : State} (s : State) (c : Cycle) (f : ℕ) (hk : Kept s0 s) :
    Kept s0 (State.resolveFail s c f) := by
  unfold State.resolveFail
  repeat' first | (simp +contextual (maxDischargeDepth := 99) only [implies_true, ↓kept_ite, ↓kept_foldl, ↓kept_with, ↓kept_addLost, ↓kept_applyDither, ↓kept_bump, ↓kept_dropHold, ↓kept_expectAll, ↓kept_formForeign, ↓kept_rebind, ↓kept_recross, ↓kept_releaseGen, ↓kept_resumeOld, ↓kept_setLive, ↓kept_withdraw, ↓kept_wr, hk]; done) | split

theorem kept_endMade {s0 : State} (s : State) (c : Cycle) (status : ℕ) (flags : ℕ) (result : ℕ) (hk : Kept s0 s) :
    Kept s0 (State.endMade s c status flags result) := by
  unfold State.endMade
  repeat' first | (simp +contextual (maxDischargeDepth := 99) only [implies_true, ↓kept_ite, ↓kept_bump, ↓kept_endStart, ↓kept_finish, ↓kept_orbitSkip, ↓kept_withDesc, hk]; done) | split

theorem kept_endReapply {s0 : State} (s : State) (f : ℕ) (hk : Kept s0 s) :
    Kept s0 (State.endReapply s f) := by
  unfold State.endReapply
  repeat' first | (simp +contextual (maxDischargeDepth := 99) only [implies_true, ↓kept_ite, ↓kept_foldl, ↓kept_resumeLoops, hk]; done) | split

theorem kept_execCommitResolve {s0 : State} (s : State) (hk : Kept s0 s) :
    KeptOut s0 (execCommitResolve s) := by
  unfold execCommitResolve
  try dsimp only
  repeat' first | with_reducible assumption | simp only [↓kept_with] | with_reducible apply kept_ite_fst | with_reducible apply kept_ite_snd | with_reducible apply kept_foldl_fst | with_reducible apply kept_ite | with_reducible apply kept_foldl | with_reducible apply keptOut_next | with_reducible apply kept_clearFlags | with_reducible apply kept_endClears | with_reducible apply kept_endCycle | with_reducible apply kept_endMade | with_reducible apply kept_endReapply | with_reducible apply kept_occur | with_reducible apply kept_reach | with_reducible apply kept_resolveFail | with_reducible apply kept_resolvePass | with_reducible apply kept_resumeOld | with_reducible apply kept_wr | intro _ | split

theorem kept_eclipseCycle {s0 : State} (s : State) (hk : Kept s0 s) :
    Kept s0 (State.eclipseCycle s) := by
  unfold State.eclipseCycle
  repeat' first | (simp +contextual (maxDischargeDepth := 99) only [↓kept_with, ↓kept_cancelCycle, hk]; done) | split

theorem kept_tileLossCycle {s0 : State} (s : State) (hk : Kept s0 s) :
    Kept s0 (State.tileLossCycle s) := by
  unfold State.tileLossCycle
  repeat' first | (simp +contextual (maxDischargeDepth := 99) only [↓kept_with, ↓kept_cancelCycle, hk]; done) | split

theorem kept_execPlnEnableWrite {s0 : State} (die : Fin 2) (value : Bool) (s : State) (hk : Kept s0 s) :
    KeptOut s0 (execPlnEnableWrite die value s) := by
  unfold execPlnEnableWrite
  repeat' first | (simp +contextual (maxDischargeDepth := 99) only [implies_true, ↓kept_ite, ↓kept_with, ↓keptOut_next, ↓kept_plnReject, ↓kept_viaBar0, ↓kept_wr, hk]; done) | split

theorem kept_startChange {s0 : State} (s : State) (ch : ℕ) (hk : Kept s0 s) :
    Kept s0 (State.startChange s ch) := by
  unfold State.startChange
  repeat' first | (simp +contextual (maxDischargeDepth := 99) only [↓kept_ite, ↓kept_with, ↓kept_abandonMeas, ↓kept_chWr, hk]; done) | split

theorem kept_takeMode {s0 : State} (s : State) (e : ℕ) (hk : Kept s0 s) :
    Kept s0 (State.takeMode s e) := by
  unfold State.takeMode
  repeat' first | (simp +contextual (maxDischargeDepth := 99) only [↓kept_ite, ↓kept_chWr, ↓kept_startChange, ↓kept_wake, hk]; done) | split

theorem kept_unbind {s0 : State} (s : State) (ch : ℕ) (hk : Kept s0 s) :
    Kept s0 (State.unbind s ch) := by
  unfold State.unbind
  repeat' first | (simp +contextual (maxDischargeDepth := 99) only [↓kept_ite, ↓kept_chWr, ↓kept_dueAgain, ↓kept_setSpare, hk]; done) | split

theorem kept_enablePln {s0 : State} (s : State) (hk : Kept s0 s) :
    Kept s0 (State.enablePln s) := by
  unfold State.enablePln
  repeat' first | (simp +contextual (maxDischargeDepth := 99) only [implies_true, ↓kept_foldl, ↓kept_with, ↓kept_loadWords, ↓kept_takeMode, ↓kept_unbind, ↓kept_wr, hk]; done) | split

theorem kept_joinOff {s0 : State} (s : State) (r : Req) (status : ℕ) (hk : Kept s0 s) :
    Kept s0 (State.joinOff s r status) := by
  unfold State.joinOff
  repeat' first | (simp +contextual (maxDischargeDepth := 99) only [↓kept_ite, ↓kept_with, ↓kept_endStart, ↓kept_orbitSkip, hk]; done) | split

theorem kept_disablePln {s0 : State} (s : State) (hk : Kept s0 s) :
    Kept s0 (State.disablePln s) := by
  unfold State.disablePln
  try dsimp only
  repeat' first | with_reducible assumption | simp only [↓kept_with] | with_reducible apply kept_ite_fst | with_reducible apply kept_ite_snd | with_reducible apply kept_foldl_fst | with_reducible apply kept_ite | with_reducible apply kept_foldl | with_reducible apply keptOut_next | with_reducible apply kept_cancel | with_reducible apply kept_dequeue | with_reducible apply kept_endStart | with_reducible apply kept_joinOff | with_reducible apply kept_orbitSkip | with_reducible apply kept_wr | intro _ | split

theorem kept_execPlnEnableApply {s0 : State} (s : State) (hk : Kept s0 s) :
    KeptOut s0 (execPlnEnableApply s) := by
  unfold execPlnEnableApply
  repeat' first | (simp +contextual (maxDischargeDepth := 99) only [↓kept_ite, ↓kept_with, ↓keptOut_next, ↓kept_disablePln, ↓kept_enablePln, ↓kept_plnReject, ↓kept_wr, hk]; done) | split

theorem kept_execChangeExpiry {s0 : State} (tile : Fin 8) (ch : Fin 2048) (s : State) (hk : Kept s0 s) :
    KeptOut s0 (execChangeExpiry tile ch s) := by
  unfold execChangeExpiry
  try dsimp only
  repeat' first | with_reducible assumption | simp only [↓kept_with] | with_reducible apply kept_ite_fst | with_reducible apply kept_ite_snd | with_reducible apply kept_foldl_fst | with_reducible apply kept_ite | with_reducible apply kept_foldl | with_reducible apply keptOut_next | with_reducible apply kept_reach | with_reducible apply kept_wake | intro _ | split

end Sys2Proof.Machine
end

