-- ==== Sys2Proof/Laws/KeptOrbit.lean ====
section
/-! SUPPORT. What the operations and commands of Machine/Orbit.lean keep (Kept). -/
namespace Sys2Proof.Machine

theorem kept_execOrbitLoad {s0 : State} (id : ℕ) (read : HostRead (List Byte)) (s : State) (hk : Kept s0 s) :
    KeptOut s0 (execOrbitLoad id read s) := by
  unfold execOrbitLoad
  repeat' first | (simp +contextual (maxDischargeDepth := 99) only [implies_true, ↓kept_ite, ↓kept_with, ↓keptOut_next, ↓kept_done, ↓kept_emit, ↓kept_poisoned, ↓kept_withOp, hk]; done) | split

theorem kept_issueJoin {s0 : State} (s : State) (hk : Kept s0 s) :
    Kept s0 (State.issueJoin s) := by
  unfold State.issueJoin
  repeat' first | (simp +contextual (maxDischargeDepth := 99) only [↓kept_ite, ↓kept_enqueue, ↓kept_joinOff, hk]; done) | split

theorem kept_execOrbitStart {s0 : State} (id : ℕ) (s : State) (hk : Kept s0 s) :
    KeptOut s0 (execOrbitStart id s) := by
  unfold execOrbitStart
  repeat' first | (simp +contextual (maxDischargeDepth := 99) only [implies_true, ↓kept_ite, ↓kept_with, ↓keptOut_next, ↓kept_done, ↓kept_issueJoin, ↓kept_withOp, ↓kept_wr, hk]; done) | split

theorem kept_execOrbitListStart {s0 : State} (s : State) (hk : Kept s0 s) :
    KeptOut s0 (execOrbitListStart s) := by
  unfold execOrbitListStart
  repeat' first | (simp +contextual (maxDischargeDepth := 99) only [implies_true, ↓kept_ite, ↓kept_with, ↓keptOut_next, ↓kept_finish, ↓kept_reach, ↓kept_withDesc, hk]; done) | split

theorem kept_dropOrbit {s0 : State} (s : State) (status : ℕ) (hk : Kept s0 s) :
    Kept s0 (State.dropOrbit s status) := by
  unfold State.dropOrbit
  repeat' first | (simp +contextual (maxDischargeDepth := 99) only [implies_true, ↓kept_foldl, ↓kept_dequeue, ↓kept_endStart, ↓kept_orbitSkip, hk]; done) | split

theorem kept_prepEntry {s0 : State} (s : State) (l : List OrbitEnt) (i : ℕ) (e : ℕ) (fresh : Bool) (ecc : Option EccHit) (hk : Kept s0 s) :
    Kept s0 (State.prepEntry s l i e fresh ecc) := by
  unfold State.prepEntry
  try dsimp only
  repeat' first | with_reducible assumption | simp only [↓kept_with] | with_reducible apply kept_ite_fst | with_reducible apply kept_ite_snd | with_reducible apply kept_foldl_fst | with_reducible apply kept_ite | with_reducible apply kept_foldl | with_reducible apply keptOut_next | with_reducible apply kept_dropOrbit | with_reducible apply kept_eccHit | with_reducible apply kept_endStart | with_reducible apply kept_enqueue | with_reducible apply kept_orbitSkip | intro _ | split

theorem kept_execOrbitEntryPrep {s0 : State} (ecc : Option EccHit) (s : State) (hk : Kept s0 s) :
    KeptOut s0 (execOrbitEntryPrep ecc s) := by
  unfold execOrbitEntryPrep
  try dsimp only
  repeat' first | with_reducible assumption | simp only [↓kept_with] | with_reducible apply kept_ite_fst | with_reducible apply kept_ite_snd | with_reducible apply kept_foldl_fst | with_reducible apply kept_ite | with_reducible apply kept_foldl | with_reducible apply keptOut_next | with_reducible apply kept_prepEntry | with_reducible apply kept_reach | intro _ | split

theorem kept_cycleDone {s0 : State} (s : State) (b : ℕ) (e : ℕ) (hk : Kept s0 s) :
    Kept s0 (State.cycleDone s b e) := by
  unfold State.cycleDone
  repeat' first | (simp +contextual (maxDischargeDepth := 99) only [↓kept_ite, ↓kept_bump, ↓kept_occur, hk]; done) | split

theorem kept_execOrbitEntryStart {s0 : State} (s : State) (hk : Kept s0 s) :
    KeptOut s0 (execOrbitEntryStart s) := by
  unfold execOrbitEntryStart
  repeat' first | (simp +contextual (maxDischargeDepth := 99) only [↓kept_ite, ↓kept_with, ↓keptOut_next, ↓kept_cycleDone, ↓kept_reach, hk]; done) | split

theorem kept_execOrbitSwap {s0 : State} (s : State) (hk : Kept s0 s) :
    KeptOut s0 (execOrbitSwap s) := by
  unfold execOrbitSwap
  repeat' first | (simp +contextual (maxDischargeDepth := 99) only [implies_true, ↓kept_ite, ↓kept_with, ↓keptOut_next, ↓kept_finish, ↓kept_occur, ↓kept_reach, ↓kept_withDesc, ↓kept_wr, hk]; done) | split

theorem kept_endDesc {s0 : State} (s : State) (id : Option ℕ) (status : ℕ) (hk : Kept s0 s) :
    Kept s0 (State.endDesc s id status) := by
  unfold State.endDesc
  repeat' first | (simp +contextual (maxDischargeDepth := 99) only [implies_true, ↓kept_done, ↓kept_withDesc, hk]; done) | split

theorem kept_cancelStart {s0 : State} (s : State) (status : ℕ) (hk : Kept s0 s) :
    Kept s0 (State.cancelStart s status) := by
  unfold State.cancelStart
  repeat' first | (simp +contextual (maxDischargeDepth := 99) only [↓kept_with, ↓kept_dequeue, ↓kept_endDesc, hk]; done) | split

theorem kept_execOrbitStop {s0 : State} (id : ℕ) (s : State) (hk : Kept s0 s) :
    KeptOut s0 (execOrbitStop id s) := by
  unfold execOrbitStop
  repeat' first | (simp +contextual (maxDischargeDepth := 99) only [implies_true, ↓kept_ite, ↓kept_with, ↓keptOut_next, ↓kept_cancelStart, ↓kept_done, ↓kept_withDesc, ↓kept_withOp, hk]; done) | split

theorem kept_execOrbitStopEffect {s0 : State} (s : State) (hk : Kept s0 s) :
    KeptOut s0 (execOrbitStopEffect s) := by
  unfold execOrbitStopEffect
  try dsimp only
  repeat' first | with_reducible assumption | simp only [↓kept_with] | with_reducible apply kept_ite_fst | with_reducible apply kept_ite_snd | with_reducible apply kept_foldl_fst | with_reducible apply kept_ite | with_reducible apply kept_foldl | with_reducible apply keptOut_next | with_reducible apply kept_bump | with_reducible apply kept_done | with_reducible apply kept_dropOrbit | with_reducible apply kept_finish | with_reducible apply kept_occur | with_reducible apply kept_reach | with_reducible apply kept_withDesc | intro _ | split

theorem kept_orbitErase {s0 : State} (s : State) (hk : Kept s0 s) :
    Kept s0 (State.orbitErase s) := by
  unfold State.orbitErase
  try dsimp only
  repeat' first | with_reducible assumption | simp only [↓kept_with] | with_reducible apply kept_ite_fst | with_reducible apply kept_ite_snd | with_reducible apply kept_foldl_fst | with_reducible apply kept_ite | with_reducible apply kept_foldl | with_reducible apply keptOut_next | with_reducible apply kept_cancel | with_reducible apply kept_cancelStart | intro _ | split

theorem kept_orbitStep {s0 : State} (s : State) (d : ℤ) (hk : Kept s0 s) :
    Kept s0 (State.orbitStep s d) := by
  unfold State.orbitStep
  try dsimp only
  repeat' first | with_reducible assumption | simp only [↓kept_with] | with_reducible apply kept_ite_fst | with_reducible apply kept_ite_snd | with_reducible apply kept_foldl_fst | with_reducible apply kept_ite | with_reducible apply kept_foldl | with_reducible apply keptOut_next | with_reducible apply kept_dequeue | with_reducible apply kept_issueJoin | intro _ | split

end Sys2Proof.Machine
end

