-- ==== Sys2Proof/Laws/KeptDrive.lean ====
section
/-! SUPPORT. What the operations and commands of Machine/Drive.lean keep (Kept). -/
namespace Sys2Proof.Machine

theorem kept_padOne {s0 : State} (s : State) (ch : ℕ) (x : ℕ) (hk : Kept s0 s) :
    Kept s0 (State.padOne s ch x) := by
  unfold State.padOne
  repeat' first | (simp +contextual (maxDischargeDepth := 99) only [↓kept_with, hk]; done) | split

theorem kept_formOne {s0 : State} (s : State) (ch : ℕ) (hk : Kept s0 s) :
    Kept s0 (State.formOne s ch) := by
  unfold State.formOne
  repeat' first | (simp +contextual (maxDischargeDepth := 99) only [↓kept_ite, ↓kept_with, ↓kept_chWr, ↓kept_freezePhase, ↓kept_padOne, hk]; done) | split

theorem kept_startArming {s0 : State} (s : State) (m : ℕ) (hk : Kept s0 s) :
    Kept s0 (State.startArming s m) := by
  unfold State.startArming
  repeat' first | (simp +contextual (maxDischargeDepth := 99) only [↓kept_with, hk]; done) | split

theorem kept_trackGuard {s0 : State} (s : State) (ch : ℕ) (hk : Kept s0 s) :
    Kept s0 (State.trackGuard s ch) := by
  unfold State.trackGuard
  repeat' first | (simp +contextual (maxDischargeDepth := 99) only [↓kept_ite, ↓kept_with, ↓kept_mWr, ↓kept_startArming, hk]; done) | split

theorem kept_endBacks {s0 : State} (s : State) (tile : ℕ) (hk : Kept s0 s) :
    Kept s0 (State.endBacks s tile) := by
  unfold State.endBacks
  repeat' first | (simp +contextual (maxDischargeDepth := 99) only [implies_true, ↓kept_ite, ↓kept_foldl, ↓kept_with, ↓kept_setSpare, ↓kept_wake, hk]; done) | split

theorem kept_formTile {s0 : State} (s : State) (tile : ℕ) (hk : Kept s0 s) :
    Kept s0 (State.formTile s tile) := by
  unfold State.formTile
  repeat' first | (simp +contextual (maxDischargeDepth := 99) only [implies_true, ↓kept_ite, ↓kept_foldl, ↓kept_with, ↓kept_bump, ↓kept_endBacks, ↓kept_formOne, ↓kept_trackGuard, hk]; done) | split

theorem kept_reformTile {s0 : State} (s : State) (tile : ℕ) (hk : Kept s0 s) :
    Kept s0 (State.reformTile s tile) := by
  unfold State.reformTile
  repeat' first | (simp +contextual (maxDischargeDepth := 99) only [↓kept_with, ↓kept_formTile, hk]; done) | split

theorem kept_takeRank {s0 : State} (s : State) (tile : ℕ) (die : ℕ) (rank : ℕ) (hk : Kept s0 s) :
    Kept s0 (State.takeRank s tile die rank) := by
  unfold State.takeRank
  repeat' first | (simp +contextual (maxDischargeDepth := 99) only [implies_true, ↓kept_ite, ↓kept_foldl, ↓kept_with, ↓kept_override, ↓kept_wr, hk]; done) | split

theorem kept_linkBits {s0 : State} (s : State) (tile : ℕ) (hk : Kept s0 s) :
    Kept s0 (State.linkBits s tile) := by
  unfold State.linkBits
  repeat' first | (simp +contextual (maxDischargeDepth := 99) only [↓kept_wr, hk]; done) | split

theorem kept_heard {s0 : State} (s : State) (tile : ℕ) (die : ℕ) (hk : Kept s0 s) :
    Kept s0 (State.heard s tile die) := by
  unfold State.heard
  repeat' first | (simp +contextual (maxDischargeDepth := 99) only [↓kept_with, ↓kept_linkBits, ↓kept_wr, hk]; done) | split

theorem kept_followDie {s0 : State} (s : State) (tile : ℕ) (die : ℕ) (twilight : ℕ) (hk : Kept s0 s) :
    Kept s0 (State.followDie s tile die twilight) := by
  unfold State.followDie
  repeat' first | (simp +contextual (maxDischargeDepth := 99) only [↓kept_ite, ↓kept_with, ↓kept_wr, hk]; done) | split

theorem kept_freeze {s0 : State} (s : State) (tile : ℕ) (k : ℕ) (hk : Kept s0 s) :
    Kept s0 (State.freeze s tile k) := by
  unfold State.freeze
  repeat' first | (simp +contextual (maxDischargeDepth := 99) only [↓kept_ite, ↓kept_with, ↓kept_unstage, ↓kept_wr, hk]; done) | split

theorem kept_linkCmd {s0 : State} (s : State) (tile : ℕ) (die : ℕ) (c : DownCmd) (hk : Kept s0 s) :
    Kept s0 (State.linkCmd s tile die c) := by
  unfold State.linkCmd
  repeat' first | (simp +contextual (maxDischargeDepth := 99) only [↓kept_ite, ↓kept_bump, ↓kept_followDie, ↓kept_freeze, hk]; done) | split

theorem kept_execTileLinkFrame {s0 : State} (tile : Fin 8) (die : Fin 2) (frame : DownFrame) (s : State) (hk : Kept s0 s) :
    KeptOut s0 (execTileLinkFrame tile die frame s) := by
  unfold execTileLinkFrame
  repeat' first | (simp +contextual (maxDischargeDepth := 99) only [↓kept_ite, ↓keptOut_next, ↓kept_formTile, ↓kept_heard, ↓kept_linkCmd, ↓kept_takeRank, ↓kept_wr, hk]; done) | split

theorem kept_applyFrames {s0 : State} (s : State) (tile : ℕ) (good : List CodeWrite) (fs : List ℕ) (hk : Kept s0 s) :
    Kept s0 (State.applyFrames s tile good fs) := by
  unfold State.applyFrames
  repeat' first | (simp +contextual (maxDischargeDepth := 99) only [implies_true, ↓kept_foldl, ↓kept_applyDue, hk]; done) | split

theorem kept_execLiveUpdateApply {s0 : State} (tile : Fin 8) (ecc : Option EccHit) (s : State) (hk : Kept s0 s) :
    KeptOut s0 (execLiveUpdateApply tile ecc s) := by
  unfold execLiveUpdateApply
  repeat' first | (simp +contextual (maxDischargeDepth := 99) only [↓kept_with, ↓keptOut_next, ↓kept_applyFrames, ↓kept_bump, ↓kept_eccHit, ↓kept_reach, ↓kept_reformTile, hk]; done) | split

theorem kept_execTileOrphan {s0 : State} (tile : Fin 8) (s : State) (hk : Kept s0 s) :
    KeptOut s0 (execTileOrphan tile s) := by
  unfold execTileOrphan
  repeat' first | (simp +contextual (maxDischargeDepth := 99) only [implies_true, ↓kept_foldl, ↓keptOut_next, ↓kept_chWr, ↓kept_linkBits, ↓kept_reach, ↓kept_reformTile, ↓kept_wr, hk]; done) | split

theorem kept_execTileLinkResume {s0 : State} (tile : Fin 8) (die : Fin 2) (s : State) (hk : Kept s0 s) :
    KeptOut s0 (execTileLinkResume tile die s) := by
  unfold execTileLinkResume
  repeat' first | (simp +contextual (maxDischargeDepth := 99) only [↓keptOut_next, ↓kept_heard, hk]; done) | split

theorem kept_drvReject {s0 : State} (s : State) (tile : ℕ) (hk : Kept s0 s) :
    Kept s0 (State.drvReject s tile) := by
  unfold State.drvReject
  repeat' first | (simp +contextual (maxDischargeDepth := 99) only [↓kept_wr, hk]; done) | split

theorem kept_execDitherWrite {s0 : State} (die : Fin 2) (tile : Fin 8) (ch : Fin 2048) (value : Word) (s : State) (hk : Kept s0 s) :
    KeptOut s0 (execDitherWrite die tile ch value s) := by
  unfold execDitherWrite
  repeat' first | (simp +contextual (maxDischargeDepth := 99) only [implies_true, ↓kept_ite, ↓keptOut_next, ↓kept_chWr, ↓kept_drvReject, ↓kept_freezePhase, ↓kept_setAcc, ↓kept_viaBar0, hk]; done) | split

theorem kept_setMean {s0 : State} (s : State) (tile : ℕ) (mean : ℕ) (hk : Kept s0 s) :
    Kept s0 (State.setMean s tile mean) := by
  unfold State.setMean
  repeat' first | (simp +contextual (maxDischargeDepth := 99) only [↓kept_with, ↓kept_wr, hk]; done) | split

theorem kept_execFoldbackStep {s0 : State} (tile : Fin 8) (mean : BitVec 16) (s : State) (hk : Kept s0 s) :
    KeptOut s0 (execFoldbackStep tile mean s) := by
  unfold execFoldbackStep
  repeat' first | (simp +contextual (maxDischargeDepth := 99) only [implies_true, ↓kept_ite, ↓kept_foldl, ↓kept_with, ↓keptOut_next, ↓kept_bump, ↓kept_chWr, ↓kept_dueAgain, ↓kept_occur, ↓kept_raise, ↓kept_reach, ↓kept_setMean, ↓kept_wr, hk]; done) | split

theorem kept_foldClear {s0 : State} (s : State) (tile : ℕ) (hk : Kept s0 s) :
    Kept s0 (State.foldClear s tile) := by
  unfold State.foldClear
  repeat' first | (simp +contextual (maxDischargeDepth := 99) only [implies_true, ↓kept_ite, ↓kept_foldl, ↓kept_wake, ↓kept_wr, hk]; done) | split

theorem kept_execFoldClear {s0 : State} (die : Fin 2) (tile : Fin 8) (mean : BitVec 16) (s : State) (hk : Kept s0 s) :
    KeptOut s0 (execFoldClear die tile mean s) := by
  unfold execFoldClear
  repeat' first | (simp +contextual (maxDischargeDepth := 99) only [implies_true, ↓keptOut_next, ↓kept_foldClear, ↓kept_setMean, ↓kept_viaBar0, hk]; done) | split

theorem kept_setGuardBit {s0 : State} (s : State) (f : Fld) (tile : ℕ) (input : ℕ) (v : Bool) (hk : Kept s0 s) :
    Kept s0 (State.setGuardBit s f tile input v) := by
  unfold State.setGuardBit
  repeat' first | (simp +contextual (maxDischargeDepth := 99) only [↓kept_wr, hk]; done) | split

theorem kept_capTrigger {s0 : State} (s : State) (tile : ℕ) (f : ℕ) (hk : Kept s0 s) :
    Kept s0 (State.capTrigger s tile f) := by
  unfold State.capTrigger
  repeat' first | (simp +contextual (maxDischargeDepth := 99) only [↓kept_ite, ↓kept_with, ↓kept_wr, hk]; done) | split

theorem kept_tripTrigger {s0 : State} (s : State) (tile : ℕ) (hk : Kept s0 s) :
    Kept s0 (State.tripTrigger s tile) := by
  unfold State.tripTrigger
  repeat' first | (simp +contextual (maxDischargeDepth := 99) only [↓kept_ite, ↓kept_capTrigger, hk]; done) | split

theorem kept_trip {s0 : State} (s : State) (tile : ℕ) (input : ℕ) (hk : Kept s0 s) :
    Kept s0 (State.trip s tile input) := by
  unfold State.trip
  repeat' first | (simp +contextual (maxDischargeDepth := 99) only [↓kept_with, ↓kept_chWr, ↓kept_occur, ↓kept_raise, ↓kept_setGuardBit, ↓kept_tripTrigger, ↓kept_wr, hk]; done) | split

theorem kept_execGuardTrip {s0 : State} (tile : Fin 8) (input : Fin 128) (s : State) (hk : Kept s0 s) :
    KeptOut s0 (execGuardTrip tile input s) := by
  unfold execGuardTrip
  repeat' first | (simp +contextual (maxDischargeDepth := 99) only [↓kept_ite, ↓keptOut_next, ↓kept_trip, ↓kept_wr, hk]; done) | split

theorem kept_execGuardArm {s0 : State} (tile : Fin 8) (input : Fin 128) (s : State) (hk : Kept s0 s) :
    KeptOut s0 (execGuardArm tile input s) := by
  unfold execGuardArm
  repeat' first | (simp +contextual (maxDischargeDepth := 99) only [↓kept_ite, ↓keptOut_next, ↓kept_reach, ↓kept_startArming, ↓kept_trip, ↓kept_wr, hk]; done) | split

theorem kept_execGuardPersist {s0 : State} (tile : Fin 8) (input : Fin 128) (s : State) (hk : Kept s0 s) :
    KeptOut s0 (execGuardPersist tile input s) := by
  unfold execGuardPersist
  repeat' first | (simp +contextual (maxDischargeDepth := 99) only [↓kept_ite, ↓keptOut_next, ↓kept_chWr, ↓kept_occur, ↓kept_raise, ↓kept_reach, ↓kept_setGuardBit, hk]; done) | split

theorem kept_tripClear {s0 : State} (s : State) (tile : ℕ) (input : ℕ) (hk : Kept s0 s) :
    Kept s0 (State.tripClear s tile input) := by
  unfold State.tripClear
  repeat' first | (simp +contextual (maxDischargeDepth := 99) only [↓kept_ite, ↓kept_with, ↓kept_chWr, ↓kept_markSuspended, ↓kept_setGuardBit, ↓kept_wake, ↓kept_wr, hk]; done) | split

theorem kept_execGuardTripClear {s0 : State} (die : Fin 2) (tile : Fin 8) (w : Fin 4) (value : Word) (s : State) (hk : Kept s0 s) :
    KeptOut s0 (execGuardTripClear die tile w value s) := by
  unfold execGuardTripClear
  repeat' first | (simp +contextual (maxDischargeDepth := 99) only [implies_true, ↓kept_foldl, ↓keptOut_next, ↓kept_tripClear, ↓kept_viaBar0, hk]; done) | split

theorem kept_markFailed {s0 : State} (s : State) (ch : ℕ) (v : Bool) (hk : Kept s0 s) :
    Kept s0 (State.markFailed s ch v) := by
  unfold State.markFailed
  repeat' first | (simp +contextual (maxDischargeDepth := 99) only [↓kept_wr, hk]; done) | split

theorem kept_endTakeover {s0 : State} (s : State) (ch : ℕ) (hk : Kept s0 s) :
    Kept s0 (State.endTakeover s ch) := by
  unfold State.endTakeover
  repeat' first | (simp +contextual (maxDischargeDepth := 99) only [↓kept_abandonMeas, hk]; done) | split

theorem kept_takeover {s0 : State} (s : State) (ch : ℕ) (hk : Kept s0 s) :
    Kept s0 (State.takeover s ch) := by
  unfold State.takeover
  repeat' first | (simp +contextual (maxDischargeDepth := 99) only [↓kept_ite, ↓kept_chWr, ↓kept_endTakeover, ↓kept_markFailed, ↓kept_occur, ↓kept_raise, ↓kept_setSpare, hk]; done) | split

theorem kept_execOutputCheckVisit {s0 : State} (tile : Fin 8) (ch : Fin 2048) (measured : BitVec 16) (s : State) (hk : Kept s0 s) :
    KeptOut s0 (execOutputCheckVisit tile ch measured s) := by
  unfold execOutputCheckVisit
  repeat' first | (simp +contextual (maxDischargeDepth := 99) only [↓kept_ite, ↓kept_with, ↓keptOut_next, ↓kept_reach, ↓kept_takeover, hk]; done) | split

theorem kept_execFailedRetest {s0 : State} (die : Fin 2) (tile : Fin 8) (group : Fin 64) (value : Word) (s : State) (hk : Kept s0 s) :
    KeptOut s0 (execFailedRetest die tile group value s) := by
  unfold execFailedRetest
  repeat' first | (simp +contextual (maxDischargeDepth := 99) only [implies_true, ↓kept_foldl, ↓kept_with, ↓keptOut_next, ↓kept_viaBar0, hk]; done) | split

theorem kept_execRetestDone {s0 : State} (tile : Fin 8) (ch : Fin 2048) (pass : Bool) (s : State) (hk : Kept s0 s) :
    KeptOut s0 (execRetestDone tile ch pass s) := by
  unfold execRetestDone
  try dsimp only
  repeat' first | with_reducible assumption | simp only [↓kept_with] | with_reducible apply kept_ite_fst | with_reducible apply kept_ite_snd | with_reducible apply kept_foldl_fst | with_reducible apply kept_ite | with_reducible apply kept_foldl | with_reducible apply keptOut_next | with_reducible apply kept_markFailed | with_reducible apply kept_reach | with_reducible apply kept_setSpare | with_reducible apply kept_wake | with_reducible apply kept_wr | intro _ | split

theorem kept_readIvhv {s0 : State} (s : State) (die : ℕ) (tile : ℕ) (hk : Kept s0 s) :
    Kept s0 (State.readIvhv s die tile) := by
  unfold State.readIvhv
  repeat' first | (simp +contextual (maxDischargeDepth := 99) only [↓kept_ite, ↓kept_emit, ↓kept_wr, hk]; done) | split

theorem kept_execIpeakRead {s0 : State} (die : Fin 2) (tile : Fin 8) (s : State) (hk : Kept s0 s) :
    KeptOut s0 (execIpeakRead die tile s) := by
  unfold execIpeakRead
  repeat' first | (simp +contextual (maxDischargeDepth := 99) only [↓keptOut_next, ↓kept_readIvhv, hk]; done) | split

end Sys2Proof.Machine
end

