-- ==== Sys2Proof/Laws/KeptMonitor.lean ====
section
/-! SUPPORT. What the operations and commands of Machine/Monitor.lean keep (Kept). -/
namespace Sys2Proof.Machine

theorem kept_abandonBlock {s0 : State} (s : State) (m : ℕ) (hk : Kept s0 s) :
    Kept s0 (State.abandonBlock s m) := by
  unfold State.abandonBlock
  repeat' first | (simp +contextual (maxDischargeDepth := 99) only [↓kept_ite, ↓kept_with, ↓kept_mWr, hk]; done) | split

theorem kept_applyRange {s0 : State} (s : State) (tile : ℕ) (input : ℕ) (f : ℕ) (hk : Kept s0 s) :
    Kept s0 (State.applyRange s tile input f) := by
  unfold State.applyRange
  repeat' first | (simp +contextual (maxDischargeDepth := 99) only [↓kept_ite, ↓kept_with, ↓kept_abandonBlock, ↓kept_settleF, ↓kept_wr, hk]; done) | split

theorem kept_execRangeApply {s0 : State} (tile : Fin 8) (s : State) (hk : Kept s0 s) :
    KeptOut s0 (execRangeApply tile s) := by
  unfold execRangeApply
  repeat' first | (simp +contextual (maxDischargeDepth := 99) only [implies_true, ↓kept_ite, ↓kept_foldl, ↓keptOut_next, ↓kept_applyRange, ↓kept_reach, hk]; done) | split

theorem kept_settleFast {s0 : State} (s : State) (hk : Kept s0 s) :
    Kept s0 (State.settleFast s) := by
  unfold State.settleFast
  repeat' first | (simp +contextual (maxDischargeDepth := 99) only [↓kept_with, hk]; done) | split

theorem kept_settleFine {s0 : State} (s : State) (tile : ℕ) (input : ℕ) (hk : Kept s0 s) :
    Kept s0 (State.settleFine s tile input) := by
  unfold State.settleFine
  repeat' first | (simp +contextual (maxDischargeDepth := 99) only [implies_true, ↓kept_foldl, ↓kept_settleF, hk]; done) | split

theorem kept_refBit {s0 : State} (s : State) (f : Fld) (latch : Fld) (tile : ℕ) (b : ℕ) (bad : Bool) (hk : Kept s0 s) :
    Kept s0 (State.refBit s f latch tile b bad) := by
  unfold State.refBit
  repeat' first | (simp +contextual (maxDischargeDepth := 99) only [↓kept_ite, ↓kept_raise, ↓kept_wr, hk]; done) | split

theorem kept_refSlot {s0 : State} (s : State) (tile : ℕ) (m : ℕ) (e : ℕ) (f : ℤ) (hk : Kept s0 s) :
    Kept s0 (State.refSlot s tile m e f) := by
  unfold State.refSlot
  repeat' first | (simp +contextual (maxDischargeDepth := 99) only [↓kept_ite, ↓kept_refBit, ↓kept_wr, hk]; done) | split

theorem kept_fineResult {s0 : State} (s : State) (b : FineBlock) (e : ℕ) (hk : Kept s0 s) :
    Kept s0 (State.fineResult s b e) := by
  unfold State.fineResult
  repeat' first | (simp +contextual (maxDischargeDepth := 99) only [↓kept_ite, ↓kept_with, ↓kept_mWr, ↓kept_occur, ↓kept_record, hk]; done) | split

theorem kept_startBlock {s0 : State} (s : State) (m : ℕ) (f : ℕ) (hk : Kept s0 s) :
    Kept s0 (State.startBlock s m f) := by
  unfold State.startBlock
  repeat' first | (simp +contextual (maxDischargeDepth := 99) only [↓kept_with, hk]; done) | split

theorem kept_openBlock {s0 : State} (s : State) (m : ℕ) (f : ℕ) (triggered : Bool) (hk : Kept s0 s) :
    Kept s0 (State.openBlock s m f triggered) := by
  unfold State.openBlock
  repeat' first | (simp +contextual (maxDischargeDepth := 99) only [↓kept_ite, ↓kept_with, ↓kept_mWr, ↓kept_settleF, hk]; done) | split

theorem kept_slotBegin {s0 : State} (s : State) (m : ℕ) (scan : ℕ) (st : ℕ) (hk : Kept s0 s) :
    Kept s0 (State.slotBegin s m scan st) := by
  unfold State.slotBegin
  repeat' first | (simp +contextual (maxDischargeDepth := 99) only [↓kept_ite, ↓kept_mWr, ↓kept_openBlock, hk]; done) | split

theorem kept_spanBegin {s0 : State} (s : State) (m : ℕ) (hk : Kept s0 s) :
    Kept s0 (State.spanBegin s m) := by
  unfold State.spanBegin
  repeat' first | (simp +contextual (maxDischargeDepth := 99) only [↓kept_ite, ↓kept_with, hk]; done) | split

theorem kept_inputSlot {s0 : State} (s : State) (m : ℕ) (e : ℕ) (f : ℤ) (ovr : Bool) (hk : Kept s0 s) :
    Kept s0 (State.inputSlot s m e f ovr) := by
  unfold State.inputSlot
  try dsimp only
  repeat' first | with_reducible assumption | simp only [↓kept_with] | with_reducible apply kept_ite_fst | with_reducible apply kept_ite_snd | with_reducible apply kept_foldl_fst | with_reducible apply kept_ite | with_reducible apply kept_foldl | with_reducible apply keptOut_next | with_reducible apply kept_abandonBlock | with_reducible apply kept_fineResult | intro _ | split

theorem kept_calResult {s0 : State} (s : State) (c : SysCal) (hk : Kept s0 s) :
    Kept s0 (State.calResult s c) := by
  unfold State.calResult
  repeat' first | (simp +contextual (maxDischargeDepth := 99) only [↓kept_ite, ↓kept_with, ↓kept_wr, hk]; done) | split

theorem kept_calApply {s0 : State} (s : State) (t : ℕ) (hk : Kept s0 s) :
    Kept s0 (State.calApply s t) := by
  unfold State.calApply
  repeat' first | (simp +contextual (maxDischargeDepth := 99) only [↓kept_ite, ↓kept_wr, ↓kept_wrF, hk]; done) | split

theorem kept_calStart {s0 : State} (s : State) (c : SysCal) (hk : Kept s0 s) :
    Kept s0 (State.calStart s c) := by
  unfold State.calStart
  repeat' first | (simp +contextual (maxDischargeDepth := 99) only [↓kept_ite, ↓kept_with, ↓kept_calApply, ↓kept_wr, hk]; done) | split

theorem kept_calNext {s0 : State} (s : State) (t : ℕ) (hk : Kept s0 s) :
    Kept s0 (State.calNext s t) := by
  unfold State.calNext
  repeat' first | (simp +contextual (maxDischargeDepth := 99) only [↓kept_with, ↓kept_calStart, ↓kept_wr, hk]; done) | split

theorem kept_calEnd {s0 : State} (s : State) (t : ℕ) (hk : Kept s0 s) :
    Kept s0 (State.calEnd s t) := by
  unfold State.calEnd
  repeat' first | (simp +contextual (maxDischargeDepth := 99) only [↓kept_with, ↓kept_calNext, ↓kept_wr, hk]; done) | split

theorem kept_calWrite {s0 : State} (s : State) (tile : ℕ) (input : ℕ) (range : ℕ) (step : ℕ) (hk : Kept s0 s) :
    Kept s0 (State.calWrite s tile input range step) := by
  unfold State.calWrite
  repeat' first | (simp +contextual (maxDischargeDepth := 99) only [↓kept_ite, ↓kept_with, ↓kept_calStart, ↓kept_wr, hk]; done) | split

theorem kept_execSyscalDark {s0 : State} (die : Fin 2) (tile : Fin 8) (input : Fin 128) (range : Fin 4) (s : State) (hk : Kept s0 s) :
    KeptOut s0 (execSyscalDark die tile input range s) := by
  unfold execSyscalDark
  repeat' first | (simp +contextual (maxDischargeDepth := 99) only [implies_true, ↓keptOut_next, ↓kept_calWrite, ↓kept_viaBar0, hk]; done) | split

theorem kept_execSyscalReference {s0 : State} (die : Fin 2) (tile : Fin 8) (input : Fin 128) (range : Fin 4) (s : State) (hk : Kept s0 s) :
    KeptOut s0 (execSyscalReference die tile input range s) := by
  unfold execSyscalReference
  repeat' first | (simp +contextual (maxDischargeDepth := 99) only [implies_true, ↓keptOut_next, ↓kept_calWrite, ↓kept_viaBar0, hk]; done) | split

theorem kept_execSyscalApply {s0 : State} (die : Fin 2) (tile : Fin 8) (input : Fin 128) (range : Fin 4) (s : State) (hk : Kept s0 s) :
    KeptOut s0 (execSyscalApply die tile input range s) := by
  unfold execSyscalApply
  repeat' first | (simp +contextual (maxDischargeDepth := 99) only [implies_true, ↓keptOut_next, ↓kept_calWrite, ↓kept_viaBar0, hk]; done) | split

theorem kept_execSyscalStepDone {s0 : State} (tile : Fin 8) (s : State) (hk : Kept s0 s) :
    KeptOut s0 (execSyscalStepDone tile s) := by
  unfold execSyscalStepDone
  repeat' first | (simp +contextual (maxDischargeDepth := 99) only [↓kept_ite, ↓keptOut_next, ↓kept_calEnd, ↓kept_calResult, ↓kept_reach, hk]; done) | split

theorem kept_scanEnd {s0 : State} (s : State) (tile : ℕ) (m : ℕ) (hk : Kept s0 s) :
    Kept s0 (State.scanEnd s tile m) := by
  unfold State.scanEnd
  repeat' first | (simp +contextual (maxDischargeDepth := 99) only [implies_true, ↓kept_ite, ↓kept_foldl, ↓kept_with, ↓kept_calEnd, ↓kept_settleF, ↓kept_wr, hk]; done) | split

theorem kept_beginSlot {s0 : State} (s : State) (tile : ℕ) (modulator : ℕ) (e : ℕ) (hk : Kept s0 s) :
    Kept s0 (State.beginSlot s tile modulator e) := by
  unfold State.beginSlot
  repeat' first | (simp +contextual (maxDischargeDepth := 99) only [↓kept_ite, ↓kept_settleFine, ↓kept_slotBegin, hk]; done) | split

theorem kept_execFineSlotEnd {s0 : State} (tile : Fin 8) (modulator : Fin 16) (stream : List (BitVec 24)) (s : State) (hk : Kept s0 s) :
    KeptOut s0 (execFineSlotEnd tile modulator stream s) := by
  unfold execFineSlotEnd
  repeat' first | (simp +contextual (maxDischargeDepth := 99) only [↓kept_ite, ↓kept_with, ↓keptOut_next, ↓kept_beginSlot, ↓kept_inputSlot, ↓kept_reach, ↓kept_refSlot, ↓kept_scanEnd, ↓kept_spanBegin, hk]; done) | split

theorem kept_fineTrigger {s0 : State} (s : State) (m : ℕ) (f : ℕ) (hk : Kept s0 s) :
    Kept s0 (State.fineTrigger s m f) := by
  unfold State.fineTrigger
  repeat' first | (simp +contextual (maxDischargeDepth := 99) only [↓kept_ite, ↓kept_mWr, ↓kept_startBlock, hk]; done) | split

theorem kept_execFineTrigger {s0 : State} (die : Fin 2) (tile : Fin 8) (w : Fin 4) (value : Word) (s : State) (hk : Kept s0 s) :
    KeptOut s0 (execFineTrigger die tile w value s) := by
  unfold execFineTrigger
  repeat' first | (simp +contextual (maxDischargeDepth := 99) only [implies_true, ↓kept_foldl, ↓keptOut_next, ↓kept_fineTrigger, ↓kept_viaBar0, hk]; done) | split

theorem kept_trackLoss {s0 : State} (s : State) (m : ℕ) (hk : Kept s0 s) :
    Kept s0 (State.trackLoss s m) := by
  unfold State.trackLoss
  repeat' first | (simp +contextual (maxDischargeDepth := 99) only [↓kept_with, hk]; done) | split

theorem kept_compare {s0 : State} (s : State) (m : ℕ) (hk : Kept s0 s) :
    Kept s0 (State.compare s m) := by
  unfold State.compare
  repeat' first | (simp +contextual (maxDischargeDepth := 99) only [↓kept_ite, ↓kept_mWr, ↓kept_trackLoss, hk]; done) | split

theorem kept_armDark {s0 : State} (s : State) (tile : ℕ) (input : ℕ) (hk : Kept s0 s) :
    Kept s0 (State.armDark s tile input) := by
  unfold State.armDark
  repeat' first | (simp +contextual (maxDischargeDepth := 99) only [↓kept_ite, ↓kept_trip, hk]; done) | split

theorem kept_execLossTrip {s0 : State} (tile : Fin 8) (input : Fin 128) (s : State) (hk : Kept s0 s) :
    KeptOut s0 (execLossTrip tile input s) := by
  unfold execLossTrip
  repeat' first | (simp +contextual (maxDischargeDepth := 99) only [↓kept_ite, ↓keptOut_next, ↓kept_occur, ↓kept_raise, ↓kept_reach, ↓kept_trackLoss, ↓kept_tripTrigger, ↓kept_wr, hk]; done) | split

theorem kept_execLossTripClear {s0 : State} (die : Fin 2) (tile : Fin 8) (input : Fin 128) (s : State) (hk : Kept s0 s) :
    KeptOut s0 (execLossTripClear die tile input s) := by
  unfold execLossTripClear
  repeat' first | (simp +contextual (maxDischargeDepth := 99) only [implies_true, ↓kept_ite, ↓keptOut_next, ↓kept_viaBar0, ↓kept_wr, hk]; done) | split

theorem kept_fillNext {s0 : State} (s : State) (t : ℕ) (hk : Kept s0 s) :
    Kept s0 (State.fillNext s t) := by
  unfold State.fillNext
  repeat' first | (simp +contextual (maxDischargeDepth := 99) only [↓kept_with, ↓kept_settleF, ↓kept_wr, hk]; done) | split

theorem kept_execCaptureEnable {s0 : State} (die : Fin 2) (tile : Fin 8) (value : Bool) (s : State) (hk : Kept s0 s) :
    KeptOut s0 (execCaptureEnable die tile value s) := by
  unfold execCaptureEnable
  repeat' first | (simp +contextual (maxDischargeDepth := 99) only [implies_true, ↓kept_ite, ↓kept_foldl, ↓kept_with, ↓keptOut_next, ↓kept_fillNext, ↓kept_viaBar0, ↓kept_wr, hk]; done) | split

theorem kept_execCaptureSwTrigger {s0 : State} (die : Fin 2) (tile : Fin 8) (s : State) (hk : Kept s0 s) :
    KeptOut s0 (execCaptureSwTrigger die tile s) := by
  unfold execCaptureSwTrigger
  repeat' first | (simp +contextual (maxDischargeDepth := 99) only [implies_true, ↓kept_ite, ↓keptOut_next, ↓kept_capTrigger, ↓kept_viaBar0, hk]; done) | split

theorem kept_execCaptureTimeArm {s0 : State} (die : Fin 2) (tile : Fin 8) (hi : Word) (s : State) (hk : Kept s0 s) :
    KeptOut s0 (execCaptureTimeArm die tile hi s) := by
  unfold execCaptureTimeArm
  repeat' first | (simp +contextual (maxDischargeDepth := 99) only [implies_true, ↓kept_ite, ↓kept_with, ↓keptOut_next, ↓kept_capTrigger, ↓kept_viaBar0, ↓kept_wr, hk]; done) | split

theorem kept_execCaptureTimeTrigger {s0 : State} (tile : Fin 8) (s : State) (hk : Kept s0 s) :
    KeptOut s0 (execCaptureTimeTrigger tile s) := by
  unfold execCaptureTimeTrigger
  repeat' first | (simp +contextual (maxDischargeDepth := 99) only [↓kept_ite, ↓kept_with, ↓keptOut_next, ↓kept_capTrigger, ↓kept_reach, hk]; done) | split

theorem kept_execCaptureBankFull {s0 : State} (tile : Fin 8) (s : State) (hk : Kept s0 s) :
    KeptOut s0 (execCaptureBankFull tile s) := by
  unfold execCaptureBankFull
  repeat' first | (simp +contextual (maxDischargeDepth := 99) only [↓kept_with, ↓keptOut_next, ↓kept_fillNext, ↓kept_occur, ↓kept_storeBytes, ↓kept_wr, hk]; done) | split

theorem kept_execCaptureRelease {s0 : State} (die : Fin 2) (tile : Fin 8) (value : BitVec 2) (s : State) (hk : Kept s0 s) :
    KeptOut s0 (execCaptureRelease die tile value s) := by
  unfold execCaptureRelease
  repeat' first | (simp +contextual (maxDischargeDepth := 99) only [implies_true, ↓kept_ite, ↓kept_foldl, ↓keptOut_next, ↓kept_fillNext, ↓kept_viaBar0, ↓kept_wr, hk]; done) | split

theorem kept_execFastSample {s0 : State} (raws : List (Fin 1024 × BitVec 12)) (currents : List (Fin 1024 × Word)) (s : State) (hk : Kept s0 s) :
    KeptOut s0 (execFastSample raws currents s) := by
  unfold execFastSample
  repeat' first | (simp +contextual (maxDischargeDepth := 99) only [implies_true, ↓kept_foldl, ↓kept_with, ↓keptOut_next, ↓kept_compare, ↓kept_mWr, ↓kept_reach, ↓kept_setFast, ↓kept_settleFast, hk]; done) | split

end Sys2Proof.Machine
end

