-- ==== Sys2Proof/Laws/KeptTone.lean ====
section
/-! SUPPORT. What the operations and commands of Machine/Tone.lean keep (Kept). -/
namespace Sys2Proof.Machine

theorem kept_publishTone {s0 : State} (s : State) (c : ℕ) (b : ℕ) (f : ℕ) (bad : Option ℕ) (w : Window) (hk : Kept s0 s) :
    Kept s0 (State.publishTone s c b f bad w) := by
  unfold State.publishTone
  repeat' first | (simp +contextual (maxDischargeDepth := 99) only [↓kept_ite, ↓kept_bump, ↓kept_recordP, ↓kept_store, hk]; done) | split

theorem kept_publishForeign {s0 : State} (s : State) (m : ℕ) (j : ℕ) (b : ℕ) (f : ℕ) (bad : Option ℕ) (hk : Kept s0 s) :
    Kept s0 (State.publishForeign s m j b f bad) := by
  unfold State.publishForeign
  try dsimp only
  repeat' first | with_reducible assumption | simp only [↓kept_with] | with_reducible apply kept_ite_fst | with_reducible apply kept_ite_snd | with_reducible apply kept_foldl_fst | with_reducible apply kept_ite | with_reducible apply kept_foldl | with_reducible apply keptOut_next | with_reducible apply kept_pathTune | with_reducible apply kept_publishTone | intro _ | split

theorem kept_pathFail {s0 : State} (s : State) (m : ℕ) (kind : ℕ) (tone : ℕ) (hk : Kept s0 s) :
    Kept s0 (State.pathFail s m kind tone) := by
  unfold State.pathFail
  repeat' first | (simp +contextual (maxDischargeDepth := 99) only [↓kept_ite, ↓kept_bump, ↓kept_occur, ↓kept_raise, ↓kept_wr, hk]; done) | split

theorem kept_evalPath {s0 : State} (s : State) (m : ℕ) (b : ℕ) (hk : Kept s0 s) :
    Kept s0 (State.evalPath s m b) := by
  unfold State.evalPath
  try dsimp only
  repeat' first | with_reducible assumption | simp only [↓kept_with] | with_reducible apply kept_ite_fst | with_reducible apply kept_ite_snd | with_reducible apply kept_foldl_fst | with_reducible apply kept_ite | with_reducible apply kept_foldl | with_reducible apply keptOut_next | with_reducible apply kept_pathFail | with_reducible apply kept_wr | intro _ | split

theorem kept_pathWindow {s0 : State} (s : State) (m : ℕ) (b : ℕ) (bad : Option ℕ) (hk : Kept s0 s) :
    Kept s0 (State.pathWindow s m b bad) := by
  unfold State.pathWindow
  repeat' first | (simp +contextual (maxDischargeDepth := 99) only [implies_true, ↓kept_ite, ↓kept_foldl, ↓kept_evalPath, ↓kept_publishForeign, ↓kept_publishTone, ↓kept_unvalid, hk]; done) | split

theorem kept_execTonePublish {s0 : State} (elements : Bool) (ecc : Option EccHit) (s : State) (hk : Kept s0 s) :
    KeptOut s0 (execTonePublish elements ecc s) := by
  unfold execTonePublish
  repeat' first | (simp +contextual (maxDischargeDepth := 99) only [implies_true, ↓kept_ite, ↓kept_foldl, ↓kept_with, ↓keptOut_next, ↓kept_eccHit, ↓kept_pathWindow, ↓kept_publishTone, ↓kept_reach, ↓kept_unvalid, hk]; done) | split

theorem kept_execSampleRingGap {s0 : State} (tile : Fin 8) (s : State) (hk : Kept s0 s) :
    KeptOut s0 (execSampleRingGap tile s) := by
  unfold execSampleRingGap
  repeat' first | (simp +contextual (maxDischargeDepth := 99) only [↓kept_ite, ↓kept_with, ↓keptOut_next, ↓kept_raise, ↓kept_wr, hk]; done) | split

theorem kept_pathClear {s0 : State} (s : State) (foreign : Bool) (m : ℕ) (hk : Kept s0 s) :
    Kept s0 (State.pathClear s foreign m) := by
  unfold State.pathClear
  repeat' first | (simp +contextual (maxDischargeDepth := 99) only [↓kept_ite, ↓kept_wr, hk]; done) | split

theorem kept_execPathBitClear {s0 : State} (die : Fin 2) (foreign : Bool) (w : Fin 32) (value : Word) (s : State) (hk : Kept s0 s) :
    KeptOut s0 (execPathBitClear die foreign w value s) := by
  unfold execPathBitClear
  repeat' first | (simp +contextual (maxDischargeDepth := 99) only [implies_true, ↓kept_foldl, ↓keptOut_next, ↓kept_pathClear, ↓kept_viaBar0, hk]; done) | split

theorem kept_execTonFirstClr {s0 : State} (die : Fin 2) (s : State) (hk : Kept s0 s) :
    KeptOut s0 (execTonFirstClr die s) := by
  unfold execTonFirstClr
  repeat' first | (simp +contextual (maxDischargeDepth := 99) only [implies_true, ↓keptOut_next, ↓kept_viaBar0, ↓kept_wr, hk]; done) | split

theorem kept_abandonWindows {s0 : State} (s : State) (f : ℕ) (hk : Kept s0 s) :
    Kept s0 (State.abandonWindows s f) := by
  unfold State.abandonWindows
  repeat' first | (simp +contextual (maxDischargeDepth := 99) only [↓kept_with, ↓kept_bump, hk]; done) | split

end Sys2Proof.Machine
end

