-- ==== Sys2Proof/Laws/KeptCounters.lean ====
section
/-! SUPPORT. What the operations and commands of Machine/Counters.lean keep (Kept). -/
namespace Sys2Proof.Machine

theorem kept_pmcIncr {s0 : State} (s : State) (die : ℕ) (core : ℕ) (k : ℕ) (n : ℕ) (hk : Kept s0 s) :
    Kept s0 (State.pmcIncr s die core k n) := by
  unfold State.pmcIncr
  repeat' first | (simp +contextual (maxDischargeDepth := 99) only [↓kept_ite, ↓kept_with, ↓kept_wr, hk]; done) | split

theorem kept_pmcAdd {s0 : State} (s : State) (die : ℕ) (core : ℕ) (ev : ℕ) (cls : Option ℕ) (n : ℕ) (edge : Bool) (hk : Kept s0 s) :
    Kept s0 (State.pmcAdd s die core ev cls n edge) := by
  unfold State.pmcAdd
  repeat' first | (simp +contextual (maxDischargeDepth := 99) only [implies_true, ↓kept_ite, ↓kept_foldl, ↓kept_pmcIncr, hk]; done) | split

theorem kept_pmcSlot {s0 : State} (s : State) (die : ℕ) (core : ℕ) (ev : ℕ) (cls : ℕ) (n : ℕ) (busy : Bool) (hk : Kept s0 s) :
    Kept s0 (State.pmcSlot s die core ev cls n busy) := by
  unfold State.pmcSlot
  repeat' first | (simp +contextual (maxDischargeDepth := 99) only [↓kept_ite, ↓kept_with, ↓kept_pmcAdd, hk]; done) | split

theorem kept_pmcAccrue {s0 : State} (s : State) (die : ℕ) (core : ℕ) (hk : Kept s0 s) :
    Kept s0 (State.pmcAccrue s die core) := by
  unfold State.pmcAccrue
  repeat' first | (simp +contextual (maxDischargeDepth := 99) only [↓kept_ite, ↓kept_with, ↓kept_pmcAdd, hk]; done) | split

theorem kept_coreClock {s0 : State} (s : State) (die : ℕ) (cluster : ℕ) (run : Bool) (hk : Kept s0 s) :
    Kept s0 (State.coreClock s die cluster run) := by
  unfold State.coreClock
  repeat' first | (simp +contextual (maxDischargeDepth := 99) only [implies_true, ↓kept_foldl, ↓kept_with, ↓kept_pmcAccrue, hk]; done) | split

theorem kept_gateOff {s0 : State} (s : State) (die : ℕ) (dom : ℕ) (hk : Kept s0 s) :
    Kept s0 (State.gateOff s die dom) := by
  unfold State.gateOff
  repeat' first | (simp +contextual (maxDischargeDepth := 99) only [↓kept_ite, ↓kept_coreClock, ↓kept_wr, hk]; done) | split

theorem kept_regate {s0 : State} (s : State) (hk : Kept s0 s) :
    Kept s0 (State.regate s) := by
  unfold State.regate
  repeat' first | (simp +contextual (maxDischargeDepth := 99) only [implies_true, ↓kept_ite, ↓kept_foldl, ↓kept_gateOff, hk]; done) | split

theorem kept_restart {s0 : State} (s : State) (die : ℕ) (dom : ℕ) (hk : Kept s0 s) :
    Kept s0 (State.restart s die dom) := by
  unfold State.restart
  repeat' first | (simp +contextual (maxDischargeDepth := 99) only [↓kept_ite, ↓kept_clockOn, ↓kept_coreClock, hk]; done) | split

theorem kept_restartAll {s0 : State} (s : State) (die : ℕ) (hk : Kept s0 s) :
    Kept s0 (State.restartAll s die) := by
  unfold State.restartAll
  repeat' first | (simp +contextual (maxDischargeDepth := 99) only [implies_true, ↓kept_foldl, ↓kept_restart, hk]; done) | split

theorem kept_pmcEvent {s0 : State} (s : State) (kind : ℕ) (j : Job) (word : ℕ) (addr : ℕ) (off : Bool) (discard : Bool) (latency : ℕ) (hk : Kept s0 s) :
    Kept s0 (State.pmcEvent s kind j word addr off discard latency) := by
  unfold State.pmcEvent
  repeat' first | (simp +contextual (maxDischargeDepth := 99) only [↓kept_ite, ↓kept_with, hk]; done) | split

end Sys2Proof.Machine
end

