-- ==== Sys2Proof/Laws/KeptLoops.lean ====
section
/-! SUPPORT. What the operations and commands of Machine/Loops.lean keep (Kept). -/
namespace Sys2Proof.Machine

theorem kept_setWait {s0 : State} (s : State) (cls : ℕ) (ch : ℕ) (v : Bool) (at_ : ℕ) (hk : Kept s0 s) :
    Kept s0 (State.setWait s cls ch v at_) := by
  unfold State.setWait
  repeat' first | (simp +contextual (maxDischargeDepth := 99) only [↓kept_ite, ↓kept_with, ↓kept_setCclass, hk]; done) | split

theorem kept_sendTo {s0 : State} (s : State) (ch : ℕ) (cls : ℕ) (hk : Kept s0 s) :
    Kept s0 (State.sendTo s ch cls) := by
  unfold State.sendTo
  repeat' first | (simp +contextual (maxDischargeDepth := 99) only [↓kept_ite, ↓kept_with, ↓kept_duskClass, ↓kept_setWait, hk]; done) | split

theorem kept_promote {s0 : State} (s : State) (hk : Kept s0 s) :
    Kept s0 (State.promote s) := by
  unfold State.promote
  try dsimp only
  repeat' first | with_reducible assumption | simp only [↓kept_with] | with_reducible apply kept_ite_fst | with_reducible apply kept_ite_snd | with_reducible apply kept_foldl_fst | with_reducible apply kept_ite | with_reducible apply kept_foldl | with_reducible apply keptOut_next | with_reducible apply kept_setWait | intro _ | split

theorem kept_enterClass {s0 : State} (s : State) (ch : ℕ) (cls : ℕ) (f : ℕ) (hk : Kept s0 s) :
    Kept s0 (State.enterClass s ch cls f) := by
  unfold State.enterClass
  repeat' first | (simp +contextual (maxDischargeDepth := 99) only [↓kept_with, ↓kept_setCclass, hk]; done) | split

theorem kept_resumeOne {s0 : State} (s : State) (x : ℕ) (hk : Kept s0 s) :
    Kept s0 (State.resumeOne s x) := by
  unfold State.resumeOne
  repeat' first | (simp +contextual (maxDischargeDepth := 99) only [↓kept_ite, ↓kept_setCtxState, ↓kept_store, hk]; done) | split

theorem kept_resumeIn {s0 : State} (s : State) (ch : ℕ) (cls : ℕ) (f : ℕ) (hk : Kept s0 s) :
    Kept s0 (State.resumeIn s ch cls f) := by
  unfold State.resumeIn
  repeat' first | (simp +contextual (maxDischargeDepth := 99) only [implies_true, ↓kept_foldl, ↓kept_with, ↓kept_enterClass, ↓kept_resumeOne, ↓kept_setCclass, hk]; done) | split

theorem kept_execClassChange {s0 : State} (ch : Fin 16384) (s : State) (hk : Kept s0 s) :
    KeptOut s0 (execClassChange ch s) := by
  unfold execClassChange
  repeat' first | (simp +contextual (maxDischargeDepth := 99) only [↓kept_ite, ↓kept_with, ↓keptOut_next, ↓kept_bump, ↓kept_enterClass, ↓kept_promote, ↓kept_reach, ↓kept_resumeIn, hk]; done) | split

theorem kept_setPflags {s0 : State} (s : State) (x : ℕ) (v : ℕ) (hk : Kept s0 s) :
    Kept s0 (State.setPflags s x v) := by
  unfold State.setPflags
  repeat' first | (simp +contextual (maxDischargeDepth := 99) only [↓kept_store, hk]; done) | split

theorem kept_setCtxK {s0 : State} (s : State) (die : ℕ) (x : ℕ) (k : ℕ) (v : ℕ) (apart : Bool) (hk : Kept s0 s) :
    Kept s0 (State.setCtxK s die x k v apart) := by
  unfold State.setCtxK
  repeat' first | (simp +contextual (maxDischargeDepth := 99) only [↓kept_ite, ↓kept_with, ↓kept_store, hk]; done) | split

theorem kept_settleK {s0 : State} (s : State) (x : ℕ) (hk : Kept s0 s) :
    Kept s0 (State.settleK s x) := by
  unfold State.settleK
  try dsimp only
  repeat' first | with_reducible assumption | simp only [↓kept_with] | with_reducible apply kept_ite_fst | with_reducible apply kept_ite_snd | with_reducible apply kept_foldl_fst | with_reducible apply kept_ite | with_reducible apply kept_foldl | with_reducible apply keptOut_next | with_reducible apply kept_store | intro _ | split

theorem kept_resumeAt {s0 : State} (s : State) (cls : ℕ) (f : ℕ) (hk : Kept s0 s) :
    Kept s0 (State.resumeAt s cls f) := by
  unfold State.resumeAt
  repeat' first | (simp +contextual (maxDischargeDepth := 99) only [implies_true, ↓kept_ite, ↓kept_foldl, ↓kept_with, ↓kept_resumeIn, ↓kept_resumeOne, ↓kept_setWait, hk]; done) | split

theorem kept_beginCtxs {s0 : State} (s : State) (cls : ℕ) (f : ℕ) (hk : Kept s0 s) :
    Kept s0 (State.beginCtxs s cls f) := by
  unfold State.beginCtxs
  repeat' first | (simp +contextual (maxDischargeDepth := 99) only [↓kept_with, hk]; done) | split

theorem kept_execPeriodRelease {s0 : State} (cls : Fin 4) (s : State) (hk : Kept s0 s) :
    KeptOut s0 (execPeriodRelease cls s) := by
  unfold execPeriodRelease
  repeat' first | (simp +contextual (maxDischargeDepth := 99) only [implies_true, ↓kept_ite, ↓kept_foldl, ↓kept_with, ↓keptOut_next, ↓kept_beginCtxs, ↓kept_bump, ↓kept_occur, ↓kept_promote, ↓kept_reach, ↓kept_resumeAt, ↓kept_settleK, ↓kept_wr, hk]; done) | split

theorem kept_setRun {s0 : State} (s : State) (r : Run) (hk : Kept s0 s) :
    Kept s0 (State.setRun s r) := by
  unfold State.setRun
  repeat' first | (simp +contextual (maxDischargeDepth := 99) only [↓kept_with, hk]; done) | split

theorem kept_execJobSteal {s0 : State} (die : Fin 2) (core : Fin 64) (s : State) (hk : Kept s0 s) :
    KeptOut s0 (execJobSteal die core s) := by
  unfold execJobSteal
  repeat' first | (simp +contextual (maxDischargeDepth := 99) only [↓kept_ite, ↓kept_with, ↓keptOut_next, ↓kept_bump, ↓kept_pmcAdd, ↓kept_pmcSlot, hk]; done) | split

theorem kept_prefetchWait {s0 : State} (s : State) (die : ℕ) (core : ℕ) (j : Job) (hk : Kept s0 s) :
    Kept s0 (State.prefetchWait s die core j) := by
  unfold State.prefetchWait
  repeat' first | (simp +contextual (maxDischargeDepth := 99) only [↓kept_ite, ↓kept_bump, ↓kept_draw, ↓kept_pmcAdd, ↓kept_pmcSlot, hk]; done) | split

theorem kept_execPrefetchFill {s0 : State} (die : Fin 2) (core : Fin 64) (s : State) (hk : Kept s0 s) :
    KeptOut s0 (execPrefetchFill die core s) := by
  unfold execPrefetchFill
  repeat' first | (simp +contextual (maxDischargeDepth := 99) only [↓kept_with, ↓keptOut_next, ↓kept_prefetchWait, hk]; done) | split

theorem kept_spoil {s0 : State} (s : State) (die : ℕ) (w : ℕ) (hk : Kept s0 s) :
    Kept s0 (State.spoil s die w) := by
  unfold State.spoil
  repeat' first | (simp +contextual (maxDischargeDepth := 99) only [↓kept_with, hk]; done) | split

theorem kept_unspoil {s0 : State} (s : State) (p : ℕ → Bool) (hk : Kept s0 s) :
    Kept s0 (State.unspoil s p) := by
  unfold State.unspoil
  repeat' first | (simp +contextual (maxDischargeDepth := 99) only [↓kept_with, hk]; done) | split

theorem kept_execJobDispatch {s0 : State} (die : Fin 2) (core : Fin 64) (ecc : Option EccHit) (s : State) (hk : Kept s0 s) :
    KeptOut s0 (execJobDispatch die core ecc s) := by
  unfold execJobDispatch
  try dsimp only
  repeat' first | with_reducible assumption | simp only [↓kept_with] | with_reducible apply kept_ite_fst | with_reducible apply kept_ite_snd | with_reducible apply kept_foldl_fst | with_reducible apply kept_ite | with_reducible apply kept_foldl | with_reducible apply keptOut_next | with_reducible apply kept_pmcAdd | with_reducible apply kept_pmcSlot | with_reducible apply kept_restart | with_reducible apply kept_spoil | with_reducible apply kept_uncorrectable | intro _ | split

theorem kept_execJobWcetStop {s0 : State} (die : Fin 2) (core : Fin 64) (s : State) (hk : Kept s0 s) :
    KeptOut s0 (execJobWcetStop die core s) := by
  unfold execJobWcetStop
  repeat' first | (simp +contextual (maxDischargeDepth := 99) only [↓kept_with, ↓keptOut_next, ↓kept_pmcAdd, ↓kept_pmcEvent, ↓kept_raise, ↓kept_wr, hk]; done) | split

theorem kept_openLoop {s0 : State} (s : State) (x : ℕ) (hk : Kept s0 s) :
    Kept s0 (State.openLoop s x) := by
  unfold State.openLoop
  repeat' first | (simp +contextual (maxDischargeDepth := 99) only [↓kept_setCtxState, ↓kept_wr, hk]; done) | split

theorem kept_commitK {s0 : State} (s : State) (r : Run) (hk : Kept s0 s) :
    Kept s0 (State.commitK s r) := by
  unfold State.commitK
  repeat' first | (simp +contextual (maxDischargeDepth := 99) only [implies_true, ↓kept_ite, ↓kept_foldl, ↓kept_setCtxK, hk]; done) | split

theorem kept_commitJob {s0 : State} (s : State) (r : Run) (hk : Kept s0 s) :
    Kept s0 (State.commitJob s r) := by
  unfold State.commitJob
  repeat' first | (simp +contextual (maxDischargeDepth := 99) only [↓kept_ite, ↓kept_with, ↓kept_bump, ↓kept_commitK, ↓kept_setPflags, ↓kept_store, hk]; done) | split

theorem kept_endJob {s0 : State} (s : State) (r : Run) (hk : Kept s0 s) :
    Kept s0 (State.endJob s r) := by
  unfold State.endJob
  repeat' first | (simp +contextual (maxDischargeDepth := 99) only [↓kept_ite, ↓kept_with, ↓kept_commitJob, ↓kept_commitK, hk]; done) | split

theorem kept_publishJob {s0 : State} (s : State) (r : Run) (hk : Kept s0 s) :
    Kept s0 (State.publishJob s r) := by
  unfold State.publishJob
  repeat' first | (simp +contextual (maxDischargeDepth := 99) only [↓kept_ite, ↓kept_with, ↓kept_commitJob, ↓kept_sendTo, ↓kept_store, hk]; done) | split

theorem kept_loopRecords {s0 : State} (s : State) (cls : ℕ) (f : ℕ) (hk : Kept s0 s) :
    Kept s0 (State.loopRecords s cls f) := by
  unfold State.loopRecords
  repeat' first | (simp +contextual (maxDischargeDepth := 99) only [implies_true, ↓kept_foldl, ↓kept_with, ↓kept_recordP, hk]; done) | split

theorem kept_overrun {s0 : State} (s : State) (j : Job) (hk : Kept s0 s) :
    Kept s0 (State.overrun s j) := by
  unfold State.overrun
  repeat' first | (simp +contextual (maxDischargeDepth := 99) only [↓kept_ite, ↓kept_bump, ↓kept_openLoop, ↓kept_raise, ↓kept_setPflags, ↓kept_store, ↓kept_wr, hk]; done) | split

theorem kept_publishAll {s0 : State} (s : State) (f : ℕ) (hk : Kept s0 s) :
    Kept s0 (State.publishAll s f) := by
  unfold State.publishAll
  repeat' first | (simp +contextual (maxDischargeDepth := 99) only [implies_true, ↓kept_foldl, ↓kept_with, ↓kept_overrun, ↓kept_pmcAdd, ↓kept_pmcEvent, ↓kept_publishJob, ↓kept_setPflags, hk]; done) | split

theorem kept_settleP {s0 : State} (s : State) (ch : ℕ) (hk : Kept s0 s) :
    Kept s0 (State.settleP s ch) := by
  unfold State.settleP
  try dsimp only
  repeat' first | with_reducible assumption | simp only [↓kept_with] | with_reducible apply kept_ite_fst | with_reducible apply kept_ite_snd | with_reducible apply kept_foldl_fst | with_reducible apply kept_ite | with_reducible apply kept_foldl | with_reducible apply keptOut_next | with_reducible apply kept_store | intro _ | split

theorem kept_combine {s0 : State} (s : State) (ch : ℕ) (cls : ℕ) (f : ℕ) (hk : Kept s0 s) :
    Kept s0 (State.combine s ch cls f) := by
  unfold State.combine
  repeat' first | (simp +contextual (maxDischargeDepth := 99) only [↓kept_ite, ↓kept_with, ↓kept_bump, ↓kept_openLoop, ↓kept_raise, ↓kept_sendTo, ↓kept_setPflags, ↓kept_settleP, ↓kept_store, hk]; done) | split

theorem kept_execCandidatePublish {s0 : State} (cls : Fin 4) (s : State) (hk : Kept s0 s) :
    KeptOut s0 (execCandidatePublish cls s) := by
  unfold execCandidatePublish
  repeat' first | (simp +contextual (maxDischargeDepth := 99) only [implies_true, ↓kept_ite, ↓kept_foldl, ↓keptOut_next, ↓kept_combine, ↓kept_loopRecords, ↓kept_once, ↓kept_promote, ↓kept_publishAll, ↓kept_regate, hk]; done) | split

theorem kept_execCombinedOutputSend {s0 : State} (s : State) (hk : Kept s0 s) :
    KeptOut s0 (execCombinedOutputSend s) := by
  unfold execCombinedOutputSend
  repeat' first | (simp +contextual (maxDischargeDepth := 99) only [↓kept_with, ↓keptOut_next, ↓kept_reach, hk]; done) | split

theorem kept_execLpaEnable {s0 : State} (die : Fin 2) (value : Bool) (s : State) (hk : Kept s0 s) :
    KeptOut s0 (execLpaEnable die value s) := by
  unfold execLpaEnable
  repeat' first | (simp +contextual (maxDischargeDepth := 99) only [implies_true, ↓keptOut_next, ↓kept_viaBar0, ↓kept_wr, hk]; done) | split

theorem kept_ctxFields {s0 : State} (s : State) (x : ℕ) (mask : ℕ) (e : List Byte) (hk : Kept s0 s) :
    Kept s0 (State.ctxFields s x mask e) := by
  unfold State.ctxFields
  repeat' first | (simp +contextual (maxDischargeDepth := 99) only [↓kept_ite, ↓kept_with, ↓kept_store, hk]; done) | split

theorem kept_activateOne {s0 : State} (s : State) (x : ℕ) (hk : Kept s0 s) :
    Kept s0 (State.activateOne s x) := by
  unfold State.activateOne
  repeat' first | (simp +contextual (maxDischargeDepth := 99) only [↓kept_ite, ↓kept_with, ↓kept_setCtxState, ↓kept_store, ↓kept_wr, hk]; done) | split

theorem kept_activateAll {s0 : State} (s : State) (b : CtxBody) (data : List Byte) (hk : Kept s0 s) :
    Kept s0 (State.activateAll s b data) := by
  unfold State.activateAll
  repeat' first | (simp +contextual (maxDischargeDepth := 99) only [implies_true, ↓kept_foldl, ↓kept_activateOne, ↓kept_ctxFields, hk]; done) | split

theorem kept_ctxCommand {s0 : State} (s : State) (id : ℕ) (read : HostRead (List Byte)) (p : ℕ → Bool) (f : State → CtxBody → State) (hk : Kept s0 s) (h_f : ∀ y0 y1, Kept s0 y0 → Kept s0 (f y0 y1)) :
    Kept s0 (State.ctxCommand s id read p f) := by
  unfold State.ctxCommand
  try dsimp only
  repeat' first | with_reducible assumption | simp only [↓kept_with] | with_reducible apply h_f | with_reducible apply kept_ite_fst | with_reducible apply kept_ite_snd | with_reducible apply kept_foldl_fst | with_reducible apply kept_ite | with_reducible apply kept_foldl | with_reducible apply keptOut_next | with_reducible apply kept_done | with_reducible apply kept_poisoned | with_reducible apply kept_withOp | intro _ | split

theorem kept_execCtxWrite {s0 : State} (id : ℕ) (read : HostRead (List Byte)) (s : State) (hk : Kept s0 s) :
    KeptOut s0 (execCtxWrite id read s) := by
  unfold execCtxWrite
  repeat' first | (simp +contextual (maxDischargeDepth := 99) only [implies_true, ↓kept_foldl, ↓keptOut_next, ↓kept_ctxCommand, ↓kept_ctxFields, hk]; done) | split

theorem kept_execActivate {s0 : State} (id : ℕ) (read : HostRead (List Byte)) (s : State) (hk : Kept s0 s) :
    KeptOut s0 (execActivate id read s) := by
  unfold execActivate
  repeat' first | (simp +contextual (maxDischargeDepth := 99) only [implies_true, ↓keptOut_next, ↓kept_activateAll, ↓kept_ctxCommand, hk]; done) | split

theorem kept_execDeactivate {s0 : State} (id : ℕ) (read : HostRead (List Byte)) (s : State) (hk : Kept s0 s) :
    KeptOut s0 (execDeactivate id read s) := by
  unfold execDeactivate
  repeat' first | (simp +contextual (maxDischargeDepth := 99) only [implies_true, ↓kept_foldl, ↓kept_with, ↓keptOut_next, ↓kept_ctxCommand, ↓kept_promote, ↓kept_setCtxState, ↓kept_wr, hk]; done) | split

theorem kept_execSetClass {s0 : State} (id : ℕ) (read : HostRead (List Byte)) (s : State) (hk : Kept s0 s) :
    KeptOut s0 (execSetClass id read s) := by
  unfold execSetClass
  repeat' first | (simp +contextual (maxDischargeDepth := 99) only [implies_true, ↓kept_foldl, ↓keptOut_next, ↓kept_ctxCommand, ↓kept_promote, ↓kept_sendTo, hk]; done) | split

theorem kept_execCtxRead {s0 : State} (id : ℕ) (s : State) (hk : Kept s0 s) :
    KeptOut s0 (execCtxRead id s) := by
  unfold execCtxRead
  repeat' first | (simp +contextual (maxDischargeDepth := 99) only [implies_true, ↓kept_ite, ↓keptOut_next, ↓kept_done, ↓kept_toHost, ↓kept_withOp, hk]; done) | split

end Sys2Proof.Machine
end

