-- ==== Sys2Proof/Laws/KeptLis.lean ====
section
/-! SUPPORT. What the operations and commands of Machine/Lis.lean keep (Kept). -/
namespace Sys2Proof.Machine

theorem kept_progEnd {s0 : State} (s : State) (p : ℕ) (err : ℕ) (pc : Option ℕ) (hk : Kept s0 s) :
    Kept s0 (State.progEnd s p err pc) := by
  unfold State.progEnd
  repeat' first | (simp +contextual (maxDischargeDepth := 99) only [↓kept_store, ↓kept_wr, hk]; done) | split

theorem kept_progRun {s0 : State} (s : State) (op : ℕ) (p : ℕ) (hk : Kept s0 s) :
    Kept s0 (State.progRun s op p) := by
  unfold State.progRun
  repeat' first | (simp +contextual (maxDischargeDepth := 99) only [↓kept_ite, ↓kept_progEnd, ↓kept_store, ↓kept_unspoil, hk]; done) | split

theorem kept_progCmd {s0 : State} (s : State) (op : ℕ) (p : ℕ) (hk : Kept s0 s) :
    Kept s0 (State.progCmd s op p) := by
  unfold State.progCmd
  repeat' first | (simp +contextual (maxDischargeDepth := 99) only [↓kept_with, ↓kept_wr, hk]; done) | split

theorem kept_execPublish {s0 : State} (die : Fin 2) (prog : Fin 4096) (s : State) (hk : Kept s0 s) :
    KeptOut s0 (execPublish die prog s) := by
  unfold execPublish
  repeat' first | (simp +contextual (maxDischargeDepth := 99) only [implies_true, ↓keptOut_next, ↓kept_progCmd, ↓kept_viaBar0, hk]; done) | split

theorem kept_execRetire {s0 : State} (die : Fin 2) (prog : Fin 4096) (s : State) (hk : Kept s0 s) :
    KeptOut s0 (execRetire die prog s) := by
  unfold execRetire
  repeat' first | (simp +contextual (maxDischargeDepth := 99) only [implies_true, ↓keptOut_next, ↓kept_progCmd, ↓kept_viaBar0, hk]; done) | split

theorem kept_execProgCmdDone {s0 : State} (s : State) (hk : Kept s0 s) :
    KeptOut s0 (execProgCmdDone s) := by
  unfold execProgCmdDone
  repeat' first | (simp +contextual (maxDischargeDepth := 99) only [↓kept_with, ↓keptOut_next, ↓kept_progRun, ↓kept_wr, hk]; done) | split

theorem kept_lis {s0 : State} (s : State) (a : LisAt) (word : ℕ) (cut : ℕ) (f : State → Run → State) (hk : Kept s0 s) (h_f : ∀ y0 y1, Kept s0 y0 → Kept s0 (f y0 y1)) :
    Kept s0 (State.lis s a word cut f) := by
  unfold State.lis
  repeat' first | (simp +contextual (maxDischargeDepth := 99) only [↓kept_ite, ↓kept_pmcAdd, ↓kept_pmcEvent, ↓kept_pmcSlot, ↓kept_setRun, hk, h_f]; done) | split

theorem kept_lisJob {s0 : State} (s : State) (a : LisAt) (op : ℕ) (fields : ℕ) (f : Run → Run) (hk : Kept s0 s) :
    Kept s0 (State.lisJob s a op fields f) := by
  unfold State.lisJob
  repeat' first | (simp +contextual (maxDischargeDepth := 99) only [implies_true, ↓kept_lis, ↓kept_setRun, hk]; done) | split

theorem kept_execLisNop {s0 : State} (at_ : LisAt) (s : State) (hk : Kept s0 s) :
    KeptOut s0 (execLisNop at_ s) := by
  unfold execLisNop
  repeat' first | (simp +contextual (maxDischargeDepth := 99) only [implies_true, ↓keptOut_next, ↓kept_lis, ↓kept_setRun, hk]; done) | split

theorem kept_execLisEnd {s0 : State} (at_ : LisAt) (s : State) (hk : Kept s0 s) :
    KeptOut s0 (execLisEnd at_ s) := by
  unfold execLisEnd
  repeat' first | (simp +contextual (maxDischargeDepth := 99) only [implies_true, ↓kept_ite, ↓kept_with, ↓keptOut_next, ↓kept_endJob, ↓kept_lis, ↓kept_pmcAdd, ↓kept_pmcEvent, ↓kept_pmcSlot, ↓kept_setRun, hk]; done) | split

theorem kept_execLisBr {s0 : State} (at_ : LisAt) (off : Fin 1024) (s : State) (hk : Kept s0 s) :
    KeptOut s0 (execLisBr at_ off s) := by
  unfold execLisBr
  repeat' first | (simp +contextual (maxDischargeDepth := 99) only [implies_true, ↓keptOut_next, ↓kept_lis, ↓kept_pmcAdd, ↓kept_setRun, hk]; done) | split

theorem kept_execLisDone {s0 : State} (at_ : LisAt) (s : State) (hk : Kept s0 s) :
    KeptOut s0 (execLisDone at_ s) := by
  unfold execLisDone
  repeat' first | (simp +contextual (maxDischargeDepth := 99) only [implies_true, ↓keptOut_next, ↓kept_lis, ↓kept_setRun, hk]; done) | split

theorem kept_execLisWcand {s0 : State} (at_ : LisAt) (ra : Fin 16) (s : State) (hk : Kept s0 s) :
    KeptOut s0 (execLisWcand at_ ra s) := by
  unfold execLisWcand
  repeat' first | (simp +contextual (maxDischargeDepth := 99) only [implies_true, ↓keptOut_next, ↓kept_lis, ↓kept_setRun, hk]; done) | split

theorem kept_execLisAdd {s0 : State} (at_ : LisAt) (rd : Fin 16) (ra : Fin 16) (rb : Fin 16) (s : State) (hk : Kept s0 s) :
    KeptOut s0 (execLisAdd at_ rd ra rb s) := by
  unfold execLisAdd
  repeat' first | (simp +contextual (maxDischargeDepth := 99) only [↓keptOut_next, ↓kept_lisJob, hk]; done) | split

theorem kept_execLisSub {s0 : State} (at_ : LisAt) (rd : Fin 16) (ra : Fin 16) (rb : Fin 16) (s : State) (hk : Kept s0 s) :
    KeptOut s0 (execLisSub at_ rd ra rb s) := by
  unfold execLisSub
  repeat' first | (simp +contextual (maxDischargeDepth := 99) only [↓keptOut_next, ↓kept_lisJob, hk]; done) | split

theorem kept_execLisAddi {s0 : State} (at_ : LisAt) (rd : Fin 16) (ra : Fin 16) (imm : BitVec 15) (s : State) (hk : Kept s0 s) :
    KeptOut s0 (execLisAddi at_ rd ra imm s) := by
  unfold execLisAddi
  repeat' first | (simp +contextual (maxDischargeDepth := 99) only [↓keptOut_next, ↓kept_lisJob, hk]; done) | split

theorem kept_execLisMovi {s0 : State} (at_ : LisAt) (rd : Fin 16) (imm : BitVec 15) (s : State) (hk : Kept s0 s) :
    KeptOut s0 (execLisMovi at_ rd imm s) := by
  unfold execLisMovi
  repeat' first | (simp +contextual (maxDischargeDepth := 99) only [↓keptOut_next, ↓kept_lisJob, hk]; done) | split

theorem kept_execLisMovhi {s0 : State} (at_ : LisAt) (rd : Fin 16) (imm : BitVec 16) (s : State) (hk : Kept s0 s) :
    KeptOut s0 (execLisMovhi at_ rd imm s) := by
  unfold execLisMovhi
  repeat' first | (simp +contextual (maxDischargeDepth := 99) only [↓keptOut_next, ↓kept_lisJob, hk]; done) | split

theorem kept_execLisMovlo {s0 : State} (at_ : LisAt) (rd : Fin 16) (imm : BitVec 16) (s : State) (hk : Kept s0 s) :
    KeptOut s0 (execLisMovlo at_ rd imm s) := by
  unfold execLisMovlo
  repeat' first | (simp +contextual (maxDischargeDepth := 99) only [↓keptOut_next, ↓kept_lisJob, hk]; done) | split

theorem kept_execLisMul {s0 : State} (at_ : LisAt) (rd : Fin 16) (ra : Fin 16) (rb : Fin 16) (s : State) (hk : Kept s0 s) :
    KeptOut s0 (execLisMul at_ rd ra rb s) := by
  unfold execLisMul
  repeat' first | (simp +contextual (maxDischargeDepth := 99) only [↓keptOut_next, ↓kept_lisJob, hk]; done) | split

theorem kept_execLisMulq {s0 : State} (at_ : LisAt) (rd : Fin 16) (ra : Fin 16) (rb : Fin 16) (sh : Fin 32) (s : State) (hk : Kept s0 s) :
    KeptOut s0 (execLisMulq at_ rd ra rb sh s) := by
  unfold execLisMulq
  repeat' first | (simp +contextual (maxDischargeDepth := 99) only [↓keptOut_next, ↓kept_lisJob, hk]; done) | split

theorem kept_execLisDiv {s0 : State} (at_ : LisAt) (rd : Fin 16) (ra : Fin 16) (rb : Fin 16) (s : State) (hk : Kept s0 s) :
    KeptOut s0 (execLisDiv at_ rd ra rb s) := by
  unfold execLisDiv
  repeat' first | (simp +contextual (maxDischargeDepth := 99) only [↓keptOut_next, ↓kept_lisJob, hk]; done) | split

theorem kept_execLisMin {s0 : State} (at_ : LisAt) (rd : Fin 16) (ra : Fin 16) (rb : Fin 16) (s : State) (hk : Kept s0 s) :
    KeptOut s0 (execLisMin at_ rd ra rb s) := by
  unfold execLisMin
  repeat' first | (simp +contextual (maxDischargeDepth := 99) only [↓keptOut_next, ↓kept_lisJob, hk]; done) | split

theorem kept_execLisMax {s0 : State} (at_ : LisAt) (rd : Fin 16) (ra : Fin 16) (rb : Fin 16) (s : State) (hk : Kept s0 s) :
    KeptOut s0 (execLisMax at_ rd ra rb s) := by
  unfold execLisMax
  repeat' first | (simp +contextual (maxDischargeDepth := 99) only [↓keptOut_next, ↓kept_lisJob, hk]; done) | split

theorem kept_execLisClmp {s0 : State} (at_ : LisAt) (rd : Fin 16) (ra : Fin 16) (rb : Fin 16) (s : State) (hk : Kept s0 s) :
    KeptOut s0 (execLisClmp at_ rd ra rb s) := by
  unfold execLisClmp
  repeat' first | (simp +contextual (maxDischargeDepth := 99) only [↓keptOut_next, ↓kept_lisJob, hk]; done) | split

theorem kept_execLisAbs {s0 : State} (at_ : LisAt) (rd : Fin 16) (ra : Fin 16) (s : State) (hk : Kept s0 s) :
    KeptOut s0 (execLisAbs at_ rd ra s) := by
  unfold execLisAbs
  repeat' first | (simp +contextual (maxDischargeDepth := 99) only [↓keptOut_next, ↓kept_lisJob, hk]; done) | split

theorem kept_execLisAnd {s0 : State} (at_ : LisAt) (rd : Fin 16) (ra : Fin 16) (rb : Fin 16) (s : State) (hk : Kept s0 s) :
    KeptOut s0 (execLisAnd at_ rd ra rb s) := by
  unfold execLisAnd
  repeat' first | (simp +contextual (maxDischargeDepth := 99) only [↓keptOut_next, ↓kept_lisJob, hk]; done) | split

theorem kept_execLisOr {s0 : State} (at_ : LisAt) (rd : Fin 16) (ra : Fin 16) (rb : Fin 16) (s : State) (hk : Kept s0 s) :
    KeptOut s0 (execLisOr at_ rd ra rb s) := by
  unfold execLisOr
  repeat' first | (simp +contextual (maxDischargeDepth := 99) only [↓keptOut_next, ↓kept_lisJob, hk]; done) | split

theorem kept_execLisXor {s0 : State} (at_ : LisAt) (rd : Fin 16) (ra : Fin 16) (rb : Fin 16) (s : State) (hk : Kept s0 s) :
    KeptOut s0 (execLisXor at_ rd ra rb s) := by
  unfold execLisXor
  repeat' first | (simp +contextual (maxDischargeDepth := 99) only [↓keptOut_next, ↓kept_lisJob, hk]; done) | split

theorem kept_execLisShl {s0 : State} (at_ : LisAt) (rd : Fin 16) (ra : Fin 16) (sh : Fin 32) (s : State) (hk : Kept s0 s) :
    KeptOut s0 (execLisShl at_ rd ra sh s) := by
  unfold execLisShl
  repeat' first | (simp +contextual (maxDischargeDepth := 99) only [↓keptOut_next, ↓kept_lisJob, hk]; done) | split

theorem kept_execLisAsr {s0 : State} (at_ : LisAt) (rd : Fin 16) (ra : Fin 16) (sh : Fin 32) (rnd : Bool) (s : State) (hk : Kept s0 s) :
    KeptOut s0 (execLisAsr at_ rd ra sh rnd s) := by
  unfold execLisAsr
  repeat' first | (simp +contextual (maxDischargeDepth := 99) only [↓keptOut_next, ↓kept_lisJob, hk]; done) | split

theorem kept_execLisSel {s0 : State} (at_ : LisAt) (rd : Fin 16) (ra : Fin 16) (rb : Fin 16) (p : Fin 4) (s : State) (hk : Kept s0 s) :
    KeptOut s0 (execLisSel at_ rd ra rb p s) := by
  unfold execLisSel
  repeat' first | (simp +contextual (maxDischargeDepth := 99) only [↓keptOut_next, ↓kept_lisJob, hk]; done) | split

theorem kept_execLisCmplt {s0 : State} (at_ : LisAt) (pd : Fin 4) (ra : Fin 16) (rb : Fin 16) (s : State) (hk : Kept s0 s) :
    KeptOut s0 (execLisCmplt at_ pd ra rb s) := by
  unfold execLisCmplt
  repeat' first | (simp +contextual (maxDischargeDepth := 99) only [↓keptOut_next, ↓kept_lisJob, hk]; done) | split

theorem kept_execLisCmple {s0 : State} (at_ : LisAt) (pd : Fin 4) (ra : Fin 16) (rb : Fin 16) (s : State) (hk : Kept s0 s) :
    KeptOut s0 (execLisCmple at_ pd ra rb s) := by
  unfold execLisCmple
  repeat' first | (simp +contextual (maxDischargeDepth := 99) only [↓keptOut_next, ↓kept_lisJob, hk]; done) | split

theorem kept_execLisCmpeq {s0 : State} (at_ : LisAt) (pd : Fin 4) (ra : Fin 16) (rb : Fin 16) (s : State) (hk : Kept s0 s) :
    KeptOut s0 (execLisCmpeq at_ pd ra rb s) := by
  unfold execLisCmpeq
  repeat' first | (simp +contextual (maxDischargeDepth := 99) only [↓keptOut_next, ↓kept_lisJob, hk]; done) | split

theorem kept_execLisTbit {s0 : State} (at_ : LisAt) (pd : Fin 4) (ra : Fin 16) (b : Fin 32) (s : State) (hk : Kept s0 s) :
    KeptOut s0 (execLisTbit at_ pd ra b s) := by
  unfold execLisTbit
  repeat' first | (simp +contextual (maxDischargeDepth := 99) only [↓keptOut_next, ↓kept_lisJob, hk]; done) | split

theorem kept_execLisCmplti {s0 : State} (at_ : LisAt) (pd : Fin 4) (ra : Fin 16) (imm : BitVec 15) (s : State) (hk : Kept s0 s) :
    KeptOut s0 (execLisCmplti at_ pd ra imm s) := by
  unfold execLisCmplti
  repeat' first | (simp +contextual (maxDischargeDepth := 99) only [↓keptOut_next, ↓kept_lisJob, hk]; done) | split

theorem kept_execLisCmpgti {s0 : State} (at_ : LisAt) (pd : Fin 4) (ra : Fin 16) (imm : BitVec 15) (s : State) (hk : Kept s0 s) :
    KeptOut s0 (execLisCmpgti at_ pd ra imm s) := by
  unfold execLisCmpgti
  repeat' first | (simp +contextual (maxDischargeDepth := 99) only [↓keptOut_next, ↓kept_lisJob, hk]; done) | split

theorem kept_lisImage {s0 : State} (s : State) (r : Run) (rd : ℕ) (sel : ℕ) (idx : ℤ) (hk : Kept s0 s) :
    Kept s0 (State.lisImage s r rd sel idx) := by
  unfold State.lisImage
  repeat' first | (simp +contextual (maxDischargeDepth := 99) only [↓kept_ite, ↓kept_bump, ↓kept_pmcAdd, ↓kept_setRun, hk]; done) | split

theorem kept_execLisLdi {s0 : State} (at_ : LisAt) (rd : Fin 16) (sel : Fin 32) (idx : BitVec 14) (s : State) (hk : Kept s0 s) :
    KeptOut s0 (execLisLdi at_ rd sel idx s) := by
  unfold execLisLdi
  repeat' first | (simp +contextual (maxDischargeDepth := 99) only [implies_true, ↓keptOut_next, ↓kept_lis, ↓kept_lisImage, hk]; done) | split

theorem kept_execLisLdx {s0 : State} (at_ : LisAt) (rd : Fin 16) (sel : Fin 32) (ra : Fin 16) (s : State) (hk : Kept s0 s) :
    KeptOut s0 (execLisLdx at_ rd sel ra s) := by
  unfold execLisLdx
  repeat' first | (simp +contextual (maxDischargeDepth := 99) only [implies_true, ↓keptOut_next, ↓kept_lis, ↓kept_lisImage, hk]; done) | split

theorem kept_execLisLdk {s0 : State} (at_ : LisAt) (rd : Fin 16) (k : Fin 8) (s : State) (hk : Kept s0 s) :
    KeptOut s0 (execLisLdk at_ rd k s) := by
  unfold execLisLdk
  repeat' first | (simp +contextual (maxDischargeDepth := 99) only [implies_true, ↓keptOut_next, ↓kept_lis, ↓kept_setRun, hk]; done) | split

theorem kept_execLisStk {s0 : State} (at_ : LisAt) (ra : Fin 16) (k : Fin 8) (s : State) (hk : Kept s0 s) :
    KeptOut s0 (execLisStk at_ ra k s) := by
  unfold execLisStk
  repeat' first | (simp +contextual (maxDischargeDepth := 99) only [↓keptOut_next, ↓kept_lisJob, hk]; done) | split

theorem kept_execLisRdpc {s0 : State} (at_ : LisAt) (rd : Fin 16) (n : Fin 8) (s : State) (hk : Kept s0 s) :
    KeptOut s0 (execLisRdpc at_ rd n s) := by
  unfold execLisRdpc
  try dsimp only
  repeat' first | with_reducible assumption | simp only [↓kept_with] | with_reducible apply kept_ite_fst | with_reducible apply kept_ite_snd | with_reducible apply kept_foldl_fst | with_reducible apply kept_ite | with_reducible apply kept_foldl | with_reducible apply keptOut_next | with_reducible apply kept_bump | with_reducible apply kept_draw | with_reducible apply kept_lis | with_reducible apply kept_pmcAccrue | with_reducible apply kept_pmcAdd | with_reducible apply kept_setRun | intro _ | split

end Sys2Proof.Machine
end

