-- ==== Sys2Proof/Laws/KeptHost.lean ====
section
/-! SUPPORT. What the operations and commands of Machine/Host.lean keep (Kept). -/
namespace Sys2Proof.Machine

theorem kept_dbRange {s0 : State} (s : State) (die : ℕ) (ring : ℕ) (f : Fld) (addr : ℕ) (hk : Kept s0 s) :
    Kept s0 (State.dbRange s die ring f addr) := by
  unfold State.dbRange
  repeat' first | (simp +contextual (maxDischargeDepth := 99) only [↓kept_hptError, ↓kept_wr, hk]; done) | split

theorem kept_viaBar2 {s0 : State} (s : State) (die : ℕ) (page : ℕ) (off : ℕ) (f : State → State) (hk : Kept s0 s) (h_f : ∀ y0, Kept s0 y0 → Kept s0 (f y0)) :
    Kept s0 (State.viaBar2 s die page off f) := by
  unfold State.viaBar2
  repeat' first | (simp +contextual (maxDischargeDepth := 99) only [↓kept_ite, ↓kept_hptError, hk, h_f]; done) | split

theorem kept_sqDoorbell {s0 : State} (s : State) (die : ℕ) (page : ℕ) (value : ℕ) (hk : Kept s0 s) :
    Kept s0 (State.sqDoorbell s die page value) := by
  unfold State.sqDoorbell
  repeat' first | (simp +contextual (maxDischargeDepth := 99) only [implies_true, ↓kept_ite, ↓kept_dbRange, ↓kept_viaBar2, ↓kept_wr, hk]; done) | split

theorem kept_cqDoorbell {s0 : State} (s : State) (die : ℕ) (page : ℕ) (value : ℕ) (hk : Kept s0 s) :
    Kept s0 (State.cqDoorbell s die page value) := by
  unfold State.cqDoorbell
  repeat' first | (simp +contextual (maxDischargeDepth := 99) only [implies_true, ↓kept_ite, ↓kept_dbRange, ↓kept_viaBar2, ↓kept_wr, hk]; done) | split

theorem kept_tqDoorbell {s0 : State} (s : State) (die : ℕ) (page : ℕ) (value : ℕ) (hk : Kept s0 s) :
    Kept s0 (State.tqDoorbell s die page value) := by
  unfold State.tqDoorbell
  repeat' first | (simp +contextual (maxDischargeDepth := 99) only [implies_true, ↓kept_ite, ↓kept_dbRange, ↓kept_viaBar2, ↓kept_wr, hk]; done) | split

theorem kept_execDoorbellSqTail {s0 : State} (die : Fin 2) (page : Fin 64) (value : Word) (s : State) (hk : Kept s0 s) :
    KeptOut s0 (execDoorbellSqTail die page value s) := by
  unfold execDoorbellSqTail
  repeat' first | (simp +contextual (maxDischargeDepth := 99) only [↓keptOut_next, ↓kept_sqDoorbell, hk]; done) | split

theorem kept_execDoorbellCqHead {s0 : State} (die : Fin 2) (page : Fin 64) (value : Word) (s : State) (hk : Kept s0 s) :
    KeptOut s0 (execDoorbellCqHead die page value s) := by
  unfold execDoorbellCqHead
  repeat' first | (simp +contextual (maxDischargeDepth := 99) only [↓keptOut_next, ↓kept_cqDoorbell, hk]; done) | split

theorem kept_execDoorbellTqHead {s0 : State} (die : Fin 2) (page : Fin 64) (value : Word) (s : State) (hk : Kept s0 s) :
    KeptOut s0 (execDoorbellTqHead die page value s) := by
  unfold execDoorbellTqHead
  repeat' first | (simp +contextual (maxDischargeDepth := 99) only [↓keptOut_next, ↓kept_tqDoorbell, hk]; done) | split

theorem kept_execDescriptorFetch {s0 : State} (ring : Fin 64) (s : State) (hk : Kept s0 s) :
    KeptOut s0 (execDescriptorFetch ring s) := by
  unfold execDescriptorFetch
  repeat' first | (simp +contextual (maxDischargeDepth := 99) only [↓kept_ite, ↓kept_with, ↓keptOut_next, ↓kept_wr, hk]; done) | split

theorem kept_accept {s0 : State} (s : State) (ring : ℕ) (bs : List Byte) (hk : Kept s0 s) :
    Kept s0 (State.accept s ring bs) := by
  unfold State.accept
  repeat' first | (simp +contextual (maxDischargeDepth := 99) only [↓kept_ite, ↓kept_with, ↓kept_done, ↓kept_hptRefresh, hk]; done) | split

theorem kept_acceptAll {s0 : State} (s : State) (ring : ℕ) (a : ℕ) (hk : Kept s0 s) :
    Kept s0 (State.acceptAll s ring a) := by
  induction a generalizing s with
  | zero => exact hk
  | succ n ih =>
    unfold State.acceptAll
    refine kept_ite hk ?_
    split
    · exact hk
    · exact ih _ (kept_accept _ _ _ ((kept_with ..).mpr hk))

theorem kept_execDescriptorAccept {s0 : State} (ring : Fin 64) (read : HostRead (Option (List Byte))) (s : State) (hk : Kept s0 s) :
    KeptOut s0 (execDescriptorAccept ring read s) := by
  unfold execDescriptorAccept
  repeat' first | (simp +contextual (maxDischargeDepth := 99) only [↓kept_ite, ↓kept_with, ↓keptOut_next, ↓kept_acceptAll, ↓kept_hptError, ↓kept_poison, ↓kept_wr, hk]; done) | split

theorem kept_execNop {s0 : State} (id : ℕ) (s : State) (hk : Kept s0 s) :
    KeptOut s0 (execNop id s) := by
  unfold execNop
  repeat' first | (simp +contextual (maxDischargeDepth := 99) only [implies_true, ↓kept_ite, ↓keptOut_next, ↓kept_done, ↓kept_finish, ↓kept_withOp, hk]; done) | split

theorem kept_execFence {s0 : State} (id : ℕ) (s : State) (hk : Kept s0 s) :
    KeptOut s0 (execFence id s) := by
  unfold execFence
  repeat' first | (simp +contextual (maxDischargeDepth := 99) only [implies_true, ↓kept_ite, ↓keptOut_next, ↓kept_acceptAll, ↓kept_done, ↓kept_withOp, hk]; done) | split

theorem kept_signal {s0 : State} (s : State) (key : ℕ) (vec : ℕ) (count : ℕ) (now : Bool) (hk : Kept s0 s) :
    Kept s0 (State.signal s key vec count now) := by
  unfold State.signal
  repeat' first | (simp +contextual (maxDischargeDepth := 99) only [↓kept_ite, ↓kept_with, ↓kept_msix, hk]; done) | split

theorem kept_writeCompl {s0 : State} (s : State) (c : Compl) (seq : ℕ) (hk : Kept s0 s) :
    Kept s0 (State.writeCompl s c seq) := by
  unfold State.writeCompl
  repeat' first | (simp +contextual (maxDischargeDepth := 99) only [↓kept_ite, ↓kept_signal, ↓kept_toHost, ↓kept_wr, hk]; done) | split

theorem kept_execCompletionWrite {s0 : State} (cq : Fin 64) (s : State) (hk : Kept s0 s) :
    KeptOut s0 (execCompletionWrite cq s) := by
  unfold execCompletionWrite
  repeat' first | (simp +contextual (maxDischargeDepth := 99) only [↓kept_with, ↓keptOut_next, ↓kept_hptRefresh, ↓kept_wr, ↓kept_writeCompl, hk]; done) | split

theorem kept_repost {s0 : State} (s : State) (hk : Kept s0 s) :
    Kept s0 (State.repost s) := by
  unfold State.repost
  repeat' first | (simp +contextual (maxDischargeDepth := 99) only [implies_true, ↓kept_foldl, ↓kept_with, ↓kept_cqRefresh, hk]; done) | split

theorem kept_writeRecord {s0 : State} (s : State) (tq : Fin 16) (hk : Kept s0 s) :
    Kept s0 (State.writeRecord s tq) := by
  unfold State.writeRecord
  repeat' first | (simp +contextual (maxDischargeDepth := 99) only [↓kept_ite, ↓kept_with, ↓kept_bump, ↓kept_emit, ↓kept_hptError, ↓kept_signal, ↓kept_wr, hk]; done) | split

theorem kept_execCoalTimeExpiry {s0 : State} (telemetry : Bool) (ring : Fin 64) (s : State) (hk : Kept s0 s) :
    KeptOut s0 (execCoalTimeExpiry telemetry ring s) := by
  unfold execCoalTimeExpiry
  try dsimp only
  repeat' first | with_reducible assumption | simp only [↓kept_with] | with_reducible apply kept_ite_fst | with_reducible apply kept_ite_snd | with_reducible apply kept_foldl_fst | with_reducible apply kept_ite | with_reducible apply kept_foldl | with_reducible apply keptOut_next | with_reducible apply kept_msix | with_reducible apply kept_reach | intro _ | split

theorem kept_dropAll {s0 : State} (s : State) (hk : Kept s0 s) :
    Kept s0 (State.dropAll s) := by
  unfold State.dropAll
  repeat' first | (simp +contextual (maxDischargeDepth := 99) only [↓kept_with, ↓kept_bump, ↓kept_wr, hk]; done) | split

theorem kept_hostReset {s0 : State} (s : State) (die : ℕ) (linkDown : Bool) (hk : Kept s0 s) :
    Kept s0 (State.hostReset s die linkDown) := by
  unfold State.hostReset
  repeat' first | (simp +contextual (maxDischargeDepth := 99) only [↓kept_ite, ↓kept_with, ↓kept_bump, ↓kept_clearMem, ↓kept_clearRegs, ↓kept_dropAll, ↓kept_wr, hk]; done) | split

theorem kept_execPerstAssert {s0 : State} (die : Fin 2) (s : State) (hk : Kept s0 s) :
    KeptOut s0 (execPerstAssert die s) := by
  unfold execPerstAssert
  repeat' first | (simp +contextual (maxDischargeDepth := 99) only [↓kept_with, ↓keptOut_next, ↓kept_hostReset, hk]; done) | split

theorem kept_execPerstRelease {s0 : State} (die : Fin 2) (s : State) (hk : Kept s0 s) :
    KeptOut s0 (execPerstRelease die s) := by
  unfold execPerstRelease
  repeat' first | (simp +contextual (maxDischargeDepth := 99) only [↓kept_with, ↓keptOut_next, hk]; done) | split

theorem kept_execHotReset {s0 : State} (die : Fin 2) (s : State) (hk : Kept s0 s) :
    KeptOut s0 (execHotReset die s) := by
  unfold execHotReset
  repeat' first | (simp +contextual (maxDischargeDepth := 99) only [↓kept_with, ↓keptOut_next, ↓kept_hostReset, hk]; done) | split

theorem kept_execLinkDisable {s0 : State} (die : Fin 2) (s : State) (hk : Kept s0 s) :
    KeptOut s0 (execLinkDisable die s) := by
  unfold execLinkDisable
  repeat' first | (simp +contextual (maxDischargeDepth := 99) only [↓kept_with, ↓keptOut_next, ↓kept_hostReset, hk]; done) | split

theorem kept_execDataLinkLoss {s0 : State} (die : Fin 2) (s : State) (hk : Kept s0 s) :
    KeptOut s0 (execDataLinkLoss die s) := by
  unfold execDataLinkLoss
  repeat' first | (simp +contextual (maxDischargeDepth := 99) only [↓kept_with, ↓keptOut_next, ↓kept_hostReset, ↓kept_raise, hk]; done) | split

theorem kept_execFunctionLevelReset {s0 : State} (die : Fin 2) (s : State) (hk : Kept s0 s) :
    KeptOut s0 (execFunctionLevelReset die s) := by
  unfold execFunctionLevelReset
  repeat' first | (simp +contextual (maxDischargeDepth := 99) only [↓keptOut_next, ↓kept_hostReset, hk]; done) | split

theorem kept_execReturnFromD3hot {s0 : State} (die : Fin 2) (s : State) (hk : Kept s0 s) :
    KeptOut s0 (execReturnFromD3hot die s) := by
  unfold execReturnFromD3hot
  repeat' first | (simp +contextual (maxDischargeDepth := 99) only [↓keptOut_next, ↓kept_hostReset, hk]; done) | split

theorem kept_execLinkTrained {s0 : State} (die : Fin 2) (width : Fin 5) (speed : Fin 6) (s : State) (hk : Kept s0 s) :
    KeptOut s0 (execLinkTrained die width speed s) := by
  unfold execLinkTrained
  repeat' first | (simp +contextual (maxDischargeDepth := 99) only [↓kept_ite, ↓kept_with, ↓keptOut_next, ↓kept_wr, hk]; done) | split

theorem kept_execHptCtlEnable {s0 : State} (die : Fin 2) (value : Bool) (s : State) (hk : Kept s0 s) :
    KeptOut s0 (execHptCtlEnable die value s) := by
  unfold execHptCtlEnable
  repeat' first | (simp +contextual (maxDischargeDepth := 99) only [implies_true, ↓kept_ite, ↓keptOut_next, ↓kept_viaBar0, ↓kept_wr, hk]; done) | split

theorem kept_hptReject {s0 : State} (s : State) (hk : Kept s0 s) :
    Kept s0 (State.hptReject s) := by
  unfold State.hptReject
  repeat' first | (simp +contextual (maxDischargeDepth := 99) only [↓kept_wr, hk]; done) | split

theorem kept_execSqEnable {s0 : State} (die : Fin 2) (ring : Fin 64) (value : Bool) (s : State) (hk : Kept s0 s) :
    KeptOut s0 (execSqEnable die ring value s) := by
  unfold execSqEnable
  repeat' first | (simp +contextual (maxDischargeDepth := 99) only [implies_true, ↓kept_ite, ↓kept_with, ↓keptOut_next, ↓kept_hptReject, ↓kept_viaBar0, ↓kept_wr, hk]; done) | split

theorem kept_execCqEnable {s0 : State} (die : Fin 2) (ring : Fin 64) (value : Bool) (s : State) (hk : Kept s0 s) :
    KeptOut s0 (execCqEnable die ring value s) := by
  unfold execCqEnable
  repeat' first | (simp +contextual (maxDischargeDepth := 99) only [implies_true, ↓kept_ite, ↓kept_foldl, ↓kept_with, ↓keptOut_next, ↓kept_bump, ↓kept_hptReject, ↓kept_viaBar0, ↓kept_wr, hk]; done) | split

theorem kept_execTqEnable {s0 : State} (die : Fin 2) (ring : Fin 16) (value : Bool) (s : State) (hk : Kept s0 s) :
    KeptOut s0 (execTqEnable die ring value s) := by
  unfold execTqEnable
  repeat' first | (simp +contextual (maxDischargeDepth := 99) only [implies_true, ↓kept_ite, ↓kept_with, ↓keptOut_next, ↓kept_viaBar0, ↓kept_wr, hk]; done) | split

end Sys2Proof.Machine
end

