-- ==== Sys2Proof/Laws/KeptProfile.lean ====
section
/-! SUPPORT. What the operations and commands of Machine/Profile.lean keep (Kept). -/
namespace Sys2Proof.Machine

theorem kept_sendCode {s0 : State} (s : State) (ch : ℕ) (code : ℕ) (f : ℕ) (hk : Kept s0 s) :
    Kept s0 (State.sendCode s ch code f) := by
  unfold State.sendCode
  repeat' first | (simp +contextual (maxDischargeDepth := 99) only [↓kept_with, hk]; done) | split

theorem kept_handBack {s0 : State} (s : State) (g : Gen) (h : ℕ) (hk : Kept s0 s) :
    Kept s0 (State.handBack s g h) := by
  unfold State.handBack
  repeat' first | (simp +contextual (maxDischargeDepth := 99) only [↓kept_ite, ↓kept_releaseGen, ↓kept_resumeLoops, ↓kept_setCclass, hk]; done) | split

theorem kept_sendEarly {s0 : State} (s : State) (c : Cycle) (g : Gen) (hk : Kept s0 s) :
    Kept s0 (State.sendEarly s c g) := by
  unfold State.sendEarly
  repeat' first | (simp +contextual (maxDischargeDepth := 99) only [↓kept_with, ↓kept_reach, ↓kept_sendCode, ↓kept_withdraw, hk]; done) | split

theorem kept_profileStep {s0 : State} (s : State) (g : Gen) (hk : Kept s0 s) :
    Kept s0 (State.profileStep s g) := by
  unfold State.profileStep
  repeat' first | (simp +contextual (maxDischargeDepth := 99) only [↓kept_ite, ↓kept_with, ↓kept_handBack, ↓kept_reach, ↓kept_sendCode, hk]; done) | split

theorem kept_execProfileUpdate {s0 : State} (gen : Fin 4096) (s : State) (hk : Kept s0 s) :
    KeptOut s0 (execProfileUpdate gen s) := by
  unfold execProfileUpdate
  repeat' first | (simp +contextual (maxDischargeDepth := 99) only [↓kept_ite, ↓keptOut_next, ↓kept_profileStep, ↓kept_sendEarly, hk]; done) | split

theorem kept_beginPass {s0 : State} (s : State) (p : Player) (hk : Kept s0 s) :
    Kept s0 (State.beginPass s p).2 := by
  unfold State.beginPass
  try dsimp only
  repeat' first | with_reducible assumption | simp only [↓kept_with] | with_reducible apply kept_ite_fst | with_reducible apply kept_ite_snd | with_reducible apply kept_foldl_fst | with_reducible apply kept_ite | with_reducible apply kept_foldl | with_reducible apply keptOut_next | with_reducible apply kept_wr | intro _ | split

theorem kept_beginSeg {s0 : State} (s : State) (p : Player) (g : ℕ) (hk : Kept s0 s) :
    Kept s0 (State.beginSeg s p g) := by
  unfold State.beginSeg
  repeat' first | (simp +contextual (maxDischargeDepth := 99) only [↓kept_beginPass, ↓kept_setPlayer, hk]; done) | split

theorem kept_withPlayer {s0 : State} (s : State) (n : ℕ) (f : Player → State) (hk : Kept s0 s) (h_f : ∀ y0, Kept s0 (f y0)) :
    Kept s0 (State.withPlayer s n f) := by
  unfold State.withPlayer
  repeat' first | (simp +contextual (maxDischargeDepth := 99) only [hk, h_f]; done) | split

theorem kept_putFrame {s0 : State} (s : State) (p : Player) (code : ℕ) (hk : Kept s0 s) :
    Kept s0 (State.putFrame s p code) := by
  unfold State.putFrame
  repeat' first | (simp +contextual (maxDischargeDepth := 99) only [↓kept_recordP, ↓kept_sendCode, ↓kept_setPlayer, hk]; done) | split

theorem kept_starvedFrame {s0 : State} (s : State) (p : Player) (hk : Kept s0 s) :
    Kept s0 (State.starvedFrame s p) := by
  unfold State.starvedFrame
  repeat' first | (simp +contextual (maxDischargeDepth := 99) only [↓kept_ite, ↓kept_bump, ↓kept_putFrame, ↓kept_wr, hk]; done) | split

theorem kept_execPlayerFrameOutput {s0 : State} (player : Fin 32) (ecc : Option EccHit) (s : State) (hk : Kept s0 s) :
    KeptOut s0 (execPlayerFrameOutput player ecc s) := by
  unfold execPlayerFrameOutput
  refine keptOut_next (kept_withPlayer _ _ _ hk fun p => kept_ite hk ?_)
  have h1 : Kept s0 ((s.reach (p.next - 16)).eccHit ecc) := kept_eccHit _ _ _ (kept_reach _ _ hk)
  refine kept_ite (kept_stopPlayer _ _ _ (kept_reach _ _ h1)) (kept_ite (kept_starvedFrame _ _ h1) (kept_ite
    (kept_putFrame _ _ _ h1) ?_))
  generalize State.playValue _ _ = w
  cases w
  · exact h1
  · exact kept_putFrame _ _ _ h1

theorem kept_nextPass {s0 : State} (s : State) (p : Player) (hk : Kept s0 s) :
    Kept s0 (State.nextPass s p) := by
  unfold State.nextPass
  repeat' first | (simp +contextual (maxDischargeDepth := 99) only [↓kept_ite, ↓kept_beginPass, ↓kept_beginSeg, ↓kept_occur, ↓kept_setPlayer, hk]; done) | split

theorem kept_execPlayerPassEnd {s0 : State} (player : Fin 32) (s : State) (hk : Kept s0 s) :
    KeptOut s0 (execPlayerPassEnd player s) := by
  unfold execPlayerPassEnd
  repeat' first | (simp +contextual (maxDischargeDepth := 99) only [implies_true, ↓kept_ite, ↓keptOut_next, ↓kept_nextPass, ↓kept_withPlayer, hk]; done) | split

theorem kept_playerTrig {s0 : State} (s : State) (n : ℕ) (wait : ℕ) (hk : Kept s0 s) :
    Kept s0 (State.playerTrig s n wait) := by
  unfold State.playerTrig
  repeat' first | (simp +contextual (maxDischargeDepth := 99) only [implies_true, ↓kept_ite, ↓kept_setPlayer, ↓kept_withPlayer, ↓kept_wr, hk]; done) | split

theorem kept_execPlayerTrigger {s0 : State} (die : Fin 2) (player : Fin 32) (s : State) (hk : Kept s0 s) :
    KeptOut s0 (execPlayerTrigger die player s) := by
  unfold execPlayerTrigger
  repeat' first | (simp +contextual (maxDischargeDepth := 99) only [implies_true, ↓keptOut_next, ↓kept_playerTrig, ↓kept_viaBar0, hk]; done) | split

theorem kept_playerJump {s0 : State} (s : State) (n : ℕ) (hk : Kept s0 s) :
    Kept s0 (State.playerJump s n) := by
  unfold State.playerJump
  try dsimp only
  repeat' first | with_reducible assumption | simp only [↓kept_with] | with_reducible apply kept_ite_fst | with_reducible apply kept_ite_snd | with_reducible apply kept_foldl_fst | with_reducible apply kept_ite | with_reducible apply kept_foldl | with_reducible apply keptOut_next | with_reducible apply kept_setPlayer | with_reducible apply kept_withPlayer | with_reducible apply kept_wr | intro _ | split

theorem kept_execPlayerJump {s0 : State} (die : Fin 2) (player : Fin 32) (s : State) (hk : Kept s0 s) :
    KeptOut s0 (execPlayerJump die player s) := by
  unfold execPlayerJump
  repeat' first | (simp +contextual (maxDischargeDepth := 99) only [implies_true, ↓keptOut_next, ↓kept_playerJump, ↓kept_viaBar0, hk]; done) | split

theorem kept_execJumpApply {s0 : State} (player : Fin 32) (s : State) (hk : Kept s0 s) :
    KeptOut s0 (execJumpApply player s) := by
  unfold execJumpApply
  try dsimp only
  repeat' first | with_reducible assumption | simp only [↓kept_with] | with_reducible apply kept_ite_fst | with_reducible apply kept_ite_snd | with_reducible apply kept_foldl_fst | with_reducible apply kept_ite | with_reducible apply kept_foldl | with_reducible apply keptOut_next | with_reducible apply kept_beginSeg | with_reducible apply kept_withPlayer | intro _ | split

theorem kept_execRateWrite {s0 : State} (die : Fin 2) (player : Fin 32) (value : Word) (s : State) (hk : Kept s0 s) :
    KeptOut s0 (execRateWrite die player value s) := by
  unfold execRateWrite
  repeat' first | (simp +contextual (maxDischargeDepth := 99) only [implies_true, ↓kept_ite, ↓keptOut_next, ↓kept_setPlayer, ↓kept_viaBar0, ↓kept_withPlayer, ↓kept_wr, hk]; done) | split

theorem kept_execUnderrun {s0 : State} (player : Fin 32) (s : State) (hk : Kept s0 s) :
    KeptOut s0 (execUnderrun player s) := by
  unfold execUnderrun
  refine keptOut_next (kept_withPlayer _ _ _ hk fun p => kept_ite hk (kept_ite (kept_stopPlayer _ _ _ (kept_reach _ _
    (kept_reach _ _ hk))) ?_))
  exact kept_starvedFrame _ _ (kept_occur _ _ (kept_bump _ _ _ _ _ _ (kept_wr (kept_reach _ _ hk) _ _ _ _ _)))

theorem kept_execUnderrunResume {s0 : State} (player : Fin 32) (s : State) (hk : Kept s0 s) :
    KeptOut s0 (execUnderrunResume player s) := by
  unfold execUnderrunResume
  try dsimp only
  repeat' first | with_reducible assumption | simp only [↓kept_with] | with_reducible apply kept_ite_fst | with_reducible apply kept_ite_snd | with_reducible apply kept_foldl_fst | with_reducible apply kept_ite | with_reducible apply kept_foldl | with_reducible apply keptOut_next | with_reducible apply kept_setPlayer | with_reducible apply kept_withPlayer | intro _ | split

theorem kept_fetchFail {s0 : State} (s : State) (p : Player) (hk : Kept s0 s) :
    Kept s0 (State.fetchFail s p) := by
  unfold State.fetchFail
  repeat' first | (simp +contextual (maxDischargeDepth := 99) only [↓kept_setPlayer, ↓kept_wr, hk]; done) | split

theorem kept_execStreamFetch {s0 : State} (player : Fin 32) (tail : HostRead (Option Word)) (s : State) (hk : Kept s0 s) :
    KeptOut s0 (execStreamFetch player tail s) := by
  unfold execStreamFetch
  repeat' first | (simp +contextual (maxDischargeDepth := 99) only [implies_true, ↓kept_ite, ↓keptOut_next, ↓kept_emit, ↓kept_fetchFail, ↓kept_poison, ↓kept_reach, ↓kept_setPlayer, ↓kept_withPlayer, hk]; done) | split

theorem kept_execStreamFetchDone {s0 : State} (player : Fin 32) (samples : HostRead (Option (List (BitVec 16)))) (s : State) (hk : Kept s0 s) :
    KeptOut s0 (execStreamFetchDone player samples s) := by
  unfold execStreamFetchDone
  try dsimp only
  repeat' first | with_reducible assumption | simp only [↓kept_with] | with_reducible apply kept_ite_fst | with_reducible apply kept_ite_snd | with_reducible apply kept_foldl_fst | with_reducible apply kept_ite | with_reducible apply kept_foldl | with_reducible apply keptOut_next | with_reducible apply kept_fetchFail | with_reducible apply kept_poison | with_reducible apply kept_setPlayer | with_reducible apply kept_toHost | with_reducible apply kept_withPlayer | intro _ | split

theorem kept_execStreamOpen {s0 : State} (id : ℕ) (s : State) (hk : Kept s0 s) :
    KeptOut s0 (execStreamOpen id s) := by
  unfold execStreamOpen
  repeat' first | (simp +contextual (maxDischargeDepth := 99) only [implies_true, ↓kept_ite, ↓kept_with, ↓keptOut_next, ↓kept_done, ↓kept_playerRefresh, ↓kept_withOp, ↓kept_wr, hk]; done) | split

theorem kept_execStreamStart {s0 : State} (player : Fin 32) (s : State) (hk : Kept s0 s) :
    KeptOut s0 (execStreamStart player s) := by
  unfold execStreamStart
  repeat' first | (simp +contextual (maxDischargeDepth := 99) only [implies_true, ↓kept_ite, ↓keptOut_next, ↓kept_beginSeg, ↓kept_pauseLoops, ↓kept_reach, ↓kept_stopPlayer, ↓kept_withPlayer, hk]; done) | split

theorem kept_execStreamClose {s0 : State} (id : ℕ) (s : State) (hk : Kept s0 s) :
    KeptOut s0 (execStreamClose id s) := by
  unfold execStreamClose
  try dsimp only
  repeat' first | with_reducible assumption | simp only [↓kept_with] | with_reducible apply kept_ite_fst | with_reducible apply kept_ite_snd | with_reducible apply kept_foldl_fst | with_reducible apply kept_ite | with_reducible apply kept_foldl | with_reducible apply keptOut_next | with_reducible apply kept_done | with_reducible apply kept_setPlayer | with_reducible apply kept_withOp | intro _ | split

theorem kept_execStreamStop {s0 : State} (player : Fin 32) (s : State) (hk : Kept s0 s) :
    KeptOut s0 (execStreamStop player s) := by
  unfold execStreamStop
  repeat' first | (simp +contextual (maxDischargeDepth := 99) only [implies_true, ↓kept_ite, ↓keptOut_next, ↓kept_reach, ↓kept_stopPlayer, ↓kept_withPlayer, hk]; done) | split

theorem kept_idleStreams {s0 : State} (s : State) (tq : ℕ) (hk : Kept s0 s) :
    Kept s0 (State.idleStreams s tq) := by
  unfold State.idleStreams
  repeat' first | (simp +contextual (maxDischargeDepth := 99) only [implies_true, ↓kept_foldl, ↓kept_recordP, hk]; done) | split

theorem kept_execTelemetryRecord {s0 : State} (tq : Fin 16) (s : State) (hk : Kept s0 s) :
    KeptOut s0 (execTelemetryRecord tq s) := by
  unfold execTelemetryRecord
  repeat' first | (simp +contextual (maxDischargeDepth := 99) only [↓keptOut_next, ↓kept_idleStreams, ↓kept_writeRecord, hk]; done) | split

end Sys2Proof.Machine
end

