-- ==== Sys2Proof/Laws/KeptCal.lean ====
section
/-! SUPPORT. What the operations and commands of Machine/Cal.lean keep (Kept). -/
namespace Sys2Proof.Machine

theorem kept_setZoneDue {s0 : State} (s : State) (z : ℕ) (v : Bool) (hk : Kept s0 s) :
    Kept s0 (State.setZoneDue s z v) := by
  unfold State.setZoneDue
  repeat' first | (simp +contextual (maxDischargeDepth := 99) only [↓kept_wr, hk]; done) | split

theorem kept_zoneDue {s0 : State} (s : State) (z : ℕ) (hk : Kept s0 s) :
    Kept s0 (State.zoneDue s z) := by
  unfold State.zoneDue
  repeat' first | (simp +contextual (maxDischargeDepth := 99) only [↓kept_ite, ↓kept_with, ↓kept_setZoneDue, ↓kept_wr, hk]; done) | split

theorem kept_recordTemp {s0 : State} (s : State) (z : ℕ) (hk : Kept s0 s) :
    Kept s0 (State.recordTemp s z) := by
  unfold State.recordTemp
  repeat' first | (simp +contextual (maxDischargeDepth := 99) only [implies_true, ↓kept_ite, ↓kept_foldl, ↓kept_with, hk]; done) | split

theorem kept_convert {s0 : State} (s : State) (z : ℕ) (raw : ℕ) (hk : Kept s0 s) :
    Kept s0 (State.convert s z raw) := by
  unfold State.convert
  repeat' first | (simp +contextual (maxDischargeDepth := 99) only [↓kept_ite, ↓kept_with, ↓kept_raise, ↓kept_recordTemp, ↓kept_wr, ↓kept_zoneDue, hk]; done) | split

theorem kept_execTempConversion {s0 : State} (readings : List (Fin 72 × BitVec 16)) (case_ : Option (BitVec 16)) (s : State) (hk : Kept s0 s) :
    KeptOut s0 (execTempConversion readings case_ s) := by
  unfold execTempConversion
  repeat' first | (simp +contextual (maxDischargeDepth := 99) only [implies_true, ↓kept_ite, ↓kept_foldl, ↓kept_with, ↓keptOut_next, ↓kept_convert, ↓kept_once, ↓kept_raise, hk]; done) | split

theorem kept_endRun {s0 : State} (s : State) (hk : Kept s0 s) :
    Kept s0 (State.endRun s) := by
  unfold State.endRun
  repeat' first | (simp +contextual (maxDischargeDepth := 99) only [implies_true, ↓kept_ite, ↓kept_with, ↓kept_done, ↓kept_withDesc, hk]; done) | split

theorem kept_endPass {s0 : State} (s : State) (p : Pass) (hk : Kept s0 s) :
    Kept s0 (State.endPass s p) := by
  unfold State.endPass
  repeat' first | (simp +contextual (maxDischargeDepth := 99) only [↓kept_ite, ↓kept_with, ↓kept_endRun, ↓kept_occur, ↓kept_setZoneDue, ↓kept_wr, hk]; done) | split

theorem kept_unitOver {s0 : State} (s : State) (u : ℕ) (made : Bool) (hk : Kept s0 s) :
    Kept s0 (State.unitOver s u made) := by
  unfold State.unitOver
  repeat' first | (simp +contextual (maxDischargeDepth := 99) only [implies_true, ↓kept_foldl, ↓kept_with, ↓kept_endPass, ↓kept_endRun, hk]; done) | split

theorem kept_unitsDue {s0 : State} (s : State) (us : List ℕ) (hk : Kept s0 s) :
    Kept s0 (State.unitsDue s us) := by
  unfold State.unitsDue
  repeat' first | (simp +contextual (maxDischargeDepth := 99) only [↓kept_with, hk]; done) | split

theorem kept_zonesStay {s0 : State} (s : State) (tile : ℕ) (hk : Kept s0 s) :
    Kept s0 (State.zonesStay s tile) := by
  unfold State.zonesStay
  repeat' first | (simp +contextual (maxDischargeDepth := 99) only [implies_true, ↓kept_foldl, ↓kept_setZoneDue, hk]; done) | split

theorem kept_execZonePassStart {s0 : State} (zone : Fin 72) (s : State) (hk : Kept s0 s) :
    KeptOut s0 (execZonePassStart zone s) := by
  unfold execZonePassStart
  try dsimp only
  repeat' first | with_reducible assumption | simp only [↓kept_with] | with_reducible apply kept_ite_fst | with_reducible apply kept_ite_snd | with_reducible apply kept_foldl_fst | with_reducible apply kept_ite | with_reducible apply kept_foldl | with_reducible apply keptOut_next | with_reducible apply kept_endPass | with_reducible apply kept_setZoneDue | with_reducible apply kept_unitsDue | with_reducible apply kept_wr | intro _ | split

theorem kept_execChannelMeasureStart {s0 : State} (tile : Fin 8) (group : Fin 64) (s : State) (hk : Kept s0 s) :
    KeptOut s0 (execChannelMeasureStart tile group s) := by
  unfold execChannelMeasureStart
  try dsimp only
  repeat' first | with_reducible assumption | simp only [↓kept_with] | with_reducible apply kept_ite_fst | with_reducible apply kept_ite_snd | with_reducible apply kept_foldl_fst | with_reducible apply kept_ite | with_reducible apply kept_foldl | with_reducible apply keptOut_next | with_reducible apply kept_bump | with_reducible apply kept_chWr | with_reducible apply kept_setSpare | with_reducible apply kept_unitOver | intro _ | split

theorem kept_measured {s0 : State} (s : State) (x : Meas) (m : CalMeasure) (hk : Kept s0 s) :
    Kept s0 (State.measured s x m) := by
  unfold State.measured
  try dsimp only
  repeat' first | with_reducible assumption | simp only [↓kept_with] | with_reducible apply kept_ite_fst | with_reducible apply kept_ite_snd | with_reducible apply kept_foldl_fst | with_reducible apply kept_ite | with_reducible apply kept_foldl | with_reducible apply keptOut_next | with_reducible apply kept_bump | with_reducible apply kept_draw | with_reducible apply kept_raise | with_reducible apply kept_unitOver | with_reducible apply kept_unspare | with_reducible apply kept_wr | intro _ | split

theorem kept_execChannelMeasureDone {s0 : State} (tile : Fin 8) (group : Fin 64) (m : CalMeasure) (s : State) (hk : Kept s0 s) :
    KeptOut s0 (execChannelMeasureDone tile group m s) := by
  unfold execChannelMeasureDone
  repeat' first | (simp +contextual (maxDischargeDepth := 99) only [↓keptOut_next, ↓kept_measured, ↓kept_reach, hk]; done) | split

theorem kept_logStep {s0 : State} (s : State) (die : ℕ) (spare : Bool) (hk : Kept s0 s) :
    Kept s0 (State.logStep s die spare) := by
  unfold State.logStep
  repeat' first | (simp +contextual (maxDischargeDepth := 99) only [↓kept_ite, ↓kept_with, hk]; done) | split

theorem kept_putRec {s0 : State} (s : State) (die : ℕ) (spare : Bool) (bs : List Byte) (hk : Kept s0 s) :
    Kept s0 (State.putRec s die spare bs) := by
  unfold State.putRec
  repeat' first | (simp +contextual (maxDischargeDepth := 99) only [↓kept_with, ↓kept_logStep, hk]; done) | split

theorem kept_enterBlock {s0 : State} (s : State) (die : ℕ) (spare : Bool) (a : ℕ) (hk : Kept s0 s) :
    Kept s0 (State.enterBlock s die spare a) := by
  induction a generalizing s with
  | zero => exact hk
  | succ n ih =>
    refine kept_ite hk (kept_ite ?_ (ih _ ?_)) <;>
      exact kept_foldl (fun x r hx => kept_putRec _ _ _ _ hx) _ ((kept_with ..).mpr hk)

theorem kept_appendRec {s0 : State} (s : State) (die : ℕ) (bs : List Byte) (hk : Kept s0 s) :
    Kept s0 (State.appendRec s die bs) := by
  unfold State.appendRec
  repeat' first | (simp +contextual (maxDischargeDepth := 99) only [↓kept_enterBlock, ↓kept_putRec, hk]; done) | split

theorem kept_flashFail {s0 : State} (s : State) (die : ℕ) (hk : Kept s0 s) :
    Kept s0 (State.flashFail s die) := by
  unfold State.flashFail
  repeat' first | (simp +contextual (maxDischargeDepth := 99) only [↓kept_raise, ↓kept_wr, hk]; done) | split

theorem kept_flashWrite {s0 : State} (s : State) (die : ℕ) (ok : Bool) (f : State → State) (hk : Kept s0 s) (h_f : ∀ y0, Kept s0 y0 → Kept s0 (f y0)) :
    Kept s0 (State.flashWrite s die ok f) := by
  unfold State.flashWrite
  repeat' first | (simp +contextual (maxDischargeDepth := 99) only [↓kept_ite, ↓kept_flashFail, ↓kept_restart, hk, h_f]; done) | split

theorem kept_execLogAppend {s0 : State} (okA : Bool) (okB : Bool) (s : State) (hk : Kept s0 s) :
    KeptOut s0 (execLogAppend okA okB s) := by
  unfold execLogAppend
  repeat' first | (simp +contextual (maxDischargeDepth := 99) only [implies_true, ↓kept_ite, ↓kept_with, ↓keptOut_next, ↓kept_appendRec, ↓kept_bump, ↓kept_endRun, ↓kept_flashWrite, ↓kept_lower, ↓kept_storeBytes, ↓kept_unitsDue, ↓kept_wr, hk]; done) | split

theorem kept_execCalEnable {s0 : State} (die : Fin 2) (value : Bool) (s : State) (hk : Kept s0 s) :
    KeptOut s0 (execCalEnable die value s) := by
  unfold execCalEnable
  repeat' first | (simp +contextual (maxDischargeDepth := 99) only [implies_true, ↓kept_ite, ↓kept_foldl, ↓kept_with, ↓keptOut_next, ↓kept_viaBar0, ↓kept_wr, ↓kept_zoneDue, hk]; done) | split

theorem kept_calOp {s0 : State} (s : State) (id : ℕ) (op : ℕ) (f : Desc → State) (hk : Kept s0 s) (h_f : ∀ y0, Kept s0 (f y0)) :
    Kept s0 (State.calOp s id op f) := by
  unfold State.calOp
  repeat' first | (simp +contextual (maxDischargeDepth := 99) only [implies_true, ↓kept_ite, ↓kept_done, ↓kept_withOp, hk, h_f]; done) | split

theorem kept_runWith {s0 : State} (s : State) (r : CalRun) (hk : Kept s0 s) :
    Kept s0 (State.runWith s r) := by
  unfold State.runWith
  repeat' first | (simp +contextual (maxDischargeDepth := 99) only [↓kept_with, hk]; done) | split

theorem kept_execZones {s0 : State} (id : ℕ) (s : State) (hk : Kept s0 s) :
    KeptOut s0 (execZones id s) := by
  unfold execZones
  repeat' first | (simp +contextual (maxDischargeDepth := 99) only [implies_true, ↓kept_foldl, ↓keptOut_next, ↓kept_calOp, ↓kept_runWith, ↓kept_zoneDue, hk]; done) | split

theorem kept_execChannels {s0 : State} (id : ℕ) (s : State) (hk : Kept s0 s) :
    KeptOut s0 (execChannels id s) := by
  unfold execChannels
  repeat' first | (simp +contextual (maxDischargeDepth := 99) only [implies_true, ↓keptOut_next, ↓kept_calOp, ↓kept_runWith, ↓kept_unitsDue, hk]; done) | split

theorem kept_execImportRecs {s0 : State} (id : ℕ) (read : HostRead (List Byte)) (s : State) (hk : Kept s0 s) :
    KeptOut s0 (execImportRecs id read s) := by
  unfold execImportRecs
  repeat' first | (simp +contextual (maxDischargeDepth := 99) only [implies_true, ↓kept_ite, ↓kept_with, ↓keptOut_next, ↓kept_calOp, ↓kept_done, ↓kept_poisoned, ↓kept_runWith, hk]; done) | split

theorem kept_putCurves {s0 : State} (die : ℕ) (first : ℕ) (cs : List (List Byte)) (s : State) (hk : Kept s0 s) :
    Kept s0 (putCurves die first cs s) := by
  unfold putCurves
  repeat' first | (simp +contextual (maxDischargeDepth := 99) only [↓kept_with, hk]; done) | split

theorem kept_execCurveWrite {s0 : State} (id : ℕ) (read : HostRead (List Byte)) (okA : Bool) (okB : Bool) (s : State) (hk : Kept s0 s) :
    KeptOut s0 (execCurveWrite id read okA okB s) := by
  unfold execCurveWrite
  repeat' first | (simp +contextual (maxDischargeDepth := 99) only [implies_true, ↓kept_ite, ↓kept_foldl, ↓keptOut_next, ↓kept_calOp, ↓kept_done, ↓kept_flashWrite, ↓kept_poisoned, ↓kept_putCurves, ↓kept_storeBytes, ↓kept_unitsDue, hk]; done) | split

theorem kept_execCurveSweep {s0 : State} (id : ℕ) (s : State) (hk : Kept s0 s) :
    KeptOut s0 (execCurveSweep id s) := by
  unfold execCurveSweep
  repeat' first | (simp +contextual (maxDischargeDepth := 99) only [implies_true, ↓kept_ite, ↓kept_with, ↓keptOut_next, ↓kept_calOp, ↓kept_done, ↓kept_enqueue, hk]; done) | split

theorem kept_sweepMean {s0 : State} (s : State) (m : ℕ) (start : ℕ) (hk : Kept s0 s) :
    Kept s0 (State.sweepMean s m start).2.2 := by
  unfold State.sweepMean
  try dsimp only
  repeat' first | with_reducible assumption | simp only [↓kept_with] | with_reducible apply kept_ite_fst | with_reducible apply kept_ite_snd | with_reducible apply kept_foldl_fst | with_reducible apply kept_ite | with_reducible apply kept_foldl | with_reducible apply keptOut_next | with_reducible apply kept_draw | intro _ | split

theorem kept_execSweepPointDone {s0 : State} (s : State) (hk : Kept s0 s) :
    KeptOut s0 (execSweepPointDone s) := by
  unfold execSweepPointDone
  repeat' first | (simp +contextual (maxDischargeDepth := 99) only [implies_true, ↓kept_ite, ↓kept_with, ↓keptOut_next, ↓kept_done, ↓kept_enqueue, ↓kept_reach, ↓kept_sweepMean, ↓kept_toHost, ↓kept_withDesc, hk]; done) | split

theorem kept_execMonSave {s0 : State} (id : ℕ) (okA : Bool) (okB : Bool) (s : State) (hk : Kept s0 s) :
    KeptOut s0 (execMonSave id okA okB s) := by
  unfold execMonSave
  repeat' first | (simp +contextual (maxDischargeDepth := 99) only [implies_true, ↓kept_ite, ↓kept_with, ↓keptOut_next, ↓kept_calOp, ↓kept_done, ↓kept_flashWrite, hk]; done) | split

theorem kept_mendLog {s0 : State} (s : State) (die : ℕ) (best : List (ℕ × ℕ × List Byte)) (hk : Kept s0 s) :
    Kept s0 (State.mendLog s die best) := by
  unfold State.mendLog
  repeat' first | (simp +contextual (maxDischargeDepth := 99) only [implies_true, ↓kept_foldl, ↓kept_appendRec, hk]; done) | split

theorem kept_loadCoefs {s0 : State} (s : State) (hk : Kept s0 s) :
    Kept s0 (State.loadCoefs s) := by
  unfold State.loadCoefs
  repeat' first | (simp +contextual (maxDischargeDepth := 99) only [↓kept_with, ↓kept_putCoefs, hk]; done) | split

theorem kept_loadCurve {s0 : State} (s : State) (e : ℕ) (a : Option (List Byte)) (b : Option (List Byte)) (hk : Kept s0 s) :
    Kept s0 (State.loadCurve s e a b) := by
  unfold State.loadCurve
  repeat' first | (simp +contextual (maxDischargeDepth := 99) only [↓kept_putCurves, ↓kept_storeBytes, hk]; done) | split

theorem kept_loadAlmanac {s0 : State} (s : State) (hk : Kept s0 s) :
    Kept s0 (State.loadAlmanac s) := by
  unfold State.loadAlmanac
  repeat' first | (simp +contextual (maxDischargeDepth := 99) only [implies_true, ↓kept_ite, ↓kept_foldl, ↓kept_with, ↓kept_clearMem, ↓kept_loadCoefs, ↓kept_loadCurve, ↓kept_mendLog, ↓kept_raise, ↓kept_storeBytes, ↓kept_wr, hk]; done) | split

end Sys2Proof.Machine
end

