-- ==== Sys2Proof/Laws/KeptSgf.lean ====
section
/-! SUPPORT. What the operations and commands of Machine/Sgf.lean keep (Kept). -/
namespace Sys2Proof.Machine

theorem kept_bumpMem {s0 : State} (s : State) (a : ℕ) (n : ℕ) (hk : Kept s0 s) :
    Kept s0 (State.bumpMem s a n) := by
  unfold State.bumpMem
  repeat' first | (simp +contextual (maxDischargeDepth := 99) only [↓kept_store, hk]; done) | split

theorem kept_chanFlag {s0 : State} (s : State) (c : ℕ) (b : ℕ) (hk : Kept s0 s) :
    Kept s0 (State.chanFlag s c b) := by
  unfold State.chanFlag
  repeat' first | (simp +contextual (maxDischargeDepth := 99) only [↓kept_store, hk]; done) | split

theorem kept_setWordBit {s0 : State} (s : State) (f : Fld) (n : ℕ) (v : Bool) (hk : Kept s0 s) :
    Kept s0 (State.setWordBit s f n v) := by
  unfold State.setWordBit
  repeat' first | (simp +contextual (maxDischargeDepth := 99) only [↓kept_wr, hk]; done) | split

theorem kept_loopAny {s0 : State} (s : State) (hk : Kept s0 s) :
    Kept s0 (State.loopAny s) := by
  unfold State.loopAny
  repeat' first | (simp +contextual (maxDischargeDepth := 99) only [↓kept_wr, hk]; done) | split

theorem kept_reenable {s0 : State} (s : State) (c : ℕ) (hk : Kept s0 s) :
    Kept s0 (State.reenable s c) := by
  unfold State.reenable
  repeat' first | (simp +contextual (maxDischargeDepth := 99) only [↓kept_with, ↓kept_loopAny, ↓kept_setWordBit, ↓kept_store, hk]; done) | split

theorem kept_sgfDeny {s0 : State} (s : State) (c : ℕ) (hk : Kept s0 s) :
    Kept s0 (State.sgfDeny s c) := by
  unfold State.sgfDeny
  repeat' first | (simp +contextual (maxDischargeDepth := 99) only [↓kept_bump, ↓kept_chanFlag, ↓kept_wr, hk]; done) | split

theorem kept_consume {s0 : State} (s : State) (c : ℕ) (owner : ℕ) (busy : Bool) (f : State → State) (hk : Kept s0 s) (h_f : ∀ y0, Kept s0 y0 → Kept s0 (f y0)) :
    Kept s0 (State.consume s c owner busy f) := by
  unfold State.consume
  repeat' first | (simp +contextual (maxDischargeDepth := 99) only [↓kept_ite, ↓kept_bump, ↓kept_chanFlag, ↓kept_sgfDeny, hk, h_f]; done) | split

theorem kept_toFine {s0 : State} (s : State) (source : ℕ) (c : ℕ) (hk : Kept s0 s) :
    Kept s0 (State.toFine s source c) := by
  unfold State.toFine
  repeat' first | (simp +contextual (maxDischargeDepth := 99) only [implies_true, ↓kept_foldl, ↓kept_consume, ↓kept_fineTrigger, hk]; done) | split

theorem kept_toCapture {s0 : State} (s : State) (source : ℕ) (c : ℕ) (hk : Kept s0 s) :
    Kept s0 (State.toCapture s source c) := by
  unfold State.toCapture
  repeat' first | (simp +contextual (maxDischargeDepth := 99) only [implies_true, ↓kept_foldl, ↓kept_capTrigger, ↓kept_consume, hk]; done) | split

theorem kept_toPlayers {s0 : State} (s : State) (source : ℕ) (c : ℕ) (hk : Kept s0 s) :
    Kept s0 (State.toPlayers s source c) := by
  unfold State.toPlayers
  repeat' first | (simp +contextual (maxDischargeDepth := 99) only [implies_true, ↓kept_ite, ↓kept_foldl, ↓kept_consume, ↓kept_playerJump, ↓kept_playerTrig, hk]; done) | split

theorem kept_carry {s0 : State} (s : State) (source : ℕ) (c : ℕ) (hk : Kept s0 s) :
    Kept s0 (State.carry s source c) := by
  unfold State.carry
  repeat' first | (simp +contextual (maxDischargeDepth := 99) only [↓kept_ite, ↓kept_with, ↓kept_bumpMem, ↓kept_chanFlag, ↓kept_loopAny, ↓kept_msix, ↓kept_raise, ↓kept_setWordBit, ↓kept_store, ↓kept_toCapture, ↓kept_toFine, ↓kept_toPlayers, ↓kept_wr, hk]; done) | split

theorem kept_fire {s0 : State} (s : State) (source : ℕ) (hk : Kept s0 s) :
    Kept s0 (State.fire s source) := by
  unfold State.fire
  repeat' first | (simp +contextual (maxDischargeDepth := 99) only [↓kept_ite, ↓kept_with, ↓kept_bump, ↓kept_bumpMem, ↓kept_carry, ↓kept_chanFlag, hk]; done) | split

theorem kept_setHeld {s0 : State} (s : State) (source : ℕ) (v : Bool) (hk : Kept s0 s) :
    Kept s0 (State.setHeld s source v) := by
  unfold State.setHeld
  repeat' first | (simp +contextual (maxDischargeDepth := 99) only [↓kept_store, hk]; done) | split

theorem kept_takeEvent {s0 : State} (s : State) (source : ℕ) (hk : Kept s0 s) :
    Kept s0 (State.takeEvent s source) := by
  unfold State.takeEvent
  repeat' first | (simp +contextual (maxDischargeDepth := 99) only [↓kept_ite, ↓kept_bump, ↓kept_bumpMem, ↓kept_fire, ↓kept_setHeld, hk]; done) | split

theorem kept_execEventFire {s0 : State} (source : Fin 640) (s : State) (hk : Kept s0 s) :
    KeptOut s0 (execEventFire source s) := by
  unfold execEventFire
  repeat' first | (simp +contextual (maxDischargeDepth := 99) only [↓kept_with, ↓keptOut_next, ↓kept_reach, ↓kept_takeEvent, hk]; done) | split

theorem kept_execSourceRearm {s0 : State} (source : Fin 640) (s : State) (hk : Kept s0 s) :
    KeptOut s0 (execSourceRearm source s) := by
  unfold execSourceRearm
  repeat' first | (simp +contextual (maxDischargeDepth := 99) only [↓kept_ite, ↓kept_with, ↓keptOut_next, ↓kept_fire, ↓kept_reach, ↓kept_setHeld, hk]; done) | split

theorem kept_execSoftwareEvent {s0 : State} (die : Fin 2) (w : Fin 2) (value : Word) (s : State) (hk : Kept s0 s) :
    KeptOut s0 (execSoftwareEvent die w value s) := by
  unfold execSoftwareEvent
  repeat' first | (simp +contextual (maxDischargeDepth := 99) only [implies_true, ↓kept_foldl, ↓keptOut_next, ↓kept_occur, ↓kept_viaBar0, hk]; done) | split

theorem kept_execLoopReenable {s0 : State} (die : Fin 2) (w : Fin 8) (value : Word) (s : State) (hk : Kept s0 s) :
    KeptOut s0 (execLoopReenable die w value s) := by
  unfold execLoopReenable
  repeat' first | (simp +contextual (maxDischargeDepth := 99) only [implies_true, ↓kept_ite, ↓kept_foldl, ↓keptOut_next, ↓kept_reenable, ↓kept_viaBar0, hk]; done) | split

theorem kept_zeroMs {s0 : State} (s : State) (p : ℕ → Bool) (hk : Kept s0 s) :
    Kept s0 (State.zeroMs s p) := by
  unfold State.zeroMs
  repeat' first | (simp +contextual (maxDischargeDepth := 99) only [implies_true, ↓kept_foldl, ↓kept_with, ↓kept_store, hk]; done) | split

theorem kept_resetLoops {s0 : State} (s : State) (hk : Kept s0 s) :
    Kept s0 (State.resetLoops s) := by
  unfold State.resetLoops
  repeat' first | (simp +contextual (maxDischargeDepth := 99) only [implies_true, ↓kept_foldl, ↓kept_reenable, ↓kept_zeroMs, hk]; done) | split

theorem kept_setTimer {s0 : State} (s : State) (j : ℕ) (f : Option ℕ) (hk : Kept s0 s) :
    Kept s0 (State.setTimer s j f) := by
  unfold State.setTimer
  repeat' first | (simp +contextual (maxDischargeDepth := 99) only [↓kept_with, ↓kept_wr, hk]; done) | split

theorem kept_takeTimer {s0 : State} (s : State) (j : ℕ) (f : ℕ) (hk : Kept s0 s) :
    Kept s0 (State.takeTimer s j f) := by
  unfold State.takeTimer
  repeat' first | (simp +contextual (maxDischargeDepth := 99) only [↓kept_ite, ↓kept_setTimer, ↓kept_wr, hk]; done) | split

theorem kept_execTimerArm {s0 : State} (die : Fin 2) (timer : Fin 64) (hi : Word) (s : State) (hk : Kept s0 s) :
    KeptOut s0 (execTimerArm die timer hi s) := by
  unfold execTimerArm
  repeat' first | (simp +contextual (maxDischargeDepth := 99) only [implies_true, ↓kept_ite, ↓keptOut_next, ↓kept_setTimer, ↓kept_takeTimer, ↓kept_viaBar0, ↓kept_wr, hk]; done) | split

theorem kept_execTimerFire {s0 : State} (timer : Fin 64) (s : State) (hk : Kept s0 s) :
    KeptOut s0 (execTimerFire timer s) := by
  unfold execTimerFire
  try dsimp only
  repeat' first | with_reducible assumption | simp only [↓kept_with] | with_reducible apply kept_ite_fst | with_reducible apply kept_ite_snd | with_reducible apply kept_foldl_fst | with_reducible apply kept_ite | with_reducible apply kept_foldl | with_reducible apply keptOut_next | with_reducible apply kept_occur | with_reducible apply kept_reach | with_reducible apply kept_setTimer | with_reducible apply kept_settleF | intro _ | split

end Sys2Proof.Machine
end

