-- ==== Sys2Proof/Laws/KeptMeridian.lean ====
section
/-! SUPPORT. What the operations and commands of Machine/Meridian.lean keep (Kept). -/
namespace Sys2Proof.Machine

theorem kept_merReject {s0 : State} (s : State) (hk : Kept s0 s) :
    Kept s0 (State.merReject s) := by
  unfold State.merReject
  repeat' first | (simp +contextual (maxDischargeDepth := 99) only [↓kept_wr, hk]; done) | split

theorem kept_servoWrite {s0 : State} (s : State) (hk : Kept s0 s) :
    Kept s0 (State.servoWrite s) := by
  unfold State.servoWrite
  repeat' first | (simp +contextual (maxDischargeDepth := 99) only [↓kept_with, ↓kept_wr, hk]; done) | split

theorem kept_execIncrCommit {s0 : State} (die : Fin 2) (hi : BitVec 16) (s : State) (hk : Kept s0 s) :
    KeptOut s0 (execIncrCommit die hi s) := by
  unfold execIncrCommit
  repeat' first | (simp +contextual (maxDischargeDepth := 99) only [implies_true, ↓kept_ite, ↓kept_with, ↓keptOut_next, ↓kept_merReject, ↓kept_servoWrite, ↓kept_viaBar0, ↓kept_wr, hk]; done) | split

theorem kept_setSlew {s0 : State} (s : State) (a : ℤ) (hk : Kept s0 s) :
    Kept s0 (State.setSlew s a) := by
  unfold State.setSlew
  repeat' first | (simp +contextual (maxDischargeDepth := 99) only [↓kept_with, ↓kept_wr, hk]; done) | split

theorem kept_execSlewWrite {s0 : State} (die : Fin 2) (value : Word) (s : State) (hk : Kept s0 s) :
    KeptOut s0 (execSlewWrite die value s) := by
  unfold execSlewWrite
  repeat' first | (simp +contextual (maxDischargeDepth := 99) only [implies_true, ↓keptOut_next, ↓kept_servoWrite, ↓kept_setSlew, ↓kept_viaBar0, hk]; done) | split

theorem kept_execSlewDone {s0 : State} (s : State) (hk : Kept s0 s) :
    KeptOut s0 (execSlewDone s) := by
  unfold execSlewDone
  repeat' first | (simp +contextual (maxDischargeDepth := 99) only [↓kept_ite, ↓keptOut_next, ↓kept_reach, ↓kept_setSlew, hk]; done) | split

theorem kept_armTime {s0 : State} (s : State) (a : Armed) (hk : Kept s0 s) :
    Kept s0 (State.armTime s a) := by
  unfold State.armTime
  repeat' first | (simp +contextual (maxDischargeDepth := 99) only [↓kept_with, ↓kept_wr, hk]; done) | split

theorem kept_execStepArm {s0 : State} (die : Fin 2) (hi : Word) (s : State) (hk : Kept s0 s) :
    KeptOut s0 (execStepArm die hi s) := by
  unfold execStepArm
  repeat' first | (simp +contextual (maxDischargeDepth := 99) only [implies_true, ↓keptOut_next, ↓kept_armTime, ↓kept_viaBar0, ↓kept_wr, hk]; done) | split

theorem kept_execSetArm {s0 : State} (die : Fin 2) (hi : BitVec 16) (s : State) (hk : Kept s0 s) :
    KeptOut s0 (execSetArm die hi s) := by
  unfold execSetArm
  repeat' first | (simp +contextual (maxDischargeDepth := 99) only [implies_true, ↓keptOut_next, ↓kept_armTime, ↓kept_viaBar0, ↓kept_wr, hk]; done) | split

theorem kept_execHoldoverTimeout {s0 : State} (s : State) (hk : Kept s0 s) :
    KeptOut s0 (execHoldoverTimeout s) := by
  unfold execHoldoverTimeout
  repeat' first | (simp +contextual (maxDischargeDepth := 99) only [↓kept_ite, ↓keptOut_next, ↓kept_raise, ↓kept_reach, ↓kept_wr, hk]; done) | split

theorem kept_execRefclkLoss {s0 : State} (s : State) (hk : Kept s0 s) :
    KeptOut s0 (execRefclkLoss s) := by
  unfold execRefclkLoss
  repeat' first | (simp +contextual (maxDischargeDepth := 99) only [↓kept_ite, ↓keptOut_next, ↓kept_raise, ↓kept_wr, hk]; done) | split

theorem kept_execRefclkRecover {s0 : State} (s : State) (hk : Kept s0 s) :
    KeptOut s0 (execRefclkRecover s) := by
  unfold execRefclkRecover
  repeat' first | (simp +contextual (maxDischargeDepth := 99) only [↓keptOut_next, ↓kept_wr, hk]; done) | split

theorem kept_frameInfo {s0 : State} (s : State) (p : ℕ) (bs : List Byte) (hk : Kept s0 s) :
    Kept s0 (State.frameInfo s p bs).2 := by
  unfold State.frameInfo
  try dsimp only
  repeat' first | with_reducible assumption | simp only [↓kept_with] | with_reducible apply kept_ite_fst | with_reducible apply kept_ite_snd | with_reducible apply kept_foldl_fst | with_reducible apply kept_ite | with_reducible apply kept_foldl | with_reducible apply keptOut_next | with_reducible apply kept_draw | intro _ | split

theorem kept_syncSeen {s0 : State} (s : State) (p : ℕ) (hk : Kept s0 s) :
    Kept s0 (State.syncSeen s p) := by
  unfold State.syncSeen
  repeat' first | (simp +contextual (maxDischargeDepth := 99) only [↓kept_with, ↓kept_occur, ↓kept_wr, hk]; done) | split

theorem kept_deliver {s0 : State} (s : State) (p : ℕ) (bs : List Byte) (pcs : Stamp) (hk : Kept s0 s) :
    Kept s0 (State.deliver s p bs pcs) := by
  unfold State.deliver
  repeat' first | (simp +contextual (maxDischargeDepth := 99) only [↓kept_ite, ↓kept_bump, ↓kept_frameInfo, ↓kept_record, ↓kept_storeBytes, ↓kept_wr, hk]; done) | split

theorem kept_execFrameReceive {s0 : State} (port : Fin 2) (bytes : List Byte) (fcsOk : Bool) (pcs : Stamp) (s : State) (hk : Kept s0 s) :
    KeptOut s0 (execFrameReceive port bytes fcsOk pcs s) := by
  unfold execFrameReceive
  repeat' first | (simp +contextual (maxDischargeDepth := 99) only [↓kept_ite, ↓keptOut_next, ↓kept_bump, ↓kept_deliver, ↓kept_syncSeen, hk]; done) | split

theorem kept_setTx {s0 : State} (s : State) (p : ℕ) (n : ℕ) (v : ℕ) (hk : Kept s0 s) :
    Kept s0 (State.setTx s p n v) := by
  unfold State.setTx
  repeat' first | (simp +contextual (maxDischargeDepth := 99) only [↓kept_wr, hk]; done) | split

theorem kept_sendCmd {s0 : State} (s : State) (p : ℕ) (n : ℕ) (len : ℕ) (mode : ℕ) (hk : Kept s0 s) :
    Kept s0 (State.sendCmd s p n len mode) := by
  unfold State.sendCmd
  repeat' first | (simp +contextual (maxDischargeDepth := 99) only [↓kept_ite, ↓kept_with, ↓kept_merReject, ↓kept_setTx, hk]; done) | split

theorem kept_execSend {s0 : State} (die : Fin 2) (port : Fin 2) (slot : Fin 4) (len : Byte) (s : State) (hk : Kept s0 s) :
    KeptOut s0 (execSend die port slot len s) := by
  unfold execSend
  repeat' first | (simp +contextual (maxDischargeDepth := 99) only [implies_true, ↓keptOut_next, ↓kept_sendCmd, ↓kept_viaBar0, hk]; done) | split

theorem kept_execSendAndStamp {s0 : State} (die : Fin 2) (port : Fin 2) (slot : Fin 4) (len : Byte) (s : State) (hk : Kept s0 s) :
    KeptOut s0 (execSendAndStamp die port slot len s) := by
  unfold execSendAndStamp
  repeat' first | (simp +contextual (maxDischargeDepth := 99) only [implies_true, ↓keptOut_next, ↓kept_sendCmd, ↓kept_viaBar0, hk]; done) | split

theorem kept_execOneStep {s0 : State} (die : Fin 2) (port : Fin 2) (slot : Fin 4) (len : Byte) (s : State) (hk : Kept s0 s) :
    KeptOut s0 (execOneStep die port slot len s) := by
  unfold execOneStep
  repeat' first | (simp +contextual (maxDischargeDepth := 99) only [implies_true, ↓keptOut_next, ↓kept_sendCmd, ↓kept_viaBar0, hk]; done) | split

theorem kept_execTxComplete {s0 : State} (port : Fin 2) (pcs : Stamp) (s : State) (hk : Kept s0 s) :
    KeptOut s0 (execTxComplete port pcs s) := by
  unfold execTxComplete
  try dsimp only
  repeat' first | with_reducible assumption | simp only [↓kept_with] | with_reducible apply kept_ite_fst | with_reducible apply kept_ite_snd | with_reducible apply kept_foldl_fst | with_reducible apply kept_ite | with_reducible apply kept_foldl | with_reducible apply keptOut_next | with_reducible apply kept_bump | with_reducible apply kept_emit | with_reducible apply kept_frameInfo | with_reducible apply kept_record | with_reducible apply kept_setTx | with_reducible apply kept_storeBytes | intro _ | split

theorem kept_execTimingLinkChange {s0 : State} (port : Fin 2) (up : Bool) (s : State) (hk : Kept s0 s) :
    KeptOut s0 (execTimingLinkChange port up s) := by
  unfold execTimingLinkChange
  repeat' first | (simp +contextual (maxDischargeDepth := 99) only [↓keptOut_next, ↓kept_wr, hk]; done) | split

theorem kept_execSyncTimeout {s0 : State} (port : Fin 2) (s : State) (hk : Kept s0 s) :
    KeptOut s0 (execSyncTimeout port s) := by
  unfold execSyncTimeout
  repeat' first | (simp +contextual (maxDischargeDepth := 99) only [↓kept_ite, ↓keptOut_next, ↓kept_raise, ↓kept_reach, ↓kept_wr, hk]; done) | split

theorem kept_setClk10 {s0 : State} (s : State) (v : Bool) (hk : Kept s0 s) :
    Kept s0 (State.setClk10 s v) := by
  unfold State.setClk10
  repeat' first | (simp +contextual (maxDischargeDepth := 99) only [↓kept_ite, ↓kept_with, hk]; done) | split

theorem kept_execPpsOutPulse {s0 : State} (s : State) (hk : Kept s0 s) :
    KeptOut s0 (execPpsOutPulse s) := by
  unfold execPpsOutPulse
  repeat' first | (simp +contextual (maxDischargeDepth := 99) only [↓kept_ite, ↓kept_with, ↓keptOut_next, ↓kept_draw, ↓kept_emit, ↓kept_reach, hk]; done) | split

theorem kept_execPpsInEdge {s0 : State} (at_ : Stamp) (s : State) (hk : Kept s0 s) :
    KeptOut s0 (execPpsInEdge at_ s) := by
  unfold execPpsInEdge
  repeat' first | (simp +contextual (maxDischargeDepth := 99) only [↓kept_ite, ↓kept_with, ↓keptOut_next, ↓kept_bump, ↓kept_draw, ↓kept_occur, ↓kept_record, ↓kept_wr, hk]; done) | split

theorem kept_execPpsinPop {s0 : State} (die : Fin 2) (s : State) (hk : Kept s0 s) :
    KeptOut s0 (execPpsinPop die s) := by
  unfold execPpsinPop
  repeat' first | (simp +contextual (maxDischargeDepth := 99) only [implies_true, ↓kept_with, ↓keptOut_next, ↓kept_viaBar0, ↓kept_wr, hk]; done) | split

end Sys2Proof.Machine
end

