-- ==== Sys2Proof/Laws/KeptRoles.lean ====
section
/-! SUPPORT. What the operations and commands of Machine/Roles.lean keep (Kept). -/
namespace Sys2Proof.Machine

theorem kept_setRole {s0 : State} (s : State) (die : ℕ) (role : ℕ) (hk : Kept s0 s) :
    Kept s0 (State.setRole s die role) := by
  unfold State.setRole
  repeat' first | (simp +contextual (maxDischargeDepth := 99) only [↓kept_ite, ↓kept_signalVec, ↓kept_wr, hk]; done) | split

theorem kept_leaveLockstep {s0 : State} (s : State) (die : ℕ) (hk : Kept s0 s) :
    Kept s0 (State.leaveLockstep s die) := by
  unfold State.leaveLockstep
  repeat' first | (simp +contextual (maxDischargeDepth := 99) only [implies_true, ↓kept_foldl, ↓kept_with, ↓kept_done, ↓kept_withDesc, hk]; done) | split

theorem kept_endSwitch {s0 : State} (s : State) (hk : Kept s0 s) :
    Kept s0 (State.endSwitch s) := by
  unfold State.endSwitch
  repeat' first | (simp +contextual (maxDischargeDepth := 99) only [↓kept_ite, ↓kept_lksDone, hk]; done) | split

theorem kept_detachStandby {s0 : State} (s : State) (hk : Kept s0 s) :
    Kept s0 (State.detachStandby s) := by
  unfold State.detachStandby
  repeat' first | (simp +contextual (maxDischargeDepth := 99) only [↓kept_endSwitch, ↓kept_leaveLockstep, ↓kept_setRole, hk]; done) | split

theorem kept_followAll {s0 : State} (s : State) (die : ℕ) (twilight : ℕ) (hk : Kept s0 s) :
    Kept s0 (State.followAll s die twilight) := by
  unfold State.followAll
  repeat' first | (simp +contextual (maxDischargeDepth := 99) only [implies_true, ↓kept_foldl, ↓kept_followDie, hk]; done) | split

theorem kept_unfreeze {s0 : State} (s : State) (tile : ℕ) (hk : Kept s0 s) :
    Kept s0 (State.unfreeze s tile) := by
  unfold State.unfreeze
  repeat' first | (simp +contextual (maxDischargeDepth := 99) only [↓kept_with, ↓kept_restage, ↓kept_wr, hk]; done) | split

theorem kept_noteFailover {s0 : State} (s : State) (trigger : ℕ) (old : ℕ) (new : ℕ) (gap : ℕ) (twilight : ℕ) (first : ℕ) (hk : Kept s0 s) :
    Kept s0 (State.noteFailover s trigger old new gap twilight first) := by
  unfold State.noteFailover
  repeat' first | (simp +contextual (maxDischargeDepth := 99) only [↓kept_wr, hk]; done) | split

theorem kept_pairRefresh {s0 : State} (s : State) (hk : Kept s0 s) :
    Kept s0 (State.pairRefresh s) := by
  unfold State.pairRefresh
  repeat' first | (simp +contextual (maxDischargeDepth := 99) only [↓kept_ite, ↓kept_with, ↓kept_occur, ↓kept_wr, hk]; done) | split

theorem kept_failover {s0 : State} (s : State) (trigger : ℕ) (hk : Kept s0 s) :
    Kept s0 (State.failover s trigger) := by
  unfold State.failover
  try dsimp only
  repeat' first | with_reducible assumption | simp only [↓kept_with] | with_reducible apply kept_ite_fst | with_reducible apply kept_ite_snd | with_reducible apply kept_foldl_fst | with_reducible apply kept_ite | with_reducible apply kept_foldl | with_reducible apply keptOut_next | with_reducible apply kept_bump | with_reducible apply kept_draw | with_reducible apply kept_endSwitch | with_reducible apply kept_followAll | with_reducible apply kept_leaveLockstep | with_reducible apply kept_lksDone | with_reducible apply kept_noteFailover | with_reducible apply kept_occur | with_reducible apply kept_pairRefresh | with_reducible apply kept_repost | with_reducible apply kept_restartAll | with_reducible apply kept_setRole | with_reducible apply kept_wr | intro _ | split

theorem kept_beginHold {s0 : State} (s : State) (hk : Kept s0 s) :
    Kept s0 (State.beginHold s) := by
  unfold State.beginHold
  try dsimp only
  repeat' first | with_reducible assumption | simp only [↓kept_with] | with_reducible apply kept_ite_fst | with_reducible apply kept_ite_snd | with_reducible apply kept_foldl_fst | with_reducible apply kept_ite | with_reducible apply kept_foldl | with_reducible apply keptOut_next | with_reducible apply kept_abandonSweep | with_reducible apply kept_bump | with_reducible apply kept_cancelCycle | with_reducible apply kept_freeze | with_reducible apply kept_lksVec | with_reducible apply kept_occur | with_reducible apply kept_pauseLoops | with_reducible apply kept_raise | with_reducible apply kept_wr | intro _ | split

theorem kept_startReapply {s0 : State} (s : State) (hk : Kept s0 s) :
    Kept s0 (State.startReapply s).2 := by
  unfold State.startReapply
  try dsimp only
  repeat' first | with_reducible assumption | simp only [↓kept_with] | with_reducible apply kept_ite_fst | with_reducible apply kept_ite_snd | with_reducible apply kept_foldl_fst | with_reducible apply kept_ite | with_reducible apply kept_foldl | with_reducible apply keptOut_next | with_reducible apply kept_enqueue | with_reducible apply kept_wr | intro _ | split

end Sys2Proof.Machine
end

