-- ==== Sys2Proof/Laws/KeptDusk.lean ====
section
/-! SUPPORT. What the operations and commands of Machine/Dusk.lean keep (Kept). -/
namespace Sys2Proof.Machine

theorem kept_execDuskRequest {s0 : State} (die : Fin 2) (s : State) (hk : Kept s0 s) :
    KeptOut s0 (execDuskRequest die s) := by
  unfold execDuskRequest
  repeat' first | (simp +contextual (maxDischargeDepth := 99) only [implies_true, ↓kept_ite, ↓kept_foldl, ↓kept_with, ↓keptOut_next, ↓kept_sendTo, ↓kept_viaBar0, ↓kept_wr, hk]; done) | split

theorem kept_execDuskEntry {s0 : State} (s : State) (hk : Kept s0 s) :
    KeptOut s0 (execDuskEntry s) := by
  unfold execDuskEntry
  repeat' first | (simp +contextual (maxDischargeDepth := 99) only [↓kept_ite, ↓keptOut_next, ↓kept_bump, ↓kept_reach, ↓kept_regate, ↓kept_wr, hk]; done) | split

theorem kept_duskExit {s0 : State} (s : State) (hk : Kept s0 s) :
    Kept s0 (State.duskExit s) := by
  unfold State.duskExit
  try dsimp only
  repeat' first | with_reducible assumption | simp only [↓kept_with] | with_reducible apply kept_ite_fst | with_reducible apply kept_ite_snd | with_reducible apply kept_foldl_fst | with_reducible apply kept_ite | with_reducible apply kept_foldl | with_reducible apply keptOut_next | with_reducible apply kept_draw | with_reducible apply kept_restartAll | with_reducible apply kept_sendTo | with_reducible apply kept_wr | intro _ | split

theorem kept_execDuskExit {s0 : State} (die : Fin 2) (s : State) (hk : Kept s0 s) :
    KeptOut s0 (execDuskExit die s) := by
  unfold execDuskExit
  repeat' first | (simp +contextual (maxDischargeDepth := 99) only [implies_true, ↓keptOut_next, ↓kept_duskExit, ↓kept_viaBar0, hk]; done) | split

theorem kept_execClockRestart {s0 : State} (die : Fin 2) (dom : Fin 22) (s : State) (hk : Kept s0 s) :
    KeptOut s0 (execClockRestart die dom s) := by
  unfold execClockRestart
  repeat' first | (simp +contextual (maxDischargeDepth := 99) only [↓keptOut_next, ↓kept_regate, ↓kept_restart, hk]; done) | split

end Sys2Proof.Machine
end

