-- ==== Sys2Proof/Laws/KeptMemory.lean ====
section
/-! SUPPORT. What the operations and commands of Machine/Memory.lean keep (Kept). -/
namespace Sys2Proof.Machine

theorem kept_bucket {s0 : State} (s : State) (die : ℕ) (group : ℕ) (hk : Kept s0 s) :
    Kept s0 (State.bucket s die group) := by
  unfold State.bucket
  repeat' first | (simp +contextual (maxDischargeDepth := 99) only [↓kept_ite, ↓kept_bump, ↓kept_raise, ↓kept_wr, hk]; done) | split

theorem kept_persistent {s0 : State} (s : State) (die : ℕ) (group : ℕ) (tile : ℕ) (addr : ℕ) (hk : Kept s0 s) :
    Kept s0 (State.persistent s die group tile addr) := by
  unfold State.persistent
  try dsimp only
  repeat' first | with_reducible assumption | simp only [↓kept_with] | with_reducible apply kept_ite_fst | with_reducible apply kept_ite_snd | with_reducible apply kept_foldl_fst | with_reducible apply kept_ite | with_reducible apply kept_foldl | with_reducible apply keptOut_next | with_reducible apply kept_bump | with_reducible apply kept_raise | with_reducible apply kept_wr | intro _ | split

theorem kept_corrected {s0 : State} (s : State) (die : ℕ) (group : ℕ) (tile : ℕ) (addr : ℕ) (hk : Kept s0 s) :
    Kept s0 (State.corrected s die group tile addr) := by
  unfold State.corrected
  repeat' first | (simp +contextual (maxDischargeDepth := 99) only [↓kept_ite, ↓kept_with, ↓kept_bucket, ↓kept_persistent, hk]; done) | split

theorem kept_execBucketLeak {s0 : State} (die : Fin 2) (group : Fin 16) (s : State) (hk : Kept s0 s) :
    KeptOut s0 (execBucketLeak die group s) := by
  unfold execBucketLeak
  repeat' first | (simp +contextual (maxDischargeDepth := 99) only [↓kept_with, ↓keptOut_next, ↓kept_lower, ↓kept_reach, hk]; done) | split

theorem kept_execRemapSwitch {s0 : State} (die : Fin 2) (s : State) (hk : Kept s0 s) :
    KeptOut s0 (execRemapSwitch die s) := by
  unfold execRemapSwitch
  repeat' first | (simp +contextual (maxDischargeDepth := 99) only [↓kept_ite, ↓kept_with, ↓keptOut_next, ↓kept_reach, ↓kept_wr, hk]; done) | split

theorem kept_scrubStore {s0 : State} (s : State) (first : ℕ) (n : ℕ) (ws : List ScrubWord) (hk : Kept s0 s) :
    Kept s0 (State.scrubStore s first n ws) := by
  unfold State.scrubStore
  repeat' first | (simp +contextual (maxDischargeDepth := 99) only [implies_true, ↓kept_foldl, ↓kept_spoil, ↓kept_unspoil, hk]; done) | split

theorem kept_execScrubRange {s0 : State} (id : ℕ) (results : List ScrubWord) (s : State) (hk : Kept s0 s) :
    KeptOut s0 (execScrubRange id results s) := by
  unfold execScrubRange
  repeat' first | (simp +contextual (maxDischargeDepth := 99) only [implies_true, ↓kept_ite, ↓kept_foldl, ↓kept_with, ↓keptOut_next, ↓kept_corrected, ↓kept_done, ↓kept_scrubStore, ↓kept_uncorrectable, ↓kept_withOp, ↓kept_wr, hk]; done) | split

theorem kept_execScrubDone {s0 : State} (s : State) (hk : Kept s0 s) :
    KeptOut s0 (execScrubDone s) := by
  unfold execScrubDone
  repeat' first | (simp +contextual (maxDischargeDepth := 99) only [implies_true, ↓kept_with, ↓keptOut_next, ↓kept_done, ↓kept_reach, ↓kept_toHost, ↓kept_withDesc, ↓kept_wr, hk]; done) | split

end Sys2Proof.Machine
end

