-- ==== Sys2Proof/Laws/KeptSaf.lean ====
section
/-! SUPPORT. What the operations and commands of Machine/Saf.lean keep (Kept). -/
namespace Sys2Proof.Machine

theorem kept_safRefresh {s0 : State} (s : State) (hk : Kept s0 s) :
    Kept s0 (State.safRefresh s) := by
  unfold State.safRefresh
  repeat' first | (simp +contextual (maxDischargeDepth := 99) only [↓kept_wr, hk]; done) | split

theorem kept_setEsc {s0 : State} (s : State) (p : ℕ) (v : Bool) (hk : Kept s0 s) :
    Kept s0 (State.setEsc s p v) := by
  unfold State.setEsc
  repeat' first | (simp +contextual (maxDischargeDepth := 99) only [↓kept_chWr, ↓kept_wr, hk]; done) | split

theorem kept_setLatch {s0 : State} (s : State) (l : Latch) (hk : Kept s0 s) :
    Kept s0 (State.setLatch s l) := by
  unfold State.setLatch
  repeat' first | (simp +contextual (maxDischargeDepth := 99) only [↓kept_with, hk]; done) | split

theorem kept_holdPorts {s0 : State} (s : State) (n : ℕ) (ps : List ℕ) (hk : Kept s0 s) :
    Kept s0 (State.holdPorts s n ps) := by
  unfold State.holdPorts
  repeat' first | (simp +contextual (maxDischargeDepth := 99) only [implies_true, ↓kept_foldl, ↓kept_with, ↓kept_setEsc, hk]; done) | split

theorem kept_openWindow {s0 : State} (s : State) (f : ℕ) (severity : ℕ) (reach : List ℕ) (hk : Kept s0 s) :
    Kept s0 (State.openWindow s f severity reach) := by
  unfold State.openWindow
  repeat' first | (simp +contextual (maxDischargeDepth := 99) only [↓kept_with, hk]; done) | split

theorem kept_dropReapply {s0 : State} (s : State) (hk : Kept s0 s) :
    Kept s0 (State.dropReapply s) := by
  unfold State.dropReapply
  repeat' first | (simp +contextual (maxDischargeDepth := 99) only [↓kept_cancelCycle, ↓kept_dequeue, ↓kept_endClears, ↓kept_wr, hk]; done) | split

theorem kept_startGlobe {s0 : State} (s : State) (hk : Kept s0 s) :
    Kept s0 (State.startGlobe s) := by
  unfold State.startGlobe
  repeat' first | (simp +contextual (maxDischargeDepth := 99) only [implies_true, ↓kept_foldl, ↓kept_abandonSweep, ↓kept_bump, ↓kept_dropReapply, ↓kept_eclipseCycle, ↓kept_occur, ↓kept_pauseLoops, ↓kept_releaseGen, ↓kept_stopPlayer, ↓kept_withdraw, ↓kept_wr, hk]; done) | split

theorem kept_holdGlobe {s0 : State} (s : State) (n : ℕ) (hk : Kept s0 s) :
    Kept s0 (State.holdGlobe s n) := by
  unfold State.holdGlobe
  repeat' first | (simp +contextual (maxDischargeDepth := 99) only [↓kept_ite, ↓kept_with, ↓kept_startGlobe, hk]; done) | split

theorem kept_blockReset {s0 : State} (s : State) (n : ℕ) (hk : Kept s0 s) :
    Kept s0 (State.blockReset s n) := by
  unfold State.blockReset
  repeat' first | (simp +contextual (maxDischargeDepth := 99) only [implies_true, ↓kept_foldl, ↓kept_with, ↓kept_abandonBlock, ↓kept_hostReset, ↓kept_resetLoops, ↓kept_wr, hk]; done) | split

theorem kept_failoverReaction {s0 : State} (s : State) (n : ℕ) (hk : Kept s0 s) :
    Kept s0 (State.failoverReaction s n).2 := by
  unfold State.failoverReaction
  try dsimp only
  repeat' first | with_reducible assumption | simp only [↓kept_with] | with_reducible apply kept_ite_fst | with_reducible apply kept_ite_snd | with_reducible apply kept_foldl_fst | with_reducible apply kept_ite | with_reducible apply kept_foldl | with_reducible apply keptOut_next | with_reducible apply kept_detachStandby | with_reducible apply kept_failover | intro _ | split

theorem kept_loseTile {s0 : State} (s : State) (t : ℕ) (hk : Kept s0 s) :
    Kept s0 (State.loseTile s t) := by
  unfold State.loseTile
  repeat' first | (simp +contextual (maxDischargeDepth := 99) only [implies_true, ↓kept_foldl, ↓kept_with, ↓kept_abandonMeas, ↓kept_abandonSweep, ↓kept_addLost, ↓kept_chWr, ↓kept_discardLoops, ↓kept_releaseGen, ↓kept_setCtxState, ↓kept_stopPlayer, ↓kept_tileLossCycle, ↓kept_withdraw, ↓kept_wr, ↓kept_zonesStay, hk]; done) | split

theorem kept_fixedAction {s0 : State} (s : State) (n : ℕ) (hk : Kept s0 s) :
    Kept s0 (State.fixedAction s n) := by
  unfold State.fixedAction
  repeat' first | (simp +contextual (maxDischargeDepth := 99) only [↓kept_ite, ↓kept_detachStandby, ↓kept_loseTile, ↓kept_wr, hk]; done) | split

theorem kept_faultRecord {s0 : State} (s : State) (x : Strike) (w0 : ℕ) (seq : ℕ) (action : ℕ) (flags : ℕ) (hk : Kept s0 s) :
    Kept s0 (State.faultRecord s x w0 seq action flags) := by
  unfold State.faultRecord
  repeat' first | (simp +contextual (maxDischargeDepth := 99) only [↓kept_record, hk]; done) | split

theorem kept_react {s0 : State} (s : State) (x : Strike) (sev : ℕ) (hk : Kept s0 s) :
    Kept s0 (State.react s x sev).2 := by
  unfold State.react
  try dsimp only
  repeat' first | with_reducible assumption | simp only [↓kept_with] | with_reducible apply kept_ite_fst | with_reducible apply kept_ite_snd | with_reducible apply kept_foldl_fst | with_reducible apply kept_ite | with_reducible apply kept_foldl | with_reducible apply keptOut_next | with_reducible apply kept_blockReset | with_reducible apply kept_failoverReaction | with_reducible apply kept_holdGlobe | with_reducible apply kept_holdPorts | with_reducible apply kept_msix | with_reducible apply kept_openWindow | intro _ | split

theorem kept_newEntry {s0 : State} (s : State) (x : Strike) (hk : Kept s0 s) :
    Kept s0 (State.newEntry s x) := by
  unfold State.newEntry
  try dsimp only
  repeat' first | with_reducible assumption | simp only [↓kept_with] | with_reducible apply kept_ite_fst | with_reducible apply kept_ite_snd | with_reducible apply kept_foldl_fst | with_reducible apply kept_ite | with_reducible apply kept_foldl | with_reducible apply keptOut_next | with_reducible apply kept_bump | with_reducible apply kept_duskExit | with_reducible apply kept_faultRecord | with_reducible apply kept_fixedAction | with_reducible apply kept_occur | with_reducible apply kept_pairRefresh | with_reducible apply kept_react | with_reducible apply kept_safRefresh | with_reducible apply kept_setLatch | with_reducible apply kept_wr | intro _ | split

theorem kept_repeatEntry {s0 : State} (s : State) (x : Strike) (l : Latch) (hk : Kept s0 s) :
    Kept s0 (State.repeatEntry s x l) := by
  unfold State.repeatEntry
  repeat' first | (simp +contextual (maxDischargeDepth := 99) only [↓kept_ite, ↓kept_faultRecord, ↓kept_holdPorts, hk]; done) | split

theorem kept_selfcheckToo {s0 : State} (s : State) (x : Strike) (hk : Kept s0 s) :
    Kept s0 (State.selfcheckToo s x) := by
  unfold State.selfcheckToo
  repeat' first | (simp +contextual (maxDischargeDepth := 99) only [↓kept_ite, ↓kept_with, ↓kept_raise, ↓kept_wr, hk]; done) | split

theorem kept_strike {s0 : State} (s : State) (x : Strike) (hk : Kept s0 s) :
    Kept s0 (State.strike s x) := by
  unfold State.strike
  try dsimp only
  repeat' first | with_reducible assumption | simp only [↓kept_with] | with_reducible apply kept_ite_fst | with_reducible apply kept_ite_snd | with_reducible apply kept_foldl_fst | with_reducible apply kept_ite | with_reducible apply kept_foldl | with_reducible apply keptOut_next | with_reducible apply kept_bumpMem | with_reducible apply kept_newEntry | with_reducible apply kept_reach | with_reducible apply kept_repeatEntry | with_reducible apply kept_selfcheckToo | with_reducible apply kept_store | intro _ | split

theorem kept_takeOcc {s0 : State} (s : State) (o : Occ) (hk : Kept s0 s) :
    Kept s0 (State.takeOcc s o) := by
  unfold State.takeOcc
  repeat' first | (simp +contextual (maxDischargeDepth := 99) only [↓kept_with, ↓kept_strike, hk]; done) | split

theorem kept_takeUpTo {s0 : State} (s : State) (n : ℕ) (a : ℕ) (hk : Kept s0 s) :
    Kept s0 (State.takeUpTo s n a) := by
  induction a generalizing s with
  | zero => exact hk
  | succ m ih =>
    unfold State.takeUpTo
    split
    · exact hk
    · exact kept_ite (kept_takeOcc _ _ hk) (ih _ (kept_takeOcc _ _ hk))

theorem kept_execFaultOccurrence {s0 : State} (source : Fin 384) (info : BitVec 16) (die : Fin 2) (s : State) (hk : Kept s0 s) :
    KeptOut s0 (execFaultOccurrence source info die s) := by
  unfold execFaultOccurrence
  repeat' first | (simp +contextual (maxDischargeDepth := 99) only [↓kept_ite, ↓keptOut_next, ↓kept_bucket, ↓kept_raise, ↓kept_setSrcBit, ↓kept_takeUpTo, hk]; done) | split

theorem kept_execBlockResetDone {s0 : State} (target : Fin 8) (s : State) (hk : Kept s0 s) :
    KeptOut s0 (execBlockResetDone target s) := by
  unfold execBlockResetDone
  repeat' first | (simp +contextual (maxDischargeDepth := 99) only [↓kept_ite, ↓kept_with, ↓keptOut_next, ↓kept_reach, hk]; done) | split

theorem kept_execConseqWindowEnd {s0 : State} (s : State) (hk : Kept s0 s) :
    KeptOut s0 (execConseqWindowEnd s) := by
  unfold execConseqWindowEnd
  repeat' first | (simp +contextual (maxDischargeDepth := 99) only [↓kept_with, ↓keptOut_next, ↓kept_reach, hk]; done) | split

theorem kept_execFaultPairRefreshTimeout {s0 : State} (s : State) (hk : Kept s0 s) :
    KeptOut s0 (execFaultPairRefreshTimeout s) := by
  unfold execFaultPairRefreshTimeout
  repeat' first | (simp +contextual (maxDischargeDepth := 99) only [↓kept_with, ↓keptOut_next, ↓kept_pairRefresh, hk]; done) | split

theorem kept_execSafeNRequest {s0 : State} (s : State) (hk : Kept s0 s) :
    KeptOut s0 (execSafeNRequest s) := by
  unfold execSafeNRequest
  repeat' first | (simp +contextual (maxDischargeDepth := 99) only [↓kept_ite, ↓keptOut_next, ↓kept_occur, ↓kept_raise, ↓kept_wr, hk]; done) | split

theorem kept_execSafeNRelease {s0 : State} (s : State) (hk : Kept s0 s) :
    KeptOut s0 (execSafeNRelease s) := by
  unfold execSafeNRelease
  repeat' first | (simp +contextual (maxDischargeDepth := 99) only [↓keptOut_next, ↓kept_wr, hk]; done) | split

theorem kept_inject {s0 : State} (s : State) (n : ℕ) (info : ℕ) (mode : ℕ) (hk : Kept s0 s) :
    Kept s0 (State.inject s n info mode) := by
  unfold State.inject
  repeat' first | (simp +contextual (maxDischargeDepth := 99) only [↓kept_ite, ↓kept_with, ↓kept_wr, hk]; done) | split

theorem kept_execInjectRecord {s0 : State} (die : Fin 2) (source : Fin 512) (info : BitVec 16) (s : State) (hk : Kept s0 s) :
    KeptOut s0 (execInjectRecord die source info s) := by
  unfold execInjectRecord
  repeat' first | (simp +contextual (maxDischargeDepth := 99) only [implies_true, ↓keptOut_next, ↓kept_inject, ↓kept_viaBar0, hk]; done) | split

theorem kept_execInjectReact {s0 : State} (die : Fin 2) (source : Fin 512) (info : BitVec 16) (s : State) (hk : Kept s0 s) :
    KeptOut s0 (execInjectReact die source info s) := by
  unfold execInjectReact
  repeat' first | (simp +contextual (maxDischargeDepth := 99) only [implies_true, ↓keptOut_next, ↓kept_inject, ↓kept_viaBar0, hk]; done) | split

theorem kept_execSwEclipse {s0 : State} (die : Fin 2) (value : Bool) (s : State) (hk : Kept s0 s) :
    KeptOut s0 (execSwEclipse die value s) := by
  unfold execSwEclipse
  repeat' first | (simp +contextual (maxDischargeDepth := 99) only [implies_true, ↓kept_ite, ↓keptOut_next, ↓kept_raise, ↓kept_viaBar0, ↓kept_wr, hk]; done) | split

theorem kept_clearFirst {s0 : State} (s : State) (hk : Kept s0 s) :
    Kept s0 (State.clearFirst s) := by
  unfold State.clearFirst
  repeat' first | (simp +contextual (maxDischargeDepth := 99) only [↓kept_wr, hk]; done) | split

theorem kept_execSafFirstClr {s0 : State} (die : Fin 2) (s : State) (hk : Kept s0 s) :
    KeptOut s0 (execSafFirstClr die s) := by
  unfold execSafFirstClr
  repeat' first | (simp +contextual (maxDischargeDepth := 99) only [implies_true, ↓keptOut_next, ↓kept_clearFirst, ↓kept_viaBar0, hk]; done) | split

theorem kept_execSafHistPop {s0 : State} (die : Fin 2) (s : State) (hk : Kept s0 s) :
    KeptOut s0 (execSafHistPop die s) := by
  unfold execSafHistPop
  repeat' first | (simp +contextual (maxDischargeDepth := 99) only [implies_true, ↓kept_with, ↓keptOut_next, ↓kept_safRefresh, ↓kept_viaBar0, hk]; done) | split

theorem kept_returnTile {s0 : State} (s : State) (t : ℕ) (hk : Kept s0 s) :
    Kept s0 (State.returnTile s t) := by
  unfold State.returnTile
  repeat' first | (simp +contextual (maxDischargeDepth := 99) only [implies_true, ↓kept_ite, ↓kept_foldl, ↓kept_with, ↓kept_chWr, ↓kept_loadWord, ↓kept_wake, ↓kept_wr, hk]; done) | split

theorem kept_clearToo {s0 : State} (s : State) (n : ℕ) (hk : Kept s0 s) :
    Kept s0 (State.clearToo s n) := by
  unfold State.clearToo
  repeat' first | (simp +contextual (maxDischargeDepth := 99) only [implies_true, ↓kept_foldl, ↓kept_with, ↓kept_foldClear, ↓kept_pathClear, ↓kept_returnTile, ↓kept_tripClear, ↓kept_wr, hk]; done) | split

theorem kept_clearLatched {s0 : State} (s : State) (ns : List ℕ) (hk : Kept s0 s) :
    Kept s0 (State.clearLatched s ns).2 := by
  unfold State.clearLatched
  try dsimp only
  repeat' first | with_reducible assumption | simp only [↓kept_with] | with_reducible apply kept_ite_fst | with_reducible apply kept_ite_snd | with_reducible apply kept_foldl_fst | with_reducible apply kept_ite | with_reducible apply kept_foldl | with_reducible apply keptOut_next | with_reducible apply kept_clearToo | with_reducible apply kept_markSuspended | with_reducible apply kept_pairRefresh | with_reducible apply kept_safRefresh | with_reducible apply kept_setEsc | with_reducible apply kept_startReapply | intro _ | split

theorem kept_safClear {s0 : State} (s : State) (p : ℕ → Bool) (hk : Kept s0 s) :
    Kept s0 (State.safClear s p) := by
  unfold State.safClear
  repeat' first | (simp +contextual (maxDischargeDepth := 99) only [↓kept_ite, ↓kept_clearLatched, ↓kept_wr, hk]; done) | split

theorem kept_execSafClrSource {s0 : State} (die : Fin 2) (source : Fin 512) (s : State) (hk : Kept s0 s) :
    KeptOut s0 (execSafClrSource die source s) := by
  unfold execSafClrSource
  repeat' first | (simp +contextual (maxDischargeDepth := 99) only [implies_true, ↓keptOut_next, ↓kept_safClear, ↓kept_viaBar0, hk]; done) | split

theorem kept_execSafClrAll {s0 : State} (die : Fin 2) (s : State) (hk : Kept s0 s) :
    KeptOut s0 (execSafClrAll die s) := by
  unfold execSafClrAll
  repeat' first | (simp +contextual (maxDischargeDepth := 99) only [implies_true, ↓keptOut_next, ↓kept_safClear, ↓kept_viaBar0, hk]; done) | split

theorem kept_eclipseClear {s0 : State} (s : State) (d : Desc) (hk : Kept s0 s) :
    Kept s0 (State.eclipseClear s d) := by
  unfold State.eclipseClear
  try dsimp only
  repeat' first | with_reducible assumption | simp only [↓kept_with] | with_reducible apply kept_ite_fst | with_reducible apply kept_ite_snd | with_reducible apply kept_foldl_fst | with_reducible apply kept_ite | with_reducible apply kept_foldl | with_reducible apply keptOut_next | with_reducible apply kept_clearFirst | with_reducible apply kept_clearLatched | with_reducible apply kept_done | with_reducible apply kept_reach | with_reducible apply kept_safRefresh | intro _ | split

theorem kept_execEclipseClearSources {s0 : State} (id : ℕ) (s : State) (hk : Kept s0 s) :
    KeptOut s0 (execEclipseClearSources id s) := by
  unfold execEclipseClearSources
  repeat' first | (simp +contextual (maxDischargeDepth := 99) only [implies_true, ↓kept_ite, ↓keptOut_next, ↓kept_eclipseClear, ↓kept_withOp, hk]; done) | split

theorem kept_execEclipseClearAll {s0 : State} (id : ℕ) (s : State) (hk : Kept s0 s) :
    KeptOut s0 (execEclipseClearAll id s) := by
  unfold execEclipseClearAll
  repeat' first | (simp +contextual (maxDischargeDepth := 99) only [implies_true, ↓kept_ite, ↓keptOut_next, ↓kept_eclipseClear, ↓kept_withOp, hk]; done) | split

end Sys2Proof.Machine
end

