-- ==== Sys2Proof/Laws/KeptLockstep.lean ====
section
/-! SUPPORT. What the operations and commands of Machine/Lockstep.lean keep (Kept). -/
namespace Sys2Proof.Machine

theorem kept_execLockstepMismatch {s0 : State} (tile : Fin 8) (kind : Fin 8) (channel : Fin 16384) (s : State) (hk : Kept s0 s) :
    KeptOut s0 (execLockstepMismatch tile kind channel s) := by
  unfold execLockstepMismatch
  repeat' first | (simp +contextual (maxDischargeDepth := 99) only [↓kept_ite, ↓kept_with, ↓keptOut_next, ↓kept_bump, ↓kept_freeze, ↓kept_raise, ↓kept_wr, hk]; done) | split

theorem kept_selfcheckFails {s0 : State} (s : State) (die : ℕ) (hk : Kept s0 s) :
    Kept s0 (State.selfcheckFails s die) := by
  unfold State.selfcheckFails
  repeat' first | (simp +contextual (maxDischargeDepth := 99) only [↓kept_raise, ↓kept_wr, hk]; done) | split

theorem kept_unfreezeAll {s0 : State} (s : State) (hk : Kept s0 s) :
    Kept s0 (State.unfreezeAll s) := by
  unfold State.unfreezeAll
  repeat' first | (simp +contextual (maxDischargeDepth := 99) only [implies_true, ↓kept_ite, ↓kept_foldl, ↓kept_unfreeze, hk]; done) | split

theorem kept_resolveTo {s0 : State} (s : State) (bad : ℕ → Bool) (hk : Kept s0 s) :
    Kept s0 (State.resolveTo s bad) := by
  unfold State.resolveTo
  repeat' first | (simp +contextual (maxDischargeDepth := 99) only [↓kept_ite, ↓kept_beginHold, ↓kept_detachStandby, ↓kept_failover, ↓kept_unfreezeAll, hk]; done) | split

theorem kept_execMismatchResolve {s0 : State} (failA : Bool) (failB : Bool) (s : State) (hk : Kept s0 s) :
    KeptOut s0 (execMismatchResolve failA failB s) := by
  unfold execMismatchResolve
  repeat' first | (simp +contextual (maxDischargeDepth := 99) only [implies_true, ↓kept_ite, ↓kept_foldl, ↓kept_with, ↓keptOut_next, ↓kept_resolveTo, ↓kept_selfcheckFails, hk]; done) | split

theorem kept_execHeartbeatMiss {s0 : State} (observer : Fin 2) (s : State) (hk : Kept s0 s) :
    KeptOut s0 (execHeartbeatMiss observer s) := by
  unfold execHeartbeatMiss
  repeat' first | (simp +contextual (maxDischargeDepth := 99) only [↓kept_ite, ↓kept_with, ↓keptOut_next, ↓kept_bump, ↓kept_detachStandby, ↓kept_failover, ↓kept_raise, ↓kept_reach, hk]; done) | split

theorem kept_lksNow {s0 : State} (s : State) (d : Option Desc) (status : ℕ) (hk : Kept s0 s) :
    Kept s0 (State.lksNow s d status) := by
  unfold State.lksNow
  repeat' first | (simp +contextual (maxDischargeDepth := 99) only [↓kept_done, ↓kept_wr, hk]; done) | split

theorem kept_lksWait {s0 : State} (s : State) (d : Option Desc) (op : ℕ) (arg : ℕ) (hk : Kept s0 s) :
    Kept s0 (State.lksWait s d op arg) := by
  unfold State.lksWait
  repeat' first | (simp +contextual (maxDischargeDepth := 99) only [↓kept_ite, ↓kept_with, ↓kept_wr, hk]; done) | split

theorem kept_lksSwitch {s0 : State} (s : State) (d : Option Desc) (hk : Kept s0 s) :
    Kept s0 (State.lksSwitch s d) := by
  unfold State.lksSwitch
  repeat' first | (simp +contextual (maxDischargeDepth := 99) only [↓kept_ite, ↓kept_lksNow, ↓kept_lksWait, hk]; done) | split

theorem kept_lksDetach {s0 : State} (s : State) (d : Option Desc) (hk : Kept s0 s) :
    Kept s0 (State.lksDetach s d) := by
  unfold State.lksDetach
  repeat' first | (simp +contextual (maxDischargeDepth := 99) only [↓kept_ite, ↓kept_detachStandby, ↓kept_lksNow, ↓kept_reach, hk]; done) | split

theorem kept_resetDie {s0 : State} (s : State) (die : ℕ) (pass : ℕ) (hk : Kept s0 s) :
    Kept s0 (State.resetDie s die pass) := by
  unfold State.resetDie
  repeat' first | (simp +contextual (maxDischargeDepth := 99) only [↓kept_with, ↓kept_clearMem, ↓kept_clearRegs, ↓kept_wr, hk]; done) | split

theorem kept_lksResync {s0 : State} (s : State) (d : Option Desc) (hk : Kept s0 s) :
    Kept s0 (State.lksResync s d) := by
  unfold State.lksResync
  repeat' first | (simp +contextual (maxDischargeDepth := 99) only [↓kept_ite, ↓kept_lksNow, ↓kept_lksWait, ↓kept_resetDie, ↓kept_wr, hk]; done) | split

theorem kept_lksKeep {s0 : State} (s : State) (d : Option Desc) (die : ℕ) (hk : Kept s0 s) :
    Kept s0 (State.lksKeep s d die) := by
  unfold State.lksKeep
  repeat' first | (simp +contextual (maxDischargeDepth := 99) only [↓kept_ite, ↓kept_with, ↓kept_endSwitch, ↓kept_followAll, ↓kept_leaveLockstep, ↓kept_lksNow, ↓kept_lksWait, ↓kept_pairRefresh, ↓kept_repost, ↓kept_setRole, ↓kept_startReapply, ↓kept_wr, hk]; done) | split

theorem kept_failoverOp {s0 : State} (s : State) (id : ℕ) (op : ℕ) (f : Desc → State) (hk : Kept s0 s) (h_f : ∀ y0, Kept s0 (f y0)) :
    Kept s0 (State.failoverOp s id op f) := by
  unfold State.failoverOp
  repeat' first | (simp +contextual (maxDischargeDepth := 99) only [implies_true, ↓kept_ite, ↓kept_done, ↓kept_withOp, hk, h_f]; done) | split

theorem kept_execSwitch {s0 : State} (id : ℕ) (s : State) (hk : Kept s0 s) :
    KeptOut s0 (execSwitch id s) := by
  unfold execSwitch
  repeat' first | (simp +contextual (maxDischargeDepth := 99) only [implies_true, ↓keptOut_next, ↓kept_failoverOp, ↓kept_lksSwitch, hk]; done) | split

theorem kept_execDetach {s0 : State} (id : ℕ) (s : State) (hk : Kept s0 s) :
    KeptOut s0 (execDetach id s) := by
  unfold execDetach
  repeat' first | (simp +contextual (maxDischargeDepth := 99) only [implies_true, ↓keptOut_next, ↓kept_failoverOp, ↓kept_lksDetach, hk]; done) | split

theorem kept_execResync {s0 : State} (id : ℕ) (s : State) (hk : Kept s0 s) :
    KeptOut s0 (execResync id s) := by
  unfold execResync
  repeat' first | (simp +contextual (maxDischargeDepth := 99) only [implies_true, ↓keptOut_next, ↓kept_failoverOp, ↓kept_lksResync, hk]; done) | split

theorem kept_execKeep {s0 : State} (id : ℕ) (s : State) (hk : Kept s0 s) :
    KeptOut s0 (execKeep id s) := by
  unfold execKeep
  repeat' first | (simp +contextual (maxDischargeDepth := 99) only [implies_true, ↓keptOut_next, ↓kept_failoverOp, ↓kept_lksKeep, hk]; done) | split

theorem kept_execLksCmdSwitch {s0 : State} (die : Fin 2) (s : State) (hk : Kept s0 s) :
    KeptOut s0 (execLksCmdSwitch die s) := by
  unfold execLksCmdSwitch
  repeat' first | (simp +contextual (maxDischargeDepth := 99) only [implies_true, ↓keptOut_next, ↓kept_lksSwitch, ↓kept_viaBar0, hk]; done) | split

theorem kept_execLksCmdDetach {s0 : State} (die : Fin 2) (s : State) (hk : Kept s0 s) :
    KeptOut s0 (execLksCmdDetach die s) := by
  unfold execLksCmdDetach
  repeat' first | (simp +contextual (maxDischargeDepth := 99) only [implies_true, ↓keptOut_next, ↓kept_lksDetach, ↓kept_viaBar0, hk]; done) | split

theorem kept_execLksCmdResync {s0 : State} (die : Fin 2) (s : State) (hk : Kept s0 s) :
    KeptOut s0 (execLksCmdResync die s) := by
  unfold execLksCmdResync
  repeat' first | (simp +contextual (maxDischargeDepth := 99) only [implies_true, ↓keptOut_next, ↓kept_lksResync, ↓kept_viaBar0, hk]; done) | split

theorem kept_execLksCmdKeep {s0 : State} (die : Fin 2) (keep : Fin 2) (s : State) (hk : Kept s0 s) :
    KeptOut s0 (execLksCmdKeep die keep s) := by
  unfold execLksCmdKeep
  repeat' first | (simp +contextual (maxDischargeDepth := 99) only [implies_true, ↓keptOut_next, ↓kept_lksKeep, ↓kept_viaBar0, hk]; done) | split

theorem kept_execSwitchEffect {s0 : State} (s : State) (hk : Kept s0 s) :
    KeptOut s0 (execSwitchEffect s) := by
  unfold execSwitchEffect
  repeat' first | (simp +contextual (maxDischargeDepth := 99) only [↓kept_ite, ↓keptOut_next, ↓kept_failover, ↓kept_lksDone, ↓kept_reach, hk]; done) | split

theorem kept_execLagClose {s0 : State} (s : State) (hk : Kept s0 s) :
    KeptOut s0 (execLagClose s) := by
  unfold execLagClose
  repeat' first | (simp +contextual (maxDischargeDepth := 99) only [↓kept_ite, ↓keptOut_next, ↓kept_reach, ↓kept_wr, hk]; done) | split

theorem kept_dieUp {s0 : State} (s : State) (die : ℕ) (hk : Kept s0 s) :
    Kept s0 (State.dieUp s die) := by
  unfold State.dieUp
  repeat' first | (simp +contextual (maxDischargeDepth := 99) only [↓kept_setSrcBit, hk]; done) | split

theorem kept_endResync {s0 : State} (s : State) (status : ℕ) (hk : Kept s0 s) :
    Kept s0 (State.endResync s status) := by
  unfold State.endResync
  repeat' first | (simp +contextual (maxDischargeDepth := 99) only [↓kept_lksDone, ↓kept_wr, hk]; done) | split

theorem kept_joinK {s0 : State} (s : State) (die : ℕ) (hk : Kept s0 s) :
    Kept s0 (State.joinK s die) := by
  unfold State.joinK
  repeat' first | (simp +contextual (maxDischargeDepth := 99) only [implies_true, ↓kept_ite, ↓kept_foldl, ↓kept_with, ↓kept_store, hk]; done) | split

theorem kept_execResyncJoin {s0 : State} (ok : Bool) (s : State) (hk : Kept s0 s) :
    KeptOut s0 (execResyncJoin ok s) := by
  unfold execResyncJoin
  repeat' first | (simp +contextual (maxDischargeDepth := 99) only [↓kept_ite, ↓kept_with, ↓keptOut_next, ↓kept_dieUp, ↓kept_endResync, ↓kept_joinK, ↓kept_reach, ↓kept_setRole, ↓kept_wr, hk]; done) | split

theorem kept_execDieRestart {s0 : State} (die : Fin 2) (s : State) (hk : Kept s0 s) :
    KeptOut s0 (execDieRestart die s) := by
  unfold execDieRestart
  repeat' first | (simp +contextual (maxDischargeDepth := 99) only [↓kept_ite, ↓keptOut_next, ↓kept_detachStandby, ↓kept_dieUp, ↓kept_draw, ↓kept_endResync, ↓kept_resetDie, hk]; done) | split

theorem kept_level {s0 : State} (s : State) (n : ℕ) (v : Bool) (hk : Kept s0 s) :
    Kept s0 (State.level s n v) := by
  unfold State.level
  repeat' first | (simp +contextual (maxDischargeDepth := 99) only [↓kept_ite, ↓kept_raise, ↓kept_setSrcBit, hk]; done) | split

theorem kept_vhvEval {s0 : State} (s : State) (hk : Kept s0 s) :
    Kept s0 (State.vhvEval s) := by
  unfold State.vhvEval
  repeat' first | (simp +contextual (maxDischargeDepth := 99) only [↓kept_with, ↓kept_level, ↓kept_wr, hk]; done) | split

theorem kept_upMissed {s0 : State} (s : State) (t : ℕ) (d : ℕ) (hk : Kept s0 s) :
    Kept s0 (State.upMissed s t d) := by
  unfold State.upMissed
  repeat' first | (simp +contextual (maxDischargeDepth := 99) only [↓kept_ite, ↓kept_with, ↓kept_level, hk]; done) | split

theorem kept_upHeard {s0 : State} (s : State) (t : ℕ) (d : ℕ) (f : UpFrame) (hk : Kept s0 s) :
    Kept s0 (State.upHeard s t d f) := by
  unfold State.upHeard
  repeat' first | (simp +contextual (maxDischargeDepth := 99) only [↓kept_ite, ↓kept_with, ↓kept_level, ↓kept_raise, ↓kept_setMean, ↓kept_setSrcBit, ↓kept_vhvEval, hk]; done) | split

theorem kept_execUpstreamLinkFrame {s0 : State} (die : Fin 2) (tile : Fin 8) (frame : UpFrame) (s : State) (hk : Kept s0 s) :
    KeptOut s0 (execUpstreamLinkFrame die tile frame s) := by
  unfold execUpstreamLinkFrame
  repeat' first | (simp +contextual (maxDischargeDepth := 99) only [↓kept_ite, ↓keptOut_next, ↓kept_upHeard, ↓kept_upMissed, hk]; done) | split

end Sys2Proof.Machine
end

