-- ==== Sys2Proof/Laws/KeptBus.lean ====
section
/-! SUPPORT. What the operations and commands of Machine/Bus.lean keep (Kept). -/
namespace Sys2Proof.Machine

theorem kept_busError {s0 : State} (s : State) (die : ℕ) (r : BusReq) (hk : Kept s0 s) :
    Kept s0 (State.busError s die r) := by
  unfold State.busError
  repeat' first | (simp +contextual (maxDischargeDepth := 99) only [↓kept_ite, ↓kept_bump, ↓kept_raise, ↓kept_wr, hk]; done) | split

theorem kept_execBusAccess {s0 : State} (die : Fin 2) (target : Fin 18) (requests : List BusReq) (s : State) (hk : Kept s0 s) :
    KeptOut s0 (execBusAccess die target requests s) := by
  unfold execBusAccess
  try dsimp only
  repeat' first | with_reducible assumption | simp only [↓kept_with] | with_reducible apply kept_ite_fst | with_reducible apply kept_ite_snd | with_reducible apply kept_foldl_fst | with_reducible apply kept_ite | with_reducible apply kept_foldl | with_reducible apply keptOut_next | with_reducible apply kept_busError | with_reducible apply kept_wr | intro _ | split

end Sys2Proof.Machine
end

