-- ==== Sys2Proof/Laws/KeptSec.lean ====
section
/-! SUPPORT. What the operations and commands of Machine/Sec.lean keep (Kept). -/
namespace Sys2Proof.Machine

theorem kept_secReject {s0 : State} (s : State) (hk : Kept s0 s) :
    Kept s0 (State.secReject s) := by
  unfold State.secReject
  repeat' first | (simp +contextual (maxDischargeDepth := 99) only [↓kept_wr, hk]; done) | split

theorem kept_keyCmd {s0 : State} (s : State) (slot : ℕ) (f : State → State) (hk : Kept s0 s) (h_f : ∀ y0, Kept s0 y0 → Kept s0 (f y0)) :
    Kept s0 (State.keyCmd s slot f) := by
  unfold State.keyCmd
  repeat' first | (simp +contextual (maxDischargeDepth := 99) only [↓kept_ite, ↓kept_with, ↓kept_secReject, hk, h_f]; done) | split

theorem kept_execKeyLoad {s0 : State} (die : Fin 2) (slot : Fin 32) (s : State) (hk : Kept s0 s) :
    KeptOut s0 (execKeyLoad die slot s) := by
  unfold execKeyLoad
  repeat' first | (simp +contextual (maxDischargeDepth := 99) only [implies_true, ↓kept_ite, ↓kept_foldl, ↓kept_with, ↓keptOut_next, ↓kept_keyCmd, ↓kept_viaBar0, ↓kept_wr, hk]; done) | split

theorem kept_dropKey {s0 : State} (s : State) (slot : ℕ) (hk : Kept s0 s) :
    Kept s0 (State.dropKey s slot) := by
  unfold State.dropKey
  repeat' first | (simp +contextual (maxDischargeDepth := 99) only [↓kept_with, ↓kept_wr, hk]; done) | split

theorem kept_execKeyErase {s0 : State} (die : Fin 2) (slot : Fin 32) (s : State) (hk : Kept s0 s) :
    KeptOut s0 (execKeyErase die slot s) := by
  unfold execKeyErase
  repeat' first | (simp +contextual (maxDischargeDepth := 99) only [implies_true, ↓keptOut_next, ↓kept_dropKey, ↓kept_keyCmd, ↓kept_viaBar0, hk]; done) | split

theorem kept_zeroise {s0 : State} (s : State) (hk : Kept s0 s) :
    Kept s0 (State.zeroise s) := by
  unfold State.zeroise
  repeat' first | (simp +contextual (maxDischargeDepth := 99) only [implies_true, ↓kept_foldl, ↓kept_bump, ↓kept_dropKey, ↓kept_orbitErase, ↓kept_wr, hk]; done) | split

theorem kept_tamperRefresh {s0 : State} (s : State) (hk : Kept s0 s) :
    Kept s0 (State.tamperRefresh s) := by
  unfold State.tamperRefresh
  repeat' first | (simp +contextual (maxDischargeDepth := 99) only [↓kept_setSrcBit, ↓kept_wr, hk]; done) | split

theorem kept_execTamperAlarm {s0 : State} (cond : Fin 5) (s : State) (hk : Kept s0 s) :
    KeptOut s0 (execTamperAlarm cond s) := by
  unfold execTamperAlarm
  repeat' first | (simp +contextual (maxDischargeDepth := 99) only [↓kept_ite, ↓kept_with, ↓keptOut_next, ↓kept_raise, ↓kept_tamperRefresh, ↓kept_wr, ↓kept_zeroise, hk]; done) | split

theorem kept_execTamperConditionEnd {s0 : State} (cond : Fin 5) (s : State) (hk : Kept s0 s) :
    KeptOut s0 (execTamperConditionEnd cond s) := by
  unfold execTamperConditionEnd
  repeat' first | (simp +contextual (maxDischargeDepth := 99) only [↓keptOut_next, ↓kept_tamperRefresh, ↓kept_wr, hk]; done) | split

theorem kept_execAlarmLock {s0 : State} (die : Fin 2) (s : State) (hk : Kept s0 s) :
    KeptOut s0 (execAlarmLock die s) := by
  unfold execAlarmLock
  repeat' first | (simp +contextual (maxDischargeDepth := 99) only [implies_true, ↓keptOut_next, ↓kept_viaBar0, ↓kept_wr, hk]; done) | split

theorem kept_execFwWrite {s0 : State} (die : Fin 2) (read : HostRead (List Byte)) (s : State) (hk : Kept s0 s) :
    KeptOut s0 (execFwWrite die read s) := by
  unfold execFwWrite
  repeat' first | (simp +contextual (maxDischargeDepth := 99) only [implies_true, ↓kept_ite, ↓kept_with, ↓keptOut_next, ↓kept_clocksOn, ↓kept_emit, ↓kept_poison, ↓kept_secReject, ↓kept_viaBar0, ↓kept_wr, hk]; done) | split

theorem kept_execFwWriteDone {s0 : State} (flashOk : Bool) (s : State) (hk : Kept s0 s) :
    KeptOut s0 (execFwWriteDone flashOk s) := by
  unfold execFwWriteDone
  repeat' first | (simp +contextual (maxDischargeDepth := 99) only [↓kept_ite, ↓kept_with, ↓keptOut_next, ↓kept_clocksOn, ↓kept_draw, ↓kept_wr, hk]; done) | split

theorem kept_execRaiseMin {s0 : State} (die : Fin 2) (s : State) (hk : Kept s0 s) :
    KeptOut s0 (execRaiseMin die s) := by
  unfold execRaiseMin
  repeat' first | (simp +contextual (maxDischargeDepth := 99) only [implies_true, ↓kept_ite, ↓kept_with, ↓keptOut_next, ↓kept_secReject, ↓kept_viaBar0, ↓kept_wr, hk]; done) | split

theorem kept_setShadow {s0 : State} (s : State) (die : ℕ) (req : ℕ) (ws : List ℕ) (hk : Kept s0 s) :
    Kept s0 (State.setShadow s die req ws) := by
  unfold State.setShadow
  repeat' first | (simp +contextual (maxDischargeDepth := 99) only [↓kept_with, hk]; done) | split

theorem kept_challenge {s0 : State} (s : State) (die : ℕ) (req : ℕ) (nonce : ℕ) (hk : Kept s0 s) :
    Kept s0 (State.challenge s die req nonce) := by
  unfold State.challenge
  repeat' first | (simp +contextual (maxDischargeDepth := 99) only [↓kept_with, ↓kept_emit, ↓kept_setShadow, hk]; done) | split

theorem kept_execDbgChallenge {s0 : State} (die : Fin 2) (nonce : BitVec 128) (s : State) (hk : Kept s0 s) :
    KeptOut s0 (execDbgChallenge die nonce s) := by
  unfold execDbgChallenge
  repeat' first | (simp +contextual (maxDischargeDepth := 99) only [↓kept_ite, ↓keptOut_next, ↓kept_challenge, hk]; done) | split

theorem kept_dbgFails {s0 : State} (s : State) (hk : Kept s0 s) :
    Kept s0 (State.dbgFails s) := by
  unfold State.dbgFails
  repeat' first | (simp +contextual (maxDischargeDepth := 99) only [↓kept_ite, ↓kept_bump, ↓kept_wr, hk]; done) | split

theorem kept_execDbgLevelRequest {s0 : State} (die : Fin 2) (level : Fin 4) (s : State) (hk : Kept s0 s) :
    KeptOut s0 (execDbgLevelRequest die level s) := by
  unfold execDbgLevelRequest
  try dsimp only
  repeat' first | with_reducible assumption | simp only [↓kept_with] | with_reducible apply kept_ite_fst | with_reducible apply kept_ite_snd | with_reducible apply kept_foldl_fst | with_reducible apply kept_ite | with_reducible apply kept_foldl | with_reducible apply keptOut_next | with_reducible apply kept_dbgFails | with_reducible apply kept_raise | with_reducible apply kept_secReject | with_reducible apply kept_viaBar0 | with_reducible apply kept_wr | with_reducible apply kept_zeroise | intro _ | split

theorem kept_execDbgRelock {s0 : State} (die : Fin 2) (s : State) (hk : Kept s0 s) :
    KeptOut s0 (execDbgRelock die s) := by
  unfold execDbgRelock
  repeat' first | (simp +contextual (maxDischargeDepth := 99) only [implies_true, ↓keptOut_next, ↓kept_viaBar0, ↓kept_wr, hk]; done) | split

end Sys2Proof.Machine
end

