-- ==== Sys2Proof/Laws/KeptPmc.lean ====
section
/-! SUPPORT. What the operations and commands of Machine/Pmc.lean keep (Kept). -/
namespace Sys2Proof.Machine

theorem kept_ovfSum {s0 : State} (s : State) (die : ℕ) (core : ℕ) (hk : Kept s0 s) :
    Kept s0 (State.ovfSum s die core) := by
  unfold State.ovfSum
  repeat' first | (simp +contextual (maxDischargeDepth := 99) only [↓kept_ite, ↓kept_wr, hk]; done) | split

theorem kept_overflow {s0 : State} (s : State) (die : ℕ) (core : ℕ) (k : ℕ) (hk : Kept s0 s) :
    Kept s0 (State.overflow s die core k) := by
  unfold State.overflow
  repeat' first | (simp +contextual (maxDischargeDepth := 99) only [↓kept_ite, ↓kept_ovfSum, ↓kept_signalVec, ↓kept_wr, hk]; done) | split

theorem kept_execCounterOverflow {s0 : State} (die : Fin 2) (core : Fin 64) (k : Fin 6) (s : State) (hk : Kept s0 s) :
    KeptOut s0 (execCounterOverflow die core k s) := by
  unfold execCounterOverflow
  repeat' first | (simp +contextual (maxDischargeDepth := 99) only [↓kept_with, ↓keptOut_next, ↓kept_overflow, hk]; done) | split

theorem kept_clearCore {s0 : State} (s : State) (die : ℕ) (core : ℕ) (hk : Kept s0 s) :
    Kept s0 (State.clearCore s die core) := by
  unfold State.clearCore
  repeat' first | (simp +contextual (maxDischargeDepth := 99) only [implies_true, ↓kept_foldl, ↓kept_with, ↓kept_overflow, ↓kept_ovfSum, ↓kept_pmcAccrue, ↓kept_wr, hk]; done) | split

theorem kept_execPmcClear {s0 : State} (die : Fin 2) (s : State) (hk : Kept s0 s) :
    KeptOut s0 (execPmcClear die s) := by
  unfold execPmcClear
  repeat' first | (simp +contextual (maxDischargeDepth := 99) only [implies_true, ↓kept_foldl, ↓keptOut_next, ↓kept_clearCore, ↓kept_viaBar0, hk]; done) | split

theorem kept_smpShow {s0 : State} (s : State) (die : ℕ) (cluster : ℕ) (hk : Kept s0 s) :
    Kept s0 (State.smpShow s die cluster) := by
  unfold State.smpShow
  repeat' first | (simp +contextual (maxDischargeDepth := 99) only [↓kept_wr, hk]; done) | split

theorem kept_smpPut {s0 : State} (s : State) (die : ℕ) (cluster : ℕ) (entry : List Byte) (hk : Kept s0 s) :
    Kept s0 (State.smpPut s die cluster entry) := by
  unfold State.smpPut
  repeat' first | (simp +contextual (maxDischargeDepth := 99) only [↓kept_ite, ↓kept_bump, ↓kept_smpShow, ↓kept_storeBytes, ↓kept_wr, hk]; done) | split

theorem kept_smpRecord {s0 : State} (s : State) (x : Smp) (hk : Kept s0 s) :
    Kept s0 (State.smpRecord s x) := by
  unfold State.smpRecord
  repeat' first | (simp +contextual (maxDischargeDepth := 99) only [↓kept_ite, ↓kept_with, hk]; done) | split

theorem kept_execPmcSample {s0 : State} (die : Fin 2) (cluster : Fin 8) (s : State) (hk : Kept s0 s) :
    KeptOut s0 (execPmcSample die cluster s) := by
  unfold execPmcSample
  repeat' first | (simp +contextual (maxDischargeDepth := 99) only [↓kept_with, ↓keptOut_next, ↓kept_smpPut, ↓kept_smpRecord, hk]; done) | split

theorem kept_smpPop {s0 : State} (s : State) (die : ℕ) (cluster : ℕ) (hk : Kept s0 s) :
    Kept s0 (State.smpPop s die cluster) := by
  unfold State.smpPop
  repeat' first | (simp +contextual (maxDischargeDepth := 99) only [↓kept_ite, ↓kept_smpShow, ↓kept_wr, hk]; done) | split

theorem kept_execPmcSmpPop {s0 : State} (die : Fin 2) (cluster : Fin 8) (s : State) (hk : Kept s0 s) :
    KeptOut s0 (execPmcSmpPop die cluster s) := by
  unfold execPmcSmpPop
  repeat' first | (simp +contextual (maxDischargeDepth := 99) only [implies_true, ↓kept_foldl, ↓keptOut_next, ↓kept_smpPop, ↓kept_viaBar0, hk]; done) | split

theorem kept_execCounterSnap {s0 : State} (id : ℕ) (s : State) (hk : Kept s0 s) :
    KeptOut s0 (execCounterSnap id s) := by
  unfold execCounterSnap
  repeat' first | (simp +contextual (maxDischargeDepth := 99) only [implies_true, ↓kept_ite, ↓kept_with, ↓keptOut_next, ↓kept_done, ↓kept_withOp, hk]; done) | split

theorem kept_execSnapCapture {s0 : State} (id : ℕ) (s : State) (hk : Kept s0 s) :
    KeptOut s0 (execSnapCapture id s) := by
  unfold execSnapCapture
  try dsimp only
  repeat' first | with_reducible assumption | simp only [↓kept_with] | with_reducible apply kept_ite_fst | with_reducible apply kept_ite_snd | with_reducible apply kept_foldl_fst | with_reducible apply kept_ite | with_reducible apply kept_foldl | with_reducible apply keptOut_next | with_reducible apply kept_clearCore | with_reducible apply kept_done | with_reducible apply kept_finish | with_reducible apply kept_pmcAccrue | with_reducible apply kept_reach | with_reducible apply kept_toHost | with_reducible apply kept_withDesc | intro _ | split

end Sys2Proof.Machine
end

