-- ==== Sys2Proof/Laws/KeptPower.lean ====
section
/-! SUPPORT. What the operations and commands of Machine/Power.lean keep (Kept). -/
namespace Sys2Proof.Machine

theorem kept_fwSpoil {s0 : State} (s : State) (hk : Kept s0 s) :
    Kept s0 (State.fwSpoil s) := by
  unfold State.fwSpoil
  repeat' first | (simp +contextual (maxDischargeDepth := 99) only [↓kept_with, ↓kept_draw, hk]; done) | split

theorem kept_powerBase {s0 : State} (s : State) (keep : ℕ → Bool) (hk : Kept s0 s) :
    Kept s0 (State.powerBase s keep) := by
  exact kept_base (kept_fwSpoil _ hk) ..

theorem kept_vaonBase {s0 : State} (s : State) (hk : Kept s0 s) :
    Kept s0 (State.vaonBase s) := by
  unfold State.vaonBase
  repeat' first | (simp +contextual (maxDischargeDepth := 99) only [↓kept_powerBase, hk]; done) | split

theorem kept_rstBase {s0 : State} (s : State) (hk : Kept s0 s) :
    Kept s0 (State.rstBase s) := by
  unfold State.rstBase
  repeat' first | (simp +contextual (maxDischargeDepth := 99) only [↓kept_with, ↓kept_powerBase, hk]; done) | split

theorem kept_railOn {s0 : State} (s : State) (r : ℕ) (v : Bool) (hk : Kept s0 s) :
    Kept s0 (State.railOn s r v) := by
  unfold State.railOn
  repeat' first | (simp +contextual (maxDischargeDepth := 99) only [↓kept_emit, hk]; done) | split

theorem kept_railSet {s0 : State} (s : State) (r : ℕ) (mv : ℕ) (hk : Kept s0 s) :
    Kept s0 (State.railSet s r mv) := by
  unfold State.railSet
  repeat' first | (simp +contextual (maxDischargeDepth := 99) only [↓kept_emit, hk]; done) | split

theorem kept_railFails {s0 : State} (s : State) (hk : Kept s0 s) :
    Kept s0 (State.railFails s) := by
  unfold State.railFails
  repeat' first | (simp +contextual (maxDischargeDepth := 99) only [↓kept_with, ↓kept_wr, hk]; done) | split

theorem kept_showTests {s0 : State} (s : State) (x : DawnIn) (die : ℕ) (hk : Kept s0 s) :
    Kept s0 (State.showTests s x die) := by
  unfold State.showTests
  repeat' first | (simp +contextual (maxDischargeDepth := 99) only [↓kept_wr, hk]; done) | split

theorem kept_firstRoles {s0 : State} (s : State) (a : ℕ) (both : Bool) (hk : Kept s0 s) :
    Kept s0 (State.firstRoles s a both) := by
  unfold State.firstRoles
  repeat' first | (simp +contextual (maxDischargeDepth := 99) only [↓kept_wr, hk]; done) | split

theorem kept_vhvEnable {s0 : State} (s : State) (hk : Kept s0 s) :
    Kept s0 (State.vhvEnable s) := by
  unfold State.vhvEnable
  repeat' first | (simp +contextual (maxDischargeDepth := 99) only [↓kept_ite, ↓kept_with, ↓kept_railOn, ↓kept_railSet, ↓kept_wr, hk]; done) | split

theorem kept_makeReady {s0 : State} (s : State) (x : DawnIn) (hk : Kept s0 s) :
    Kept s0 (State.makeReady s x) := by
  unfold State.makeReady
  repeat' first | (simp +contextual (maxDischargeDepth := 99) only [implies_true, ↓kept_foldl, ↓kept_with, ↓kept_level, ↓kept_pairRefresh, ↓kept_tamperRefresh, ↓kept_vhvEnable, ↓kept_wr, hk]; done) | split

theorem kept_zeroCounts {s0 : State} (s : State) (hk : Kept s0 s) :
    Kept s0 (State.zeroCounts s) := by
  unfold State.zeroCounts
  repeat' first | (simp +contextual (maxDischargeDepth := 99) only [↓kept_wr, hk]; done) | split

theorem kept_dawn {s0 : State} (s : State) (x : DawnIn) (first : ℕ) (hk : Kept s0 s) :
    Kept s0 (State.dawn s x first) := by
  unfold State.dawn
  repeat' first | (simp +contextual (maxDischargeDepth := 99) only [implies_true, ↓kept_ite, ↓kept_foldl, ↓kept_with, ↓kept_firstRoles, ↓kept_loadAlmanac, ↓kept_makeReady, ↓kept_railFails, ↓kept_railOn, ↓kept_railSet, ↓kept_showTests, ↓kept_wr, ↓kept_zeroCounts, hk]; done) | split

theorem kept_execVaonPowerOn {s0 : State} (dawn : DawnIn) (s : State) (hk : Kept s0 s) :
    KeptOut s0 (execVaonPowerOn dawn s) := by
  unfold execVaonPowerOn
  repeat' first | (simp +contextual (maxDischargeDepth := 99) only [↓kept_ite, ↓kept_with, ↓keptOut_next, ↓kept_dawn, ↓kept_vaonBase, ↓kept_wr, hk]; done) | split

theorem kept_execRailRetry {s0 : State} (dawn : DawnIn) (s : State) (hk : Kept s0 s) :
    KeptOut s0 (execRailRetry dawn s) := by
  unfold execRailRetry
  repeat' first | (simp +contextual (maxDischargeDepth := 99) only [↓kept_ite, ↓keptOut_next, ↓kept_dawn, hk]; done) | split

theorem kept_execRstNAssert {s0 : State} (s : State) (hk : Kept s0 s) :
    KeptOut s0 (execRstNAssert s) := by
  unfold execRstNAssert
  repeat' first | (simp +contextual (maxDischargeDepth := 99) only [↓kept_ite, ↓kept_with, ↓keptOut_next, ↓kept_bump, ↓kept_rstBase, hk]; done) | split

theorem kept_execRstNRelease {s0 : State} (dawn : DawnIn) (s : State) (hk : Kept s0 s) :
    KeptOut s0 (execRstNRelease dawn s) := by
  unfold execRstNRelease
  repeat' first | (simp +contextual (maxDischargeDepth := 99) only [↓kept_ite, ↓kept_with, ↓keptOut_next, ↓kept_dawn, ↓kept_wr, hk]; done) | split

theorem kept_execVaonLoss {s0 : State} (s : State) (hk : Kept s0 s) :
    KeptOut s0 (execVaonLoss s) := by
  unfold execVaonLoss
  repeat' first | (simp +contextual (maxDischargeDepth := 99) only [↓kept_with, ↓keptOut_next, ↓kept_vaonBase, hk]; done) | split

theorem kept_pwrReject {s0 : State} (s : State) (hk : Kept s0 s) :
    Kept s0 (State.pwrReject s) := by
  unfold State.pwrReject
  repeat' first | (simp +contextual (maxDischargeDepth := 99) only [↓kept_wr, hk]; done) | split

theorem kept_execShutdown {s0 : State} (die : Fin 2) (key : BitVec 16) (s : State) (hk : Kept s0 s) :
    KeptOut s0 (execShutdown die key s) := by
  unfold execShutdown
  try dsimp only
  repeat' first | with_reducible assumption | simp only [↓kept_with] | with_reducible apply kept_ite_fst | with_reducible apply kept_ite_snd | with_reducible apply kept_foldl_fst | with_reducible apply kept_ite | with_reducible apply kept_foldl | with_reducible apply keptOut_next | with_reducible apply kept_appendRec | with_reducible apply kept_flashWrite | with_reducible apply kept_pwrReject | with_reducible apply kept_railOn | with_reducible apply kept_rstBase | with_reducible apply kept_viaBar0 | intro _ | split

theorem kept_execVhvSetWrite {s0 : State} (die : Fin 2) (mv : BitVec 14) (s : State) (hk : Kept s0 s) :
    KeptOut s0 (execVhvSetWrite die mv s) := by
  unfold execVhvSetWrite
  repeat' first | (simp +contextual (maxDischargeDepth := 99) only [implies_true, ↓kept_ite, ↓keptOut_next, ↓kept_pwrReject, ↓kept_viaBar0, ↓kept_wrF, hk]; done) | split

theorem kept_execVhvCommand {s0 : State} (s : State) (hk : Kept s0 s) :
    KeptOut s0 (execVhvCommand s) := by
  unfold execVhvCommand
  repeat' first | (simp +contextual (maxDischargeDepth := 99) only [↓kept_ite, ↓keptOut_next, ↓kept_settleF, ↓kept_vhvEnable, ↓kept_vhvEval, hk]; done) | split

theorem kept_execVhvRampEnd {s0 : State} (s : State) (hk : Kept s0 s) :
    KeptOut s0 (execVhvRampEnd s) := by
  unfold execVhvRampEnd
  repeat' first | (simp +contextual (maxDischargeDepth := 99) only [↓kept_with, ↓keptOut_next, ↓kept_reach, ↓kept_vhvEval, ↓kept_wr, hk]; done) | split

theorem kept_pollRail {s0 : State} (s : State) (x : RailRead) (hk : Kept s0 s) :
    Kept s0 (State.pollRail s x) := by
  unfold State.pollRail
  repeat' first | (simp +contextual (maxDischargeDepth := 99) only [↓kept_ite, ↓kept_draw, ↓kept_wr, hk]; done) | split

theorem kept_railCause {s0 : State} (s : State) (n : ℕ) (rs : List ℕ) (xs : List RailRead) (hk : Kept s0 s) :
    Kept s0 (State.railCause s n rs xs) := by
  unfold State.railCause
  repeat' first | (simp +contextual (maxDischargeDepth := 99) only [↓kept_level, hk]; done) | split

theorem kept_execPmbusPoll {s0 : State} (readings : List RailRead) (vaonOk : Bool) (s : State) (hk : Kept s0 s) :
    KeptOut s0 (execPmbusPoll readings vaonOk s) := by
  unfold execPmbusPoll
  repeat' first | (simp +contextual (maxDischargeDepth := 99) only [implies_true, ↓kept_ite, ↓kept_foldl, ↓keptOut_next, ↓kept_level, ↓kept_pollRail, ↓kept_railCause, hk]; done) | split

theorem kept_execPmbAlert {s0 : State} (status : List (BitVec 16)) (s : State) (hk : Kept s0 s) :
    KeptOut s0 (execPmbAlert status s) := by
  unfold execPmbAlert
  repeat' first | (simp +contextual (maxDischargeDepth := 99) only [implies_true, ↓kept_ite, ↓kept_foldl, ↓keptOut_next, ↓kept_raise, hk]; done) | split

theorem kept_execLossCompute {s0 : State} (s : State) (hk : Kept s0 s) :
    KeptOut s0 (execLossCompute s) := by
  unfold execLossCompute
  repeat' first | (simp +contextual (maxDischargeDepth := 99) only [↓kept_ite, ↓keptOut_next, ↓kept_draw, ↓kept_msix, ↓kept_once, ↓kept_wr, hk]; done) | split

theorem kept_armWrite {s0 : State} (s : State) (key : ℕ) (why : ℕ) (on_ : Bool) (hk : Kept s0 s) :
    Kept s0 (State.armWrite s key why on_) := by
  unfold State.armWrite
  repeat' first | (simp +contextual (maxDischargeDepth := 99) only [↓kept_ite, ↓kept_with, ↓kept_pwrReject, ↓kept_wr, hk]; done) | split

theorem kept_execArm {s0 : State} (die : Fin 2) (key : BitVec 16) (s : State) (hk : Kept s0 s) :
    KeptOut s0 (execArm die key s) := by
  unfold execArm
  repeat' first | (simp +contextual (maxDischargeDepth := 99) only [implies_true, ↓keptOut_next, ↓kept_armWrite, ↓kept_viaBar0, hk]; done) | split

theorem kept_execDisarm {s0 : State} (die : Fin 2) (key : BitVec 16) (s : State) (hk : Kept s0 s) :
    KeptOut s0 (execDisarm die key s) := by
  unfold execDisarm
  repeat' first | (simp +contextual (maxDischargeDepth := 99) only [implies_true, ↓keptOut_next, ↓kept_armWrite, ↓kept_viaBar0, hk]; done) | split

theorem kept_armChannel {s0 : State} (s : State) (ch : ℕ) (hk : Kept s0 s) :
    Kept s0 (State.armChannel s ch) := by
  unfold State.armChannel
  repeat' first | (simp +contextual (maxDischargeDepth := 99) only [↓kept_ite, ↓kept_wake, hk]; done) | split

theorem kept_disarmChannel {s0 : State} (s : State) (ch : ℕ) (hk : Kept s0 s) :
    Kept s0 (State.disarmChannel s ch) := by
  unfold State.disarmChannel
  repeat' first | (simp +contextual (maxDischargeDepth := 99) only [↓kept_ite, ↓kept_chWr, ↓kept_dueAgain, hk]; done) | split

theorem kept_execArmEffect {s0 : State} (s : State) (hk : Kept s0 s) :
    KeptOut s0 (execArmEffect s) := by
  unfold execArmEffect
  repeat' first | (simp +contextual (maxDischargeDepth := 99) only [implies_true, ↓kept_ite, ↓kept_foldl, ↓kept_with, ↓keptOut_next, ↓kept_armChannel, ↓kept_disarmChannel, ↓kept_markSuspended, ↓kept_reach, ↓kept_wr, hk]; done) | split

end Sys2Proof.Machine
end

