-- ==== Sys2Proof/Laws/KeptTimeStep.lean ====
section
/-! SUPPORT. What the operations and commands of Machine/TimeStep.lean keep (Kept). -/
namespace Sys2Proof.Machine

theorem kept_moveTiles {s0 : State} (s : State) (d : ℤ) (hk : Kept s0 s) :
    Kept s0 (State.moveTiles s d) := by
  unfold State.moveTiles
  repeat' first | (simp +contextual (maxDischargeDepth := 99) only [↓kept_with, hk]; done) | split

theorem kept_moveDies {s0 : State} (s : State) (d : ℤ) (hk : Kept s0 s) :
    Kept s0 (State.moveDies s d) := by
  unfold State.moveDies
  repeat' first | (simp +contextual (maxDischargeDepth := 99) only [↓kept_with, hk]; done) | split

theorem kept_endPeriods {s0 : State} (s : State) (hk : Kept s0 s) :
    Kept s0 (State.endPeriods s) := by
  unfold State.endPeriods
  repeat' first | (simp +contextual (maxDischargeDepth := 99) only [↓kept_with, ↓kept_bump, hk]; done) | split

theorem kept_stepGens {s0 : State} (s : State) (d : ℤ) (hk : Kept s0 s) :
    Kept s0 (State.stepGens s d) := by
  unfold State.stepGens
  repeat' first | (simp +contextual (maxDischargeDepth := 99) only [↓kept_with, hk]; done) | split

theorem kept_stepRequests {s0 : State} (s : State) (hk : Kept s0 s) :
    Kept s0 (State.stepRequests s) := by
  unfold State.stepRequests
  try dsimp only
  repeat' first | with_reducible assumption | simp only [↓kept_with] | with_reducible apply kept_ite_fst | with_reducible apply kept_ite_snd | with_reducible apply kept_foldl_fst | with_reducible apply kept_ite | with_reducible apply kept_foldl | with_reducible apply keptOut_next | with_reducible apply kept_cancel | with_reducible apply kept_cancelStart | intro _ | split

theorem kept_stepStream {s0 : State} (s : State) (d : ℤ) (p : Player) (hk : Kept s0 s) :
    Kept s0 (State.stepStream s d p) := by
  unfold State.stepStream
  repeat' first | (simp +contextual (maxDischargeDepth := 99) only [↓kept_ite, ↓kept_with, ↓kept_stopPlayer, hk]; done) | split

theorem kept_stepSnap {s0 : State} (s : State) (d : ℤ) (x : ℕ × ℕ) (hk : Kept s0 s) :
    Kept s0 (State.stepSnap s d x) := by
  unfold State.stepSnap
  repeat' first | (simp +contextual (maxDischargeDepth := 99) only [↓kept_ite, ↓kept_with, ↓kept_done, hk]; done) | split

theorem kept_stepCapture {s0 : State} (s : State) (t : ℕ) (hk : Kept s0 s) :
    Kept s0 (State.stepCapture s t) := by
  unfold State.stepCapture
  repeat' first | (simp +contextual (maxDischargeDepth := 99) only [↓kept_ite, ↓kept_with, ↓kept_capTrigger, ↓kept_wr, hk]; done) | split

theorem kept_stepTimer {s0 : State} (s : State) (j : ℕ) (hk : Kept s0 s) :
    Kept s0 (State.stepTimer s j) := by
  unfold State.stepTimer
  repeat' first | (simp +contextual (maxDischargeDepth := 99) only [↓kept_ite, ↓kept_setTimer, ↓kept_takeTimer, ↓kept_wr, hk]; done) | split

theorem kept_stepTime {s0 : State} (s : State) (f : ℕ) (amount : ℤ) (hk : Kept s0 s) :
    Kept s0 (State.stepTime s f amount) := by
  unfold State.stepTime
  repeat' first | (simp +contextual (maxDischargeDepth := 99) only [implies_true, ↓kept_foldl, ↓kept_with, ↓kept_abandonWindows, ↓kept_bump, ↓kept_endPeriods, ↓kept_moveDies, ↓kept_moveTiles, ↓kept_occur, ↓kept_orbitStep, ↓kept_stepCapture, ↓kept_stepGens, ↓kept_stepRequests, ↓kept_stepSnap, ↓kept_stepStream, ↓kept_stepTimer, ↓kept_wr, ↓kept_zeroMs, hk]; done) | split

theorem kept_takeArm {s0 : State} (s : State) (at_ : ℕ) (hk : Kept s0 s) :
    Kept s0 (State.takeArm s at_) := by
  unfold State.takeArm
  repeat' first | (simp +contextual (maxDischargeDepth := 99) only [↓kept_with, ↓kept_reach, ↓kept_wr, hk]; done) | split

theorem kept_execTimeStepApply {s0 : State} (s : State) (hk : Kept s0 s) :
    KeptOut s0 (execTimeStepApply s) := by
  unfold execTimeStepApply
  repeat' first | (simp +contextual (maxDischargeDepth := 99) only [↓kept_ite, ↓keptOut_next, ↓kept_setSlew, ↓kept_stepTime, ↓kept_takeArm, hk]; done) | split

theorem kept_execTimeSetApply {s0 : State} (s : State) (hk : Kept s0 s) :
    KeptOut s0 (execTimeSetApply s) := by
  unfold execTimeSetApply
  repeat' first | (simp +contextual (maxDischargeDepth := 99) only [↓kept_ite, ↓keptOut_next, ↓kept_stepTime, ↓kept_takeArm, hk]; done) | split

end Sys2Proof.Machine
end

