-- ==== Sys2Proof/Laws/KeptTables.lean ====
section
/-! SUPPORT. What the operations and commands of Machine/Tables.lean keep (Kept). -/
namespace Sys2Proof.Machine

theorem kept_Wrote_flag {s0 : State} (w : State × ℕ) (rej : State → State) (hk : Kept s0 w.1) (h_rej : ∀ y0, Kept s0 y0 → Kept s0 (rej y0)) :
    Kept s0 (Wrote.flag w rej).1 := by
  unfold Wrote.flag
  try dsimp only
  repeat' first | with_reducible assumption | simp only [↓kept_with] | with_reducible apply h_rej | with_reducible apply kept_ite_fst | with_reducible apply kept_ite_snd | with_reducible apply kept_foldl_fst | with_reducible apply kept_ite | with_reducible apply kept_foldl | with_reducible apply keptOut_next | intro _ | split

theorem kept_lpaReject {s0 : State} (s : State) (hk : Kept s0 s) :
    Kept s0 (State.lpaReject s) := by
  unfold State.lpaReject
  repeat' first | (simp +contextual (maxDischargeDepth := 99) only [↓kept_wr, hk]; done) | split

theorem kept_prfReject {s0 : State} (s : State) (hk : Kept s0 s) :
    Kept s0 (State.prfReject s) := by
  unfold State.prfReject
  repeat' first | (simp +contextual (maxDischargeDepth := 99) only [↓kept_wr, hk]; done) | split

theorem kept_safReject {s0 : State} (s : State) (hk : Kept s0 s) :
    Kept s0 (State.safReject s) := by
  unfold State.safReject
  repeat' first | (simp +contextual (maxDischargeDepth := 99) only [↓kept_wr, hk]; done) | split

theorem kept_sgfReject {s0 : State} (s : State) (hk : Kept s0 s) :
    Kept s0 (State.sgfReject s) := by
  unfold State.sgfReject
  repeat' first | (simp +contextual (maxDischargeDepth := 99) only [↓kept_wr, hk]; done) | split

theorem kept_progStore {s0 : State} (s : State) (o : ℕ) (v : ℕ) (hk : Kept s0 s) :
    Kept s0 (State.progStore s o v).1 := by
  unfold State.progStore
  try dsimp only
  repeat' first | with_reducible assumption | simp only [↓kept_with] | with_reducible apply kept_ite_fst | with_reducible apply kept_ite_snd | with_reducible apply kept_foldl_fst | with_reducible apply kept_ite | with_reducible apply kept_foldl | with_reducible apply keptOut_next | with_reducible apply kept_store | with_reducible apply kept_unspoil | intro _ | split

theorem kept_ctxStore {s0 : State} (s : State) (x : ℕ) (o : ℕ) (v : ℕ) (hk : Kept s0 s) :
    Kept s0 (State.ctxStore s x o v).1 := by
  unfold State.ctxStore
  try dsimp only
  repeat' first | with_reducible assumption | simp only [↓kept_with] | with_reducible apply kept_ite_fst | with_reducible apply kept_ite_snd | with_reducible apply kept_foldl_fst | with_reducible apply kept_ite | with_reducible apply kept_foldl | with_reducible apply keptOut_next | with_reducible apply kept_store | intro _ | split

theorem kept_limitStore {s0 : State} (s : State) (a : ℕ) (w : ℕ) (v : ℕ) (hk : Kept s0 s) :
    Kept s0 (State.limitStore s a w v).1 := by
  unfold State.limitStore
  try dsimp only
  repeat' first | with_reducible assumption | simp only [↓kept_with] | with_reducible apply kept_ite_fst | with_reducible apply kept_ite_snd | with_reducible apply kept_foldl_fst | with_reducible apply kept_ite | with_reducible apply kept_foldl | with_reducible apply keptOut_next | with_reducible apply kept_store | intro _ | split

theorem kept_prfStore {s0 : State} (s : State) (o : ℕ) (v : ℕ) (hk : Kept s0 s) :
    Kept s0 (State.prfStore s o v).1 := by
  unfold State.prfStore
  try dsimp only
  repeat' first | with_reducible assumption | simp only [↓kept_with] | with_reducible apply kept_ite_fst | with_reducible apply kept_ite_snd | with_reducible apply kept_foldl_fst | with_reducible apply kept_ite | with_reducible apply kept_foldl | with_reducible apply keptOut_next | with_reducible apply kept_limitStore | with_reducible apply kept_store | intro _ | split

theorem kept_toneStore {s0 : State} (s : State) (c : ℕ) (o : ℕ) (v : ℕ) (hk : Kept s0 s) :
    Kept s0 (State.toneStore s c o v).1 := by
  unfold State.toneStore
  try dsimp only
  repeat' first | with_reducible assumption | simp only [↓kept_with] | with_reducible apply kept_ite_fst | with_reducible apply kept_ite_snd | with_reducible apply kept_foldl_fst | with_reducible apply kept_ite | with_reducible apply kept_foldl | with_reducible apply keptOut_next | with_reducible apply kept_store | intro _ | split

theorem kept_faultStore {s0 : State} (s : State) (n : ℕ) (v : ℕ) (hk : Kept s0 s) :
    Kept s0 (State.faultStore s n v).1 := by
  unfold State.faultStore
  try dsimp only
  repeat' first | with_reducible assumption | simp only [↓kept_with] | with_reducible apply kept_ite_fst | with_reducible apply kept_ite_snd | with_reducible apply kept_foldl_fst | with_reducible apply kept_ite | with_reducible apply kept_foldl | with_reducible apply keptOut_next | with_reducible apply kept_safRefresh | with_reducible apply kept_store | intro _ | split

theorem kept_srcStore {s0 : State} (s : State) (n : ℕ) (v : ℕ) (hk : Kept s0 s) :
    Kept s0 (State.srcStore s n v).1 := by
  unfold State.srcStore
  try dsimp only
  repeat' first | with_reducible assumption | simp only [↓kept_with] | with_reducible apply kept_ite_fst | with_reducible apply kept_ite_snd | with_reducible apply kept_foldl_fst | with_reducible apply kept_ite | with_reducible apply kept_foldl | with_reducible apply keptOut_next | with_reducible apply kept_store | intro _ | split

theorem kept_chanStore {s0 : State} (s : State) (c : ℕ) (v : ℕ) (hk : Kept s0 s) :
    Kept s0 (State.chanStore s c v).1 := by
  unfold State.chanStore
  try dsimp only
  repeat' first | with_reducible assumption | simp only [↓kept_with] | with_reducible apply kept_ite_fst | with_reducible apply kept_ite_snd | with_reducible apply kept_foldl_fst | with_reducible apply kept_ite | with_reducible apply kept_foldl | with_reducible apply keptOut_next | with_reducible apply kept_store | intro _ | split

theorem kept_sgfStore {s0 : State} (s : State) (o : ℕ) (v : ℕ) (hk : Kept s0 s) :
    Kept s0 (State.sgfStore s o v).1 := by
  unfold State.sgfStore
  try dsimp only
  repeat' first | with_reducible assumption | simp only [↓kept_with] | with_reducible apply kept_ite_fst | with_reducible apply kept_ite_snd | with_reducible apply kept_foldl_fst | with_reducible apply kept_ite | with_reducible apply kept_foldl | with_reducible apply keptOut_next | with_reducible apply kept_chanStore | with_reducible apply kept_srcStore | with_reducible apply kept_store | intro _ | split

theorem kept_windowWrite {s0 : State} (s : State) (addr : ℕ) (v : ℕ) (hk : Kept s0 s) :
    Kept s0 (State.windowWrite s addr v).1 := by
  unfold State.windowWrite
  try dsimp only
  repeat' first | with_reducible assumption | simp only [↓kept_with] | with_reducible apply kept_ite_fst | with_reducible apply kept_ite_snd | with_reducible apply kept_foldl_fst | with_reducible apply kept_ite | with_reducible apply kept_foldl | with_reducible apply keptOut_next | with_reducible apply kept_Wrote_flag | with_reducible apply kept_ctxStore | with_reducible apply kept_fabricWrite | with_reducible apply kept_faultStore | with_reducible apply kept_lpaReject | with_reducible apply kept_prfReject | with_reducible apply kept_prfStore | with_reducible apply kept_progStore | with_reducible apply kept_safReject | with_reducible apply kept_sgfReject | with_reducible apply kept_sgfStore | with_reducible apply kept_toneStore | intro _ | split

theorem kept_dmaWord {s0 : State} (s : State) (addr : ℕ) (v : ℕ) (hk : Kept s0 s) :
    Kept s0 (State.dmaWord s addr v).1 := by
  unfold State.dmaWord
  try dsimp only
  repeat' first | with_reducible assumption | simp only [↓kept_with] | with_reducible apply kept_ite_fst | with_reducible apply kept_ite_snd | with_reducible apply kept_foldl_fst | with_reducible apply kept_ite | with_reducible apply kept_foldl | with_reducible apply keptOut_next | with_reducible apply kept_windowWrite | intro _ | split

theorem kept_dmaWords {s0 : State} (s : State) (addr : ℕ) (a : List DWord) (hk : Kept s0 s) :
    Kept s0 (State.dmaWords s addr a).1 := by
  induction a generalizing s addr with
  | nil => exact hk
  | cons w t ih => exact ih _ _ (kept_dmaWord _ _ _ hk)

theorem kept_execTableDma {s0 : State} (id : ℕ) (read : HostRead (List DWord)) (ecc : Option EccHit) (s : State) (hk : Kept s0 s) :
    KeptOut s0 (execTableDma id read ecc s) := by
  unfold execTableDma
  repeat' first | (simp +contextual (maxDischargeDepth := 99) only [implies_true, ↓kept_ite, ↓keptOut_next, ↓kept_dmaWords, ↓kept_done, ↓kept_eccHit, ↓kept_poisoned, ↓kept_toHost, ↓kept_withOp, hk]; done) | split

theorem kept_execTelemetryCfgCreate {s0 : State} (id : ℕ) (s : State) (hk : Kept s0 s) :
    KeptOut s0 (execTelemetryCfgCreate id s) := by
  unfold execTelemetryCfgCreate
  repeat' first | (simp +contextual (maxDischargeDepth := 99) only [implies_true, ↓kept_ite, ↓kept_with, ↓keptOut_next, ↓kept_done, ↓kept_withOp, hk]; done) | split

theorem kept_execTelemetryCfgRemove {s0 : State} (id : ℕ) (s : State) (hk : Kept s0 s) :
    KeptOut s0 (execTelemetryCfgRemove id s) := by
  unfold execTelemetryCfgRemove
  try dsimp only
  repeat' first | with_reducible assumption | simp only [↓kept_with] | with_reducible apply kept_ite_fst | with_reducible apply kept_ite_snd | with_reducible apply kept_foldl_fst | with_reducible apply kept_ite | with_reducible apply kept_foldl | with_reducible apply keptOut_next | with_reducible apply kept_done | with_reducible apply kept_withOp | intro _ | split

end Sys2Proof.Machine
end

