-- ==== Sys2Proof/Laws/KeptRegWrite.lean ====
section
/-! SUPPORT. What the operations and commands of Machine/RegWrite.lean keep (Kept). -/
namespace Sys2Proof.Machine

theorem kept_reject {s0 : State} (s : State) (die : ℕ) (addr : ℕ) (hk : Kept s0 s) :
    Kept s0 (State.reject s die addr) := by
  unfold State.reject
  repeat' first | (simp +contextual (maxDischargeDepth := 99) only [↓kept_drvReject, ↓kept_hptReject, ↓kept_lpaReject, ↓kept_merReject, ↓kept_plnReject, ↓kept_prfReject, ↓kept_pwrReject, ↓kept_safReject, ↓kept_secReject, ↓kept_sgfReject, ↓kept_wr, hk]; done) | split

theorem kept_setField {s0 : State} (s : State) (r : RegRow) (i : ℕ) (j : ℕ) (k : ℕ) (v : ℕ) (hk : Kept s0 s) :
    Kept s0 (State.setField s r i j k v) := by
  unfold State.setField
  repeat' first | (simp +contextual (maxDischargeDepth := 99) only [implies_true, ↓kept_ite, ↓kept_foldl, ↓kept_with, ↓kept_accrue, ↓kept_armDark, ↓kept_compare, ↓kept_freezePhase, ↓kept_markSuspended, ↓kept_pmcAccrue, ↓kept_setClk10, ↓kept_setSlew, ↓kept_setTimer, ↓kept_tamperRefresh, ↓kept_wr, ↓kept_wrF, hk]; done) | split

theorem kept_clearField {s0 : State} (s : State) (r : RegRow) (addr : ℕ) (i : ℕ) (j : ℕ) (k : ℕ) (v : ℕ) (hk : Kept s0 s) :
    Kept s0 (State.clearField s r addr i j k v) := by
  unfold State.clearField
  repeat' first | (simp +contextual (maxDischargeDepth := 99) only [↓kept_ite, ↓kept_clearRegs, ↓kept_ovfSum, ↓kept_secReject, ↓kept_wr, hk]; done) | split

theorem kept_fieldWrite {s0 : State} (s : State) (r : RegRow) (die : ℕ) (addr : ℕ) (i : ℕ) (j : ℕ) (k : ℕ) (w : ℕ) (hk : Kept s0 s) :
    Kept s0 (State.fieldWrite s r die addr i j k w) := by
  unfold State.fieldWrite
  repeat' first | (simp +contextual (maxDischargeDepth := 99) only [↓kept_ite, ↓kept_clearField, ↓kept_reject, ↓kept_setField, hk]; done) | split

theorem kept_regWrite {s0 : State} (s : State) (die : ℕ) (addr : ℕ) (w : ℕ) (hk : Kept s0 s) :
    Kept s0 (State.regWrite s die addr w) := by
  unfold State.regWrite
  try dsimp only
  repeat' first | with_reducible assumption | simp only [↓kept_with] | with_reducible apply kept_ite_fst | with_reducible apply kept_ite_snd | with_reducible apply kept_foldl_fst | with_reducible apply kept_ite | with_reducible apply kept_foldl | with_reducible apply keptOut_next | with_reducible apply kept_fieldWrite | intro _ | split

theorem kept_bar0Write {s0 : State} (s : State) (die : ℕ) (a : ℕ) (v : ℕ) (hk : Kept s0 s) :
    Kept s0 (State.bar0Write s die a v) := by
  unfold State.bar0Write
  repeat' first | (simp +contextual (maxDischargeDepth := 99) only [implies_true, ↓kept_ite, ↓kept_regWrite, ↓kept_store, ↓kept_viaBar0, ↓kept_windowWrite, hk]; done) | split

theorem kept_bar2Write {s0 : State} (s : State) (die : ℕ) (a : ℕ) (v : ℕ) (hk : Kept s0 s) :
    Kept s0 (State.bar2Write s die a v) := by
  unfold State.bar2Write
  repeat' first | (simp +contextual (maxDischargeDepth := 99) only [↓kept_cqDoorbell, ↓kept_sqDoorbell, ↓kept_tqDoorbell, hk]; done) | split

theorem kept_bar4Write {s0 : State} (s : State) (die : ℕ) (a : ℕ) (v : ℕ) (hk : Kept s0 s) :
    Kept s0 (State.bar4Write s die a v) := by
  unfold State.bar4Write
  repeat' first | (simp +contextual (maxDischargeDepth := 99) only [↓kept_ite, ↓kept_flushVecs, ↓kept_store, hk]; done) | split

theorem kept_cfgWrite {s0 : State} (s : State) (die : ℕ) (o : ℕ) (v : ℕ) (hk : Kept s0 s) :
    Kept s0 (State.cfgWrite s die o v) := by
  unfold State.cfgWrite
  repeat' first | (simp +contextual (maxDischargeDepth := 99) only [↓kept_ite, ↓kept_flushVecs, ↓kept_store, hk]; done) | split

theorem kept_writeWords {s0 : State} (s : State) (die : ℕ) (space : Space) (be : BitVec 4) (a : ℕ) (a2 : List Word) (hk : Kept s0 s) :
    Kept s0 (State.writeWords s die space be a a2) := by
  induction a2 generalizing s a with
  | nil => exact hk
  | cons v t ih =>
    refine ih _ _ ?_
    cases space
    · exact kept_bar0Write _ _ _ _ hk
    · exact kept_bar2Write _ _ _ _ hk
    · exact kept_ite hk (kept_bar4Write _ _ _ _ hk)
    · exact kept_cfgWrite _ _ _ _ hk

theorem kept_execRegisterWrite {s0 : State} (die : Fin 2) (target : HostAddr) (be : BitVec 4) (values : List Word) (s : State) (hk : Kept s0 s) :
    KeptOut s0 (execRegisterWrite die target be values s) := by
  unfold execRegisterWrite
  repeat' first | (simp +contextual (maxDischargeDepth := 99) only [↓kept_ite, ↓keptOut_next, ↓kept_hptError, ↓kept_writeWords, hk]; done) | split

end Sys2Proof.Machine
end

