-- ==== Sys2Proof/Laws/KeptRead.lean ====
section
/-! SUPPORT. What the operations and commands of Machine/Read.lean keep (Kept). -/
namespace Sys2Proof.Machine

theorem kept_bar0Read {s0 : State} (s : State) (die : ℕ) (requester : ℕ) (a : ℕ) (hk : Kept s0 s) :
    Kept s0 (State.bar0Read s die requester a) := by
  unfold State.bar0Read
  repeat' first | (simp +contextual (maxDischargeDepth := 99) only [↓kept_challenge, ↓kept_draw, ↓kept_emit, ↓kept_readIvhv, ↓kept_setShadow, hk]; done) | split

theorem kept_readOne {s0 : State} (s : State) (die : ℕ) (requester : ℕ) (space : Space) (a : ℕ) (hk : Kept s0 s) :
    Kept s0 (State.readOne s die requester space a) := by
  unfold State.readOne
  repeat' first | (simp +contextual (maxDischargeDepth := 99) only [↓kept_ite, ↓kept_bar0Read, ↓kept_emit, hk]; done) | split

theorem kept_readWords {s0 : State} (s : State) (die : ℕ) (requester : ℕ) (space : Space) (a : ℕ) (a2 : ℕ) (hk : Kept s0 s) :
    Kept s0 (State.readWords s die requester space a a2) := by
  induction a2 generalizing s a with
  | zero => exact hk
  | succ n ih => exact ih _ _ (kept_readOne _ _ _ _ _ hk)

theorem kept_execSnapshotRead {s0 : State} (die : Fin 2) (requester : Fin 3) (target : HostSpan) (s : State) (hk : Kept s0 s) :
    KeptOut s0 (execSnapshotRead die requester target s) := by
  unfold execSnapshotRead
  repeat' first | (simp +contextual (maxDischargeDepth := 99) only [↓kept_with, ↓keptOut_next, ↓kept_readWords, hk]; done) | split

end Sys2Proof.Machine
end

