-- ==== Sys2Proof/Tests/Slice0.lean ====
section
/-! SUPPORT. Tests: a command that each check of WellFormed refuses, and for each statement a small state that meets its
hypotheses. Expected values come from the rules of spec/ that the statements name. -/
namespace Sys2Proof.Tests
open Sys2Proof.Machine
set_option Elab.async false
noncomputable section

/-! ### Well-formed commands: a term that each check refuses -/

theorem test_wf_descriptorAccept : (Instr.descriptorAccept 0 ⟨some [1], false⟩).wf = false := by decide

theorem test_wf_tableDma : (Instr.tableDma 0 ⟨List.replicate 393217 0, false⟩ none).wf = false := by
  simp only [Instr.wf, List.length_replicate]; decide

theorem test_wf_registerWrite : (Instr.registerWrite 0 ⟨.bar0, 2⟩ 15 [0]).wf = false ∧
    (Instr.registerWrite 0 ⟨.bar0, 0x3FFFFFC⟩ 15 [0, 0]).wf = false ∧ (Instr.registerWrite 0 ⟨.bar2, 0x40000⟩ 15 [0]).wf = false ∧
    (Instr.registerWrite 0 ⟨.bar4, 0x10000⟩ 15 [0]).wf = false ∧ (Instr.registerWrite 0 ⟨.config, 0x1000⟩ 15 [0]).wf = false ∧
    (Instr.registerWrite 0 ⟨.bar0, 4⟩ 15 []).wf = false := by decide

theorem test_wf_fabricTableWrite : (Instr.fabricTableWrite 0 0x3000002 0).wf = false ∧ (Instr.fabricTableWrite 0 0x2FFFFFC 0).wf = false ∧
    (Instr.fabricTableWrite 0 0x3048000 0).wf = false := by decide

theorem test_wf_planCheck : (Instr.planCheck 0 ⟨[1], false, false⟩ none).wf = false := by decide

theorem test_wf_planCheck_long : (Instr.planCheck 0 ⟨List.replicate 0x100008 0, false, false⟩ none).wf = false := by
  simp only [Instr.wf, List.length_replicate]; decide

theorem test_wf_verifySample : (Instr.verifySample [(3, 1), (3, 2)]).wf = false := by decide

theorem test_wf_orbitLoad : (Instr.orbitLoad 0 ⟨[1], false⟩).wf = false := by decide

theorem test_wf_orbitLoad_long : (Instr.orbitLoad 0 ⟨List.replicate 4104 0, false⟩).wf = false := by
  simp only [Instr.wf, List.length_replicate]; decide

theorem test_wf_contexts : (Instr.ctxWrite 0 ⟨[1], false⟩).wf = false ∧ (Instr.activate 0 ⟨[1], false⟩).wf = false ∧
    (Instr.deactivate 0 ⟨[1], false⟩).wf = false ∧ (Instr.setClass 0 ⟨[1], false⟩).wf = false := by decide

theorem test_wf_tempConversion : (Instr.tempConversion [(0, 1), (0, 2)] none).wf = false := by decide

theorem test_wf_almanac : (Instr.importRecs 0 ⟨[1], false⟩).wf = false ∧ (Instr.curveWrite 0 ⟨[1], false⟩ true true).wf = false := by decide

theorem test_wf_stamps : (Instr.frameReceive 0 [] true ⟨0, 1000000000, 0⟩).wf = false ∧ (Instr.txComplete 0 ⟨0, 1000000000, 0⟩).wf = false ∧
    (Instr.ppsInEdge ⟨0, 1000000000, 0⟩).wf = false ∧ (Instr.ppsInEdge ⟨0, 0, 1⟩).wf = false := by decide

theorem test_wf_busAccess : (Instr.busAccess 0 0 [⟨3, true, 0, 1⟩, ⟨3, false, 0, 1⟩]).wf = false := by decide

theorem test_wf_fwWrite : (Instr.fwWrite 0 ⟨List.replicate 0x100001 0, false⟩).wf = false := by
  simp only [Instr.wf, List.length_replicate]; decide

theorem test_wf_dawn : (Instr.vaonPowerOn ⟨true, true, 0, 0, 0, true, true, []⟩).wf = false ∧
    (Instr.railRetry ⟨true, true, 0, 0, 0, true, true, []⟩).wf = false ∧ (Instr.rstNRelease ⟨true, true, 0, 0, 0, true, true, []⟩).wf = false := by
  decide

theorem test_wf_pmbus : (Instr.pmbusPoll [⟨3, true, 0, 0⟩, ⟨3, true, 1, 0⟩] true).wf = false ∧ (Instr.pmbAlert [0]).wf = false := by decide

theorem test_wf_fastSample : (Instr.fastSample [(3, 1), (3, 2)] []).wf = false ∧ (Instr.fastSample [] [(3, 5), (3, 5)]).wf = false := by
  decide

theorem test_wf_snapshotRead : (Instr.snapshotRead 0 0 ⟨.bar0, 1, 1, 0⟩).wf = false ∧ (Instr.snapshotRead 0 0 ⟨.bar0, 0, 0, 0⟩).wf = false ∧
    (Instr.snapshotRead 0 0 ⟨.bar0, 0, 1, 3276800⟩).wf = false := by decide

theorem test_wf_fineSlotEnd : (Instr.fineSlotEnd 0 0 (List.replicate 2001 0)).wf = false := by
  simp only [Instr.wf, List.length_replicate]; decide

theorem test_wf_admits : (Instr.registerWrite 0 ⟨.bar0, 0x100004⟩ 15 [0]).wf = true ∧ (Instr.orbitLoad 0 ⟨[], false⟩).wf = true := by decide

/-! ### Witnesses: a state and operands that meet the hypotheses of each statement, and what the command gives there -/

/-- The state that a command answers. -/
def nextOf (o : Host.Outcome State Fault Refusal) : State := match o with | .next t => t | _ => State.reset

/-- A module that has completed its Dawn, with die A active, MSI-X enabled and vector 0 of die A not masked. -/
def up : State := { (State.reset.wr HPT_STATUS.READY 1).wr HPT_STATUS.ACTIVE 1 0 with
  mem := [(0x400000C, 0x00#8), (0x4100053, 0x80#8)] }

/-- A descriptor in execution: its number, ring 0, opcode, flags, TAG 7 and the bytes from offset 8. -/
def ds (id op flags : Nat) (body : List Byte) : Desc :=
  { id := id, ring := 0, op := op, flags := flags, tag := 7, acc := 5, bytes := leBytes 8 (op + 256 * flags + 65536 * 7) ++ body,
    cq := 0, lost := false, dom := 0 }

/-- A state in which a descriptor is in execution. -/
def run1 (s : State) (d : Desc) : State := { s with hpt := { s.hpt with accepted := s.hpt.accepted ++ [d] } }

/-! #### Host Port -/

def rings : State := (((up.wr HPT_SQ_CFG.ENABLE 1 3).wr HPT_CQ_CFG.ENABLE 1 3).wr HPT_TQ_CFG.ENABLE 1 3).wr HPT_CTL.ENABLE 1

theorem witness_doorbellSqTail : rings.isActive 0 = true ∧ rings.d3hot 0 = false ∧ rings.on HPT_SQ_CFG.ENABLE 3 = true ∧
    (15#32).toNat % 2 ^ 16 < 2 ^ rings.rd HPT_SQ_CFG.SIZE_LOG2 3 ∧
    span (2 ^ rings.rd HPT_SQ_CFG.SIZE_LOG2 3) (rings.rd HPT_SQ_HEAD.HEAD 3) (rings.rd HPT_SQ_TAIL.TAIL 3) ≤
      span (2 ^ rings.rd HPT_SQ_CFG.SIZE_LOG2 3) (rings.rd HPT_SQ_HEAD.HEAD 3) 15 ∧
    (nextOf (exec (.doorbellSqTail 0 3 15#32) rings)).rd HPT_SQ_TAIL.TAIL 3 = 15 := by decide +kernel

theorem witness_doorbellSqTail_range : rings.isActive 0 = true ∧ 2 ^ rings.rd HPT_SQ_CFG.SIZE_LOG2 3 ≤ (16#32).toNat % 2 ^ 16 ∧
    (nextOf (exec (.doorbellSqTail 0 3 16#32) rings)).on HPT_SQ_STATUS.DB_RANGE 3 = true ∧
    (nextOf (exec (.doorbellSqTail 0 3 16#32) rings)).on HPT_ERR_STATUS.DB_RANGE 0 = true := by decide +kernel

theorem witness_doorbellCqHead : (rings.wr HPT_CQ_TAIL.TAIL 2 3).isActive 0 = true ∧
    span 16 0 2 ≤ span 16 0 ((rings.wr HPT_CQ_TAIL.TAIL 2 3).rd HPT_CQ_TAIL.TAIL 3) ∧
    (nextOf (exec (.doorbellCqHead 0 3 2#32) (rings.wr HPT_CQ_TAIL.TAIL 2 3))).rd HPT_CQ_HEAD.HEAD 3 = 2 := by decide +kernel
theorem witness_doorbellCqHead_range : rings.isActive 0 = true ∧
    span 16 (rings.rd HPT_CQ_HEAD.HEAD 3) (rings.rd HPT_CQ_TAIL.TAIL 3) < span 16 (rings.rd HPT_CQ_HEAD.HEAD 3) 1 ∧
    (nextOf (exec (.doorbellCqHead 0 3 1#32) rings)).on HPT_CQ_STATUS.DB_RANGE 3 = true := by decide +kernel

theorem witness_doorbellTqHead : (rings.wr HPT_TQ_TAIL.TAIL 2 3).on HPT_TQ_CFG.ENABLE 3 = true ∧
    span 16 0 2 ≤ span 16 0 ((rings.wr HPT_TQ_TAIL.TAIL 2 3).rd HPT_TQ_TAIL.TAIL 3) ∧
    (nextOf (exec (.doorbellTqHead 0 3 2#32) (rings.wr HPT_TQ_TAIL.TAIL 2 3))).rd HPT_TQ_HEAD.HEAD 3 = 2 := by decide +kernel

theorem witness_doorbellTqHead_range : up.on HPT_TQ_CFG.ENABLE 3 = false ∧ up.isActive 0 = true ∧
    (nextOf (exec (.doorbellTqHead 0 3 2#32) up)).on HPT_TQ_STATUS.DB_RANGE 3 = true := by decide +kernel

/-- Die A in D3hot: a doorbell does nothing. -/
theorem witness_doorbell_d3hot : (rings.storeB 0x4100044 3).d3hot 0 = true ∧
    (nextOf (exec (.doorbellSqTail 0 3 15#32) (rings.storeB 0x4100044 3))).rd HPT_SQ_TAIL.TAIL 3 = 0 := by decide +kernel

theorem witness_doorbell_standby : up.d3hot 1 = false ∧ up.isActive 1 = false ∧ up.on HPT_STATUS.READY = true ∧
    (nextOf (exec (.doorbellTqHead 1 16 2#32) up)).on HPT_ERR_STATUS.DB_STANDBY 1 = true := by decide +kernel

/-- Three descriptors announced in ring 3 of 16, whose head stands at the last slot: one is asked for. -/
def announced : State := (rings.wr HPT_SQ_HEAD.HEAD 15 3).wr HPT_SQ_TAIL.TAIL 2 3

theorem witness_descriptorFetch : announced.fetchChoice = some 3 ∧ announced.readSlot = true ∧
    (nextOf (exec (.descriptorFetch 3) announced)).hpt.fetching = [(3, 1)] ∧
    (nextOf (exec (.descriptorFetch 3) announced)).rd HPT_SQ_HEAD.HEAD 3 = 0 := by decide +kernel

theorem witness_descriptorFetch_held : rings.fetchChoice ≠ some 3 ∧
    ({ announced with hpt := { announced.hpt with fetching := List.replicate 256 (9, 1) } } : State).readSlot = false := by
  decide +kernel

/-- A read for one descriptor of ring 3 is in flight. -/
def fetching3 : State := { rings with hpt := { rings.hpt with fetching := [(3, 1)] } }

/-- The 64 bytes of a descriptor with an opcode and no body. -/
def plain (op : Nat) : List Byte := leBytes 64 (op + 65536 * 9)

theorem witness_descriptorAccept : takeFirst (fun f => f.1 == 3) fetching3.hpt.fetching = some ((3, 1), []) ∧
    (plain opNop).length = 64 ∧ fetching3.hpt.fetched = [] ∧ fetching3.fenced 3 = false ∧
    fetching3.acceptStatus 3 (plain opNop) = stOK ∧
    (nextOf (exec (.descriptorAccept 3 ⟨some (plain opNop), false⟩) fetching3)).hpt.accepted.map (fun d => d.tag) = [9] := by
  decide +kernel

theorem witness_descriptorAccept_badOpcode : fetching3.acceptStatus 3 (plain 0x90) ≠ stOK ∧ field (plain 0x90) 0 1 = 0x90 ∧
    (nextOf (exec (.descriptorAccept 3 ⟨some (plain 0x90), false⟩) fetching3)).hpt.owed.map (fun c => (c.tag, c.status)) =
      [(9, stBadOpcode)] := by decide +kernel

theorem witness_descriptorAccept_badField : tenantMay (field (leBytes 64 (256 * 8)) 0 1) ≠ none ∧
    8 ≤ field (leBytes 64 (256 * 8)) 1 1 ∧ up.acceptStatus 3 (leBytes 64 (256 * 8)) = stBadField := by decide +kernel

theorem witness_descriptorAccept_denied : tenantMay (field (plain opOrbitLoad) 0 1) = some false ∧
    field (plain opOrbitLoad) 1 1 < 8 ∧ field (plain opOrbitLoad) 4 4 = 0 ∧
    (up.wr HPT_RING_DOMAIN.DOMAIN 2 3).rd HPT_RING_DOMAIN.DOMAIN 3 ≠ 0 ∧
    (up.wr HPT_RING_DOMAIN.DOMAIN 2 3).acceptStatus 3 (plain opOrbitLoad) = stDomainDenied := by decide +kernel

theorem witness_descriptorAccept_error : takeFirst (fun f => f.1 == 3) fetching3.hpt.fetching = some ((3, 1), []) ∧
    (nextOf (exec (.descriptorAccept 3 ⟨none, false⟩) fetching3)).on HPT_SQ_STATUS.ERROR 3 = true ∧
    (nextOf (exec (.descriptorAccept 3 ⟨some (plain opNop), true⟩) fetching3)).on HPT_ERR_STATUS.POISONED 0 = true := by
  decide +kernel

theorem witness_descriptorAccept_fenced : takeFirst (fun f => f.1 == 0) (run1 up (ds 4 opFence 0 [])).hpt.fetching = none ∧
    (run1 up (ds 4 opFence 0 [])).fenced 0 = true := by decide +kernel

theorem witness_nop : Runs (run1 up (ds 4 opNop 0 (List.replicate 56 0))) 4 opNop (ds 4 opNop 0 (List.replicate 56 0)) ∧
    zeros (ds 4 opNop 0 (List.replicate 56 0)).bytes 8 56 = true ∧
    ((nextOf (exec (.nop 4) (run1 up (ds 4 opNop 0 (List.replicate 56 0))))).hpt.owed.map fun c => (c.tag, c.status, c.acc, c.exe)) =
      [(7, stOK, 5, 5)] := by unfold Runs; decide +kernel

theorem witness_nop_bad : Runs (run1 up (ds 4 opNop 0 [0, 1])) 4 opNop (ds 4 opNop 0 [0, 1]) ∧
    zeros (ds 4 opNop 0 [0, 1]).bytes 8 56 = false ∧
    ((nextOf (exec (.nop 4) (run1 up (ds 4 opNop 0 [0, 1])))).hpt.owed.map fun c => c.status) = [stBadField] := by
  unfold Runs; decide +kernel

/-- A FENCE behind a NOP of the same ring. -/
def behind : State := run1 (run1 up (ds 3 opNop 0 [])) (ds 4 opFence 0 [])

theorem witness_fence : Runs (run1 up (ds 4 opFence 0 [])) 4 opFence (ds 4 opFence 0 []) ∧ zeros (ds 4 opFence 0 []).bytes 8 56 = true ∧
    (∀ x ∈ (run1 up (ds 4 opFence 0 [])).hpt.accepted, x.ring = 0 → 4 ≤ x.id) ∧ up.hpt.fetched = [] ∧
    ((nextOf (exec (.fence 4) (run1 up (ds 4 opFence 0 [])))).hpt.owed.map fun c => c.status) = [stOK] := by
  unfold Runs; decide +kernel

theorem witness_fence_bad : Runs (run1 up (ds 4 opFence 0 [1])) 4 opFence (ds 4 opFence 0 [1]) ∧
    zeros (ds 4 opFence 0 [1]).bytes 8 56 = false := by unfold Runs; decide +kernel

theorem witness_fence_waits : Runs behind 4 opFence (ds 4 opFence 0 []) ∧ ds 3 opNop 0 [] ∈ behind.hpt.accepted := by
  unfold Runs; decide +kernel

/-- A completion owed to ring 3, with its REPOST mark. -/
def owed (r : Option Nat) : State := { rings with hpt := { rings.hpt with owed :=
  [{ cq := 3, sq := 3, tag := 9, status := 2, flags := 0, result := 0, acc := 5, exe := 6, irq := false, repost := r }] } }

theorem witness_completionWrite : (owed none).on HPT_CQ_CFG.ENABLE 3 = true ∧ (owed none).cqFull 3 = false ∧
    (takeFirst (fun c : Compl => c.cq == 3) (owed none).hpt.owed).map (fun r => (r.1.repost, r.2)) = some (none, []) ∧
    (nextOf (exec (.completionWrite 3) (owed none))).rd HPT_CQ_SEQ.SEQ 3 = 1 ∧
    (nextOf (exec (.completionWrite 3) (owed none))).rd HPT_CQ_TAIL.TAIL 3 = 1 ∧
    (nextOf (exec (.completionWrite 3) (owed none))).rd HPT_CQ_TAIL.PHASE 3 = 1 ∧
    Out.msix 0 0 ∈ (nextOf (exec (.completionWrite 3) (owed none))).out := by decide +kernel

theorem witness_completionWrite_wrap :
    ((owed none).wr HPT_CQ_TAIL.TAIL 15 3).cqFull 3 = true ∧
    (((owed none).wr HPT_CQ_TAIL.TAIL 15 3).wr HPT_CQ_HEAD.HEAD 4 3).cqFull 3 = false ∧
    (nextOf (exec (.completionWrite 3) (((owed none).wr HPT_CQ_TAIL.TAIL 15 3).wr HPT_CQ_HEAD.HEAD 4 3))).rd
      HPT_CQ_TAIL.PHASE 3 = 0 := by decide +kernel

theorem witness_completionWrite_repost :
    (takeFirst (fun c : Compl => c.cq == 3) (owed (some 8)).hpt.owed).map (fun r => r.1.repost) = some (some 8) ∧
    (owed (some 8)).cqFull 3 = false ∧ (nextOf (exec (.completionWrite 3) (owed (some 8)))).rd HPT_CQ_SEQ.SEQ 3 = 0 := by
  decide +kernel

/-- A telemetry record formed for ring 3. -/
def formed3 : State := { rings with hpt := { rings.hpt with telq := [{ num := 0, tq := 3, type := 2, source := 1, stamp := 6, payload := [] }] } }

theorem witness_telemetryRecord :
    ((takeFirst (fun r : TelRec => r.tq == 3) (formed3.idleStreams 3).hpt.telq).isSome) = true ∧ formed3.on HPT_TQ_CFG.ENABLE 3 = true ∧
    formed3.tqFull 3 = false ∧ (nextOf (exec (.telemetryRecord 3) formed3)).rd HPT_TQ_TAIL.TAIL 3 = 1 ∧
    (nextOf (exec (.telemetryRecord 3) formed3)).hpt.telq = [] := by decide +kernel

theorem witness_telemetryRecord_full : (formed3.wr HPT_TQ_TAIL.TAIL 15 3).tqFull 3 = true ∧
    (nextOf (exec (.telemetryRecord 3) (formed3.wr HPT_TQ_TAIL.TAIL 15 3))).rd HPT_TQ_LOST.COUNT 3 = 1 ∧
    (nextOf (exec (.telemetryRecord 3) (formed3.wr HPT_TQ_TAIL.TAIL 15 3))).on HPT_ERR_STATUS.TQ_LOST 0 = true := by
  decide +kernel

/-- Two unsignalled entries of a ring, with a time limit of 5 µs. -/
def unsignalled : State := { (rings.wr HPT_CQ_COAL.COAL_TIME 5 3).wr HPT_TQ_COAL.COAL_TIME 5 3 with
  hpt := { rings.hpt with sig := [(3, ⟨2, 10⟩), (67, ⟨2, 10⟩)] } }

theorem witness_coalTimeExpiry : aget unsignalled.hpt.sig 3 = some ⟨2, 10⟩ ∧ unsignalled.rd HPT_CQ_COAL.COAL_TIME 3 ≠ 0 ∧
    aget unsignalled.hpt.sig 67 = some ⟨2, 10⟩ ∧ unsignalled.rd HPT_TQ_COAL.COAL_TIME 3 ≠ 0 ∧
    (nextOf (exec (.coalTimeExpiry false 3) unsignalled)).now = 110 ∧
    (nextOf (exec (.coalTimeExpiry true 3) unsignalled)).out = [.msix 0 0] := by decide +kernel

theorem witness_hostReset_active : rings.isActive 0 = true ∧ rings.isActive 1 = false ∧
    (nextOf (exec (.hotReset 0) rings)).on HPT_SQ_CFG.ENABLE 3 = false ∧
    (nextOf (exec (.hotReset 1) rings)).on HPT_SQ_CFG.ENABLE 3 = true ∧
    (nextOf (exec (.hotReset 1) rings)).rd HPT_HEADLESS_CNT.COUNT 1 = 1 := by decide +kernel

theorem witness_linkTrained : nget (up.wr PWR_STATUS.DAWN_STEP 9).pins.training 1 ≠ 0 ∧ nget up.pins.perst 1 = 0 ∧
    2 ≤ (up.wr PWR_STATUS.DAWN_STEP 9).rd PWR_STATUS.DAWN_STEP ∧
    (nextOf (exec (.linkTrained 1 4 5) (up.wr PWR_STATUS.DAWN_STEP 9))).rd HPT_STATUS.LINK_WIDTH 1 = 4 := by decide +kernel

theorem witness_hptCtlEnable : up.bar0 0 0x04 = .act ∧ (nextOf (exec (.hptCtlEnable 0 true) up)).rd HPT_STATUS.HEADLESS 0 = 0 ∧
    up.bar0 1 0x04 = .act ∧ (nextOf (exec (.hptCtlEnable 0 false) up)).rd HPT_CTL.ENABLE = 0 := by decide +kernel

theorem witness_sqEnable : (rings.wr HPT_SQ_CFG.CQ 3 5).bar0 0 (0x1008 + 0x40 * 5) = .act ∧
    (rings.wr HPT_SQ_CFG.CQ 3 5).on HPT_SQ_CFG.ENABLE 5 = false ∧
    (rings.wr HPT_SQ_CFG.CQ 3 5).on HPT_CQ_CFG.ENABLE 3 = true ∧
    (nextOf (exec (.sqEnable 0 5 true) (rings.wr HPT_SQ_CFG.CQ 3 5))).rd HPT_SQ_CFG.ENABLE 5 = 1 := by decide +kernel

theorem witness_sqEnable_refused : rings.bar0 0 (0x1008 + 0x40 * 5) = .act ∧ rings.on HPT_SQ_CFG.ENABLE 5 = false ∧
    rings.on HPT_CQ_CFG.ENABLE (rings.rd HPT_SQ_CFG.CQ 5) = false ∧
    (nextOf (exec (.sqEnable 0 5 true) rings)).rd HPT_STATUS.CFG_REJECT = 1 := by decide +kernel

theorem witness_sqEnable_off : rings.bar0 0 (0x1008 + 0x40 * 3) = .act ∧ rings.on HPT_SQ_CFG.ENABLE 3 = true ∧
    (nextOf (exec (.sqEnable 0 3 false) rings)).rd HPT_SQ_CFG.ENABLE 3 = 0 := by decide +kernel

theorem witness_cqEnable : rings.bar0 0 (0x2008 + 0x40 * 5) = .act ∧ rings.on HPT_CQ_CFG.ENABLE 5 = false ∧
    (nextOf (exec (.cqEnable 0 5 true) rings)).rd HPT_CQ_CFG.ENABLE 5 = 1 := by decide +kernel

theorem witness_cqEnable_refused : (rings.wr HPT_SQ_CFG.CQ 3 3).on HPT_CQ_CFG.ENABLE 3 = true ∧
    (rings.wr HPT_SQ_CFG.CQ 3 3).on HPT_SQ_CFG.ENABLE 3 = true ∧ (rings.wr HPT_SQ_CFG.CQ 3 3).rd HPT_SQ_CFG.CQ 3 = 3 ∧
    (nextOf (exec (.cqEnable 0 3 false) (rings.wr HPT_SQ_CFG.CQ 3 3))).rd HPT_STATUS.CFG_REJECT = 1 := by decide +kernel

theorem witness_tqEnable : rings.bar0 0 (0x3008 + 0x40 * 5) = .act ∧ rings.on HPT_TQ_CFG.ENABLE 5 = false ∧
    (nextOf (exec (.tqEnable 0 5 true) rings)).rd HPT_TQ_CFG.ENABLE 5 = 1 := by decide +kernel

theorem witness_cqEnable_off : rings.on HPT_CQ_CFG.ENABLE 3 = true ∧ rings.bar0 0 (0x2008 + 0x40 * 3) = .act ∧
    (∀ r : Fin 64, rings.on HPT_SQ_CFG.ENABLE r = true → rings.rd HPT_SQ_CFG.CQ r ≠ 3) ∧
    (nextOf (exec (.cqEnable 0 3 false) (owed none))).hpt.owed = [] ∧
    (nextOf (exec (.cqEnable 0 3 false) rings)).rd HPT_CQ_CFG.ENABLE 3 = 0 := by decide +kernel

theorem witness_tqEnable_off : rings.on HPT_TQ_CFG.ENABLE 3 = true ∧ rings.bar0 0 (0x3008 + 0x40 * 3) = .act ∧
    (nextOf (exec (.tqEnable 0 3 false) rings)).rd HPT_TQ_CFG.ENABLE 3 = 0 := by decide +kernel

/-! #### Registers, tables and TABLE_DMA -/

theorem witness_registerWrite_partial : (1#4 : BitVec 4) ≠ 0xF ∧
    (nextOf (exec (.registerWrite 0 ⟨.bar0, 0x20⟩ 1 [5]) up)).on HPT_ERR_STATUS.PARTIAL_WR 0 = true := by decide +kernel

theorem witness_registerWrite_live : up.bar0 0 0x1C = .act ∧
    (nextOf (exec (.registerWrite 0 ⟨.bar0, 0x1C⟩ 0xF [0x1234]) up)).rd HPT_ERR_VEC.VECTOR = 0x34 := by decide +kernel

theorem witness_registerWrite_classS : up.bar0 0 0x20 = .act ∧ up.on HPT_CTL.ENABLE = false ∧
    (nextOf (exec (.registerWrite 0 ⟨.bar0, 0x20⟩ 0xF [0x300]) up)).rd HPT_DMA_CFG.MAX_RD_OUT = 256 ∧
    (nextOf (exec (.registerWrite 0 ⟨.bar0, 0x20⟩ 0xF [0x300]) up)).rd HPT_DMA_CFG.RO_TELEM = 1 := by decide +kernel

theorem witness_registerWrite_enabled : (up.wr HPT_CTL.ENABLE 1).bar0 0 0x20 = .act ∧
    (up.wr HPT_CTL.ENABLE 1).on HPT_CTL.ENABLE = true ∧
    (nextOf (exec (.registerWrite 0 ⟨.bar0, 0x20⟩ 0xF [0x10]) (up.wr HPT_CTL.ENABLE 1))).rd HPT_STATUS.CFG_REJECT = 1 := by decide +kernel

theorem witness_registerWrite_range : 256 < (257#32).toNat % 512 ∧
    (nextOf (exec (.registerWrite 0 ⟨.bar0, 0x20⟩ 0xF [257]) up)).rd HPT_DMA_CFG.MAX_RD_OUT = 256 ∧
    (nextOf (exec (.registerWrite 0 ⟨.bar0, 0x20⟩ 0xF [257]) up)).rd HPT_STATUS.CFG_REJECT = 1 := by decide +kernel

theorem witness_registerWrite_bar2 : (1#4 : BitVec 4) ≠ 0xF ∨ ([5, 6] : List Word).length ≠ 1 ∧ up.errClear 0 = true ∧
    (nextOf (exec (.registerWrite 0 ⟨.bar2, BitVec.ofNat 32 (0x1000 * 3)⟩ 0xF [5, 6]) up)).rd HPT_ERR_INFO.RING 0 = 3 := by
  decide +kernel

theorem witness_registerWrite_two : (0x18#32).toNat + 4 < 2 ^ 32 ∧
    (nextOf (exec (.registerWrite 0 ⟨.bar0, 0x18⟩ 0xF [0, 7]) up)).rd HPT_ERR_VEC.VECTOR = 7 := by decide +kernel

theorem witness_registerWrite_bar4 : up.d3hot 0 = false ∧
    (nextOf (exec (.registerWrite 0 ⟨.bar4, 12⟩ 0xF [1]) up)).vecMasked 0 0 = true := by decide +kernel

theorem witness_registerWrite_d3hot : (3#32).toNat % 4 = 3 ∧
    (nextOf (exec (.registerWrite 0 ⟨.config, 0x44⟩ 0xF [3]) up)).d3hot 0 = true := by decide +kernel

theorem witness_registerWrite_ro : up.bar0 0 0x00 = .act := by decide +kernel

theorem witness_registerWrite_standby : aligned 0x100000 = true ∧ up.bar0 1 0x100000 = .standby ∧
    (nextOf (exec (.registerWrite 1 ⟨.bar0, 0x100000⟩ 0xF [1]) up)).on HPT_ERR_STATUS.STANDBY_WR 1 = true := by decide +kernel

/-- Channel 300 bears the gate 100 (CAP 2,000) of egress port 1,030, whose BLOCK_CODE is 1,000 and whose guard monitor is 5. -/
def fab : State :=
  (up.store (elemBase + 800) 8 (300 + 2 ^ 15 + 2 ^ 24 + 2 ^ 32 * 2000)).store (portBase + 16 * 1030) 12
    (1 + 2 ^ 32 * 100 + 2 ^ 48 * 5 + 2 ^ 64 * 1000)

theorem witness_fabricTableWrite : fab.bar0 0 (fmapBase + 8 * 7) = .act ∧ fab.on PLN_STATUS.ENABLED = false ∧
    (0x8002#32).toNat ≠ fab.load (fmapBase + 8 * 7) 4 ∧
    (nextOf (exec (.fabricTableWrite 0 (BitVec.ofNat 32 (fmapBase + 8 * 7)) 0x8002) fab)).load (fmapBase + 56) 4 = 0x8002 := by
  decide +kernel

theorem witness_fabricTableWrite_on : (fab.wr PLN_STATUS.ENABLED 1).on PLN_STATUS.ENABLED = true ∧
    (fab.wr PLN_STATUS.ENABLED 1).bar0 0 (fmapBase + 8 * 7) = .act ∧
    (nextOf (exec (.fabricTableWrite 0 (BitVec.ofNat 32 (fmapBase + 8 * 7)) 1) (fab.wr PLN_STATUS.ENABLED 1))).rd
      PLN_STATUS.CFG_REJECT = 1 := by decide +kernel

theorem witness_darkSet : fab.bar0 0 (portBase + 16 * 1030) = .act ∧ (fab.port 1030).dark = false ∧ fab.gateCh 1030 = some 300 ∧
    (nextOf (exec (.darkSet 0 1030) fab)).chRd DRV_CH_GATEW.DARK 300 = 1 := by decide +kernel

/-- The same port dark. -/
def dark : State := nextOf (exec (.darkSet 0 1030) fab)

theorem witness_darkClear : dark.bar0 0 (portBase + 16 * 1030) = .act ∧ (dark.port 1030).dark = true ∧ dark.gateCh 1030 = some 300 ∧
    (nextOf (exec (.darkClear 0 1030 0) dark)).chRd DRV_CH_GATEW.DARK 300 = 0 ∧
    (nextOf (exec (.darkClear 0 1030 0) dark)).chRd DRV_CH_GATEW.DKHOLD 300 = 1 := by decide +kernel

theorem witness_darkClear_refused : (3 : Fin 17) ≠ 0 ∧ (fab.port 1030).dark = false ∧
    (nextOf (exec (.darkClear 0 1030 3) dark)).rd PLN_STATUS.CFG_REJECT = 1 ∧
    ((nextOf (exec (.darkClear 0 1030 3) dark)).port 1030).dark = true := by decide +kernel

theorem witness_validate : fab.bar0 0 0x10F000 = .act ∧ fab.on PLN_STATUS.ENABLED = false ∧ fab.on PLN_FMAP_STATUS.BUSY = false ∧
    (nextOf (exec (.validate 0) fab)).rd PLN_FMAP_STATUS.BUSY = 1 := by decide +kernel

theorem witness_validate_refused : (fab.wr PLN_STATUS.ENABLED 1).bar0 0 0x10F000 = .act ∧
    (nextOf (exec (.validate 0) (fab.wr PLN_STATUS.ENABLED 1))).rd PLN_STATUS.CFG_REJECT = 1 := by decide +kernel

/-- The gate lights its own egress port, and a validation runs; and one that fails, since the gate's monitor is on another tile. -/
def checking : State := (fab.store (fmapBase + 800) 2 (2 * 2 ^ 14 + 1030)).wr PLN_FMAP_STATUS.BUSY 1
@[inherit_doc checking] def failing : State := checking.store (portBase + 16 * 1030 + 6) 2 200

theorem witness_validationDone : checking.on PLN_FMAP_STATUS.BUSY = true ∧ checking.firstFmapError = none ∧
    (nextOf (exec .validationDone checking)).rd PLN_FMAP_STATUS.VALID = 1 := by decide +kernel

theorem witness_validationDone_error : failing.on PLN_FMAP_STATUS.BUSY = true ∧ failing.firstFmapError = some (1, 1030, 6) ∧
    (nextOf (exec .validationDone failing)).rd PLN_FMAP_STATUS.ERROR = 6 := by decide +kernel

/-- The sets of the last commit are still being joined. -/
def crossed : State := { fab with pln := { fab.pln with crossing := [(0, [1030, 1031])], crossingOld := [(0, [1040])], crossingDue := some 80 } }

theorem witness_crossingSetDone : crossed.pln.crossingDue = some 80 ∧
    (nextOf (exec .crossingSetDone crossed)).rd PLN_REACH_CNT.COUNT 0 = 2 := by decide +kernel

/-- A TABLE_DMA descriptor: host address, window offset, bytes and direction. -/
def dma (addr off len dir : Nat) : Desc :=
  ds 4 opTableDma 0 (leBytes 8 addr ++ leBytes 4 off ++ leBytes 4 len ++ leBytes 1 dir ++ List.replicate 39 0)

theorem witness_tableDma_bad : Runs (run1 fab (dma 0 4 8 0)) 4 opTableDma (dma 0 4 8 0) ∧ dmaBodyOk (dma 0 4 8 0) = false ∧
    ((nextOf (exec (.tableDma 4 ⟨[], false⟩ none) (run1 fab (dma 0 4 8 0)))).hpt.owed.map fun c => c.status) = [stBadField] := by
  unfold Runs; decide +kernel

/-- Ring set 0 belongs to tenant 3. -/
def tenant : State := run1 fab { dma 0x1000 elemBase 16 0 with dom := 3 }

theorem witness_tableDma_denied : Runs tenant 4 opTableDma { dma 0x1000 elemBase 16 0 with dom := 3 } ∧
    dmaBodyOk (dma 0x1000 elemBase 16 0) = true ∧ tenant.tenantMay 3 (elemBase + 8 * 1) true = false ∧
    ((nextOf (exec (.tableDma 4 ⟨[], false⟩ none) tenant)).hpt.owed.map fun c => c.status) = [stDomainDenied] := by
  unfold Runs; decide +kernel

theorem witness_tableDma_read : Runs (run1 fab (dma 0x1000 (elemBase + 800) 8 1)) 4 opTableDma (dma 0x1000 (elemBase + 800) 8 1) ∧
    dmaBodyOk (dma 0x1000 (elemBase + 800) 8 1) = true ∧ dmaIn (dma 0x1000 (elemBase + 800) 8 1) = false ∧
    Out.host 0 0x1000 false (leBytes 8 (300 + 2 ^ 15 + 2 ^ 24 + 2 ^ 32 * 2000)) ∈
      (nextOf (exec (.tableDma 4 ⟨[], false⟩ none) (run1 fab (dma 0x1000 (elemBase + 800) 8 1)))).out := by
  unfold Runs; decide +kernel

theorem witness_tableDma_write : Runs (run1 fab (dma 0x1000 fmapBase 16 0)) 4 opTableDma (dma 0x1000 fmapBase 16 0) ∧
    dmaBodyOk (dma 0x1000 fmapBase 16 0) = true ∧ dmaIn (dma 0x1000 fmapBase 16 0) = true ∧
    dmaLen (dma 0x1000 fmapBase 16 0) / 8 = 2 ∧
    (nextOf (exec (.tableDma 4 ⟨[0x1111#64, 0x2222#64], false⟩ none) (run1 fab (dma 0x1000 fmapBase 16 0)))).load (fmapBase + 8) 4 = 0x2222 ∧
    ((nextOf (exec (.tableDma 4 ⟨[0x1111#64], false⟩ none) (run1 fab (dma 0x1000 fmapBase 16 0)))).hpt.owed.map fun c =>
      (c.status, c.result)) = [(stDmaError, 1)] := by unfold Runs; decide +kernel

/-- A TELEMETRY_CFG descriptor for monitors 8 to 15 on ring 3. -/
def telCfg (op num : Nat) : Desc :=
  ds 4 opTelemetryCfg 0 ([BitVec.ofNat 8 op, 3, 2, BitVec.ofNat 8 num] ++ leBytes 2 8 ++ leBytes 2 8 ++ List.replicate 48 0)

/-- Some bindings of domain 0 are in use. -/
def binds (n : Nat) (d : Desc) : State := { run1 up d with hpt := { (run1 up d).hpt with
  bindings := (List.range n).map fun k => ⟨k, 0, 3, 2, 8, 8, 0⟩ } }

theorem witness_telemetryCfgCreate : Runs (binds 2 (telCfg 1 0)) 4 opTelemetryCfg (telCfg 1 0) ∧
    (telCfg 1 0).fld 12 2 + (telCfg 1 0).fld 14 2 ≤ telSources ((telCfg 1 0).fld 10 1) ∧
    telPeriodOk ((telCfg 1 0).fld 10 1) ((telCfg 1 0).fld 16 4) = true ∧ zeros (telCfg 1 0).bytes 20 44 = true ∧
    ((nextOf (exec (.telemetryCfgCreate 4) (binds 2 (telCfg 1 0)))).hpt.owed.map fun c => (c.status, c.result)) = [(stOK, 2)] := by
  unfold Runs; decide +kernel

theorem witness_telemetryCfgCreate_full : Runs (binds 64 (telCfg 1 0)) 4 opTelemetryCfg (telCfg 1 0) ∧
    (∀ m, m < 64 → ∃ b ∈ (binds 64 (telCfg 1 0)).hpt.bindings, b.num = m) ∧
    ((nextOf (exec (.telemetryCfgCreate 4) (binds 64 (telCfg 1 0)))).hpt.owed.map fun c => c.status) = [stNoResource] := by
  unfold Runs; decide +kernel

theorem witness_telemetryCfgRemove : Runs (binds 2 (telCfg 0 1)) 4 opTelemetryCfg (telCfg 0 1) ∧ (telCfg 0 1).fld 8 1 = 0 ∧
    (binds 2 (telCfg 0 1)).hpt.bindings.find? (fun b => b.num == (telCfg 0 1).fld 11 1) = some ⟨1, 0, 3, 2, 8, 8, 0⟩ ∧
    ((nextOf (exec (.telemetryCfgRemove 4) (binds 2 (telCfg 0 1)))).hpt.bindings.map fun b => b.num) = [0] := by
  unfold Runs; decide +kernel

theorem witness_telemetryCfgRemove_denied :
    Runs (binds 2 { telCfg 0 1 with dom := 3 }) 4 opTelemetryCfg { telCfg 0 1 with dom := 3 } ∧
    ((nextOf (exec (.telemetryCfgRemove 4) (binds 2 { telCfg 0 1 with dom := 3 }))).hpt.owed.map
      fun c => c.status) = [stDomainDenied] := by
  unfold Runs; decide +kernel

theorem witness_telemetryCfgRemove_none : Runs (binds 2 (telCfg 0 9)) 4 opTelemetryCfg (telCfg 0 9) ∧ (telCfg 0 9).fld 8 1 = 0 ∧
    (binds 2 (telCfg 0 9)).hpt.bindings.find? (fun b => b.num == (telCfg 0 9).fld 11 1) = none := by unfold Runs; decide +kernel

theorem witness_tableDma_uncorr : Runs (run1 fab (dma 0x1000 (elemBase + 800) 8 1)) 4 opTableDma (dma 0x1000 (elemBase + 800) 8 1) ∧
    ((nextOf (exec (.tableDma 4 ⟨[], false⟩ (some ⟨0, 0, 100⟩)) (run1 fab (dma 0x1000 (elemBase + 800) 8 1)))).hpt.owed.map
      fun c => c.status) = [stMemUncorr] := by unfold Runs; decide +kernel

/-! #### Plans and commits -/

/-- The header of plan 7 of domain 0 before TAG: no tone entry, one target entry and `nv` verify entries, SERIAL 3. -/
def hdr7 (nv : Nat) : List Byte :=
  leBytes 2 7 ++ leBytes 1 0 ++ leBytes 1 1 ++ leBytes 2 1 ++ leBytes 2 0 ++ leBytes 2 nv ++ leBytes 2 0xFFFF ++ leBytes 4 0 ++
    leBytes 4 3 ++ leBytes 12 0

/-- Its entries: channel 300 to PASS at 500, of a KIND with a PARAM, and monitor 5 between 100 and 500. -/
def ents7 (kind param nv : Nat) : List Byte :=
  leBytes 8 (1 + 2 ^ 8 * kind + 2 ^ 12 + 2 ^ 16 * 300 + 2 ^ 32 * 500 + 2 ^ 48 * param) ++
    if nv = 0 then [] else leBytes 8 (3 + 2 ^ 16 * 5 + 2 ^ 32 * 100 + 2 ^ 44 * 500)

/-- The plan with the TAG that a key of zeros gives. -/
def plan7 : List Byte := hdr7 0 ++ hmac256 (List.replicate 32 0) (hdr7 0 ++ ents7 0 0 0) ++ ents7 0 0 0

/-- The plan, with any TAG. -/
def stored7 (kind param nv : Nat) : Plan := { id := 7, base := 0, bytes := hdr7 nv ++ List.replicate 32 0 ++ ents7 kind param nv, energy := 0 }

/-- The Plan Engine is enabled, and domain 0 has its key. -/
def pon : State := { fab.wr PLN_STATUS.ENABLED 1 with sec := { fab.sec with keys := [(0, List.replicate 32 0)] } }

/-- A PLAN_LOAD of a length. -/
def load7 (len : Nat) : Desc := ds 4 opPlanLoad 0 (leBytes 8 0x1000 ++ leBytes 4 len ++ List.replicate 44 0)

theorem witness_planLoad_disabled : Runs (run1 fab (load7 72)) 4 opPlanLoad (load7 72) ∧
    (run1 fab (load7 72)).pln.loads.contains 4 = false ∧ (run1 fab (load7 72)).on PLN_STATUS.ENABLED = false ∧
    ((nextOf (exec (.planLoad 4) (run1 fab (load7 72)))).hpt.owed.map fun c => c.status) = [stPlnDisabled] := by
  unfold Runs; decide +kernel

theorem witness_planLoad_bad : Runs (run1 pon (load7 60)) 4 opPlanLoad (load7 60) ∧ loadBodyOk (load7 60) = false ∧
    ((nextOf (exec (.planLoad 4) (run1 pon (load7 60)))).hpt.owed.map fun c => c.status) = [stBadField] := by
  unfold Runs; decide +kernel

theorem witness_planLoad : (run1 pon (load7 72)).readSlot = true ∧ Runs (run1 pon (load7 72)) 4 opPlanLoad (load7 72) ∧ loadBodyOk (load7 72) = true ∧
    (nextOf (exec (.planLoad 4) (run1 pon (load7 72)))).out = [.read 0 0x1000 72] := by unfold Runs; decide +kernel

/-- The load waits for its data. -/
def loading : State := nextOf (exec (.planLoad 4) (run1 pon (load7 72)))

theorem witness_planCheck : Runs loading 4 opPlanLoad (load7 72) ∧ loading.pln.loads.head? = some 4 ∧
    loading.pln.loading = none ∧ loading.loadStatus (load7 72) plan7 = (stOK, 0) := by unfold Runs; decide +kernel

theorem test_planCheck_stores : ((nextOf (exec (.planCheck 4 ⟨plan7, false, false⟩ none) loading)).hpt.owed.map fun c => (c.status, c.result)) =
    [(stOK, 0)] ∧ ((nextOf (exec (.planCheck 4 ⟨plan7, false, false⟩ none) loading)).pln.plans.map fun p => p.id) = [7] ∧
    (nextOf (exec (.planCheck 4 ⟨plan7, false, false⟩ none) loading)).rd PLN_SERIAL.SERIAL 0 = 3 := by decide +kernel

theorem witness_planCheck_half : loading.headStatus (load7 72) plan7 = stOK ∧
    ((nextOf (exec (.planCheck 4 ⟨plan7, false, true⟩ none) loading)).pln.loading.map fun l => l.1) = some 4 ∧
    (nextOf (exec (.planCheck 4 ⟨plan7, false, true⟩ none) loading)).pln.loads = [4] ∧
    loading.bodyStatus plan7 = (stOK, 0) ∧
    ((nextOf (exec (.planCheck 4 ⟨[], false, false⟩ none) (nextOf (exec (.planCheck 4 ⟨plan7, false, true⟩ none) loading)))).pln.plans.map
      fun p => p.bytes == plan7) = [true] := by decide +kernel

theorem witness_planCheck_dma : (plan7.take 64).length < (load7 72).fld 16 4 ∧
    (loading.loadStatus (load7 72) (plan7.take 64)).1 = stDmaError := by decide +kernel

theorem witness_planCheck_badPlan : planWellFormed ((List.replicate 72 0 : List Byte).take ((load7 72).fld 16 4)) = false ∧
    (loading.loadStatus (load7 72) (List.replicate 72 0)).1 = stBadPlan := by decide +kernel

theorem witness_planCheck_domain : planWellFormed (plan7.take ((load7 72).fld 16 4)) = true ∧
    2 ≠ (planHdr (plan7.take ((load7 72).fld 16 4))).domain ∧
    (loading.loadStatus { load7 72 with dom := 2 } plan7).1 = stDomainDenied := by decide +kernel

/-- Plan 7 is stored already. -/
def busy7 : State := { loading with pln := { loading.pln with plans := [stored7 0 0 0] } }

theorem witness_planCheck_busy : (busy7.pln.plan (planHdr (plan7.take ((load7 72).fld 16 4))).id).isSome = true ∧
    (busy7.loadStatus (load7 72) plan7).1 = stPlanBusy := by decide +kernel

theorem witness_planCheck_replay :
    (planHdr (plan7.take ((load7 72).fld 16 4))).serial ≤ (loading.wr PLN_SERIAL.SERIAL 3 0).rd PLN_SERIAL.SERIAL 0 ∧
    ((loading.wr PLN_SERIAL.SERIAL 3 0).loadStatus (load7 72) plan7).1 = stReplay := by decide +kernel

theorem witness_planCheck_auth : loading.rd PLN_SERIAL.SERIAL 0 < (planHdr ((stored7 0 0 0).bytes.take ((load7 72).fld 16 4))).serial ∧
    hmac256 (List.replicate 32 0) (((stored7 0 0 0).bytes.take 72).take 32 ++ ((stored7 0 0 0).bytes.take 72).drop 64) ≠
      (((stored7 0 0 0).bytes.take 72).drop 32).take 32 ∧
    (loading.loadStatus (load7 72) (stored7 0 0 0).bytes).1 = stAuthFail := by decide +kernel

/-- Plan 7 is stored, a PLAN_COMMIT or other descriptor is in execution. -/
def with7 (kind param nv : Nat) (d : Desc) : State := run1 { pon with pln := { pon.pln with plans := [stored7 kind param nv] } } d

/-- A PLAN_COMMIT of plan 7 with no fallback plan, class 3: `fl` is CFLAGS and `time` its time. -/
def commit7 (flags fl time : Nat) : Desc :=
  ds 4 opPlanCommit flags (leBytes 2 7 ++ leBytes 2 0xFFFF ++ leBytes 1 3 ++ leBytes 1 fl ++ leBytes 2 0 ++ leBytes 8 time ++
    List.replicate 40 0)

theorem witness_planCommit : Runs (with7 0 0 0 (commit7 0 1 0)) 4 opPlanCommit (commit7 0 1 0) ∧
    (with7 0 0 0 (commit7 0 1 0)).commitPending 4 = false ∧ (with7 0 0 0 (commit7 0 1 0)).commitStatus (commit7 0 1 0) = stOK ∧
    ((with7 0 0 0 (commit7 0 1 0)).commitReq (commit7 0 1 0)).strict = false ∧
    ((nextOf (exec (.planCommit 4) (with7 0 0 0 (commit7 0 1 0)))).orb.reqs.map fun r => (r.plan, r.cls)) = [(7, 3)] := by
  unfold Runs; decide +kernel

theorem witness_planCommit_refused : (run1 pon (commit7 0 1 0)).commitStatus (commit7 0 1 0) ≠ stOK ∧
    ((nextOf (exec (.planCommit 4) (run1 pon (commit7 0 1 0)))).hpt.owed.map fun c => c.status) = [stNoPlan] := by
  decide +kernel

theorem witness_planCommit_late : Runs (with7 0 0 0 (commit7 1 0 12800)) 4 opPlanCommit (commit7 1 0 12800) ∧
    (with7 0 0 0 (commit7 1 0 12800)).commitStatus (commit7 1 0 12800) = stOK ∧
    ((with7 0 0 0 (commit7 1 0 12800)).commitReq (commit7 1 0 12800)).strict = true ∧
    ((with7 0 0 0 (commit7 1 0 12800)).commitReq (commit7 1 0 12800)).creq < 40 ∧
    ((nextOf (exec (.planCommit 4) (with7 0 0 0 (commit7 1 0 12800)))).hpt.owed.map fun c => c.status) = [stLateReject] := by
  unfold Runs; decide +kernel

/-- The commit waits, and a descriptor that names plan 7 follows it. -/
def waiting7 (op : Nat) : State :=
  run1 (nextOf (exec (.planCommit 4) (with7 0 0 0 (commit7 0 1 0)))) (ds 5 op 0 (leBytes 2 7 ++ List.replicate 54 0))

theorem witness_planAbort : Runs (waiting7 opPlanAbort) 5 opPlanAbort (ds 5 opPlanAbort 0 (leBytes 2 7 ++ List.replicate 54 0)) ∧
    (waiting7 opPlanAbort).pln.cycle = none ∧ (nextOf (exec (.planAbort 5) (waiting7 opPlanAbort))).orb.reqs = [] ∧
    ((nextOf (exec (.planAbort 5) (waiting7 opPlanAbort))).hpt.owed.map fun c => c.status) = [stAborted, stOK] ∧
    ((nextOf (exec (.planAbort 5) (waiting7 opPlanAbort))).hpt.owed.getLast?.map fun c => c.result) = some 1 := by
  unfold Runs; decide +kernel

theorem witness_planFree : Runs (with7 0 0 0 (ds 5 opPlanFree 0 (leBytes 2 7 ++ List.replicate 54 0))) 5 opPlanFree
      (ds 5 opPlanFree 0 (leBytes 2 7 ++ List.replicate 54 0)) ∧
    (with7 0 0 0 (ds 5 opPlanFree 0 (leBytes 2 7 ++ List.replicate 54 0))).isLive 7 = false ∧
    (with7 0 0 0 (ds 5 opPlanFree 0 (leBytes 2 7 ++ List.replicate 54 0))).pinned 7 = false ∧
    (nextOf (exec (.planFree 5) (with7 0 0 0 (ds 5 opPlanFree 0 (leBytes 2 7 ++ List.replicate 54 0))))).pln.plans = [] := by
  unfold Runs; decide +kernel

theorem witness_planFree_busy : Runs (waiting7 opPlanFree) 5 opPlanFree (ds 5 opPlanFree 0 (leBytes 2 7 ++ List.replicate 54 0)) ∧
    (waiting7 opPlanFree).pinned 7 = true ∧
    ((nextOf (exec (.planFree 5) (waiting7 opPlanFree))).hpt.owed.map fun c => c.status) = [stPlanBusy] := by
  unfold Runs; decide +kernel

/-- The commit waits alone, of a plan with a KIND and verify entries. -/
def queued7 (kind param nv : Nat) : State := nextOf (exec (.planCommit 4) (with7 kind param nv (commit7 0 1 0)))

theorem witness_commitAdmit : (queued7 0 0 0).pln.cycle = none ∧ (queued7 0 0 0).orb.reqs.length = 1 ∧ (queued7 0 0 0).tooLate = [] ∧
    (queued7 0 0 0).cal.sweep = none ∧ (queued7 0 0 0).enableWaits = false ∧ (queued7 0 0 0).clockOff 17 = false ∧ (queued7 0 0 0).on LKS_STATUS.HOLD 0 = false ∧
    (queued7 0 0 0).choose 0 (List.range 8) = (match (queued7 0 0 0).orb.reqs with | r :: _ => .take r | [] => .none) ∧
    ((queued7 0 0 0).orb.reqs.map fun r => (queued7 0 0 0).admitStatus r) = [stOK] ∧
    ((nextOf (exec (.commitAdmit none) (queued7 0 0 0))).pln.cycle.map fun c => (c.phase, c.c)) = some (.checked, 40) := by
  decide +kernel

/-- Its cycle has begun, has been staged, and has swapped; `staged3` and `swapped3` are those of a MAKEBB entry. -/
def begun7 (kind param nv : Nat) : State := nextOf (exec (.commitAdmit none) (queued7 kind param nv))
@[inherit_doc begun7] def staged7 (kind param nv : Nat) : State := nextOf (exec .commitStaging (begun7 kind param nv))
@[inherit_doc begun7] def swapped7 (kind param nv : Nat) : State := nextOf (exec .commitSwap (staged7 kind param nv))

theorem witness_commitStaging : ((begun7 0 0 0).pln.cycle.map fun c => c.phase) = some .checked ∧
    (begun7 0 0 0).on SAF_STATUS.GLOBAL_ECLIPSE = false ∧ ((begun7 0 0 0).pln.cycle.map fun c => (c.sent, c.c)) = some (0, 40) ∧
    (begun7 0 0 0).lag = 0 ∧ (begun7 0 0 0).tooLate = [] ∧
    (staged7 0 0 0).chRd DRV_CH_BANKS.NEXT 300 = 500 ∧ (staged7 0 0 0).rd PLN_STATUS.PHASE = 2 ∧ (staged7 0 0 0).now = 24 := by
  decide +kernel

theorem witness_commitSwap : ((staged7 0 0 0).pln.cycle.map fun c => c.phase) = some .staged ∧
    ((staged7 0 0 0).pln.cycle.map fun c => (c.todo.length, c.dtodo.length)) = some (0, 0) ∧ (swapped7 0 0 0).live 300 = 500 ∧ (swapped7 0 0 0).now = 40 ∧
    (swapped7 0 0 0).rd PLN_LAST_C_LO.TICKS = 40 * 12800 := by decide +kernel

theorem witness_makebbTarget : ((swapped7 3 600 0).pln.cycle.map fun c => (c.phase, c.dwell)) = some (.swapped, some 20) ∧
    ((swapped7 3 600 0).pln.cycle.map fun c => c.stage.map fun x => (x.ch, x.kind, x.next, x.target)) =
      some [(300, 3, some 600, 500)] ∧
    (swapped7 3 600 0).outState 300 ≠ stChange ∧ (swapped7 3 600 0).live 300 = 600 ∧
    (nextOf (exec .makebbTarget (swapped7 3 600 0))).live 300 = 500 := by decide +kernel

/-- The module is armed, and a commit with one verify entry samples the raw code 500, or 600, on monitor 5. -/
def sampled7 (raw : BitVec 12) : State := nextOf (exec (.verifySample [(5, raw)]) ((swapped7 0 0 1).wr PWR_STATUS.ARMED 1))
@[inherit_doc sampled7] def decided7 (raw : BitVec 12) : State := nextOf (exec .verifyDecision (sampled7 raw))

theorem witness_verifySample : ((swapped7 0 0 1).pln.cycle.map fun c => (c.phase, c.dwell)) = some (.swapped, none) ∧
    ((sampled7 500).pln.cycle.map fun c => (c.phase, c.codes, c.unarmed)) = some (.sampled, [(5, 398)], false) := by decide +kernel

theorem witness_verifyDecision : ((sampled7 600).pln.cycle.map fun c => (c.unarmed, c.eclipsed, c.req.origin)) =
      some (false, false, .host 4) ∧
    ((decided7 500).pln.cycle.map fun c => (c.evaluated, c.failed)) = some (1, 0) ∧
    ((decided7 600).pln.cycle.map fun c => (c.evaluated, c.failed)) = some (1, 1) ∧
    (decided7 600).rd PLN_VFY_FIRST.MONITOR = 5 := by decide +kernel

theorem witness_commitResolve : ((decided7 500).pln.cycle.map fun c => (c.phase, c.eclipsed, c.failed, c.late)) =
      some (.decided, false, 0, none) ∧ (decided7 500).desc 4 = some (commit7 0 1 0) ∧
    (nextOf (exec .commitResolve (decided7 500))).rd PLN_LIVE.LIVE_ID = 7 ∧
    ((nextOf (exec .commitResolve (decided7 500))).hpt.owed.map fun c => (c.status, c.flags, c.result)) =
      [(stOK, 0, 0x10000)] := by decide +kernel

theorem witness_commitResolve_fallback : ((decided7 600).pln.cycle.map fun c => (c.failed, c.unarmed, c.tileLost)) =
      some (1, false, false) ∧ (nextOf (exec .commitResolve (decided7 600))).rd PLN_LIVE.FB = 1 ∧
    ((nextOf (exec .commitResolve (decided7 600))).hpt.owed.map fun c => (c.status, c.flags, c.result)) =
      [(stVerifyFailed, 6, 0x10001)] := by decide +kernel

/-- A re-application waits. -/
def reapply : State := pon.enqueue { cls := 0, src := 64, origin := .reapply, plan := 0, fb := none, settle := 0, time := none,
                                     creq := 0, prep := 8, strict := false, acc := 0, seq := 0, tcost := 0, jcost := 0,
                                     moves := [], until_ := 0 }

theorem witness_reapplyAdmit : reapply.pln.cycle = none ∧ (reapply.orb.reqs.find? fun r => r.origin == .reapply).isSome = true ∧
    ((nextOf (exec .reapplyAdmit reapply)).pln.cycle.map fun c => (c.phase, c.c)) = some (.checked, 48) := by decide +kernel

theorem witness_plnEnableWrite : (fab.wr PLN_FMAP_STATUS.VALID 1).bar0 0 0x100000 = .act ∧
    (fab.wr PLN_FMAP_STATUS.VALID 1).on PLN_FMAP_STATUS.VALID = true ∧
    (nextOf (exec (.plnEnableWrite 0 true) (fab.wr PLN_FMAP_STATUS.VALID 1))).rd PLN_CTL.ENABLE = 1 := by decide +kernel

theorem witness_plnEnableWrite_refused : fab.bar0 0 0x100000 = .act ∧ fab.on PLN_FMAP_STATUS.VALID = false ∧
    (nextOf (exec (.plnEnableWrite 0 true) fab)).rd PLN_STATUS.CFG_REJECT = 1 := by decide +kernel

/-- A write of ENABLE waits. -/
def enabling : State := { fab with pln := { fab.pln with enablePending := some true } }

theorem witness_plnEnableApply_invalid : enabling.on PLN_FMAP_STATUS.VALID = false ∧ enabling.on PLN_STATUS.ENABLED = false ∧
    (nextOf (exec .plnEnableApply enabling)).rd PLN_STATUS.CFG_REJECT = 1 ∧ enabling.enableWaits = true := by decide +kernel

theorem witness_plnEnableApply : enabling.pln.enablePending = some true ∧ enabling.pln.cycle = none ∧
    (enabling.wr PLN_FMAP_STATUS.VALID 1).on PLN_FMAP_STATUS.VALID = true ∧
    (nextOf (exec .plnEnableApply (enabling.wr PLN_FMAP_STATUS.VALID 1))).on PLN_STATUS.ENABLED = true ∧
    (nextOf (exec .plnEnableApply (enabling.wr PLN_FMAP_STATUS.VALID 1))).chRd DRV_CH_GUARDW.CAP 300 = 2000 := by decide +kernel

/-- Channel 300 is in CHANGE until frame 41. -/
def changing : State := { fab.chWr DRV_CH_STATE.STATE stChange 300 with drv := { fab.drv with changeDue := [(300, 41)] } }

theorem witness_changeExpiry : nget changing.drv.changeDue (2048 * 0 + 300) ≠ 0 ∧
    (nextOf (exec (.changeExpiry 0 300) changing)).outState 300 = stRest ∧
    (nextOf (exec (.changeExpiry 0 300) changing)).now = 41 := by decide +kernel

/-- A binding of queue 195 (class 3, source 0) to ring 3. -/
def sampling : State := { up with hpt := { up.hpt with bindings := [⟨0, 0, 3, 1, 195, 1, 0⟩] }, now := 7 }

theorem witness_queueSample : sampling.hpt.bindings = [⟨0, 0, 3, 1, 195, 1, 0⟩] ∧ sampling.pln.cycle = none ∧
    ((nextOf (exec .queueSample sampling)).hpt.telq.map fun r => (r.type, r.source, r.stamp)) = [(1, 195, 20000 * 12800)] := by
  decide +kernel

theorem witness_bucketBurstWrite : up.bar0 0 (0x200200 + 16 * 3) = .act ∧
    (nextOf (exec (.bucketBurstWrite 0 3 100) up)).rd ORB_TB_CFG.BURST 3 = 100 ∧
    (nextOf (exec (.bucketBurstWrite 0 3 0) up)).rd ORB_STATUS.CFG_REJECT = 1 := by decide +kernel

theorem witness_statClr : (up.wr ORB_CLASS_STAT.MAX_HOL_US 9 3).bar0 0 0x200000 = .act ∧
    (nextOf (exec (.statClr 0) (up.wr ORB_CLASS_STAT.MAX_HOL_US 9 3))).rd ORB_CLASS_STAT.MAX_HOL_US 3 = 0 := by decide +kernel

/-! #### Orbit and the tiles -/

/-- An ORBIT_LOAD of a list of two entries: plan 7 for `d0` frames, then a HOLD entry of 200. -/
def orbLoad (swap : Nat) : Desc := ds 6 opOrbitLoad 0 (leBytes 8 0x2000 ++ leBytes 2 2 ++ leBytes 1 swap ++ List.replicate 45 0)
@[inherit_doc orbLoad] def orbData (d0 : Nat) : List Byte := leBytes 8 (7 + 2 ^ 32 * d0) ++ leBytes 8 (2 ^ 16 + 2 ^ 32 * 200)
@[inherit_doc orbLoad] def orbList : List OrbitEnt := [⟨7, false, 5000⟩, ⟨0, true, 200⟩]

/-- Plan 7 is stored and enabled; the list is in the shadow, or runs from frame 100 on. -/
def orbIdle (d : Desc) : State := with7 0 0 0 d
@[inherit_doc orbIdle] def orbShadow (d : Desc) : State := { orbIdle d with orb := { (orbIdle d).orb with shadow := orbList } }
@[inherit_doc orbIdle] def orbRuns (d : Desc) : State := { orbIdle d with now := 120, orb := { (orbIdle d).orb with
  active := orbList, base := some 100, settled := 101, entered := 101 } }

theorem witness_orbitLoad : Runs (orbIdle (orbLoad 0)) 6 opOrbitLoad (orbLoad 0) ∧ (orbIdle (orbLoad 0)).orb.swap = none ∧
    (orbIdle (orbLoad 0)).orbitLoadStatus (orbLoad 0) (orbData 5000) = stOK ∧ (orbLoad 0).fld 18 1 = 0 ∧
    (nextOf (exec (.orbitLoad 6 ⟨orbData 5000, false⟩) (orbIdle (orbLoad 0)))).orb.shadow = orbList ∧
    ((nextOf (exec (.orbitLoad 6 ⟨orbData 5000, false⟩) (orbIdle (orbLoad 0)))).hpt.owed.map fun c => (c.status, c.result)) = [(stOK, 5200)] := by
  unfold Runs; decide +kernel

theorem witness_orbitLoad_swap : Runs (orbRuns (orbLoad 1)) 6 opOrbitLoad (orbLoad 1) ∧ (orbRuns (orbLoad 1)).orb.swap = none ∧
    (orbRuns (orbLoad 1)).orbitLoadStatus (orbLoad 1) (orbData 5000) = stOK ∧ (orbLoad 1).fld 18 1 = 1 ∧
    (orbRuns (orbLoad 1)).orbitRunning = true ∧
    (nextOf (exec (.orbitLoad 6 ⟨orbData 5000, false⟩) (orbRuns (orbLoad 1)))).orb.swap = some (6, 120) := by unfold Runs; decide +kernel

theorem witness_orbitLoad_short : Runs (orbIdle (orbLoad 0)) 6 opOrbitLoad (orbLoad 0) ∧
    (orbIdle (orbLoad 0)).orbitLoadStatus (orbLoad 0) (orbData 79) = stOrbitShort := by unfold Runs; decide +kernel

/-- An ORBIT_START with a time or with NOW, and an ORBIT_STOP. -/
def orbStart (now time : Nat) : Desc := ds 6 opOrbitStart 0 (leBytes 8 time ++ leBytes 1 now ++ List.replicate 47 0)
@[inherit_doc orbStart] def orbStop (mode : Nat) : Desc := ds 6 opOrbitStop 0 (leBytes 1 mode ++ List.replicate 55 0)

theorem witness_orbitStart : Runs (orbShadow (orbStart 0 1280000)) 6 opOrbitStart (orbStart 0 1280000) ∧
    (orbStart 0 1280000).fld 16 1 = 0 ∧ zeros (orbStart 0 1280000).bytes 17 47 = true ∧
    (orbShadow (orbStart 0 1280000)).keysErased = false ∧ (orbShadow (orbStart 0 1280000)).orbitRunning = false ∧
    (orbShadow (orbStart 0 1280000)).orb.start = none ∧ (orbShadow (orbStart 0 1280000)).orb.shadow ≠ [] ∧
    (orbShadow (orbStart 0 1280000)).timeOut 1280000 = false ∧ (orbShadow (orbStart 0 1280000)).now ≤ 100 ∧
    (nextOf (exec (.orbitStart 6) (orbShadow (orbStart 0 1280000)))).orb.base = some 100 := by unfold Runs; decide +kernel

/-- The same, at a frame after the time given. -/
def orbPast : State := { orbShadow (orbStart 0 1280000) with now := 200 }

theorem witness_orbitStart_past : orbPast.orb.active = [] ∧ orbPast.timeOut 1280000 = false ∧
    orbPast.frameAt ((orbStart 0 1280000).fld 8 8) < orbPast.now ∧ orbPast.on PLN_STATUS.ENABLED = true ∧
    (nextOf (exec (.orbitStart 6) orbPast)).orb.base = some 100 ∧
    ((nextOf (exec (.orbitStart 6) orbPast)).orb.reqs.map fun r => r.origin) = [.join] := by decide +kernel

theorem witness_orbitStart_now : Runs (orbShadow (orbStart 1 0)) 6 opOrbitStart (orbStart 1 0) ∧ (orbStart 1 0).fld 16 1 = 1 ∧
    (orbShadow (orbStart 1 0)).keysErased = false ∧ (orbShadow (orbStart 1 0)).orbitRunning = false ∧
    (orbShadow (orbStart 1 0)).on PLN_STATUS.ENABLED = true ∧
    ((nextOf (exec (.orbitStart 6) (orbShadow (orbStart 1 0)))).orb.reqs.map fun r => r.origin) = [.join] := by
  unfold Runs; decide +kernel

/-- The same with the Plan Engine disabled. -/
def orbOff : State := (orbShadow (orbStart 1 0)).wr PLN_STATUS.ENABLED 0

theorem witness_orbitStart_off : Runs orbOff 6 opOrbitStart (orbStart 1 0) ∧ orbOff.on PLN_STATUS.ENABLED = false ∧
    orbOff.keysErased = false ∧ orbOff.orbitRunning = false ∧ orbOff.orb.start = none ∧ orbOff.orb.shadow ≠ [] ∧
    (orbitStand orbOff.orb.shadow 0).isSome = true ∧
    (nextOf (exec (.orbitStart 6) orbOff)).rd ORB_CNT_SKIP.COUNT = 1 ∧
    ((nextOf (exec (.orbitStart 6) orbOff)).hpt.owed.map fun c => (c.status, c.result)) = [(stPlnDisabled, 0)] := by
  unfold Runs; decide +kernel

theorem witness_orbitStop : Runs (orbRuns (orbStop 0)) 6 opOrbitStop (orbStop 0) ∧ (orbStop 0).fld 8 1 < 2 ∧
    zeros (orbStop 0).bytes 9 55 = true ∧ (orbRuns (orbStop 0)).orbitRunning = true ∧ (orbRuns (orbStop 0)).orb.stop = none := by
  unfold Runs; decide +kernel

/-- The list runs from frame 100 on, and it is frame 50. -/
def orbWaits : State := { orbRuns (orbStop 0) with now := 50 }

theorem witness_orbitStop_ahead : orbWaits.orbitRunning = false ∧ orbWaits.orb.active ≠ [] ∧ orbWaits.orb.stop = none ∧
    (nextOf (exec (.orbitStop 6) orbWaits)).orb.shadow = orbList ∧
    ((nextOf (exec (.orbitStop 6) orbWaits)).hpt.owed.map fun c => (c.status, c.result)) = [(stOK, 0)] := by decide +kernel

theorem witness_orbitStop_none : Runs (orbIdle (orbStop 1)) 6 opOrbitStop (orbStop 1) ∧ (orbIdle (orbStop 1)).orbitRunning = false ∧
    ((nextOf (exec (.orbitStop 6) (orbIdle (orbStop 1)))).hpt.owed.map fun c => c.status) = [stNoOrbit] := by
  unfold Runs; decide +kernel

/-- A start at frame 100 is owed, of a list that commits something or nothing. -/
def orbOwed (idle : Bool) : State :=
  { orbIdle (orbStart 0 1280000) with orb := { (orbIdle (orbStart 0 1280000)).orb with
      active := orbList, base := some 100, start := some ⟨6, 0, false, false, some 100, idle⟩ } }

theorem witness_orbitListStart : (orbOwed false).orb.start = some ⟨6, 0, false, false, some 100, false⟩ ∧
    (orbOwed true).orb.start = some ⟨6, 0, false, false, some 100, true⟩ ∧ (orbOwed true).desc 6 = some (orbStart 0 1280000) ∧
    (nextOf (exec .orbitListStart (orbOwed true))).now = 100 ∧
    ((nextOf (exec .orbitListStart (orbOwed true))).hpt.owed.map fun c => c.status) = [stOK] := by decide +kernel

/-- The list runs, and its next entry is plan 7 at frame 5,300. -/
def orbNext : State := { orbRuns (orbStop 0) with now := 5200, orb := { (orbRuns (orbStop 0)).orb with settled := 5101, entered := 5101 } }

theorem witness_orbitEntryPrep : orbNext.nextEdge = some (5300, 0) ∧ (orbNext.reach 5260).edge 5300 = .entry ∧
    orbNext.orb.active[0]? = some ⟨7, false, 5000⟩ ∧ orbNext.on PLN_STATUS.ENABLED = true ∧
    orbNext.orb.reqs.all (fun r => !r.orbital) = true ∧
    ((nextOf (exec (.orbitEntryPrep none) orbNext)).orb.reqs.map fun r => (r.plan, r.creq)) = [(7, 5300)] := by decide +kernel

theorem witness_orbitEntryStart : orbNext.nextStart = some (5300, 0) ∧ orbNext.edge 5300 = .entry ∧
    cycleEdge orbNext.orb.active 100 5300 = true ∧
    (nextOf (exec .orbitEntryStart orbNext)).rd ORB_ORBIT_CYCLES.COUNT = 1 := by decide +kernel

/-- A swap, or a stop, waits for frame 5,300. -/
def orbSwaps : State := { run1 orbNext (orbLoad 1) with orb := { orbNext.orb with shadow := [⟨7, false, 300⟩], swap := some (6, 5000) } }
@[inherit_doc orbSwaps] def orbStops : State := { orbNext with orb := { orbNext.orb with stop := some ⟨6, 0, 5000⟩ } }

theorem witness_orbitSwap : orbSwaps.nextStart = some (5300, 0) ∧ orbSwaps.orb.swap = some (6, 5000) ∧ orbSwaps.edge 5300 = .swap ∧
    (orbSwaps.desc 6).isSome = true ∧ (nextOf (exec .orbitSwap orbSwaps)).orb.active = [⟨7, false, 300⟩] ∧
    (nextOf (exec .orbitSwap orbSwaps)).orb.base = some 5300 := by decide +kernel

theorem witness_orbitStopEffect : orbStops.nextStart = some (5300, 0) ∧ orbStops.edge 5300 = .stop ∧
    orbStops.orb.stop = some ⟨6, 0, 5000⟩ ∧ orbStops.desc 6 = some (orbStop 0) ∧ orbStops.orb.start = none ∧ orbStops.orb.swap = none ∧
    (nextOf (exec .orbitStopEffect orbStops)).orb.active = [] ∧
    ((nextOf (exec .orbitStopEffect orbStops)).hpt.owed.map fun c => (c.status, c.result)) = [(stOK, 1)] := by decide +kernel

/-- A write of code 700 to channel 300 for frame 50 is on its way to tile 0, or stands in its queue. -/
def sending (rank : Nat) : State := { fab with drv := { fab.drv with down := [⟨300, 700, 50, rank, 0, 0⟩] } }
@[inherit_doc sending] def queuing : State := { fab with drv := { fab.drv with queue := [⟨300, 700, 50, 3, 0, 1⟩] } }

theorem witness_tileLinkFrame (rank : Nat) (h : rank = 3 ∨ rank = 4) : (sending rank).rd DRV_STATUS.SRC 0 = 0 ∧
    (sending rank).frozen 0 = false ∧ (sending rank).lostCmd 0 = false ∧ (sending rank).drv.down.length = 1 ∧
    (sending rank).drv.queue = [] ∧ (sending rank).outState 300 ≠ stChange ∧
    ((nextOf (exec (.tileLinkFrame 0 0 ⟨false, .none⟩) (sending rank))).drv.queue.map fun w => (w.code, w.taken)) = [(700, 1)] := by
  obtain rfl | rfl := h <;> decide +kernel

theorem witness_liveUpdateApply : queuing.queued 0 = [⟨300, 700, 50, 3, 0, 1⟩] ∧ queuing.outState 300 ≠ stChange ∧
    queuing.twilit 0 ⟨300, 700, 50, 3, 0, 1⟩ = false ∧
    (nextOf (exec (.liveUpdateApply 0 none) queuing)).live 300 = 700 ∧
    (nextOf (exec (.liveUpdateApply 0 none) queuing)).now = 50 := by decide +kernel

theorem witness_liveUpdateApply_late : (⟨300, 700, 50, 3, 0, 60⟩ : CodeWrite).late = true ∧
    (⟨300, 700, 50, 3, 0, 60⟩ : CodeWrite).due = 60 := by decide +kernel

theorem witness_applied : 300 ∈ fab.tileChans 0 ∧ nget fab.drv.formed 0 ≠ fab.now + 1 ∧ fab.on DRV_STATUS.ORPHAN 0 = false ∧
    (nextOf (exec (.tileLinkFrame 0 0 ⟨true, .none⟩) ((fab.chWr DRV_CH_LIVE.LIVE 700 300).chWr DRV_CH_GUARDW.CAP 600 300))).chRd
      DRV_CH_LIVE.APPLIED 300 = 600 := by decide +kernel

theorem test_tileOrphan : (nextOf (exec (.tileOrphan 0) { fab.chWr DRV_CH_GATEW.GATE 1 300 with now := 5 })).chRd DRV_CH_GATEW.ORPH 300 = 1 ∧
    (nextOf (exec (.tileOrphan 0) { fab.chWr DRV_CH_GATEW.GATE 1 300 with now := 5 })).now = 20000 := by decide +kernel

theorem witness_ditherWrite : up.bar0 0 (0x01010000 + 0x20 * 300 + 0xC) = .act ∧ up.ditherBound 300 = false ∧
    (nextOf (exec (.ditherWrite 0 0 300 0x40000A05) up)).rd DRV_CH_DITHER.DMODE 0 300 = 1 ∧
    (nextOf (exec (.ditherWrite 0 0 300 0x40000A05) up)).rd DRV_CH_DITHER.AMP 0 300 = 10 ∧
    (nextOf (exec (.ditherWrite 0 0 300 0x40000A05) up)).rd DRV_CH_DITHER.TONE 0 300 = 5 := by decide +kernel

/-- Channel 300 has a staged tone binding. -/
def boundTone : State := { up with drv := { up.drv with dither := [{ ch := 300, next := ditherOf 5 10, fb := ditherOf 5 10 }] } }

theorem witness_ditherWrite_bound : boundTone.bar0 0 (0x01010000 + 0x20 * 300 + 0xC) = .act ∧ boundTone.ditherBound 300 = true ∧
    (nextOf (exec (.ditherWrite 0 0 300 0) boundTone)).rd DRV_STATUS.CFG_REJECT 0 = 1 := by decide +kernel

/-- ICAP of tile 0 is 1,000 mA. -/
def capped : State := (fab.wr DRV_FOLD_CFG.ICAP 1000 0).chWr DRV_CH_STATE.MODE 1 300

theorem witness_foldbackStep_reset : (1000#16).toNat ≤ capped.rd DRV_FOLD_CFG.ICAP 0 := by decide +kernel

theorem witness_foldbackStep : capped.rd DRV_FOLD_CFG.ICAP 0 < (1001#16).toNat ∧ 0x1000 ≤ capped.rd DRV_FOLD_STATUS.FACTOR 0 * 7 / 8 ∧
    capped.rd DRV_FOLD_STATUS.FACTOR 0 ≤ 0x10000 ∧
    (nextOf (exec (.foldbackStep 0 1001) capped)).rd DRV_FOLD_STATUS.FACTOR 0 = 57344 := by decide +kernel

/-- The factor stands near its floor, and channel 300 drives a phase. -/
def floored : State := (capped.wr DRV_FOLD_STATUS.FACTOR 4600 0).chWr DRV_CH_STATE.STATE stDrive 300

theorem witness_foldbackStep_floor : floored.rd DRV_FOLD_CFG.ICAP 0 < (1001#16).toNat ∧
    floored.rd DRV_FOLD_STATUS.FACTOR 0 * 7 / 8 < 0x1000 ∧ 300 ∈ floored.tileChans 0 ∧ floored.outState 300 = stDrive ∧
    (nextOf (exec (.foldbackStep 0 1001) floored)).outState 300 = stRest := by decide +kernel

theorem witness_foldClear : floored.bar0 0 0x01000010 = .act ∧ (1000#16).toNat ≤ floored.rd DRV_FOLD_CFG.ICAP 0 ∧
    floored.rd DRV_FOLD_CFG.ICAP 0 < (1001#16).toNat ∧
    (nextOf (exec (.foldClear 0 0 1000) floored)).rd DRV_FOLD_STATUS.FACTOR 0 = 65536 ∧
    (nextOf (exec (.foldClear 0 0 1001) floored)).rd DRV_STATUS.CLR_REFUSED 0 = 1 := by decide +kernel

/-- Channel 300 is a gate with guard monitor 5 of its tile, armed; `blockedGate` is one that an eclipse blocks from frame 6. -/
def gate : State := (((fab.chWr DRV_CH_GATEW.GATE 1 300).chWr DRV_CH_GATEW.MONV 1 300).chWr DRV_CH_GATEW.MON 5 300).wr
  MON_IN_STATUS.DARK_ARMED 1 0 5
@[inherit_doc gate] def tripped : State := (nextOf (exec (.guardTrip 0 5) gate))
@[inherit_doc gate] def blockedGate : State := { (gate.wr MON_IN_STATUS.DARK_ARMED 0 0 5).chWr DRV_CH_GATEW.ESC 1 300 with
  mon := { gate.mon with condSince := [(5, 6)], armAt := [(5, 106)] } }

theorem witness_guardTrip : gate.darkArmed 0 5 = true ∧ gate.guardBit DRV_GUARD_TRIP.TRIP 0 5 = false ∧ gate.gateOfInput 0 5 = some 300 ∧
    tripped.chRd DRV_CH_GATEW.TRIP 300 = 1 ∧ (tripped.saf.raised.map fun o => o.source) = [1] := by decide +kernel

theorem witness_guardTrip_unarmed : gate.darkArmed 0 6 = false ∧
    (nextOf (exec (.guardTrip 0 6) gate)).rd MON_IN_STATUS.DARK_OUT 0 6 = 1 := by decide +kernel

theorem witness_guardPersist : tripped.gateOfInput 0 5 = some 300 ∧ nget tripped.drv.trippedAt 300 = 1 + 1 ∧
    tripped.chOn DRV_CH_GATEW.TRIP 300 = true ∧ tripped.on MON_IN_STATUS.DARK_OUT 0 5 = true ∧
    tripped.guardBit DRV_GUARD_PERSIST.PERSIST 0 5 = false ∧ (nextOf (exec (.guardPersist 0 5) tripped)).outState 300 = stGuardRest := by
  decide +kernel

theorem witness_guardTripClear : (tripped.wr MON_IN_STATUS.DARK_OUT 0 0 5).bar0 0 0x01000030 = .act ∧
    (tripped.wr MON_IN_STATUS.DARK_OUT 0 0 5).guardBit DRV_GUARD_TRIP.TRIP 0 5 = true ∧
    (tripped.wr MON_IN_STATUS.DARK_OUT 0 0 5).on MON_IN_STATUS.DARK_OUT 0 5 = false ∧
    (nextOf (exec (.guardTripClear 0 0 0 32) (tripped.wr MON_IN_STATUS.DARK_OUT 0 0 5))).chRd DRV_CH_GATEW.TRIP 300 = 0 := by
  decide +kernel

theorem witness_guardTripClear_refused : tripped.bar0 0 0x01000030 = .act ∧ tripped.on MON_IN_STATUS.DARK_OUT 0 5 = true ∧
    (nextOf (exec (.guardTripClear 0 0 0 32) tripped)).rd DRV_STATUS.CLR_REFUSED 0 = 1 := by decide +kernel

theorem witness_guardArm : blockedGate.gateOfInput 0 5 = some 300 ∧ blockedGate.heldBlock 300 = true ∧
    blockedGate.on MON_IN_STATUS.DARK_OUT 0 5 = false ∧ nget blockedGate.mon.condSince 5 ≠ 0 ∧
    (nextOf (exec (.guardArm 0 5) blockedGate)).now = 105 ∧
    (nextOf (exec (.guardArm 0 5) { blockedGate with mon := gate.mon })).now = blockedGate.rd MON_GUARD_CFG.ARM_DLY 0 := by decide +kernel

/-- The output check of tile 0 is on, and channel 300 drives code 500; the second has been out of tolerance once. -/
def checked (n : Nat) : State := { (((fab.wr DRV_CTL.CHK_EN 1 0).chWr DRV_CH_STATE.STATE stDrive 300).chWr DRV_CH_LIVE.APPLIED 500 300) with
  now := 10, drv := { fab.drv with checkBad := if n = 0 then [] else [(300, 1)] } }

theorem witness_outputCheckVisit : (checked 0).on DRV_CTL.CHK_EN 0 = true ∧ (checked 0).outState 300 = stDrive ∧
    nget (checked 0).drv.changedAt 300 + 4 ≤ (checked 0).nextVisit 300 ∧
    (checked 0).rd DRV_CHK_TOL.TOL 0 < (((60000#16).toNat : Int) - (checked 0).rd DRV_CH_LIVE.APPLIED 0 300).natAbs ∧
    nget (checked 0).drv.checkBad 300 = 0 ∧ nget (checked 1).drv.checkBad 300 ≠ 0 ∧ (checked 1).cal.meas = [] ∧
    (nextOf (exec (.outputCheckVisit 0 300 60000) (checked 1))).outState 300 =
      (if (checked 1).on DRV_CTL.SPARE_AUTO 0 then stSpared else stFailed) := by decide +kernel

/-- The channel has failed; and its retest runs. -/
def failedCh : State := nextOf (exec (.outputCheckVisit 0 300 60000) (checked 1))
@[inherit_doc failedCh] def retesting : State := nextOf (exec (.failedRetest 0 0 9 0x1000) failedCh)

theorem witness_failedRetest : failedCh.bar0 0 (0x01000200 + 4 * 9) = .act ∧ failedCh.markedFailed (32 * 9 + 12) = true ∧
    nget failedCh.drv.retestDue 300 = 0 ∧ nget retesting.drv.retestDue 300 = 224 := by decide +kernel

theorem witness_retestDone : nget retesting.drv.retestDue 300 = 223 + 1 ∧
    (nextOf (exec (.retestDone 0 300 true) retesting)).markedFailed 300 = false ∧
    (nextOf (exec (.retestDone 0 300 false) retesting)).rd DRV_STATUS.CLR_REFUSED 0 = 1 := by decide +kernel

theorem witness_ipeakRead : (floored.wr DRV_IVHV.IPEAK 9 0).on HPT_STATUS.READY = true ∧
    (nextOf (exec (.ipeakRead 0 0) (floored.wr DRV_IVHV.IPEAK 9 0))).out = [.reg 0 0x01000014 (9 * 65536)] := by decide +kernel

/-! #### Monitors and demodulators -/

/-- A sample at frame 4 that gave monitor 5 raw code 500, and a second at frame 8 with raw code 4,095. -/
def smp1 : State := nextOf (exec (.fastSample [(5, 500)] []) { fab with now := 3 })
@[inherit_doc smp1] def smp2 : State := nextOf (exec (.fastSample [(5, 4095)] [(5, 200001)]) { smp1 with now := 7 })

theorem witness_fastSample : (∀ x ∈ smp1.samples, x.frame < 7) ∧ smp1.now = 4 ∧ smp2.now = 8 ∧
    smp1.mRd MON_IN_FAST.RAW 5 = 500 ∧ smp1.mRd MON_IN_FAST.CODE 5 = ((500 - 128) * 17472 + 8192) / 16384 ∧
    smp2.mOn MON_IN_FAST.OVR 5 = true ∧ smp2.mOn MON_IN_STATUS.DARK_OUT 5 = true ∧
    smp1.mRd MON_IN_DARK.THRESH 5 < (200001#32).toNat :=  by decide +kernel

/-- RANGE 2 of input 5 of tile 0 waits. -/
def ranging : State := fab.wrF MON_IN_CFG.RANGE 2 0 5

theorem witness_rangeApply : ranging.pln.cycle = none ∧ nget ranging.held (MON_IN_CFG.RANGE.key 0 5 0) ≠ 0 ∧
    ranging.rangeOf 5 ≠ ranging.rd MON_IN_CFG.RANGE 0 5 ∧ (nextOf (exec (.rangeApply 0) ranging)).rangeOf 5 = 2 ∧
    ({ ranging with pln := (begun7 0 0 0).pln } : State).pln.cycle ≠ none := by decide +kernel

/-- Monitor 105 converts in the free-running mode, or on triggers; its block of two results holds one. -/
def fine (mode : Nat) : State := fab.wr MON_IN_CFG.FMODE mode 0 105
@[inherit_doc fine] def fineB : State := { fine 1 with now := 7999, mon := { fab.mon with blocks := [⟨105, 1, 2, 0, [100], false, false, false⟩], slotAt := [(13, 4001)] } }

theorem witness_fineSlotEnd : nextAt (max (max fineB.now 1) (nget fineB.mon.slotAt 13)) 4000 0 = 8000 ∧ 8000 / 4000 % 10 = 1 + 1 ∧
    nget fineB.mon.idle 13 = 0 ∧ fineB.eff MON_IN_CFG.FMODE 0 105 = 1 ∧ nget fineB.mon.rangeAt 105 = 0 ∧
    nget fineB.mon.slotAt 13 + 4000 = 8000 + 1 ∧ fineB.mon.blocks.find? (fun b => b.mon == 105 && b.need != 0) = some ⟨105, 1, 2, 0, [100], false, false, false⟩ ∧
    (nextOf (exec (.fineSlotEnd 0 13 [201]) fineB)).mRd MON_IN_FINE_RAW.RAW 105 = 151 ∧
    (nextOf (exec (.fineSlotEnd 0 13 [201]) fineB)).mRd MON_IN_FINE.SEQ 105 = 1 := by decide +kernel

theorem witness_fineSlotEnd_zero : nextAt (max (max 39999 1) (nget fineB.mon.slotAt 13)) 4000 0 = 40000 ∧ 40000 / 4000 % 10 = 0 ∧
    nget (nextOf (exec (.fineSlotEnd 0 13 [201]) { fineB with now := 39999 })).mon.zero 13 = 201 := by decide +kernel

theorem witness_fineTrigger : (fine 2).bar0 0 (monAddr 0 (0x20 + 4 * 3)) = .act ∧ (fine 2).eff MON_IN_CFG.FMODE 0 105 = 2 ∧
    (fine 2).mon.blocks = [] ∧ (fine 2).mOn MON_IN_STATUS.PENDING 105 = false ∧
    ((nextOf (exec (.fineTrigger 0 0 3 0x200) (fine 2))).mon.blocks.map fun b => (b.mon, b.triggered)) = [(105, true)] := by
  decide +kernel

/-- A triggered block runs. -/
def fineT : State := nextOf (exec (.fineTrigger 0 0 3 0x200) (fine 2))

theorem witness_fineTrigger_running : fineT.eff MON_IN_CFG.FMODE 0 105 = 2 ∧ (∃ y ∈ fineT.mon.blocks, y.mon = 105) ∧
    (nextOf (exec (.fineTrigger 0 0 3 0x200) fineT)).mRd MON_IN_STATUS.PENDING 105 = 1 ∧
    (nextOf (exec (.fineTrigger 0 0 3 0x200) (nextOf (exec (.fineTrigger 0 0 3 0x200) fineT)))).mRd MON_IN_STATUS.OVERRUN 105 = 1 := by
  decide +kernel

/-- The LOSS comparator of input 9 of tile 1 is on; and has tripped. -/
def lossOn : State := fab.wr MON_IN_CFG.LOSS_EN 1 1 9
@[inherit_doc lossOn] def lossOff : State := nextOf (exec (.lossTrip 1 9) lossOn)

theorem witness_lossTrip : lossOn.lossArmed 1 9 = true ∧ lossOn.on MON_IN_STATUS.LOSS_TRIP 1 9 = false ∧
    lossOff.rd MON_IN_STATUS.LOSS_TRIP 1 9 = 1 ∧ (lossOff.saf.raised.map fun o => (o.source, o.info)) = [(27, 137)] ∧
    fab.lossArmed 1 9 = false := by decide +kernel

theorem witness_lossTripClear : lossOff.bar0 0 (inputAddr 1 9 0x1C) = .act ∧ lossOff.on MON_IN_STATUS.LOSS_OUT 1 9 = true ∧
    (nextOf (exec (.lossTripClear 0 1 9) lossOff)).rd MON_STATUS.CLR_REFUSED 1 = 1 ∧
    (lossOff.wr MON_IN_STATUS.LOSS_OUT 0 1 9).bar0 0 (inputAddr 1 9 0x1C) = .act ∧
    (lossOff.wr MON_IN_STATUS.LOSS_OUT 0 1 9).on MON_IN_STATUS.LOSS_TRIP 1 9 = true ∧
    (nextOf (exec (.lossTripClear 0 1 9) (lossOff.wr MON_IN_STATUS.LOSS_OUT 0 1 9))).rd MON_IN_STATUS.LOSS_TRIP 1 9 = 0 := by
  decide +kernel

/-- A dark step of input 5, range 0, of tile 0 runs; it has taken its slots and samples, all 10 and 7,000 over 100; its results;
and a reference step done. -/
def dark5 : State := nextOf (exec (.syscalDark 0 0 5 0) fab)
@[inherit_doc dark5] def dark5s : State := { dark5 with mon := { dark5.mon with cal := dark5.mon.cal.map fun c =>
  { c with slots := List.replicate 50 10, sum := 7000, count := 100 } } }
@[inherit_doc dark5] def dark5d : State := nextOf (exec (.syscalStepDone 0) dark5s)
@[inherit_doc dark5] def ref5d : State := { dark5d.wr MON_SYSCAL_STATUS.REF_DONE 1 0 with mon := { dark5d.mon with refOk := [(0, 21)] } }

theorem witness_syscalDark : fab.bar0 0 (monAddr 0 0x200) = .act ∧ fab.mon.cal = [] ∧ fab.rangeOf 5 = 0 ∧
    dark5.rd MON_SYSCAL_STATUS.BUSY 0 = 1 ∧ (0 : Nat) ≠ (1 : Fin 4).val ∧
    (nextOf (exec (.syscalDark 0 0 5 1) fab)).rd MON_SYSCAL_STATUS.ERROR 0 = 1 := by decide +kernel

theorem witness_syscalStepDone : dark5s.mon.cal.length = 1 ∧
    (∀ c ∈ dark5s.mon.cal, c.tile = 0 ∧ c.step = 1 ∧ 50 ≤ c.slots.length ∧ c.count = 99 + 1 ∧ c.sum ≤ 2047 * c.count ∧
      nget dark5s.mon.rangeAt (128 * 0 + c.input) ≤ c.start ∧
      dark5s.rangeOf (128 * 0 + c.input) = c.range ∧ ∀ x ∈ c.slots, x = 10) ∧ dark5s.mon.calNext = [] ∧
    dark5d.rd MON_SYSCAL_RES_FOFF.FOFF 0 = 10 ∧ dark5d.rd MON_SYSCAL_RES_FAST.OFF 0 = 70 ∧
    (∀ c ∈ dark5.mon.cal, c.slots.length < 50) := by decide +kernel

theorem witness_syscalReference : dark5d.bar0 0 (monAddr 0 0x200) = .act ∧ dark5d.mon.cal = [] ∧ dark5d.rangeOf 5 = 0 ∧
    nget dark5d.mon.darkOk 0 = 21 ∧ (nextOf (exec (.syscalReference 0 0 5 0) dark5d)).rd MON_SYSCAL_STATUS.BUSY 0 = 1 ∧
    nget fab.mon.darkOk 0 ≠ 21 ∧ (nextOf (exec (.syscalReference 0 0 5 0) fab)).rd MON_SYSCAL_STATUS.ERROR 0 = 5 := by decide +kernel

theorem witness_syscalApply : ref5d.bar0 0 (monAddr 0 0x200) = .act ∧ ref5d.mon.cal = [] ∧
    ref5d.on MON_SYSCAL_STATUS.DARK_DONE 0 = true ∧ ref5d.on MON_SYSCAL_STATUS.REF_DONE 0 = true ∧ nget ref5d.mon.refOk 0 = 4 * 5 + 0 + 1 ∧
    (nextOf (exec (.syscalApply 0 0 5 0) ref5d)).rd MON_IN_CF_FAST.OFF 0 5 0 = 70 := by decide +kernel

theorem witness_syscalDark_latched : dark5.bar0 0 (monAddr 0 0x200) = .act ∧ (∃ c ∈ dark5.mon.cal, c.tile = 0) ∧
    (nextOf (exec (.syscalDark 0 0 6 0) dark5)).rd MON_SYSCAL_STATUS.PENDING 0 = 1 ∧
    (nextOf (exec (.syscalDark 0 0 7 0) (nextOf (exec (.syscalDark 0 0 6 0) dark5)))).rd MON_SYSCAL_STATUS.OVERRUN 0 = 1 := by
  decide +kernel

/-- Captures of tile 0 are enabled, in a mode of trigger; one records; and one has its last sample. -/
def caps (trig : Nat) : State := nextOf (exec (.captureEnable 0 0 true) (fab.wr MON_CAP_CTL.TRIG trig 0))
@[inherit_doc caps] def capTimed : State := nextOf (exec (.captureTimeArm 0 0 0) ((caps 2).wr MON_CAP_TIME_LO.TICKS 128000 0))
@[inherit_doc caps] def capLast : State := { (caps 0).wr MON_CAP_STATUS.BANK0 2 0 with mon := { (caps 0).mon with
  fill := [⟨0, 0, [5], 0, 0, 0, [[600], [500]], true, 0, some 51200, 0⟩] } }

theorem witness_captureEnable : fab.bar0 0 (monAddr 0 0x300) = .act ∧ fab.mon.fill = [] ∧ fab.rd MON_CAP_STATUS.BANK0 0 = 0 ∧
    fab.on MON_CAP_STATUS.PENDING 0 = false ∧ (caps 0).rd MON_CAP_STATUS.BANK0 0 = 1 ∧ (caps 0).bar0 0 (monAddr 0 0x300) = .act ∧
    (nextOf (exec (.captureEnable 0 0 false) (caps 0))).mon.fill = [] := by decide +kernel

theorem witness_captureSwTrigger : (caps 0).bar0 0 (monAddr 0 0x318) = .act ∧ (caps 0).rd MON_CAP_CTL.TRIG 0 = 0 ∧
    ((caps 0).mon.fill.map fun b => (b.tile, b.hit, b.bank)) = [(0, false, 0)] ∧ (caps 2).rd MON_CAP_CTL.TRIG 0 ≠ 0 ∧
    (caps 2).bar0 0 (monAddr 0 0x318) = .act ∧ (nextOf (exec (.captureSwTrigger 0 0) (caps 0))).rd MON_CAP_STATUS.BANK0 0 = 2 := by
  decide +kernel

theorem witness_captureTime : ((caps 2).wr MON_CAP_TIME_LO.TICKS 128000 0).bar0 0 (monAddr 0 0x314) = .act ∧
    ((caps 2).wr MON_CAP_TIME_LO.TICKS 128000 0).rd MON_CAP_CTL.TRIG 0 = 2 ∧ (caps 2).timeOut 128000 = false ∧
    0 ≤ tickDiff 128000 (caps 2).ticks ∧ nget capTimed.mon.capTime 0 = 12 + 1 ∧
    (nextOf (exec (.captureTimeTrigger 0) capTimed)).rd MON_CAP_STATUS.BANK0 0 = 2 ∧
    tickDiff 128000 ({ caps 2 with now := 11 } : State).ticks < 0 ∧
    (nextOf (exec (.captureTimeArm 0 0 0) { (caps 2).wr MON_CAP_TIME_LO.TICKS 128000 0 with now := 11 })).rd MON_CAP_STATUS.LATE 0 = 1 := by
  decide +kernel

theorem witness_captureBankFull : capLast.mon.fill = [⟨0, 0, [5], 0, 0, 0, [[600], [500]], true, 0, some 51200, 0⟩] ∧
    (0 : Nat) < capDepth 1 := by decide

theorem witness_captureRelease : (fab.wr MON_CAP_STATUS.BANK1 3 0).bar0 0 (monAddr 0 0x320) = .act ∧
    (fab.wr MON_CAP_STATUS.BANK1 3 0).rd MON_CAP_STATUS.BANK1 0 = 3 ∧ (fab.wr MON_CAP_STATUS.BANK1 3 0).on MON_CAP_CTL.EN 0 = false ∧
    (nextOf (exec (.captureRelease 0 0 2) (fab.wr MON_CAP_STATUS.BANK1 3 0))).rd MON_CAP_STATUS.BANK1 0 = 0 := by decide +kernel

/-- The element context of gate 100 is bound to monitor 5 and tone 7; and monitor 5 expects tone 7. -/
def toneBound : State := { smp2 with now := 999, pln := { smp2.pln with tones := [{ elem := 100, mon := 5, tone := 7, amp := 10, path := false }] } }
@[inherit_doc toneBound] def expecting : State := { (smp2.wr TON_PT_EXPECT.VALID 1 5).wr TON_PT_EXPECT.TONE 7 5 with now := 999 }

theorem witness_tonePublish : toneBound.boundElems = [(100, 5, 7)] ∧
    toneBound.windowEnd (max (toneBound.now - 2) toneBound.ton.doneElem) 200 = 1000 ∧
    toneBound.tileLost (toneBound.elemTile 100) = false ∧ 1000 % 1000 = 0 ∧
    (toneBound.window 100 0 1000 (some (5, 7))).gap = true ∧
    (nextOf (exec (.tonePublish true none) toneBound)).now = 1002 ∧
    (nextOf (exec (.tonePublish true none) toneBound)).load (toneAddr 100 + 17) 1 = 1 := by decide +kernel

theorem witness_tonePublish_path : expecting.expecting = [5] ∧
    expecting.windowEnd (max (expecting.now - 1) expecting.ton.donePath) 1000 = 1000 ∧ expecting.tileLost (5 / 128) = false ∧
    (nextOf (exec (.tonePublish false none) expecting)).now = 1001 ∧
    (nextOf (exec (.tonePublish false none) expecting)).load (toneAddr 16404 + 8) 8 = ticksOf 1000 := by decide +kernel

/-- Monitor 5 guards port 1,030, the module is armed, path tests are on, and it expects tone 7 with results of 0 or 2,000. -/
def pathOn (i : Nat) : State :=
  (((((((fab.wr TON_PT_EXPECT.VALID 1 5).wr TON_PT_EXPECT.TONE 7 5).wr TON_CTL.PT_EN 1).wr DRV_STATUS.ARMED 1 0).wr
    PWR_STATUS.ARMED 1).wr PLN_STATUS.ENABLED 1).wr TON_PT_CFG.QUAL 1).store (toneAddr 16404) 4 i

theorem witness_evalPath : fab.pathSuspended 5 = true ∧ (pathOn 0).pathSuspended 5 = false ∧ nget (pathOn 0).ton.suspended 5 = 0 ∧
    nget (pathOn 0).ton.since 5 + 999 ≤ 1000 ∧ (pathOn 0).clean 16404 = true ∧ (aget (pathOn 0).ton.foreign 5).getD [] = [] ∧
    (pathOn 0).power 16404 < ((pathOn 0).load (toneAddr 16404 + 24) 2 : Int) ^ 2 ∧
    bit (((pathOn 0).evalPath 5 1000).rd TON_PT_LOSS.LOSS 0) 5 = true ∧
    (pathOn 2000).pathSuspended 5 = false ∧ (pathOn 2000).clean 16404 = true ∧
    ((pathOn 2000).load (toneAddr 16404 + 24) 2 : Int) ^ 2 ≤ (pathOn 2000).power 16404 ∧
    bit (((pathOn 2000).evalPath 5 1000).rd TON_PT_CONF.CONF 0) 5 = true := by decide +kernel

theorem witness_sampleRingGap : (smp1.samples.map fun x => (x.frame, x.absent, x.ring)) = [(4, [], [])] ∧
    ((nextOf (exec (.sampleRingGap 2) smp1)).samples.map fun x => x.ring) = [[2]] ∧
    ((nextOf (exec (.sampleRingGap 2) smp1)).saf.raised.map fun o => o.source) = [59] := by decide +kernel

/-- Tile 2's sample is absent. -/
def absent2 : State := { smp1 with samples := smp1.samples.map fun x => { x with absent := [2] } }

theorem witness_sampleRingGap_absent : (absent2.samples.map fun x => x.absent) = [[2]] := by decide +kernel

/-- The LOSS and FOREIGN bits of monitor 5 are set, and its latest window failed neither or both. -/
def pathSet (n : Nat) : State := { (fab.wr TON_PT_LOSS.LOSS 32 0).wr TON_PT_FOREIGN.FOREIGN 32 0 with
  ton := { fab.ton with lastL := if n = 0 then [] else [(5, 1)], lastF := if n = 0 then [] else [(5, 1)] } }

theorem witness_pathBitClear : (pathSet 0).bar0 0 0x500400 = .act ∧ (pathSet 1).bar0 0 0x500480 = .act ∧
    bit ((pathSet 0).rd TON_PT_LOSS.LOSS 0) 5 = true ∧ bit ((pathSet 1).rd TON_PT_FOREIGN.FOREIGN 0) 5 = true ∧
    (nextOf (exec (.pathBitClear 0 false 0 32) (pathSet 0))).rd TON_PT_LOSS.LOSS 0 = 0 ∧
    (nextOf (exec (.pathBitClear 0 true 0 32) (pathSet 1))).rd TON_STATUS.CLR_REFUSED = 1 := by decide +kernel

theorem witness_tonFirstClr : (fab.wr TON_PT_FIRST.MONITOR 9).bar0 0 0x500000 = .act ∧
    (nextOf (exec (.tonFirstClr 0) (fab.wr TON_PT_FIRST.MONITOR 9))).rd TON_PT_FIRST.MONITOR = 0 := by decide +kernel

/-! #### The loop instruction set -/

/-- A job of context 900 (channel 300, slot 0) with V1 = 7, V2 = −3, V3 = 2^31 − 1 and P1 = 1, on core 1 of die A. -/
def run9 : Run := { job := ⟨0, 1, 900, 0, 2, 30, true, 0, [1, 2, 77]⟩, pc := 0, v := [0, 7, -3, 2147483647] ++ List.replicate 12 0
                    p := [true, true, false, false], k := [(2, 99)], cand := none, done := false, sat := false, cycles := 9, snap := none, fin := false }

/-- The job has come to the word `w` of program 9, which is VALID. -/
def lisRun (w : Nat) : State :=
  let s := ((fab.store (ctxAddr 900) 2 9).store (progAddr 9 + 4) 4 (2 + 2 ^ 24)).store (progBase + 0x10000) 4 w
  { s with now := 3, lpa := { s.lpa with runs := [run9] } }

/-- Core 1 of die A, no guard; and a guard on P1, negated. -/
def c1 : LisAt := ⟨0, 1, 0, false⟩
@[inherit_doc c1] def c1n : LisAt := ⟨0, 1, 1, true⟩

/-- One instruction of each kind of the LIS. -/
def lisAll : List Instr :=
  [.lisNop c1, .lisEnd c1, .lisBr c1 3, .lisDone c1, .lisWcand c1 2, .lisAdd c1 4 3 1, .lisSub c1 4 1 2, .lisAddi c1 4 1 (-8),
   .lisMovi c1 4 (-2), .lisMovhi c1 4 0x8000, .lisMovlo c1 3 5, .lisMul c1 4 1 2, .lisMulq c1 4 1 2 2, .lisDiv c1 4 1 2,
   .lisMin c1 4 1 2, .lisMax c1 4 1 2, .lisClmp c1 4 1 2, .lisAbs c1 4 2, .lisAnd c1 4 1 2, .lisOr c1 4 1 2, .lisXor c1 4 1 2,
   .lisShl c1 4 1 31, .lisAsr c1 4 2 1 true, .lisSel c1 4 1 2 1, .lisCmplt c1 2 2 1, .lisCmple c1 2 1 2, .lisCmpeq c1 2 1 1,
   .lisTbit c1 2 1 31, .lisCmplti c1 2 2 0, .lisCmpgti c1 2 2 0, .lisLdi c1 4 3 5, .lisLdx c1 4 3 1, .lisLdk c1 4 2, .lisStk c1 1 3,
   .lisRdpc c1 4 2, .lisAdd c1n 4 3 1]

/-- The job has come to an instruction, in the state `lisRun` gives for it. -/
def lisCome (i : Instr) : Bool :=
  match lisOf i with
  | some (a, w) => (lisRun w).running a.die a.core == some run9 && ((lisRun w).fetch run9).map (·.1) == some w
  | none => false

theorem witness_lis : lisAll.all lisCome = true ∧ (run9.pred c1.pg != c1.pn) = true ∧ (run9.pred c1n.pg != c1n.pn) = false ∧
    3 < run9.job.s + classPeriod run9.job.cls ∧ run9.v.length = 16 ∧ run9.p.length = 4 := by decide +kernel

/-- The job after an instruction. -/
def lisThen (i : Instr) : Option Run :=
  match lisOf i with
  | some (_, w) => (nextOf (exec i (lisRun w))).running 0 1
  | none => none

theorem test_lis_words : ((lisOf (.lisAdd c1n 4 3 1)).map (·.2)) = some 0x21A18800 ∧
    ((lisOf (.lisAsr c1 4 2 31 true)).map (·.2)) = some 0x7021003F ∧ ((lisOf (.lisLdx c1 4 31 15)).map (·.2)) = some 0xA427C00F ∧
    ((lisOf (.lisAddi c1 4 1 (-8))).map (·.2)) = some 0x2820FFF8 := by decide

theorem test_lis_arith : (lisAll.map fun i => (lisThen i).map fun r => ((r.v[4]?).getD 0, r.sat)).drop 5 =
    [some (2147483647, true), some (10, false), some (-1, false), some (-2, false), some (-2147483648, false), some (0, false),
     some (-21, false), some (-5, false), some (-2, false), some (-3, false), some (7, false), some (3, false), some (3, false),
     some (5, false), some (-1, false), some (-6, false), some (2147483647, true), some (-1, false), some (7, false)] ++
    List.replicate 6 (some (0, false)) ++ [some (900, false), some (0, false), some (99, false), some (0, false), some (0, false),
     some (0, false)] := by decide +kernel

theorem test_lis_preds : ((lisAll.drop 24).take 6).map (fun i => (lisThen i).map fun r => r.pred 2) =
    [some true, some false, some true, some false, some true, some false] := by decide +kernel

theorem test_lis_control : (lisAll.take 5).map (fun i => (lisThen i).map fun r => (r.pc, r.cycles, r.done)) =
    [some (1, 10, false), none, some (3, 10, false), some (1, 10, true), some (1, 10, false)] ∧
    ((lisThen (.lisWcand c1 2)).map fun r => (r.cand, r.sat)) = some (some 0, true) := by decide +kernel

theorem test_lis_movlo : ((lisThen (.lisMovlo c1 3 5)).map fun r => (r.v[3]?).getD 0) = some 0x7FFF0005 := by decide +kernel

/-- Every domain may read counters; and the core's cycle counter has been read. -/
def rdpcOn (snap : Option Nat) : State :=
  { (lisRun 0xC0200001).wr PMC_ACCESS.RDPC 1 0 0 with lpa := { (lisRun 0).lpa with runs := [{ run9 with snap := snap }] } }

theorem witness_lisRdpc : lisOf (.lisRdpc c1 4 1) = some (c1, 0xC0200001) ∧ (rdpcOn none).running 0 1 = some run9 ∧
    (rdpcOn none).on PMC_ACCESS.RDPC 0 ((rdpcOn none).load (progAddr 9 + 6) 1 % 32) = true ∧
    (lisRun 0xC0200001).on PMC_ACCESS.RDPC 0 ((lisRun 0xC0200001).load (progAddr 9 + 6) 1 % 32) =
      (lisRun 0xC0200001).on PMC_ACCESS.RDPC 0 0 ∧
    (((nextOf (exec (.lisRdpc c1 4 1) (rdpcOn (some (2 ^ 33))))).running 0 1).map fun r => (r.v[4]?).getD 0) = some 2 := by
  decide +kernel

/-- The image of class 0 latches channel 300 in Track with no element. -/
def lisIdent : State :=
  { fab with lpa := { fab.lpa with images := [(0, { fab.image 0 with ident := [(300, ⟨1, none, false, 0, none⟩)] })] } }

theorem witness_lis_ident : aget (lisIdent.image run9.job.cls).ident (run9.job.ctx / 3) = some ⟨1, none, false, 0, none⟩ ∧
    lisIdent.imgRead run9.job 3 6 = some 1 ∧ lisIdent.imgRead run9.job 10 5 = some 0 := by decide +kernel

/-- The job at its END has stored one word, its context runs, and die A is active, or B. -/
def lisEnds (act : Nat) : State :=
  let s := ((lisRun 0x04000000).store (ctxAddr 900 + 3) 1 1).wr HPT_STATUS.ACTIVE act 0
  { s with lpa := { s.lpa with runs := [{ run9 with done := true }] } }

theorem witness_lisEnd : lisOf (.lisEnd c1) = some (c1, 0x04000000) ∧ (lisEnds 1).isProbe ((lisEnds 1).ctxProg 900) = false ∧
    (lisEnds 1).isActive 0 = true ∧ (lisEnds 0).isActive 0 = false ∧ (lisEnds 1).takesJob 900 = true ∧ (lisEnds 1).lpa.ended = [] ∧
    nget (lisEnds 1).lpa.hostK (8 * 900 + 2) = 0 ∧
    (let t := nextOf (exec (.lisEnd c1) (lisEnds 1)); (t.load (ctxAddr 900 + 12) 4, t.load (ctxAddr 900 + 11) 1, t.load (ctxAddr 900 + 32) 4)) =
      (1, 1, 99) := by decide +kernel

/-- Program 9 is a probe program. -/
def lisProbe : State := (lisRun 0x10010000).store (progAddr 9 + 7) 1 5

theorem witness_lisWcand_probe : (lisOf (.lisWcand c1 2)) = some (c1, 0x10010000) ∧ lisProbe.isProbe (lisProbe.ctxProg 900) = true ∧
    lisProbe.running 0 1 = some run9 ∧ (lisProbe.fetch run9).map (·.1) = some 0x10010000 ∧
    ((nextOf (exec (.lisWcand c1 2) lisProbe)).running 0 1).map (fun r => (r.pc, r.cand, r.sat)) = some (1, none, false) := by
  decide +kernel

/-! #### The Loop Array -/

/-- Context 900 (channel 300, slot 0) runs program 9, of WCET 30, in its channel's class `k`, with a last candidate of 600 and a last
output of 500; program 9 is VALID. -/
def loop (k : Nat) : State :=
  ((((((fab.store (ctxAddr 900) 2 9).store (ctxAddr 900 + 2) 2 (1 + 256)).store (ctxAddr 900 + 4) 2 600).store (ctxAddr 900 + 8) 2
    30).store (ctxAddr 900 + 56) 3 (500 + 2 ^ 16 * k)).store (progAddr 9 + 4) 4 (2 + 2 ^ 24)).wr LPA_CTL.ENABLE 1
@[inherit_doc loop] def loopUp (k : Nat) : State := { (loop k).wr LKS_STATUS.ROLE 1 0 with now := 41 }

theorem witness_periodRelease : (loopUp 0).lpa.images = [] ∧ (loopUp 0).on LPA_CTL.ENABLE = true ∧
    42 = 41 + (2 + classPeriod 0 - 41 % classPeriod 0) % classPeriod 0 ∧ (loopUp 0).allCtx = [900] ∧ (loopUp 0).dueIn 900 0 42 = true ∧
    (loopUp 0).toneBound 300 = none ∧
    (nextOf (exec (.periodRelease 0) (loopUp 0))).lpa.jobs = [⟨0, 1, 900, 0, 42, 30, false, 0, List.replicate 8 0⟩] ∧
    (fab.on LPA_CTL.ENABLE = false ∧ fab.lpa.images = []) ∧ (loopUp 0).lpa.begun = [] := by decide +kernel

/-- The context was activated at the frame of the phase 0, and a host value waits for it. -/
def loopBegun (f : Nat) : State := { loopUp 0 with lpa := { (loopUp 0).lpa with begun := [(900, f)], hostK := [(7202, 6)] } }

theorem witness_periodRelease_begun : (∃ b ∈ (loopBegun 42).lpa.begun, b.1 = 900 ∧ 42 ≤ b.2) ∧
    (nextOf (exec (.periodRelease 0) (loopBegun 42))).lpa.jobs = [] ∧
    ((nextOf (exec (.periodRelease 0) (loopBegun 41))).lpa.jobs.map (·.k)) = [[0, 0, 5, 0, 0, 0, 0, 0]] := by decide +kernel

/-- The element of channel 300 has a tone binding. -/
def loopTone : State := { loopUp 0 with pln := { (loopUp 0).pln with tones := [{ elem := 100, mon := 5, tone := 7, amp := 10, path := false }] } }

theorem witness_periodRelease_skip : loopTone.toneBound (900 / 3) = some { elem := 100, mon := 5, tone := 7, amp := 10, path := false } ∧
    loopTone.load (toneAddr 100 + 16) 2 % 32 ≠ 1 ∧ loopTone.allCtx = [900] ∧ loopTone.dueIn 900 0 42 = true ∧
    (nextOf (exec (.periodRelease 0) loopTone)).rd LPA_CNT_SKIP.COUNT = 1 := by decide +kernel

theorem witness_lpaEnable : fab.bar0 0 0x300000 = .act ∧ (nextOf (exec (.lpaEnable 0 true) fab)).rd LPA_CTL.ENABLE = 1 := by decide +kernel

/-- Its job waits on core 1, before or after its prefetch; and runs. -/
def waitJob (filled : Bool) : State := { loopUp 0 with now := 43, lpa := { (loop 0).lpa with jobs := [⟨0, 1, 900, 0, 42, 30, filled, 0, List.replicate 8 0⟩] } }
@[inherit_doc waitJob] def runJob : State := nextOf (exec (.jobDispatch 0 1 none) (waitJob true))

theorem witness_jobDispatch : (waitJob true).running 0 1 = none ∧ (waitJob true).coreQueue 0 1 = [⟨0, 1, 900, 0, 42, 30, true, 0, List.replicate 8 0⟩] ∧
    (waitJob false).coreQueue 0 1 = [⟨0, 1, 900, 0, 42, 30, false, 0, List.replicate 8 0⟩] ∧
    (waitJob false).coreQueue 0 1 = ((waitJob false).coreQueue 0 1).filter (fun j => !j.filled) ∧
    (runJob.running 0 1).map (·.pc) = some 0 ∧ (waitJob true).badWord 0 900 = none ∧ (waitJob true).gated 0 0 = false := by
  decide +kernel

/-- The word of program 9's directory entry cannot be read on die A. -/
def waitBad : State := { waitJob true with mig := { (waitJob true).mig with bad := [(0, 18)] } }

theorem witness_jobDispatch_bad : waitBad.running 0 1 = none ∧ waitBad.badWord 0 900 = some 18 ∧ (waitBad.coreQueue 0 1).length = 1 ∧
    ((nextOf (exec (.jobDispatch 0 1 none) waitBad)).saf.raised.map fun o => (o.source, o.info)) = [(196, 18)] := by decide +kernel

theorem witness_jobSteal : (waitJob false).running 0 2 = none ∧ (waitJob false).coreQueue 0 2 = [] ∧
    (waitJob false).victim 0 2 = some (1, false) ∧ (waitJob false).victim 0 9 = some (1, true) ∧
    ((waitJob false).coreQueue 0 1).getLast?.isSome = true ∧ (1 : Nat) ≠ (2 : Fin 64) ∧
    ((nextOf (exec (.jobSteal 0 2) (waitJob false))).lpa.jobs.map fun j => (j.core, j.stolen)) = [(2, 1)] ∧
    ((nextOf (exec (.jobSteal 0 9) (waitJob false))).rd LPA_CNT_STEAL_REMOTE.COUNT) = 1 := by decide +kernel

theorem witness_prefetchFill : ((waitJob false).coreQueue 0 1).find? (fun j => !j.filled) = some ⟨0, 1, 900, 0, 42, 30, false, 0, List.replicate 8 0⟩ := by
  decide +kernel

theorem witness_jobWcetStop : (runJob.running 0 1).isSome = true ∧
    ((nextOf (exec (.jobWcetStop 0 1) runJob)).saf.raised.map fun o => (o.source, o.info)) = [(192, 1)] := by decide +kernel

/-- A job of the period from frame 42 has ended with candidate 700; or one of it still waits; class 0 or none is on. -/
def endJob : State := { loopUp 0 with now := 50, lpa := { (loop 0).lpa with ended := [{ run9 with
  job := ⟨0, 1, 900, 0, 42, 30, true, 0, List.replicate 8 0⟩, k := [], cand := some 700, pc := 5 }] } }
@[inherit_doc endJob] def lateJob : State := { waitJob true with now := 50 }

theorem witness_candidatePublish : endJob.lpa.ended.length = 1 ∧ (0 : Nat) = endJob.active ∧ 42 + classPeriod 0 ≤ phase0 0 endJob.now ∧
    nget endJob.lpa.on 0 = 0 ∧ endJob.ctxState 900 = 1 ∧ endJob.isProbe (endJob.ctxProg 900) = false ∧
    (nextOf (exec (.candidatePublish 0) endJob)).load (ctxAddr 900 + 4) 2 = 700 ∧ endJob.lpa.skipped = [] := by decide +kernel

/-- A context was skipped in the period from frame 42. -/
def skipped : State := { loopUp 0 with now := 50, lpa := { (loop 0).lpa with skipped := [(900, 82)] } }

theorem witness_skipped : skipped.lpa.jobs = [] ∧ skipped.lpa.runs = [] ∧ skipped.lpa.ended = [] ∧ 82 ≤ phase0 0 (max 50 (nget skipped.marks 4)) ∧
    (nextOf (exec (.candidatePublish 0) skipped)).pflags 900 = 4 := by decide +kernel

theorem witness_candidatePublish_late : lateJob.lpa.jobs.length = 1 ∧ lateJob.isActive 0 = true ∧ nget lateJob.lpa.on 0 = 0 ∧
    lateJob.ctxState 900 = 1 ∧ lateJob.load (ctxAddr 900 + 10) 1 + 1 < max 1 (lateJob.rd LPA_OVR_LIMIT.LIMIT) ∧
    lateJob.on LPA_FIRST_OVR.VALID = false ∧
    (nextOf (exec (.candidatePublish 0) lateJob)).rd LPA_CNT_OVR.COUNT = 1 := by decide +kernel

/-- The channel's class is on, its STEP_MAX is 16, and slot 1 does or does not run with candidate 450. -/
def combining (step s1 : Nat) : State :=
  let s := ((loopUp 1).store (ctxAddr 900 + 16) 2 step).store (ctxAddr 901 + 3) 3 (s1 + 256 * 450)
  { s with now := 150, lpa := { s.lpa with on := [(1, 1)] } }

theorem witness_combine : phase0 1 150 = 202 ∧ nget (combining 16 0).lpa.on 1 = 1 ∧ (combining 16 0).loopChannels = [300] ∧
    (combining 16 0).chClass 300 = 1 ∧ (combining 16 0).chPaused 300 = false ∧
    nget (combining 16 0).lpa.since 300 + classPeriod 1 ≤ 202 + 1 ∧ (combining 16 0).ctxState 900 = 1 ∧ (combining 16 0).ctxState 901 = 0 ∧
    (combining 16 0).ctxState 902 = 0 ∧ (combining 16 0).lpa.hostP = [] ∧ (combining 16 0).lpa.fresh = [] ∧
    (combining 16 0).lpa.begun = [] ∧ (combining 16 0).lpa.skipped = [] ∧
    (combining 16 0).load (ctxAddr 900 + 18) 2 = 0 ∧ (combining 0 1).loopChannels = [300] ∧ (combining 0 1).ctxState 901 = 1 ∧
    (combining 0 1).ctxState 900 = 1 ∧ (combining 0 1).load (ctxAddr 900 + 16) 2 = 0 ∧ (combining 0 1).chClass 300 = 1 ∧
    ((nextOf (exec (.candidatePublish 1) (combining 16 0))).lpa.outs.map fun o => (o.code, o.apply)) = [(516, 322)] ∧
    ((nextOf (exec (.candidatePublish 1) (combining 0 1))).lpa.outs.map fun o => o.code) = [450] := by decide +kernel

/-- An output waits. -/
def outWaits : State := { loopUp 1 with lpa := { (loop 1).lpa with outs := [⟨300, 516, 322, 1⟩], on := [(1, 1)] } }

theorem witness_combinedOutputSend : outWaits.lpa.outs = [⟨300, 516, 322, 1⟩] ∧ outWaits.now + 24 ≤ 322 ∧ nget outWaits.lpa.on 1 ≠ 0 ∧
    (nextOf (exec .combinedOutputSend outWaits)).drv.down = [⟨300, 516, 322, 4, 0, 0⟩] := by decide +kernel

/-- Channel 300 is to change to Hold. -/
def toHold : State := { outWaits with lpa := { outWaits.lpa with changes := [⟨300, 2, 41⟩] } }

theorem witness_classChange : toHold.lpa.changes.find? (fun c => c.ch == (300 : Fin 16384).val) = some ⟨300, 2, 41⟩ ∧
    toHold.lpa.swait = [] ∧ toHold.lpa.twait = [] ∧ toHold.lpa.resume = [] ∧ (nextOf (exec (.classChange 300) toHold)).now = 1002 ∧
    (nextOf (exec (.classChange 300) toHold)).chClass 300 = 2 := by decide +kernel

/-- A CTX_WRITE of one context. -/
def ctxD (op ncls first mask : Nat) : Desc :=
  ds 8 opCtxWrite 0 (leBytes 4 first ++ leBytes 2 1 ++ leBytes 1 op ++ leBytes 1 ncls ++ leBytes 8 0 ++ leBytes 4 mask ++ List.replicate 36 0)
@[inherit_doc ctxD] def ctxS (d : Desc) : State := run1 (loopUp 1) d

theorem witness_ctxWrite : Runs (ctxS (ctxD 0 0 900 18)) 8 opCtxWrite (ctxD 0 0 900 18) ∧
    (ctxS (ctxD 0 0 900 18)).ctxRefusal (ctxD 0 0 900 18) (List.replicate 64 1) = none ∧ (ctxBody (ctxD 0 0 900 18)).op = 0 ∧
    (ctxBody (ctxD 0 0 900 18)).count = 1 ∧ (ctxBody (ctxD 0 0 900 18)).mask = 18 ∧
    (nextOf (exec (.ctxWrite 8 ⟨List.replicate 64 1, true⟩) (ctxS (ctxD 0 0 900 18)))).load (ctxAddr 900 + 6) 2 = 257 := by
  unfold Runs; decide +kernel

theorem witness_ctxRefusal : (ctxS (ctxD 2 0 903 0)).ctxRefusal (ctxD 2 0 903 0) [] = some (stCtxUnbound, 0) ∧
    ctxBodyOk (ctxD 2 0 903 0) = true ∧ (ctxS (ctxD 4 0 903 0)).ctxRefusal (ctxD 4 0 903 0) [] = some (stBadField, 0) ∧
    (ctxS (ctxD 0 0 900 0)).ctxRefusal (ctxD 0 0 900 0) [] = some (stDmaError, 0) ∧
    (ctxS (ctxD 1 0 900 0)).ctxRefusal (ctxD 1 0 900 0) (List.replicate 64 0) = some (stCtxActive, 0) ∧
    (ctxS (ctxD 3 1 901 0)).ctxRefusal (ctxD 3 1 901 0) [] = some (stBadField, 0) ∧ ctxBodyOk (ctxD 1 0 903 0) = true ∧
    bit ((ctxS (ctxD 1 0 903 0)).load (ctxAddr 903 + 2) 1) 0 = false ∧
    (ctxS (ctxD 1 0 903 0)).ctxRefusal (ctxD 1 0 903 0) (List.replicate 64 0) = some (stBadField, 0) := by decide +kernel

/-- Context 900 is INACTIVE. -/
def ctxOff (d : Desc) : State := run1 ((loopUp 1).store (ctxAddr 900 + 3) 1 0) d

theorem witness_activate : Runs (ctxOff (ctxD 1 0 900 0)) 8 opCtxWrite (ctxD 1 0 900 0) ∧
    (ctxOff (ctxD 1 0 900 0)).ctxRefusal (ctxD 1 0 900 0) (List.replicate 64 0) = none ∧ (ctxBody (ctxD 1 0 900 0)).op = 1 ∧
    (ctxOff (ctxD 1 0 900 0)).tileLost 0 = false ∧ (ctxOff (ctxD 1 0 900 0)).chPaused 300 = false ∧
    (nextOf (exec (.activate 8 ⟨List.replicate 64 0, false⟩) (ctxOff (ctxD 1 0 900 0)))).ctxState 900 = 1 := by
  unfold Runs; decide +kernel

theorem witness_deactivate : Runs (ctxS (ctxD 2 0 900 0)) 8 opCtxWrite (ctxD 2 0 900 0) ∧
    (ctxS (ctxD 2 0 900 0)).ctxRefusal (ctxD 2 0 900 0) [] = none ∧ (ctxBody (ctxD 2 0 900 0)).op = 2 ∧
    (nextOf (exec (.deactivate 8 ⟨[], false⟩) (ctxS (ctxD 2 0 900 0)))).ctxState 900 = 0 := by unfold Runs; decide +kernel

theorem witness_setClass : Runs (ctxS (ctxD 3 2 900 0)) 8 opCtxWrite (ctxD 3 2 900 0) ∧
    (ctxS (ctxD 3 2 900 0)).ctxRefusal (ctxD 3 2 900 0) [] = none ∧ (ctxBody (ctxD 3 2 900 0)).op = 3 ∧
    (ctxBody (ctxD 3 2 900 0)).first = 3 * 300 ∧ (ctxS (ctxD 3 2 900 0)).duskAsked = false ∧
    (ctxS (ctxD 3 2 900 0)).classFull 2 = false ∧ (ctxS (ctxD 3 2 900 0)).lpa.changes = [] ∧ (ctxS (ctxD 3 2 900 0)).lpa.swait = [] ∧
    (ctxS (ctxD 3 2 900 0)).lpa.twait = [] ∧ (ctxS (ctxD 3 2 900 0)).chClass 300 ≠ 2 ∧
    (nextOf (exec (.setClass 8 ⟨[], false⟩) (ctxS (ctxD 3 2 900 0)))).lpa.changes = [⟨300, 2, 41⟩] := by unfold Runs; decide +kernel

/-- A CTX_READ of two contexts. -/
def ctxR : Desc := ds 8 opCtxRead 0 (leBytes 4 900 ++ leBytes 2 2 ++ leBytes 2 0 ++ leBytes 8 0x4000 ++ List.replicate 40 0)

theorem witness_ctxRead : Runs (ctxS ctxR) 8 opCtxRead ctxR ∧ ctxR.fld 8 4 = 900 ∧ ctxR.fld 12 2 = 2 ∧ ctxR.fld 16 8 % 8 = 0 ∧
    zeros ctxR.bytes 14 2 = true ∧ zeros ctxR.bytes 24 40 = true ∧
    ((List.range 2).all fun i => (ctxS ctxR).ctxReadable ctxR.dom (900 + i)) = true ∧
    ((nextOf (exec (.ctxRead 8) (ctxS ctxR))).hpt.owed.map fun c => (c.status, c.result)) = [(stOK, 2)] := by
  unfold Runs; decide +kernel

/-- Program 9 is EMPTY and holds one END; its PUBLISH runs; a second command is latched. -/
def prog9 (w : Nat) : State := (fab.store (progAddr 9 + 4) 2 1).store (progBase + 0x10000) 4 w
@[inherit_doc prog9] def pub9 (w : Nat) : State := nextOf (exec (.publish 0 9) (prog9 w))
@[inherit_doc prog9] def pub9r (w : Nat) : State := nextOf (exec (.retire 0 9) (pub9 w))

theorem witness_progCmd : (prog9 0).bar0 0 0x302000 = .act ∧ (prog9 0).lpa.cmd = none ∧ (pub9 0).lpa.cmd = some (1, 9) ∧
    (pub9 0).lpa.cmdNext = none ∧ (pub9 0).bar0 0 0x302000 = .act ∧ (pub9r 0).lpa.cmdNext = some (2, 9) ∧
    (pub9r 0).rd LPA_PROG_STATUS.PENDING = 1 ∧ (pub9r 0).bar0 0 0x302000 = .act ∧
    (nextOf (exec (.publish 0 9) (pub9r 0))).rd LPA_PROG_STATUS.OVERRUN = 1 := by decide +kernel

theorem witness_progCmdDone : (pub9 (2 ^ 26)).publishError 9 = none ∧ (pub9 0).publishError 9 = some (6, some 0) ∧
    (nextOf (exec .progCmdDone (pub9 (2 ^ 26)))).load (progAddr 9 + 8) 2 = 10 ∧
    (nextOf (exec .progCmdDone (pub9 0))).rd LPA_PROG_STATUS.ERROR = 6 ∧
    (nextOf (exec .progCmdDone (nextOf (exec (.retire 0 9) (prog9 0))))).rd LPA_PROG_STATUS.ERROR = 1 ∧
    (nextOf (exec (.retire 0 9) (prog9 0))).lpa.cmd = some (2, 9) := by decide +kernel

/-- The example of R258: the fragment's WCET is 23. -/
theorem test_wcet_example : lisWcet [0x24 * 2 ^ 26 + 2 ^ 21 + 2 ^ 15, 2 * 2 ^ 26 + 2 ^ 24 + 3, 0x10 * 2 ^ 26, 2 * 2 ^ 26 + 2,
    0x12 * 2 ^ 26, 4 * 2 ^ 26, 2 ^ 26] = 23 := by decide

/-! #### Generators, players and streams -/

/-- Generator 3 moves channel 300 from 500 to 900 in steps of 100 codes, from frame 96 on. -/
def gen3 (u : Nat) : Gen := ⟨3, 300, 500, 500, 0, 900, 0, 6553600, 1, 1, 96 + 32 * u, u, 2⟩
@[inherit_doc gen3] def moving (u : Nat) : State := { fab with now := 50, prf := { fab.prf with gens := [gen3 u] } }

theorem witness_profileUpdate : (moving 0).prf.gens.find? (fun g => g.num == (3 : Fin 4096).val) = some (gen3 0) ∧ (gen3 0).u ≤ (gen3 0).last ∧
    (gen3 5).last < (gen3 5).u ∧ (moving 5).prf.gens.find? (fun g => g.num == (3 : Fin 4096).val) = some (gen3 5) ∧
    ((nextOf (exec (.profileUpdate 3) (moving 1))).drv.down.map fun w => (w.code, w.apply)) = [(600, 128)] ∧
    (nextOf (exec (.profileUpdate 3) (moving 5))).prf.gens = [] ∧ (moving 0).pln.cycle = none := by decide +kernel

theorem witness_profileUpdate_early : ((staged7 1 0 0).pln.cycle.map fun c => (c.phase, c.gens, c.early.length, c.c)) =
      some (.staged, [(300, 0)], 0, 40) ∧
    ((staged7 1 0 0).pln.cycle.map fun c => c.stage.map (·.ch)) = some [300] ∧ (staged7 1 0 0).prf.gens = [] ∧ (staged7 1 0 0).drv.queue = [] ∧
    (staged7 1 0 0).drv.down = [] ∧ 44 = 40 + (300 % 32 + 32 - 40 % 32) % 32 ∧
    ((nextOf (exec (.profileUpdate 0) (staged7 1 0 0))).drv.down.map fun w => (w.ch, w.apply, w.rank)) = [(300, 44, 3)] := by
  decide +kernel

/-- Player 2 of channel 300 plays segment 0, two samples 100 and 200 of wave memory, `f` of its flags, at half a sample a frame. -/
def ply (f : Nat) : Player :=
  { num := 2, desc := 11, ch := 300, start := 20, started := true, next := 40, late := none, timelock := false, baseTgt := false, base := 1000
    scale := 16384, dev := 5000, resume := 4, ring := 0x100000, ringLog2 := 12, tailAddr := 0x5000, headAddr := 0x6000, seg := 0
    segv := { stream := bit f 0, interp := bit f 1, wait := bit f 2, next := 255, repeats := 0, start := 0, length := 2, rate := 0 }
    pass := 0, pos := 0, inc := 2 ^ 23, rate := none, passFrames := 0, waiting := false, go := 0, jump := none, buf := [], consumed := 0
    fetched := 64, asked := none, fetchAt := 30, starved := false
    shadow := { seg := 0, pass := 0, pos := 0, inc := 0, frames := 0, waiting := false, ended := false
                segv := { stream := false, interp := false, wait := false, next := 255, repeats := 0, start := 0, length := 2, rate := 0 } }
    back := []
    owed := 0, code := 1000, closing := none
    closers := [], stopDue := false }

/-- A state in which a player is open, its segment 0 of flags `f` in the table. -/
def playing (f : Nat) (x : Player) : State :=
  let s := (((fab.store (waveAddr 2 0) 4 (100 + 65536 * 200)).store (segAddr 2 0) 2 (f + 256 * 255)).store (segAddr 2 0 + 8) 4 2)
  { s with now := 30, prf := { s.prf with players := [x] } }

theorem witness_playerFrameOutput : (playing 0 (ply 0)).player 2 = some (ply 0) ∧ (ply 0).jumpDue = false ∧ (ply 0).closeDue = false ∧
    (ply 0).passOver = false ∧ (playing 0 (ply 0)).playValue (ply 0) = some 100 ∧
    ((nextOf (exec (.playerFrameOutput 2 none) (playing 0 (ply 0)))).drv.down.map fun w => (w.ch, w.code, w.apply)) = [(300, 1100, 40)] ∧
    ((nextOf (exec (.playerFrameOutput 2 none) (playing 0 { ply 0 with waiting := true }))).drv.down.map fun w => w.code) = [1000] := by
  decide +kernel

/-- The pass of the player has ended; its segment plays on, or once and ends the stream, or once and goes on to segment 1. -/
def passed (repeats next : Nat) : Player := { ply 0 with pos := 2 ^ 25 + 5, segv := { (ply 0).segv with repeats := repeats, next := next } }

theorem witness_playerPassEnd : (playing 0 (passed 0 255)).player 2 = some (passed 0 255) ∧ (passed 0 255).passOver = true ∧
    (passed 1 255).passOver = true ∧ (passed 0 255).jumpDue = false ∧
    ((nextOf (exec (.playerPassEnd 2) (playing 0 (passed 0 255)))).player 2).map (fun x => (x.pass, x.pos)) = some (1, 5) ∧
    ((nextOf (exec (.playerPassEnd 2) (playing 0 (passed 1 255)))).player 2).map (fun x => x.stopDue) = some true ∧
    ((nextOf (exec (.playerPassEnd 2) (playing 0 (passed 1 1)))).player 2).map (fun x => (x.seg, x.pass)) = some (1, 0) := by decide +kernel

theorem witness_playerTrigger : (playing 4 { ply 4 with waiting := true }).bar0 0 (0x401008 + 0x40 * 2) = .act ∧
    ((nextOf (exec (.playerTrigger 0 2) (playing 4 { ply 4 with waiting := true }))).player 2).map (fun x => x.go) = some 41 ∧
    (nextOf (exec (.playerTrigger 0 2) (playing 0 (ply 0)))).rd PRF_PL_STATUS.TRIG_PENDING 2 = 1 ∧
    (nextOf (exec (.playerTrigger 0 2) (nextOf (exec (.playerTrigger 0 2) (playing 0 (ply 0)))))).rd PRF_PL_STATUS.TRIG_OVERRUN 2 = 1 := by
  decide +kernel

/-- A jump of the player to segment 0 is pending. -/
def jumping : State := nextOf (exec (.playerJump 0 2) (playing 0 { ply 0 with pos := 2 ^ 24 - 1 }))

theorem witness_playerJump : (jumping.player 2).map (fun x => x.jump) = some (some (0, 0)) ∧
    (nextOf (exec (.playerJump 0 2) jumping)).rd PRF_PL_STATUS.JUMP_OVERRUN 2 = 1 := by decide +kernel

theorem witness_jumpApply : ({ ply 0 with jump := some (0, 0), pos := 2 ^ 24 + 7 } : Player).pos / 2 ^ 24 ≠ 0 ∧
    ((nextOf (exec (.jumpApply 2) (playing 0 { ply 0 with jump := some (0, 0), pos := 2 ^ 24 + 7 }))).player 2).map
      (fun x => (x.pos, x.jump)) = some (7, none) := by decide +kernel

theorem witness_rateWrite : (playing 0 (ply 0)).bar0 0 (0x40100C + 0x40 * 2) = .act ∧
    (nextOf (exec (.rateWrite 0 2 0x80400000) (playing 0 (ply 0)))).rd PRF_PL_RATE.INC 2 = 0x400000 ∧
    ((nextOf (exec (.rateWrite 0 2 0x80400000) (playing 0 (ply 0)))).player 2).map (fun x => x.rate) = some (some (0x400000, true)) ∧
    (nextOf (exec (.rateWrite 0 2 0) (playing 0 (ply 0)))).rd PRF_STATUS.CFG_REJECT = 1 := by decide +kernel

theorem witness_underrun : (playing 1 (ply 1)).player 2 = some (ply 1) ∧ (playing 1 (ply 1)).playValue (ply 1) = none ∧
    (playing 1 (ply 1)).on PRF_PL_STATUS.FETCH_ERR 2 = false ∧
    ((nextOf (exec (.underrun 2) (playing 1 (ply 1)))).player 2).map (fun x => x.starved) = some true := by decide +kernel

theorem witness_underrunResume : ({ ply 1 with starved := true, buf := [1, 2, 3, 4] } : Player).resume ≤ 4 ∧
    ((nextOf (exec (.underrunResume 2) (playing 1 { ply 1 with starved := true, buf := [1, 2, 3, 4] }))).player 2).map (fun x => x.starved) =
      some false := by decide +kernel

/-- A time-locked stream that starves, its shadow in segment 1. -/
def locked : Player := { ply 1 with starved := true, timelock := true, shadow := { (ply 1).shadow with seg := 1, pos := 77 } }

theorem witness_underrunResume_lock : (playing 1 locked).player 2 = some locked ∧ locked.shadow.segv.stream = false ∧
    ((nextOf (exec (.underrunResume 2) (playing 1 locked))).player 2).map (fun x => (x.seg, x.pos, x.starved)) = some (1, 77, false) := by
  decide +kernel

/-- A stream whose fetch has failed starves and has samples left to ask for. -/
def failed : Player := { ply 1 with starved := true, segv := { (ply 1).segv with next := 0 } }
@[inherit_doc failed] def streamFail : State :=
  run1 ((playing 1 failed).wr PRF_PL_STATUS.FETCH_ERR 1 2) (ds 11 opStreamOpen 0 (List.replicate 56 0))

theorem witness_playerFrameOutput_fail : streamFail.player 2 = some failed ∧ failed.passOver = false ∧ failed.buf.length < failed.resume ∧
    streamFail.playValue failed = none ∧ streamFail.on PRF_PL_STATUS.FETCH_ERR 2 = true ∧ (streamFail.desc 11).isSome = true ∧
    ((nextOf (exec (.playerFrameOutput 2 none) streamFail)).hpt.owed.map fun c => c.status) = [stDmaError] := by decide +kernel

/-- A STREAM_OPEN of player 2 on channel `ch` with NOW, from segment 0. -/
def openD (ch : Nat) : Desc :=
  ds 11 opStreamOpen 0 (leBytes 1 2 ++ leBytes 1 1 ++ leBytes 2 ch ++ leBytes 1 0 ++ leBytes 1 0 ++ leBytes 2 16384 ++ leBytes 2 1000 ++
    leBytes 2 0 ++ leBytes 2 0 ++ leBytes 2 0 ++ leBytes 8 0 ++ leBytes 8 0 ++ leBytes 1 12 ++ List.replicate 23 0)
@[inherit_doc openD] def noPlay (d : Desc) : State := run1 { playing 0 (ply 0) with prf := fab.prf } d
@[inherit_doc openD] def opened : State := nextOf (exec (.streamOpen 11) (noPlay (openD 300)))

theorem witness_streamOpen : Runs (noPlay (openD 300)) 11 opStreamOpen (openD 300) ∧ (noPlay (openD 300)).prf.players = [] ∧
    (noPlay (openD 300)).openStatus (openD 300) = stOK ∧ (noPlay (openD 301)).openStatus (openD 301) = stUnboundChannel ∧
    (openD 300).fld 9 1 % 2 = 1 ∧ (opened.prf.players.map fun x => (x.num, x.ch, x.start)) = [(2, 300, 30)] := by unfold Runs; decide +kernel

theorem witness_streamStart : (opened.player 2).map (fun x => (x.started, x.stopDue, x.closers, x.late, x.desc)) =
      some (false, false, [], none, 11) ∧ opened.hasGen 300 = false ∧
    opened.playersOf 300 = [] ∧ opened.inCycle 300 = false ∧ opened.desc 11 = some (openD 300) ∧
    ((nextOf (exec (.streamStart 2) opened)).player 2).map (fun x => x.started) = some true ∧
    ({ opened with prf := { opened.prf with gens := [gen3 0] } } : State).hasGen 300 = true ∧
    ((nextOf (exec (.streamStart 2) { opened with prf := { opened.prf with gens := [gen3 0] } })).hpt.owed.map fun c => c.status) =
      [stChannelBusy] := by decide +kernel

theorem witness_streamFetch : (playing 1 (ply 1)).player 2 = some (ply 1) ∧ (ply 1).asked = none ∧ (ply 1).buf.length + 1024 ≤ 8192 ∧
    (ply 1).ring ≠ 0 ∧ ((128#32).toNat + 2 ^ 32 - (ply 1).fetched % 2 ^ 32) % 2 ^ 32 = 64 ∧
    ((64#32).toNat + 2 ^ 32 - (ply 1).fetched % 2 ^ 32) % 2 ^ 32 = 0 ∧
    (ply 1).fetched % 2 ^ (ply 1).ringLog2 + 64 ≤ 2 ^ (ply 1).ringLog2 ∧
    (playing 1 (ply 1)).readsOut < max 1 ((playing 1 (ply 1)).rd HPT_DMA_CFG.MAX_RD_OUT) ∧
    (nextOf (exec (.streamFetch 2 ⟨none, true⟩) (playing 1 (ply 1)))).on HPT_ERR_STATUS.POISONED 0 = true ∧
    (nextOf (exec (.streamFetch 2 ⟨some 128, false⟩) (playing 1 (ply 1)))).out = [.read 0 0x100040 64, .read 0 0x5000 4] := by decide +kernel

theorem witness_streamFetchDone : ({ ply 1 with asked := some 4 } : Player).owed = 0 ∧
    ((nextOf (exec (.streamFetchDone 2 ⟨some [7, 8], false⟩) (playing 1 { ply 1 with asked := some 4 }))).player 2).map (fun x => (x.buf, x.fetched)) =
      some ([7, 8], 68) ∧
    (nextOf (exec (.streamFetchDone 2 ⟨none, false⟩) (playing 1 { ply 1 with asked := some 4 }))).rd PRF_PL_STATUS.FETCH_ERR 2 = 1 := by
  decide +kernel

/-- A STREAM_CLOSE of player 2 in mode 1. -/
def closeD : Desc := ds 12 opStreamClose 0 (leBytes 1 2 ++ leBytes 1 1 ++ List.replicate 54 0)

theorem witness_streamClose : Runs (run1 opened closeD) 12 opStreamClose closeD ∧ closeD.fld 8 1 = 2 ∧ closeD.fld 9 1 = 1 ∧
    zeros closeD.bytes 10 54 = true ∧ (run1 opened closeD).ownsPlayer 0 2 = true ∧ ((run1 opened closeD).player 2).isSome = true ∧
    (opened.prf.players.map fun x => (x.closing, x.closers)) = [(none, [])] ∧
    ((nextOf (exec (.streamClose 12) (run1 opened closeD))).player 2).map (fun x => (x.closing, x.stopDue)) = some (some (1, 0), true) ∧
    Runs (noPlay closeD) 12 opStreamClose closeD ∧ (noPlay closeD).player 2 = none ∧
    ((nextOf (exec (.streamClose 12) (noPlay closeD))).hpt.owed.map fun c => c.status) = [stNoStream] := by unfold Runs; decide +kernel

/-- The stream is to stop. -/
def stopping : State := { opened with prf := { opened.prf with players := opened.prf.players.map fun x => { x with stopDue := true } } }

theorem witness_streamStop : (stopping.player 2).map (fun x => (x.stopDue, x.late, x.closers)) = some (true, none, []) ∧
    stopping.desc 11 = some (openD 300) ∧
    ((nextOf (exec (.streamStop 2) stopping)).hpt.owed.map fun c => (c.status, c.result)) = [(stOK, 0)] := by decide +kernel

/-! #### Calibration -/

/-- ENABLE and AUTO, with DELTA 100 and REF 2,500 in zone 0; and the same with a reading of 30.00 degrees. -/
def cal0 : State := (((fab.wr CAL_CTL.ENABLE 1).wr CAL_CTL.AUTO 1).wr CAL_DELTA.DELTA 100).wr CAL_ZONE.REF 2500 0
@[inherit_doc cal0] def cal1 : State := nextOf (exec (.tempConversion [(0, 3000)] none) cal0)

theorem witness_tempConversion : cal0.on CAL_CTL.ENABLE = true ∧ cal0.on CAL_CTL.AUTO = true ∧ cal0.on CAL_ZONE.PENDING 0 = false ∧
    cal0.rd CAL_DELTA.DELTA < ((3000#16).toInt - toS 16 (cal0.rd CAL_ZONE.REF 0)).natAbs ∧ cal1.rd CAL_TEMP.TEMP 0 = 3000 ∧
    cal1.rd CAL_TEMP.VALID 0 = 1 ∧ cal1.zoneDue? 0 = true ∧
    (nextOf (exec (.tempConversion [(0, 30000)] none) cal0)).rd CAL_TEMP.SENSOR_BAD 0 = 1 := by decide +kernel

/-- Tile 0 is lost. -/
def calLost : State := { cal1 with saf := { cal1.saf with latches := [⟨0, true, 1, false, false, []⟩] } }

theorem witness_zonePassStart : cal1.zoneDue? 0 = true ∧ cal1.on CAL_ZONE.RUNNING 0 = false ∧ cal1.on CAL_CTL.ENABLE = true ∧
    cal1.dusk = false ∧ cal1.reading 0 = some 3000 ∧ 300 ∈ cal1.zoneUnits 0 ∧
    (nextOf (exec (.zonePassStart 0) cal1)).rd CAL_ZONE.REF 0 = 3000 ∧ cal1.zoneUnits 2 = [] ∧
    ((cal1.zoneUnits 0).all fun u => !cal1.tileLost (unitTile u)) = true ∧
    (calLost.zoneUnits 0).any (fun u => calLost.tileLost (unitTile u)) = true := by decide +kernel

/-- The pass of zone 0 runs, with channel 300 due and in output state `st`; channel 300 is measured; it has been measured. -/
def due (st : Nat) : State :=
  ({ (nextOf (exec (.zonePassStart 0) cal1)) with cal := { cal1.cal with due := [(300, 5)], passes := [⟨0, false, [300], 0, 0⟩] } } : State).chWr
    DRV_CH_STATE.STATE st 300
@[inherit_doc due] def measuring : State := nextOf (exec (.channelMeasureStart 0 9) (due 1))
@[inherit_doc due] def measured : State := nextOf (exec (.channelMeasureDone 0 9 ⟨1, 0, 0, []⟩) measuring)

theorem witness_channelMeasureStart : (due 0).mayMeasure 9 = true ∧ (due 0).nextDue 9 = some 300 ∧ (due 1).mayMeasure 9 = true ∧
    (due 2).mayMeasure 9 = true ∧ (due 2).nextDue 9 = some 300 ∧
    ((nextOf (exec (.channelMeasureStart 0 9) (due 0))).cal.meas.map fun m => (m.unit, m.len, m.behind)) = [(300, 258, false)] ∧
    (measuring.cal.meas.map fun m => (m.unit, m.len, m.behind)) = [(300, 260, true)] ∧ measuring.chRd DRV_CH_STATE.CAL 300 = 1 ∧
    (nextOf (exec (.channelMeasureStart 0 9) (due 2))).rd CAL_SKIP.COUNT = 1 := by decide +kernel

theorem witness_channelMeasureDone : (measuring.cal.meas.find? (fun y => y.group == 9)).map (fun x => x.group) = some 9 ∧
    measured.rd CAL_COUNT.COUNT = 1 ∧ measured.cal.meas = [] ∧ measured.cal.toLog.length = 1 ∧
    (measured.cal.toLog.map fun r => (field r.bytes 0 2, toS 8 (field r.bytes 2 1), toS 8 (field r.bytes 3 1))) = [(300, -9, 1)] := by
  decide +kernel

/-- Both dies run in lockstep, the log's head of die A at record 1, of die B at 5. -/
def logging : State :=
  { (measured.wr LKS_STATUS.ROLE 1 0).wr LKS_STATUS.ROLE 2 1 with flash := { measured.flash with head := [(0, 1), (1, 5)] } }

theorem witness_logAppend : (logging.cal.toLog.map fun r => (r.imported, r.bytes.length, bit (field r.bytes 0 2) 15)) = [(false, 16, false)] ∧
    logging.unwritten true false = false ∧ logging.unwritten false false = true ∧ logging.rd LKS_STATUS.ROLE 0 ≠ 0 ∧
    logging.logHead 0 false < logSize false ∧ logging.logHead 0 false % 4096 ≠ 0 ∧
    (nextOf (exec (.logAppend true false) logging)).logHead 0 false = 2 ∧
    (aget (nextOf (exec (.logAppend true false) logging)).flash.cells 1) = some ((logging.cal.toLog.map LogRec.bytes).flatten) ∧
    (nextOf (exec (.logAppend true false) logging)).rd CAL_STATUS.FLASH_ERR = 1 ∧
    (nextOf (exec (.logAppend false false) logging)).rd CAL_UNSAVED.COUNT = 1 := by decide +kernel

theorem witness_calEnable : fab.bar0 0 0x600000 = .act ∧ fab.cal.enabled = false ∧
    (nextOf (exec (.calEnable 0 true) fab)).zoneDue? 71 = true ∧ (nextOf (exec (.calEnable 0 false) cal0)).rd CAL_CTL.ENABLE = 0 := by
  decide +kernel

/-- A CAL_RUN of operation `op` of `n` items from `first`. -/
def calD (op n first : Nat) : Desc :=
  ds 21 opCalRun 0 (leBytes 1 op ++ leBytes 1 0 ++ leBytes 2 n ++ leBytes 4 first ++ leBytes 8 (if op = 4 then 0x8000 else 0) ++
    leBytes 2 (if op = 4 then 5 else 0) ++ leBytes 2 (if op = 4 then 40 else 0) ++ List.replicate 36 0)
@[inherit_doc calD] def calling (op n first : Nat) : State :=
  run1 ((cal0.wr LKS_STATUS.ROLE 1 0).wr LKS_STATUS.ROLE 2 1) (calD op n first)

theorem witness_calRun_refused : Runs (calling 0 73 0) 21 opCalRun (calD 0 73 0) ∧ (calling 0 73 0).calMayRun 21 = true ∧
    (calD 0 73 0).fld 8 1 = 0 ∧ calBodyOk (calD 0 73 0) = false ∧ calBodyOk (calD 0 72 0) = true ∧
    ((calling 0 72 0).wr CAL_CTL.ENABLE 0).on CAL_CTL.ENABLE = false ∧
    ((nextOf (exec (.zones 21) ((calling 0 72 0).wr CAL_CTL.ENABLE 0))).hpt.owed.map fun c => c.status) = [0x0601] := by
  unfold Runs; decide +kernel

theorem witness_zones : Runs (calling 0 2 4) 21 opCalRun (calD 0 2 4) ∧ (calling 0 2 4).calMayRun 21 = true ∧
    (calD 0 2 4).fld 8 1 = 0 ∧ calBodyOk (calD 0 2 4) = true ∧ (calling 0 2 4).on CAL_CTL.ENABLE = true ∧
    (nextOf (exec (.zones 21) (calling 0 2 4))).rd CAL_PENDING.PENDING 0 = 0x30 := by unfold Runs; decide +kernel

theorem witness_channels : Runs (calling 1 2 300) 21 opCalRun (calD 1 2 300) ∧ (calling 1 2 300).calMayRun 21 = true ∧
    (calD 1 2 300).fld 8 1 = 1 ∧ calBodyOk (calD 1 2 300) = true ∧
    (nextOf (exec (.channels 21) (calling 1 2 300))).cal.due = [(300, 1), (301, 1)] := by unfold Runs; decide +kernel

/-- The record of channel 300 that a measurement gave, and that of channel 301, which no element bears. -/
def recs : List Byte := (measured.cal.toLog.map LogRec.bytes).flatten
@[inherit_doc recs] def badRecs : List Byte := recBytes 301 false 0 0 0 0 2500 1

theorem witness_importRecs : Runs (calling 2 1 0) 21 opCalRun (calD 2 1 0) ∧ (calling 2 1 0).calMayRun 21 = true ∧
    (calD 2 1 0).fld 8 1 = 2 ∧ (calD 2 1 0).fld 10 2 = 1 ∧ calBodyOk (calD 2 1 0) = true ∧ recs.length = 16 ∧
    (calling 2 1 0).importOk recs = true ∧ (calling 2 1 0).importOk badRecs = false ∧
    ((nextOf (exec (.importRecs 21 ⟨recs, false⟩) (calling 2 1 0))).cal.toLog.map LogRec.imported) = [true] ∧
    ((nextOf (exec (.importRecs 21 ⟨badRecs, false⟩) (calling 2 1 0))).hpt.owed.map fun c => c.status) = [0x0602] := by unfold Runs; decide +kernel

/-- A curve of GEN `gen`, with its CHECK. -/
def aCurve (gen : Nat) : List Byte := (leBytes 1 gen ++ List.replicate 27 0) ++ leBytes 4 (crc32c (leBytes 1 gen ++ List.replicate 27 0))

theorem witness_curveWrite : Runs (calling 3 1 100) 21 opCalRun (calD 3 1 100) ∧ (calling 3 1 100).calMayRun 21 = true ∧
    (calD 3 1 100).fld 8 1 = 3 ∧ calBodyOk (calD 3 1 100) = true ∧ (calling 3 1 100).on CAL_CTL.ENABLE = true ∧
    (calling 3 1 100).rd LKS_STATUS.ROLE 0 ≠ 0 ∧ (calling 3 1 100).rd LKS_STATUS.ROLE 1 ≠ 0 ∧ field (aCurve 1) 0 1 ≠ 0 ∧
    crc32c ((aCurve 1).take 28) = field (aCurve 1) 28 4 ∧ field (aCurve 0) 0 1 = 0 ∧
    ((nextOf (exec (.curveWrite 21 ⟨aCurve 1, false⟩ true true) (calling 3 1 100))).hpt.owed.map fun c => (c.status, c.result)) = [(0, 1)] ∧
    nget (nextOf (exec (.curveWrite 21 ⟨aCurve 1, false⟩ true true) (calling 3 1 100))).cal.due 300 ≠ 0 ∧
    ((nextOf (exec (.curveWrite 21 ⟨aCurve 1, false⟩ false false) (calling 3 1 100))).hpt.owed.map fun c => c.status) = [0x0605] ∧
    ((nextOf (exec (.curveWrite 21 ⟨aCurve 0, false⟩ true true) (calling 3 1 100))).hpt.owed.map fun c => c.status) = [0x0602] := by
  unfold Runs; decide +kernel

/-- A sweep of element 100 at two points; its first has been applied at frame 50, or its last. -/
def sweeping (k : Nat) : State :=
  let s := nextOf (exec (.curveSweep 21) (calling 4 2 100))
  { s with cal := { s.cal with sweep := s.cal.sweep.map fun w => { w with k := k, c := some 50 } } }

/-- The ingress port 3 of tenant 1 lights the cell 200, which leads to the egress port 1,030. -/
def tenantLit : State :=
  (((calling 4 2 200).store (elemBase + 1600) 8 (301 + 2 ^ 15 + 2 ^ 32 * 2000)).store (portBase + 48) 12
    (1 + 2 ^ 16 + 2 ^ 32 * 0xFFFF + 2 ^ 80 * 200)).store (fmapBase + 1600) 2 (2 * 2 ^ 14 + 1030)

theorem witness_curveSweep : Runs (calling 4 2 100) 21 opCalRun (calD 4 2 100) ∧ (calling 4 2 100).calMayRun 21 = true ∧
    (calD 4 2 100).fld 8 1 = 4 ∧ calBodyOk (calD 4 2 100) = true ∧ (calling 4 2 100).isElem 100 = true ∧
    (calling 4 2 100).acceptStatus 0 (calD 4 2 100).bytes = stOK ∧ ((sweeping 0).cal.sweep.map fun w => (w.ch, w.count, w.dwell)) = some (300, 2, 40) ∧
    ((sweeping 0).orb.reqs.map fun r => r.moves) = [[(300, 0)]] ∧ tenantLit.isElem 200 = true ∧ tenantLit.livePathThrough 200 = true ∧
    field (calD 4 2 200).bytes 0 1 = opCalRun ∧ field (calD 4 2 200).bytes 12 4 = 200 ∧ tenantLit.ringDom 0 = 0 ∧
    tenantLit.acceptStatus 0 (calD 4 2 200).bytes = 0x0603 := by unfold Runs; decide +kernel

theorem witness_sweepPointDone : (sweeping 0).pln.cycle = none ∧ (sweeping 0).cal.sweep.map (fun w => (w.k, w.final)) = some (0, false) ∧
    ((nextOf (exec .sweepPointDone (sweeping 0))).cal.sweep.map fun w => (w.k, w.final)) = some (1, false) ∧
    (nextOf (exec .sweepPointDone (sweeping 0))).now = 2000 ∧
    ((nextOf (exec .sweepPointDone (sweeping 1))).hpt.owed.map fun c => (c.status, c.result)) = [(0, 2)] := by decide +kernel

theorem witness_monSave : Runs (calling 5 0 0) 21 opCalRun (calD 5 0 0) ∧ (calling 5 0 0).calMayRun 21 = true ∧
    (calD 5 0 0).fld 8 1 = 5 ∧ calBodyOk (calD 5 0 0) = true ∧
    ((nextOf (exec (.monSave 21 true true) (calling 5 0 0))).hpt.owed.map fun c => (c.status, c.result)) = [(0, 4096)] := by
  unfold Runs; decide +kernel

/-! #### Meridian time -/

theorem witness_incrCommit : up.bar0 0 0x700014 = .act ∧ (0x666 : Nat) * 2 ^ 32 + up.rd MER_INCR_LO.INCR = 0x066666666666 ∧
    (nextOf (exec (.incrCommit 0 0x666) (up.wr MER_INCR_LO.INCR 0x66666667))).mer.incr = 0x066666666667 ∧
    (nextOf (exec (.incrCommit 0 0x667) up)).rd MER_STATUS.HOLDOVER = 0 ∧
    (nextOf (exec (.incrCommit 0 0x700) up)).rd MER_STATUS.CFG_REJECT = 1 := by decide +kernel

/-- A slew of −1,280 ticks at 100 ppm begins at frame 5. -/
def slewing : State := nextOf (exec (.slewWrite 0 0xFFFFFB00) { up with now := 5 })

theorem witness_slewWrite : up.bar0 0 0x700018 = .act ∧ slewing.rd MER_SLEW.AMOUNT = 0xFFFFFB00 ∧
    slewing.rd MER_STATUS.SLEWING = 1 := by decide +kernel

theorem witness_slewDone : slewing.on MER_STATUS.SLEWING = true ∧ toS 32 (slewing.rd MER_SLEW.AMOUNT) = -1280 ∧
    slewing.rd MER_SLEW_CFG.PPM = 100 ∧ (nextOf (exec .slewDone slewing)).now = 1005 ∧
    (nextOf (exec .slewDone slewing)).rd MER_STATUS.SLEWING = 0 := by decide +kernel

/-- A step of 3 fast-sample periods and 100 ticks is armed at frame 5; a step of 100 ticks; and a set to second 2. -/
def stepping (lo : Nat) : State := nextOf (exec (.stepArm 0 0) { up.wr MER_STEP_LO.STEP lo with now := 5 })
@[inherit_doc stepping] def setting : State :=
  nextOf (exec (.setArm 0 0) { (up.wr MER_SET_SEC_LO.SEC 2).wr MER_SET_NS.NS 450 with now := 5 })

theorem witness_stepArm : up.bar0 0 0x700024 = .act ∧ (stepping 153700).mer.arm = some (.step 153700, 5) ∧
    (stepping 153700).rd MER_STATUS.STEP_PENDING = 1 := by decide +kernel

theorem witness_setArm : up.bar0 0 0x700030 = .act ∧ setting.mer.arm = some (.set 2 450, 5) := by decide +kernel

theorem witness_timeStepApply : (stepping 153700).pln.cycle = none ∧ fastAt (max (stepping 153700).now (5 + 2)) = 8 ∧
    (stepping 100).mer.arm = some (.step 100, 5) ∧ (stepping 100).on MER_STATUS.SLEWING = false ∧
    (nextOf (exec .timeStepApply (stepping 100))).rd MER_SLEW.AMOUNT = 100 ∧
    (nextOf (exec .timeStepApply (stepping 153700))).now = 20 ∧
    (nextOf (exec .timeStepApply (stepping 153700))).rd MER_LAST_STEP_LO.STEP = 153600 ∧
    (nextOf (exec .timeStepApply (stepping 153700))).rd MER_CNT_STEP.COUNT = 1 := by decide +kernel

theorem witness_timeSetApply : setting.pln.cycle = none ∧ (nextOf (exec .timeSetApply setting)).now = 40000008 ∧
    (nextOf (exec .timeSetApply setting)).rd MER_STATUS.SET = 1 := by decide +kernel

theorem witness_holdoverTimeout : (up.wr MER_SERVO_TMO.MS 5).rd MER_SERVO_TMO.MS ≠ 0 ∧
    (up.wr MER_SERVO_TMO.MS 5).on MER_STATUS.HOLDOVER = false ∧ (up.wr MER_SERVO_TMO.MS 5).on HPT_STATUS.READY = true ∧
    (nextOf (exec .holdoverTimeout (up.wr MER_SERVO_TMO.MS 5))).now = 100000 := by decide +kernel

theorem witness_refclk : up.on MER_STATUS.REFCLK_BAD = false ∧ (nextOf (exec .refclkLoss up)).rd MER_STATUS.REFCLK_BAD = 1 ∧
    (nextOf (exec .refclkRecover (nextOf (exec .refclkLoss up)))).rd MER_STATUS.REFCLK_BAD = 0 := by decide +kernel

/-- Port 0 is enabled, with its link up. -/
def port : State := nextOf (exec (.timingLinkChange 0 true) (up.wr MER_PORT_CFG.ENABLE 1 0))

/-- A layer-2 frame to a destination, of 60 bytes: a Sync of version 2. -/
def l2 (dst : Nat) : List Byte := beBytes 6 dst ++ beBytes 6 5 ++ beBytes 2 0x88F7 ++ [0x00, 0x02] ++ List.replicate 44 0
@[inherit_doc l2] def st7 : Stamp := ⟨7, 100, 0⟩
@[inherit_doc l2] def got : State := nextOf (exec (.frameReceive 0 (l2 0x011B19000000) true st7) port)

theorem witness_timingLinkChange : port.rd MER_PORT_STATUS.LINK 0 = 1 ∧
    (nextOf (exec (.timingLinkChange 1 true) up)).rd MER_PORT_STATUS.LINK 1 = 0 := by decide +kernel

theorem witness_frameReceive : port.on MER_PORT_CFG.ENABLE 0 = true ∧ port.on MER_PORT_STATUS.LINK 0 = true ∧
    (l2 0x011B19000000).length = 60 ∧ port.frameTaken 0 (l2 0x011B19000000) = true ∧ port.frameTaken 0 (l2 0x10) = false ∧
    got.rd MER_RX_HEAD.HEAD 0 = 1 ∧ ((port.wr MER_RX_HEAD.HEAD 31 0).rd MER_RX_HEAD.HEAD 0 + 32 -
      (port.wr MER_RX_HEAD.HEAD 31 0).rd MER_RX_TAIL.TAIL 0) % 32 = 31 ∧
    (nextOf (exec (.frameReceive 0 (l2 0x10) true st7) port)).rd MER_RX_FILTERED.COUNT 0 = 1 ∧
    (nextOf (exec (.frameReceive 0 (l2 0x011B19000000) false st7) port)).rd MER_RX_DROP.COUNT 0 = 1 := by decide +kernel

/-- A frame is stored in transmit slot 2 of port 0 and queued by the command `i`. -/
def queued (i : Instr) : State := nextOf (exec i (port.storeBytes (txAddr 0 2 + 16) (l2 0x011B19000000)))

theorem witness_send : up.bar0 0 (0x700130 + 0x80 * (0 : Fin 2)) = .act ∧ port.txState 0 2 = 0 ∧
    (queued (.send 0 0 2 60)).txState 0 2 = 1 ∧ (queued (.oneStep 0 0 2 60)).mer.txq = [⟨0, 2, 60, 2⟩] ∧
    (nextOf (exec (.sendAndStamp 0 0 2 60) (queued (.send 0 0 2 60)))).rd MER_STATUS.CFG_REJECT = 1 := by decide +kernel

theorem witness_txComplete : (queued (.send 0 0 2 60)).mer.txq = [⟨0, 2, 60, 0⟩] ∧ (queued (.send 0 0 2 60)).on MER_PORT_STATUS.LINK 0 = true ∧
    (nextOf (exec (.txComplete 0 st7) (queued (.send 0 0 2 60)))).txState 0 2 = 2 ∧
    (nextOf (exec (.txComplete 0 st7) (queued (.oneStep 0 0 2 60)))).rd MER_TX_CNT.COUNT 0 = 1 ∧
    (queued (.sendAndStamp 0 0 2 60)).mer.txq = [⟨0, 2, 60, 1⟩] := by decide +kernel

theorem witness_syncTimeout : (port.wr MER_PORT_SYNC_CFG.SYNC_TMO 9 0).rd MER_PORT_SYNC_CFG.SYNC_TMO 0 ≠ 0 ∧
    (port.wr MER_PORT_SYNC_CFG.SYNC_TMO 9 0).on MER_PORT_STATUS.SYNC_LOST 0 = false ∧
    (nextOf (exec (.syncTimeout 0) (port.wr MER_PORT_SYNC_CFG.SYNC_TMO 9 0))).now = 180000 := by decide +kernel

/-- PPS_OUT is enabled 1 µs before each second, and PPS_IN. -/
def pps : State := ((port.wr MER_CTL.PPS_OUT_EN 1).wr MER_CTL.PPS_IN_EN 1).wr MER_PPS_OUT_OFS.OFS (2 ^ 32 - 256000)
@[inherit_doc pps] def edge (n : Nat) : State := (List.range n).foldl (fun s k => nextOf (exec (.ppsInEdge ⟨BitVec.ofNat 48 k, 0, 0⟩) s)) pps

theorem witness_ppsOutPulse : pps.on MER_CTL.PPS_OUT_EN = true ∧ (nextOf (exec .ppsOutPulse pps)).mer.ppsNext = 3 ∧
    (nextOf (exec .ppsOutPulse pps)).now = 19999980 := by decide +kernel

/-- CLK10_OUT has been enabled at frame 4. -/
def clk10 (f : Nat) : State := { ({ up with now := 4 } : State).setClk10 true with now := f }

theorem witness_clk10 : ({ up with now := 4 } : State).on MER_CTL.CLK10_EN = false ∧ ({ up with now := 4 } : State).clk10Out = false ∧
    (clk10 4).clk10Out = false ∧ (clk10 6).clk10Out = true ∧ (clk10 7).clk10Out = false ∧
    ((clk10 8).wr MER_CTL.CLK10_EN 1).on MER_CTL.CLK10_EN = true ∧ ((clk10 8).wr MER_CTL.CLK10_EN 1).clk10Out = true ∧
    ({ ((clk10 8).wr MER_CTL.CLK10_EN 1).setClk10 false with now := 10 } : State).clk10Out = false := by decide +kernel

theorem witness_ppsInEdge : (edge 2).on MER_CTL.PPS_IN_EN = true ∧ (edge 2).mer.pps.length = 2 ∧ (edge 2).mer.lastPps = some ⟨1, 0, 0⟩ ∧
    (nextOf (exec (.ppsInEdge ⟨1, 5, 0⟩) (edge 2))).rd MER_PPS_GLITCH.COUNT = 1 ∧ (edge 5).rd MER_STATUS.PPS_OVERRUN = 1 := by decide +kernel

theorem witness_ppsinPop : (edge 2).bar0 0 0x70008C = .act ∧ (edge 2).mer.pps = [⟨0, 0, 0⟩, ⟨1, 0, 0⟩] ∧
    (nextOf (exec (.ppsinPop 0) (edge 2))).rd MER_PPSIN_STATUS.COUNT = 1 := by decide +kernel

/-! #### Faults -/

/-- A sensor fault has latched, or the injection of one has. -/
def latched : State := nextOf (exec (.faultOccurrence 330 0 0) fab)
@[inherit_doc latched] def injected : State :=
  nextOf (exec (.faultOccurrence 330 0 0) (nextOf (exec (.injectRecord 0 330 9) (fab.wr SAF_CTL.INJ_EN 1))))

theorem witness_faultOccurrence : faultListed 330 = true ∧ fab.saf.raised = [] ∧ fab.latchOf 330 = none ∧ fab.actOf 330 = 1 ∧
    fab.sevOf 330 = 1 ∧ fab.pairOf 330 = false ∧ fab.saf.windows = [] ∧ fab.lks.mismatch = none ∧ fab.duskAsked = false ∧
    latched.saf.latches = [⟨330, true, 1, false, false, []⟩] ∧ latched.rd SAF_STATUS.STATE = 2 ∧ latched.load (fltAddr 330 + 8) 4 = 1 ∧
    (latched.latchOf 330).map (fun l => (l.real, l.ports)) = some (true, []) ∧ latched.saf.raised = [] ∧
    (nextOf (exec (.faultOccurrence 330 5 0) latched)).load (fltAddr 330 + 8) 4 = 2 ∧
    (nextOf (exec (.faultOccurrence 330 5 0) latched)).saf.hist.length = 1 ∧ injected.saf.raised = [] ∧
    (injected.latchOf 330).map (fun l => l.real) = some false ∧
    ((nextOf (exec (.faultOccurrence 330 0 0) injected)).latchOf 330).map (fun l => (l.real, l.seq)) = some (true, 2) := by decide +kernel

theorem witness_faultOccurrence_globe : faultListed 321 = true ∧ fab.latchOf 321 = none ∧ fab.sevOf 321 = 3 ∧ fab.actOf 321 = 4 ∧
    fab.saf.latches.any (fun l => l.globe) = false ∧ (nextOf (exec (.faultOccurrence 321 0 0) fab)).rd SAF_STATUS.GLOBAL_ECLIPSE = 1 ∧
    (nextOf (exec (.faultOccurrence 321 0 0) fab)).rd SAF_CNT_ECLIPSE.COUNT = 1 := by decide +kernel

theorem witness_faultOccurrence_ports : faultListed 1 = true ∧ fab.latchOf 1 = none ∧ fab.actOf 1 = 3 ∧ fab.sevOf 1 < 3 ∧
    fab.faultPorts 1 5 = [1030] ∧
    bit ((nextOf (exec (.faultOccurrence 1 5 0) fab)).rd SAF_PORT_ESC.BITS (1030 / 32)) (1030 % 32) = true := by decide +kernel

/-- FINE_REF, SAMPLE_RING and SGF_LOOP react with a block reset. -/
def blockRst : State := ((fab.store (fltAddr 11 + 1) 1 2).store (fltAddr 206 + 1) 1 2).store (fltAddr 10 + 1) 1 2
@[inherit_doc blockRst] def ringRst : State := nextOf (exec (.faultOccurrence 11 0 0) blockRst)

theorem witness_faultOccurrence_reset : resetKind 11 = some 1 ∧ blockRst.actOf 11 = 2 ∧ blockRst.sevOf 11 < 3 ∧ blockRst.latchOf 11 = none ∧
    blockRst.actOf 206 = 2 ∧ blockRst.actOf 10 = 2 ∧ ringRst.saf.resets = [(11, 2)] ∧ (ringRst.saf.windows.map fun w => w.reach) = [[11]] ∧
    (nextOf (exec (.faultOccurrence 206 0 0) blockRst)).saf.resets = [(206, 1)] ∧
    (nextOf (exec (.faultOccurrence 10 0 0) blockRst)).saf.resets = [(10, 40000)] := by decide +kernel

/-- A tile is lost whose gate channel 300 has a triplicated word. -/
def gated : State := (((fab.store (elemBase + 800) 8 (300 + 2 ^ 15 + 2 ^ 24 + 2 ^ 32 * 2000)).chWr DRV_CH_GATEW.GATE 1 300).store (fltAddr 0 + 1) 1 1)

theorem witness_faultOccurrence_tile : gated.actOf 0 ≤ 1 ∧ gated.sevOf 0 < 3 ∧ gated.pairOf 0 = false ∧ gated.latchOf 0 = none ∧
    300 ∈ gated.gateChannels ∧ (nextOf (exec (.faultOccurrence 0 0 0) gated)).chRd DRV_CH_GATEW.LOSTBLK 300 = 1 := by decide +kernel

theorem witness_blockResetDone : ringRst.saf.resets.find? (fun r => resetKind r.1 == some 1) = some (11, 2) ∧
    (nextOf (exec (.blockResetDone 1) ringRst)).saf.resets = [] ∧
    ({ up with saf := { up.saf with resets := [(205, 3)] } } : State).saf.resets.find? (fun r => resetKind r.1 == some 4) = some (205, 3) ∧
    up.on HPT_STATUS.LINK_UP 0 = false := by decide +kernel

theorem witness_conseqWindowEnd : (ringRst.saf.windows.map fun w => w.last) = [40] ∧ (nextOf (exec .conseqWindowEnd ringRst)).now = 41 ∧
    (nextOf (exec .conseqWindowEnd ringRst)).saf.windows = [] := by decide +kernel

theorem witness_faultPairRefreshTimeout : up.pins.fault = 0 ∧ ({ up with pins := { up.pins with fault := 1 } } : State).pins.fault ≠ 0 ∧
    (nextOf (exec .faultPairRefreshTimeout { up with pins := { up.pins with fault := 1 } })).pins.fault = 2 := by decide +kernel

theorem witness_safeN : up.on SAF_STATUS.SAFE_N_REQ = false ∧ (nextOf (exec .safeNRequest up)).rd SAF_STATUS.SAFE_N_REQ = 1 ∧
    (nextOf (exec .safeNRelease (nextOf (exec .safeNRequest up)))).rd SAF_STATUS.SAFE_N_REQ = 0 := by decide +kernel

theorem witness_inject : fab.bar0 0 0x800014 = .act ∧ (fab.wr SAF_CTL.INJ_EN 1).on SAF_CTL.INJ_EN = true ∧
    ((nextOf (exec (.injectReact 0 330 9) (fab.wr SAF_CTL.INJ_EN 1))).saf.raised.map fun o => (o.source, o.inj)) = [(330, 2)] ∧
    (nextOf (exec (.injectRecord 0 336 9) (fab.wr SAF_CTL.INJ_EN 1))).rd SAF_STATUS.INJ_REFUSED = 1 ∧
    (nextOf (exec (.injectRecord 0 511 9) (fab.wr SAF_CTL.INJ_EN 1))).rd SAF_STATUS.INJ_REFUSED = 1 ∧
    (nextOf (exec (.injectRecord 0 330 9) fab)).rd SAF_STATUS.INJ_REFUSED = 1 := by decide +kernel

/-- Software has asked for global Eclipse, and the source has latched. -/
def swEcl : State := nextOf (exec (.swEclipse 0 true) fab)
@[inherit_doc swEcl] def eclipsed : State := nextOf (exec (.faultOccurrence 321 0 0) swEcl)

theorem witness_swEclipse : fab.bar0 0 0x800000 = .act ∧ fab.on SAF_CTL.SW_ECLIPSE = false ∧ swEcl.on SAF_CTL.SW_ECLIPSE = true ∧
    fab.rd SEC_STATUS.DBG_LEVEL ≠ 2 ∧ (nextOf (exec (.swEclipse 0 false) swEcl)).rd SAF_CTL.SW_ECLIPSE = 0 ∧
    (nextOf (exec (.swEclipse 0 false) (swEcl.wr SEC_STATUS.DBG_LEVEL 2))).rd SAF_STATUS.CFG_REJECT = 1 := by decide +kernel

theorem witness_safFirstClr : latched.bar0 0 0x800000 = .act ∧ latched.rd SAF_FIRST_W0.ENTRY ≠ 0 ∧
    (nextOf (exec (.safFirstClr 0) latched)).rd SAF_FIRST_W0.ENTRY = 0 := by decide +kernel

theorem witness_safHistPop : latched.bar0 0 0x800030 = .act ∧ latched.saf.hist.length = 1 ∧
    (nextOf (exec (.safHistPop 0) latched)).saf.hist = [] ∧ (nextOf (exec (.safHistPop 0) latched)).rd SAF_STATUS.STATE = 2 := by
  decide +kernel

/-- The request for Eclipse is gone, its source still latched. -/
def calmed : State := nextOf (exec (.swEclipse 0 false) eclipsed)

theorem witness_safClr : eclipsed.bar0 0 0x800010 = .act ∧ (eclipsed.latchOf 321).isSome = true ∧ eclipsed.causeNow 321 = true ∧
    (nextOf (exec (.safClrSource 0 321) eclipsed)).rd SAF_STATUS.CLR_REFUSED = 1 ∧ calmed.causeNow 321 = false ∧
    (calmed.saf.latches.map fun l => (l.source, l.globe)) = [(321, true)] ∧ (nextOf (exec (.safClrAll 0) calmed)).saf.latches = [] ∧
    ((nextOf (exec (.safClrAll 0) calmed)).orb.reqs.map fun r => r.origin) = [.reapply] := by decide +kernel

/-- An ECLIPSE_CLEAR of operation `op`, of `count` sources from 321, with CFLAGS HIST and FREC. -/
def clrD (op count : Nat) : Desc :=
  ds 31 opEclipseClear 0 (leBytes 1 op ++ leBytes 1 3 ++ leBytes 2 count ++ leBytes 2 (if op = 0 then 321 else 0) ++ List.replicate 50 0)

theorem witness_eclipseClear : Runs (run1 calmed (clrD 0 1)) 31 opEclipseClear (clrD 0 1) ∧ (clrD 0 1).fld 8 1 = 0 ∧
    clearBodyOk (clrD 0 1) = true ∧ clearBodyOk (clrD 0 0) = false ∧ (clrD 1 0).fld 8 1 = 1 ∧ clearBodyOk (clrD 1 0) = true ∧
    (run1 calmed (clrD 0 1)).saf.clears = [] ∧
    ((nextOf (exec (.eclipseClearSources 31) (run1 eclipsed (clrD 0 1)))).hpt.owed.map fun c => (c.status, c.result)) =
      [(stCausePresent, 321)] ∧
    ((nextOf (exec (.eclipseClearAll 31) (run1 calmed (clrD 1 0)))).saf.clears.map fun w => (w.desc, w.count)) = [(31, 1)] ∧
    ((nextOf (exec (.eclipseClearAll 31) (run1 latched (clrD 1 0)))).hpt.owed.map fun c => (c.status, c.result)) = [(0, 1)] ∧
    (nextOf (exec (.eclipseClearAll 31) (run1 latched (clrD 1 0)))).saf.hist = [] := by unfold Runs; decide +kernel

/-! #### Lockstep -/

/-- Die A is ACTIVE and die B STANDBY; or DETACHED. -/
def pair : State := { ((fab.wr LKS_STATUS.ROLE 2 0).wr LKS_STATUS.ROLE 1 1).wr LKS_CTL.CMP_EN 1 with now := 100 }
@[inherit_doc pair] def alone : State := { (fab.wr LKS_STATUS.ROLE 2 0).wr LKS_STATUS.ROLE 0 1 with now := 100 }

theorem witness_lockstepMismatch : pair.on LKS_CTL.CMP_EN = true ∧ pair.standby? = some 1 ∧ pair.role pair.active = 2 ∧
    pair.frozen (3 : Fin 8) = false ∧ pair.on LKS_MISMATCH.VALID = false ∧
    (nextOf (exec (.lockstepMismatch 3 1 6200) pair)).frozen 3 = true ∧
    (nextOf (exec (.lockstepMismatch 3 1 6200) pair)).rd LKS_MISMATCH_FRAME.FRAME = 98 ∧
    (nextOf (exec (.lockstepMismatch 3 1 6200) pair)).lks.failed = [] := by decide +kernel

/-- A mismatch of tile 3 is to be resolved. -/
def differ : State := nextOf (exec (.lockstepMismatch 3 1 6200) pair)

theorem witness_mismatchResolve : differ.lks.mismatch = some (100, 3) ∧ differ.lks.failed = [] ∧ differ.standby? = some 1 ∧
    (∀ d : Fin 2, differ.on LKS_STATUS.HOLD d = false) ∧ (nextOf (exec (.mismatchResolve true false) differ)).role 1 = 2 ∧
    (nextOf (exec (.mismatchResolve false true) differ)).role 1 = 0 ∧
    (nextOf (exec (.mismatchResolve false false) differ)).rd LKS_STATUS.HOLD 1 = 1 ∧
    (nextOf (exec (.mismatchResolve true false) differ)).frozen 3 = false := by decide +kernel

/-- The standby, or the active die, has missed one heartbeat, in the frame before. -/
def missed (o : Fin 2) : State := { nextOf (exec (.heartbeatMiss o) pair) with now := 101 }

theorem witness_heartbeatMiss : pair.role 0 ≠ 0 ∧ pair.role 1 ≠ 0 ∧ nget pair.lks.missAt 1 = 0 ∧ nget (missed 1).lks.missAt 1 = 101 ∧
    (missed 1).role 1 = 1 ∧ (missed 1).role 0 = 2 ∧
    (nextOf (exec (.heartbeatMiss 0) (missed 0))).role 1 = 0 ∧ (missed 1).rd LKS_CNT_HB_MISS.COUNT = 1 := by decide +kernel

/-- A good frame, one of a tile whose supply is out of range, and none. -/
def upF (valid vdd : Bool) : UpFrame := ⟨valid, true, true, vdd, true, 3000, 70⟩

/-- Die B has missed tile 2's frames four times, and die A three times. -/
def deaf : State := { pair with lks := { pair.lks with upMiss := [(4, 3), (5, 4)] } }

theorem witness_upstreamLinkFrame : pair.on HPT_STATUS.READY = true ∧ (upF true true).valid = true ∧ (upF true false).vddOk = false ∧
    nget (nextOf (exec (.upstreamLinkFrame 0 2 (upF true true)) pair)).pwr.vhv 2 = 3001 ∧ pair.cause (srcTile 2 0) = false ∧
    ((nextOf (exec (.upstreamLinkFrame 0 2 (upF true false)) pair)).saf.raised.map fun o => o.source) = [48] := by decide +kernel

theorem witness_upstreamLinkFrame_missed : deaf.on HPT_STATUS.READY = true ∧ (upF false true).valid = false ∧ nget deaf.lks.upMiss 4 = 3 ∧
    nget deaf.lks.upMiss 5 = 4 ∧ deaf.cause (srcTile 2 0) = false ∧
    ((nextOf (exec (.upstreamLinkFrame 0 2 (upF false true)) deaf)).saf.raised.map fun o => o.source) = [48] := by decide +kernel

/-- A FAILOVER of operation `op`, for KEEP of die `k`. -/
def foD (op k : Nat) : Desc := ds 41 opFailover 0 (leBytes 1 op ++ leBytes 1 k ++ List.replicate 54 0)

/-- A hold is in force. -/
def held : State := nextOf (exec (.mismatchResolve false false) differ)

theorem witness_failover_refused : Runs (run1 alone (foD 0 0)) 41 opFailover (foD 0 0) ∧ (foD 2 0).fld 8 1 = 2 ∧ (foD 3 1).fld 8 1 = 3 ∧
    alone.lks.pending = none ∧ alone.standby? = none ∧ pair.detached? = none ∧ alone.held_ = false ∧ failoverBodyOk (foD 0 0) = true ∧
    failoverBodyOk (foD 3 1) = true ∧ failoverBodyOk (foD 0 1) = false ∧
    ((nextOf (exec (.switch 41) (run1 alone (foD 0 0)))).hpt.owed.map fun c => c.status) = [0x0901] ∧
    ((nextOf (exec (.resync 41) (run1 pair (foD 2 0)))).hpt.owed.map fun c => c.status) = [0x0904] ∧
    ((nextOf (exec (.keep 41) (run1 pair (foD 3 0)))).hpt.owed.map fun c => c.status) = [0x0905] ∧ alone.bar0 0 0x900004 = .act ∧
    (nextOf (exec (.lksCmdDetach 0) alone)).rd LKS_CMD_STATUS.STATUS = 0x0901 := by unfold Runs; decide +kernel

/-- A SWITCH of the register waits. -/
def switching : State := nextOf (exec (.lksCmdSwitch 0) pair)

theorem witness_failover_busy : switching.lks.pending = some ⟨0, none, 102⟩ ∧ switching.standby?.isSome = true ∧
    Runs (run1 switching (foD 1 0)) 41 opFailover (foD 1 0) ∧ failoverBodyOk (foD 1 0) = true ∧
    ((nextOf (exec (.detach 41) (run1 switching (foD 1 0)))).hpt.owed.map fun c => c.status) = [0x0902] ∧
    (nextOf (exec (.lksCmdSwitch 0) switching)).rd LKS_CMD_STATUS.STATUS = 0x0902 ∧ switching.bar0 0 0x900004 = .act := by
  unfold Runs; decide +kernel

theorem witness_switch : Runs (run1 pair (foD 0 0)) 41 opFailover (foD 0 0) ∧ pair.standby? = some 1 ∧ pair.lks.pending = none ∧
    pair.bar0 0 0x900004 = .act ∧ (nextOf (exec (.switch 41) (run1 pair (foD 0 0)))).lks.pending.isSome = true ∧
    (nextOf (exec (.switchEffect) (nextOf (exec (.switch 41) (run1 pair (foD 0 0)))))).role 1 = 2 ∧
    ((nextOf (exec (.switchEffect) (nextOf (exec (.switch 41) (run1 pair (foD 0 0)))))).hpt.owed.map fun c => c.result) = [514] ∧
    pair.pln.cycle = none := by unfold Runs; decide +kernel

theorem witness_detach : Runs (run1 pair (foD 1 0)) 41 opFailover (foD 1 0) ∧ (foD 1 0).fld 8 1 = 1 ∧ pair.pmc.snaps = [] ∧
    (nextOf (exec (.detach 41) (run1 pair (foD 1 0)))).role 1 = 0 ∧ (nextOf (exec (.lksCmdDetach 0) pair)).role 1 = 0 := by
  unfold Runs; decide +kernel

theorem witness_resync : alone.detached? = some 1 ∧ Runs (run1 alone (foD 2 0)) 41 opFailover (foD 2 0) ∧ failoverBodyOk (foD 2 0) = true ∧
    (nextOf (exec (.resync 41) (run1 alone (foD 2 0)))).lks.pending = some ⟨2, some 41, 1⟩ ∧
    (nextOf (exec (.lksCmdResync 0) alone)).lks.pending = some ⟨2, none, 1⟩ ∧
    (nextOf (exec (.resyncJoin true) (nextOf (exec (.resync 41) (run1 alone (foD 2 0)))))).role 1 = 1 ∧
    ((nextOf (exec (.resyncJoin false) (nextOf (exec (.resync 41) (run1 alone (foD 2 0)))))).hpt.owed.map fun c => c.status) = [0x0906] := by
  unfold Runs; decide +kernel

theorem witness_keep : held.held_ = true ∧ held.lks.pending = none ∧ Runs (run1 held (foD 3 1)) 41 opFailover (foD 3 1) ∧
    (foD 3 1).fld 9 1 = (1 : Fin 2).val ∧ held.bar0 0 0x900004 = .act ∧ (nextOf (exec (.keep 41) (run1 held (foD 3 1)))).role 1 = 2 ∧
    (nextOf (exec (.lksCmdKeep 0 0) held)).role 1 = 0 := by unfold Runs; decide +kernel

/-- Die B has just taken over. -/
def lagging : State := nextOf (exec (.mismatchResolve true false) differ)

theorem witness_lagClose : lagging.on LKS_STATUS.LAGGING lagging.active = true ∧ lagging.pln.cycle = none ∧
    (nextOf (exec .lagClose lagging)).rd LKS_STATUS.LAGGING 1 = 0 ∧
    (nextOf (exec .lagClose (nextOf (exec (.mismatchResolve true false) { differ with now := 500010 })))).now = 500014 := by decide +kernel

theorem witness_dieRestart : pair.role (1 : Fin 2) ≠ 2 ∧ pair.role (1 - (1 : Fin 2).val) = 2 ∧ pair.role 1 ≤ 1 := by decide +kernel

/-! #### Memory, bus and events -/

/-- Group 4 of die B is at level 15, the tracker of word 9 at its third correction. -/
def corr (level : Nat) (ts : List Track) : State :=
  { (fab.wr MEM_BKT_LEVEL.LEVEL level 1 4).wr MEM_CTL.REMAP_EN 1 1 with now := 30, mig := { fab.mig with tracks := ts } }

theorem witness_bucketLeak : (corr 15 []).rd MEM_BKT_CFG.LEAK_MS 1 4 = 1000 ∧ (nextOf (exec (.bucketLeak 1 4) (corr 15 []))).now = 20000000 ∧
    (nextOf (exec (.bucketLeak 1 4) (corr 15 []))).rd MEM_BKT_LEVEL.LEVEL 1 4 = 14 := by decide +kernel

/-- A SCRUB_RANGE of `n` words of group `g` from word 8, with its summary to 0x9000. -/
def scrD (g n : Nat) : Desc :=
  ds 51 opScrubRange 0 (leBytes 1 g ++ leBytes 1 0 ++ leBytes 2 0 ++ leBytes 4 8 ++ leBytes 4 n ++ leBytes 4 0 ++ leBytes 8 0x9000 ++
    List.replicate 32 0)
@[inherit_doc scrD] def scrubbed (l : Nat) (ts : List Track) (ws : List ScrubWord) : State :=
  nextOf (exec (.scrubRange 51 ws) (run1 (corr l ts) (scrD 4 16)))

theorem witness_scrubRange : Runs (run1 (corr 0 []) (scrD 4 16)) 51 opScrubRange (scrD 4 16) ∧ (corr 0 []).mig.scrub = none ∧
    ((run1 (corr 0 []) (scrD 4 16)).hpt.accepted.map fun x => x.id) = [51] ∧ scrubBodyOk (scrD 4 16) = true ∧ scrubBodyOk (scrD 15 16) = false ∧
    (scrD 4 16).fld 8 1 = 4 ∧ (scrD 4 16).fld 12 4 = 8 ∧ (scrubbed 0 [] []).rd MEM_STATUS.SCRUB_BUSY 1 = 1 ∧
    (scrubbed 2 [] [⟨1, 1, false⟩]).rd MEM_BKT_LEVEL.LEVEL 1 4 = 3 ∧ (corr 15 []).rd MEM_BKT_CFG.CAP 1 4 = 16 ∧
    ((scrubbed 15 [] [⟨1, 1, false⟩]).saf.raised.map fun o => o.source) = [261] ∧
    ((scrubbed 0 [] [⟨1, 1, true⟩]).saf.raised.map fun o => (o.source, o.info)) = [(260, 9)] := by unfold Runs; decide +kernel

theorem witness_scrubRange_persistent : (∀ f ∈ [9, 7, 5], (corr 0 [⟨1, 4, 0, 9, [9, 7, 5]⟩]).now ≤ f + 20000 * (corr 0 [⟨1, 4, 0, 9, [9, 7, 5]⟩]).rd MEM_BKT_CFG.LEAK_MS 1 4) ∧
    (∀ e < 8, (corr 0 [⟨1, 4, 0, 9, [9, 7, 5]⟩]).on MEM_PERSIST_W0.VALID 1 e = false) ∧ (corr 0 []).on MEM_CTL.REMAP_EN 1 = true ∧
    (corr 0 []).rd MEM_REMAP_USED.ROWS 1 < 16 ∧ (scrubbed 0 [⟨1, 4, 0, 9, [9, 7, 5]⟩] [⟨1, 1, false⟩]).rd MEM_PERSIST_W0.ADDR 1 0 = 9 ∧
    (scrubbed 0 [⟨1, 4, 0, 9, [9, 7, 5]⟩] [⟨1, 1, false⟩]).mig.copies = [(8, 70)] := by decide +kernel

theorem witness_remapSwitch : (8 : Nat) / 8 = (1 : Fin 2).val ∧
    (nextOf (exec (.remapSwitch 1) (scrubbed 0 [⟨1, 4, 0, 9, [9, 7, 5]⟩] [⟨1, 1, false⟩]))).rd MEM_PERSIST_W0.REMAP 1 0 = 2 ∧
    (nextOf (exec (.remapSwitch 1) (scrubbed 0 [⟨1, 4, 0, 9, [9, 7, 5]⟩] [⟨1, 1, false⟩]))).mig.copies = [] := by decide +kernel

theorem witness_scrubDone : ((scrubbed 0 [] [⟨1, 1, true⟩]).mig.scrub.map fun c => c.desc) = some 51 ∧
    (scrubbed 0 [] [⟨1, 1, true⟩]).desc 51 = some (scrD 4 16) ∧
    ((nextOf (exec .scrubDone (scrubbed 0 [] [⟨1, 1, true⟩]))).hpt.owed.map fun c => (c.status, c.result)) = [(0x0A02, 0)] ∧
    ((nextOf (exec .scrubDone (scrubbed 0 [] [⟨1, 1, false⟩]))).hpt.owed.map fun c => (c.status, c.result)) = [(0, 1)] := by decide +kernel

/-- Requests of a master for 40 bytes; an arbiter of target 0 whose bulk request has waited. -/
def req (m : Fin 16) : BusReq := ⟨m, true, 0x100, 40⟩
@[inherit_doc req] def bus (wait : Nat) : State := { up with bmx := { up.bmx with arbs := [(0, ⟨wait, 11, 15, 8, 0, []⟩)] } }

theorem witness_busAccess_error : (req 0).master.val ∉ pathMasters (0 : Fin 18) ∧ up.on BMX_ERR_INFO.VALID 0 = false ∧
    (nextOf (exec (.busAccess 0 0 [req 0]) up)).rd BMX_CNT_ERR.COUNT 0 = 1 ∧
    (nextOf (exec (.busAccess 0 17 [req 8]) up)).rd BMX_ERR_INFO.MASTER 0 = 8 := by decide +kernel

theorem witness_busAccess : aget (bus 3).bmx.arbs (32 * (0 : Fin 2).val + (0 : Fin 18).val) = some ⟨3, 11, 15, 8, 0, []⟩ ∧
    (req 8).master.val ∈ pathMasters (0 : Fin 18) ∧ (req 12).master.val ∈ pathMasters (0 : Fin 18) ∧
    (bus 3).busRank 0 0 11 < (bus 3).busRank 0 0 8 ∧
    ((nextOf (exec (.busAccess 0 0 [req 8, req 12]) (bus 3))).bmx.arbs.map fun x => (x.2.parked, x.2.bulkWait)) = [(8, 4)] ∧
    ((nextOf (exec (.busAccess 0 0 [req 8, req 12]) (bus 15))).bmx.arbs.map fun x => (x.2.parked, x.2.bulkWait)) = [(12, 0)] ∧
    ((nextOf (exec (.busAccess 0 0 [req 8, req 11]) (bus 3))).bmx.arbs.map fun x => (x.2.parked, x.2.busy)) = [(8, 3)] ∧
    aget up.bmx.arbs (32 * (0 : Fin 2).val + (0 : Fin 18).val) = none := by decide +kernel

/-- Source 5 drives channel 7, which is enabled and takes one event in a millisecond; it has `occ` occurrences. -/
def sgf (occ : List Nat) : State :=
  let s := ((fab.store (srcAddr 5) 2 (7 + 256)).store (chanAddr 7 + 1) 1 1).store (chanAddr 7 + 2) 2 1
  { s with now := 100, sgf := { s.sgf with occ := occ } }
@[inherit_doc sgf] def fired : State := nextOf (exec (.eventFire 5) (sgf [5, 5, 5, 5]))
@[inherit_doc sgf] def heldEv : State := nextOf (exec (.eventFire 5) fired)

theorem witness_softwareEvent : up.bar0 0 (0xB00010 + 4 * (1 : Fin 2)) = .act ∧
    (nextOf (exec (.softwareEvent 0 1 0x80000001) up)).sgf.occ = [32, 63] := by decide +kernel

theorem witness_eventFire : srcListed 5 = true ∧ heldEv.mayFire 5 = true ∧ (sgf [5]).srcEn 5 = true ∧ srcTileOf 5 = none ∧ nget (sgf [5]).sgf.rearm 5 = 0 ∧
    (sgf [5]).mayDrive ((sgf [5]).srcOwner 5) ((sgf [5]).srcCh 5) = true ∧ (sgf [5]).srcCh 5 = 7 ∧ (sgf [5]).chanEn 7 = true ∧
    fired.load (chanAddr 7 + 8) 4 = 1 ∧ nget fired.sgf.rearm 5 = 141 ∧ fired.wordBit SGF_LOOP_OFF.OFF 7 = false ∧
    heldEv.srcHeld 5 = true ∧ (nextOf (exec (.eventFire 5) heldEv)).rd SGF_CNT_SUPPRESS.COUNT = 1 ∧ srcTileOf 300 = some 2 ∧
    fab.tileLost 2 = false := by decide +kernel

theorem witness_eventFire_drop : ((sgf [5]).store (chanAddr 7 + 1) 1 0).chanEn 7 = false ∧
    (nextOf (exec (.eventFire 5) ((sgf [5]).store (chanAddr 7 + 1) 1 0))).rd SGF_CNT_DROP.COUNT = 1 ∧
    (nextOf (exec (.eventFire 5) { sgf [5] with sgf := { (sgf [5]).sgf with fired := [(7, 101)] } })).rd SGF_CNT_COINCIDE.COUNT = 1 := by
  decide +kernel

theorem witness_eventFire_boundary : nget (sgf []).sgf.rearm 449 = 0 ∧ (sgf []).srcEn 449 = false ∧
    nget (nextOf (exec (.eventFire 449) (sgf []))).sgf.rearm 449 = 20041 ∧
    ((sgf []).store (srcAddr 449) 2 (7 + 256)).srcEn 449 = true ∧
    (nextOf (exec (.eventFire 449) ((sgf []).store (srcAddr 449) 2 (7 + 256)))).now = 20000 ∧
    nget (nextOf (exec (.eventFire 449) ((sgf []).store (srcAddr 449) 2 (7 + 256)))).sgf.rearm 449 = 20041 := by decide +kernel

/-- The source fires again at its re-arming: the channel exceeds its limit. -/
def loopOff : State := nextOf (exec (.sourceRearm 5) heldEv)

theorem witness_sourceRearm : nget heldEv.sgf.rearm 5 = 140 + 1 ∧ heldEv.srcEn 5 = true ∧ loopOff.now = 140 ∧
    loopOff.load (srcAddr 5 + 4) 4 = 2 ∧ nget heldEv.sgf.msAt 7 = heldEv.msNow + 1 ∧
    heldEv.load (chanAddr 7 + 2) 2 ≤ heldEv.load (chanAddr 7 + 12) 2 ∧ loopOff.wordBit SGF_LOOP_OFF.OFF 7 = true ∧
    nget (nextOf (exec (.sourceRearm 5) fired)).sgf.rearm 5 = 0 := by decide +kernel

theorem witness_loopReenable : loopOff.bar0 0 (0xB00060 + 4 * (0 : Fin 8)) = .act ∧
    (nextOf (exec (.loopReenable 0 0 0x80) loopOff)).wordBit SGF_LOOP_OFF.OFF 7 = false ∧
    nget (nextOf (exec (.loopReenable 0 0 0x80) loopOff)).sgf.backAt 7 = 141 ∧
    (nextOf (exec (.loopReenable 0 0 0x40) loopOff)).wordBit SGF_LOOP_OFF.OFF 7 = true := by decide +kernel

/-- Timer 9 is enabled, at a time 10 frames on, or past, or 20 s on. -/
def timer (periodic lo hi : Nat) : State :=
  nextOf (exec (.timerArm 0 9 (BitVec.ofNat 32 hi)) ((((sgf []).wr SGF_TMR_CTL.EN 1 9).wr SGF_TMR_CTL.PERIODIC periodic 9).wr SGF_TMR_TIME_LO.TICKS lo 9))

theorem witness_timerArm : up.bar0 0 (0xB01008 + 0x10 * (9 : Fin 64)) = .act ∧ (sgf []).on SGF_TMR_CTL.EN 9 = false ∧
    (sgf []).now ≤ (sgf []).frameAt (12800 * 110) ∧ nget (timer 0 (12800 * 110) 0).sgf.timers 9 = 111 ∧
    (timer 0 5 0).rd SGF_TMR_CTL.LATE 9 = 1 ∧ nget (timer 0 5 0).sgf.timers 9 = 101 ∧ (timer 0 0 0x70000000).rd SGF_TMR_CTL.TIME_ERR 9 = 1 := by
  decide +kernel

theorem witness_timerFire : (nextOf (exec (.timerFire 9) (timer 0 (12800 * 110) 0))).sgf.occ = [73] ∧
    nget (nextOf (exec (.timerFire 9) (timer 1 (12800 * 110) 0))).sgf.timers 9 = 151 := by decide +kernel

/-! #### Security and counters -/

/-- Key words 1 to 8 are loaded into slot 0; a nonce 5 stands, and the response words hold `r`. -/
def keyed : State := nextOf (exec (.keyLoad 0 0) ((List.range 8).foldl (fun t i => t.wr SEC_KEY_W.KEY (i + 1) i) fab))
@[inherit_doc keyed] def asked (r : List Byte) : State :=
  (List.range 4).foldl (fun t i => t.wr SEC_DBG_RESP_W.RESP (field r (4 * i) 4) i) (nextOf (exec (.dbgChallenge 0 5) keyed))

/-- The key of slot 0, and the right response for a level. -/
def key0 : List Byte := (List.range 8).flatMap fun i => leBytes 4 (i + 1)
@[inherit_doc key0] def right (l : Nat) : List Byte := (hmac256 key0 (leBytes 16 5 ++ leBytes 1 l)).take 16

theorem witness_keyLoad : fab.bar0 0 0xD00010 = .act ∧ fab.sec.keyAt ≠ fab.now + 1 ∧ aget keyed.sec.keys 0 = some key0 ∧
    keyed.rd SEC_KEY_STATUS.LOADED = 1 ∧ keyed.rd SEC_KEY_W.KEY 3 = 0 := by decide +kernel

theorem witness_keyErase : ({ keyed with now := 9 } : State).sec.keyAt ≠ 9 + 1 ∧ keyed.sec.keyAt = keyed.now + 1 ∧
    aget (nextOf (exec (.keyErase 0 0) { keyed with now := 9 })).sec.keys 0 = none ∧
    (nextOf (exec (.keyErase 0 0) keyed)).rd SEC_STATUS.CFG_REJECT = 1 ∧
    (nextOf (exec (.keyLoad 0 17) fab)).rd SEC_STATUS.CFG_REJECT = 1 := by decide +kernel

/-- ERASE is set, and condition 2 enabled but not condition 4. -/
def alarmed : State := nextOf (exec (.tamperAlarm 2) ((keyed.wr SEC_ALARM_CFG.ERASE 1).wr SEC_ALARM_CFG.EN 0xF))

theorem witness_tamperAlarm : bit (keyed.rd SEC_TAMPER_STATUS.LIVE) 2 = false ∧ bit ((keyed.wr SEC_ALARM_CFG.EN 0xF).rd SEC_ALARM_CFG.EN) 2 = true ∧
    bit (alarmed.rd SEC_ALARM_CFG.EN) 4 = false ∧ bit (alarmed.rd SEC_TAMPER_STATUS.LIVE) 4 = false ∧ alarmed.sec.keys = [] ∧
    alarmed.rd SEC_STATUS.ERASED = 1 ∧ (nextOf (exec (.tamperAlarm 4) alarmed)).rd SEC_TAMPER_STATUS.LATCHED = 4 ∧
    (nextOf (exec (.tamperConditionEnd 2) alarmed)).rd SEC_TAMPER_STATUS.LIVE = 0 := by decide +kernel

theorem witness_alarmLock : fab.bar0 0 0xD00008 = .act ∧ (nextOf (exec (.alarmLock 0) fab)).rd SEC_ALARM_CFG.LOCK = 1 := by decide +kernel

theorem witness_dbgChallenge : keyed.on HPT_STATUS.READY = true ∧ (asked []).sec.nonce = some 5 := by decide +kernel

theorem witness_dbgLevelRequest : (asked (right 1)).bar0 0 0xD000D0 = .act ∧ aget (asked (right 1)).sec.keys 0 = some key0 ∧
    (asked (right 1)).wordBytes SEC_DBG_RESP_W.RESP 4 = right 1 ∧ (asked (right 1)).on SEC_STATUS.DBG_LOCKOUT = false := by decide +kernel

theorem witness_dbgLevelRequest_granted : (nextOf (exec (.dbgLevelRequest 0 1) (asked (right 1)))).rd SEC_STATUS.DBG_LEVEL = 1 := by
  decide +kernel

theorem witness_dbgLevelRequest_full : (nextOf (exec (.dbgLevelRequest 0 2) (asked (right 2)))).rd SEC_STATUS.DBG_LEVEL = 2 ∧
    (nextOf (exec (.dbgLevelRequest 0 2) (asked (right 2)))).sec.keys = [] := by decide +kernel

theorem witness_dbgLevelRequest_wrong : (asked []).wordBytes SEC_DBG_RESP_W.RESP 4 ≠ right 1 ∧
    (nextOf (exec (.dbgLevelRequest 0 1) (asked []))).rd SEC_DBG_FAIL.COUNT = 1 ∧
    (nextOf (exec (.dbgLevelRequest 0 1) ((asked []).wr SEC_DBG_FAIL.COUNT 2))).rd SEC_STATUS.DBG_LOCKOUT = 1 := by decide +kernel

theorem witness_dbgRelock : fab.bar0 0 0xD00000 = .act ∧
    (nextOf (exec (.dbgRelock 0) (fab.wr SEC_STATUS.DBG_LEVEL 1))).rd SEC_STATUS.DBG_LEVEL = 0 := by decide +kernel

/-- An image of 4 bytes is asked for, and comes without the magic word. -/
def flashing : State := nextOf (exec (.fwWrite 0 ⟨[1, 2, 3, 4], false⟩) (fab.wr SEC_FW_LEN.LEN 4))

theorem witness_fwWrite : (fab.wr SEC_FW_LEN.LEN 4).bar0 0 0xD000A0 = .act ∧ fab.on SEC_STATUS.FW_BUSY = false ∧
    ([1, 2, 3, 4] : List Byte).length = (fab.wr SEC_FW_LEN.LEN 4).rd SEC_FW_LEN.LEN ∧ field [1, 2, 3, 4] 0 4 ≠ 0x4B584657 ∧
    flashing.on SEC_STATUS.FW_BUSY = true ∧ flashing.bar0 0 0xD000A0 = .act ∧ ([1] : List Byte).length < flashing.rd SEC_FW_LEN.LEN ∧
    ((nextOf (exec (.fwWrite 0 ⟨[1], false⟩) (fab.wr SEC_FW_LEN.LEN 4))).sec.fwWrite.map fun x => x.2.2) = some 1 ∧
    (nextOf (exec (.fwWrite 0 ⟨[1, 2, 3, 4], false⟩) flashing)).rd SEC_STATUS.CFG_REJECT = 1 ∧
    (nextOf (exec (.fwWrite 0 ⟨[1, 2, 3, 4], true⟩) (fab.wr SEC_FW_LEN.LEN 4))).on HPT_ERR_STATUS.POISONED 0 = true ∧
    (nextOf (exec (.raiseMin 0) flashing)).rd SEC_STATUS.CFG_REJECT = 1 := by decide +kernel

/-- An image of version 0x0102 has passed its checks. -/
def sound : State := { flashing with sec := { flashing.sec with fwWrite := some (0x0102, 7, 0) } }

theorem witness_fwWriteDone : sound.rd SEC_FW_STATUS.BOOT_SLOT = 0 ∧ (nextOf (exec (.fwWriteDone true) sound)).rd SEC_FW_RESULT.RESULT = 0 ∧
    aget (nextOf (exec (.fwWriteDone true) sound)).flash.fw 3 = some ⟨true, 0x0102, 7⟩ ∧
    (flashing.sec.fwWrite.map fun x => x.2.2) = some 2 ∧ (nextOf (exec (.fwWriteDone true) flashing)).rd SEC_FW_RESULT.RESULT = 2 ∧
    (nextOf (exec (.fwWriteDone false) sound)).rd SEC_FW_RESULT.RESULT = 4 := by decide +kernel

theorem witness_raiseMin : fab.on SEC_STATUS.FW_BUSY = false ∧
    (nextOf (exec (.raiseMin 0) (fab.wr SEC_FW_STATUS.VERSION 0x0205))).rd SEC_FW_STATUS.MINVER = 2 ∧
    (fab.wr SEC_FW_STATUS.VERSION 0x0205).rd SEC_FW_STATUS.MINVER ≠ 2 ∧
    (nextOf (exec (.raiseMin 0) { fab.wr SEC_FW_STATUS.VERSION 0x0205 with sec := { fab.sec with raises := 64 } })).rd SEC_FW_RESULT.RESULT = 5 := by
  decide +kernel

/-- Both dies hold a role. Counter 2 of core 40 of die B has wrapped, with its interrupt enabled. -/
def both : State := (fab.wr LKS_STATUS.ROLE 2 0).wr LKS_STATUS.ROLE 1 1
@[inherit_doc both] def wrapped : State := { both.wr PMC_EVSEL.IRQ 1 1 40 2 with pmc := { both.pmc with wrapped := [(1, 40, 2)] } }

theorem witness_counterOverflow : wrapped.pmc.wrapped = [((1 : Fin 2).val, (40 : Fin 64).val, (2 : Fin 6).val)] ∧
    (nextOf (exec (.counterOverflow 1 40 2) wrapped)).rd PMC_OVF.OVF 1 40 = 4 ∧
    (nextOf (exec (.counterOverflow 1 40 2) wrapped)).rd PMC_OVF_SUM_HI.CORES 1 = 256 := by decide +kernel

/-- Cluster 1 of die A has a sample to store, with `n` entries in its buffer. -/
def smp (n : Nat) : State :=
  { both.wr PMC_SMP_STATUS.COUNT n 0 1 with pmc := { both.pmc with due := [⟨0, 9, 3, 7, List.replicate 16 5⟩] } }

theorem witness_pmcSample : (List.replicate 16 (5 : Byte)).length = 16 ∧ 9 / 8 = (1 : Fin 8).val ∧ (smp 3).rd PMC_SMP_STATUS.COUNT 0 1 = 3 ∧
    (nextOf (exec (.pmcSample 0 1) (smp 3))).rd PMC_SMP_STATUS.COUNT 0 1 = 4 ∧ (smp 64).on PMC_SMP_CFG.WRAP 0 1 = true ∧
    (nextOf (exec (.pmcSample 0 1) (smp 64))).rd PMC_SMP_STATUS.HEAD 0 1 = 1 ∧
    ((smp 64).wr PMC_SMP_CFG.WRAP 0 0 1).on PMC_SMP_CFG.WRAP 0 1 = false ∧
    (nextOf (exec (.pmcSample 0 1) ((smp 64).wr PMC_SMP_CFG.WRAP 0 0 1))).rd PMC_SMP_LOST.COUNT 0 1 = 1 := by decide +kernel

theorem witness_pmcSmpPop : (smp 3).bar0 0 (0xE20008 + 0x20 * (1 : Fin 8)) = .act ∧ (smp 3).role 0 ≠ 0 ∧
    (nextOf (exec (.pmcSmpPop 0 1) (smp 3))).rd PMC_SMP_STATUS.COUNT 0 1 = 2 ∧
    (nextOf (exec (.pmcSmpPop 0 1) (smp 1))).rd PMC_SMP_STATUS.COUNT 0 1 = 0 := by decide +kernel

theorem witness_pmcClear : both.bar0 0 0xE00000 = .act ∧ both.role 1 ≠ 0 ∧ (both.wr PMC_CNT.COUNT 5 1 40 2).rd PMC_CNT.COUNT 1 40 2 = 5 := by
  decide +kernel

/-- A COUNTER_SNAP of cores 8 and 9 with FLAGS `f`. -/
def snapD (f : Nat) : Desc :=
  ds 61 opCounterSnap 0 (leBytes 1 8 ++ leBytes 1 2 ++ leBytes 1 f ++ leBytes 5 0 ++ leBytes 8 0 ++ leBytes 8 0xA000 ++ List.replicate 32 0)
@[inherit_doc snapD] def snapping (f : Nat) : State := nextOf (exec (.counterSnap 61) (run1 both (snapD f)))

theorem witness_counterSnap : Runs (run1 both (snapD 5)) 61 opCounterSnap (snapD 5) ∧ both.pmc.snaps = [] ∧ snapBodyOk (snapD 5) = true ∧
    snapBodyOk (snapD 8) = false ∧ both.on PMC_ACCESS.SNAP both.active (snapD 5).dom = true ∧ (snapD 5).dom = 0 ∧
    (snapping 5).pmc.snaps = [(61, 1)] ∧ both.timeOut ((snapD 0).fld 16 8) = false ∧ 0 ≤ tickDiff ((snapD 0).fld 16 8) both.ticks ∧
    (snapping 0).pmc.snaps = [(61, 0)] ∧ (both.wr PMC_ACCESS.SNAP 0 0 0).on PMC_ACCESS.SNAP 0 0 = false ∧ (snapD 6).fld 10 1 / 2 % 2 = 1 ∧
    both.standby?.isSome = true ∧ snapBodyOk (snapD 6) = true ∧
    ((nextOf (exec (.counterSnap 61) (run1 fab (snapD 6)))).hpt.owed.map fun c => c.status) = [0x0E01] ∧ fab.role 0 ≠ 1 ∧ fab.role 1 ≠ 1 := by
  unfold Runs; decide +kernel

theorem witness_snapCapture : (snapping 5).desc 61 = some (snapD 5) ∧ (snapD 5).fld 10 1 / 2 % 2 = 0 ∧
    ((nextOf (exec (.snapCapture 61) ((snapping 5).wr PMC_CNT.COUNT 77 0 9 2))).hpt.owed.map fun c => (c.status, c.result)) = [(0, 2)] ∧
    (nextOf (exec (.snapCapture 61) ((snapping 5).wr PMC_CNT.COUNT 77 0 9 2))).rd PMC_CNT.COUNT 0 9 2 = 0 := by decide +kernel

/-! #### Power, Dusk and reads -/

/-- The flash of a module as it is built, and a Dawn in which everything passes. -/
def goodDawn : DawnIn := ⟨true, true, 0xFFFF, 0xFFFF, 0xFF, true, true, [1, 2, 3, 4, 5, 6, 7, 8, 9]⟩
@[inherit_doc goodDawn] def deadRails : DawnIn := { goodDawn with rails := false }
@[inherit_doc goodDawn] def cold : State := State.reset
@[inherit_doc goodDawn] def dawned : State := nextOf (exec (.vaonPowerOn goodDawn) cold)
@[inherit_doc goodDawn] def deadStart : State := nextOf (exec (.vaonPowerOn deadRails) cold)

theorem witness_vaonPowerOn : cold.pins.vaon = false ∧ cold.pins.rst = false ∧ cold.sec.fwWrite = none ∧
    (cold.bootSlot 0).isSome = true ∧ (cold.bootSlot 1).isSome = true ∧ cold.bootDiffers = false := by decide +kernel

theorem witness_vaonPowerOn_ready : dawned.rd HPT_STATUS.READY = 1 ∧ dawned.rd LKS_STATUS.ROLE 1 = 1 ∧ dawned.pins.fault = 1 := by decide +kernel

theorem witness_railRetry : deadStart.pins.vaon = true ∧ deadStart.pins.rst = false ∧ deadStart.pwr.off = false ∧ deadStart.pwr.attempts = 1 ∧
    deadStart.on HPT_STATUS.READY = false ∧
    (nextOf (exec (.railRetry deadRails) { deadStart with pwr := { deadStart.pwr with attempts := 2 } })).pwr.off = true := by decide +kernel

/-- A module with a key, at work, and the same with RST_N low. -/
def alive : State := { keyed with pins := { keyed.pins with vaon := true } }
@[inherit_doc alive] def inReset : State := nextOf (exec .rstNAssert alive)

theorem witness_rstN : alive.pins.rst = false ∧ alive.sec.fwWrite = none ∧ inReset.rd PWR_CNT_RST.COUNT = 1 ∧ inReset.pins.rst = true ∧
    aget inReset.sec.keys 0 = some key0 ∧ inReset.rd SEC_KEY_STATUS.LOADED = 1 ∧
    (nextOf (exec (.rstNRelease deadRails) inReset)).rd PWR_RESET_CAUSE.CAUSE = 1 ∧
    (nextOf (exec (.rstNRelease deadRails) { inReset with pwr := { inReset.pwr with shutdown := true } })).rd PWR_RESET_CAUSE.CAUSE = 2 ∧
    (nextOf (exec (.rstNRelease deadRails) (inReset.wr PWR_STATUS.DAWN_STEP 1))).rd PWR_RESET_CAUSE.CAUSE = 0 ∧
    alwaysOnBit (SEC_TAMPER_STATUS.LATCHED.key 0 0 0) = true ∧ alwaysOnBit (HPT_STATUS.READY.key 0 0 0) = false ∧
    fusedBit (SEC_FW_STATUS.MINVER.key 0 0 0) = true := by decide +kernel

theorem witness_rstNRelease_unpowered : (nextOf (exec .vaonLoss inReset)).pins.vaon = false ∧ (nextOf (exec .vaonLoss inReset)).pins.rst = true ∧
    (nextOf (exec .vaonLoss alive)).sec.keys = [] := by decide +kernel

theorem witness_shutdown : alive.bar0 0 0xF00034 = .act ∧ (nextOf (exec (.shutdown 0 1) alive)).rd PWR_STATUS.CFG_REJECT = 1 ∧
    (nextOf (exec (.shutdown 0 0xA5C3) alive)).pwr.off = true ∧ ((nextOf (exec (.shutdown 0 0xA5C3) alive)).out.length = 8 + alive.out.length) := by
  decide +kernel

/-- VHV stands at 12 V, and a write of 9 V waits. -/
def supplied : State := { fab with pwr := { fab.pwr with vhvOn := true, target := 12000 } }
@[inherit_doc supplied] def asks9 : State := nextOf (exec (.vhvSetWrite 0 9000) supplied)
@[inherit_doc supplied] def ramps : State := nextOf (exec .vhvCommand asks9)

theorem witness_vhvSetWrite : supplied.bar0 0 0xF00010 = .act ∧ asks9.rd PWR_VHV_SET.MV = 9000 ∧ asks9.eff PWR_VHV_SET.MV = 12000 ∧
    (nextOf (exec (.vhvSetWrite 0 5950) supplied)).rd PWR_STATUS.CFG_REJECT = 1 ∧
    (nextOf (exec (.vhvSetWrite 0 9010) supplied)).rd PWR_STATUS.CFG_REJECT = 1 ∧
    (nextOf (exec (.vhvSetWrite 0 12000) (supplied.wr DRV_FOLD_CFG.ICAP 1251 3))).rd PWR_STATUS.CFG_REJECT = 1 := by decide +kernel

theorem witness_vhvCommand : asks9.pwr.vhvOn = true ∧ asks9.on PWR_STATUS.VHV_RAMP = false ∧
    nget asks9.held (PWR_VHV_SET.MV.key 0 0 0) ≠ 0 ∧ ramps.pwr.before = 12000 ∧ ramps.pwr.rampEnd.isSome = true ∧
    (nextOf (exec .vhvRampEnd ramps)).rd PWR_STATUS.VHV_RAMP = 0 := by decide +kernel

theorem witness_pmbusPoll : fab.on HPT_STATUS.READY = true ∧ fab.cause 324 = false ∧ fab.cause 266 = false ∧
    (nextOf (exec (.pmbusPoll [⟨1, true, 750, 9⟩] true) fab)).rd PWR_RAIL.GOOD 1 = 1 ∧
    ((nextOf (exec (.pmbusPoll [⟨1, true, 700, 9⟩] true) fab)).saf.raised.map fun o => o.source) = [266] ∧
    ((nextOf (exec (.pmbusPoll [⟨6, true, 1700, 9⟩] true) fab)).saf.raised.map fun o => o.source) = [324] := by decide +kernel

theorem witness_pmbAlert : statusFault 0x0804 = true ∧ statusFault 0x0840 = false ∧
    ((nextOf (exec (.pmbAlert [0, 0, 0, 0x8000]) fab)).saf.raised.map fun o => o.source) = [324] ∧
    ((nextOf (exec (.pmbAlert [0x8000]) fab)).saf.raised.map fun o => o.source) = [202] ∧
    (nextOf (exec (.pmbAlert [0x40]) fab)) = fab := by decide +kernel

/-- Tile 0 reads 12 V and draws 1,000 units of 0.001 mA. -/
def drawing : State := { fab.wr DRV_IVHV.IMEAN 4000 0 with pwr := { fab.pwr with vhv := nset [] 0 12001 } }

theorem witness_lossCompute : drawing.on HPT_STATUS.READY = true ∧ drawing.driveLoss % (4000 * 2 ^ 32) = 0 ∧
    0 < (nextOf (exec .lossCompute drawing)).rd PWR_LOSS.MW ∧
    (nextOf (exec .lossCompute (drawing.wr PWR_LOSS_CAP.MW 1))).rd PWR_STATUS.LOSS_HIGH = 1 := by decide +kernel

/-- Everything that ARM asks for holds. -/
def fit : State := (((fab.wr PLN_CTL.ENABLE 1).wr PLN_LIVE.VALID 1).wr PWR_STATUS.VHV_GOOD 1).wr PLN_CTL.ENABLE 1

theorem witness_arm : fit.bar0 0 0xF00008 = .act ∧ (nextOf (exec (.arm 0 0xA5C3) fit)).pwr.arm = [(true, fit.now + 4)] ∧
    (nextOf (exec (.arm 0 1) fit)).rd PWR_ARM_STATUS.REFUSED = 1 ∧
    (nextOf (exec (.arm 0 0xA5C3) (fit.wr PLN_CTL.ENABLE 0))).rd PWR_ARM_STATUS.REFUSED = 3 ∧
    (nextOf (exec (.arm 0 0xA5C3) (fit.wr PLN_LIVE.VALID 0))).rd PWR_ARM_STATUS.REFUSED = 4 ∧
    (nextOf (exec (.arm 0 0xA5C3) (fit.wr PWR_STATUS.VHV_GOOD 0))).rd PWR_ARM_STATUS.REFUSED = 5 ∧
    (nextOf (exec (.disarm 0 0xA5C3) fit)).pwr.arm = [(false, fit.now + 4)] ∧
    (nextOf (exec (.disarm 0 0xA5C2) fit)).rd PWR_ARM_STATUS.REFUSED = 1 := by decide +kernel

/-- The module is armed, and disarmed again. -/
def armed : State := nextOf (exec .armEffect (nextOf (exec (.arm 0 0xA5C3) fit)))
@[inherit_doc armed] def drives : State := armed.chWr DRV_CH_STATE.STATE stDrive 300

theorem witness_armEffect : armed.rd PWR_STATUS.ARMED = 1 ∧ fit.lostCmd 7 = false ∧ armed.rd DRV_STATUS.ARMED 7 = 1 ∧
    100 ∈ drives.validElems ∧ drives.outState (drives.elem 100).channel = stDrive ∧
    (nextOf (exec .armEffect (nextOf (exec (.disarm 0 0xA5C3) drives)))).outState 300 = stRest := by decide +kernel

/-- Channel 5 has a loop, and runs in Settle. -/
def hasLoop : State := fab.setCtxState 15 1
@[inherit_doc hasLoop] def duskOn : State := nextOf (exec (.duskRequest 0) hasLoop)
@[inherit_doc hasLoop] def inDusk : State := nextOf (exec .duskEntry (nextOf (exec (.duskRequest 0) fab)))

theorem witness_duskRequest : hasLoop.bar0 0 0xF00000 = .act ∧ hasLoop.duskAsked = false ∧ duskOn.duskAsked = true ∧
    hasLoop.loopChannels = [5] ∧ hasLoop.chClass 5 ≠ 3 ∧ hasLoop.chPaused 5 = false ∧ (duskOn.lpa.changes.map fun c => (c.ch, c.cls)) = [(5, 3)] := by
  decide +kernel

theorem witness_duskEntry : (nextOf (exec (.duskRequest 0) fab)).duskAsked = true ∧ (nextOf (exec (.duskRequest 0) fab)).lpa.changes = [] ∧
    fab.loopChannels = [] ∧ inDusk.rd PWR_STATUS.DUSK = 1 ∧ inDusk.gated 1 17 = true := by decide +kernel

theorem witness_duskExit : inDusk.bar0 0 0xF00000 = .act ∧ inDusk.duskAsked = true ∧ 17 ∈ onDemand ∧
    (nextOf (exec (.duskExit 0) inDusk)).rd PWR_STATUS.DUSK = 0 ∧ (nextOf (exec (.duskExit 0) inDusk)).gated 1 17 = false := by decide +kernel

theorem witness_clockRestart : (inDusk.wr PWR_STATUS.DUSK 0).on PWR_STATUS.DUSK = false ∧ (inDusk.wr PWR_STATUS.DUSK 0).gated 1 17 = true ∧
    (nextOf (exec (.clockRestart 1 17) (inDusk.wr PWR_STATUS.DUSK 0))).gated 1 17 = false := by decide +kernel

/-- Die A's endpoint is in D3hot; vector 40 of die A is pending. -/
def sleeps : State := fab.store (cfgBase 0 + 0x44) 1 3
@[inherit_doc sleeps] def waits40 : State := { fab with hpt := { fab.hpt with pba := [(40, 1)] } }

theorem witness_snapshotRead : cold.on HPT_STATUS.READY = false ∧ fab.on HPT_STATUS.READY = true ∧ fab.wideWord 0 0xF00030 = none ∧
    fab.d3hot 0 = false ∧ cold.d3hot 0 = false ∧ (nextOf (exec (.snapshotRead 0 0 ⟨.bar0, 0xF00030, 1, 9⟩) cold)).out = [.reg 0 0xF00030 0] ∧
    (nextOf (exec (.snapshotRead 0 0 ⟨.bar0, 0x01000014, 1, 9⟩) (fab.wr DRV_IVHV.IPEAK 7 0))).out = [.reg 0 0x01000014 (7 * 65536)] ∧
    (nextOf (exec (.snapshotRead 0 0 ⟨.bar0, 0x700040, 1, 1000000⟩) { fab with now := 3 })).out = [.reg 0 0x700040 165] ∧
    fab.wideWord 0 0x800020 = some (0, 4) ∧ fab.wideWord 0 0x80002C = some (3, 4) := by decide +kernel

theorem witness_snapshotRead_spaces : sleeps.d3hot 0 = true ∧ (nextOf (exec (.snapshotRead 0 0 ⟨.bar2, 0, 1, 0⟩) sleeps)).out = [] ∧
    (nextOf (exec (.snapshotRead 0 0 ⟨.config, 8, 2, 0⟩) sleeps)).out = [.data 0 0 12 0, .data 0 0 8 0x11800001] ∧
    (nextOf (exec (.snapshotRead 0 0 ⟨.bar2, 0x3000, 1, 0⟩) (fab.wr HPT_SQ_HEAD.HEAD 5 3))).out = [.data 0 2 0x3000 5] ∧
    (nextOf (exec (.snapshotRead 0 0 ⟨.bar4, 0x28C, 1, 0⟩) fab)).out = [.data 0 4 0x28C 1] ∧
    (nextOf (exec (.snapshotRead 0 0 ⟨.bar4, 0x8004, 1, 0⟩) waits40)).out = [.data 0 4 0x8004 256] := by decide +kernel

/-! #### Commands that complete -/

theorem witness_commandsComplete : Runs (run1 fab (dma 0x1000 elemBase 16 0)) 4 opTableDma (dma 0x1000 elemBase 16 0) ∧
    dmaBodyOk (dma 0x1000 elemBase 16 0) = true ∧ (dma 0x1000 elemBase 16 0).dom = 0 ∧ dmaIn (dma 0x1000 elemBase 16 0) = true ∧
    dmaIn (dma 0x1000 elemBase 16 1) = false ∧ dmaBodyOk (dma 0x1000 elemBase 16 1) = true ∧ dmaLen (dma 0x1000 elemBase 16 1) / 8 = 2 ∧
    (nextOf (exec (.returnFromD3hot 0) (up.store (cfgBase 0 + 0x44) 1 3))).d3hot 0 = false ∧
    port.txState 0 2 ≠ 1 ∧ port.bar0 0 (0x700130 + 0x80 * (0 : Fin 2)) = .act ∧ fab.lpa.cmd = none ∧ fab.bar0 0 0x302000 = .act := by
  unfold Runs; decide +kernel

theorem witness_clearsComplete : (∀ n < 384, (calmed.latchOf n).isSome = true → calmed.causeNow n = false) ∧ calmed.bar0 0 0x800010 = .act ∧
    (∀ n < 384, (calmed.latchOf n).isSome = true → ({ calmed with now := max calmed.now (calmed.frameAt (clrD 0 1).acc + 1) } : State).causeNow n = false) ∧
    clearBodyOk (clrD 0 1) = true ∧ clearBodyOk (clrD 1 0) = true ∧ (clrD 1 0).fld 8 1 = 1 ∧ calmed.saf.clears = [] := by decide +kernel

theorem witness_loopInstructionsComplete : run9.v.length = 16 ∧ run9.p.length = 4 ∧ (run9.pred c1.pg != c1.pn) = true ∧
    lisOf (.lisAdd c1 4 1 2) = some (c1, 0x20209000) ∧ (lisRun 0x20209000).running c1.die c1.core = some run9 ∧
    ((lisRun 0x20209000).fetch run9).map (·.1) = some 0x20209000 ∧
    (((nextOf (exec (.lisAdd c1 4 1 2) (lisRun 0x20209000))).running 0 1).map fun r => r.get 4) = some 4 := by decide +kernel

end

end Sys2Proof.Tests
end

section
/-! SUPPORT. The register file and the memory (R6, R7, R9): every step keeps them canonical, and a write reads back. -/
namespace Sys2Proof.Machine

/-- Every command keeps the canonical form and the queue, whatever its operands: one law of Laws/ for each command. -/
theorem keptOut_exec {s0 s : State} (hk : Kept s0 s) : (c : Instr) → KeptOut s0 (exec c s)
  | .doorbellSqTail die page value => kept_execDoorbellSqTail die page value s hk
  | .doorbellCqHead die page value => kept_execDoorbellCqHead die page value s hk
  | .doorbellTqHead die page value => kept_execDoorbellTqHead die page value s hk
  | .descriptorFetch ring => kept_execDescriptorFetch ring s hk
  | .descriptorAccept ring read => kept_execDescriptorAccept ring read s hk
  | .nop id => kept_execNop id s hk
  | .fence id => kept_execFence id s hk
  | .tableDma id read ecc => kept_execTableDma id read ecc s hk
  | .telemetryCfgCreate id => kept_execTelemetryCfgCreate id s hk
  | .telemetryCfgRemove id => kept_execTelemetryCfgRemove id s hk
  | .completionWrite cq => kept_execCompletionWrite cq s hk
  | .telemetryRecord tq => kept_execTelemetryRecord tq s hk
  | .coalTimeExpiry telemetry ring => kept_execCoalTimeExpiry telemetry ring s hk
  | .perstAssert die => kept_execPerstAssert die s hk
  | .perstRelease die => kept_execPerstRelease die s hk
  | .hotReset die => kept_execHotReset die s hk
  | .linkDisable die => kept_execLinkDisable die s hk
  | .dataLinkLoss die => kept_execDataLinkLoss die s hk
  | .functionLevelReset die => kept_execFunctionLevelReset die s hk
  | .returnFromD3hot die => kept_execReturnFromD3hot die s hk
  | .linkTrained die width speed => kept_execLinkTrained die width speed s hk
  | .hptCtlEnable die value => kept_execHptCtlEnable die value s hk
  | .sqEnable die ring value => kept_execSqEnable die ring value s hk
  | .cqEnable die ring value => kept_execCqEnable die ring value s hk
  | .tqEnable die ring value => kept_execTqEnable die ring value s hk
  | .registerWrite die target be values => kept_execRegisterWrite die target be values s hk
  | .fabricTableWrite die addr value => kept_execFabricTableWrite die addr value s hk
  | .darkSet die port => kept_execDarkSet die port s hk
  | .darkClear die port domain => kept_execDarkClear die port domain s hk
  | .validate die => kept_execValidate die s hk
  | .validationDone => kept_execValidationDone s hk
  | .crossingSetDone => kept_execCrossingSetDone s hk
  | .planLoad id => kept_execPlanLoad id s hk
  | .planCheck id read ecc => kept_execPlanCheck id read ecc s hk
  | .planCommit id => kept_execPlanCommit id s hk
  | .planAbort id => kept_execPlanAbort id s hk
  | .planFree id => kept_execPlanFree id s hk
  | .commitAdmit ecc => kept_execCommitAdmit ecc s hk
  | .commitStaging => kept_execCommitStaging s hk
  | .commitSwap => kept_execCommitSwap s hk
  | .makebbTarget => kept_execMakebbTarget s hk
  | .verifySample raws => kept_execVerifySample raws s hk
  | .verifyDecision => kept_execVerifyDecision s hk
  | .commitResolve => kept_execCommitResolve s hk
  | .plnEnableWrite die value => kept_execPlnEnableWrite die value s hk
  | .plnEnableApply => kept_execPlnEnableApply s hk
  | .changeExpiry tile ch => kept_execChangeExpiry tile ch s hk
  | .reapplyAdmit => kept_execReapplyAdmit s hk
  | .queueSample => kept_execQueueSample s hk
  | .bucketBurstWrite die bucket burst => kept_execBucketBurstWrite die bucket burst s hk
  | .statClr die => kept_execStatClr die s hk
  | .orbitLoad id read => kept_execOrbitLoad id read s hk
  | .orbitStart id => kept_execOrbitStart id s hk
  | .orbitListStart => kept_execOrbitListStart s hk
  | .orbitStop id => kept_execOrbitStop id s hk
  | .orbitEntryPrep ecc => kept_execOrbitEntryPrep ecc s hk
  | .orbitSwap => kept_execOrbitSwap s hk
  | .orbitStopEffect => kept_execOrbitStopEffect s hk
  | .tileLinkFrame tile die frame => kept_execTileLinkFrame tile die frame s hk
  | .liveUpdateApply tile ecc => kept_execLiveUpdateApply tile ecc s hk
  | .tileOrphan tile => kept_execTileOrphan tile s hk
  | .tileLinkResume tile die => kept_execTileLinkResume tile die s hk
  | .ditherWrite die tile ch value => kept_execDitherWrite die tile ch value s hk
  | .foldbackStep tile mean => kept_execFoldbackStep tile mean s hk
  | .foldClear die tile mean => kept_execFoldClear die tile mean s hk
  | .guardTrip tile input => kept_execGuardTrip tile input s hk
  | .guardPersist tile input => kept_execGuardPersist tile input s hk
  | .guardTripClear die tile w value => kept_execGuardTripClear die tile w value s hk
  | .outputCheckVisit tile ch measured => kept_execOutputCheckVisit tile ch measured s hk
  | .failedRetest die tile group value => kept_execFailedRetest die tile group value s hk
  | .retestDone tile ch pass => kept_execRetestDone tile ch pass s hk
  | .rangeApply tile => kept_execRangeApply tile s hk
  | .fineSlotEnd tile modulator stream => kept_execFineSlotEnd tile modulator stream s hk
  | .fineTrigger die tile w value => kept_execFineTrigger die tile w value s hk
  | .guardArm tile input => kept_execGuardArm tile input s hk
  | .lossTrip tile input => kept_execLossTrip tile input s hk
  | .lossTripClear die tile input => kept_execLossTripClear die tile input s hk
  | .syscalDark die tile input range => kept_execSyscalDark die tile input range s hk
  | .syscalReference die tile input range => kept_execSyscalReference die tile input range s hk
  | .syscalApply die tile input range => kept_execSyscalApply die tile input range s hk
  | .syscalStepDone tile => kept_execSyscalStepDone tile s hk
  | .captureEnable die tile value => kept_execCaptureEnable die tile value s hk
  | .captureSwTrigger die tile => kept_execCaptureSwTrigger die tile s hk
  | .captureTimeArm die tile hi => kept_execCaptureTimeArm die tile hi s hk
  | .captureTimeTrigger tile => kept_execCaptureTimeTrigger tile s hk
  | .captureBankFull tile => kept_execCaptureBankFull tile s hk
  | .captureRelease die tile value => kept_execCaptureRelease die tile value s hk
  | .tonePublish elements ecc => kept_execTonePublish elements ecc s hk
  | .sampleRingGap tile => kept_execSampleRingGap tile s hk
  | .pathBitClear die foreign w value => kept_execPathBitClear die foreign w value s hk
  | .tonFirstClr die => kept_execTonFirstClr die s hk
  | .periodRelease cls => kept_execPeriodRelease cls s hk
  | .jobDispatch die core ecc => kept_execJobDispatch die core ecc s hk
  | .jobSteal die core => kept_execJobSteal die core s hk
  | .prefetchFill die core => kept_execPrefetchFill die core s hk
  | .candidatePublish cls => kept_execCandidatePublish cls s hk
  | .combinedOutputSend => kept_execCombinedOutputSend s hk
  | .classChange ch => kept_execClassChange ch s hk
  | .jobWcetStop die core => kept_execJobWcetStop die core s hk
  | .ctxWrite id read => kept_execCtxWrite id read s hk
  | .activate id read => kept_execActivate id read s hk
  | .deactivate id read => kept_execDeactivate id read s hk
  | .setClass id read => kept_execSetClass id read s hk
  | .ctxRead id => kept_execCtxRead id s hk
  | .lpaEnable die value => kept_execLpaEnable die value s hk
  | .lisNop at_ => kept_execLisNop at_ s hk
  | .lisEnd at_ => kept_execLisEnd at_ s hk
  | .lisBr at_ off => kept_execLisBr at_ off s hk
  | .lisDone at_ => kept_execLisDone at_ s hk
  | .lisWcand at_ ra => kept_execLisWcand at_ ra s hk
  | .lisAdd at_ rd ra rb => kept_execLisAdd at_ rd ra rb s hk
  | .lisSub at_ rd ra rb => kept_execLisSub at_ rd ra rb s hk
  | .lisAddi at_ rd ra imm => kept_execLisAddi at_ rd ra imm s hk
  | .lisMovi at_ rd imm => kept_execLisMovi at_ rd imm s hk
  | .lisMovhi at_ rd imm => kept_execLisMovhi at_ rd imm s hk
  | .lisMovlo at_ rd imm => kept_execLisMovlo at_ rd imm s hk
  | .lisMul at_ rd ra rb => kept_execLisMul at_ rd ra rb s hk
  | .lisMulq at_ rd ra rb sh => kept_execLisMulq at_ rd ra rb sh s hk
  | .lisDiv at_ rd ra rb => kept_execLisDiv at_ rd ra rb s hk
  | .lisMin at_ rd ra rb => kept_execLisMin at_ rd ra rb s hk
  | .lisMax at_ rd ra rb => kept_execLisMax at_ rd ra rb s hk
  | .lisClmp at_ rd ra rb => kept_execLisClmp at_ rd ra rb s hk
  | .lisAbs at_ rd ra => kept_execLisAbs at_ rd ra s hk
  | .lisAnd at_ rd ra rb => kept_execLisAnd at_ rd ra rb s hk
  | .lisOr at_ rd ra rb => kept_execLisOr at_ rd ra rb s hk
  | .lisXor at_ rd ra rb => kept_execLisXor at_ rd ra rb s hk
  | .lisShl at_ rd ra sh => kept_execLisShl at_ rd ra sh s hk
  | .lisAsr at_ rd ra sh rnd => kept_execLisAsr at_ rd ra sh rnd s hk
  | .lisSel at_ rd ra rb p => kept_execLisSel at_ rd ra rb p s hk
  | .lisCmplt at_ pd ra rb => kept_execLisCmplt at_ pd ra rb s hk
  | .lisCmple at_ pd ra rb => kept_execLisCmple at_ pd ra rb s hk
  | .lisCmpeq at_ pd ra rb => kept_execLisCmpeq at_ pd ra rb s hk
  | .lisTbit at_ pd ra b => kept_execLisTbit at_ pd ra b s hk
  | .lisCmplti at_ pd ra imm => kept_execLisCmplti at_ pd ra imm s hk
  | .lisCmpgti at_ pd ra imm => kept_execLisCmpgti at_ pd ra imm s hk
  | .lisLdi at_ rd sel idx => kept_execLisLdi at_ rd sel idx s hk
  | .lisLdx at_ rd sel ra => kept_execLisLdx at_ rd sel ra s hk
  | .lisLdk at_ rd k => kept_execLisLdk at_ rd k s hk
  | .lisStk at_ ra k => kept_execLisStk at_ ra k s hk
  | .lisRdpc at_ rd n => kept_execLisRdpc at_ rd n s hk
  | .publish die prog => kept_execPublish die prog s hk
  | .retire die prog => kept_execRetire die prog s hk
  | .progCmdDone => kept_execProgCmdDone s hk
  | .profileUpdate gen => kept_execProfileUpdate gen s hk
  | .streamOpen id => kept_execStreamOpen id s hk
  | .streamStart player => kept_execStreamStart player s hk
  | .streamClose id => kept_execStreamClose id s hk
  | .streamStop player => kept_execStreamStop player s hk
  | .playerPassEnd player => kept_execPlayerPassEnd player s hk
  | .playerTrigger die player => kept_execPlayerTrigger die player s hk
  | .playerJump die player => kept_execPlayerJump die player s hk
  | .jumpApply player => kept_execJumpApply player s hk
  | .rateWrite die player value => kept_execRateWrite die player value s hk
  | .streamFetch player tail => kept_execStreamFetch player tail s hk
  | .streamFetchDone player samples => kept_execStreamFetchDone player samples s hk
  | .underrun player => kept_execUnderrun player s hk
  | .underrunResume player => kept_execUnderrunResume player s hk
  | .tempConversion readings case_ => kept_execTempConversion readings case_ s hk
  | .zonePassStart zone => kept_execZonePassStart zone s hk
  | .channelMeasureStart tile group => kept_execChannelMeasureStart tile group s hk
  | .channelMeasureDone tile group m => kept_execChannelMeasureDone tile group m s hk
  | .logAppend okA okB => kept_execLogAppend okA okB s hk
  | .calEnable die value => kept_execCalEnable die value s hk
  | .zones id => kept_execZones id s hk
  | .channels id => kept_execChannels id s hk
  | .importRecs id read => kept_execImportRecs id read s hk
  | .curveWrite id read okA okB => kept_execCurveWrite id read okA okB s hk
  | .curveSweep id => kept_execCurveSweep id s hk
  | .sweepPointDone => kept_execSweepPointDone s hk
  | .monSave id okA okB => kept_execMonSave id okA okB s hk
  | .incrCommit die hi => kept_execIncrCommit die hi s hk
  | .slewWrite die value => kept_execSlewWrite die value s hk
  | .slewDone => kept_execSlewDone s hk
  | .stepArm die hi => kept_execStepArm die hi s hk
  | .setArm die hi => kept_execSetArm die hi s hk
  | .timeStepApply => kept_execTimeStepApply s hk
  | .timeSetApply => kept_execTimeSetApply s hk
  | .holdoverTimeout => kept_execHoldoverTimeout s hk
  | .refclkLoss => kept_execRefclkLoss s hk
  | .refclkRecover => kept_execRefclkRecover s hk
  | .frameReceive port bytes fcsOk pcs => kept_execFrameReceive port bytes fcsOk pcs s hk
  | .send die port slot len => kept_execSend die port slot len s hk
  | .sendAndStamp die port slot len => kept_execSendAndStamp die port slot len s hk
  | .oneStep die port slot len => kept_execOneStep die port slot len s hk
  | .txComplete port pcs => kept_execTxComplete port pcs s hk
  | .timingLinkChange port up => kept_execTimingLinkChange port up s hk
  | .syncTimeout port => kept_execSyncTimeout port s hk
  | .ppsOutPulse => kept_execPpsOutPulse s hk
  | .ppsInEdge at_ => kept_execPpsInEdge at_ s hk
  | .ppsinPop die => kept_execPpsinPop die s hk
  | .faultOccurrence source info die => kept_execFaultOccurrence source info die s hk
  | .blockResetDone target => kept_execBlockResetDone target s hk
  | .conseqWindowEnd => kept_execConseqWindowEnd s hk
  | .faultPairRefreshTimeout => kept_execFaultPairRefreshTimeout s hk
  | .safeNRequest => kept_execSafeNRequest s hk
  | .safeNRelease => kept_execSafeNRelease s hk
  | .safClrSource die source => kept_execSafClrSource die source s hk
  | .safClrAll die => kept_execSafClrAll die s hk
  | .eclipseClearSources id => kept_execEclipseClearSources id s hk
  | .eclipseClearAll id => kept_execEclipseClearAll id s hk
  | .injectRecord die source info => kept_execInjectRecord die source info s hk
  | .injectReact die source info => kept_execInjectReact die source info s hk
  | .swEclipse die value => kept_execSwEclipse die value s hk
  | .safFirstClr die => kept_execSafFirstClr die s hk
  | .safHistPop die => kept_execSafHistPop die s hk
  | .lockstepMismatch tile kind channel => kept_execLockstepMismatch tile kind channel s hk
  | .mismatchResolve failA failB => kept_execMismatchResolve failA failB s hk
  | .heartbeatMiss observer => kept_execHeartbeatMiss observer s hk
  | .switch id => kept_execSwitch id s hk
  | .detach id => kept_execDetach id s hk
  | .resync id => kept_execResync id s hk
  | .keep id => kept_execKeep id s hk
  | .lksCmdSwitch die => kept_execLksCmdSwitch die s hk
  | .lksCmdDetach die => kept_execLksCmdDetach die s hk
  | .lksCmdResync die => kept_execLksCmdResync die s hk
  | .lksCmdKeep die keep => kept_execLksCmdKeep die keep s hk
  | .switchEffect => kept_execSwitchEffect s hk
  | .lagClose => kept_execLagClose s hk
  | .resyncJoin ok => kept_execResyncJoin ok s hk
  | .dieRestart die => kept_execDieRestart die s hk
  | .bucketLeak die group => kept_execBucketLeak die group s hk
  | .remapSwitch die => kept_execRemapSwitch die s hk
  | .scrubRange id results => kept_execScrubRange id results s hk
  | .scrubDone => kept_execScrubDone s hk
  | .softwareEvent die w value => kept_execSoftwareEvent die w value s hk
  | .eventFire source => kept_execEventFire source s hk
  | .sourceRearm source => kept_execSourceRearm source s hk
  | .loopReenable die w value => kept_execLoopReenable die w value s hk
  | .timerArm die timer hi => kept_execTimerArm die timer hi s hk
  | .timerFire timer => kept_execTimerFire timer s hk
  | .busAccess die target requests => kept_execBusAccess die target requests s hk
  | .keyLoad die slot => kept_execKeyLoad die slot s hk
  | .keyErase die slot => kept_execKeyErase die slot s hk
  | .tamperAlarm cond => kept_execTamperAlarm cond s hk
  | .alarmLock die => kept_execAlarmLock die s hk
  | .fwWrite die read => kept_execFwWrite die read s hk
  | .fwWriteDone flashOk => kept_execFwWriteDone flashOk s hk
  | .raiseMin die => kept_execRaiseMin die s hk
  | .dbgChallenge die nonce => kept_execDbgChallenge die nonce s hk
  | .dbgLevelRequest die level => kept_execDbgLevelRequest die level s hk
  | .dbgRelock die => kept_execDbgRelock die s hk
  | .counterSnap id => kept_execCounterSnap id s hk
  | .snapCapture id => kept_execSnapCapture id s hk
  | .counterOverflow die core k => kept_execCounterOverflow die core k s hk
  | .pmcSample die cluster => kept_execPmcSample die cluster s hk
  | .pmcClear die => kept_execPmcClear die s hk
  | .pmcSmpPop die cluster => kept_execPmcSmpPop die cluster s hk
  | .vaonPowerOn dawn => kept_execVaonPowerOn dawn s hk
  | .railRetry dawn => kept_execRailRetry dawn s hk
  | .rstNAssert => kept_execRstNAssert s hk
  | .rstNRelease dawn => kept_execRstNRelease dawn s hk
  | .vaonLoss => kept_execVaonLoss s hk
  | .shutdown die key => kept_execShutdown die key s hk
  | .vhvSetWrite die mv => kept_execVhvSetWrite die mv s hk
  | .vhvCommand => kept_execVhvCommand s hk
  | .vhvRampEnd => kept_execVhvRampEnd s hk
  | .pmbusPoll readings vaonOk => kept_execPmbusPoll readings vaonOk s hk
  | .pmbAlert status => kept_execPmbAlert status s hk
  | .lossCompute => kept_execLossCompute s hk
  | .duskRequest die => kept_execDuskRequest die s hk
  | .duskEntry => kept_execDuskEntry s hk
  | .duskExit die => kept_execDuskExit die s hk
  | .clockRestart die dom => kept_execClockRestart die dom s hk
  | .arm die key => kept_execArm die key s hk
  | .disarm die key => kept_execDisarm die key s hk
  | .armEffect => kept_execArmEffect s hk
  | .fastSample raws currents => kept_execFastSample raws currents s hk
  | .orbitEntryStart => kept_execOrbitEntryStart s hk
  | .playerFrameOutput player ecc => kept_execPlayerFrameOutput player ecc s hk
  | .tamperConditionEnd cond => kept_execTamperConditionEnd cond s hk
  | .snapshotRead die requester target => kept_execSnapshotRead die requester target s hk
  | .ipeakRead die tile => kept_execIpeakRead die tile s hk
  | .upstreamLinkFrame die tile frame => kept_execUpstreamLinkFrame die tile frame s hk

theorem Kept.canonical {s t : State} (h : Kept s t) (hs : s.canonical) : t.canonical := h.1 hs

/-- A command that answers a next state keeps the canonical form. -/
theorem exec_keeps_canonical {c : Instr} {s t : State} (hs : s.canonical) (h : exec c s = .next t) : t.canonical := by
  have hk : KeptOut s (exec c s) := keptOut_exec (kept_self s) c
  rw [h] at hk
  exact Kept.canonical hk hs

end Sys2Proof.Machine

open Sys2Proof Sys2Proof.Machine

/-- Settles O4: an idle step answers the same state, and any other is a command on the state with a shorter queue, of which the
canonical form does not speak. -/
theorem everyStepKeepsCanonicalForm : Obligations.EveryStepKeepsCanonicalForm := by
  intro s t hs h
  unfold step at h
  split at h
  case h_1 =>
    cases h
    exact hs
  case h_2 c rest _ =>
    exact exec_keeps_canonical (s := { s with pending := rest }) hs h

/-- Settles O5: by the laws of a look-up after an insertion in a sparse list. -/
theorem writesReadBack : Obligations.WritesReadBack := by
  refine ⟨fun s f v i j k => ⟨rd_wr_same s f v i j k, ?_⟩, fun s a v => ⟨loadB_storeB_same s a v, rfl, ?_⟩⟩
  · exact onlyRegs_wr s f v i j k (List.mem_singleton_self _)
  · exact fun b hb => loadB_storeB_other s v hb

end

section
/-! SUPPORT. Bytes and words: what a number reads as after a store, and which addresses a store leaves. -/
namespace Sys2Proof.Machine

/-- The bytes decide what a number reads as. -/
theorem load_congr {s t : State} {a n : Nat} (h : ∀ b, a ≤ b → b < a + n → t.loadB b = s.loadB b) : t.load a n = s.load a n := by
  induction n generalizing a with
  | zero => rfl
  | succ n ih =>
    have hrest : t.load (a + 1) n = s.load (a + 1) n := ih fun b hb hn => h b (by omega) (by omega)
    rw [State.load, State.load, hrest, h a (by omega) (by omega)]

theorem load_of_mem {s t : State} (h : t.mem = s.mem) (a n : Nat) : t.load a n = s.load a n :=
  load_congr fun b _ _ => memSame_of_mem h b

/-- One byte as a number. -/
theorem load_one (s : State) (a : Nat) : s.load a 1 = (s.loadB a).toNat := by simp [State.load]

theorem store_eq_mem (s : State) (a n v : Nat) : s.store a n v = { s with mem := (s.store a n v).mem } := by
  induction n generalizing s a v with
  | zero => rfl
  | succ n ih => exact ih (s.storeB a (BitVec.ofNat 8 v)) (a + 1) (v / 256)

/-- A store leaves the bytes outside its place. -/
theorem loadB_store_other (s : State) {a n b : Nat} (v : Nat) (h : b < a ∨ a + n ≤ b) : (s.store a n v).loadB b = s.loadB b := by
  induction n generalizing s a v with
  | zero => rfl
  | succ n ih =>
    rw [State.store, ih _ _ (by omega)]
    exact loadB_storeB_other s _ (by omega)

/-- A number just stored reads back, cut to its bytes. -/
theorem load_store_same (s : State) (a n v : Nat) : (s.store a n v).load a n = v % 256 ^ n := by
  induction n generalizing s a v with
  | zero => simp [State.load, Nat.mod_one]
  | succ n ih =>
    have hv : v % 256 ^ (n + 1) = v % 256 + 256 * (v / 256 % 256 ^ n) := by rw [pow_succ', Nat.mod_mul]
    rw [State.store, State.load, ih, loadB_store_other _ _ (by omega), loadB_storeB_same, BitVec.toNat_ofNat, hv]

/-- With all byte enables set, a word takes the new value. -/
theorem mergeBytes_all (old : Nat) {v : Nat} (h : v < 2 ^ 32) : mergeBytes 0xF old v = v := by
  simp [mergeBytes, bits, List.range_succ]
  omega

end Sys2Proof.Machine
end

section
/-! SUPPORT. What an error of the Host Port records and signals (R81). -/
namespace Sys2Proof.Machine

/-- The bytes decide whether a vector is masked. -/
theorem vecMasked_of_mem {s t : State} (h : t.mem = s.mem) (die v : Nat) : t.vecMasked die v = s.vecMasked die v := by
  simp only [State.vecMasked, load_of_mem h]

theorem signalled_signalVec {s t : State} (h : t.mem = s.mem) (die v : Nat) : Signalled s (t.signalVec die v) die v := by
  unfold Signalled State.signalVec
  rw [vecMasked_of_mem h]
  split
  · simp
  · exact List.mem_cons_self

/-- An error of the Host Port signals the error vector of its die. -/
theorem signalled_hptError (s : State) (die b ring addr : Nat) :
    Signalled s (s.hptError die b ring addr) die (s.rd HPT_ERR_VEC.VECTOR) := by
  refine signalled_signalVec ?_ _ _
  split <;> rfl

/-- The registers after an error: the first error's words, where no bit was set, and the error's bit. -/
theorem hptError_rd (s : State) (die b ring addr : Nat) (f : Fld) (i j k : Nat) :
    (s.hptError die b ring addr).rd f i j k = ((if s.errClear die then
      (((s.wr HPT_ERR_INFO.RING ring die).wr HPT_ERR_INFO.BIT b die).wr HPT_ERR_ADDR_LO.ADDR addr die).wr
        HPT_ERR_ADDR_HI.ADDR (addr / 2 ^ 32) die
      else s).wr (errFld b) 1 die).rd f i j k := rd_congr (signalVec_regs _ _ _) _ _ _ _

theorem errFld_w (b : Nat) : (errFld b).w = 1 := by
  unfold errFld
  split <;> rfl

/-- An error sets its bit. -/
theorem hptError_on (s : State) (die b ring addr : Nat) : (s.hptError die b ring addr).on (errFld b) die = true := by
  simp only [State.on, hptError_rd, rd_wr_same, errFld_w]
  decide

/-- The first error since the error bits were all zero leaves its ring set. -/
theorem hptError_ring {s : State} {die : Nat} (h : s.errClear die = true) (ring addr : Nat) :
    (s.hptError die 0 ring addr).rd HPT_ERR_INFO.RING die = ring % 2 ^ 6 := by
  rw [hptError_rd, if_pos h]
  iterate 4
    rw [rd_wr_other]
    case h =>
      simp only [Fld.key, errFld, HPT_ERR_INFO.RING, HPT_ERR_INFO.BIT, HPT_ERR_ADDR_LO.ADDR, HPT_ERR_ADDR_HI.ADDR,
        HPT_ERR_STATUS.PARTIAL_WR]
      omega
  exact rd_wr_same _ _ _ _ _ _

end Sys2Proof.Machine
end

section
/-! SUPPORT. REGISTER_WRITE word by word (R9, R41, R46): the rows of the register map that a word holds, and what a write of one
field does. -/
namespace Sys2Proof.Machine

/-- The fields that stand in the word at a BAR0 offset, with their indices there, in the order of the register map. -/
def rowsAt (die addr : Nat) : List (RegRow × Nat × Nat × Nat) := regRows.filterMap fun r => (rowAt r die addr).map (r, ·)

/-- Below the blocks that both dies hold, a write of a word is a write of each field that stands in it. -/
theorem regWrite_eq_rowsAt (s : State) (die w : Nat) {addr : Nat} (h : addr < 0xA00000) :
    s.regWrite die addr w = (rowsAt die addr).foldl (fun t x => t.fieldWrite x.1 die addr x.2.1 x.2.2.1 x.2.2.2 w) s := by
  have hn : ¬ 0xA00000 ≤ addr := by omega
  unfold State.regWrite rowsAt
  rw [List.foldl_filterMap]
  congr 1
  funext t r
  cases rowAt r die addr with
  | none => rfl
  | some x => simp [hn]

section
variable (s : State) {r : RegRow} (die addr i j k w : Nat)

theorem fieldWrite_ro (h : r.acc = .ro) : s.fieldWrite r die addr i j k w = s := by
  unfold State.fieldWrite
  rw [h]

/-- A plain field takes a value in its range while its enable is 0. -/
theorem fieldWrite_plain (hacc : r.acc = .rw) (hhow : r.how = .plain) (hlo : r.lo = 0) (hhi : bits w r.f.lo r.f.w ≤ r.hi)
    (hg : s.gateOn r.gate i = false) : s.fieldWrite r die addr i j k w = s.wr r.f (bits w r.f.lo r.f.w) i j k := by
  have hr : ¬ r.hi < bits w r.f.lo r.f.w := by omega
  simp [State.fieldWrite, State.setField, State.refuses, hacc, hhow, hlo, hg, hr]

/-- Out of its range, or while its enable is 1, a plain field is refused. -/
theorem fieldWrite_refused (hacc : r.acc = .rw) (hhow : r.how = .plain)
    (h : r.hi < bits w r.f.lo r.f.w ∨ s.gateOn r.gate i = true) : s.fieldWrite r die addr i j k w = s.reject die addr := by
  unfold State.fieldWrite
  simp only [hacc, hhow]
  rw [if_neg (by simp), if_pos (by tauto)]

end

/-- A whole-word write of BAR0 acts as its words in ascending order (R46). -/
theorem exec_registerWrite_words (s : State) (die : Fin 2) (addr : Word) (values : List Word) :
    exec (.registerWrite die ⟨.bar0, addr⟩ 0xF values) s = .next (s.writeWords die .bar0 0xF addr.toNat values) := rfl

/-- A whole word written to any space is a write of one word there. -/
theorem exec_registerWrite_word (s : State) (die : Fin 2) (space : Space) (addr value : Word) :
    exec (.registerWrite die ⟨space, addr⟩ 0xF [value]) s = .next (s.writeWords die space 0xF addr.toNat [value]) := by
  cases space <;> rfl

section
variable (s : State) (die a : Nat) (value : Word)

theorem writeWords_bar0 : s.writeWords die .bar0 0xF a [value] = s.bar0Write die (a % 0x4000000 / 4 * 4) value.toNat := rfl

theorem writeWords_bar2 : s.writeWords die .bar2 0xF a [value] = s.bar2Write die (a % 0x40000 / 4 * 4) value.toNat := rfl

theorem writeWords_bar4 (h : s.d3hot die = false) :
    s.writeWords die .bar4 0xF a [value] = s.bar4Write die (a % 0x10000 / 4 * 4) value.toNat := by
  refine (if_neg ?_).trans (congrArg _ (mergeBytes_all _ value.isLt))
  simp [h]

theorem writeWords_config : s.writeWords die .config 0xF a [value] = s.cfgWrite die (a % 0x1000 / 4 * 4) value.toNat :=
  congrArg (s.cfgWrite die (a % 0x1000 / 4 * 4)) (mergeBytes_all _ value.isLt)

end

/-- One word written to a register of the Host Port is a write of the register map, where it acts (R41). -/
theorem exec_registerWrite_hpt {s : State} {die : Fin 2} {addr : Word} (value : Word) (hal : addr.toNat % 4 = 0)
    (hlow : addr.toNat < 0x100000) (hact : s.bar0 die addr.toNat = .act) :
    exec (.registerWrite die ⟨.bar0, addr⟩ 0xF [value]) s = .next (s.regWrite die addr.toNat value.toNat) := by
  have ha : addr.toNat % 0x4000000 / 4 * 4 = addr.toNat := by omega
  have hwin : ¬ elemBase ≤ addr.toNat := by unfold elemBase; omega
  have htx : inTxSlot addr.toNat = false := by simp [inTxSlot, within]; omega
  rw [exec_registerWrite_word, writeWords_bar0, ha]
  simp [State.bar0Write, State.viaBar0, hact, hwin, htx]

/-- Rows of the register map: HPT_ERR_VEC's field, and the two of HPT_DMA_CFG. -/
def errVecRow : RegRow := { f := HPT_ERR_VEC.VECTOR, acc := .rw }
@[inherit_doc errVecRow] def roTelemRow : RegRow := { f := HPT_DMA_CFG.RO_TELEM, acc := .rw, gate := .hpt }
@[inherit_doc errVecRow] def maxRdOutRow : RegRow := { f := HPT_DMA_CFG.MAX_RD_OUT, acc := .rw, gate := .hpt, hi := 256 }

/-- The fields of the words HPT_ERR_VEC, HPT_DMA_CFG and HPT_ID. -/
theorem rowsAt_errVec : ∀ die : Fin 2, rowsAt die 0x1C = [(errVecRow, 0, 0, 0)] := by decide +kernel
@[inherit_doc rowsAt_errVec] theorem rowsAt_dmaCfg : ∀ die : Fin 2,
    rowsAt die 0x20 = [(roTelemRow, 0, 0, 0), (maxRdOutRow, 0, 0, 0)] := by decide +kernel
@[inherit_doc rowsAt_errVec] theorem rowsAt_id : ∀ die : Fin 2, ∀ x ∈ rowsAt die 0x00, x.1.acc = .ro := by decide +kernel

end Sys2Proof.Machine
end

section
/-! The clauses of RegisterWritesFollowTheirClass, one by one. -/
namespace Sys2Proof.Machine

/-- A write with partial byte enables to BAR0 has no effect but its error (R46, R81). -/
theorem registerWrite_partial (s : State) (die : Fin 2) (addr : Word) {be : BitVec 4} (values : List Word) (hbe : be ≠ 0xF) :
    ∃ t, exec (.registerWrite die ⟨.bar0, addr⟩ be values) s = .next t ∧ t.on HPT_ERR_STATUS.PARTIAL_WR die = true ∧
      t.hpt = { s.hpt with pba := t.hpt.pba } ∧ Signalled s t die (s.rd HPT_ERR_VEC.VECTOR) ∧ OnlyHpt s t := by
  refine ⟨s.hptError die 0 0 (addr.toNat % 0x4000000 / 4 * 4), ?_, hptError_on s die 0 _ _, hptError_hpt _ _ _ _ _,
    signalled_hptError _ _ _ _ _, onlyHpt_hptError _ _ _ _ _⟩
  exact congrArg _ (if_pos ⟨rfl, hbe⟩)

/-- A doorbell page's place in BAR2. -/
theorem toNat_page (page : Fin 64) {o : Nat} (h : o < 0x1000) : (BitVec.ofNat 32 (0x1000 * page + o)).toNat = 0x1000 * page + o := by
  have hp := page.isLt
  rw [BitVec.toNat_ofNat]
  omega

/-- A write of another size than one whole word to a doorbell page is recorded with the page's ring set (R50, R81). -/
theorem registerWrite_doorbell_size (s : State) (die : Fin 2) (page : Fin 64) {be : BitVec 4} {values : List Word}
    (h : be ≠ 0xF ∨ values.length ≠ 1) :
    ∃ t, exec (.registerWrite die ⟨.bar2, BitVec.ofNat 32 (0x1000 * page)⟩ be values) s = .next t ∧
      t.on HPT_ERR_STATUS.PARTIAL_WR die = true ∧ (s.errClear die = true → t.rd HPT_ERR_INFO.RING die = page.val) ∧
      t.hpt = { s.hpt with pba := t.hpt.pba } ∧ OnlyHpt s t := by
  have hp := page.isLt
  have ha : (BitVec.ofNat 32 (0x1000 * page)).toNat / 0x1000 % 64 = page := by
    have := toNat_page page (o := 0) (by omega)
    simp only [Nat.add_zero] at this
    omega
  refine ⟨s.hptError die 0 page ((BitVec.ofNat 32 (0x1000 * page)).toNat % 0x40000 / 4 * 4), ?_, hptError_on s die 0 _ _,
    fun hc => ?_, hptError_hpt _ _ _ _ _, onlyHpt_hptError _ _ _ _ _⟩
  · show execRegisterWrite die ⟨.bar2, _⟩ be values s = _
    unfold execRegisterWrite
    dsimp only
    rw [if_neg (by simp), if_pos ⟨rfl, h⟩, ha]
  · rw [hptError_ring hc]
    omega

/-- One word written to a doorbell page is a write of that offset of the page (R50). -/
theorem exec_registerWrite_bar2 (s : State) (die : Fin 2) (page : Fin 64) (value : Word) {o : Nat} (h4 : o % 4 = 0) (ho : o < 0x1000) :
    exec (.registerWrite die ⟨.bar2, BitVec.ofNat 32 (0x1000 * page + o)⟩ 0xF [value]) s =
      .next (s.bar2Write die (0x1000 * page + o) value.toNat) := by
  have hp := page.isLt
  have ha : (0x1000 * page.val + o) % 0x40000 / 4 * 4 = 0x1000 * page + o := by omega
  rw [exec_registerWrite_word, writeWords_bar2, toNat_page page ho, ha]

/-- A word of a doorbell page is the doorbell of its ring (R50). -/
theorem registerWrite_doorbell (s : State) (die : Fin 2) (page : Fin 64) (value : Word) :
    exec (.registerWrite die ⟨.bar2, BitVec.ofNat 32 (0x1000 * page)⟩ 0xF [value]) s = exec (.doorbellSqTail die page value) s ∧
    exec (.registerWrite die ⟨.bar2, BitVec.ofNat 32 (0x1000 * page + 4)⟩ 0xF [value]) s = exec (.doorbellCqHead die page value) s ∧
    exec (.registerWrite die ⟨.bar2, BitVec.ofNat 32 (0x1000 * page + 8)⟩ 0xF [value]) s = exec (.doorbellTqHead die page value) s := by
  have hp := page.isLt
  have hpage (o : Nat) (ho : o < 0x1000) : (0x1000 * page.val + o) / 0x1000 % 64 = page ∧ (0x1000 * page.val + o) % 0x1000 = o := by
    omega
  refine ⟨(exec_registerWrite_bar2 s die page value (o := 0) rfl (by omega)).trans ?_,
    (exec_registerWrite_bar2 s die page value (o := 4) rfl (by omega)).trans ?_,
    (exec_registerWrite_bar2 s die page value (o := 8) rfl (by omega)).trans ?_⟩
  · simp only [State.bar2Write, hpage 0 (by omega)]
    rfl
  · simp only [State.bar2Write, hpage 4 (by omega)]
    rfl
  · simp only [State.bar2Write, hpage 8 (by omega)]
    rfl

/-- A longer write acts as its words in ascending order (R46). -/
theorem registerWrite_two_words (s : State) (die : Fin 2) (addr v w : Word) (h : addr.toNat + 4 < 2 ^ 32) :
    ∃ t, exec (.registerWrite die ⟨.bar0, addr⟩ 0xF [v]) s = .next t ∧
      exec (.registerWrite die ⟨.bar0, addr⟩ 0xF [v, w]) s = exec (.registerWrite die ⟨.bar0, addr + 4⟩ 0xF [w]) t := by
  have ha : (addr + 4).toNat = addr.toNat + 4 := by
    rw [BitVec.toNat_add]
    exact Nat.mod_eq_of_lt h
  refine ⟨_, exec_registerWrite_words s die addr [v], ?_⟩
  rw [exec_registerWrite_words, exec_registerWrite_words, ha]
  rfl

@[simp] theorem flushVecs_mem (s : State) (die : Nat) : (s.flushVecs die).mem = s.mem := rfl

/-- The mask word of an MSI-X vector takes the mask bit (R43), and a vector that it unmasks may be signalled. -/
theorem registerWrite_msixMask (s : State) (die : Fin 2) (vec : Fin 256) (value : Word) (hd : s.d3hot die = false) :
    ∃ t, exec (.registerWrite die ⟨.bar4, BitVec.ofNat 32 (16 * vec + 12)⟩ 0xF [value]) s = .next t ∧
      t.load (msixBase die + 16 * vec + 12) 4 = value.toNat % 2 ∧ t = { s with mem := t.mem, hpt := t.hpt, out := t.out } ∧
      (∀ a, a < msixBase die + 16 * vec + 12 ∨ msixBase die + 16 * vec + 16 ≤ a → t.loadB a = s.loadB a) := by
  have hv := vec.isLt
  have ha : (BitVec.ofNat 32 (16 * vec + 12)).toNat % 0x10000 / 4 * 4 = 16 * vec + 12 := by
    rw [BitVec.toNat_ofNat]
    omega
  have hlow : 16 * vec.val + 12 < 0x1000 := by omega
  have hmask : (16 * vec.val + 12) % 16 = 12 := by omega
  have hexec : exec (.registerWrite die ⟨.bar4, BitVec.ofNat 32 (16 * vec + 12)⟩ 0xF [value]) s =
      .next ((s.store (msixBase die + (16 * vec + 12)) 4 (value.toNat % 2)).flushVecs die) := by
    rw [exec_registerWrite_word, writeWords_bar4 _ _ _ _ hd, ha, State.bar4Write, if_pos hlow, hmask]
    rfl
  refine ⟨_, hexec, ?_, ?_, fun a h => ?_⟩
  · rw [load_of_mem (flushVecs_mem _ _), Nat.add_assoc, load_store_same]
    omega
  · rw [store_eq_mem]
    rfl
  · exact loadB_store_other s _ (by omega)

/-- The power state goes to D3hot (R39, its place as assumption 74 has it). -/
theorem registerWrite_powerState (s : State) (die : Fin 2) {value : Word} (h : value.toNat % 4 = 3) :
    ∃ t, exec (.registerWrite die ⟨.config, 0x44⟩ 0xF [value]) s = .next t ∧ t.d3hot die = true ∧ t = { s with mem := t.mem } ∧
      ∀ a, a ≠ cfgBase die + 0x44 → t.loadB a = s.loadB a := by
  have hexec : exec (.registerWrite die ⟨.config, 0x44⟩ 0xF [value]) s = .next (s.store (cfgBase die + 0x44) 1 3) := by
    rw [exec_registerWrite_word, writeWords_config]
    exact congrArg _ (if_pos h)
  refine ⟨_, hexec, ?_, store_eq_mem _ _ _ _, fun a ha => loadB_store_other s _ (by omega)⟩
  rw [State.d3hot, load_store_same]
  decide

section
variable {s : State} {die : Fin 2}

/-- A live field takes the value at once (R9). -/
theorem registerWrite_errVec (value : Word) (hact : s.bar0 die 0x1C = .act) :
    ∃ t, exec (.registerWrite die ⟨.bar0, 0x1C⟩ 0xF [value]) s = .next t ∧ t.rd HPT_ERR_VEC.VECTOR = value.toNat % 256 ∧
      OnlyRegs [HPT_ERR_VEC.VECTOR.key 0 0 0] s t := by
  have hw : s.regWrite die 0x1C value.toNat = s.wr HPT_ERR_VEC.VECTOR (bits value.toNat 0 8) := by
    rw [regWrite_eq_rowsAt s die _ (by omega), rowsAt_errVec]
    refine fieldWrite_plain (r := errVecRow) s die _ 0 0 0 _ rfl rfl rfl ?_ rfl
    simp only [bits, errVecRow, HPT_ERR_VEC.VECTOR]
    omega
  refine ⟨_, (exec_registerWrite_hpt value rfl (by decide) hact).trans (congrArg _ hw), ?_, onlyRegs_wr _ _ _ _ _ _ (by simp)⟩
  rw [rd_wr_same]
  simp only [bits, HPT_ERR_VEC.VECTOR]
  omega

/-- A read-only word keeps its value (R8). -/
theorem registerWrite_id (value : Word) (hact : s.bar0 die 0x00 = .act) :
    exec (.registerWrite die ⟨.bar0, 0x00⟩ 0xF [value]) s = .next s := by
  rw [exec_registerWrite_hpt value rfl (by decide) hact, show (0x00 : Word).toNat = 0 from rfl, regWrite_eq_rowsAt s die _ (by omega)]
  have h := rowsAt_id die
  generalize rowsAt die 0x00 = rows at h
  induction rows with
  | nil => rfl
  | cons x l ih =>
    rw [List.foldl_cons, fieldWrite_ro _ _ _ _ _ _ _ (h x List.mem_cons_self)]
    exact ih fun y hy => h y (List.mem_cons_of_mem _ hy)

/-- A write to HPT_DMA_CFG is a write of its two fields, in the order of the register map. -/
theorem exec_registerWrite_dmaCfg (value : Word) (hact : s.bar0 die 0x20 = .act) :
    exec (.registerWrite die ⟨.bar0, 0x20⟩ 0xF [value]) s = .next
      ((s.fieldWrite roTelemRow die 0x20 0 0 0 value.toNat).fieldWrite
        maxRdOutRow die 0x20 0 0 0 value.toNat) := by
  rw [exec_registerWrite_hpt value rfl (by decide) hact, show (0x20 : Word).toNat = 0x20 from rfl,
    regWrite_eq_rowsAt s die _ (by omega), rowsAt_dmaCfg]
  rfl

/-- RO_TELEM is a class S field of one bit, so that every value is in range. -/
theorem fieldWrite_roTelem (w : Nat) (hoff : s.on HPT_CTL.ENABLE = false) :
    s.fieldWrite roTelemRow die 0x20 0 0 0 w =
      s.wr HPT_DMA_CFG.RO_TELEM (w / 512 % 2) := by
  refine fieldWrite_plain (r := roTelemRow) s die _ 0 0 0 w rfl rfl rfl ?_ hoff
  simp only [bits, roTelemRow, HPT_DMA_CFG.RO_TELEM]
  omega

/-- A write of RO_TELEM leaves the Host Port's enable. -/
theorem on_enable_wr_roTelem (v : Nat) (hoff : s.on HPT_CTL.ENABLE = false) :
    (s.wr HPT_DMA_CFG.RO_TELEM v).on HPT_CTL.ENABLE = false := by
  rw [State.on, rd_wr_other _ _ (by decide)]
  exact hoff

/-- A class S field takes the value while its enable is 0 (R9). -/
theorem registerWrite_dmaCfg (value : Word) (hact : s.bar0 die 0x20 = .act) (hoff : s.on HPT_CTL.ENABLE = false)
    (hr : value.toNat % 512 ≤ 256) :
    ∃ t, exec (.registerWrite die ⟨.bar0, 0x20⟩ 0xF [value]) s = .next t ∧ t.rd HPT_DMA_CFG.MAX_RD_OUT = value.toNat % 512 ∧
      t.rd HPT_DMA_CFG.RO_TELEM = value.toNat / 512 % 2 ∧
      OnlyRegs [HPT_DMA_CFG.MAX_RD_OUT.key 0 0 0, HPT_DMA_CFG.RO_TELEM.key 0 0 0] s t := by
  have hb : bits value.toNat maxRdOutRow.f.lo maxRdOutRow.f.w = value.toNat % 512 := by
    simp [bits, maxRdOutRow, HPT_DMA_CFG.MAX_RD_OUT]
  refine ⟨(s.wr HPT_DMA_CFG.RO_TELEM (value.toNat / 512 % 2)).wr HPT_DMA_CFG.MAX_RD_OUT (value.toNat % 512), ?_, ?_, ?_,
    (onlyRegs_wr s _ _ _ _ _ (by simp)).wr _ _ _ _ _ (by simp)⟩
  · rw [exec_registerWrite_dmaCfg value hact, fieldWrite_roTelem _ hoff,
      fieldWrite_plain (r := maxRdOutRow) _ _ _ _ _ _ _ rfl rfl rfl (hb.trans_le hr) (on_enable_wr_roTelem _ hoff), hb]
    rfl
  · rw [rd_wr_same]
    exact Nat.mod_mod _ 512
  · rw [rd_wr_other _ _ (by decide), rd_wr_same]
    exact Nat.mod_mod _ 2

/-- While its enable is 1 a class S field keeps its value, and CFG_REJECT is set (R9). -/
theorem registerWrite_dmaCfg_enabled (value : Word) (hact : s.bar0 die 0x20 = .act) (hon : s.on HPT_CTL.ENABLE = true) :
    ∃ t, exec (.registerWrite die ⟨.bar0, 0x20⟩ 0xF [value]) s = .next t ∧ t.rd HPT_STATUS.CFG_REJECT = 1 ∧
      OnlyRegs [HPT_STATUS.CFG_REJECT.key 0 0 0] s t := by
  have hon' : (s.wr HPT_STATUS.CFG_REJECT 1).on HPT_CTL.ENABLE = true := by
    rw [State.on, rd_wr_other _ _ (by decide)]
    exact hon
  refine ⟨(s.wr HPT_STATUS.CFG_REJECT 1).wr HPT_STATUS.CFG_REJECT 1, ?_, rd_wr_same _ _ _ _ _ _,
    (onlyRegs_wr s _ _ _ _ _ (by simp)).wr _ _ _ _ _ (by simp)⟩
  rw [exec_registerWrite_dmaCfg value hact, fieldWrite_refused (r := roTelemRow) _ _ _ _ _ _ _ rfl rfl (.inr hon)]
  exact congrArg _ (fieldWrite_refused (r := maxRdOutRow) _ _ _ _ _ _ _ rfl rfl (.inr hon'))

/-- Out of its range a class S field keeps its value, and CFG_REJECT is set (R9). -/
theorem registerWrite_dmaCfg_range (value : Word) (hact : s.bar0 die 0x20 = .act) (hoff : s.on HPT_CTL.ENABLE = false)
    (hr : 256 < value.toNat % 512) :
    ∃ t, exec (.registerWrite die ⟨.bar0, 0x20⟩ 0xF [value]) s = .next t ∧ t.rd HPT_STATUS.CFG_REJECT = 1 ∧
      t.rd HPT_DMA_CFG.MAX_RD_OUT = s.rd HPT_DMA_CFG.MAX_RD_OUT ∧
      OnlyRegs [HPT_STATUS.CFG_REJECT.key 0 0 0, HPT_DMA_CFG.RO_TELEM.key 0 0 0] s t := by
  have hb : bits value.toNat maxRdOutRow.f.lo maxRdOutRow.f.w = value.toNat % 512 := by
    simp [bits, maxRdOutRow, HPT_DMA_CFG.MAX_RD_OUT]
  refine ⟨(s.wr HPT_DMA_CFG.RO_TELEM (value.toNat / 512 % 2)).wr HPT_STATUS.CFG_REJECT 1, ?_, rd_wr_same _ _ _ _ _ _, ?_,
    (onlyRegs_wr s _ _ _ _ _ (by simp)).wr _ _ _ _ _ (by simp)⟩
  · rw [exec_registerWrite_dmaCfg value hact, fieldWrite_roTelem _ hoff]
    exact congrArg _ (fieldWrite_refused (r := maxRdOutRow) _ _ _ _ _ _ _ rfl rfl (.inl (hr.trans_eq hb.symm)))
  · rw [rd_wr_other _ _ (by decide), rd_wr_other _ _ (by decide)]

/-- A write to the standby has no effect but its error (R41). -/
theorem registerWrite_standby {addr : Word} (value : Word) (hal : aligned addr = true) (hst : s.bar0 die addr.toNat = .standby) :
    ∃ t, exec (.registerWrite die ⟨.bar0, addr⟩ 0xF [value]) s = .next t ∧ t.on HPT_ERR_STATUS.STANDBY_WR die = true ∧
      t.hpt = { s.hpt with pba := t.hpt.pba } ∧ OnlyHpt s t := by
  simp only [aligned, Bool.and_eq_true, beq_iff_eq, decide_eq_true_eq] at hal
  have ha : addr.toNat % 0x4000000 / 4 * 4 = addr.toNat := by omega
  refine ⟨s.hptError die 3 0 addr.toNat, ?_, hptError_on s die 3 _ _, hptError_hpt _ _ _ _ _, onlyHpt_hptError _ _ _ _ _⟩
  rw [exec_registerWrite_word, writeWords_bar0, ha, State.bar0Write, State.viaBar0, hst]

end

end Sys2Proof.Machine

open Sys2Proof Sys2Proof.Machine

/-- Settles O14, clause by clause: each word of a write is a fold over the fields that the register map places in it. -/
theorem registerWritesFollowTheirClass : Obligations.RegisterWritesFollowTheirClass :=
  ⟨fun s die addr _ values hbe => registerWrite_partial s die addr values hbe,
   fun s die page _ _ h => registerWrite_doorbell_size s die page h,
   registerWrite_doorbell,
   registerWrite_two_words,
   registerWrite_msixMask,
   fun s die _ h => registerWrite_powerState s die h,
   fun _ _ value hact => registerWrite_errVec value hact,
   fun _ _ value hact hoff hr => registerWrite_dmaCfg value hact hoff hr,
   fun _ _ value hact hon => registerWrite_dmaCfg_enabled value hact hon,
   fun _ _ value hact hoff hr => registerWrite_dmaCfg_range value hact hoff hr,
   fun _ _ value hact => registerWrite_id value hact,
   fun _ _ _ value hal _ hst => registerWrite_standby value hal hst⟩

end

section
/-! SUPPORT. Single bits of a number: what setting and clearing one leaves of the others, and a number spelled by its bits. -/
namespace Sys2Proof

theorem bit_eq_testBit (v b : Nat) : bit v b = v.testBit b := by rw [bit, Nat.testBit_eq_decide_div_mod_eq]

/-- A power of two added where its bit is clear sets that bit alone. -/
theorem bit_add_two_pow {v b : Nat} (h : bit v b = false) (j : Nat) : bit (v + 2 ^ b) j = (bit v j || j == b) := by
  simp only [bit_eq_testBit] at *
  rcases Nat.lt_trichotomy j b with hj | rfl | hj
  · rw [Nat.add_comm, Nat.testBit_two_pow_add_gt hj]
    simp [Nat.ne_of_lt hj]
  · rw [Nat.add_comm, Nat.testBit_two_pow_add_eq, h]
    simp
  · obtain ⟨m, rfl⟩ := Nat.exists_eq_add_of_lt hj
    have hpos : 0 < 2 ^ b := Nat.two_pow_pos b
    have heven : v / 2 ^ b % 2 = 0 := by
      have := Nat.testBit_eq_decide_div_mod_eq (x := v) (i := b)
      simp [h] at this
      omega
    have hdiv : (v + 2 ^ b) / 2 ^ (b + 1) = v / 2 ^ (b + 1) := by
      rw [pow_succ, ← Nat.div_div_eq_div_mul, ← Nat.div_div_eq_div_mul, Nat.add_div_right _ hpos]
      omega
    have hne : (b + m + 1 == b) = false := by simp; omega
    rw [show b + m + 1 = m + (b + 1) by omega] at *
    rw [Nat.testBit_add, hdiv, ← Nat.testBit_add, hne, Bool.or_false]

theorem bit_setBit (v b j : Nat) : bit (setBit v b) j = (bit v j || j == b) := by
  unfold setBit
  split
  case isTrue h =>
    by_cases hj : j = b
    · rw [hj, h]; rfl
    · simp [hj]
  case isFalse h => exact bit_add_two_pow (by simpa using h) j

theorem bit_clrBit (v b j : Nat) : bit (clrBit v b) j = (bit v j && !(j == b)) := by
  unfold clrBit
  split
  case isTrue h =>
    have hle : 2 ^ b ≤ v := Nat.ge_two_pow_of_testBit (by rwa [← bit_eq_testBit])
    have hv : v - 2 ^ b + 2 ^ b = v := Nat.sub_add_cancel hle
    have hb : bit (v - 2 ^ b) b = false := by
      have := Nat.testBit_two_pow_add_eq (v - 2 ^ b) b
      rw [Nat.add_comm, hv, ← bit_eq_testBit, h, ← bit_eq_testBit] at this
      simpa using this
    have hadd := bit_add_two_pow hb j
    rw [hv] at hadd
    by_cases hj : j = b
    · rw [hj, hb]; simp
    · rw [hadd, beq_false_of_ne hj]; simp
  case isFalse h =>
    by_cases hj : j = b
    · rw [hj]; simpa using h
    · simp [hj]

/-- A cut to `w` bits keeps the bits below. -/
theorem bit_mod_two_pow (v : Nat) {w b : Nat} (h : b < w) : bit (v % 2 ^ w) b = bit v b := by
  simp [bit_eq_testBit, Nat.testBit_mod_two_pow, h]

/-- A sum of distinct powers of two, each taken once or not at all, spells its bits. -/
theorem bit_sum_range {n : Nat} {d : Nat → Nat} (h : ∀ b < n, d b ≤ 1) {j : Nat} (hj : j < n) :
    bit ((List.range n).map fun b => 2 ^ b * d b).sum j = true ↔ d j = 1 := by
  have hlt : ∀ m ≤ n, ((List.range m).map fun b => 2 ^ b * d b).sum < 2 ^ m := by
    intro m
    induction m with
    | zero => simp
    | succ m ih =>
      intro hm
      have := ih (by omega)
      have := Nat.mul_le_mul_left (2 ^ m) (h m (by omega))
      simp only [List.range_succ, List.map_append, List.sum_append, List.map_singleton, List.sum_singleton, pow_succ]
      omega
  induction n with
  | zero => omega
  | succ n ih =>
    simp only [List.range_succ, List.map_append, List.sum_append, List.map_singleton, List.sum_singleton]
    rw [bit_eq_testBit, Nat.add_comm, Nat.testBit_two_pow_mul_add _ (hlt n (by omega))]
    split
    case isTrue hjn =>
      rw [← bit_eq_testBit]
      exact ih (fun b hb => h b (by omega)) hjn fun m hm => hlt m (by omega)
    case isFalse hjn =>
      obtain rfl : j = n := by omega
      have := h j hj
      interval_cases d j <;> simp

end Sys2Proof
end

section
/-! SUPPORT. Clock domains (R472 to R475): what gating and restarting one changes, and that nothing else does. -/
namespace Sys2Proof.Machine

/-- A register of the performance counters' block, on either die. -/
def pmcKey (k : Nat) : Prop := 0x7080000 ≤ k % 0x80000000 ∧ k % 0x80000000 < 0x7100000

/-- One of them, or PWR_CLK_GATED, PWR_CLK_LOCK or PWR_CNT_WAKE of either die. -/
def clockKey (k : Nat) : Prop := pmcKey k ∨ 0x7800A00 ≤ k % 0x80000000 ∧ k % 0x80000000 < 0x7800A60

/-- Nothing but register fields with a key in `K`, what the performance counters keep and what the clock manager keeps differs
between `s` and `t`. -/
def ClockFrame (K : Nat → Prop) (s t : State) : Prop :=
  t = { s with regs := t.regs, pmc := t.pmc, pwr := t.pwr } ∧ ∀ k, ¬ K k → nget t.regs k = nget s.regs k

section
variable {K : Nat → Prop} {s t : State}

theorem clockFrame_refl (K : Nat → Prop) (s : State) : ClockFrame K s s := ⟨rfl, fun _ _ => rfl⟩

theorem ClockFrame.trans {a b c : State} (h : ClockFrame K a b) (g : ClockFrame K b c) : ClockFrame K a c := by
  refine ⟨?_, fun k hk => (g.2 k hk).trans (h.2 k hk)⟩
  have h1 := g.1
  rw [h.1] at h1
  exact h1

theorem ClockFrame.mono {L : Nat → Prop} (h : ClockFrame K s t) (hKL : ∀ k, K k → L k) : ClockFrame L s t :=
  ⟨h.1, fun k hk => h.2 k fun hK => hk (hKL k hK)⟩

theorem ClockFrame.wr (h : ClockFrame K s t) (f : Fld) (v i j k : Nat) (hk : K (f.key i j k)) : ClockFrame K s (t.wr f v i j k) :=
  h.trans ⟨rfl, fun _ hn => nget_nset_other _ _ fun e => hn (e ▸ hk)⟩

theorem ClockFrame.setPmc (h : ClockFrame K s t) (p : Pmc) : ClockFrame K s { t with pmc := p } := h.trans ⟨rfl, fun _ _ => rfl⟩

theorem ClockFrame.setPwr (h : ClockFrame K s t) (p : Pwr) : ClockFrame K s { t with pwr := p } := h.trans ⟨rfl, fun _ _ => rfl⟩

theorem clockFrame_ite {p : Prop} [Decidable p] {a b : State} (ha : ClockFrame K s a) (hb : ClockFrame K s b) :
    ClockFrame K s (if p then a else b) := by split <;> assumption

theorem clockFrame_foldl {α : Type} {f : State → α → State} (hf : ∀ x a, ClockFrame K x (f x a)) (l : List α) (s : State) :
    ClockFrame K s (l.foldl f s) := by
  induction l generalizing s with
  | nil => exact clockFrame_refl K s
  | cons a l ih => exact (hf s a).trans (ih _)

theorem ClockFrame.rd (h : ClockFrame K s t) {f : Fld} {i j k : Nat} (hk : ¬ K (f.key i j k)) : t.rd f i j k = s.rd f i j k := by
  rw [State.rd, State.rd, h.2 _ hk]

theorem ClockFrame.now (h : ClockFrame K s t) : t.now = s.now := by rw [h.1]
theorem ClockFrame.mem (h : ClockFrame K s t) : t.mem = s.mem := by rw [h.1]
theorem ClockFrame.out (h : ClockFrame K s t) : t.out = s.out := by rw [h.1]

end

theorem pmcKey_count (i j k : Nat) : pmcKey (PMC_CNT.COUNT.key i j k) := by
  simp only [pmcKey, Fld.key, PMC_CNT.COUNT]
  omega

theorem clockKey_gated (i : Nat) : clockKey (PWR_CLK_GATED.GATED.key i 0 0) := by
  simp only [clockKey, Fld.key, PWR_CLK_GATED.GATED]
  omega

theorem clockKey_lock (i : Nat) : clockKey (PWR_CLK_LOCK.LOCK.key i 0 0) := by
  simp only [clockKey, Fld.key, PWR_CLK_LOCK.LOCK]
  omega

theorem clockKey_wake (i : Nat) : clockKey (PWR_CNT_WAKE.COUNT.key i 0 0) := by
  simp only [clockKey, Fld.key, PWR_CNT_WAKE.COUNT]
  omega

theorem clockFrame_pmcIncr (s : State) (die core k n : Nat) : ClockFrame pmcKey s (s.pmcIncr die core k n) := by
  have h1 (v : Nat) : ClockFrame pmcKey s (s.wr PMC_CNT.COUNT v die core k) := (clockFrame_refl _ s).wr _ _ _ _ _ (pmcKey_count _ _ _)
  have h2 (v u : Nat) : ClockFrame pmcKey s ((s.wr PMC_CNT.COUNT v die core k).wr PMC_CNT.COUNT u die core (k + 1)) :=
    (h1 v).wr _ _ _ _ _ (pmcKey_count _ _ _)
  refine clockFrame_ite (h1 _) (clockFrame_ite (clockFrame_ite (h1 _) (clockFrame_ite (h2 _ _) ?_)) ?_)
  · exact (h2 _ _).setPmc _
  · exact (h1 _).setPmc _

theorem clockFrame_pmcAdd (s : State) (die core ev : Nat) (cls : Option Nat) (n : Nat) (edge : Bool) :
    ClockFrame pmcKey s (s.pmcAdd die core ev cls n edge) :=
  clockFrame_ite (clockFrame_refl _ _)
    (clockFrame_foldl (fun _ _ => clockFrame_ite (clockFrame_pmcIncr _ _ _ _ _) (clockFrame_refl _ _)) _ _)

theorem clockFrame_pmcAccrue (s : State) (die core : Nat) : ClockFrame pmcKey s (s.pmcAccrue die core) :=
  clockFrame_ite ((clockFrame_refl _ s).setPmc _)
    ((((clockFrame_pmcAdd _ _ _ _ _ _ _).trans (clockFrame_pmcAdd _ _ _ _ _ _ _)).trans (clockFrame_pmcAdd _ _ _ _ _ _ _)).setPmc _)

/-- The cycle counters' stop and start change the performance counters alone. -/
theorem clockFrame_coreClock (s : State) (die cluster : Nat) (run : Bool) : ClockFrame pmcKey s (s.coreClock die cluster run) :=
  clockFrame_foldl (fun _ _ => (clockFrame_pmcAccrue _ _ _).setPmc _) _ _

theorem clockFrame_clockOn (s : State) (die dom : Nat) : ClockFrame clockKey s (s.clockOn die dom) :=
  clockFrame_ite (clockFrame_refl _ _) (((((clockFrame_refl _ s).wr _ _ _ _ _ (clockKey_gated die)).wr _ _ _ _ _
    (clockKey_lock die)).wr _ _ _ _ _ (clockKey_wake die)).setPwr _)

/-- The counters' part of gating or restarting a domain: a loop cluster's cores. -/
theorem clockFrame_cluster (s : State) (die dom : Nat) (run : Bool) :
    ClockFrame pmcKey s (if dom < 8 then s.coreClock die dom run else s) :=
  clockFrame_ite (clockFrame_coreClock _ _ _ _) (clockFrame_refl _ _)

theorem clockFrame_gateOff (s : State) (die dom : Nat) : ClockFrame clockKey s (s.gateOff die dom) :=
  (((clockFrame_cluster s die dom false).mono fun _ => .inl).wr _ _ _ _ _ (clockKey_gated die)).wr _ _ _ _ _ (clockKey_lock die)

/-- Gating what has no work changes the clocks alone. -/
theorem clockFrame_regate (s : State) : ClockFrame clockKey s s.regate :=
  clockFrame_ite (clockFrame_refl _ _) (clockFrame_foldl (fun _ _ => clockFrame_foldl (fun _ _ =>
    clockFrame_ite (clockFrame_refl _ _) (clockFrame_gateOff _ _ _)) _ _) _ _)

theorem clockFrame_restart (s : State) (die dom : Nat) : ClockFrame clockKey s (s.restart die dom) :=
  clockFrame_ite (clockFrame_refl _ _) (((clockFrame_cluster s die dom true).mono fun _ => .inl).trans (clockFrame_clockOn _ _ _))

theorem clockFrame_restartAll (s : State) (die : Nat) : ClockFrame clockKey s (s.restartAll die) :=
  clockFrame_foldl (fun _ _ => clockFrame_restart _ _ _) _ _

/-- Outside Dusk nothing is gated anew. -/
theorem regate_of_not_dusk {s : State} (h : s.on PWR_STATUS.DUSK = false) : s.regate = s := by simp [State.regate, h]

/-- A counter advanced reads its sum, up to its greatest value. -/
theorem rd_bump_same (s : State) (f : Fld) (n i j k : Nat) : (s.bump f n i j k).rd f i j k = min (s.rd f i j k + n) (2 ^ f.w - 1) := by
  have hpos : 0 < 2 ^ f.w := Nat.two_pow_pos _
  rw [State.bump, rd_wr_same]
  exact Nat.mod_eq_of_lt (by omega)

theorem rd_bump_other (s : State) {f g : Fld} (n : Nat) {i j k a b c : Nat} (h : g.key a b c ≠ f.key i j k) :
    (s.bump f n i j k).rd g a b c = s.rd g a b c := rd_wr_other _ _ h

/-- The three clock registers have keys of their own. -/
theorem clock_keys_ne (d e : Nat) :
    PWR_CLK_GATED.GATED.key d 0 0 ≠ PWR_CLK_LOCK.LOCK.key e 0 0 ∧ PWR_CLK_GATED.GATED.key d 0 0 ≠ PWR_CNT_WAKE.COUNT.key e 0 0 ∧
    PWR_CLK_LOCK.LOCK.key d 0 0 ≠ PWR_CLK_GATED.GATED.key e 0 0 ∧ PWR_CLK_LOCK.LOCK.key d 0 0 ≠ PWR_CNT_WAKE.COUNT.key e 0 0 ∧
    PWR_CNT_WAKE.COUNT.key d 0 0 ≠ PWR_CLK_GATED.GATED.key e 0 0 ∧ PWR_CNT_WAKE.COUNT.key d 0 0 ≠ PWR_CLK_LOCK.LOCK.key e 0 0 := by
  simp only [Fld.key, PWR_CLK_GATED.GATED, PWR_CLK_LOCK.LOCK, PWR_CNT_WAKE.COUNT]
  omega

/-- Each die has clock registers of its own. -/
theorem clock_die_ne {d e : Nat} (hd : d < 2) (he : e < 2) (h : d ≠ e) :
    PWR_CLK_GATED.GATED.key d 0 0 ≠ PWR_CLK_GATED.GATED.key e 0 0 ∧ PWR_CLK_LOCK.LOCK.key d 0 0 ≠ PWR_CLK_LOCK.LOCK.key e 0 0 := by
  simp only [Fld.key, PWR_CLK_GATED.GATED, PWR_CLK_LOCK.LOCK]
  omega

/-- A clock register lies outside the performance counters. -/
theorem not_pmcKey_clock (d : Nat) : ¬ pmcKey (PWR_CLK_GATED.GATED.key d 0 0) ∧ ¬ pmcKey (PWR_CLK_LOCK.LOCK.key d 0 0) ∧
    ¬ pmcKey (PWR_CNT_WAKE.COUNT.key d 0 0) := by
  simp only [pmcKey, Fld.key, PWR_CLK_GATED.GATED, PWR_CLK_LOCK.LOCK, PWR_CNT_WAKE.COUNT]
  omega

/-- The registers after a gated domain's clock is on. -/
theorem clockOn_rd {s : State} {die dom : Nat} (h : s.gated die dom = true) (f : Fld) (i j k : Nat) :
    (s.clockOn die dom).rd f i j k = (((s.wr PWR_CLK_GATED.GATED (clrBit (s.rd PWR_CLK_GATED.GATED die) dom) die).wr
      PWR_CLK_LOCK.LOCK (setBit (s.rd PWR_CLK_LOCK.LOCK die) dom) die).bump PWR_CNT_WAKE.COUNT 1 die).rd f i j k := by
  unfold State.clockOn
  rw [if_neg (by simp [h])]
  rfl

/-- The registers of a die after a gated domain has restarted. -/
theorem restart_rd {s : State} {die dom : Nat} (h : s.gated die dom = true) :
    (s.restart die dom).rd PWR_CLK_GATED.GATED die = clrBit (s.rd PWR_CLK_GATED.GATED die) dom % 2 ^ 22 ∧
    (s.restart die dom).rd PWR_CLK_LOCK.LOCK die = setBit (s.rd PWR_CLK_LOCK.LOCK die) dom % 2 ^ 22 ∧
    (s.restart die dom).rd PWR_CNT_WAKE.COUNT die = min (s.rd PWR_CNT_WAKE.COUNT die + 1) (2 ^ 32 - 1) := by
  have hc := clockFrame_cluster s die dom true
  obtain ⟨kg, kl, kw⟩ := not_pmcKey_clock die
  have hg := hc.rd kg
  have hl := hc.rd kl
  have hw := hc.rd kw
  obtain ⟨gl, gw, lg, lw, wg, wl⟩ := clock_keys_ne die die
  unfold State.restart
  rw [if_neg (by simp [h])]
  generalize (if dom < 8 then s.coreClock die dom true else s) = s1 at *
  have h1 : s1.gated die dom = true := by rw [State.gated, hg]; exact h
  refine ⟨?_, ?_, ?_⟩
  · rw [clockOn_rd h1, rd_bump_other _ _ gw, rd_wr_other _ _ gl, rd_wr_same, hg]
    rfl
  · rw [clockOn_rd h1, rd_bump_other _ _ lw, rd_wr_same, hl]
    rfl
  · rw [clockOn_rd h1, rd_bump_same, rd_wr_other _ _ wl, rd_wr_other _ _ wg, hw]
    rfl

/-- A restart leaves the other die's clock registers. -/
theorem restart_rd_other {s : State} {d die : Nat} (dom : Nat) (hd : d < 2) (hdie : die < 2) (h : d ≠ die) :
    (s.restart die dom).rd PWR_CLK_GATED.GATED d = s.rd PWR_CLK_GATED.GATED d ∧
    (s.restart die dom).rd PWR_CLK_LOCK.LOCK d = s.rd PWR_CLK_LOCK.LOCK d := by
  have hc := clockFrame_cluster s die dom true
  obtain ⟨kg, kl, -⟩ := not_pmcKey_clock d
  have hg := hc.rd kg
  have hl := hc.rd kl
  obtain ⟨gl, gw, lg, lw, -, -⟩ := clock_keys_ne d die
  obtain ⟨gg, ll⟩ := clock_die_ne hd hdie h
  unfold State.restart
  split
  · exact ⟨rfl, rfl⟩
  · generalize (if dom < 8 then s.coreClock die dom true else s) = s1 at *
    by_cases h1 : s1.gated die dom = true
    · simp only [clockOn_rd h1]
      rw [rd_bump_other _ _ gw, rd_wr_other _ _ gl, rd_wr_other _ _ gg, rd_bump_other _ _ lw, rd_wr_other _ _ ll, rd_wr_other _ _ lg]
      exact ⟨hg, hl⟩
    · have hoff : s1.clockOn die dom = s1 := by simp [State.clockOn, h1]
      rw [hoff]
      exact ⟨hg, hl⟩

/-- A restart ends the gating of its own domain alone. -/
theorem gated_restart (s : State) {die dom d b : Nat} (hdie : die < 2) (hd : d < 2) (hb : b < 22) :
    (s.restart die dom).gated d b = (s.gated d b && !(d == die && b == dom)) := by
  by_cases hg : s.gated die dom = true
  · by_cases h : d = die
    · subst h
      rw [State.gated, (restart_rd hg).1, bit_mod_two_pow _ hb, bit_clrBit]
      simp [State.gated]
    · simp [State.gated, (restart_rd_other dom hd hdie h).1, h]
  · have hr : s.restart die dom = s := by simp [State.restart, hg]
    rw [hr]
    by_cases h : d = die ∧ b = dom
    · obtain ⟨rfl, rfl⟩ := h
      simpa using hg
    · have : (d == die && b == dom) = false := by simpa using h
      simp [this]

/-- A restart of a gated domain locks its PLL, and no lock is lost. -/
theorem lock_restart (s : State) {die dom d b : Nat} (hdie : die < 2) (hd : d < 2) (hb : b < 22) :
    bit ((s.restart die dom).rd PWR_CLK_LOCK.LOCK d) b =
      (bit (s.rd PWR_CLK_LOCK.LOCK d) b || (d == die && b == dom && s.gated d b)) := by
  by_cases hg : s.gated die dom = true
  · by_cases h : d = die
    · subst h
      rw [(restart_rd hg).2.1, bit_mod_two_pow _ hb, bit_setBit]
      by_cases hbd : b = dom
      · subst hbd; simp [hg]
      · simp [beq_false_of_ne hbd]
    · simp [(restart_rd_other dom hd hdie h).2, h]
  · have hr : s.restart die dom = s := by simp [State.restart, hg]
    rw [hr]
    by_cases h : d = die ∧ b = dom
    · obtain ⟨rfl, rfl⟩ := h
      simp [hg]
    · have : (d == die && b == dom) = false := by simpa using h
      simp [this]

/-- Restarts of a list of domains end the gating of those alone. -/
theorem gated_restarts (l : List Nat) (s : State) {die d b : Nat} (hdie : die < 2) (hd : d < 2) (hb : b < 22) :
    (l.foldl (fun t dom => t.restart die dom) s).gated d b = (s.gated d b && !(d == die && l.contains b)) := by
  induction l generalizing s with
  | nil => simp
  | cons dom l ih =>
    rw [List.foldl_cons, ih, gated_restart s hdie hd hb, List.contains_cons]
    cases s.gated d b <;> cases d == die <;> cases b == dom <;> simp

/-- Restarts of a list of domains lock the PLLs of those that were gated. -/
theorem lock_restarts (l : List Nat) (s : State) {die d b : Nat} (hdie : die < 2) (hd : d < 2) (hb : b < 22) :
    bit ((l.foldl (fun t dom => t.restart die dom) s).rd PWR_CLK_LOCK.LOCK d) b =
      (bit (s.rd PWR_CLK_LOCK.LOCK d) b || (d == die && l.contains b && s.gated d b)) := by
  induction l generalizing s with
  | nil => simp
  | cons dom l ih =>
    rw [List.foldl_cons, ih, lock_restart s hdie hd hb, gated_restart s hdie hd hb, List.contains_cons]
    cases bit (s.rd PWR_CLK_LOCK.LOCK d) b <;> cases s.gated d b <;> cases d == die <;> cases b == dom <;> simp

end Sys2Proof.Machine
end

section
/-! SUPPORT. Sending channels to a class (R222, R223, R473): which bytes and which of the Loop Array's lists it changes. -/
namespace Sys2Proof.Machine

/-- Where CCLASS of a channel stands. -/
def cclassAddr (ch : Nat) : Nat := ctxAddr (3 * ch) + 58

/-- Nothing but the Loop Array's lists and CCLASS of the channels in `P` differs between `s` and `t`. -/
def ClassFrame (P : Nat → Prop) (s t : State) : Prop :=
  t = { s with mem := t.mem, lpa := t.lpa } ∧ ∀ a, (∀ ch, P ch → a ≠ cclassAddr ch) → t.loadB a = s.loadB a

section
variable {P : Nat → Prop} {s t : State}

theorem classFrame_refl (P : Nat → Prop) (s : State) : ClassFrame P s s := ⟨rfl, fun _ _ => rfl⟩

theorem ClassFrame.trans {a b c : State} (h : ClassFrame P a b) (g : ClassFrame P b c) : ClassFrame P a c := by
  refine ⟨?_, fun k hk => (g.2 k hk).trans (h.2 k hk)⟩
  have h1 := g.1
  rw [h.1] at h1
  exact h1

theorem ClassFrame.mono {Q : Nat → Prop} (h : ClassFrame P s t) (hPQ : ∀ ch, P ch → Q ch) : ClassFrame Q s t :=
  ⟨h.1, fun a ha => h.2 a fun ch hch => ha ch (hPQ ch hch)⟩

theorem ClassFrame.setLpa (h : ClassFrame P s t) (l : Lpa) : ClassFrame P s { t with lpa := l } := h.trans ⟨rfl, fun _ _ => rfl⟩

theorem classFrame_ite {p : Prop} [Decidable p] {a b : State} (ha : ClassFrame P s a) (hb : ClassFrame P s b) :
    ClassFrame P s (if p then a else b) := by split <;> assumption

theorem ClassFrame.regs (h : ClassFrame P s t) : t.regs = s.regs := by rw [h.1]
theorem ClassFrame.out (h : ClassFrame P s t) : t.out = s.out := by rw [h.1]
theorem ClassFrame.duskAsked (h : ClassFrame P s t) : t.duskAsked = s.duskAsked := by
  simp only [State.duskAsked, State.on, rd_congr h.regs]

end

theorem classFrame_setCclass (s : State) (ch v : Nat) : ClassFrame (· = ch) s (s.setCclass ch v) := by
  refine ⟨store_eq_mem _ _ _ _, fun a ha => loadB_store_other s v ?_⟩
  have := ha ch rfl
  simp only [cclassAddr] at this
  omega

theorem classFrame_duskClass (P : Nat → Prop) (s : State) (ch cls : Nat) : ClassFrame P s (s.duskClass ch cls).2 := by
  unfold State.duskClass
  split
  · exact classFrame_refl P s
  · split
    · exact classFrame_refl P s
    · exact (classFrame_refl P s).setLpa _

/-- CCLASS of a channel after a write of it, and of another channel. -/
theorem cclass_setCclass (s : State) (ch v c : Nat) : (s.setCclass ch v).cclass c = if c = ch then v % 256 else s.cclass c := by
  split
  case isTrue h =>
    subst h
    exact load_store_same s _ 1 v
  case isFalse h =>
    refine load_congr fun b hb hn => loadB_store_other s v ?_
    simp only [ctxAddr] at *
    omega

theorem cclass_lt (s : State) (ch : Nat) : s.cclass ch < 256 := by
  rw [State.cclass, load_one]
  exact (s.loadB _).isLt

/-- The class of every channel and its PAUSED bit stay as they are. -/
def SameClass (s t : State) : Prop := ∀ c, t.chClass c = s.chClass c ∧ t.chPaused c = s.chPaused c

theorem SameClass.trans {a b c : State} (h : SameClass a b) (g : SameClass b c) : SameClass a c :=
  fun ch => ⟨(g ch).1.trans (h ch).1, (g ch).2.trans (h ch).2⟩

/-- The bytes decide the classes. -/
theorem sameClass_of_mem {s t : State} (h : t.mem = s.mem) : SameClass s t := fun c => by
  simp only [State.chClass, State.chPaused, State.cclass, load_of_mem h, and_self]

/-- Clearing SWAIT or TWAIT leaves the class of a channel and its PAUSED bit. -/
theorem sameClass_clrBit (s : State) (ch : Nat) {b : Nat} (hb : b = 2 ∨ b = 3) : SameClass s (s.setCclass ch (clrBit (s.cclass ch) b)) := by
  intro c
  simp only [State.chClass, State.chPaused, cclass_setCclass]
  split
  case isTrue h =>
    subst h
    have hlt := cclass_lt s c
    generalize s.cclass c = v at hlt
    refine ⟨?_, ?_⟩
    · rcases hb with rfl | rfl <;> simp only [clrBit, bit, decide_eq_true_eq] <;> split <;> omega
    · rw [show 256 = 2 ^ 8 from rfl, bit_mod_two_pow _ (by omega), bit_clrBit]
      rcases hb with rfl | rfl <;> simp
  case isFalse => exact ⟨rfl, rfl⟩

/-- The class changes, the resumptions and the restore classes stay as they are. -/
def SameLists (a b : Lpa) : Prop := b.changes = a.changes ∧ b.resume = a.resume ∧ b.duskFrom = a.duskFrom

theorem SameLists.trans {a b c : Lpa} (h : SameLists a b) (g : SameLists b c) : SameLists a c :=
  ⟨g.1.trans h.1, g.2.1.trans h.2.1, g.2.2.trans h.2.2⟩

/-- Joining or leaving a wait list writes CCLASS of the channel and its own lists; leaving one clears SWAIT or TWAIT. -/
theorem setWait_cases (s : State) (cls ch : Nat) (v : Bool) (at_ : Nat) : s.setWait cls ch v at_ = s ∨
    ∃ b l, s.setWait cls ch v at_ = { s.setCclass ch b with lpa := l } ∧ SameLists s.lpa l ∧
      (v = false → ∃ k, (k = 2 ∨ k = 3) ∧ b = clrBit (s.cclass ch) k) := by
  have hl (b : Nat) : (s.setCclass ch b).lpa = s.lpa := by rw [State.setCclass, store_eq_mem]
  have hlists (b : Nat) (x y : List Nat) (w : List (Nat × Nat)) :
      SameLists s.lpa { (s.setCclass ch b).lpa with swait := x, twait := y, waitAt := w } := by
    rw [hl]; exact ⟨rfl, rfl, rfl⟩
  by_cases h0 : cls = 0
  · subst h0
    cases v
    · exact .inr ⟨_, _, rfl, hlists _ _ _ _, fun _ => ⟨2, .inl rfl, rfl⟩⟩
    · exact .inr ⟨_, _, rfl, hlists _ _ _ _, nofun⟩
  · by_cases h1 : cls = 1
    · subst h1
      cases v
      · exact .inr ⟨_, _, rfl, hlists _ _ _ _, fun _ => ⟨3, .inr rfl, rfl⟩⟩
      · exact .inr ⟨_, _, rfl, hlists _ _ _ _, nofun⟩
    · exact .inl (by simp [State.setWait, h0, h1])

theorem classFrame_setWait (s : State) (cls ch : Nat) (v : Bool) (at_ : Nat) : ClassFrame (· = ch) s (s.setWait cls ch v at_) := by
  obtain h | ⟨b, l, h, -, -⟩ := setWait_cases s cls ch v at_ <;> rw [h]
  · exact classFrame_refl _ s
  · exact (classFrame_setCclass s ch b).setLpa l

theorem sameLists_setWait (s : State) (cls ch : Nat) (v : Bool) (at_ : Nat) : SameLists s.lpa (s.setWait cls ch v at_).lpa := by
  obtain h | ⟨b, l, h, hl, -⟩ := setWait_cases s cls ch v at_ <;> rw [h]
  · exact ⟨rfl, rfl, rfl⟩
  · exact hl

theorem sameClass_leaveWait (s : State) (cls ch at_ : Nat) : SameClass s (s.setWait cls ch false at_) := by
  obtain h | ⟨b, l, h, -, hb⟩ := setWait_cases s cls ch false at_ <;> rw [h]
  · exact fun _ => ⟨rfl, rfl⟩
  · obtain ⟨k, hk, rfl⟩ := hb rfl
    exact (sameClass_clrBit s ch hk).trans (sameClass_of_mem rfl)

/-- The state without the class change of a channel. -/
def State.withoutChange (s : State) (ch : Nat) : State :=
  { s with lpa := { s.lpa with changes := s.lpa.changes.filter fun c => c.ch != ch } }

/-- The first part of sending a channel to a class: its change and its waits go. -/
def State.leaveWaits (s : State) (ch : Nat) : State := ((s.withoutChange ch).setWait 0 ch false).setWait 1 ch false

/-- The second part: it waits for a full class, and joins the changes to the class it goes to now. -/
def State.joinClass (s t : State) (ch cls : Nat) : State :=
  let full := t.classFull cls
  let t1 := if full then t.setWait cls ch true else t
  let dst := if full then 2 else cls
  if s.chClass ch = dst ∧ !s.chPaused ch then t1
  else { t1 with lpa := { t1.lpa with changes := { ch := ch, cls := dst, after := s.now } :: t1.lpa.changes } }

/-- Sending a channel to a class (R222, R223) asks whether it goes to Dusk instead (R473), and then is these two parts. -/
theorem sendTo_eq (s : State) (ch cls : Nat) : s.sendTo ch cls =
    (s.duskClass ch cls).2.joinClass ((s.duskClass ch cls).2.leaveWaits ch) ch (s.duskClass ch cls).1 := rfl

theorem classFrame_leaveWaits (s : State) (ch : Nat) : ClassFrame (· = ch) s (s.leaveWaits ch) := by
  have h : ClassFrame (· = ch) s (s.withoutChange ch) := (classFrame_refl _ s).setLpa _
  exact (h.trans (classFrame_setWait _ 0 ch false _)).trans (classFrame_setWait _ 1 ch false _)

theorem sameClass_leaveWaits (s : State) (ch : Nat) : SameClass s (s.leaveWaits ch) := by
  have h : SameClass s (s.withoutChange ch) := sameClass_of_mem rfl
  exact (h.trans (sameClass_leaveWait _ 0 ch _)).trans (sameClass_leaveWait _ 1 ch _)

/-- The lists that leaving the waits leaves, but for the channel's own change. -/
theorem leaveWaits_lists (s : State) (ch : Nat) :
    SameLists (s.withoutChange ch).lpa (s.leaveWaits ch).lpa :=
  (sameLists_setWait _ 0 ch false _).trans (sameLists_setWait _ 1 ch false _)

theorem classFrame_joinClass {s t : State} {ch : Nat} (h : ClassFrame (· = ch) s t) (u : State) (cls : Nat) :
    ClassFrame (· = ch) s (u.joinClass t ch cls) := by
  have h1 : ClassFrame (· = ch) s (if t.classFull cls then t.setWait cls ch true else t) :=
    classFrame_ite (h.trans (classFrame_setWait _ _ _ _ _)) h
  exact classFrame_ite h1 (h1.setLpa _)

/-- Sending a channel changes its CCLASS and the Loop Array's lists alone. -/
theorem classFrame_sendTo (s : State) (ch cls : Nat) : ClassFrame (· = ch) s (s.sendTo ch cls) := by
  rw [sendTo_eq]
  exact classFrame_joinClass ((classFrame_duskClass _ s ch cls).trans (classFrame_leaveWaits _ ch)) _ _

/-- Joining a class leaves the resumptions and the restore classes, and adds at most a change. -/
theorem joinClass_lists (s t : State) (ch cls : Nat) : (s.joinClass t ch cls).lpa.resume = t.lpa.resume ∧
    (s.joinClass t ch cls).lpa.duskFrom = t.lpa.duskFrom ∧ ∀ c ∈ t.lpa.changes, c ∈ (s.joinClass t ch cls).lpa.changes := by
  have h1 : SameLists t.lpa (if t.classFull cls then t.setWait cls ch true else t).lpa := by
    split
    · exact sameLists_setWait _ _ _ _ _
    · exact ⟨rfl, rfl, rfl⟩
  unfold State.joinClass
  dsimp only
  generalize (if t.classFull cls then t.setWait cls ch true else t) = t1 at h1
  generalize (if t.classFull cls then 2 else cls) = dst
  obtain ⟨hc, hr, hd⟩ := h1
  split
  · exact ⟨hr, hd, fun c h => hc ▸ h⟩
  · exact ⟨hr, hd, fun c h => List.mem_cons_of_mem _ (hc ▸ h)⟩

/-! #### While Dusk is asked for -/

/-- While Dusk is asked for, every channel goes to Dusk, and its restore class is kept (R473). -/
theorem duskClass_asked {s : State} (h : s.duskAsked = true) (ch cls : Nat) : (s.duskClass ch cls).1 = 3 ∧
    (s.duskClass ch cls).2.mem = s.mem ∧ (s.duskClass ch cls).2.lpa.changes = s.lpa.changes ∧
    (s.duskClass ch cls).2.lpa.resume = s.lpa.resume ∧
    ∀ c, nget s.lpa.duskFrom c ≠ 0 → nget (s.duskClass ch cls).2.lpa.duskFrom c ≠ 0 := by
  unfold State.duskClass
  rw [if_neg (by simp [h])]
  split
  · exact ⟨rfl, rfl, rfl, rfl, fun _ hc => hc⟩
  · refine ⟨rfl, rfl, rfl, rfl, fun c hc => ?_⟩
    rw [nget_nset]
    split
    · omega
    · exact hc

/-- Dusk is never full (R223). -/
theorem classFull_dusk (s : State) : s.classFull 3 = false := by simp [State.classFull, State.classCap]

/-- Joining Dusk: a channel that is not there yet has its change; no class moves before its phase 0. -/
theorem joinClass_dusk (s t : State) (ch : Nat) : SameClass t (s.joinClass t ch 3) ∧
    (s.chClass ch ≠ 3 → ∃ c ∈ (s.joinClass t ch 3).lpa.changes, c.ch = ch ∧ c.cls = 3) := by
  unfold State.joinClass
  simp only [classFull_dusk, Bool.false_eq_true, if_false]
  split
  case isTrue h => exact ⟨sameClass_of_mem rfl, fun hn => absurd h.1 hn⟩
  case isFalse => exact ⟨sameClass_of_mem rfl, fun _ => ⟨_, List.mem_cons_self, rfl, rfl⟩⟩

section
variable {s : State} (h : s.duskAsked = true)
include h

/-- While Dusk is asked for, sending a channel keeps every class, the resumptions and the restore classes that are kept. -/
theorem sendTo_dusk_keeps (ch cls : Nat) : SameClass s (s.sendTo ch cls) ∧ (s.sendTo ch cls).lpa.resume = s.lpa.resume ∧
    ∀ c, nget s.lpa.duskFrom c ≠ 0 → nget (s.sendTo ch cls).lpa.duskFrom c ≠ 0 := by
  obtain ⟨h3, hm, -, hr, hd⟩ := duskClass_asked h ch cls
  rw [sendTo_eq, h3]
  generalize (s.duskClass ch cls).2 = t at *
  obtain ⟨-, lr, ld⟩ := leaveWaits_lists t ch
  obtain ⟨jr, jd, -⟩ := joinClass_lists t (t.leaveWaits ch) ch 3
  refine ⟨((sameClass_of_mem hm).trans (sameClass_leaveWaits t ch)).trans (joinClass_dusk t _ ch).1, jr.trans (lr.trans hr),
    fun c hc => ?_⟩
  rw [jd, ld]
  exact hd c hc

/-- A channel that is sent is on its way to Dusk, unless it is there. -/
theorem sendTo_dusk_sends {ch : Nat} (cls : Nat) (hc : s.chClass ch ≠ 3) :
    ∃ c ∈ (s.sendTo ch cls).lpa.changes, c.ch = ch ∧ c.cls = 3 := by
  obtain ⟨h3, hm, -, -, -⟩ := duskClass_asked h ch cls
  rw [sendTo_eq, h3]
  refine (joinClass_dusk _ _ ch).2 ?_
  rw [((sameClass_of_mem hm) ch).1]
  exact hc

/-- A channel on its way to Dusk stays so, whichever channel is sent next. -/
theorem sendTo_dusk_keeps_sent {ch : Nat} (hc : s.chClass ch ≠ 3) (hs : ∃ c ∈ s.lpa.changes, c.ch = ch ∧ c.cls = 3) (d cls : Nat) :
    ∃ c ∈ (s.sendTo d cls).lpa.changes, c.ch = ch ∧ c.cls = 3 := by
  by_cases hd : d = ch
  · subst hd
    exact sendTo_dusk_sends h cls hc
  · obtain ⟨c, hmem, hch, hcls⟩ := hs
    obtain ⟨h3, -, hcs, -, -⟩ := duskClass_asked h d cls
    rw [sendTo_eq, h3]
    refine ⟨c, (joinClass_lists _ _ d 3).2.2 c ?_, hch, hcls⟩
    rw [(leaveWaits_lists _ d).1]
    exact List.mem_filter.mpr ⟨hcs ▸ hmem, by simp [hch, Ne.symm hd]⟩

end

/-- Sending every channel of a list. -/
def State.sendAll (s : State) (l : List (Nat × Nat)) : State := l.foldl (fun t x => t.sendTo x.1 x.2) s

theorem classFrame_sendAll (s : State) (l : List (Nat × Nat)) : ClassFrame (fun ch => ch ∈ l.map (·.1)) s (s.sendAll l) := by
  induction l generalizing s with
  | nil => exact classFrame_refl _ s
  | cons x l ih =>
    exact ((classFrame_sendTo s x.1 x.2).mono fun ch hch => by simp [hch]).trans
      ((ih (s.sendTo x.1 x.2)).mono fun ch hch => List.mem_cons_of_mem _ hch)

theorem sendAll_dusk_keeps {s : State} (h : s.duskAsked = true) (l : List (Nat × Nat)) :
    (s.sendAll l).lpa.resume = s.lpa.resume ∧ ∀ c, nget s.lpa.duskFrom c ≠ 0 → nget (s.sendAll l).lpa.duskFrom c ≠ 0 := by
  induction l generalizing s with
  | nil => exact ⟨rfl, fun _ hc => hc⟩
  | cons x l ih =>
    obtain ⟨-, hr, hd⟩ := sendTo_dusk_keeps h x.1 x.2
    obtain ⟨ihr, ihd⟩ := ih ((classFrame_sendTo s x.1 x.2).duskAsked.trans h)
    exact ⟨ihr.trans hr, fun c hc => ihd c (hd c hc)⟩

/-- After all are sent, a channel of the list, or one that was on its way, is on its way to Dusk. -/
theorem sendAll_dusk_sends {s : State} (h : s.duskAsked = true) {ch : Nat} (hc : s.chClass ch ≠ 3) (l : List (Nat × Nat))
    (hl : ch ∈ l.map (·.1) ∨ ∃ c ∈ s.lpa.changes, c.ch = ch ∧ c.cls = 3) :
    ∃ c ∈ (s.sendAll l).lpa.changes, c.ch = ch ∧ c.cls = 3 := by
  induction l generalizing s with
  | nil => simpa [State.sendAll] using hl
  | cons x l ih =>
    have h1 : (s.sendTo x.1 x.2).duskAsked = true := (classFrame_sendTo s x.1 x.2).duskAsked.trans h
    have hc1 : (s.sendTo x.1 x.2).chClass ch ≠ 3 := by
      rw [((sendTo_dusk_keeps h x.1 x.2).1 ch).1]
      exact hc
    refine ih h1 hc1 ?_
    rcases hl with hl | hs
    · rcases List.mem_cons.mp hl with rfl | hl
      · exact .inr (sendTo_dusk_sends h x.2 hc)
      · exact .inl hl
    · exact .inr (sendTo_dusk_keeps_sent h hc hs x.1 x.2)

/-- Outside Dusk sending keeps no restore class. -/
theorem sendAll_awake_duskFrom {s : State} (h : s.duskAsked = false) (l : List (Nat × Nat)) :
    (s.sendAll l).lpa.duskFrom = s.lpa.duskFrom := by
  induction l generalizing s with
  | nil => rfl
  | cons x l ih =>
    have hd : s.duskClass x.1 x.2 = (x.2, s) := by simp [State.duskClass, h]
    have h1 : (s.sendTo x.1 x.2).lpa.duskFrom = s.lpa.duskFrom := by
      rw [sendTo_eq, hd]
      exact (joinClass_lists s _ x.1 x.2).2.1.trans (leaveWaits_lists s x.1).2.2
    exact (ih ((classFrame_sendTo s x.1 x.2).duskAsked.trans h)).trans h1

/-- A channel with loops is one of the module's. -/
theorem loopChannels_lt {s : State} {ch : Nat} (h : ch ∈ s.loopChannels) : ch < 16384 := by
  simp only [State.loopChannels, State.listed, List.mem_filter, List.mem_dedup, List.mem_map, Bool.and_eq_true,
    decide_eq_true_eq] at h
  obtain ⟨⟨x, ⟨c, ⟨-, hlo, hhi⟩, rfl⟩, rfl⟩, -⟩ := h
  omega

end Sys2Proof.Machine
end

section
/-! The commands of Dusk and of the clocks (R473 to R475). -/
namespace Sys2Proof.Machine

theorem viaBar0_act {s : State} {die addr : Nat} (h : s.bar0 die addr = .act) (f : State → State) : s.viaBar0 die addr f = f s := by
  rw [State.viaBar0, h]

/-- Dusk asked for, with the restore classes of a list of channels kept, and every resumption to come one in Dusk. -/
def State.askDusk (s : State) (l : List (Nat × Nat)) : State :=
  { s.wr PWR_CTL.DUSK_REQ 1 with lpa := { s.lpa with
      duskFrom := l.foldl (fun m x => nset m x.1 (x.2 + 1)) []
      resume := s.lpa.resume.map fun r => { r with cls := 3 } } }

/-- The class that a request of Dusk keeps for a channel: that of its resumption to come, or else its restore class. -/
def State.keptClass (s : State) (ch : Nat) : Nat :=
  match s.lpa.resume.find? fun r => r.ch == ch with
  | some r => r.cls
  | none => s.restoreClass ch

/-- The channels with loops, with the classes kept. -/
def State.keptClasses (s : State) : List (Nat × Nat) := s.loopChannels.map fun ch => (ch, s.keptClass ch)

theorem map_fst_keptClasses (s : State) : s.keptClasses.map (·.1) = s.loopChannels := by
  simp [State.keptClasses, Function.comp_def]

/-- A request of Dusk keeps a class for each channel with loops, and sends those that are not paused. -/
theorem exec_duskRequest {s : State} {die : Fin 2} (hact : s.bar0 die 0xF00000 = .act) (h : s.duskAsked = false) :
    exec (.duskRequest die) s = .next ((s.askDusk s.keptClasses).sendAll (s.keptClasses.filter fun x => !s.chPaused x.1)) := by
  show Host.Outcome.next _ = _
  rw [viaBar0_act hact, if_neg (by simp [h])]
  rfl

/-- A value put at the keys of a list is found at each of them. -/
theorem nget_foldl_nset (l : List (Nat × Nat)) (m : List (Nat × Nat)) {ch : Nat} (h : ch ∈ l.map (·.1) ∨ nget m ch ≠ 0) :
    nget (l.foldl (fun m x => nset m x.1 (x.2 + 1)) m) ch ≠ 0 := by
  induction l generalizing m with
  | nil => simpa using h
  | cons x l ih =>
    refine ih _ ?_
    rw [nget_nset]
    rcases h with h | h
    · rcases List.mem_cons.mp h with rfl | h
      · exact .inr (by simp)
      · exact .inl h
    · right
      split
      · omega
      · exact h

theorem duskRequest_asked {s : State} {die : Fin 2} (hact : s.bar0 die 0xF00000 = .act) (h : s.duskAsked = true) :
    exec (.duskRequest die) s = .next s := by
  show Host.Outcome.next _ = _
  rw [viaBar0_act hact, if_pos h]

/-- A request sends every channel to Dusk, keeping its class (R473). -/
theorem duskRequest_sends {s : State} {die : Fin 2} (hact : s.bar0 die 0xF00000 = .act) (h : s.duskAsked = false) :
    ∃ t, exec (.duskRequest die) s = .next t ∧ t.rd PWR_CTL.DUSK_REQ = 1 ∧ t.out = s.out ∧
      (∀ a, (∀ ch < 16384, a ≠ ctxAddr (3 * ch) + 58) → t.loadB a = s.loadB a) ∧
      (∀ ch ∈ s.loopChannels, nget t.lpa.duskFrom ch ≠ 0) ∧ (∀ r ∈ t.lpa.resume, r.cls = 3) ∧
      (∀ ch, s.chClass ch ≠ 3 → ch ∈ s.loopChannels → s.chPaused ch = false → ∃ c ∈ t.lpa.changes, c.ch = ch ∧ c.cls = 3) := by
  have hexec := exec_duskRequest hact h
  have hl := map_fst_keptClasses s
  generalize s.keptClasses = l at hexec hl
  have hreq : (s.askDusk l).rd PWR_CTL.DUSK_REQ = 1 := rd_wr_same s PWR_CTL.DUSK_REQ 1 0 0 0
  have hasked : (s.askDusk l).duskAsked = true := by rw [State.duskAsked, State.on, hreq]; rfl
  have hsame : SameClass s (s.askDusk l) := sameClass_of_mem rfl
  have hframe := classFrame_sendAll (s.askDusk l) (l.filter fun x => !s.chPaused x.1)
  obtain ⟨hresume, hfrom⟩ := sendAll_dusk_keeps hasked (l.filter fun x => !s.chPaused x.1)
  refine ⟨_, hexec, (rd_congr hframe.regs _ _ _ _).trans hreq, hframe.out, fun a ha => ?_, fun ch hch => ?_, fun r hr => ?_,
    fun ch hc hch hp => ?_⟩
  · refine hframe.2 a fun ch hch => ha ch (loopChannels_lt (s := s) ?_)
    obtain ⟨x, hx, rfl⟩ := List.mem_map.mp hch
    rw [← hl]
    exact List.mem_map_of_mem (List.mem_of_mem_filter hx)
  · exact hfrom ch (nget_foldl_nset l [] (.inl (hl ▸ hch)))
  · rw [hresume] at hr
    obtain ⟨r', -, rfl⟩ := List.mem_map.mp hr
    rfl
  · refine sendAll_dusk_sends hasked (by rw [(hsame ch).1]; exact hc) _ (.inl ?_)
    rw [← hl] at hch
    obtain ⟨x, hx, rfl⟩ := List.mem_map.mp hch
    exact List.mem_map_of_mem (List.mem_filter.mpr ⟨hx, by simp [hp]⟩)

/-- Dusk is in force from the first Dusk phase 0 at which every channel with loops is there (R473). -/
theorem duskEntry_enters {s : State} (hasked : s.duskAsked = true) (hd : s.dusk = false) (hch : s.lpa.changes = [])
    (hall : ∀ ch ∈ s.loopChannels, s.chClass ch = 3 ∧ s.chPaused ch = false) :
    ∃ t, exec .duskEntry s = .next t ∧ t.now = max s.now (phase0 3 s.now) ∧ t.rd PWR_STATUS.DUSK = 1 ∧
      t.rd PWR_CNT_DUSK.COUNT = min (s.rd PWR_CNT_DUSK.COUNT + 1) (2 ^ 32 - 1) ∧ MemSame s t ∧ t.out = s.out := by
  have hcond : (!s.duskAsked || s.dusk || !(s.loopChannels.all fun ch => s.chClass ch == 3 && !s.chPaused ch) ||
      !s.lpa.changes.isEmpty) = false := by
    have : (s.loopChannels.all fun ch => s.chClass ch == 3 && !s.chPaused ch) = true :=
      List.all_eq_true.mpr fun ch h => by simp [hall ch h]
    rw [hasked, hd, hch, this]
    rfl
  have hframe := clockFrame_regate (((s.reach (phase0 3 s.now)).wr PWR_STATUS.DUSK 1).bump PWR_CNT_DUSK.COUNT)
  refine ⟨_, congrArg Host.Outcome.next (if_neg (by simp [hcond])), hframe.now, ?_, ?_, memSame_of_mem hframe.mem, hframe.out⟩
  · rw [hframe.rd (by simp only [clockKey, pmcKey, Fld.key, PWR_STATUS.DUSK]; omega), rd_bump_other _ _ (by decide)]
    exact rd_wr_same _ _ _ _ _ _
  · rw [hframe.rd (by simp only [clockKey, pmcKey, Fld.key, PWR_CNT_DUSK.COUNT]; omega), rd_bump_same, rd_wr_other _ _ (by decide),
      rd_congr (reach_regs _ _)]
    rfl

/-- A gated domain restarts for its work (R474). -/
theorem clockRestart_restarts {s : State} {die : Fin 2} {dom : Fin 22} (hd : s.on PWR_STATUS.DUSK = false) (hg : s.gated die dom = true) :
    ∃ t, exec (.clockRestart die dom) s = .next t ∧ t.gated die dom = false ∧ bit (t.rd PWR_CLK_LOCK.LOCK die) dom = true ∧
      t.rd PWR_CNT_WAKE.COUNT die = min (s.rd PWR_CNT_WAKE.COUNT die + 1) (2 ^ 32 - 1) ∧ MemSame s t ∧ t.out = s.out ∧
      (∀ b : Fin 22, b ≠ dom → t.gated die b = s.gated die b) := by
  have hframe := clockFrame_restart s die dom
  refine ⟨s.restart die dom, ?_, ?_, ?_, (restart_rd hg).2.2, memSame_of_mem hframe.mem, hframe.out, fun b hb => ?_⟩
  · show Host.Outcome.next (s.regate.restart die dom) = _
    rw [regate_of_not_dusk hd]
  · simp [gated_restart s die.isLt die.isLt dom.isLt]
  · simp [lock_restart s die.isLt die.isLt dom.isLt, hg]
  · rw [gated_restart s die.isLt die.isLt b.isLt, beq_false_of_ne (Fin.val_ne_of_ne hb)]
    simp

/-! #### The end of Dusk -/

/-- The restarts of both dies. -/
def State.restartDies (s : State) : State := [0, 1].foldl State.restartAll s

/-- Every on-demand domain restarted on both dies, and Dusk with its request and its wait gone. -/
def State.leaveDusk (s : State) : State :=
  ((s.restartDies.wr PWR_STATUS.DUSK 0).wr PWR_CTL.DUSK_REQ 0).wr CAL_STATUS.DUSK_WAIT 0

/-- No restore class kept, and the resumptions to come as given. -/
def State.endDusk (s : State) (r : List ClassWait) : State := { s with lpa := { s.lpa with duskFrom := [], resume := r } }

/-- How Dusk ends: a free value may be drawn, the clocks restart, and channels kept are sent back; their changes act later. -/
theorem duskExit_eq {s : State} (h : s.duskAsked = true) : ∃ (s0 : State) (r : List ClassWait) (back : Nat → Nat) (p : Nat → Bool)
    (later : List ClassWait) (t : State), s0 = { s with free := s0.free } ∧
      t = (s0.leaveDusk.endDusk r).sendAll (((s.lpa.duskFrom.map (·.1)).filter p).map fun ch => (ch, back ch)) ∧
      s.duskExit = { t with lpa := { t.lpa with changes := later } } := by
  have hsend (back : Nat → Nat) (l : List Nat) (t : State) :
      l.foldl (fun t ch => t.sendTo ch (back ch)) t = t.sendAll (l.map fun ch => (ch, back ch)) := by
    rw [State.sendAll, List.foldl_map]
  unfold State.duskExit
  rw [if_neg (by simp [h])]
  dsimp only
  by_cases hg : ([0, 1].any fun d => s.rd PWR_CLK_GATED.GATED d != 0) = true
  · rw [if_pos hg]
    exact ⟨(s.draw 32).2, _, _, _, _, _, rfl, hsend _ _ _, rfl⟩
  · rw [if_neg hg]
    exact ⟨s, _, _, _, _, _, rfl, hsend _ _ _, rfl⟩

theorem duskExit_not_asked {s : State} {die : Fin 2} (hact : s.bar0 die 0xF00000 = .act) (h : s.duskAsked = false) :
    exec (.duskExit die) s = .next s := by
  show Host.Outcome.next _ = _
  rw [viaBar0_act hact, State.duskExit, if_pos (by simp [h])]

theorem clockFrame_restartDies (s : State) : ClockFrame clockKey s s.restartDies :=
  clockFrame_foldl (fun _ _ => clockFrame_restartAll _ _) _ _

theorem leaveDusk_frame (s : State) : s.leaveDusk.mem = s.mem ∧ s.leaveDusk.out = s.out := by
  have h := clockFrame_restartDies s
  simp [State.leaveDusk, h.mem, h.out]

/-- After the restarts no on-demand domain is gated, and the PLL of each that was is locked. -/
theorem restartDies_clocks (s : State) (d : Fin 2) {dom : Nat} (hdom : dom ∈ onDemand) : s.restartDies.gated d dom = false ∧
    (s.gated d dom = true → bit (s.restartDies.rd PWR_CLK_LOCK.LOCK d) dom = true) := by
  have hlt : ∀ b ∈ onDemand, b < 22 := by decide
  have hb := hlt dom hdom
  have hmem : onDemand.contains dom = true := by simpa using hdom
  have hg (t : State) (die : Nat) (hdie : die < 2) : (t.restartAll die).gated d dom = (t.gated d dom && !(d.val == die)) :=
    (gated_restarts onDemand t hdie d.isLt hb).trans (by rw [hmem, Bool.and_true])
  have hk (t : State) (die : Nat) (hdie : die < 2) : bit ((t.restartAll die).rd PWR_CLK_LOCK.LOCK d) dom =
      (bit (t.rd PWR_CLK_LOCK.LOCK d) dom || (d.val == die && t.gated d dom)) :=
    (lock_restarts onDemand t hdie d.isLt hb).trans (by rw [hmem, Bool.and_true])
  show ((s.restartAll 0).restartAll 1).gated d dom = false ∧ (_ → bit (((s.restartAll 0).restartAll 1).rd _ d) dom = true)
  rw [hg _ 1 (by omega), hg _ 0 (by omega), hk _ 1 (by omega), hk _ 0 (by omega), hg _ 0 (by omega)]
  match d with
  | 0 => simp +contextual
  | 1 => simp +contextual

/-- The registers once Dusk is left: Dusk, its request and its wait gone, and the clocks as the restarts leave them. -/
theorem leaveDusk_rd (s : State) : s.leaveDusk.rd PWR_STATUS.DUSK = 0 ∧ s.leaveDusk.rd PWR_CTL.DUSK_REQ = 0 ∧
    s.leaveDusk.rd CAL_STATUS.DUSK_WAIT = 0 ∧
    ∀ d, s.leaveDusk.rd PWR_CLK_GATED.GATED d = s.restartDies.rd PWR_CLK_GATED.GATED d ∧
      s.leaveDusk.rd PWR_CLK_LOCK.LOCK d = s.restartDies.rd PWR_CLK_LOCK.LOCK d := by
  unfold State.leaveDusk
  refine ⟨?_, ?_, rd_wr_same _ _ _ _ _ _, fun d => ?_⟩
  · rw [rd_wr_other _ _ (by decide), rd_wr_other _ _ (by decide)]
    exact rd_wr_same _ _ _ _ _ _
  · rw [rd_wr_other _ _ (by decide)]
    exact rd_wr_same _ _ _ _ _ _
  · constructor
    · iterate 3 rw [rd_wr_other _ _ (by
        simp only [Fld.key, PWR_CLK_GATED.GATED, PWR_STATUS.DUSK, PWR_CTL.DUSK_REQ, CAL_STATUS.DUSK_WAIT]; omega)]
    · iterate 3 rw [rd_wr_other _ _ (by
        simp only [Fld.key, PWR_CLK_LOCK.LOCK, PWR_STATUS.DUSK, PWR_CTL.DUSK_REQ, CAL_STATUS.DUSK_WAIT]; omega)]

/-- At the end of Dusk every channel kept goes back, and no on-demand domain is gated (R475). -/
theorem duskExit_ends {s : State} {die : Fin 2} (hact : s.bar0 die 0xF00000 = .act) (h : s.duskAsked = true) :
    ∃ t, exec (.duskExit die) s = .next t ∧ t.rd PWR_STATUS.DUSK = 0 ∧ t.rd PWR_CTL.DUSK_REQ = 0 ∧
      t.rd CAL_STATUS.DUSK_WAIT = 0 ∧ t.lpa.duskFrom = [] ∧ t.out = s.out ∧
      (∀ a, (∀ x ∈ s.lpa.duskFrom, a ≠ ctxAddr (3 * x.1) + 58) → t.loadB a = s.loadB a) ∧
      (∀ d : Fin 2, ∀ dom ∈ onDemand, t.gated d dom = false) ∧ (∀ d : Fin 2, ∀ dom ∈ onDemand, s.gated d dom = true →
        bit (t.rd PWR_CLK_LOCK.LOCK d) dom = true) := by
  obtain ⟨s0, r, back, p, later, t, hs0, ht, hexit⟩ := duskExit_eq h
  have hexec : exec (.duskExit die) s = .next s.duskExit := congrArg _ (viaBar0_act hact _)
  obtain ⟨hdusk, hreq, hwait, hclk⟩ := leaveDusk_rd s0
  obtain ⟨hmem, hout⟩ := leaveDusk_frame s0
  have hsend := classFrame_sendAll (s0.leaveDusk.endDusk r) (((s.lpa.duskFrom.map (·.1)).filter p).map fun ch => (ch, back ch))
  have hfrom := sendAll_awake_duskFrom (s := s0.leaveDusk.endDusk r)
    (show (s0.leaveDusk.rd PWR_CTL.DUSK_REQ != 0) = false by rw [hreq]; rfl)
    (((s.lpa.duskFrom.map (·.1)).filter p).map fun ch => (ch, back ch))
  rw [← ht] at hsend hfrom
  have hlater := hsend.setLpa { t.lpa with changes := later }
  have hnone : s.duskExit.lpa.duskFrom = [] := by rw [hexit]; exact hfrom
  rw [← hexit] at hlater
  have hregs (f : Fld) (i : Nat) : s.duskExit.rd f i = s0.leaveDusk.rd f i := rd_congr hlater.regs f i 0 0
  have hgated (d : Fin 2) {dom : Nat} (hdom : dom ∈ onDemand) := restartDies_clocks s0 d hdom
  refine ⟨_, hexec, (hregs _ _).trans hdusk, (hregs _ _).trans hreq, (hregs _ _).trans hwait, hnone, ?_, fun a ha => ?_,
    fun d dom hdom => ?_, fun d dom hdom hg => ?_⟩
  · have hend : (s0.leaveDusk.endDusk r).out = s0.leaveDusk.out := rfl
    rw [hlater.out, hend, hout, hs0]
  · have hend : (s0.leaveDusk.endDusk r).mem = s.mem := by
      show s0.leaveDusk.mem = s.mem
      rw [hmem, hs0]
    refine (hlater.2 a fun ch hch => ?_).trans (memSame_of_mem hend a)
    simp only [List.map_map, Function.comp_def, List.map_id', List.mem_filter, List.mem_map] at hch
    obtain ⟨⟨x, hx, rfl⟩, -⟩ := hch
    exact ha x hx
  · rw [State.gated, hregs, (hclk d).1]
    exact (hgated d hdom).1
  · rw [hregs, (hclk d).2]
    refine (hgated d hdom).2 ?_
    rw [hs0]
    exact hg

end Sys2Proof.Machine
end

section
/-! SUPPORT. SNAPSHOT_READ word by word (R7, R10, R43, R46): what a read of one word of each space puts out. -/
namespace Sys2Proof.Machine

/-- The state in which a read takes place: the clock inside its frame is that of the read (assumption 2). -/
def State.atSub (s : State) (sub : BitVec 22) : State := { s with sub := (s.now, sub.toNat % 3276800) }

section
variable (s : State) (die : Fin 2) (q : Fin 3) (space : Space) (addr : Word) (sub : BitVec 22)

theorem exec_snapshotRead (n : Nat) : exec (.snapshotRead die q ⟨space, addr, n, sub⟩) s =
    .next ((s.atSub sub).readWords die q space addr.toNat n) := rfl

theorem exec_snapshotRead_word : exec (.snapshotRead die q ⟨space, addr, 1, sub⟩) s =
    .next ((s.atSub sub).readOne die q space addr.toNat) := rfl

end

section
variable (s : State) (die q a : Nat)

theorem readIvhv_eq (h : s.on HPT_STATUS.READY = true) (tile : Nat) : s.readIvhv die tile =
    (s.emit (.reg die (0x01000014 + 0x200000 * tile) (s.rd DRV_IVHV.IPEAK tile * 65536 + s.rd DRV_IVHV.IMEAN tile))).wr
      DRV_IVHV.IPEAK 0 tile := if_neg (by simp [h])

/-- Before READY only the HPT block answers (R478). -/
theorem bar0Read_notReady (h : s.on HPT_STATUS.READY = false) (ha : 0x100000 ≤ a) : s.bar0Read die q a = s.emit (.reg die a 0) := by
  have hn : inHpt a = false := by simp [inHpt]; omega
  exact if_pos (by simp [h, hn])

variable (h : s.on HPT_STATUS.READY = true)
include h

/-- A read of DRV_IVHV of a tile (R166). -/
theorem bar0Read_ivhv {tile : Nat} (ht : tile < 8) (ha : a = 0x01000014 + 0x200000 * tile) :
    s.bar0Read die q a = s.readIvhv die tile := by
  have hany : ((List.range 8).any fun t => 0x01000014 + 0x200000 * t == a) = true :=
    List.any_eq_true.mpr ⟨tile, List.mem_range.mpr ht, by simp [ha]⟩
  have htile : (a - 0x01000014) / 0x200000 = tile := by omega
  unfold State.bar0Read
  rw [if_neg (by simp [h]), if_pos hany, htile]

omit h in
/-- No tile's DRV_IVHV stands at another place. -/
theorem not_ivhv {a : Nat} (hk : ∀ k : Fin 8, a ≠ 0x01000014 + 0x200000 * k) :
    ((List.range 8).any fun t => 0x01000014 + 0x200000 * t == a) = false := by
  rw [List.any_eq_false]
  intro t ht
  have := hk ⟨t, List.mem_range.mp ht⟩
  simpa using Ne.symm this

/-- A read of SEC_DBG_CHAL_W0 (R446). -/
theorem bar0Read_challenge : s.bar0Read die q 0xD000B0 = (s.draw 128).2.challenge die q (s.draw 128).1 := by
  unfold State.bar0Read
  rw [if_neg (by simp [h]), if_neg (by decide), if_pos rfl]

section
variable {a : Nat} (hk : ∀ k : Fin 8, a ≠ 0x01000014 + 0x200000 * k) (hc : a ≠ 0xD000B0)
include hk hc

/-- A word of no wide value shows what stands there. -/
theorem bar0Read_narrow (hw : s.wideWord die a = none) : s.bar0Read die q a = s.emit (.reg die a (s.word die a)) := by
  unfold State.bar0Read
  rw [if_neg (by simp [h]), if_neg (by simp [not_ivhv hk]), if_neg hc, hw]

/-- The lowest word of a wide value shows what stands there, and takes the rest into the requester's shadow (R10). -/
theorem bar0Read_lowest {n : Nat} (hw : s.wideWord die a = some (0, n)) : s.bar0Read die q a =
    (s.setShadow die q ((List.range (n - 1)).map fun w => s.word die (a + 4 * (w + 1)))).emit (.reg die a (s.word die a)) := by
  unfold State.bar0Read
  rw [if_neg (by simp [h]), if_neg (by simp [not_ivhv hk]), if_neg hc, hw]
  rfl

/-- A higher word comes from the requester's shadow (R10). -/
theorem bar0Read_higher {w n : Nat} (hw : s.wideWord die a = some (w + 1, n)) : s.bar0Read die q a =
    s.emit (.reg die a (nget s.hpt.shadow (16 * (3 * die + q) + (w + 1)))) := by
  unfold State.bar0Read
  rw [if_neg (by simp [h]), if_neg (by simp [not_ivhv hk]), if_neg hc, hw]
  rfl

end
end

/-! #### The shadows -/

/-- A run of values put at rising keys leaves the keys below. -/
theorem nget_foldl_zipIdx_below (ws : List Nat) (m : List (Nat × Nat)) (B : Nat) {k j : Nat} (h : j < k) :
    nget ((ws.zipIdx k).foldl (fun l w => nset l (B + w.2) w.1) m) (B + j) = nget m (B + j) := by
  induction ws generalizing m k with
  | nil => rfl
  | cons x ws ih =>
    rw [List.zipIdx_cons, List.foldl_cons, ih _ (by omega)]
    exact nget_nset_other m x (by omega)

/-- Each of them is found at its key. -/
theorem nget_foldl_zipIdx (ws : List Nat) (m : List (Nat × Nat)) (B k : Nat) {i v : Nat} (h : ws[i]? = some v) :
    nget ((ws.zipIdx k).foldl (fun l w => nset l (B + w.2) w.1) m) (B + (k + i)) = v := by
  induction ws generalizing m k i with
  | nil => simp at h
  | cons x ws ih =>
    rw [List.zipIdx_cons, List.foldl_cons]
    cases i with
    | zero =>
      rw [nget_foldl_zipIdx_below ws _ B (by omega)]
      simpa using h
    | succ i =>
      rw [show k + (i + 1) = k + 1 + i by omega]
      exact ih _ _ (by simpa using h)

/-- What a requester's shadow holds after it has taken a value's words (R10). -/
theorem setShadow_shadow (s : State) (die q : Nat) {ws : List Nat} {i v : Nat} (h : ws[i]? = some v) :
    nget (s.setShadow die q ws).hpt.shadow (16 * (3 * die + q) + (i + 1)) = v := by
  rw [Nat.add_comm i 1]
  exact nget_foldl_zipIdx ws _ _ 1 h

/-! #### One word, whatever it is -/

/-- A read of a word of BAR0 leaves the clock. -/
theorem bar0Read_clock (s : State) (die q a : Nat) : (s.bar0Read die q a).now = s.now ∧ (s.bar0Read die q a).sub = s.sub := by
  unfold State.bar0Read
  split
  case isTrue => exact ⟨rfl, rfl⟩
  case isFalse =>
    split
    case isTrue =>
      unfold State.readIvhv
      split <;> exact ⟨rfl, rfl⟩
    case isFalse =>
      split
      case isTrue => exact ⟨rfl, rfl⟩
      case isFalse => split <;> exact ⟨rfl, rfl⟩

/-- A read of a word of any space leaves the clock. -/
theorem readOne_clock (s : State) (die q : Nat) (space : Space) (a : Nat) :
    (s.readOne die q space a).now = s.now ∧ (s.readOne die q space a).sub = s.sub := by
  cases space with
  | config => exact ⟨rfl, rfl⟩
  | bar0 =>
    unfold State.readOne
    dsimp only
    split
    · exact ⟨rfl, rfl⟩
    · exact bar0Read_clock s die q _
  | bar2 | bar4 =>
    unfold State.readOne
    dsimp only
    split <;> exact ⟨rfl, rfl⟩

/-- A state whose clock a read has set is not changed by setting it again. -/
theorem atSub_of_clock {s t : State} {sub : BitVec 22} (hnow : t.now = s.now) (hsub : t.sub = (s.atSub sub).sub) : t.atSub sub = t := by
  have h : (t.now, sub.toNat % 3276800) = t.sub := by rw [hsub, hnow]; rfl
  rw [State.atSub, h]

/-- A longer read is made of aligned words in ascending order (R46). -/
theorem snapshotRead_words (s : State) (die : Fin 2) (q : Fin 3) (space : Space) {addr : Word} (sub : BitVec 22) (n : Nat)
    (ha : addr.toNat + 4 < 2 ^ 32) :
    ∃ t, exec (.snapshotRead die q ⟨space, addr, 1, sub⟩) s = .next t ∧
      exec (.snapshotRead die q ⟨space, addr, n + 1, sub⟩) s = exec (.snapshotRead die q ⟨space, addr + 4, n, sub⟩) t := by
  refine ⟨_, exec_snapshotRead_word s die q space addr sub, ?_⟩
  have haddr : (addr + 4).toNat = addr.toNat + 4 := by
    rw [BitVec.toNat_add]
    exact Nat.mod_eq_of_lt ha
  obtain ⟨hnow, hsub⟩ := readOne_clock (s.atSub sub) die q space addr.toNat
  rw [exec_snapshotRead, exec_snapshotRead, atSub_of_clock hnow hsub, haddr]
  rfl

section
variable (s : State) (die : Fin 2) (q : Fin 3) {addr : Word} (sub : BitVec 22)

/-- In D3hot only configuration space answers (assumption 74). -/
theorem snapshotRead_d3hot (hd : s.d3hot die = true) {space : Space} (hsp : space ≠ .config) :
    exec (.snapshotRead die q ⟨space, addr, 1, sub⟩) s = .next (s.atSub sub) := by
  rw [exec_snapshotRead_word]
  cases space with
  | config => exact absurd rfl hsp
  | bar0 | bar2 | bar4 => exact congrArg _ (if_pos hd)

/-- A read of a word of configuration space (R39). -/
theorem snapshotRead_config : exec (.snapshotRead die q ⟨.config, addr, 1, sub⟩) s = .next
    ((s.atSub sub).emit (.data die 0 addr.toNat (s.load (cfgBase die + addr.toNat % 0x1000 / 4 * 4) 4))) := rfl

variable (hd : s.d3hot die = false)
include hd

theorem snapshotRead_bar0 : exec (.snapshotRead die q ⟨.bar0, addr, 1, sub⟩) s = .next
    ((s.atSub sub).bar0Read die q (addr.toNat % 0x4000000 / 4 * 4)) := by
  exact congrArg _ (if_neg (ne_true_of_eq_false hd))

theorem snapshotRead_bar2 : exec (.snapshotRead die q ⟨.bar2, addr, 1, sub⟩) s = .next
    ((s.atSub sub).emit (.data die 2 addr.toNat ((s.atSub sub).bar2Word die (addr.toNat % 0x40000 / 4 * 4)))) := by
  exact congrArg _ (if_neg (ne_true_of_eq_false hd))

theorem snapshotRead_bar4 : exec (.snapshotRead die q ⟨.bar4, addr, 1, sub⟩) s = .next
    ((s.atSub sub).emit (.data die 4 addr.toNat ((s.atSub sub).bar4Word die (addr.toNat % 0x10000 / 4 * 4)))) := by
  exact congrArg _ (if_neg (ne_true_of_eq_false hd))

end

/-! #### Doorbell pages and BAR4 -/

section
variable (s : State) (die : Nat) {a n : Nat} (hn : n < 64)
include hn

/-- The words of a doorbell page show the heads and tails of its rings (R50); the rest of it is reserved. -/
theorem bar2Word_sqHead (ha : a = 0x1000 * n + 0) : s.bar2Word die (a % 0x40000 / 4 * 4) = s.regWord die (0x100C + 0x40 * n) := by
  have hp : a % 0x40000 / 4 * 4 / 0x1000 % 64 = n := by omega
  have ho : a % 0x40000 / 4 * 4 % 0x1000 = 0 := by omega
  unfold State.bar2Word
  rw [hp, ho]
  rfl

@[inherit_doc bar2Word_sqHead] theorem bar2Word_cqTail (ha : a = 0x1000 * n + 4) :
    s.bar2Word die (a % 0x40000 / 4 * 4) = s.regWord die (0x2010 + 0x40 * n) := by
  have hp : a % 0x40000 / 4 * 4 / 0x1000 % 64 = n := by omega
  have ho : a % 0x40000 / 4 * 4 % 0x1000 = 4 := by omega
  unfold State.bar2Word
  rw [hp, ho]
  rfl

@[inherit_doc bar2Word_sqHead] theorem bar2Word_tqTail (ha : a = 0x1000 * n + 8) :
    s.bar2Word die (a % 0x40000 / 4 * 4) = if n < 16 then s.regWord die (0x3010 + 0x40 * n) else 0 := by
  have hp : a % 0x40000 / 4 * 4 / 0x1000 % 64 = n := by omega
  have ho : a % 0x40000 / 4 * 4 % 0x1000 = 8 := by omega
  unfold State.bar2Word
  rw [hp, ho]
  rfl

omit hn in
@[inherit_doc bar2Word_sqHead] theorem bar2Word_reserved {o : Nat} (ha : a = 0x1000 * n + o) (h12 : 12 ≤ o) (ho : o < 0x1000) :
    s.bar2Word die (a % 0x40000 / 4 * 4) = 0 := by
  have hoff : a % 0x40000 / 4 * 4 % 0x1000 = o / 4 * 4 := by omega
  unfold State.bar2Word
  split
  case h_4 => rfl
  all_goals omega

end

/-- A vector's mask word (R43). -/
theorem bar4Word_mask (s : State) (die : Nat) {a v : Nat} (hv : v < 256) (ha : a = 16 * v + 12) :
    s.bar4Word die (a % 0x10000 / 4 * 4) = s.load (msixBase die + 16 * v + 12) 4 := by
  have ho : a % 0x10000 / 4 * 4 % 0x10000 = 16 * v + 12 := by omega
  unfold State.bar4Word
  rw [ho]
  exact if_pos (by omega)

/-- A word of the pending bits spells those of its 32 vectors (R43, R77). -/
theorem bar4Word_pending (s : State) (die : Nat) {a w : Nat} (hw : w < 8) (ha : a = 0x8000 + 4 * w)
    (h1 : ∀ b < 32, nget s.hpt.pba (256 * die + 32 * w + b) ≤ 1) {b : Nat} (hb : b < 32) :
    bit (s.bar4Word die (a % 0x10000 / 4 * 4)) b = true ↔ nget s.hpt.pba (256 * die + 32 * w + b) = 1 := by
  have ho : a % 0x10000 / 4 * 4 % 0x10000 = 0x8000 + 4 * w := by omega
  have hin : within (0x8000 + 4 * w) 0x8000 32 = true := by simp [within]; omega
  have hsum : s.bar4Word die (a % 0x10000 / 4 * 4) =
      ((List.range 32).map fun b => 2 ^ b * nget s.hpt.pba (256 * die + 32 * w + b)).sum := by
    unfold State.bar4Word
    dsimp only
    rw [ho, show 8 * (0x8000 + 4 * w - 0x8000) = 32 * w by omega, if_neg (by omega)]
    exact if_pos hin
  rw [hsum]
  exact bit_sum_range h1 hb

end Sys2Proof.Machine
end

section
/-! The clauses on reads of DuskClocksAndReads, one by one. -/
namespace Sys2Proof.Machine

section
variable (s : State) (die : Fin 2) (q : Fin 3) {addr : Word} (sub : BitVec 22)

/-- A doorbell page reads its rings' heads and tails (R50). -/
theorem snapshotRead_page (hd : s.d3hot die = false) {n o : Nat} (hn : n < 64) (ha : addr.toNat = 0x1000 * n + o) :
    (o = 0 → exec (.snapshotRead die q ⟨.bar2, addr, 1, sub⟩) s =
      .next ((s.atSub sub).emit (.data die 2 addr.toNat ((s.atSub sub).regWord die (0x100C + 0x40 * n))))) ∧
    (o = 4 → exec (.snapshotRead die q ⟨.bar2, addr, 1, sub⟩) s =
      .next ((s.atSub sub).emit (.data die 2 addr.toNat ((s.atSub sub).regWord die (0x2010 + 0x40 * n))))) ∧
    (o = 8 → exec (.snapshotRead die q ⟨.bar2, addr, 1, sub⟩) s =
      .next ((s.atSub sub).emit (.data die 2 addr.toNat (if n < 16 then (s.atSub sub).regWord die (0x3010 + 0x40 * n) else 0)))) ∧
    (12 ≤ o → o < 0x1000 → exec (.snapshotRead die q ⟨.bar2, addr, 1, sub⟩) s =
      .next ((s.atSub sub).emit (.data die 2 addr.toNat 0))) := by
  rw [snapshotRead_bar2 s die q sub hd]
  refine ⟨?_, ?_, ?_, fun h12 ho => ?_⟩
  · rintro rfl
    rw [bar2Word_sqHead _ _ hn ha]
  · rintro rfl
    rw [bar2Word_cqTail _ _ hn ha]
  · rintro rfl
    rw [bar2Word_tqTail _ _ hn ha]
  · rw [bar2Word_reserved _ _ ha h12 ho]

/-- BAR4 reads a vector's mask word (R43). -/
theorem snapshotRead_mask (hd : s.d3hot die = false) {v : Nat} (hv : v < 256) (ha : addr.toNat = 16 * v + 12) :
    exec (.snapshotRead die q ⟨.bar4, addr, 1, sub⟩) s =
      .next ((s.atSub sub).emit (.data die 4 addr.toNat (s.load (msixBase die + 16 * v + 12) 4))) := by
  rw [snapshotRead_bar4 s die q sub hd, bar4Word_mask _ _ hv ha, load_of_mem (show (s.atSub sub).mem = s.mem from rfl)]

/-- BAR4 reads the pending bits of 32 vectors (R43, R77). -/
theorem snapshotRead_pending (hd : s.d3hot die = false) {w : Nat} (hw : w < 8) (ha : addr.toNat = 0x8000 + 4 * w) :
    ∃ x, exec (.snapshotRead die q ⟨.bar4, addr, 1, sub⟩) s = .next ((s.atSub sub).emit (.data die 4 addr.toNat x)) ∧
      ((∀ b < 32, nget s.hpt.pba (256 * die.val + 32 * w + b) ≤ 1) →
        ∀ b < 32, bit x b = true ↔ nget s.hpt.pba (256 * die.val + 32 * w + b) = 1) :=
  ⟨_, snapshotRead_bar4 s die q sub hd, fun h1 _ hb => bar4Word_pending (s.atSub sub) die hw ha h1 hb⟩

variable {a : Nat} (ha : a = addr.toNat % 0x4000000 / 4 * 4) (hd : s.d3hot die = false)
include ha hd

/-- Before READY only the HPT block answers a read of BAR0 (R478). -/
theorem snapshotRead_notReady (hr : s.on HPT_STATUS.READY = false) (hlow : 0x100000 ≤ a) :
    exec (.snapshotRead die q ⟨.bar0, addr, 1, sub⟩) s = .next ((s.atSub sub).emit (.reg die a 0)) := by
  subst ha
  rw [snapshotRead_bar0 s die q sub hd, bar0Read_notReady (s.atSub sub) die q _ hr hlow]

variable (hr : s.on HPT_STATUS.READY = true)
include hr

/-- A read of DRV_IVHV of a tile clears IPEAK (R166). -/
theorem snapshotRead_ivhv (k : Fin 8) (hk : a = 0x01000014 + 0x200000 * k) :
    ∃ t, exec (.snapshotRead die q ⟨.bar0, addr, 1, sub⟩) s = .next t ∧ t.rd DRV_IVHV.IPEAK k = 0 ∧
      t = { s.atSub sub with regs := t.regs, out := .reg die a (s.rd DRV_IVHV.IPEAK k * 65536 + s.rd DRV_IVHV.IMEAN k) :: s.out } ∧
      ∀ key, key ≠ DRV_IVHV.IPEAK.key k 0 0 → nget t.regs key = nget s.regs key := by
  have hexec := snapshotRead_bar0 (addr := addr) s die q sub hd
  rw [← ha, bar0Read_ivhv (s.atSub sub) die q a hr k.isLt hk, readIvhv_eq (s.atSub sub) die hr] at hexec
  refine ⟨_, hexec, rd_wr_same _ _ _ _ _ _, by rw [hk]; rfl, fun key hkey => nget_nset_other _ _ hkey⟩

/-- A read of SEC_DBG_CHAL_W0 draws a nonce, whose higher words go to the requester's shadow (R446). -/
theorem snapshotRead_challenge (hc : a = 0xD000B0) :
    ∃ t n, exec (.snapshotRead die q ⟨.bar0, addr, 1, sub⟩) s = .next t ∧ t.sec.nonce = some n ∧ t.out = .reg die a (n % 2 ^ 32) :: s.out ∧
      (∀ i < 3, nget t.hpt.shadow (16 * (3 * die.val + q.val) + i + 1) = bits n (32 * i + 32) 32) ∧ MemSame s t ∧ t.regs = s.regs := by
  have hexec := snapshotRead_bar0 (addr := addr) s die q sub hd
  rw [← ha, hc, bar0Read_challenge (s.atSub sub) die q hr] at hexec
  refine ⟨_, _, hexec, rfl, by rw [hc]; rfl, fun i hi => ?_, memSame_of_mem rfl, rfl⟩
  exact setShadow_shadow _ die q (by simp [hi])

variable (hk : ∀ k : Fin 8, a ≠ 0x01000014 + 0x200000 * k) (hc : a ≠ 0xD000B0)
include hk hc

/-- A word of no wide value (R7). -/
theorem snapshotRead_narrow (hw : s.wideWord die a = none) : exec (.snapshotRead die q ⟨.bar0, addr, 1, sub⟩) s =
    .next ((s.atSub sub).emit (.reg die a ((s.atSub sub).word die a))) := by
  rw [snapshotRead_bar0 s die q sub hd, ← ha, bar0Read_narrow (s.atSub sub) die q hr hk hc hw]

/-- The lowest word of a wide value takes the rest into the requester's shadow (R10). -/
theorem snapshotRead_lowest {n : Nat} (hw : s.wideWord die a = some (0, n)) :
    ∃ t, exec (.snapshotRead die q ⟨.bar0, addr, 1, sub⟩) s = .next t ∧ t.out = .reg die a ((s.atSub sub).word die a) :: s.out ∧
      t = { s.atSub sub with out := t.out, hpt := { s.hpt with shadow := t.hpt.shadow } } ∧
      ∀ w : Nat, 1 ≤ w → w < n → n ≤ 16 → nget t.hpt.shadow (16 * (3 * die + q) + w) = (s.atSub sub).word die (a + 4 * w) := by
  have hexec := snapshotRead_bar0 (addr := addr) s die q sub hd
  rw [← ha, bar0Read_lowest (s.atSub sub) die q hr hk hc hw] at hexec
  refine ⟨_, hexec, rfl, rfl, fun w h1 hn _ => ?_⟩
  obtain ⟨i, rfl⟩ := Nat.exists_eq_add_of_le' h1
  exact setShadow_shadow _ die q (by simp [show i < n - 1 by omega])

/-- A higher word comes from the requester's shadow (R10). -/
theorem snapshotRead_higher {w n : Nat} (hw : s.wideWord die a = some (w + 1, n)) :
    exec (.snapshotRead die q ⟨.bar0, addr, 1, sub⟩) s =
      .next ((s.atSub sub).emit (.reg die a (nget s.hpt.shadow (16 * (3 * die + q) + (w + 1))))) := by
  rw [snapshotRead_bar0 s die q sub hd, ← ha, bar0Read_higher (s.atSub sub) die q hr hk hc hw]
  rfl

end

end Sys2Proof.Machine

open Sys2Proof Sys2Proof.Machine

/-- Settles O58, clause by clause: Dusk through what sending a channel changes, the clocks through one restart's bits, and the
reads word by word. -/
theorem duskClocksAndReads : Obligations.DuskClocksAndReads := by
  refine ⟨fun s die hact => ⟨duskRequest_asked hact, duskRequest_sends hact⟩, fun s => duskEntry_enters,
    fun s die hact => ⟨duskExit_not_asked hact, duskExit_ends hact⟩, fun s die dom => clockRestart_restarts, ?_, ?_⟩
  · rintro s _ die q sp addr sub rfl
    refine ⟨rfl, fun n => snapshotRead_words s die q sp sub n, fun h hsp => snapshotRead_d3hot s die q sub h hsp, ?_, ?_, ?_, ?_⟩
    · rintro rfl
      exact ⟨_, snapshotRead_config s die q sub, rfl⟩
    · rintro n o hd rfl hn ha
      exact snapshotRead_page s die q sub hd hn ha
    · rintro v hd rfl hv ha
      exact snapshotRead_mask s die q sub hd hv ha
    · rintro w hd rfl hw ha
      exact snapshotRead_pending s die q sub hd hw ha
  · rintro s _ die q addr sub a rfl ha hd
    refine ⟨fun hr hlow => ⟨_, snapshotRead_notReady s die q sub ha hd hr hlow, rfl⟩, fun hr => ⟨?_, ?_⟩,
      fun hr hk hc => ⟨?_, ?_, ?_⟩⟩
    · exact snapshotRead_ivhv s die q sub ha hd hr
    · exact snapshotRead_challenge s die q sub ha hd hr
    · exact fun hw => ⟨_, snapshotRead_narrow s die q sub ha hd hr hk hc hw, rfl⟩
    · exact fun n hw => snapshotRead_lowest s die q sub ha hd hr hk hc hw
    · exact fun w n hw => ⟨_, snapshotRead_higher s die q sub ha hd hr hk hc hw, rfl⟩

end

section
/-! SUPPORT. Table words and ports (R18, R20): a write of a whole word, and what DARK of a port shares its byte with. -/
namespace Sys2Proof.Machine

/-- With the Plan Engine off, a new value of a word of class S is stored and clears VALID (R18, R34). -/
theorem tableS_word {s : State} {a v : Nat} (hoff : s.plnOn = false) (hv : v < 2 ^ 32) (hne : v ≠ s.load a 4) :
    s.tableS a 0xFFFFFFFF v = ((s.store a 4 v).invalidate, 0) := by
  have hnew : (s.load a 4 &&& (0xFFFFFFFF ^^^ 0xFFFFFFFF)) ||| (v &&& 0xFFFFFFFF) = v := by
    rw [Nat.xor_self, Nat.and_zero, Nat.zero_or, show 0xFFFFFFFF = 2 ^ 32 - 1 from rfl, Nat.and_two_pow_sub_one_eq_mod]
    exact Nat.mod_eq_of_lt hv
  unfold State.tableS
  simp only [hnew]
  rw [if_neg (by simp [hoff]), if_neg hne]

/-- With the Plan Engine on, the class of a word of class S refuses the write (R18). -/
theorem tableS_refused {s : State} (hon : s.plnOn = true) (a mask v : Nat) : s.tableS a mask v = (s, 2) := if_pos hon

/-- A change of a table clears VALID, and a validation in progress will not set it (R34). -/
theorem invalidate_spec (s : State) : s.invalidate.rd PLN_FMAP_STATUS.VALID = 0 ∧
    s.invalidate = { s with regs := s.invalidate.regs, pln := { s.pln with touched := true } } ∧
    RegsBut [PLN_FMAP_STATUS.VALID.key 0 0 0] s s.invalidate :=
  ⟨(rd_congr (s := s.wr PLN_FMAP_STATUS.VALID 0) rfl _ _ _ _).trans (rd_wr_same _ _ _ _ _ _), rfl,
    (onlyRegs_wr s PLN_FMAP_STATUS.VALID 0 0 0 0 (by simp)).2⟩

/-- Word 0 of a Fabric Map entry is of class S in all its bits (R18, R23). -/
theorem fabricWord_fmap (s : State) {e : Nat} (he : e < 16384) (v : Nat) :
    s.fabricWord (fmapBase + 8 * e) v = s.tableS (fmapBase + 8 * e) 0xFFFFFFFF v := by
  have helem : ¬ (elemBase ≤ fmapBase + 8 * e ∧ fmapBase + 8 * e < elemBase + 0x20000) := by
    simp only [elemBase, fmapBase]
    omega
  have hfmap : fmapBase ≤ fmapBase + 8 * e ∧ fmapBase + 8 * e < fmapBase + 0x20000 := by omega
  have hentry : (fmapBase + 8 * e - fmapBase) / 8 = e := by omega
  have hword : (fmapBase + 8 * e - fmapBase) % 8 / 4 = 0 := by omega
  rw [State.fabricWord, if_neg helem, if_pos hfmap, hentry, hword]
  exact if_pos rfl

/-- A bit of the lowest byte of a number in memory. -/
theorem bit_load_low (s : State) (a n : Nat) {b : Nat} (hb : b < 8) : bit (s.load a (n + 1)) b = bit (s.loadB a).toNat b := by
  have hlow : s.load a (n + 1) % 2 ^ 8 = (s.loadB a).toNat := by
    have := (s.loadB a).isLt
    rw [State.load]
    omega
  rw [← bit_mod_two_pow _ hb, hlow]

/-- The bits above the lowest byte of a number in memory are those of the bytes that follow. -/
theorem bits_load_high (s : State) (a n w : Nat) {lo : Nat} (hlo : 8 ≤ lo) :
    bits (s.load a (n + 1)) lo w = bits (s.load (a + 1) n) (lo - 8) w := by
  have hhigh : s.load a (n + 1) / 2 ^ 8 = s.load (a + 1) n := by
    have := (s.loadB a).isLt
    rw [State.load]
    omega
  rw [bits, bits, ← hhigh, Nat.div_div_eq_div_mul, ← pow_add, Nat.add_sub_cancel' hlo]

/-- The byte at the head of a port's entry with DARK set or cleared. -/
def State.storeDark (s : State) (p : Nat) (dark : Bool) : State :=
  s.store (portBase + 16 * p) 1
    (if dark then setBit (s.load (portBase + 16 * p) 1) 1 else clrBit (s.load (portBase + 16 * p) 1) 1)

section
variable (s : State) (p : Nat) (dark : Bool)

theorem loadB_storeDark_other {a : Nat} (h : a ≠ portBase + 16 * p) : (s.storeDark p dark).loadB a = s.loadB a :=
  loadB_store_other s _ (by omega)

/-- Of the bits of the byte DARK alone changes. -/
theorem bit_storeDark {b : Nat} (hb : b < 8) : bit ((s.storeDark p dark).loadB (portBase + 16 * p)).toNat b =
    if b = 1 then dark else bit (s.loadB (portBase + 16 * p)).toNat b := by
  rw [← load_one, State.storeDark, load_store_same, show 256 ^ 1 = 2 ^ 8 from rfl, bit_mod_two_pow _ hb, ← load_one]
  by_cases h1 : b = 1
  · subst h1
    cases dark <;> simp [bit_setBit, bit_clrBit]
  · cases dark <;> simp [bit_setBit, bit_clrBit, h1]

/-- The port is dark or not, as was stored, and the rest of its entry stays. -/
theorem port_storeDark : (s.storeDark p dark).port p = { s.port p with dark := dark } := by
  have hbit {b : Nat} (hb : b < 8) := bit_storeDark s p dark hb
  have hrest : (s.storeDark p dark).load (portBase + 16 * p + 1) 11 = s.load (portBase + 16 * p + 1) 11 :=
    load_congr fun a _ _ => loadB_storeDark_other s p dark (by omega)
  simp [State.port, portOfNat, bit_load_low, bits_load_high, hbit, hrest]

/-- An element's entry lies apart from the ports'. -/
theorem elem_storeDark {e : Nat} (he : e < 16384) : (s.storeDark p dark).elem e = s.elem e := by
  have hload : (s.storeDark p dark).load (elemBase + 8 * e) 8 = s.load (elemBase + 8 * e) 8 := by
    refine load_congr fun a _ ha => loadB_storeDark_other s p dark ?_
    simp only [elemBase, portBase] at *
    omega
  rw [State.elem, State.elem, hload]

end

theorem gateCh_eq (s : State) (p : Nat) : s.gateCh p =
    if (s.port p).present && s.isElem (s.port p).gate then some (s.elem (s.port p).gate).channel else none := rfl

/-- PRESENT and GATE of a port and the Element Table decide the channel of its gate. -/
theorem gateCh_congr {s t : State} {p : Nat} (hpresent : (t.port p).present = (s.port p).present)
    (hgate : (t.port p).gate = (s.port p).gate) (helem : ∀ e < 16384, t.elem e = s.elem e) : t.gateCh p = s.gateCh p := by
  rw [gateCh_eq, gateCh_eq, hpresent, hgate]
  by_cases he : (s.port p).gate < 16384
  · rw [State.isElem, State.isElem, helem _ he]
  · simp [State.isElem, he]

theorem gateCh_storeDark (s : State) (p : Nat) (dark : Bool) : (s.storeDark p dark).gateCh p = s.gateCh p :=
  gateCh_congr (by rw [port_storeDark]) (by rw [port_storeDark]) fun _ he => elem_storeDark s p dark he

/-- The bytes decide what the tables hold. -/
theorem port_of_mem {s t : State} (h : t.mem = s.mem) (p : Nat) : t.port p = s.port p := by
  rw [State.port, State.port, load_of_mem h]

@[inherit_doc port_of_mem] theorem elem_of_mem {s t : State} (h : t.mem = s.mem) (e : Nat) : t.elem e = s.elem e := by
  rw [State.elem, State.elem, load_of_mem h]

theorem gateCh_of_mem {s t : State} (h : t.mem = s.mem) (p : Nat) : t.gateCh p = s.gateCh p :=
  gateCh_congr (by rw [port_of_mem h]) (by rw [port_of_mem h]) fun e _ => elem_of_mem h e

/-- The end of a suspension changes what the Tone Demodulation block keeps, and nothing else. -/
theorem markPort_eq_ton (s : State) (p : Nat) : s.markPort p = { s with ton := (s.markPort p).ton } := by
  unfold State.markPort
  split <;> rfl

@[inherit_doc markPort_eq_ton] theorem markPorts_eq_ton (l : List Nat) (s : State) :
    l.foldl State.markPort s = { s with ton := (l.foldl State.markPort s).ton } := by
  induction l generalizing s with
  | nil => rfl
  | cons p l ih =>
    have h := ih (s.markPort p)
    rw [markPort_eq_ton s p] at h
    rw [List.foldl_cons, markPort_eq_ton s p]
    exact h

theorem markPort_mem (s : State) (p : Nat) : (s.markPort p).mem = s.mem := by rw [markPort_eq_ton]

theorem chRd_chWr_same (s : State) (f : Fld) (v ch : Nat) : (s.chWr f v ch).chRd f ch = v % 2 ^ f.w := rd_wr_same _ _ _ _ _ _

/-- DARK and DKHOLD of a channel are two bits. -/
theorem chRd_dkhold_chWr_dark (s : State) (v ch : Nat) :
    (s.chWr DRV_CH_GATEW.DARK v ch).chRd DRV_CH_GATEW.DKHOLD ch = s.chRd DRV_CH_GATEW.DKHOLD ch := by
  refine rd_wr_other _ _ ?_
  simp only [Fld.key, DRV_CH_GATEW.DARK, DRV_CH_GATEW.DKHOLD]
  omega

/-- DARK as the first byte of a port's entry shows it. -/
theorem dark_eq_bit (s : State) (p : Nat) : (s.port p).dark = bit (s.load (portBase + 16 * p) 1) 1 := by
  rw [load_one]
  exact bit_load_low s (portBase + 16 * p) 11 (by omega)

section
variable {s : State} {p ch : Nat}

/-- DARK_SET of a port that is not dark: the table's bit and the gate word (R29, R30). -/
theorem setDark_true (hd : (s.port p).dark = false) (hg : s.gateCh p = some ch) :
    s.setDark p true = (s.storeDark p true).chWr DRV_CH_GATEW.DARK 1 ch := by
  have hbit : ¬ (bit (s.load (portBase + 16 * p) 1) 1 == true) = true := by simp [← dark_eq_bit, hd]
  have hch : (s.storeDark p true).gateCh p = some ch := (gateCh_storeDark s p true).trans hg
  unfold State.setDark
  dsimp only
  rw [if_neg hbit]
  change (match (s.storeDark p true).gateCh p with | none => _ | some ch => _) = _
  rw [hch]
  rfl

/-- DARK_CLEAR of a dark port: the suspension of its path check ends, and the gate word holds DKHOLD in place of DARK (R29, R31,
R209). -/
theorem setDark_false (hd : (s.port p).dark = true) (hg : s.gateCh p = some ch) :
    s.setDark p false =
      (((s.storeDark p false).markPort p).chWr DRV_CH_GATEW.DKHOLD 1 ch).chWr DRV_CH_GATEW.DARK 0 ch := by
  have hbit : ¬ (bit (s.load (portBase + 16 * p) 1) 1 == false) = true := by simp [← dark_eq_bit, hd]
  have hch : ((s.storeDark p false).markPort p).gateCh p = some ch :=
    (gateCh_of_mem (markPort_mem _ _) p).trans ((gateCh_storeDark s p false).trans hg)
  unfold State.setDark
  dsimp only
  rw [if_neg hbit]
  change (match ((s.storeDark p false).markPort p).gateCh p with | none => _ | some ch => _) = _
  rw [hch]
  rfl

end

end Sys2Proof.Machine
end

section
/-! SUPPORT. Validation, crossing sets and the clock that a validation needs (R26, R34, R35, R474). -/
namespace Sys2Proof.Machine

/-- The state with the result of a validation in PLN_FMAP_STATUS and PLN_FMAP_ERR (R34). -/
def State.fmapResult (s : State) (valid code tab idx : Nat) : State :=
  (((s.wr PLN_FMAP_STATUS.VALID valid).wr PLN_FMAP_STATUS.ERROR code).wr PLN_FMAP_STATUS.ERR_TABLE tab).wr
    PLN_FMAP_ERR.ERR_INDEX idx

/-- The keys of the fields that a validation's end writes. -/
def fmapKeys : List Nat := [PLN_FMAP_STATUS.BUSY.key 0 0 0, PLN_FMAP_STATUS.VALID.key 0 0 0, PLN_FMAP_STATUS.ERROR.key 0 0 0,
  PLN_FMAP_STATUS.ERR_TABLE.key 0 0 0, PLN_FMAP_ERR.ERR_INDEX.key 0 0 0]

section
variable (s : State) (valid code tab idx : Nat)

theorem fmapResult_busy : (s.fmapResult valid code tab idx).rd PLN_FMAP_STATUS.BUSY = s.rd PLN_FMAP_STATUS.BUSY := by
  rw [State.fmapResult, rd_wr_other _ _ (by decide), rd_wr_other _ _ (by decide), rd_wr_other _ _ (by decide),
    rd_wr_other _ _ (by decide)]

theorem fmapResult_valid : (s.fmapResult valid code tab idx).rd PLN_FMAP_STATUS.VALID = valid % 2 := by
  rw [State.fmapResult, rd_wr_other _ _ (by decide), rd_wr_other _ _ (by decide), rd_wr_other _ _ (by decide), rd_wr_same]
  rfl

theorem fmapResult_error : (s.fmapResult valid code tab idx).rd PLN_FMAP_STATUS.ERROR = code % 2 ^ 4 := by
  rw [State.fmapResult, rd_wr_other _ _ (by decide), rd_wr_other _ _ (by decide), rd_wr_same]
  rfl

theorem fmapResult_table : (s.fmapResult valid code tab idx).rd PLN_FMAP_STATUS.ERR_TABLE = tab % 2 ^ 2 := by
  rw [State.fmapResult, rd_wr_other _ _ (by decide), rd_wr_same]
  rfl

theorem fmapResult_index : (s.fmapResult valid code tab idx).rd PLN_FMAP_ERR.ERR_INDEX = idx % 2 ^ 16 := rd_wr_same _ _ _ _ _ _

/-- A validation's end writes its own five fields alone. -/
theorem onlyRegs_fmapResult : OnlyRegs fmapKeys s ((s.wr PLN_FMAP_STATUS.BUSY 0).fmapResult valid code tab idx) :=
  ((((onlyRegs_wr s _ _ _ _ _ (by simp [fmapKeys])).wr _ _ _ _ _ (by simp [fmapKeys])).wr _ _ _ _ _ (by simp [fmapKeys])).wr
    _ _ _ _ _ (by simp [fmapKeys])).wr _ _ _ _ _ (by simp [fmapKeys])

end

/-- Steps that each change registers of a list alone change those alone. -/
theorem onlyRegs_foldl {α : Type} {l : List Nat} {f : State → α → State} {xs : List α}
    (hf : ∀ x ∈ xs, ∀ s, OnlyRegs l s (f s x)) (s : State) : OnlyRegs l s (xs.foldl f s) := by
  induction xs generalizing s with
  | nil => exact onlyRegs_refl l s
  | cons x xs ih =>
    exact (hf x List.mem_cons_self s).trans (ih (fun y hy => hf y (List.mem_cons_of_mem _ hy)) _)

/-- The state with the counts of PLN_REACH_CNT given by tile (R26). -/
def State.reachCounts (s : State) (n : Nat → Nat) : State :=
  (List.range 8).foldl (fun t k => t.wr PLN_REACH_CNT.COUNT (n k) k) s

theorem onlyRegs_reachCounts (s : State) (n : Nat → Nat) :
    OnlyRegs ((List.range 8).map fun k => PLN_REACH_CNT.COUNT.key k 0 0) s (s.reachCounts n) :=
  onlyRegs_foldl (fun k hk x => onlyRegs_wr x PLN_REACH_CNT.COUNT (n k) k 0 0 (List.mem_map_of_mem hk)) s

/-- A clock that restarts changes registers and what the clock manager keeps. -/
theorem clockOn_eq (s : State) (die dom : Nat) :
    s.clockOn die dom = { s with regs := (s.clockOn die dom).regs, pwr := (s.clockOn die dom).pwr } := by
  unfold State.clockOn
  split <;> rfl

@[inherit_doc clockOn_eq] theorem clocksOn_eq (s : State) (dom : Nat) :
    s.clocksOn dom = { s with regs := (s.clocksOn dom).regs, pwr := (s.clocksOn dom).pwr } := by
  have h := clockOn_eq (s.clockOn 0 dom) 1 dom
  rw [clockOn_eq s 0 dom] at h
  rw [State.clocksOn, clockOn_eq s 0 dom]
  exact h

theorem clockOn_of_running {s : State} {die dom : Nat} (h : s.gated die dom = false) : s.clockOn die dom = s := by
  simp [State.clockOn, h]

theorem clocksOn_of_running {s : State} {dom : Nat} (h : s.clockOff dom = false) : s.clocksOn dom = s := by
  obtain ⟨h0, h1⟩ := Bool.or_eq_false_iff.1 h
  rw [State.clocksOn, clockOn_of_running h0, clockOn_of_running h1]

/-- A domain that is no loop cluster restarts by its clock alone. -/
theorem restart_eq_clockOn (s : State) (die : Nat) {dom : Nat} (h : 8 ≤ dom) : s.restart die dom = s.clockOn die dom := by
  by_cases hg : s.gated die dom = true
  · simp [State.restart, hg, Nat.not_lt.2 h]
  · simp [State.restart, State.clockOn, hg]

/-- Work that comes to a domain beside the loop clusters finds its clock on, on both dies (R474). -/
theorem clockOff_clocksOn (s : State) {dom : Nat} (h8 : 8 ≤ dom) (h22 : dom < 22) : (s.clocksOn dom).clockOff dom = false := by
  have hgated {d : Nat} (hd : d < 2) : (s.clocksOn dom).gated d dom = (s.gated d dom && !(d == 0) && !(d == 1)) := by
    rw [State.clocksOn, ← restart_eq_clockOn _ _ h8, ← restart_eq_clockOn _ _ h8, gated_restart _ (by omega) hd h22,
      gated_restart _ (by omega) hd h22]
    simp
  simp [State.clockOff, hgated]

end Sys2Proof.Machine
end

section
/-! The clauses of FabricTablesAndValidation, one by one. -/
namespace Sys2Proof.Machine

section
variable {s : State} {die : Fin 2}

/-- Word 0 of a Fabric Map entry is written where the write acts. -/
theorem exec_fabricTableWrite_fmap (e : Fin 16384) (value : Word) (hact : s.bar0 die (fmapBase + 8 * e) = .act) :
    exec (.fabricTableWrite die (BitVec.ofNat 32 (fmapBase + 8 * e)) value) s =
      .next (s.fabricWrite (fmapBase + 8 * e) value.toNat).1 := by
  have he := e.isLt
  have haddr : (BitVec.ofNat 32 (fmapBase + 8 * e)).toNat = fmapBase + 8 * e := by
    rw [BitVec.toNat_ofNat]
    simp only [fmapBase]
    omega
  have hword : fmapBase + 8 * e.val - (fmapBase + 8 * e.val) % 4 = fmapBase + 8 * e := by
    simp only [fmapBase]
    omega
  change Host.Outcome.next (s.viaBar0 die _ _) = _
  rw [haddr, viaBar0_act hact, hword]

/-- With the Plan Engine off a word of the Fabric Map takes a new value, which clears VALID (R18, R34). -/
theorem fabricTableWrite_stores (e : Fin 16384) (value : Word) (hact : s.bar0 die (fmapBase + 8 * e) = .act)
    (hoff : s.on PLN_STATUS.ENABLED = false) (hne : value.toNat ≠ s.load (fmapBase + 8 * e) 4) :
    ∃ t, exec (.fabricTableWrite die (BitVec.ofNat 32 (fmapBase + 8 * e)) value) s = .next t ∧
      t.load (fmapBase + 8 * e) 4 = value.toNat ∧ t.rd PLN_FMAP_STATUS.VALID = 0 ∧
      (∀ a, a < fmapBase + 8 * e ∨ fmapBase + 8 * e + 4 ≤ a → t.loadB a = s.loadB a) ∧
      t = { s with regs := t.regs, mem := t.mem, pln := t.pln } ∧ RegsBut [PLN_FMAP_STATUS.VALID.key 0 0 0] s t ∧
      t.pln = { s.pln with touched := true } := by
  have hw : (s.fabricWrite (fmapBase + 8 * e) value.toNat).1 = (s.store (fmapBase + 8 * e) 4 value.toNat).invalidate := by
    rw [State.fabricWrite, fabricWord_fmap s e.isLt, tableS_word hoff value.isLt hne]
    rfl
  have hload := (load_store_same s (fmapBase + 8 * e) 4 value.toNat).trans (Nat.mod_eq_of_lt value.isLt)
  have hrest {a : Nat} := loadB_store_other s (a := fmapBase + 8 * e) (n := 4) (b := a) value.toNat
  obtain ⟨m, hm⟩ : ∃ m, s.store (fmapBase + 8 * e) 4 value.toNat = { s with mem := m } := ⟨_, store_eq_mem _ _ _ _⟩
  rw [hm] at hw hload hrest
  obtain ⟨hvalid, heq, hregs⟩ := invalidate_spec { s with mem := m }
  refine ⟨_, (exec_fabricTableWrite_fmap e value hact).trans (congrArg _ hw),
    (load_of_mem (s := { s with mem := m }) rfl _ _).trans hload, hvalid, fun a ha => hrest ha, heq, hregs, rfl⟩

/-- What a refused write of the Plan Engine or the fabric tables does (R18). -/
theorem plnReject_spec (s : State) : s.plnReject.rd PLN_STATUS.CFG_REJECT = 1 ∧
    OnlyRegs [PLN_STATUS.CFG_REJECT.key 0 0 0] s s.plnReject :=
  ⟨rd_wr_same _ _ _ _ _ _, onlyRegs_wr _ _ _ _ _ _ (by simp)⟩

/-- With the Plan Engine on the write is refused (R18). -/
theorem fabricTableWrite_refused (e : Fin 16384) (value : Word) (hact : s.bar0 die (fmapBase + 8 * e) = .act)
    (hon : s.on PLN_STATUS.ENABLED = true) :
    exec (.fabricTableWrite die (BitVec.ofNat 32 (fmapBase + 8 * e)) value) s = .next s.plnReject := by
  rw [exec_fabricTableWrite_fmap e value hact, State.fabricWrite, fabricWord_fmap s e.isLt, tableS_refused hon]
  rfl

/-- DARK_SET of a port that is not dark (R30). -/
theorem darkSet_sets (p : Fin 2048) {ch : Nat} (hact : s.bar0 die (portBase + 16 * p) = .act) (hd : (s.port p).dark = false)
    (hg : s.gateCh p = some ch) :
    ∃ t, exec (.darkSet die p) s = .next t ∧ (t.port p).dark = true ∧ t.chRd DRV_CH_GATEW.DARK ch = 1 ∧
      (∀ a, a ≠ portBase + 16 * p → t.loadB a = s.loadB a) ∧ t = { s with regs := t.regs, mem := t.mem } ∧
      RegsBut [DRV_CH_GATEW.DARK.key (ch / 2048) (ch % 2048) 0] s t := by
  have hexec : exec (.darkSet die p) s = .next ((s.storeDark p true).chWr DRV_CH_GATEW.DARK 1 ch) :=
    congrArg _ ((viaBar0_act hact _).trans (setDark_true hd hg))
  refine ⟨_, hexec, ?_, chRd_chWr_same _ _ _ _, fun a ha => loadB_storeDark_other s p true ha, rfl,
    fun k hk => nget_nset_other _ _ (by simpa using hk)⟩
  rw [port_of_mem (chWr_mem _ _ _ _), port_storeDark]

/-- DARK_CLEAR of domain 0 of a dark port (R31). -/
theorem darkClear_clears (p : Fin 2048) {ch : Nat} (hact : s.bar0 die (portBase + 16 * p) = .act) (hd : (s.port p).dark = true)
    (hg : s.gateCh p = some ch) :
    ∃ t, exec (.darkClear die p 0) s = .next t ∧ (t.port p).dark = false ∧ t.chRd DRV_CH_GATEW.DARK ch = 0 ∧
      t.chRd DRV_CH_GATEW.DKHOLD ch = 1 ∧ (∀ a, a ≠ portBase + 16 * p → t.loadB a = s.loadB a) ∧
      t = { s with regs := t.regs, mem := t.mem, ton := t.ton } ∧
      RegsBut [DRV_CH_GATEW.DARK.key (ch / 2048) (ch % 2048) 0, DRV_CH_GATEW.DKHOLD.key (ch / 2048) (ch % 2048) 0] s t := by
  have hexec : exec (.darkClear die p 0) s =
      .next ((((s.storeDark p false).markPort p).chWr DRV_CH_GATEW.DKHOLD 1 ch).chWr DRV_CH_GATEW.DARK 0 ch) :=
    congrArg _ ((viaBar0_act hact _).trans (setDark_false hd hg))
  rw [markPort_eq_ton] at hexec
  refine ⟨_, hexec, ?_, chRd_chWr_same _ _ _ _, ?_, fun a ha => loadB_storeDark_other s p false ha, rfl, fun k hk => ?_⟩
  · rw [port_of_mem (t := State.chWr _ _ _ _) (s := s.storeDark p false) rfl, port_storeDark]
  · rw [chRd_dkhold_chWr_dark, chRd_chWr_same]
    rfl
  · obtain ⟨hdark, hhold⟩ : k ≠ DRV_CH_GATEW.DARK.key (ch / 2048) (ch % 2048) 0 ∧
        k ≠ DRV_CH_GATEW.DKHOLD.key (ch / 2048) (ch % 2048) 0 := by simpa using hk
    exact (nget_nset_other _ _ hdark).trans (nget_nset_other _ _ hhold)

/-- DARK_CLEAR of another domain than 0 is refused where DARK is 1, and has no effect where it is 0 (R18, R31). -/
theorem exec_darkClear_tenant (p : Fin 2048) {dom : Fin 17} (hact : s.bar0 die (portBase + 16 * p) = .act) (hdom : dom ≠ 0) :
    exec (.darkClear die p dom) s = .next (if (s.port p).dark then s.plnReject else s) := by
  have hv : dom.val ≠ 0 := fun h => hdom (Fin.ext h)
  refine congrArg _ ((viaBar0_act hact _).trans ?_)
  simp [hv]

/-- VALIDATE where the write acts (R33, R34). -/
theorem exec_validate (hact : s.bar0 die 0x10F000 = .act) : exec (.validate die) s = .next (if s.plnOn then s.plnReject
    else if s.on PLN_FMAP_STATUS.BUSY then s
    else { (s.clocksOn 17).wr PLN_FMAP_STATUS.BUSY 1 with pln := { (s.clocksOn 17).pln with touched := false } }) :=
  congrArg _ (viaBar0_act hact _)

/-- VALIDATE starts a validation, and the Plan Engine's clock where that is gated (R34, R474). -/
theorem validate_starts (hact : s.bar0 die 0x10F000 = .act) (hoff : s.on PLN_STATUS.ENABLED = false)
    (hidle : s.on PLN_FMAP_STATUS.BUSY = false) :
    ∃ t, exec (.validate die) s = .next t ∧ t.rd PLN_FMAP_STATUS.BUSY = 1 ∧
      t = { s with regs := t.regs, pln := t.pln, pwr := t.pwr } ∧ t.pln = { s.pln with touched := false } ∧
      t.clockOff 17 = false ∧
      (s.clockOff 17 = false → t.pwr = s.pwr ∧ RegsBut [PLN_FMAP_STATUS.BUSY.key 0 0 0] s t) := by
  have hexec := exec_validate hact
  rw [if_neg (by simp [State.plnOn, hoff]), if_neg (by simp [hidle])] at hexec
  have hgated (d : Fin 2) : ((s.clocksOn 17).wr PLN_FMAP_STATUS.BUSY 1).gated d 17 = (s.clocksOn 17).gated d 17 := by
    rw [State.gated, rd_wr_other _ _ (by revert d; decide)]
    rfl
  refine ⟨_, hexec, (rd_congr (s := (s.clocksOn 17).wr PLN_FMAP_STATUS.BUSY 1) rfl _ _ _ _).trans (rd_wr_same _ _ _ _ _ _), ?_,
    ?_, ?_, fun hrun => ?_⟩
  · rw [clocksOn_eq]
    rfl
  · rw [clocksOn_eq]
  · refine Eq.trans ?_ (clockOff_clocksOn s (dom := 17) (by omega) (by omega))
    exact congrArg₂ (· || ·) (hgated 0) (hgated 1)
  · rw [clocksOn_of_running hrun]
    exact ⟨rfl, (onlyRegs_wr s PLN_FMAP_STATUS.BUSY 1 0 0 0 (by simp)).2⟩

/-- While the Plan Engine is on VALIDATE is refused (R34). -/
theorem validate_refused (hact : s.bar0 die 0x10F000 = .act) (hon : s.on PLN_STATUS.ENABLED = true) :
    exec (.validate die) s = .next s.plnReject := (exec_validate hact).trans (congrArg _ (if_pos hon))

end

section
variable {s : State}

/-- A validation in progress ends with its result (R34, R35). -/
theorem exec_validationDone (hbusy : s.on PLN_FMAP_STATUS.BUSY = true) : exec .validationDone s = .next
    (match s.firstFmapError with
    | none => (s.wr PLN_FMAP_STATUS.BUSY 0).fmapResult (b2n (!s.pln.touched)) 0 0 0
    | some (tab, i, c) => (s.wr PLN_FMAP_STATUS.BUSY 0).fmapResult 0 c tab i) :=
  congrArg _ (if_neg (by simp [hbusy]))

/-- A validation that finds no error gives VALID, unless a table has changed since it began (R34). -/
theorem validationDone_valid (hbusy : s.on PLN_FMAP_STATUS.BUSY = true) (hok : s.firstFmapError = none) :
    ∃ t, exec .validationDone s = .next t ∧ t.rd PLN_FMAP_STATUS.BUSY = 0 ∧
      t.rd PLN_FMAP_STATUS.VALID = b2n (!s.pln.touched) ∧ t.rd PLN_FMAP_STATUS.ERROR = 0 ∧ OnlyRegs fmapKeys s t := by
  have hexec := exec_validationDone hbusy
  rw [hok] at hexec
  refine ⟨_, hexec, (fmapResult_busy _ _ _ _ _).trans (rd_wr_same _ _ _ _ _ _), (fmapResult_valid _ _ _ _ _).trans ?_,
    fmapResult_error _ _ _ _ _, onlyRegs_fmapResult _ _ _ _ _⟩
  cases s.pln.touched <;> rfl

/-- A validation that finds an error shows the first one's table, code and index (R34, R35). -/
theorem validationDone_error {tab i c : Nat} (hbusy : s.on PLN_FMAP_STATUS.BUSY = true)
    (herr : s.firstFmapError = some (tab, i, c)) :
    ∃ t, exec .validationDone s = .next t ∧ t.rd PLN_FMAP_STATUS.BUSY = 0 ∧ t.rd PLN_FMAP_STATUS.VALID = 0 ∧
      t.rd PLN_FMAP_STATUS.ERROR = c % 2 ^ 4 ∧ t.rd PLN_FMAP_STATUS.ERR_TABLE = tab % 2 ^ 2 ∧
      t.rd PLN_FMAP_ERR.ERR_INDEX = i % 2 ^ 16 ∧ OnlyRegs fmapKeys s t := by
  have hexec := exec_validationDone hbusy
  rw [herr] at hexec
  exact ⟨_, hexec, (fmapResult_busy _ _ _ _ _).trans (rd_wr_same _ _ _ _ _ _), fmapResult_valid _ _ _ _ _,
    fmapResult_error _ _ _ _ _, fmapResult_table _ _ _ _ _, fmapResult_index _ _ _ _ _, onlyRegs_fmapResult _ _ _ _ _⟩

/-- With crossing sets to complete, the old ones go, suspensions may end, and the counts are written (R26, R209). -/
theorem exec_crossingSetDone {f : Nat} (hdue : s.pln.crossingDue = some f) :
    ∃ ton n, exec .crossingSetDone s = .next
      (State.reachCounts { s with pln := { s.pln with crossingOld := [], crossingDue := none }, ton := ton } n) := by
  change ∃ ton n, execCrossingSetDone s = _
  unfold execCrossingSetDone
  rw [hdue]
  dsimp only
  rw [markPorts_eq_ton]
  exact ⟨_, _, rfl⟩

/-- The new crossing sets alone are in force, and the counts of ports follow them (R26). -/
theorem crossingSetDone_ends {f : Nat} (hdue : s.pln.crossingDue = some f) :
    ∃ t, exec .crossingSetDone s = .next t ∧ t.pln = { s.pln with crossingOld := [], crossingDue := none } ∧
      t = { s with regs := t.regs, pln := t.pln, ton := t.ton } ∧
      RegsBut ((List.range 8).map fun k => PLN_REACH_CNT.COUNT.key k 0 0) s t := by
  obtain ⟨ton, n, hexec⟩ := exec_crossingSetDone hdue
  obtain ⟨heq, hregs⟩ := onlyRegs_reachCounts
    { s with pln := { s.pln with crossingOld := [], crossingDue := none }, ton := ton } n
  refine ⟨_, hexec, ?_, ?_, hregs⟩
  · rw [heq]
  · rw [heq]

end

end Sys2Proof.Machine

open Sys2Proof Sys2Proof.Machine

/-- Settles O15, clause by clause: a word of class S stored whole, DARK as one bit of a port's first byte, and the result of a
validation field by field. -/
theorem fabricTablesAndValidation : Obligations.FabricTablesAndValidation :=
  ⟨⟨fun _ _ e value hact hoff hne => fabricTableWrite_stores e value hact hoff hne,
    fun s _ e value hact hon => ⟨_, fabricTableWrite_refused e value hact hon, plnReject_spec s⟩,
    fun _ _ p _ hact hd hg => darkSet_sets p hact hd hg,
    fun _ _ p _ hact hd hg => darkClear_clears p hact hd hg,
    fun _ _ p _ hact hdom hd => (exec_darkClear_tenant p hact hdom).trans (congrArg _ (if_neg (by simp [hd]))),
    fun s _ p _ hact hdom hd =>
      ⟨_, (exec_darkClear_tenant p hact hdom).trans (congrArg _ (if_pos hd)), plnReject_spec s⟩⟩,
   fun _ _ hact hoff hidle => validate_starts hact hoff hidle,
   fun s _ hact hon => ⟨_, validate_refused hact hon, plnReject_spec s⟩,
   fun _ hbusy hok => validationDone_valid hbusy hok,
   fun _ _ _ _ hbusy herr => validationDone_error hbusy herr,
   fun _ _ hdue => crossingSetDone_ends hdue⟩

end

section
/-! SUPPORT. Fields of registers apart from each other: when the keys of two fields differ at every index, and where the keys of a
field lie within the copy of a die. -/
namespace Sys2Proof

/-- The bit address of a field at index 0 of die A. -/
def Fld.bit0 (f : Fld) : Nat := f.base * 8 + f.lo

/-- How far the last place of a field lies behind its first, in bits, within the copy of a die. -/
def Fld.spread (f : Fld) : Nat :=
  8 * ((if f.s1 = 0x10000000 then 0 else f.s1 * (f.n1 - 1)) + f.s2 * (f.n2 - 1) + f.s3 * (f.n3 - 1))

/-- The field's places lie within the copy of a die. -/
def Fld.fits (f : Fld) : Bool :=
  decide (0 < f.n1) && decide (0 < f.n2) && decide (0 < f.n3) && decide (f.bit0 + f.spread < 0x80000000)

/-- No place of the field lies between two bit addresses of a die's copy. -/
def Fld.avoids (f : Fld) (lo hi : Nat) : Bool := f.fits && (decide (f.bit0 + f.spread < lo) || decide (hi ≤ f.bit0))

/-- The strides of a field are multiples of `d` bits. -/
def Fld.steps (f : Fld) (d : Nat) : Bool := f.s1 * 8 % d == 0 && f.s2 * 8 % d == 0 && f.s3 * 8 % d == 0

/-- Two fields share no bit address: their ranges are disjoint, or their places in a word, or in the 64 bytes of a ring's registers,
differ. -/
def Fld.apart (f g : Fld) : Bool :=
  g.fits && f.avoids g.bit0 (g.bit0 + g.spread + 1) ||
    [32, 512].any fun d => f.steps d && g.steps d && f.bit0 % d != g.bit0 % d

theorem Fld.key_mod {f : Fld} (h : f.fits = true) (i j k : Nat) :
    f.bit0 ≤ f.key i j k % 0x80000000 ∧ f.key i j k % 0x80000000 ≤ f.bit0 + f.spread := by
  simp only [Fld.fits, Bool.and_eq_true, decide_eq_true_eq] at h
  obtain ⟨⟨⟨h1, h2⟩, h3⟩, hlt⟩ := h
  have hi : i % f.n1 ≤ f.n1 - 1 := by have := Nat.mod_lt i h1; omega
  have hj : j % f.n2 ≤ f.n2 - 1 := by have := Nat.mod_lt j h2; omega
  have hk : k % f.n3 ≤ f.n3 - 1 := by have := Nat.mod_lt k h3; omega
  have hm1 := Nat.mul_le_mul_left f.s1 hi
  have hm2 := Nat.mul_le_mul_left f.s2 hj
  have hm3 := Nat.mul_le_mul_left f.s3 hk
  simp only [Fld.spread, Fld.bit0, Fld.key] at *
  by_cases hd : f.s1 = 0x10000000
  · rw [if_pos hd] at *
    rw [hd] at *
    omega
  · rw [if_neg hd] at *
    omega

theorem Fld.key_avoids {f : Fld} {lo hi : Nat} (h : f.avoids lo hi = true) (i j k : Nat) :
    ¬ (lo ≤ f.key i j k % 0x80000000 ∧ f.key i j k % 0x80000000 < hi) := by
  simp only [Fld.avoids, Bool.and_eq_true, Bool.or_eq_true, decide_eq_true_eq] at h
  have := Fld.key_mod h.1 i j k
  omega

theorem Fld.key_residue {f : Fld} {d : Nat} (h : f.steps d = true) (i j k : Nat) : f.key i j k % d = f.bit0 % d := by
  simp only [Fld.steps, Bool.and_eq_true, beq_iff_eq] at h
  obtain ⟨⟨⟨a, ha⟩, ⟨b, hb⟩⟩, ⟨c, hc⟩⟩ := h.imp (And.imp Nat.dvd_of_mod_eq_zero Nat.dvd_of_mod_eq_zero) Nat.dvd_of_mod_eq_zero
  have : f.key i j k = f.bit0 + d * (a * (i % f.n1) + b * (j % f.n2) + c * (k % f.n3)) := by
    simp only [Fld.key, Fld.bit0]
    linear_combination (i % f.n1) * ha + (j % f.n2) * hb + (k % f.n3) * hc
  rw [this, Nat.add_mul_mod_self_left]

/-- Fields that are apart have no key in common. -/
theorem Fld.key_ne {f g : Fld} (h : f.apart g = true) (i j k a b c : Nat) : f.key i j k ≠ g.key a b c := by
  intro e
  rcases Bool.or_eq_true _ _ ▸ h with h | h
  · simp only [Bool.and_eq_true] at h
    have hf := Fld.key_avoids h.2 i j k
    have hg := Fld.key_mod h.1 a b c
    rw [e] at hf
    omega
  · simp only [List.any_eq_true, Bool.and_eq_true, bne_iff_ne] at h
    obtain ⟨d, -, ⟨hf, hg⟩, hne⟩ := h
    rw [← Fld.key_residue hf i j k, ← Fld.key_residue hg a b c, e] at hne
    exact hne rfl

namespace Machine

/-- A write of one field leaves a field apart from it. -/
theorem rd_wr_apart (s : State) {f g : Fld} (h : g.apart f = true) (v i j k a b c : Nat) :
    (s.wr f v i j k).rd g a b c = s.rd g a b c := rd_wr_other s v (Fld.key_ne h a b c i j k)

/-- One field decides which die is active. -/
theorem active_of_rd {s t : State} (h : t.rd HPT_STATUS.ACTIVE 1 = s.rd HPT_STATUS.ACTIVE 1) : t.active = s.active := by
  rw [State.active, State.active, State.on, State.on, h]

theorem active_wr (s : State) {f : Fld} (h : HPT_STATUS.ACTIVE.apart f = true) (v i j k : Nat) : (s.wr f v i j k).active = s.active :=
  active_of_rd (rd_wr_apart s h v i j k 1 0 0)

theorem on_of_rd {s t : State} {f : Fld} {i j k : Nat} (h : t.rd f i j k = s.rd f i j k) : t.on f i j k = s.on f i j k := by
  rw [State.on, State.on, h]

end Machine
end Sys2Proof
end

section
/-! SUPPORT. What the Host Port's reports change (R70, R77, R81 to R83): registers, pending bits, and messages of vectors. -/
namespace Sys2Proof.Machine

/-- Between `s` and `t` the Host Port has reported: nothing but register fields with a key in `K`, pending bits and messages of vectors
differs, and no pending bit has gone. -/
structure Reports (K : Nat → Prop) (s t : State) : Prop where
  frame : t = { s with regs := t.regs, hpt := { s.hpt with pba := t.hpt.pba }, out := t.out }
  regs : ∀ k, ¬ K k → nget t.regs k = nget s.regs k
  out : ∃ l, t.out = l ++ s.out ∧ ∀ o ∈ l, ∃ die vec, o = Out.msix die vec
  pba : ∀ k, nget s.hpt.pba k ≠ 0 → nget t.hpt.pba k ≠ 0

section
variable {K : Nat → Prop} {s t : State}

theorem reports_refl (K : Nat → Prop) (s : State) : Reports K s s := ⟨rfl, fun _ _ => rfl, ⟨[], rfl, nofun⟩, fun _ h => h⟩

theorem Reports.trans {a b c : State} (h : Reports K a b) (g : Reports K b c) : Reports K a c := by
  refine ⟨?_, fun k hk => (g.regs k hk).trans (h.regs k hk), ?_, fun k hk => g.pba k (h.pba k hk)⟩
  · have h1 := g.frame
    rw [h.frame] at h1
    exact h1
  · obtain ⟨l, hl, hm⟩ := h.out
    obtain ⟨l', hl', hm'⟩ := g.out
    exact ⟨l' ++ l, by rw [hl', hl, List.append_assoc], fun o ho => (List.mem_append.mp ho).elim (hm' o) (hm o)⟩

theorem Reports.mono {L : Nat → Prop} (h : Reports K s t) (hKL : ∀ k, K k → L k) : Reports L s t :=
  ⟨h.frame, fun k hk => h.regs k fun hK => hk (hKL k hK), h.out, h.pba⟩

theorem reports_wr (s : State) (f : Fld) (v i j k : Nat) (hk : K (f.key i j k)) : Reports K s (s.wr f v i j k) :=
  ⟨rfl, fun _ hn => nget_nset_other _ _ fun e => hn (e ▸ hk), ⟨[], rfl, nofun⟩, fun _ h => h⟩

theorem Reports.wr (h : Reports K s t) (f : Fld) (v i j k : Nat) (hk : K (f.key i j k)) : Reports K s (t.wr f v i j k) :=
  h.trans (reports_wr t f v i j k hk)

theorem reports_ite {p : Prop} [Decidable p] {a b : State} (ha : Reports K s a) (hb : Reports K s b) :
    Reports K s (if p then a else b) := by split <;> assumption

theorem reports_signalVec (K : Nat → Prop) (s : State) (die v : Nat) : Reports K s (s.signalVec die v) := by
  unfold State.signalVec
  split
  · refine ⟨rfl, fun _ _ => rfl, ⟨[], rfl, nofun⟩, fun k hk => ?_⟩
    dsimp only
    rw [nget_nset]
    split
    · exact one_ne_zero
    · exact hk
  · exact ⟨rfl, fun _ _ => rfl, ⟨[.msix die v], rfl, by simp⟩, fun _ hk => hk⟩

theorem Reports.rd (h : Reports K s t) {f : Fld} {i j k : Nat} (hk : ¬ K (f.key i j k)) : t.rd f i j k = s.rd f i j k := by
  rw [State.rd, State.rd, h.regs _ hk]

theorem Reports.mem (h : Reports K s t) : t.mem = s.mem := by rw [h.frame]

theorem Reports.hpt (h : Reports K s t) : t.hpt = { s.hpt with pba := t.hpt.pba } := by
  have h1 := congrArg State.hpt h.frame
  exact h1

theorem Reports.onlyHpt (h : Reports K s t) (hK : ∀ k, K k → hptKey k) : OnlyHpt s t := by
  refine ⟨?_, fun k hk => h.regs k fun hkK => ?_⟩
  · have h1 := h.frame
    rw [h1]
  · have := hK k hkK
    unfold hptKey at this
    omega

/-- What was put out stays put out. -/
theorem Reports.mem_out (h : Reports K s t) {o : Out} (ho : o ∈ s.out) : o ∈ t.out := by
  obtain ⟨l, hl, -⟩ := h.out
  rw [hl]
  exact List.mem_append_right l ho

/-- A report writes nothing to host memory. -/
theorem Reports.host_out (h : Reports K s t) {die addr : Nat} {ro : Bool} {bs : List Byte} (ho : Out.host die addr ro bs ∈ t.out) :
    Out.host die addr ro bs ∈ s.out := by
  obtain ⟨l, hl, hm⟩ := h.out
  rw [hl] at ho
  rcases List.mem_append.mp ho with ho | ho
  · obtain ⟨d, v, e⟩ := hm _ ho
    cases e
  · exact ho

/-- A vector that has been signalled stays so. -/
theorem Reports.signalled {a : State} {die vec : Nat} (h : Reports K s t) (hs : Signalled a s die vec) : Signalled a t die vec := by
  unfold Signalled at *
  split
  case isTrue hm => rw [if_pos hm] at hs; exact h.pba _ hs
  case isFalse hm => rw [if_neg hm] at hs; exact h.mem_out hs

end

/-- The memory decides whether a signal is a message or a pending bit. -/
theorem signalled_of_mem {a b t : State} (h : a.mem = b.mem) {die vec : Nat} (hs : Signalled a t die vec) : Signalled b t die vec := by
  unfold Signalled at *
  rwa [← vecMasked_of_mem h]

/-! #### Errors (R81) -/

/-- A register of a die's error: HPT_ERR_STATUS, HPT_ERR_INFO and HPT_ERR_ADDR. -/
def errKey (k : Nat) : Prop := 0x60 ≤ k % 0x80000000 ∧ k % 0x80000000 < 0xE0

theorem hptKey_of_errKey {k : Nat} (h : errKey k) : hptKey k := by
  unfold errKey hptKey at *
  omega

/-- A field away from the error registers. -/
theorem not_errKey {f : Fld} (h : f.avoids 0x60 0xE0 = true) (i j k : Nat) : ¬ errKey (f.key i j k) := Fld.key_avoids h i j k

/-- The error bits stand in order in the first byte of HPT_ERR_STATUS. -/
theorem errFld_key_mod (b die : Nat) : (errFld b).key die 0 0 % 0x80000000 = 0x60 + min b 7 := by
  have hlast : 7 ≤ b → errFld b = errFld 7 := fun h => by
    obtain ⟨n, rfl⟩ := Nat.exists_eq_add_of_le' h
    rfl
  rcases Nat.lt_or_ge b 7 with h | h
  case inr =>
    rw [hlast h, Nat.min_eq_right h]
    simp only [errFld, Fld.key, HPT_ERR_STATUS.TQ_LOST]
    omega
  case inl =>
    interval_cases b <;> simp only [errFld, Fld.key, HPT_ERR_STATUS.PARTIAL_WR, HPT_ERR_STATUS.DB_RANGE,
      HPT_ERR_STATUS.DB_STANDBY, HPT_ERR_STATUS.STANDBY_WR, HPT_ERR_STATUS.FETCH_ERR, HPT_ERR_STATUS.POISONED,
      HPT_ERR_STATUS.CQ_STALL] <;> omega

theorem errKey_errFld (b die : Nat) : errKey ((errFld b).key die 0 0) := by
  have := errFld_key_mod b die
  unfold errKey
  omega

theorem errFld_reset (b i : Nat) : (errFld b).reset i 0 0 = 0 := by
  unfold errFld
  split <;> rfl

section
variable (s : State) (die b ring addr : Nat)

theorem reports_hptError : Reports errKey s (s.hptError die b ring addr) := by
  refine Reports.trans (Reports.wr (reports_ite ?_ (reports_refl _ s)) _ _ _ _ _ (errKey_errFld b die)) (reports_signalVec _ _ _ _)
  refine ((((reports_wr s _ _ _ _ _ ?_).wr _ _ _ _ _ ?_).wr _ _ _ _ _ ?_).wr _ _ _ _ _ ?_) <;>
  simp only [errKey, Fld.key, HPT_ERR_INFO.RING, HPT_ERR_INFO.BIT, HPT_ERR_ADDR_LO.ADDR, HPT_ERR_ADDR_HI.ADDR] <;> omega

theorem rd_hptError_other {f : Fld} (h : f.avoids 0x60 0xE0 = true) (i j k : Nat) :
    (s.hptError die b ring addr).rd f i j k = s.rd f i j k := (reports_hptError s die b ring addr).rd (not_errKey h i j k)

theorem active_hptError : (s.hptError die b ring addr).active = s.active :=
  active_of_rd (rd_hptError_other s die b ring addr (by decide) _ _ _)

/-- An error bit that is set stays set when a further error comes. -/
theorem hptError_on_kept {b' die' : Nat} (h : s.on (errFld b') die' = true) : (s.hptError die b ring addr).on (errFld b') die' = true := by
  have hkey := errFld_key_mod b' die'
  rw [State.on, hptError_rd]
  by_cases hk : (errFld b').key die' 0 0 = (errFld b).key die 0 0
  · simp [State.rd, State.wr, hk, errFld_reset, errFld_w]
  · rw [rd_wr_other _ _ hk]
    split
    · iterate 4 rw [rd_wr_other _ _ fun e => by
        simp only [Fld.key, HPT_ERR_INFO.RING, HPT_ERR_INFO.BIT, HPT_ERR_ADDR_LO.ADDR, HPT_ERR_ADDR_HI.ADDR] at e hkey; omega]
      exact h
    · exact h

theorem on_hptError_other {f : Fld} (h : f.avoids 0x60 0xE0 = true) (i j k : Nat) :
    (s.hptError die b ring addr).on f i j k = s.on f i j k := on_of_rd (rd_hptError_other s die b ring addr h i j k)

end

/-! #### The registers of the rings' reports (R70, R81, R82) -/

/-- An error register, or one of the reports of a submission ring and a completion ring. -/
def refreshKey (ring cq k : Nat) : Prop := errKey k ∨ k = HPT_INFLIGHT.COUNT.key 0 0 0 ∨ k = HPT_SQ_STATUS.INFLIGHT.key ring 0 0 ∨
  k = HPT_CQ_STATUS.HELD.key cq 0 0 ∨ k = HPT_CQ_STATUS.STALL.key cq 0 0

/-- A field that no report writes. -/
def unreported (f : Fld) : Bool := f.avoids 0x60 0xE0 && f.apart HPT_INFLIGHT.COUNT && f.apart HPT_SQ_STATUS.INFLIGHT &&
  f.apart HPT_CQ_STATUS.HELD && f.apart HPT_CQ_STATUS.STALL

theorem not_refreshKey {f : Fld} (h : unreported f = true) (ring cq i j k : Nat) : ¬ refreshKey ring cq (f.key i j k) := by
  simp only [unreported, Bool.and_eq_true] at h
  obtain ⟨⟨⟨⟨he, hi⟩, hs⟩, hh⟩, ht⟩ := h
  rintro (e | e | e | e | e)
  · exact not_errKey he i j k e
  · exact Fld.key_ne hi i j k _ _ _ e
  · exact Fld.key_ne hs i j k _ _ _ e
  · exact Fld.key_ne hh i j k _ _ _ e
  · exact Fld.key_ne ht i j k _ _ _ e

theorem hptKey_of_refreshKey {ring cq k : Nat} (h : refreshKey ring cq k) : hptKey k := by
  rcases h with h | rfl | rfl | rfl | rfl
  · exact hptKey_of_errKey h
  all_goals simp only [hptKey, Fld.key, HPT_INFLIGHT.COUNT, HPT_SQ_STATUS.INFLIGHT, HPT_CQ_STATUS.HELD, HPT_CQ_STATUS.STALL]; omega

theorem reports_hptRefresh (s : State) (ring cq : Nat) : Reports (refreshKey ring cq) s (s.hptRefresh ring cq) := by
  refine Reports.trans (((reports_wr s _ _ _ _ _ (.inr (.inl rfl))).wr _ _ _ _ _ (.inr (.inr (.inl rfl)))))
    ((Reports.wr (reports_ite ((reports_hptError _ _ _ _ _).mono fun _ => .inl) (reports_refl _ _)) _ _ _ _ _
      (.inr (.inr (.inr (.inl rfl))))).wr _ _ _ _ _ (.inr (.inr (.inr (.inr rfl)))))

theorem rd_hptRefresh (s : State) {f : Fld} (h : unreported f = true) (ring cq i j k : Nat) :
    (s.hptRefresh ring cq).rd f i j k = s.rd f i j k := (reports_hptRefresh s ring cq).rd (not_refreshKey h ring cq i j k)

/-! #### Completing a descriptor (R65) -/

/-- Completing a descriptor takes it out of execution, may owe a completion, and reports. -/
theorem finish_reports (s : State) (d : Desc) (st : Nat) (res : Option Nat) (exe fl : Nat) : ∃ free owed,
    Reports hptKey { s with free := free, hpt := { s.hpt with accepted := s.hpt.accepted.filter (fun x => x.id != d.id), owed := owed } }
      (s.finish d st res exe fl) := by
  have hrefresh (t : State) : Reports hptKey t (t.hptRefresh d.ring d.cq) :=
    (reports_hptRefresh t _ _).mono fun _ => hptKey_of_refreshKey
  have hbump (t : State) : Reports hptKey t (t.bump HPT_LOST_COMP.COUNT 1 s.active) :=
    reports_wr t _ _ _ _ _ (by simp only [hptKey, Fld.key, HPT_LOST_COMP.COUNT]; omega)
  obtain ⟨free, h0⟩ : ∃ free, (if res.isNone then (s.draw 32).2 else s) = { s with free := free } := by
    split
    · exact ⟨_, rfl⟩
    · exact ⟨s.free, rfl⟩
  unfold State.finish
  rw [h0]
  dsimp only
  split
  · exact ⟨free, s.hpt.owed, hrefresh _⟩
  · split
    · exact ⟨free, s.hpt.owed, (hbump _).trans (hrefresh _)⟩
    · exact ⟨free, s.hpt.owed ++ [_], hrefresh _⟩

section
variable (s : State) (d : Desc) (st : Nat) (res : Option Nat)

/-- Of what the Host Port keeps, completing a descriptor changes the descriptors in execution, the completions owed and pending bits. -/
theorem done_hpt : ∃ owed, (s.done d st res).hpt = { s.hpt with
    accepted := s.hpt.accepted.filter (fun x => x.id != d.id), owed := owed, pba := (s.done d st res).hpt.pba } := by
  obtain ⟨free, owed, h⟩ := finish_reports s d st res s.ticks 0
  exact ⟨owed, h.hpt⟩

theorem done_bindings : (s.done d st res).hpt.bindings = s.hpt.bindings := by
  obtain ⟨owed, h⟩ := done_hpt s d st res
  rw [h]

theorem done_telq : (s.done d st res).hpt.telq = s.hpt.telq := by
  obtain ⟨owed, h⟩ := done_hpt s d st res
  rw [h]

theorem done_fetched : (s.done d st res).hpt.fetched = s.hpt.fetched := by
  obtain ⟨owed, h⟩ := done_hpt s d st res
  rw [h]

theorem done_fetching : (s.done d st res).hpt.fetching = s.hpt.fetching := by
  obtain ⟨owed, h⟩ := done_hpt s d st res
  rw [h]

/-- What was put out before a descriptor completes stays put out, and its completion writes nothing to host memory yet. -/
theorem done_mem_out {o : Out} (h : o ∈ s.out) : o ∈ (s.done d st res).out := by
  obtain ⟨free, owed, hr⟩ := finish_reports s d st res s.ticks 0
  exact hr.mem_out h

theorem done_host_out {die addr : Nat} {ro : Bool} {bs : List Byte} (h : Out.host die addr ro bs ∈ (s.done d st res).out) :
    Out.host die addr ro bs ∈ s.out := by
  obtain ⟨free, owed, hr⟩ := finish_reports s d st res s.ticks 0
  exact hr.host_out h

/-- Outside the Host Port completing a descriptor leaves every register. -/
theorem rd_done_other {f : Fld} (h : f.avoids 0 0x800000 = true) (i j k : Nat) : (s.done d st res).rd f i j k = s.rd f i j k := by
  have hk := Fld.key_avoids h i j k
  rw [State.rd, State.rd, (onlyHpt_done s d st res).2 _ (by omega)]

theorem done_pln : (s.done d st res).pln = s.pln := by rw [(onlyHpt_done s d st res).1]

theorem done_saf : (s.done d st res).saf = s.saf := by rw [(onlyHpt_done s d st res).1]

theorem done_sec : (s.done d st res).sec = s.sec := by rw [(onlyHpt_done s d st res).1]

end

/-- A descriptor that has completed is answered. -/
theorem Completed.answered {d : Desc} {st : Nat} {res : Option Nat} {s t : State} {fl : Nat} (h : Completed d st res s t fl) :
    Answered d st res t fl := by
  obtain ⟨hacc, howed⟩ := h
  refine ⟨fun x hx => ?_, ?_⟩
  · rw [hacc] at hx
    simpa using (List.mem_filter.mp hx).2
  · split at howed
    case isTrue hq => exact hq.imp_right .inl
    case isFalse =>
      obtain ⟨c, hc, hcq, hsq, htag, hst, hfl, hac, -, -, hres⟩ := howed
      exact .inr (.inr ⟨_, c, hc, hcq, hsq, htag, hst, hfl, hac, hres⟩)

/-- A command of a descriptor in execution, of the command's opcode, is handled by its own rule. -/
theorem withOp_of_runs {s : State} {id op : Nat} {d : Desc} (h : Runs s id op d) (f : Desc → State) : s.withOp id op f = f d := by
  obtain ⟨hd, hop⟩ := h
  simp [State.withOp, State.withDesc, hd, hop]

/-- A descriptor in execution is found by its own number. -/
theorem Runs.id_eq {s : State} {id op : Nat} {d : Desc} (h : Runs s id op d) : d.id = id := by
  simpa using List.find?_some h.1

theorem Runs.mem {s : State} {id op : Nat} {d : Desc} (h : Runs s id op d) : d ∈ s.hpt.accepted := List.mem_of_find?_eq_some h.1

end Sys2Proof.Machine
end

section
/-! Doorbells (R41, R50 to R52). -/
namespace Sys2Proof.Machine

section
variable {s : State} {die page off : Nat}

theorem viaBar2_d3hot (h : s.d3hot die = true) (f : State → State) : s.viaBar2 die page off f = s := if_pos h

theorem viaBar2_active (hact : s.isActive die = true) (hd : s.d3hot die = false) (f : State → State) :
    s.viaBar2 die page off f = f s := by simp [State.viaBar2, hact, hd]

/-- A doorbell of a die that is not active is an error of its page (R41). -/
theorem viaBar2_standby (hact : s.isActive die = false) (hr : s.on HPT_STATUS.READY = true) (hd : s.d3hot die = false)
    (f : State → State) : s.viaBar2 die page off f = s.hptError die 2 page (0x1000 * page + off) := by
  simp [State.viaBar2, hact, hr, hd]

end

/-- A doorbell that is discarded sets its ring's flag and is an error; the pointers, and every other field apart from both, stay
(R52, R81). -/
theorem dbRange_discards (s : State) (die ring addr : Nat) {f : Fld} (hw : f.w = 1) (hf : f.avoids 0x60 0xE0 = true)
    (hv : HPT_ERR_VEC.VECTOR.apart f = true) (hk : f.avoids 0x800000 0x80000000 = true) :
    (s.dbRange die ring f addr).on f ring = true ∧ (s.dbRange die ring f addr).on HPT_ERR_STATUS.DB_RANGE die = true ∧
      (s.dbRange die ring f addr).hpt = { s.hpt with pba := (s.dbRange die ring f addr).hpt.pba } ∧
      Signalled s (s.dbRange die ring f addr) die (s.rd HPT_ERR_VEC.VECTOR) ∧ OnlyHpt s (s.dbRange die ring f addr) ∧
      ∀ g : Fld, g.apart f = true → g.avoids 0x60 0xE0 = true → (s.dbRange die ring f addr).rd g ring = s.rd g ring := by
  have hkey : hptKey (f.key ring 0 0) := by
    have := Fld.key_avoids hk ring 0 0
    have := Nat.mod_lt (f.key ring 0 0) (by decide : 0x80000000 > 0)
    unfold hptKey
    omega
  refine ⟨?_, hptError_on _ die 1 _ _, ?_, ?_, (onlyHpt_wr s f 1 ring 0 0 hkey).trans (onlyHpt_hptError _ _ _ _ _), fun g hg he => ?_⟩
  · rw [State.dbRange, on_hptError_other _ _ _ _ _ hf, State.on, rd_wr_same, hw]
    rfl
  · exact hptError_hpt (s.wr f 1 ring) die 1 ring addr
  · have h := signalled_hptError (s.wr f 1 ring) die 1 ring addr
    rw [rd_wr_apart s hv] at h
    exact signalled_of_mem (wr_mem _ _ _ _ _ _) h
  · rw [State.dbRange, rd_hptError_other _ _ _ _ _ he, rd_wr_apart s hg]

section
variable {s : State} {die : Fin 2} {page : Fin 64} {value : Word}

/-- The test of a doorbell's value: the ring is enabled, the value lies within it and its pointers do not pass each other (R52). -/
theorem ite_discarded {α : Type} (on : Bool) (n v a b : Nat) (x y : α) :
    (if !on || decide (n ≤ v) || decide (a < b) then x else y) = if on = false ∨ n ≤ v ∨ a < b then x else y :=
  if_congr (by simp [or_assoc]) rfl rfl

theorem not_discarded {on : Bool} {n v a b : Nat} (hon : on = true) (hv : v < n) (hs : b ≤ a) : ¬ (on = false ∨ n ≤ v ∨ a < b) := by
  simp [hon, hv, hs]

/-- A doorbell of a submission ring, on the active die (R52). -/
theorem exec_doorbellSqTail (hact : s.isActive die = true) (hd : s.d3hot die = false) :
    exec (.doorbellSqTail die page value) s = .next
      (if s.on HPT_SQ_CFG.ENABLE page = false ∨ 2 ^ s.rd HPT_SQ_CFG.SIZE_LOG2 page ≤ value.toNat % 2 ^ 16 ∨
          span (2 ^ s.rd HPT_SQ_CFG.SIZE_LOG2 page) (s.rd HPT_SQ_HEAD.HEAD page) (value.toNat % 2 ^ 16) <
            span (2 ^ s.rd HPT_SQ_CFG.SIZE_LOG2 page) (s.rd HPT_SQ_HEAD.HEAD page) (s.rd HPT_SQ_TAIL.TAIL page) then
        s.dbRange die page HPT_SQ_STATUS.DB_RANGE (0x1000 * page)
      else s.wr HPT_SQ_TAIL.TAIL (value.toNat % 2 ^ 16) page) := by
  refine Eq.trans (congrArg Host.Outcome.next (viaBar2_active hact hd _)) (congrArg _ ?_)
  exact ite_discarded ..

/-- A doorbell of a completion ring, on the active die (R52, R70). -/
theorem exec_doorbellCqHead (hact : s.isActive die = true) (hd : s.d3hot die = false) :
    exec (.doorbellCqHead die page value) s = .next
      (if s.on HPT_CQ_CFG.ENABLE page = false ∨ 2 ^ s.rd HPT_CQ_CFG.SIZE_LOG2 page ≤ value.toNat % 2 ^ 16 ∨
          span (2 ^ s.rd HPT_CQ_CFG.SIZE_LOG2 page) (s.rd HPT_CQ_HEAD.HEAD page) (s.rd HPT_CQ_TAIL.TAIL page) <
            span (2 ^ s.rd HPT_CQ_CFG.SIZE_LOG2 page) (s.rd HPT_CQ_HEAD.HEAD page) (value.toNat % 2 ^ 16) then
        s.dbRange die page HPT_CQ_STATUS.DB_RANGE (0x1000 * page + 4)
      else ((s.wr HPT_CQ_HEAD.HEAD (value.toNat % 2 ^ 16) page).wr HPT_CQ_STATUS.HELD
          ((s.wr HPT_CQ_HEAD.HEAD (value.toNat % 2 ^ 16) page).cqHeld page) page).wr HPT_CQ_STATUS.STALL
          (b2n ((s.wr HPT_CQ_HEAD.HEAD (value.toNat % 2 ^ 16) page).cqHeld page != 0)) page) := by
  refine Eq.trans (congrArg Host.Outcome.next (viaBar2_active hact hd _)) (congrArg _ ?_)
  exact ite_discarded ..

/-- A doorbell of a telemetry ring, on the active die (R52). -/
theorem exec_doorbellTqHead (hact : s.isActive die = true) (hd : s.d3hot die = false) :
    exec (.doorbellTqHead die page value) s = .next (if 16 ≤ page.val then s else
      if s.on HPT_TQ_CFG.ENABLE page = false ∨ 2 ^ s.rd HPT_TQ_CFG.SIZE_LOG2 page ≤ value.toNat % 2 ^ 16 ∨
          span (2 ^ s.rd HPT_TQ_CFG.SIZE_LOG2 page) (s.rd HPT_TQ_HEAD.HEAD page) (s.rd HPT_TQ_TAIL.TAIL page) <
            span (2 ^ s.rd HPT_TQ_CFG.SIZE_LOG2 page) (s.rd HPT_TQ_HEAD.HEAD page) (value.toNat % 2 ^ 16) then
        s.dbRange die page HPT_TQ_STATUS.DB_RANGE (0x1000 * page + 8)
      else s.wr HPT_TQ_HEAD.HEAD (value.toNat % 2 ^ 16) page) := by
  refine Eq.trans (congrArg Host.Outcome.next (viaBar2_active hact hd _)) (congrArg _ (if_congr Iff.rfl rfl ?_))
  exact ite_discarded ..

/-- Of a completion ring's queue at most 64 completions are reported as held (R70). -/
theorem cqHeld_le (s : State) (cq : Nat) : s.cqHeld cq ≤ 64 := by
  unfold State.cqHeld
  split
  · exact min_le_left _ _
  · exact Nat.zero_le _

theorem doorbellSqTail_accepted (hact : s.isActive die = true) (hd : s.d3hot die = false) (hon : s.on HPT_SQ_CFG.ENABLE page = true)
    (hv : value.toNat % 2 ^ 16 < 2 ^ s.rd HPT_SQ_CFG.SIZE_LOG2 page)
    (hs : span (2 ^ s.rd HPT_SQ_CFG.SIZE_LOG2 page) (s.rd HPT_SQ_HEAD.HEAD page) (s.rd HPT_SQ_TAIL.TAIL page) ≤
      span (2 ^ s.rd HPT_SQ_CFG.SIZE_LOG2 page) (s.rd HPT_SQ_HEAD.HEAD page) (value.toNat % 2 ^ 16)) :
    ∃ t, exec (.doorbellSqTail die page value) s = .next t ∧ t.rd HPT_SQ_TAIL.TAIL page = value.toNat % 2 ^ 16 ∧
      OnlyRegs [HPT_SQ_TAIL.TAIL.key page 0 0] s t := by
  have hexec := exec_doorbellSqTail (page := page) (value := value) hact hd
  rw [if_neg (not_discarded hon hv hs)] at hexec
  exact ⟨_, hexec, (rd_wr_same _ _ _ _ _ _).trans (Nat.mod_mod _ _), onlyRegs_wr s _ _ _ _ _ (by simp)⟩

theorem doorbellCqHead_accepted (hact : s.isActive die = true) (hd : s.d3hot die = false) (hon : s.on HPT_CQ_CFG.ENABLE page = true)
    (hv : value.toNat % 2 ^ 16 < 2 ^ s.rd HPT_CQ_CFG.SIZE_LOG2 page)
    (hs : span (2 ^ s.rd HPT_CQ_CFG.SIZE_LOG2 page) (s.rd HPT_CQ_HEAD.HEAD page) (value.toNat % 2 ^ 16) ≤
      span (2 ^ s.rd HPT_CQ_CFG.SIZE_LOG2 page) (s.rd HPT_CQ_HEAD.HEAD page) (s.rd HPT_CQ_TAIL.TAIL page)) :
    ∃ t, exec (.doorbellCqHead die page value) s = .next t ∧ t.rd HPT_CQ_HEAD.HEAD page = value.toNat % 2 ^ 16 ∧
      (t.on HPT_CQ_STATUS.STALL page = true ↔ t.rd HPT_CQ_STATUS.HELD page ≠ 0) ∧
      OnlyRegs [HPT_CQ_HEAD.HEAD.key page 0 0, HPT_CQ_STATUS.HELD.key page 0 0, HPT_CQ_STATUS.STALL.key page 0 0] s t := by
  have hexec := exec_doorbellCqHead (page := page) (value := value) hact hd
  rw [if_neg (not_discarded hon hv hs)] at hexec
  have hheld := cqHeld_le (s.wr HPT_CQ_HEAD.HEAD (value.toNat % 2 ^ 16) page) page
  generalize (s.wr HPT_CQ_HEAD.HEAD (value.toNat % 2 ^ 16) page).cqHeld page = n at hexec hheld
  have hn : n % 2 ^ HPT_CQ_STATUS.HELD.w = n := Nat.mod_eq_of_lt (hheld.trans_lt (by decide))
  refine ⟨_, hexec, ?_, ?_, ((onlyRegs_wr s _ _ _ _ _ (by simp)).wr _ _ _ _ _ (by simp)).wr _ _ _ _ _ (by simp)⟩
  · rw [rd_wr_apart _ (by decide), rd_wr_apart _ (by decide), rd_wr_same]
    exact Nat.mod_mod _ _
  · rw [State.on, rd_wr_same, rd_wr_apart _ (by decide), rd_wr_same, hn]
    by_cases h : n = 0 <;> simp [h, b2n, HPT_CQ_STATUS.STALL]

theorem doorbellTqHead_accepted (hact : s.isActive die = true) (hd : s.d3hot die = false) (hp : page.val < 16)
    (hon : s.on HPT_TQ_CFG.ENABLE page = true) (hv : value.toNat % 2 ^ 16 < 2 ^ s.rd HPT_TQ_CFG.SIZE_LOG2 page)
    (hs : span (2 ^ s.rd HPT_TQ_CFG.SIZE_LOG2 page) (s.rd HPT_TQ_HEAD.HEAD page) (value.toNat % 2 ^ 16) ≤
      span (2 ^ s.rd HPT_TQ_CFG.SIZE_LOG2 page) (s.rd HPT_TQ_HEAD.HEAD page) (s.rd HPT_TQ_TAIL.TAIL page)) :
    ∃ t, exec (.doorbellTqHead die page value) s = .next t ∧ t.rd HPT_TQ_HEAD.HEAD page = value.toNat % 2 ^ 16 ∧
      OnlyRegs [HPT_TQ_HEAD.HEAD.key page 0 0] s t := by
  have hexec := exec_doorbellTqHead (page := page) (value := value) hact hd
  rw [if_neg (by omega), if_neg (not_discarded hon hv hs)] at hexec
  exact ⟨_, hexec, (rd_wr_same _ _ _ _ _ _).trans (Nat.mod_mod _ _), onlyRegs_wr s _ _ _ _ _ (by simp)⟩

/-- A doorbell that is discarded: what each of the three rings' clauses says of it. -/
def Discards (s t : State) (die page : Nat) (flag tail head : Fld) : Prop :=
  t.on flag page = true ∧ t.on HPT_ERR_STATUS.DB_RANGE die = true ∧ t.rd tail page = s.rd tail page ∧
    t.rd head page = s.rd head page ∧ t.hpt = { s.hpt with pba := t.hpt.pba } ∧ Signalled s t die (s.rd HPT_ERR_VEC.VECTOR) ∧
    OnlyHpt s t

theorem discards_dbRange (s : State) (die page addr : Nat) {flag a b : Fld} (hw : flag.w = 1) (hf : flag.avoids 0x60 0xE0 = true)
    (hv : HPT_ERR_VEC.VECTOR.apart flag = true) (hk : flag.avoids 0x800000 0x80000000 = true)
    (ha : a.apart flag = true ∧ a.avoids 0x60 0xE0 = true) (hb : b.apart flag = true ∧ b.avoids 0x60 0xE0 = true) :
    Discards s (s.dbRange die page flag addr) die page flag a b := by
  obtain ⟨hon, herr, hhpt, hsig, honly, hrd⟩ := dbRange_discards s die page addr hw hf hv hk
  exact ⟨hon, herr, hrd a ha.1 ha.2, hrd b hb.1 hb.2, hhpt, hsig, honly⟩

theorem doorbellSqTail_discarded (hact : s.isActive die = true) (hd : s.d3hot die = false)
    (h : s.on HPT_SQ_CFG.ENABLE page = false ∨ 2 ^ s.rd HPT_SQ_CFG.SIZE_LOG2 page ≤ value.toNat % 2 ^ 16 ∨
      span (2 ^ s.rd HPT_SQ_CFG.SIZE_LOG2 page) (s.rd HPT_SQ_HEAD.HEAD page) (value.toNat % 2 ^ 16) <
        span (2 ^ s.rd HPT_SQ_CFG.SIZE_LOG2 page) (s.rd HPT_SQ_HEAD.HEAD page) (s.rd HPT_SQ_TAIL.TAIL page)) :
    ∃ t, exec (.doorbellSqTail die page value) s = .next t ∧
      Discards s t die page HPT_SQ_STATUS.DB_RANGE HPT_SQ_TAIL.TAIL HPT_SQ_HEAD.HEAD := by
  have hexec := exec_doorbellSqTail (page := page) (value := value) hact hd
  rw [if_pos h] at hexec
  exact ⟨_, hexec, discards_dbRange s die page _ rfl (by decide) (by decide) (by decide) (by decide) (by decide)⟩

theorem doorbellCqHead_discarded (hact : s.isActive die = true) (hd : s.d3hot die = false)
    (h : s.on HPT_CQ_CFG.ENABLE page = false ∨ 2 ^ s.rd HPT_CQ_CFG.SIZE_LOG2 page ≤ value.toNat % 2 ^ 16 ∨
      span (2 ^ s.rd HPT_CQ_CFG.SIZE_LOG2 page) (s.rd HPT_CQ_HEAD.HEAD page) (s.rd HPT_CQ_TAIL.TAIL page) <
        span (2 ^ s.rd HPT_CQ_CFG.SIZE_LOG2 page) (s.rd HPT_CQ_HEAD.HEAD page) (value.toNat % 2 ^ 16)) :
    ∃ t, exec (.doorbellCqHead die page value) s = .next t ∧
      Discards s t die page HPT_CQ_STATUS.DB_RANGE HPT_CQ_HEAD.HEAD HPT_CQ_TAIL.TAIL := by
  have hexec := exec_doorbellCqHead (page := page) (value := value) hact hd
  rw [if_pos h] at hexec
  exact ⟨_, hexec, discards_dbRange s die page _ rfl (by decide) (by decide) (by decide) (by decide) (by decide)⟩

theorem doorbellTqHead_discarded (hact : s.isActive die = true) (hd : s.d3hot die = false) (hp : page.val < 16)
    (h : s.on HPT_TQ_CFG.ENABLE page = false ∨ 2 ^ s.rd HPT_TQ_CFG.SIZE_LOG2 page ≤ value.toNat % 2 ^ 16 ∨
      span (2 ^ s.rd HPT_TQ_CFG.SIZE_LOG2 page) (s.rd HPT_TQ_HEAD.HEAD page) (s.rd HPT_TQ_TAIL.TAIL page) <
        span (2 ^ s.rd HPT_TQ_CFG.SIZE_LOG2 page) (s.rd HPT_TQ_HEAD.HEAD page) (value.toNat % 2 ^ 16)) :
    ∃ t, exec (.doorbellTqHead die page value) s = .next t ∧
      Discards s t die page HPT_TQ_STATUS.DB_RANGE HPT_TQ_HEAD.HEAD HPT_TQ_TAIL.TAIL := by
  have hexec := exec_doorbellTqHead (page := page) (value := value) hact hd
  rw [if_neg (by omega), if_pos h] at hexec
  exact ⟨_, hexec, discards_dbRange s die page _ rfl (by decide) (by decide) (by decide) (by decide) (by decide)⟩

/-- In D3hot no doorbell acts (assumption 74). -/
theorem doorbells_d3hot (hd : s.d3hot die = true) :
    exec (.doorbellSqTail die page value) s = .next s ∧ exec (.doorbellCqHead die page value) s = .next s ∧
      exec (.doorbellTqHead die page value) s = .next s :=
  ⟨congrArg _ (viaBar2_d3hot hd _), congrArg _ (viaBar2_d3hot hd _), congrArg _ (viaBar2_d3hot hd _)⟩

/-- A doorbell of a die that is not active only sets DB_STANDBY (R41). -/
theorem doorbell_standby (hact : s.isActive die = false) (hr : s.on HPT_STATUS.READY = true) (hd : s.d3hot die = false) {c : Instr}
    (hc : c ∈ [Instr.doorbellSqTail die page value, .doorbellCqHead die page value, .doorbellTqHead die page value]) :
    ∃ t, exec c s = .next t ∧ t.on HPT_ERR_STATUS.DB_STANDBY die = true ∧ t.hpt = { s.hpt with pba := t.hpt.pba } ∧
      Signalled s t die (s.rd HPT_ERR_VEC.VECTOR) ∧ OnlyHpt s t ∧
      ∀ k, 0x8000 ≤ k % 0x80000000 → nget t.regs k = nget s.regs k := by
  obtain ⟨addr, hexec⟩ : ∃ addr, exec c s = .next (s.hptError die 2 page addr) := by
    simp only [List.mem_cons, List.not_mem_nil, or_false] at hc
    rcases hc with rfl | rfl | rfl <;> exact ⟨_, congrArg _ (viaBar2_standby hact hr hd _)⟩
  refine ⟨_, hexec, hptError_on s die 2 _ _, hptError_hpt _ _ _ _ _, signalled_hptError _ _ _ _ _, onlyHpt_hptError _ _ _ _ _,
    fun k hk => (reports_hptError s die 2 page addr).regs k ?_⟩
  unfold errKey
  omega

end

end Sys2Proof.Machine

open Sys2Proof Sys2Proof.Machine

/-- Settles O6, clause by clause: a doorbell through the active die is one test on its ring's pointers. -/
theorem doorbellsMoveTheirPointer : Obligations.DoorbellsMoveTheirPointer :=
  ⟨⟨fun _ _ _ _ hact hd hon hv hs => doorbellSqTail_accepted hact hd hon hv hs,
    fun _ _ _ _ hact hd hon hv hs => doorbellCqHead_accepted hact hd hon hv hs,
    fun _ _ _ _ hact hd hp hon hv hs => doorbellTqHead_accepted hact hd hp hon hv hs,
    fun _ _ _ _ hact hd hp => (exec_doorbellTqHead hact hd).trans (congrArg _ (if_pos hp)),
    fun _ _ _ _ hd => doorbells_d3hot hd⟩,
   fun _ _ _ _ hact hd h => doorbellSqTail_discarded hact hd h,
   fun _ _ _ _ hact hd h => doorbellCqHead_discarded hact hd h,
   fun _ _ _ _ hact hd hp h => doorbellTqHead_discarded hact hd hp h,
   fun _ _ _ _ hact hr hd _ hc => doorbell_standby hact hr hd hc⟩

end

section
/-! Fetching and accepting descriptors (R53 to R59), NOP and FENCE (R60, R61). -/
namespace Sys2Proof.Machine

/-- The ring that R53 chooses asks for descriptors, while a read may be outstanding. -/
theorem descriptorFetch_asks {s : State} {ring : Fin 64} {n : Nat} (hc : s.fetchChoice = some ring.val) (hs : s.readSlot = true)
    (hn : n = min (min (min 8 (s.maxRead s.active / 64)) (2 ^ s.rd HPT_SQ_CFG.SIZE_LOG2 ring - s.rd HPT_SQ_HEAD.HEAD ring))
      (min (span (2 ^ s.rd HPT_SQ_CFG.SIZE_LOG2 ring) (s.rd HPT_SQ_HEAD.HEAD ring) (s.rd HPT_SQ_TAIL.TAIL ring))
        (s.fetchRoom ring))) :
    ∃ t, exec (.descriptorFetch ring) s = .next t ∧ t.hpt.fetching = s.hpt.fetching ++ [(ring.val, n)] ∧
      t.rd HPT_SQ_HEAD.HEAD ring =
        (s.rd HPT_SQ_HEAD.HEAD ring + n) % 2 ^ s.rd HPT_SQ_CFG.SIZE_LOG2 ring % 2 ^ 16 ∧
      t.out = .read s.active (s.rd HPT_SQ_BASE_HI.BASE ring * 2 ^ 32 + s.rd HPT_SQ_BASE_LO.BASE ring * 2 ^ 12 +
        64 * s.rd HPT_SQ_HEAD.HEAD ring) (64 * n) :: s.out ∧
      t.hpt.accepted = s.hpt.accepted ∧ t.hpt.owed = s.hpt.owed ∧ OnlyHpt s t := by
  subst hn
  have hhead := onlyHpt_wr s HPT_SQ_HEAD.HEAD
  refine ⟨_, congrArg Host.Outcome.next (if_neg (by simp [hc, hs])), rfl, ?_, ?_, rfl, rfl, rfl, fun k hk => ?_⟩
  · exact (rd_congr rfl _ _ _ _).trans (rd_wr_same s HPT_SQ_HEAD.HEAD _ ring 0 0)
  · exact congrArg (fun a => Out.read a _ _ :: s.out) (active_wr s (by decide) _ _ _ _)
  · exact (onlyHpt_wr s HPT_SQ_HEAD.HEAD _ ring 0 0 (by simp only [hptKey, Fld.key, HPT_SQ_HEAD.HEAD]; omega)).2 k hk

/-- With no read slot free, or for another ring, nothing is fetched (R53, R81). -/
theorem descriptorFetch_idle {s : State} {ring : Fin 64} (h : s.fetchChoice ≠ some ring.val ∨ s.readSlot = false) :
    exec (.descriptorFetch ring) s = .next s := congrArg Host.Outcome.next (if_pos (by simpa using h))

/-! #### Acceptance (R55, R58, R61) -/

theorem takeFirst_eq_none {α : Type} {p : α → Bool} {l : List α} (h : ∀ a ∈ l, p a = false) : takeFirst p l = none := by
  induction l with
  | nil => rfl
  | cons a l ih => simp [takeFirst, h a List.mem_cons_self, ih fun b hb => h b (List.mem_cons_of_mem _ hb)]

/-- The first element that satisfies `p` is the one behind a list of which none does. -/
theorem takeFirst_append {α : Type} {p : α → Bool} {l : List α} {x : α} (h : ∀ a ∈ l, p a = false) (hx : p x = true) :
    takeFirst p (l ++ [x]) = some (x, l) := by
  induction l with
  | nil => simp [takeFirst, hx]
  | cons a l ih => simp [takeFirst, h a List.mem_cons_self, ih fun b hb => h b (List.mem_cons_of_mem _ hb)]

/-- The state with other queues in the Host Port. -/
def State.withHpt (s : State) (h : Hpt) : State := { s with hpt := h }

/-- Light is traced past the Host Port. -/
theorem trace_withHpt (s : State) (h : Hpt) (ov : List (Nat × Nat)) (n link : Nat) :
    (s.withHpt h).trace ov n link = s.trace ov n link := by
  induction n generalizing link with
  | zero => rfl
  | succ n ih =>
    have hthrough (e i v : Nat) : (s.withHpt h).through e i v = s.through e i v := rfl
    have hoptical (e : Nat) : (s.withHpt h).optical ov e = s.optical ov e := rfl
    simp only [State.trace, hthrough, hoptical, ih]

theorem livePathThrough_withHpt (s : State) (h : Hpt) (e : Nat) : (s.withHpt h).livePathThrough e = s.livePathThrough e := by
  have hport (p : Nat) : (s.withHpt h).port p = s.port p := rfl
  have hcrosses (p : Path) : (s.withHpt h).crosses p e = s.crosses p e := rfl
  have hfrom : (s.withHpt h).pathFrom [] = s.pathFrom [] := funext fun p => by
    have hlink : (s.withHpt h).link (s.port p).gate 0 = s.link (s.port p).gate 0 := rfl
    have hoptical : (s.withHpt h).optical [] (s.port p).gate = s.optical [] (s.port p).gate := rfl
    simp only [State.pathFrom, hport, hlink, hoptical, trace_withHpt]
  have hpaths : (s.withHpt h).paths [] = s.paths [] := by
    have hports : (s.withHpt h).presentPorts = s.presentPorts := rfl
    rw [State.paths, State.paths, hfrom, hports]
  simp only [State.livePathThrough, hpaths, hcrosses, hport]

/-- The status of acceptance does not depend on what the Host Port's queues hold. -/
theorem acceptStatus_withHpt (s : State) (h : Hpt) (ring : Nat) (bs : List Byte) :
    (s.withHpt h).acceptStatus ring bs = s.acceptStatus ring bs := by
  have hrd (f : Fld) (i j k : Nat) : (s.withHpt h).rd f i j k = s.rd f i j k := rfl
  have hact : (s.withHpt h).active = s.active := rfl
  have hdom : (s.withHpt h).ringDom ring = s.ringDom ring := rfl
  simp only [State.acceptStatus, livePathThrough_withHpt, hrd, hact, hdom]

/-- The descriptor that 64 fetched bytes of a ring make (R56, R58). -/
def State.descOf (s : State) (ring : Nat) (bs : List Byte) : Desc :=
  ⟨s.hpt.nextId, ring, field bs 0 1, field bs 1 1, field bs 2 2, s.ticks, bs, s.rd HPT_SQ_CFG.CQ ring, false,
    s.rd HPT_RING_DOMAIN.DOMAIN ring⟩

/-- The state in which a descriptor of a ring has just been put into execution. -/
def State.taken (s : State) (ring : Nat) (bs : List Byte) : State :=
  { s with hpt := { s.hpt with nextId := s.hpt.nextId + 1, accepted := s.hpt.accepted ++ [s.descOf ring bs] } }

theorem accept_eq (s : State) (ring : Nat) (bs : List Byte) : s.accept ring bs =
    if s.acceptStatus ring bs = stOK then (s.taken ring bs).hptRefresh ring (s.rd HPT_SQ_CFG.CQ ring)
    else (s.taken ring bs).done (s.descOf ring bs) (s.acceptStatus ring bs) := rfl

/-- Acceptance leaves the descriptors fetched and asked for. -/
theorem accept_queues (s : State) (ring : Nat) (bs : List Byte) :
    (s.accept ring bs).hpt.fetched = s.hpt.fetched ∧ (s.accept ring bs).hpt.fetching = s.hpt.fetching := by
  rw [accept_eq]
  split
  · rw [(reports_hptRefresh _ _ _).hpt]
    exact ⟨rfl, rfl⟩
  · exact ⟨done_fetched _ _ _ _, done_fetching _ _ _ _⟩

theorem onlyHpt_accept (s : State) (ring : Nat) (bs : List Byte) : OnlyHpt s (s.accept ring bs) := by
  rw [accept_eq]
  exact onlyHpt_ite ((onlyHpt_hpt s _).trans (onlyHpt_hptRefresh _ _ _)) ((onlyHpt_hpt s _).trans (onlyHpt_done _ _ _ _))

/-- With no descriptor of the ring fetched nothing is accepted. -/
theorem acceptAll_none {s : State} {ring : Nat} (h : ∀ f ∈ s.hpt.fetched, f.1 ≠ ring) (n : Nat) : s.acceptAll ring n = s := by
  have hnone : takeFirst (fun f => f.1 == ring) s.hpt.fetched = none := takeFirst_eq_none fun f hf => by simpa using h f hf
  cases n with
  | zero => rfl
  | succ n =>
    rw [State.acceptAll, hnone]
    split <;> rfl

/-- Behind a FENCE nothing is accepted (R61). -/
theorem acceptAll_fenced {s : State} {ring : Nat} (h : s.fenced ring = true) (n : Nat) : s.acceptAll ring n = s := by
  cases n with
  | zero => rfl
  | succ n => rw [State.acceptAll, if_pos h]

/-- The first fetched descriptor of a ring is accepted, then those behind it. -/
theorem acceptAll_succ {s : State} {ring r : Nat} {bs : List Byte} {rest : List (Nat × List Byte)} (hf : s.fenced ring = false)
    (h : takeFirst (fun f => f.1 == ring) s.hpt.fetched = some ((r, bs), rest)) (n : Nat) : s.acceptAll ring (n + 1) =
      ((s.withHpt { s.hpt with fetched := rest }).accept ring bs).acceptAll ring n := by
  rw [State.acceptAll, if_neg (by simp [hf]), h]
  rfl

/-- The only descriptor of a ring that is fetched is accepted. -/
theorem acceptAll_one {s : State} {ring : Nat} {bs : List Byte} {old : List (Nat × List Byte)} (hf : s.fenced ring = false)
    (h : ∀ f ∈ old, f.1 ≠ ring) (hs : s.hpt.fetched = old ++ [(ring, bs)]) (n : Nat) :
    s.acceptAll ring (n + 1) = (s.withHpt { s.hpt with fetched := old }).accept ring bs := by
  refine (acceptAll_succ (r := ring) hf ?_ n).trans (acceptAll_none (fun f hfm => ?_) n)
  · rw [hs]
    exact takeFirst_append (fun f hf => by simpa using h f hf) (by simp)
  · rw [(accept_queues _ _ _).1] at hfm
    exact h f hfm

/-- The whole data of a ring's oldest read are fetched descriptors, and are accepted in turn (R58). -/
theorem descriptorAccept_data {s : State} {ring : Fin 64} {n : Nat} {rest : List (Nat × Nat)} {bs : List Byte}
    (h : takeFirst (fun f => f.1 == ring.val) s.hpt.fetching = some ((ring.val, n), rest)) (hlen : bs.length = 64 * n) :
    exec (.descriptorAccept ring ⟨some bs, false⟩) s = .next ((s.withHpt { s.hpt with
      fetching := rest, fetched := s.hpt.fetched ++ (pieces64 n bs).map fun p => (ring.val, p) }).acceptAll ring
        (s.hpt.fetched ++ (pieces64 n bs).map fun p => (ring.val, p)).length) := by
  show execDescriptorAccept _ _ _ = _
  rw [execDescriptorAccept, h]
  exact congrArg Host.Outcome.next (if_neg (by simp [hlen]))

/-- The data of a read for one descriptor, the ring's oldest, are accepted or completed at once (R58). -/
theorem descriptorAccept_one {s : State} {ring : Fin 64} {bs : List Byte} {rest : List (Nat × Nat)}
    (h : takeFirst (fun f => f.1 == ring.val) s.hpt.fetching = some ((ring.val, 1), rest)) (hlen : bs.length = 64)
    (hold : ∀ f ∈ s.hpt.fetched, f.1 ≠ ring.val) (hf : s.fenced ring = false) :
    exec (.descriptorAccept ring ⟨some bs, false⟩) s = .next ((s.withHpt { s.hpt with fetching := rest }).accept ring bs) := by
  have hpieces : pieces64 1 bs = [bs] := by simp [pieces64, List.take_of_length_le, hlen]
  rw [descriptorAccept_data h (by omega), hpieces, List.map_cons, List.map_nil, List.length_append]
  exact congrArg Host.Outcome.next (acceptAll_one (s := s.withHpt { s.hpt with fetching := rest, fetched := s.hpt.fetched ++ [(ring.val, bs)] })
    (old := s.hpt.fetched) hf hold rfl _)

/-- A read that ended in error, short or poisoned stops the ring (R55). -/
theorem descriptorAccept_error {s : State} {ring : Fin 64} {n : Nat} {rest : List (Nat × Nat)} {data : Option (List Byte)}
    {poisoned : Bool} (h : takeFirst (fun f => f.1 == ring.val) s.hpt.fetching = some ((ring.val, n), rest))
    (hbad : poisoned = true ∨ data = none ∨ (data.getD []).length < 64 * n) : ∃ s1 : State,
      s1 = (s.poison poisoned ring (s.oldestRead ring)).withHpt
        { (s.poison poisoned ring (s.oldestRead ring)).hpt with fetching := rest } ∧
      exec (.descriptorAccept ring ⟨data, poisoned⟩) s =
        .next ((s1.wr HPT_SQ_STATUS.ERROR 1 ring).hptError s1.active 4 ring (s.oldestRead ring)) := by
  refine ⟨_, rfl, ?_⟩
  show execDescriptorAccept _ _ _ = _
  rw [execDescriptorAccept, h]
  exact congrArg Host.Outcome.next (if_pos (by simpa [Bool.or_assoc, or_assoc] using hbad))

/-- With no read of the ring in flight, and a FENCE before what is fetched, nothing happens. -/
theorem descriptorAccept_fenced {s : State} {ring : Fin 64} (h : takeFirst (fun f => f.1 == ring.val) s.hpt.fetching = none)
    (hf : s.fenced ring = true) (read : HostRead (Option (List Byte))) : exec (.descriptorAccept ring read) s = .next s := by
  show execDescriptorAccept _ _ _ = _
  rw [execDescriptorAccept, h]
  exact congrArg Host.Outcome.next (acceptAll_fenced hf _)

/-! The checks of R58 in their order. -/

section
variable (s : State) (ring : Nat) {bs : List Byte}

theorem acceptStatus_lt (bs : List Byte) : s.acceptStatus ring bs < 2 ^ 16 := by
  have hite {p : Prop} [Decidable p] {a b : Nat} (ha : a < 2 ^ 16) (hb : b < 2 ^ 16) : (if p then a else b) < 2 ^ 16 := by
    split <;> assumption
  unfold State.acceptStatus
  split
  · decide
  · exact hite (by decide) (hite (by decide) (hite (by decide) (hite (by decide) (by decide))))

theorem acceptStatus_badOpcode (h : tenantMay (field bs 0 1) = none) : s.acceptStatus ring bs = stBadOpcode := by
  rw [State.acceptStatus, h]

theorem acceptStatus_badField (h : tenantMay (field bs 0 1) ≠ none) (hf : 8 ≤ field bs 1 1) : s.acceptStatus ring bs = stBadField := by
  obtain ⟨all, h⟩ := Option.ne_none_iff_exists'.mp h
  rw [State.acceptStatus, h]
  exact if_pos (.inl hf)

/-- A descriptor whose fields are right, of an opcode of domain 0 alone. -/
theorem acceptStatus_restricted (h : tenantMay (field bs 0 1) = some false) (hf : field bs 1 1 < 8) (hz : field bs 4 4 = 0) :
    s.acceptStatus ring bs = if s.ringDom ring ≠ 0 then stDomainDenied
      else if field bs 0 1 = opCalRun ∧ field bs 8 1 = 4 ∧ s.livePathThrough (field bs 12 4) = true then stCalLivePath else stOK := by
  have hop : field bs 0 1 ≠ opCounterSnap := fun e => by
    rw [e] at h
    exact absurd h (by decide)
  rw [State.acceptStatus, h]
  simp [hop, hz, Nat.not_le.mpr hf]

end

/-! NOP and FENCE (R60, R61). -/

/-- The stamps of a completion (R65). -/
theorem finish_stamps (s : State) (d : Desc) (st : Nat) (res : Option Nat) (exe fl : Nat) {c : Compl}
    (h : (s.finish d st res exe fl).hpt.owed = s.hpt.owed ++ [c]) : c.acc = d.acc ∧ c.exe = exe % 2 ^ 64 := by
  have hd : (if res.isNone then (s.draw 32).2 else s).hpt = s.hpt := by split <;> rfl
  unfold State.finish at h
  generalize (if res.isNone then (s.draw 32).2 else s) = s0 at hd h
  dsimp only at h
  split at h
  · simp [hptRefresh_owed, hd] at h
  · split at h
    · simp [hptRefresh_owed, bump_hpt, hd] at h
    · rw [hptRefresh_owed] at h
      dsimp only at h
      rw [hd, List.append_cancel_left_eq, List.singleton_inj] at h
      subst h
      exact ⟨rfl, rfl⟩

theorem nop_runs {s : State} {id : Nat} {d : Desc} (h : Runs s id opNop d) : exec (.nop id) s =
    .next (if zeros d.bytes 8 56 then s.finish d stOK none d.acc else s.done d stBadField) :=
  congrArg Host.Outcome.next (withOp_of_runs h _)

theorem fence_runs {s : State} {id : Nat} {d : Desc} (h : Runs s id opFence d) : exec (.fence id) s =
    .next (if !zeros d.bytes 8 56 then (s.done d stBadField).acceptAll d.ring (s.done d stBadField).hpt.fetched.length
      else if s.hpt.accepted.any fun x => x.ring == d.ring && decide (x.id < d.id) then s
      else (s.done d stOK).acceptAll d.ring (s.done d stOK).hpt.fetched.length) :=
  congrArg Host.Outcome.next (withOp_of_runs h _)

/-- With no descriptor of the ring fetched, a FENCE that completes does nothing else. -/
theorem acceptAll_done {s : State} (d : Desc) (st : Nat) (h : ∀ f ∈ s.hpt.fetched, f.1 ≠ d.ring) (n : Nat) :
    (s.done d st).acceptAll d.ring n = s.done d st := acceptAll_none (fun f hf => h f (by rwa [done_fetched] at hf)) n

end Sys2Proof.Machine

open Sys2Proof Sys2Proof.Machine

/-- Settles O7: the fetch of R53, by the branches of DESCRIPTOR_FETCH. -/
theorem fetchAsksForAnnouncedDescriptors : Obligations.FetchAsksForAnnouncedDescriptors := by
  unfold Obligations.FetchAsksForAnnouncedDescriptors
  exact ⟨fun s ring n hc hs hn => descriptorFetch_asks hc hs hn, fun s ring h => descriptorFetch_idle h⟩

/-- Settles O8: a read for one descriptor is acceptance of it, which keeps it or completes it; the statuses by the order of the
checks; an error keeps the POISONED bit that the poisoned data set. -/
theorem acceptChecksInOrder : Obligations.AcceptChecksInOrder := by
  unfold Obligations.AcceptChecksInOrder
  refine ⟨fun s ring bs rest h hlen hold hf hst => ?_, fun s ring bs rest h hlen hold hf hst => ?_,
    fun s ring bs hop => acceptStatus_badOpcode s ring (by rw [hop]; rfl), fun s ring bs => acceptStatus_badField s ring,
    fun s ring bs hop hfl hz hdom => ?_, fun s ring bs hop hfl hz hdom hk hlive => ?_,
    fun s ring n rest data poisoned h hbad => ?_, fun s ring h hf data poisoned => descriptorAccept_fenced h hf _⟩
  · refine ⟨_, descriptorAccept_one h hlen hold hf, ?_⟩
    have honly := (onlyHpt_hpt s { s.hpt with fetching := rest }).trans
      (onlyHpt_accept (s.withHpt { s.hpt with fetching := rest }) ring bs)
    rw [accept_eq, acceptStatus_withHpt, if_pos hst] at honly ⊢
    have hhpt := (reports_hptRefresh ((s.withHpt { s.hpt with fetching := rest }).taken ring bs) ring (s.rd HPT_SQ_CFG.CQ ring)).hpt
    refine ⟨(congrArg Hpt.fetching hhpt :), (congrArg Hpt.fetched hhpt :), (congrArg Hpt.accepted hhpt :),
      (congrArg Hpt.owed hhpt :), honly⟩
  · have honly := (onlyHpt_hpt s { s.hpt with fetching := rest }).trans
      (onlyHpt_accept (s.withHpt { s.hpt with fetching := rest }) ring bs)
    rw [accept_eq, acceptStatus_withHpt, if_neg hst] at honly
    have heq := descriptorAccept_one h hlen hold hf
    rw [accept_eq, acceptStatus_withHpt, if_neg hst] at heq
    obtain ⟨hacc, howed⟩ := completed_done ((s.withHpt { s.hpt with fetching := rest }).taken ring bs)
      ((s.withHpt { s.hpt with fetching := rest }).descOf ring bs) (s.acceptStatus ring bs) none
    rw [if_neg (by simp [hst, State.descOf])] at howed
    obtain ⟨c, hc, hcq, hsq, htag, hstat, -⟩ := howed
    refine ⟨_, c, heq, ?_, hc, ?_, htag, hsq, hcq, honly⟩
    · rw [hacc]
      simp [State.taken, State.descOf, State.withHpt]
    · rw [hstat, Nat.mod_eq_of_lt (acceptStatus_lt s ring bs)]
  · rw [acceptStatus_restricted s ring hop hfl hz]
    exact if_pos hdom
  · rw [acceptStatus_restricted s ring (by rw [hop]; rfl) hfl hz]
    exact (if_neg (not_not_intro hdom)).trans (if_pos ⟨hop, hk, hlive⟩)
  · obtain ⟨s1, hs1, heq⟩ := descriptorAccept_error h hbad
    have hpoison : Reports errKey s (s.poison poisoned ring (s.oldestRead ring)) :=
      reports_ite (reports_hptError _ _ _ _ _) (reports_refl _ _)
    have hread : Reports hptKey s1 ((s1.wr HPT_SQ_STATUS.ERROR 1 ring).hptError s1.active 4 ring (s.oldestRead ring)) :=
      (reports_wr s1 _ _ _ _ _ (by simp only [hptKey, Fld.key, HPT_SQ_STATUS.ERROR]; omega)).trans
        ((reports_hptError _ _ _ _ _).mono fun _ => hptKey_of_errKey)
    have hact : s1.active = s.active := by
      rw [hs1]
      exact active_of_rd (hpoison.rd (not_errKey (by decide) _ _ _))
    refine ⟨_, heq, ?_, ?_, fun hp => ?_, ?_, ?_⟩
    · rw [on_hptError_other _ _ _ _ _ (by decide), State.on, rd_wr_same]
      decide
    · rw [← hact]
      exact hptError_on _ _ 4 _ _
    · subst hp
      refine hptError_on_kept (b' := 5) _ _ _ _ _ ?_
      have hset : s1.on HPT_ERR_STATUS.POISONED s.active = true := by
        rw [hs1]
        exact hptError_on s s.active 5 _ _
      rw [← hset]
      exact on_of_rd (rd_wr_apart s1 (by decide) _ _ _ _ _ _ _)
    · refine hread.hpt.trans ?_
      generalize (State.hptError _ _ _ _ _).hpt.pba = p
      rw [hs1]
      exact (congrArg (fun h : Hpt => ({ h with fetching := rest, pba := p } : Hpt)) hpoison.hpt :)
    · refine (((hpoison.onlyHpt fun _ => hptKey_of_errKey).trans ?_).trans (hread.onlyHpt fun _ => id))
      rw [hs1]
      exact onlyHpt_hpt _ _

/-- Settles O9: NOP completes by its body. -/
theorem nopCompletesAtOnce : Obligations.NopCompletesAtOnce := by
  unfold Obligations.NopCompletesAtOnce
  refine ⟨fun s id d h hz => ?_, fun s id d h hz => ?_⟩
  · refine ⟨_, nop_runs h, ?_⟩
    rw [if_neg (by simp [hz])]
    exact ⟨completed_done _ _ _ _, onlyHpt_done _ _ _ _⟩
  · refine ⟨_, nop_runs h, ?_⟩
    rw [if_pos hz]
    exact ⟨completed_finish _ _ _ _ _ _, onlyHpt_finish _ _ _ _ _ _, fun c => finish_stamps _ _ _ _ _ _⟩

/-- Settles O10: FENCE completes when nothing of its ring is before it. -/
theorem fenceWaitsForEarlierDescriptors : Obligations.FenceWaitsForEarlierDescriptors := by
  unfold Obligations.FenceWaitsForEarlierDescriptors
  refine ⟨fun s id d h hz hfirst hf => ?_, fun s id d h hz hf => ?_, fun s id d x h hz hx hring hlt => ?_⟩
  · refine ⟨_, fence_runs h, ?_⟩
    have hno : ¬ (s.hpt.accepted.any fun x => x.ring == d.ring && decide (x.id < d.id)) = true := by
      simpa using fun x hx hr => hfirst x hx hr
    rw [if_neg (by simp [hz]), if_neg hno, acceptAll_done d stOK hf]
    exact ⟨completed_done _ _ _ _, onlyHpt_done _ _ _ _⟩
  · refine ⟨_, fence_runs h, ?_⟩
    rw [if_pos (by simp [hz]), acceptAll_done d stBadField hf]
    exact ⟨completed_done _ _ _ _, onlyHpt_done _ _ _ _⟩
  · refine (fence_runs h).trans ?_
    rw [if_neg (by simp [hz]), if_pos (List.any_eq_true.mpr ⟨x, hx, by simp [hring, hlt]⟩)]

end

section
/-! Completions, telemetry records and the signals of the rings (R65 to R78). -/
namespace Sys2Proof.Machine

/-! #### Signals of a ring (R78) -/

section
variable (s : State) (key vec count : Nat)

/-- A ring that may signal changes what waits to be signalled, and reports. -/
theorem signal_reports (now : Bool) :
    ∃ g, Reports (fun _ => False) (s.withHpt { s.hpt with sig := g }) (s.signal key vec count now) := by
  show ∃ g, Reports _ _ (if (now || _) = true then _ else _)
  generalize (now || _) = p
  cases p
  · exact ⟨_, reports_refl _ _⟩
  · exact ⟨_, reports_signalVec _ _ _ _⟩

/-- A ring that signals at once signals its vector at the active die. -/
theorem signal_now : Signalled s (s.signal key vec count true) s.active vec := by
  have heq : s.signal key vec count true = (s.withHpt { s.hpt with sig := adel s.hpt.sig key }).signalVec s.active vec := by
    simp only [State.signal, Bool.true_or, if_true]
    rfl
  rw [heq]
  exact signalled_signalVec (s := s) (t := s.withHpt { s.hpt with sig := adel s.hpt.sig key }) rfl s.active vec

end

/-! #### The tail of a ring (R68) -/

/-- The tail of a ring moves on, and the phase inverts where it wraps. -/
def State.advance (s : State) (tail phase : Fld) (size ring : Nat) : State :=
  if (s.rd tail ring + 1) % size = 0 then
    (s.wr tail ((s.rd tail ring + 1) % size) ring).wr phase (1 - s.rd phase ring) ring
  else s.wr tail ((s.rd tail ring + 1) % size) ring

section
variable (s : State) {tail phase f : Fld} (size ring : Nat)

theorem reports_advance {K : Nat → Prop} (ht : K (tail.key ring 0 0)) (hp : K (phase.key ring 0 0)) :
    Reports K s (s.advance tail phase size ring) :=
  reports_ite ((reports_wr s _ _ _ _ _ ht).wr _ _ _ _ _ hp) (reports_wr s _ _ _ _ _ ht)

theorem rd_advance_tail (h : tail.apart phase = true) :
    (s.advance tail phase size ring).rd tail ring = (s.rd tail ring + 1) % size % 2 ^ tail.w := by
  unfold State.advance
  split
  · rw [rd_wr_apart _ h, rd_wr_same]
  · rw [rd_wr_same]

theorem rd_advance_phase_wrap (hw : phase.w = 1) (h : (s.rd tail ring + 1) % size = 0) :
    (s.advance tail phase size ring).rd phase ring = 1 - s.rd phase ring := by
  rw [State.advance, if_pos h, rd_wr_same, hw]
  omega

theorem rd_advance_other (ht : f.apart tail = true) (hp : f.apart phase = true) (i j k : Nat) :
    (s.advance tail phase size ring).rd f i j k = s.rd f i j k := by
  unfold State.advance
  split
  · rw [rd_wr_apart _ hp, rd_wr_apart _ ht]
  · rw [rd_wr_apart _ ht]

theorem rd_advance_phase_on (hpt : phase.apart tail = true) (h : (s.rd tail ring + 1) % size ≠ 0) :
    (s.advance tail phase size ring).rd phase ring = s.rd phase ring := by
  rw [State.advance, if_neg h, rd_wr_apart _ hpt]

end

/-! #### Completions (R65, R70, R71) -/

/-- The bytes of a completion are put out, and the tail of its ring moves on. -/
def State.putCompl (s : State) (c : Compl) (seq : Nat) : State :=
  (s.toHost (entryAddr (s.rd HPT_CQ_BASE_LO.BASE c.cq) (s.rd HPT_CQ_BASE_HI.BASE c.cq) 32 (s.rd HPT_CQ_TAIL.TAIL c.cq))
    (complBytes c seq (s.rd HPT_SQ_HEAD.HEAD c.sq) (s.rd HPT_CQ_TAIL.PHASE c.cq))).advance HPT_CQ_TAIL.TAIL HPT_CQ_TAIL.PHASE
      (ringSize (s.rd HPT_CQ_CFG.SIZE_LOG2 c.cq)) c.cq

theorem writeCompl_eq (s : State) (c : Compl) (seq : Nat) : s.writeCompl c seq =
    (s.putCompl c seq).signal c.cq (s.rd HPT_CQ_CFG.VECTOR c.cq) (s.rd HPT_CQ_COAL.COAL_COUNT c.cq)
      (c.irq || c.status != stOK || bit c.flags 1) := rfl

section
variable (s : State) (c : Compl) (seq : Nat)

/-- A written completion changes the tail of its ring, puts its bytes out, and reports. -/
theorem putCompl_reports : Reports hptKey (s.toHost (entryAddr (s.rd HPT_CQ_BASE_LO.BASE c.cq) (s.rd HPT_CQ_BASE_HI.BASE c.cq) 32
    (s.rd HPT_CQ_TAIL.TAIL c.cq)) (complBytes c seq (s.rd HPT_SQ_HEAD.HEAD c.sq) (s.rd HPT_CQ_TAIL.PHASE c.cq))) (s.putCompl c seq) :=
  reports_advance _ _ _ (by simp only [hptKey, Fld.key, HPT_CQ_TAIL.TAIL]; omega)
    (by simp only [hptKey, Fld.key, HPT_CQ_TAIL.PHASE]; omega)

theorem onlyHpt_writeCompl : OnlyHpt s (s.writeCompl c seq) := by
  rw [writeCompl_eq]
  obtain ⟨g, hg⟩ := signal_reports (s.putCompl c seq) c.cq (s.rd HPT_CQ_CFG.VECTOR c.cq)
    (s.rd HPT_CQ_COAL.COAL_COUNT c.cq) (c.irq || c.status != stOK || bit c.flags 1)
  exact (((onlyHpt_emit s _).trans ((putCompl_reports s c seq).onlyHpt fun _ => id)).trans (onlyHpt_hpt _ _)).trans
    (hg.onlyHpt fun _ => False.elim)

theorem writeCompl_hpt : ∃ g, (s.writeCompl c seq).hpt = { s.hpt with sig := g, pba := (s.writeCompl c seq).hpt.pba } := by
  rw [writeCompl_eq]
  obtain ⟨g, hg⟩ := signal_reports (s.putCompl c seq) c.cq (s.rd HPT_CQ_CFG.VECTOR c.cq)
    (s.rd HPT_CQ_COAL.COAL_COUNT c.cq) (c.irq || c.status != stOK || bit c.flags 1)
  refine ⟨g, hg.hpt.trans ?_⟩
  generalize (State.signal _ _ _ _ _).hpt.pba = p
  exact (congrArg (fun h : Hpt => ({ h with sig := g, pba := p } : Hpt)) (putCompl_reports s c seq).hpt :)

theorem rd_writeCompl (f : Fld) (i j k : Nat) : (s.writeCompl c seq).rd f i j k = (s.putCompl c seq).rd f i j k := by
  rw [writeCompl_eq]
  obtain ⟨g, hg⟩ := signal_reports (s.putCompl c seq) c.cq (s.rd HPT_CQ_CFG.VECTOR c.cq)
    (s.rd HPT_CQ_COAL.COAL_COUNT c.cq) (c.irq || c.status != stOK || bit c.flags 1)
  exact hg.rd id

theorem rd_writeCompl_other {f : Fld} (ht : f.apart HPT_CQ_TAIL.TAIL = true) (hp : f.apart HPT_CQ_TAIL.PHASE = true) (i j k : Nat) :
    (s.writeCompl c seq).rd f i j k = s.rd f i j k :=
  (rd_writeCompl s c seq f i j k).trans (rd_advance_other _ _ _ ht hp i j k)

/-- The bytes of a written completion stand at the tail of its ring (R68). -/
theorem writeCompl_out : .host s.active (s.rd HPT_CQ_BASE_HI.BASE c.cq * 2 ^ 32 + s.rd HPT_CQ_BASE_LO.BASE c.cq * 2 ^ 12 +
    32 * s.rd HPT_CQ_TAIL.TAIL c.cq) false (complBytes c seq (s.rd HPT_SQ_HEAD.HEAD c.sq) (s.rd HPT_CQ_TAIL.PHASE c.cq)) ∈
      (s.writeCompl c seq).out := by
  rw [writeCompl_eq]
  obtain ⟨g, hg⟩ := signal_reports (s.putCompl c seq) c.cq (s.rd HPT_CQ_CFG.VECTOR c.cq)
    (s.rd HPT_CQ_COAL.COAL_COUNT c.cq) (c.irq || c.status != stOK || bit c.flags 1)
  exact hg.mem_out ((putCompl_reports s c seq).mem_out List.mem_cons_self)

/-- A completion that asks for it signals its ring's vector at once (R78). -/
theorem writeCompl_signalled (h : c.irq = true ∨ c.status ≠ stOK ∨ bit c.flags 1 = true) :
    Signalled s (s.writeCompl c seq) s.active (s.rd HPT_CQ_CFG.VECTOR c.cq) := by
  have hnow : (c.irq || c.status != stOK || bit c.flags 1) = true := by
    rcases h with h | h | h <;> simp [h]
  have hmem : (s.putCompl c seq).mem = s.mem := (putCompl_reports s c seq).mem
  have hact : (s.putCompl c seq).active = s.active :=
    active_of_rd (rd_advance_other _ (f := HPT_STATUS.ACTIVE) _ _ (by decide) (by decide) _ _ _)
  rw [writeCompl_eq, hnow, ← hact]
  exact signalled_of_mem hmem (signal_now _ _ _ _)

end

/-- What `takeFirst` takes satisfies its predicate. -/
theorem pred_of_takeFirst {α : Type} {p : α → Bool} {l : List α} {r : α × List α} (h : takeFirst p l = some r) : p r.1 = true := by
  induction l generalizing r with
  | nil => simp [takeFirst] at h
  | cons a l ih =>
    rw [takeFirst] at h
    split at h
    case isTrue ha => rwa [← Option.some.inj h]
    case isFalse =>
      obtain ⟨q, hq, rfl⟩ := Option.map_eq_some_iff.mp h
      exact (show p q.1 = true from ih hq)

/-! COMPLETION_WRITE by its branches. -/

/-- The state in which a completion has been written, with the queues that then stand. -/
def State.wrote (s : State) (c : Compl) (seq : Nat) (owed : List Compl) (posted : List Posted) : State :=
  let t := s.writeCompl c seq
  t.withHpt { t.hpt with owed := owed, posted := posted }

theorem completionWrite_new {s : State} {cq : Fin 64} {c : Compl} {rest : List Compl} (hon : s.on HPT_CQ_CFG.ENABLE cq = true)
    (hfull : s.cqFull cq = false) (h : takeFirst (fun c => c.cq == cq.val) s.hpt.owed = some (c, rest)) (hc : c.repost = none) :
    ∃ posted, exec (.completionWrite cq) s = .next (((s.wr HPT_CQ_SEQ.SEQ ((s.rd HPT_CQ_SEQ.SEQ cq + 1) % 2 ^ 32) cq).wrote c
      ((s.rd HPT_CQ_SEQ.SEQ cq + 1) % 2 ^ 32) rest posted).hptRefresh c.sq cq) := by
  show ∃ posted, execCompletionWrite _ _ = _
  rw [execCompletionWrite, h]
  dsimp only
  rw [hc]
  exact ⟨_, congrArg Host.Outcome.next (if_neg (by simp [hon, hfull]))⟩

theorem completionWrite_again {s : State} {cq : Fin 64} {c : Compl} {rest : List Compl} {seq : Nat}
    (hon : s.on HPT_CQ_CFG.ENABLE cq = true) (hfull : s.cqFull cq = false)
    (h : takeFirst (fun c => c.cq == cq.val) s.hpt.owed = some (c, rest)) (hc : c.repost = some seq) :
    ∃ posted, exec (.completionWrite cq) s =
      .next ((s.wrote { c with flags := c.flags % 8 + 8 } seq rest posted).hptRefresh c.sq cq) := by
  show ∃ posted, execCompletionWrite _ _ = _
  rw [execCompletionWrite, h]
  dsimp only
  rw [hc]
  exact ⟨_, congrArg Host.Outcome.next (if_neg (by simp [hon, hfull]))⟩

theorem completionWrite_held {s : State} {cq : Fin 64} (h : s.cqFull cq = true ∨ s.on HPT_CQ_CFG.ENABLE cq = false) :
    exec (.completionWrite cq) s = .next s := congrArg Host.Outcome.next (if_pos (by rcases h with h | h <;> simp [h]))

section
variable (s : State) (c : Compl) (seq : Nat) (owed : List Compl) (posted : List Posted) (ring : Nat)

theorem wrote_refresh_hpt : ∃ g, ((s.wrote c seq owed posted).hptRefresh c.sq ring).hpt = { s.hpt with
    owed := owed, posted := posted, sig := g, pba := ((s.wrote c seq owed posted).hptRefresh c.sq ring).hpt.pba } := by
  obtain ⟨g, hg⟩ := writeCompl_hpt s c seq
  refine ⟨g, (reports_hptRefresh _ _ _).hpt.trans ?_⟩
  generalize (State.hptRefresh _ _ _).hpt.pba = p
  exact (congrArg (fun h : Hpt => ({ h with owed := owed, posted := posted, pba := p } : Hpt)) hg :)

theorem onlyHpt_wrote_refresh : OnlyHpt s ((s.wrote c seq owed posted).hptRefresh c.sq ring) :=
  ((onlyHpt_writeCompl s c seq).trans (onlyHpt_hpt _ _)).trans (onlyHpt_hptRefresh _ _ _)

/-- A register that no report changes reads as it does once the completion is put out. -/
theorem rd_wrote_refresh {f : Fld} (h : unreported f = true) (i j k : Nat) :
    ((s.wrote c seq owed posted).hptRefresh c.sq ring).rd f i j k = (s.putCompl c seq).rd f i j k :=
  (rd_hptRefresh _ h _ _ _ _ _).trans (rd_writeCompl s c seq f i j k)

theorem rd_wrote_refresh_tail : ((s.wrote c seq owed posted).hptRefresh c.sq ring).rd HPT_CQ_TAIL.TAIL c.cq =
    (s.rd HPT_CQ_TAIL.TAIL c.cq + 1) % 2 ^ s.rd HPT_CQ_CFG.SIZE_LOG2 c.cq % 2 ^ 16 :=
  (rd_wrote_refresh s c seq owed posted ring (by decide) _ _ _).trans (rd_advance_tail _ _ _ (by decide))

theorem rd_wrote_refresh_phase_wrap (h : (s.rd HPT_CQ_TAIL.TAIL c.cq + 1) % 2 ^ s.rd HPT_CQ_CFG.SIZE_LOG2 c.cq = 0) :
    ((s.wrote c seq owed posted).hptRefresh c.sq ring).rd HPT_CQ_TAIL.PHASE c.cq = 1 - s.rd HPT_CQ_TAIL.PHASE c.cq :=
  (rd_wrote_refresh s c seq owed posted ring (by decide) _ _ _).trans (rd_advance_phase_wrap (tail := HPT_CQ_TAIL.TAIL) _ _ _ rfl h)

theorem rd_wrote_refresh_phase_on (h : (s.rd HPT_CQ_TAIL.TAIL c.cq + 1) % 2 ^ s.rd HPT_CQ_CFG.SIZE_LOG2 c.cq ≠ 0) :
    ((s.wrote c seq owed posted).hptRefresh c.sq ring).rd HPT_CQ_TAIL.PHASE c.cq = s.rd HPT_CQ_TAIL.PHASE c.cq :=
  (rd_wrote_refresh s c seq owed posted ring (by decide) _ _ _).trans
    (rd_advance_phase_on (tail := HPT_CQ_TAIL.TAIL) _ _ _ (by decide) h)

theorem rd_wrote_refresh_other {f : Fld} (h : unreported f = true) (ht : f.apart HPT_CQ_TAIL.TAIL = true)
    (hp : f.apart HPT_CQ_TAIL.PHASE = true) (i j k : Nat) :
    ((s.wrote c seq owed posted).hptRefresh c.sq ring).rd f i j k = s.rd f i j k :=
  (rd_wrote_refresh s c seq owed posted ring h i j k).trans (rd_advance_other _ _ _ ht hp i j k)

end

/-! #### Telemetry records (R72, R76) -/

/-- Between `s` and `t` only the records to be written, and when the last of each was formed, have changed. -/
def Formed (s t : State) : Prop := ∃ p q, t = s.withHpt { s.hpt with period := p, telq := q }

theorem formed_refl (s : State) : Formed s s := ⟨_, _, rfl⟩

theorem formed_recordP {s t : State} (h : Formed s t) (type source stamp frame dflt : Nat) (payload : List Byte) :
    Formed s (t.recordP type source stamp frame dflt payload) := by
  refine List.foldlRecOn _ _ h fun t ht b _ => ?_
  obtain ⟨p, q, rfl⟩ := ht
  by_cases hk : nget (s.withHpt { s.hpt with period := p, telq := q }).hpt.period (65536 * b.num + source) =
      frame / (Config.framesPerUs * (if b.period = 0 then dflt else b.period)) + 1
  · exact ⟨p, q, if_pos hk⟩
  · exact ⟨_, _, if_neg hk⟩

theorem formed_idleStreams (s : State) (tq : Nat) : Formed s (s.idleStreams tq) :=
  List.foldlRecOn _ _ (formed_refl s) fun _ ht _ _ => formed_recordP ht _ _ _ _ _ _

section
variable {s : State} {tq : Fin 16} {r : TelRec} {rest : List TelRec}

/-- The state in which the oldest record of a ring stands no longer to be written. -/
def State.unqueued (s : State) (rest : List TelRec) : State := s.withHpt { s.hpt with telq := rest }

/-- The bytes of a record are put out at the tail of its ring (R72). -/
def State.sendRecord (s : State) (tq : Fin 16) (r : TelRec) : State :=
  s.emit (.host s.active (entryAddr (s.rd HPT_TQ_BASE_LO.BASE tq) (s.rd HPT_TQ_BASE_HI.BASE tq) 64 (s.rd HPT_TQ_TAIL.TAIL tq))
    (s.on HPT_DMA_CFG.RO_TELEM) (telBytes r ((s.rd HPT_TQ_SEQ.SEQ tq + 1) % 2 ^ 32) (nget s.hpt.tqLost tq)
      (s.rd HPT_TQ_TAIL.PHASE tq)))

/-- A record is put out with the next SEQ, and the tail of its ring moves on. -/
def State.putRecord (s : State) (tq : Fin 16) (r : TelRec) : State :=
  ((s.sendRecord tq r).wr HPT_TQ_SEQ.SEQ ((s.rd HPT_TQ_SEQ.SEQ tq + 1) % 2 ^ 32) tq).advance HPT_TQ_TAIL.TAIL
    HPT_TQ_TAIL.PHASE (ringSize (s.rd HPT_TQ_CFG.SIZE_LOG2 tq)) tq

/-- A ring that keeps no drop to report. -/
def State.unlost (s : State) (tq : Fin 16) (lost : Nat) : State := s.withHpt { s.hpt with tqLost := nset s.hpt.tqLost tq lost }

theorem nget_unlost (s : State) (tq : Fin 16) (lost : Nat) : nget (s.unlost tq lost).hpt.tqLost tq = lost := nget_nset_same _ _ _

theorem writeRecord_room (h : takeFirst (fun r : TelRec => r.tq == tq.val) s.hpt.telq = some (r, rest))
    (hon : s.on HPT_TQ_CFG.ENABLE tq = true) (hfull : s.tqFull tq = false) : ∃ key vec count, s.writeRecord tq =
      (((s.unqueued rest).putRecord tq r).unlost tq 0).signal key vec count false := by
  have hon' : ¬ (!(s.unqueued rest).on HPT_TQ_CFG.ENABLE tq) = true := by
    rw [show (s.unqueued rest).on HPT_TQ_CFG.ENABLE tq = true from hon]
    simp
  have hfull' : ¬ (s.unqueued rest).tqFull tq = true := by
    rw [show (s.unqueued rest).tqFull tq = false from hfull]
    simp
  refine ⟨64 + tq.val, (((s.unqueued rest).putRecord tq r).unlost tq 0).rd HPT_TQ_CFG.VECTOR tq,
    (((s.unqueued rest).putRecord tq r).unlost tq 0).rd HPT_TQ_COAL.COAL_COUNT tq, ?_⟩
  rw [State.writeRecord, h]
  refine (if_neg hon').trans ((if_neg hfull').trans ?_)
  simp (disch := decide) only [State.putRecord, State.advance, rd_wr_apart]
  rfl

theorem writeRecord_full (h : takeFirst (fun r : TelRec => r.tq == tq.val) s.hpt.telq = some (r, rest))
    (hon : s.on HPT_TQ_CFG.ENABLE tq = true) (hfull : s.tqFull tq = true) : s.writeRecord tq =
      ((((s.unqueued rest).bump HPT_TQ_LOST.COUNT 1 tq).unlost tq 1).hptError
        (((s.unqueued rest).bump HPT_TQ_LOST.COUNT 1 tq).unlost tq 1).active 7 tq 0) := by
  have hon' : ¬ (!(s.unqueued rest).on HPT_TQ_CFG.ENABLE tq) = true := by
    rw [show (s.unqueued rest).on HPT_TQ_CFG.ENABLE tq = true from hon]
    simp
  rw [State.writeRecord, h]
  exact (if_neg hon').trans (if_pos hfull)

end

section
variable (s : State) (tq : Fin 16) (r : TelRec)

theorem putRecord_reports : Reports hptKey (s.sendRecord tq r) (s.putRecord tq r) :=
  (reports_wr _ _ _ _ _ _ (by simp only [hptKey, Fld.key, HPT_TQ_SEQ.SEQ]; omega)).trans
    (reports_advance _ _ _ (by simp only [hptKey, Fld.key, HPT_TQ_TAIL.TAIL]; omega)
      (by simp only [hptKey, Fld.key, HPT_TQ_TAIL.PHASE]; omega))

theorem rd_putRecord_seq : (s.putRecord tq r).rd HPT_TQ_SEQ.SEQ tq = (s.rd HPT_TQ_SEQ.SEQ tq + 1) % 2 ^ 32 := by
  rw [State.putRecord, rd_advance_other _ _ _ (by decide) (by decide), rd_wr_same]
  exact Nat.mod_mod _ _

theorem rd_putRecord_tail : (s.putRecord tq r).rd HPT_TQ_TAIL.TAIL tq =
    (s.rd HPT_TQ_TAIL.TAIL tq + 1) % 2 ^ s.rd HPT_TQ_CFG.SIZE_LOG2 tq % 2 ^ 16 := by
  rw [State.putRecord, rd_advance_tail _ _ _ (by decide), rd_wr_apart _ (by decide)]
  rfl

theorem onlyHpt_putRecord : OnlyHpt s (s.putRecord tq r) := (onlyHpt_emit s _).trans ((putRecord_reports s tq r).onlyHpt fun _ => id)

/-- A record is written: its ring's registers and what was put out (R72, R76). -/
theorem telemetryRecord_room {s : State} {tq : Fin 16} {r : TelRec} {rest : List TelRec}
    (h : takeFirst (fun r : TelRec => r.tq == tq.val) s.hpt.telq = some (r, rest))
    (hon : s.on HPT_TQ_CFG.ENABLE tq = true) (hfull : s.tqFull tq = false) :
    (s.writeRecord tq).hpt.telq = rest ∧ nget (s.writeRecord tq).hpt.tqLost tq = 0 ∧
      (∀ f, (s.writeRecord tq).rd f tq = ((s.unqueued rest).putRecord tq r).rd f tq) ∧
      (∀ o ∈ ((s.unqueued rest).putRecord tq r).out, o ∈ (s.writeRecord tq).out) ∧
      (s.writeRecord tq).hpt.owed = s.hpt.owed ∧ OnlyHpt s (s.writeRecord tq) := by
  obtain ⟨key, vec, count, heq⟩ := writeRecord_room h hon hfull
  have honly := (onlyHpt_hpt s _).trans (onlyHpt_putRecord (s.unqueued rest) tq r)
  have hput := (putRecord_reports (s.unqueued rest) tq r).hpt
  generalize (s.unqueued rest).putRecord tq r = p at heq honly hput
  obtain ⟨g, hg⟩ := signal_reports (p.unlost tq 0) key vec count false
  rw [← heq] at hg
  have hrd (f : Fld) : (s.writeRecord tq).rd f tq = p.rd f tq := hg.rd id
  refine ⟨(congrArg Hpt.telq hg.hpt).trans (congrArg Hpt.telq hput :), ?_, hrd, fun o ho => hg.mem_out ho,
    (congrArg Hpt.owed hg.hpt).trans (congrArg Hpt.owed hput :), ?_⟩
  · exact (congrArg (fun h : Hpt => nget h.tqLost tq) hg.hpt).trans (nget_unlost _ tq 0)
  · exact (honly.trans (onlyHpt_hpt _ _)).trans ((onlyHpt_hpt _ _).trans (hg.onlyHpt fun _ => False.elim))

/-- A full ring drops its record (R76). -/
theorem telemetryRecord_full {s : State} {tq : Fin 16} {r : TelRec} {rest : List TelRec}
    (h : takeFirst (fun r : TelRec => r.tq == tq.val) s.hpt.telq = some (r, rest))
    (hon : s.on HPT_TQ_CFG.ENABLE tq = true) (hfull : s.tqFull tq = true) :
    (s.writeRecord tq).hpt.telq = rest ∧ nget (s.writeRecord tq).hpt.tqLost tq = 1 ∧
      (s.writeRecord tq).rd HPT_TQ_LOST.COUNT tq = min (s.rd HPT_TQ_LOST.COUNT tq + 1) (2 ^ 32 - 1) ∧
      (s.writeRecord tq).rd HPT_TQ_TAIL.TAIL tq = s.rd HPT_TQ_TAIL.TAIL tq ∧
      (s.writeRecord tq).rd HPT_TQ_SEQ.SEQ tq = s.rd HPT_TQ_SEQ.SEQ tq ∧
      (s.writeRecord tq).on HPT_ERR_STATUS.TQ_LOST s.active = true ∧ (s.writeRecord tq).hpt.owed = s.hpt.owed ∧
      OnlyHpt s (s.writeRecord tq) := by
  have heq := writeRecord_full h hon hfull
  generalize hu : ((s.unqueued rest).bump HPT_TQ_LOST.COUNT 1 tq).unlost tq 1 = u at heq
  have hact : u.active = s.active := by
    rw [← hu]
    exact active_wr (s.unqueued rest) (by decide) _ _ _ _
  have herr := reports_hptError u u.active 7 tq 0
  rw [← heq] at herr
  have hrd (f : Fld) (hf : f.avoids 0x60 0xE0 = true) (ha : f.apart HPT_TQ_LOST.COUNT = true) :
      (s.writeRecord tq).rd f tq = s.rd f tq := by
    rw [herr.rd (not_errKey hf _ _ _), ← hu]
    exact rd_wr_apart (s.unqueued rest) ha _ _ _ _ _ _ _
  have hhpt := herr.hpt
  rw [← hu] at hhpt
  refine ⟨(congrArg Hpt.telq hhpt :), ?_, ?_, hrd _ (by decide) (by decide), hrd _ (by decide) (by decide), ?_,
    (congrArg Hpt.owed hhpt :), ?_⟩
  · exact (congrArg (fun h : Hpt => nget h.tqLost tq) hhpt).trans (nget_unlost _ tq 1)
  · rw [herr.rd (not_errKey (by decide) _ _ _), ← hu]
    exact rd_bump_same (s.unqueued rest) HPT_TQ_LOST.COUNT 1 tq 0 0
  · rw [heq, ← hact]
    exact hptError_on u u.active 7 tq 0
  · refine OnlyHpt.trans ?_ (herr.onlyHpt fun _ => hptKey_of_errKey)
    rw [← hu]
    refine ((onlyHpt_hpt s _).trans (onlyHpt_wr _ _ _ _ _ _ ?_)).trans (onlyHpt_hpt _ _)
    simp only [hptKey, Fld.key, HPT_TQ_LOST.COUNT]
    omega

end

/-- A signalled vector changes what is pending and what is put out alone. -/
theorem signalVec_frame (s : State) (die vec : Nat) :
    s.signalVec die vec = { s with hpt := (s.signalVec die vec).hpt, out := (s.signalVec die vec).out } := by
  unfold State.signalVec
  split <;> rfl

/-- A ring's coalescing time ends: what waits goes, and its vector is signalled (R78). -/
theorem coalTimeExpiry_signals {s : State} {telemetry : Bool} {ring : Fin 64} {g : RingSig} {key time vec : Nat}
    (hkey : key = if telemetry then 64 + ring.val else ring.val)
    (htime : time = if telemetry then s.rd HPT_TQ_COAL.COAL_TIME ring else s.rd HPT_CQ_COAL.COAL_TIME ring)
    (hvec : vec = if telemetry then s.rd HPT_TQ_CFG.VECTOR ring else s.rd HPT_CQ_CFG.VECTOR ring)
    (hring : telemetry = true → ring.val < 16) (hg : aget s.hpt.sig key = some g) (ht : time ≠ 0) :
    ∃ t, exec (.coalTimeExpiry telemetry ring) s = .next t ∧
      t = { s with now := max s.now (g.since + 20 * time), hpt := t.hpt, out := t.out } ∧
      t.hpt = { s.hpt with sig := adel s.hpt.sig key, pba := t.hpt.pba } ∧ Signalled s t s.active vec := by
  generalize hu : ({ s with now := max s.now (g.since + 20 * time), hpt := { s.hpt with sig := adel s.hpt.sig key } } : State) = u
  have hr := reports_signalVec (fun _ => False) u s.active vec
  refine ⟨u.signalVec s.active vec, ?_, ?_, hr.hpt.trans ?_, signalled_signalVec (by rw [← hu]) _ _⟩
  · show execCoalTimeExpiry _ _ _ = _
    rw [execCoalTimeExpiry]
    dsimp only
    rw [← hkey, ← htime, ← hvec, hg, ← hu]
    refine congrArg Host.Outcome.next ((if_neg ?_).trans (if_neg ht))
    cases telemetry
    · simp
    · simpa using hring rfl
  · rw [← hu]
    exact signalVec_frame _ _ _
  · rw [← hu]

end Sys2Proof.Machine

open Sys2Proof Sys2Proof.Machine

/-- Settles O11: what a written completion puts out, what its ring's registers then hold, and that the reports after it touch none
of them. -/
theorem completionsAreWrittenInOrder : Obligations.CompletionsAreWrittenInOrder := by
  unfold Obligations.CompletionsAreWrittenInOrder
  refine ⟨fun s cq c rest hon hfull h hc => ?_, fun s cq c rest seq hon hfull h hc => ?_, fun s cq h => completionWrite_held h⟩
  · obtain ⟨posted, hexec⟩ := completionWrite_new hon hfull h hc
    have hcq : c.cq = cq.val := by simpa using pred_of_takeFirst h
    rw [← hcq] at hexec ⊢
    generalize hseq : (s.rd HPT_CQ_SEQ.SEQ c.cq + 1) % 2 ^ 32 = seq at hexec ⊢
    obtain ⟨g, hg⟩ := wrote_refresh_hpt (s.wr HPT_CQ_SEQ.SEQ seq c.cq) c seq rest posted c.cq
    have htail := rd_wrote_refresh_tail (s.wr HPT_CQ_SEQ.SEQ seq c.cq) c seq rest posted c.cq
    have hout := writeCompl_out (s.wr HPT_CQ_SEQ.SEQ seq c.cq) c seq
    have hsig := writeCompl_signalled (s.wr HPT_CQ_SEQ.SEQ seq c.cq) c seq
    have hwrap := rd_wrote_refresh_phase_wrap (s.wr HPT_CQ_SEQ.SEQ seq c.cq) c seq rest posted c.cq
    have hon := rd_wrote_refresh_phase_on (s.wr HPT_CQ_SEQ.SEQ seq c.cq) c seq rest posted c.cq
    simp (disch := decide) only [rd_wr_apart, active_wr] at htail hout hsig hwrap hon
    refine ⟨_, hexec, (congrArg Hpt.owed hg :), (congrArg Hpt.accepted hg :), ?_, htail, hwrap, hon, ?_,
      fun hn => ?_, ?_⟩
    · rw [rd_wrote_refresh_other _ _ _ _ _ _ (by decide) (by decide) (by decide), rd_wr_same, ← hseq]
      exact Nat.mod_mod _ _
    · exact (reports_hptRefresh _ _ _).mem_out hout
    · exact signalled_of_mem rfl ((reports_hptRefresh _ _ _).signalled (hsig hn))
    · exact (onlyHpt_wr _ _ _ _ _ _ (by simp only [hptKey, Fld.key, HPT_CQ_SEQ.SEQ]; omega)).trans (onlyHpt_wrote_refresh _ _ _ _ _ _)
  · obtain ⟨posted, hexec⟩ := completionWrite_again hon hfull h hc
    have hcq : c.cq = cq.val := by simpa using pred_of_takeFirst h
    rw [← hcq] at hexec ⊢
    obtain ⟨g, hg⟩ := wrote_refresh_hpt s { c with flags := c.flags % 8 + 8 } seq rest posted c.cq
    exact ⟨_, hexec, (congrArg Hpt.owed hg :), rd_wrote_refresh_other _ _ _ _ _ _ (by decide) (by decide) (by decide) _ _ _,
      rd_wrote_refresh_tail _ _ _ _ _ _, (reports_hptRefresh _ _ _).mem_out (writeCompl_out _ _ _), onlyHpt_wrote_refresh _ _ _ _ _ _⟩

/-- Settles O12: the idle players' records are formed first, which only adds to what is to be written; then the oldest record of the
ring is written or dropped, and a ring whose coalescing time ends signals. -/
theorem telemetryRecordsAndCoalescing : Obligations.TelemetryRecordsAndCoalescing := by
  unfold Obligations.TelemetryRecordsAndCoalescing
  refine ⟨fun s tq r rest h hon hfull => ?_, fun s tq r rest h hon hfull => ?_,
    fun s ring g hg ht => coalTimeExpiry_signals rfl rfl rfl nofun hg ht,
    fun s ring g hring hg ht => coalTimeExpiry_signals rfl rfl rfl (fun _ => hring) hg ht⟩
  · refine ⟨(s.idleStreams tq).writeRecord tq, rfl, ?_⟩
    obtain ⟨p, q, hidle⟩ := formed_idleStreams s tq
    rw [hidle] at h ⊢
    obtain ⟨htelq, hlost, hrd, hout, howed, honly⟩ := telemetryRecord_room h hon hfull
    refine ⟨htelq, hlost, ?_, ?_, ?_, howed, (onlyHpt_hpt s _).trans honly⟩
    · rw [hrd]
      exact rd_putRecord_seq _ tq r
    · rw [hrd]
      exact rd_putRecord_tail _ tq r
    · exact hout _ ((putRecord_reports _ tq r).mem_out List.mem_cons_self)
  · refine ⟨(s.idleStreams tq).writeRecord tq, rfl, ?_⟩
    obtain ⟨p, q, hidle⟩ := formed_idleStreams s tq
    rw [hidle] at h ⊢
    obtain ⟨htelq, hlost, hcount, htail, hseq, herr, howed, honly⟩ := telemetryRecord_full h hon hfull
    exact ⟨htelq, hlost, hcount, htail, hseq, herr, howed, (onlyHpt_hpt s _).trans honly⟩

end

section
/-! Host-side resets and the enables of the rings (R68, R79 to R83). -/
namespace Sys2Proof.Machine

/-! #### Registers and memory that return to their reset values -/

theorem aget_filter {β : Type} (p : Nat → Bool) (m : List (Nat × β)) (k : Nat) :
    aget (m.filter fun c => p c.1) k = if p k = true then aget m k else none := by
  induction m with
  | nil => simp
  | cons c m ih =>
    obtain ⟨a, v⟩ := c
    rw [List.filter_cons, aget_cons]
    by_cases ha : a = k
    · subst ha
      by_cases hp : p a = true <;> simp [hp, aget_cons, ih]
    · by_cases hp : p a = true <;> simp [hp, aget_cons, ih, ha]

theorem nget_clearRegs (s : State) (lo hi k : Nat) :
    nget (s.clearRegs lo hi).regs k = if lo * 8 ≤ k ∧ k < hi * 8 then 0 else nget s.regs k := by
  have h := aget_filter (fun k => !(decide (lo * 8 ≤ k) && decide (k < hi * 8))) s.regs k
  rw [nget, State.clearRegs, h]
  by_cases hk : lo * 8 ≤ k ∧ k < hi * 8
  · simp [hk]
  · rw [if_neg hk, if_pos (by simp; omega)]
    rfl

theorem loadB_clearMem (s : State) (lo hi a : Nat) :
    (s.clearMem lo hi).loadB a = if lo ≤ a ∧ a < hi then memDefault a else s.loadB a := by
  have h := aget_filter (fun k => !(decide (lo ≤ k) && decide (k < hi))) s.mem a
  rw [State.loadB, State.clearMem, h]
  by_cases ha : lo ≤ a ∧ a < hi
  · simp [ha]
  · rw [if_neg ha, if_pos (by simp; omega)]
    rfl

/-- A register whose key is among those cleared holds its reset value. -/
theorem rd_clearRegs_in (s : State) {lo hi i j k : Nat} {f : Fld} (h : lo * 8 ≤ f.key i j k ∧ f.key i j k < hi * 8) :
    (s.clearRegs lo hi).rd f i j k = f.reset i j k := by
  rw [State.rd, nget_clearRegs, if_pos h, Nat.zero_xor]

/-- A register apart from those cleared, in either die, keeps its value. -/
theorem rd_clearRegs_other (s : State) {off lo hi : Nat} {f : Fld} (h : f.avoids (lo * 8) (hi * 8) = true)
    (hoff : off * 8 % 0x80000000 = 0) (hhi : hi * 8 ≤ 0x80000000) (i j k : Nat) :
    (s.clearRegs (off + lo) (off + hi)).rd f i j k = s.rd f i j k := by
  have hk := Fld.key_avoids h i j k
  rw [State.rd, nget_clearRegs, if_neg (by omega)]
  rfl

/-! #### A reset by its steps (R79, R80) -/

/-- What a reset that takes the link down leaves of it. -/
def State.dropLink (s : State) (die : Nat) (linkDown : Bool) : State :=
  if linkDown then ((s.wr HPT_STATUS.LINK_UP 0 die).wr HPT_STATUS.LINK_WIDTH 0 die).wr HPT_STATUS.LINK_SPEED 0 die else s

/-- The registers of a die's endpoint after its reset. -/
def State.resetRegs (s : State) (die : Nat) (linkDown : Bool) : State :=
  (((s.clearRegs (0x10000000 * die + 0x0C) (0x10000000 * die + 0x1C)).wr HPT_STATUS.HEADLESS 1 die).bump
    HPT_HEADLESS_CNT.COUNT 1 die).dropLink die linkDown

/-- A die's endpoint after its reset: its registers, its MSI-X table and configuration space, and no vector pending. -/
def State.resetEndpoint (s : State) (die : Nat) (linkDown : Bool) : State :=
  let t := ((s.resetRegs die linkDown).clearMem (msixBase die) (msixBase (die + 1))).clearMem (cfgBase die) (cfgBase (die + 1))
  t.withHpt { t.hpt with pba := t.hpt.pba.filter fun c => c.1 / 256 != die }

/-- The ring registers at their reset values. -/
def State.clearRings (s : State) : State :=
  ((((s.clearRegs 0x04 0x08).clearRegs 0x1C 0x24).clearRegs 0x400 0x500).clearRegs 0x1000 0x3400).wr HPT_STATUS.CFG_REJECT 0

theorem hostReset_eq (s : State) (die : Nat) (linkDown : Bool) : s.hostReset die linkDown =
    if s.isActive die then (s.resetEndpoint die linkDown).clearRings.dropAll else s.resetEndpoint die linkDown := rfl

section
variable (s : State) (die : Fin 2) (linkDown : Bool) {f : Fld} (i j k : Nat)

theorem rd_resetEndpoint : (s.resetEndpoint die linkDown).rd f i j k = (s.resetRegs die linkDown).rd f i j k := rfl

/-- The reset leaves the fields apart from those it names. -/
theorem rd_resetRegs_other (h : f.avoids 0x60 0xE0 = true) (hh : f.apart HPT_STATUS.HEADLESS = true)
    (hc : f.apart HPT_HEADLESS_CNT.COUNT = true) (hl : linkDown = true → f.apart HPT_STATUS.LINK_UP = true ∧
      f.apart HPT_STATUS.LINK_WIDTH = true ∧ f.apart HPT_STATUS.LINK_SPEED = true) :
    (s.resetRegs die linkDown).rd f i j k = s.rd f i j k := by
  have hrest : ((((s.clearRegs (0x10000000 * die + 0x0C) (0x10000000 * die + 0x1C)).wr HPT_STATUS.HEADLESS 1 die).bump
      HPT_HEADLESS_CNT.COUNT 1 die).rd f i j k) = s.rd f i j k := by
    rw [State.bump, rd_wr_apart _ hc, rd_wr_apart _ hh, rd_clearRegs_other s (lo := 0x0C) (hi := 0x1C) h (by omega) (by omega)]
  cases linkDown with
  | false => exact hrest
  | true =>
    obtain ⟨hu, hw, hs⟩ := hl rfl
    refine Eq.trans ?_ hrest
    show State.rd (State.wr _ _ _ _) _ _ _ _ = _
    rw [rd_wr_apart _ hs, rd_wr_apart _ hw, rd_wr_apart _ hu]

theorem rd_resetRegs_headless : (s.resetRegs die linkDown).rd HPT_STATUS.HEADLESS die = 1 := by
  have hrest (t : State) : (t.dropLink die linkDown).rd HPT_STATUS.HEADLESS die = t.rd HPT_STATUS.HEADLESS die := by
    cases linkDown with
    | false => rfl
    | true =>
      show State.rd (State.wr _ _ _ _) _ _ = _
      rw [rd_wr_apart _ (by decide), rd_wr_apart _ (by decide), rd_wr_apart _ (by decide)]
  rw [State.resetRegs, hrest, State.bump, rd_wr_apart _ (by decide), rd_wr_same]
  decide

theorem rd_resetRegs_count : (s.resetRegs die linkDown).rd HPT_HEADLESS_CNT.COUNT die =
    min (s.rd HPT_HEADLESS_CNT.COUNT die + 1) (2 ^ 32 - 1) := by
  have hrest (t : State) : (t.dropLink die linkDown).rd HPT_HEADLESS_CNT.COUNT die = t.rd HPT_HEADLESS_CNT.COUNT die := by
    cases linkDown with
    | false => rfl
    | true =>
      show State.rd (State.wr _ _ _ _) _ _ = _
      rw [rd_wr_apart _ (by decide), rd_wr_apart _ (by decide), rd_wr_apart _ (by decide)]
  rw [State.resetRegs, hrest, rd_bump_same, rd_wr_apart _ (by decide), rd_clearRegs_other s (lo := 0x0C) (hi := 0x1C) (by decide) (by omega) (by omega)]
  rfl

/-- A reset that takes the link down reads it as down (R80). -/
theorem rd_resetRegs_linkDown : (s.resetRegs die true).rd HPT_STATUS.LINK_UP die = 0 ∧
    (s.resetRegs die true).rd HPT_STATUS.LINK_WIDTH die = 0 ∧ (s.resetRegs die true).rd HPT_STATUS.LINK_SPEED die = 0 := by
  unfold State.resetRegs State.dropLink
  rw [if_pos rfl]
  refine ⟨?_, ?_, ?_⟩
  · rw [rd_wr_apart _ (by decide), rd_wr_apart _ (by decide), rd_wr_same, Nat.zero_mod]
  · rw [rd_wr_apart _ (by decide), rd_wr_same, Nat.zero_mod]
  · rw [rd_wr_same, Nat.zero_mod]

theorem reports_clearRegs {K : Nat → Prop} (s : State) {lo hi : Nat} (h : ∀ k, lo * 8 ≤ k → k < hi * 8 → K k) :
    Reports K s (s.clearRegs lo hi) := by
  refine ⟨rfl, fun k hk => ?_, ⟨[], rfl, nofun⟩, fun _ h => h⟩
  rw [nget_clearRegs, if_neg fun hn => hk (h k hn.1 hn.2)]

/-- A reset of an endpoint touches registers of its first 1024 bytes alone. -/
theorem reports_resetRegs : Reports (fun k => k % 0x80000000 < 0x2000) s (s.resetRegs die linkDown) := by
  have hdown (t : State) : Reports (fun k => k % 0x80000000 < 0x2000) t (t.dropLink die linkDown) := by
    refine reports_ite (((reports_wr _ _ _ _ _ _ ?_).wr _ _ _ _ _ ?_).wr _ _ _ _ _ ?_) (reports_refl _ _) <;>
    simp only [Fld.key, HPT_STATUS.LINK_UP, HPT_STATUS.LINK_WIDTH, HPT_STATUS.LINK_SPEED] <;> omega
  refine Reports.trans (((reports_clearRegs s fun k h1 h2 => ?_).wr _ _ _ _ _ ?_).wr _ _ _ _ _ ?_) (hdown _)
  · omega
  · simp only [Fld.key, HPT_STATUS.HEADLESS]
    omega
  · simp only [Fld.key, HPT_HEADLESS_CNT.COUNT]
    omega

/-- The memory below the tables of the endpoints stays (R79). -/
theorem loadB_resetEndpoint {a : Nat} (h : a < 0x4000000) : (s.resetEndpoint die linkDown).loadB a = s.loadB a := by
  have hcfg := loadB_clearMem ((s.resetRegs die linkDown).clearMem (msixBase die) (msixBase (die + 1))) (cfgBase die) (cfgBase (die + 1)) a
  have hmsix := loadB_clearMem (s.resetRegs die linkDown) (msixBase die) (msixBase (die + 1)) a
  rw [if_neg (by unfold cfgBase; omega)] at hcfg
  rw [if_neg (by unfold msixBase; omega)] at hmsix
  have hmem : (s.resetEndpoint die linkDown).mem =
      (((s.resetRegs die linkDown).clearMem (msixBase die) (msixBase (die + 1))).clearMem (cfgBase die) (cfgBase (die + 1))).mem := rfl
  exact (memSame_of_mem hmem a).trans ((hcfg.trans hmsix).trans (memSame_of_mem (reports_resetRegs s die linkDown).mem a))

/-- No vector of the die is pending. -/
theorem resetEndpoint_pba {c : Nat × Nat} (h : c ∈ (s.resetEndpoint die linkDown).hpt.pba) : c.1 / 256 ≠ die := by
  have := (List.mem_filter.mp h).2
  simpa using this

theorem resetEndpoint_hpt : (s.resetEndpoint die linkDown).hpt = { s.hpt with pba := (s.resetEndpoint die linkDown).hpt.pba } := by
  generalize hp : (s.resetEndpoint die linkDown).hpt.pba = p
  subst hp
  exact (congrArg (fun h : Hpt => ({ h with pba := (s.resetEndpoint die linkDown).hpt.pba } : Hpt))
    (reports_resetRegs s die linkDown).hpt :)

theorem resetRegs_frame : ∃ regs, s.resetRegs die linkDown = { s with regs := regs } := by
  have hout : (s.resetRegs die linkDown).out = s.out ∧ (s.resetRegs die linkDown).hpt = s.hpt := by
    cases linkDown <;> simp [State.resetRegs, State.dropLink]
  have h := (reports_resetRegs s die linkDown).frame
  rw [hout.1, hout.2] at h
  exact ⟨_, h⟩

theorem resetEndpoint_frame : ∃ regs mem hpt, s.resetEndpoint die linkDown = { s with regs := regs, mem := mem, hpt := hpt } := by
  obtain ⟨regs, h⟩ := resetRegs_frame s die linkDown
  rw [State.resetEndpoint, h]
  exact ⟨_, _, _, rfl⟩

end

/-! The rings, and what is owed. -/

section
variable (s : State)

theorem reports_clearRings : Reports hptKey s s.clearRings := by
  refine ((((reports_clearRegs s fun k h1 h2 => ?_).trans (reports_clearRegs _ fun k h1 h2 => ?_)).trans
    (reports_clearRegs _ fun k h1 h2 => ?_)).trans (reports_clearRegs _ fun k h1 h2 => ?_)).wr _ _ _ _ _ ?_
  all_goals simp only [hptKey, Fld.key, HPT_STATUS.CFG_REJECT]; omega

/-- A field of the endpoint that the reset of the rings leaves. -/
def keptByRings (f : Fld) : Bool :=
  f.avoids 0x20 0x40 && f.avoids 0xE0 0x120 && f.avoids 0x2000 0x2800 && f.avoids 0x8000 0x1A000 &&
    f.apart HPT_STATUS.CFG_REJECT && f.apart HPT_LOST_COMP.COUNT && f.apart HPT_INFLIGHT.COUNT

/-- The endpoint whose owed completions are dropped keeps its other registers. -/
theorem rd_dropAll_other {f : Fld} (hl : f.apart HPT_LOST_COMP.COUNT = true) (hi : f.apart HPT_INFLIGHT.COUNT = true) (i j k : Nat) :
    s.dropAll.rd f i j k = s.rd f i j k := by
  refine (rd_wr_apart _ hi _ _ _ _ _ _ _).trans ?_
  exact rd_wr_apart s hl _ _ _ _ _ _ _

theorem rd_clearRings_dropAll {f : Fld} (h : keptByRings f = true) (i j k : Nat) :
    s.clearRings.dropAll.rd f i j k = s.rd f i j k := by
  simp only [keptByRings, Bool.and_eq_true] at h
  obtain ⟨⟨⟨⟨⟨⟨h1, h2⟩, h3⟩, h4⟩, hr⟩, hl⟩, hi⟩ := h
  rw [rd_dropAll_other _ hl hi, State.clearRings, rd_wr_apart _ hr]
  have hclear (t : State) {lo hi : Nat} (ha : f.avoids (lo * 8) (hi * 8) = true) (hh : hi * 8 ≤ 0x80000000) :
      (t.clearRegs lo hi).rd f i j k = t.rd f i j k := by
    have := rd_clearRegs_other t (off := 0) (lo := lo) (hi := hi) ha (by omega) hh i j k
    rwa [Nat.zero_add, Nat.zero_add] at this
  rw [hclear _ (lo := 0x1000) (hi := 0x3400) h4 (by omega), hclear _ (lo := 0x400) (hi := 0x500) h3 (by omega),
    hclear _ (lo := 0x1C) (hi := 0x24) h2 (by omega), hclear _ (lo := 0x04) (hi := 0x08) h1 (by omega)]

/-- Every ring is disabled. -/
theorem on_clearRings_dropAll {f : Fld} (i : Nat) (hkey : 0x8000 ≤ f.key i 0 0 ∧ f.key i 0 0 < 0x1A000) (hr : f.apart HPT_STATUS.CFG_REJECT = true)
    (hl : f.apart HPT_LOST_COMP.COUNT = true) (hi : f.apart HPT_INFLIGHT.COUNT = true) (hf : f.reset i 0 0 = 0) :
    s.clearRings.dropAll.on f i = false := by
  rw [State.on, rd_dropAll_other _ hl hi, State.clearRings, rd_wr_apart _ hr, rd_clearRegs_in _ (by omega), hf]
  rfl

theorem clearRings_dropAll_hpt : s.clearRings.dropAll.hpt = { s.hpt with
    owed := [], accepted := s.hpt.accepted.map fun d => { d with lost := true }, fetching := [], fetched := [], posted := [],
    bindings := [], telq := [], sig := [], tqLost := [] } := rfl

theorem onlyHpt_dropAll : OnlyHpt s s.dropAll := by
  refine ((onlyHpt_wr s _ _ _ _ _ ?_).trans (onlyHpt_hpt _ _)).trans (onlyHpt_wr _ _ _ _ _ _ ?_)
  · simp only [hptKey, Fld.key, HPT_LOST_COMP.COUNT]
    omega
  · simp only [hptKey, Fld.key, HPT_INFLIGHT.COUNT]
    omega

theorem clearRings_dropAll_mem : s.clearRings.dropAll.mem = s.mem := by simp [State.clearRings, State.dropAll]

theorem onlyHpt_clearRings_dropAll : OnlyHpt s s.clearRings.dropAll :=
  ((reports_clearRings s).onlyHpt fun _ => id).trans (onlyHpt_dropAll _)

theorem clearRings_dropAll_frame : ∃ regs hpt, s.clearRings.dropAll = { s with regs := regs, hpt := hpt } := by
  have h := (onlyHpt_clearRings_dropAll s).1
  have hout : s.clearRings.dropAll.out = s.out ∧ s.clearRings.dropAll.free = s.free := by simp [State.clearRings, State.dropAll]
  rw [hout.1, hout.2] at h
  exact ⟨_, _, h⟩

end

section
variable (s : State) (die : Fin 2) (linkDown : Bool)

theorem hostReset_frame : ∃ regs mem hpt, s.hostReset die linkDown = { s with regs := regs, mem := mem, hpt := hpt } := by
  obtain ⟨regs, mem, hpt, h⟩ := resetEndpoint_frame s die linkDown
  obtain ⟨regs', hpt', h'⟩ := clearRings_dropAll_frame (s.resetEndpoint die linkDown)
  rw [hostReset_eq, h', h]
  split
  · exact ⟨regs', mem, hpt', rfl⟩
  · exact ⟨regs, mem, hpt, rfl⟩

theorem hostReset_regs {k : Nat} (hk : 0x800000 ≤ k % 0x80000000) : nget (s.hostReset die linkDown).regs k = nget s.regs k := by
  have hend := (reports_resetRegs s die linkDown).regs k (by omega)
  rw [hostReset_eq]
  split
  · exact ((onlyHpt_clearRings_dropAll _).2 k hk).trans hend
  · exact hend

theorem hostReset_loadB {a : Nat} (h : a < 0x4000000) : (s.hostReset die linkDown).loadB a = s.loadB a := by
  refine Eq.trans ?_ (loadB_resetEndpoint s die linkDown h)
  rw [hostReset_eq]
  split
  · exact memSame_of_mem (clearRings_dropAll_mem _) a
  · rfl

theorem rd_hostReset {f : Fld} (h : keptByRings f = true) (i j k : Nat) :
    (s.hostReset die linkDown).rd f i j k = (s.resetRegs die linkDown).rd f i j k := by
  rw [hostReset_eq]
  split
  · exact (rd_clearRings_dropAll _ h i j k).trans (rd_resetEndpoint s die linkDown i j k)
  · exact rd_resetEndpoint s die linkDown i j k

theorem hostReset_accepted : (s.hostReset die linkDown).hpt.accepted.map (fun d => d.id) = s.hpt.accepted.map fun d => d.id := by
  have hacc : (s.resetEndpoint die linkDown).hpt.accepted = s.hpt.accepted :=
    (congrArg Hpt.accepted (resetEndpoint_hpt s die linkDown) :)
  rw [hostReset_eq]
  split
  · rw [clearRings_dropAll_hpt, hacc, List.map_map]
    rfl
  · rw [hacc]

/-- At the active die the rings and all that they hold go (R79). -/
theorem hostReset_active (h : s.isActive die = true) :
    (∀ ring : Fin 64, (s.hostReset die linkDown).on HPT_SQ_CFG.ENABLE ring = false ∧
      (s.hostReset die linkDown).on HPT_CQ_CFG.ENABLE ring = false) ∧
    (s.hostReset die linkDown).hpt.owed = [] ∧ (s.hostReset die linkDown).hpt.bindings = [] ∧
    (s.hostReset die linkDown).hpt.fetched = [] ∧ (s.hostReset die linkDown).hpt.fetching = [] ∧
    (s.hostReset die linkDown).hpt.accepted.all (fun d => d.lost) = true := by
  rw [hostReset_eq, if_pos h, clearRings_dropAll_hpt]
  refine ⟨fun ring => ⟨?_, ?_⟩, rfl, rfl, rfl, rfl, by simp⟩
  · refine on_clearRings_dropAll _ ring ?_ (by decide) (by decide) (by decide) rfl
    simp only [Fld.key, HPT_SQ_CFG.ENABLE]
    omega
  · refine on_clearRings_dropAll _ ring ?_ (by decide) (by decide) (by decide) rfl
    simp only [Fld.key, HPT_CQ_CFG.ENABLE]
    omega

theorem hostReset_pba {c : Nat × Nat} (h : c ∈ (s.hostReset die linkDown).hpt.pba) : c.1 / 256 ≠ die := by
  rw [hostReset_eq] at h
  split at h
  · exact resetEndpoint_pba s die linkDown (by rwa [clearRings_dropAll_hpt] at h)
  · exact resetEndpoint_pba s die linkDown h

/-- At another die the rings stay (R79). -/
theorem hostReset_inactive (h : s.isActive die = false) :
    (s.hostReset die linkDown).hpt = { s.hpt with pba := (s.hostReset die linkDown).hpt.pba } ∧
      ∀ k, 0x2000 ≤ k → k < 0x80000000 → nget (s.hostReset die linkDown).regs k = nget s.regs k := by
  rw [hostReset_eq, if_neg (by simp [h])]
  exact ⟨resetEndpoint_hpt s die linkDown, fun k h1 h2 => (reports_resetRegs s die linkDown).regs k (by omega)⟩

theorem rd_hostReset_headless : (s.hostReset die linkDown).rd HPT_STATUS.HEADLESS die = 1 :=
  (rd_hostReset s die linkDown (by decide) _ _ _).trans (rd_resetRegs_headless s die linkDown)

/-- A reset that leaves the link up leaves what it reports (R80). -/
theorem rd_hostReset_linkUp {f : Fld} (h : f ∈ [HPT_STATUS.LINK_UP, HPT_STATUS.LINK_WIDTH, HPT_STATUS.LINK_SPEED]) :
    (s.hostReset die false).rd f die = s.rd f die := by
  have hall : ∀ f ∈ [HPT_STATUS.LINK_UP, HPT_STATUS.LINK_WIDTH, HPT_STATUS.LINK_SPEED], keptByRings f = true ∧
    f.avoids 0x60 0xE0 = true ∧ f.apart HPT_STATUS.HEADLESS = true ∧ f.apart HPT_HEADLESS_CNT.COUNT = true := by decide
  obtain ⟨hk, he, hh, hc⟩ := hall f h
  exact (rd_hostReset s die false hk _ _ _).trans (rd_resetRegs_other s die false _ _ _ he hh hc nofun)

theorem rd_hostReset_linkDown : (s.hostReset die true).rd HPT_STATUS.LINK_UP die = 0 ∧
    (s.hostReset die true).rd HPT_STATUS.LINK_WIDTH die = 0 ∧ (s.hostReset die true).rd HPT_STATUS.LINK_SPEED die = 0 := by
  obtain ⟨hup, hwidth, hspeed⟩ := rd_resetRegs_linkDown s die
  exact ⟨(rd_hostReset s die true (by decide) _ _ _).trans hup, (rd_hostReset s die true (by decide) _ _ _).trans hwidth,
    (rd_hostReset s die true (by decide) _ _ _).trans hspeed⟩

end

/-! Each reset. -/

section
variable (s : State) (die : Fin 2)

/-- A reset that takes the link down changes the pins too, or raises an occurrence. -/
theorem exec_linkDown : ∀ c ∈ [Instr.perstAssert die, .hotReset die, .linkDisable die, .dataLinkLoss die], ∃ pins saf,
    exec c s = .next { s.hostReset die true with pins := pins, saf := saf } := by
  simp only [List.forall_mem_cons, List.not_mem_nil, false_imp_iff, implies_true, and_true]
  exact ⟨⟨_, _, rfl⟩, ⟨_, _, rfl⟩, ⟨_, _, rfl⟩, ⟨_, _, rfl⟩⟩

theorem exec_linkUp : ∀ c ∈ [Instr.functionLevelReset die, .returnFromD3hot die], exec c s = .next (s.hostReset die false) := by
  simp only [List.forall_mem_cons, List.not_mem_nil, false_imp_iff, implies_true, and_true]
  exact ⟨rfl, rfl⟩

theorem exec_reset {c : Instr} (hc : c ∈ [Instr.perstAssert die, .hotReset die, .linkDisable die, .dataLinkLoss die,
    .functionLevelReset die, .returnFromD3hot die]) : ∃ linkDown pins saf,
      exec c s = .next { s.hostReset die linkDown with pins := pins, saf := saf } := by
  rcases List.mem_append.mp (show c ∈ [Instr.perstAssert die, .hotReset die, .linkDisable die, .dataLinkLoss die] ++
    [.functionLevelReset die, .returnFromD3hot die] from hc) with hc | hc
  · obtain ⟨pins, saf, h⟩ := exec_linkDown s die c hc
    exact ⟨true, pins, saf, h⟩
  · exact ⟨false, _, _, exec_linkUp s die c hc⟩

/-- Training ends with the width and speed that it reached (R80). -/
theorem linkTrained_eq {width : Fin 5} {speed : Fin 6} (ht : nget s.pins.training die ≠ 0) (hp : nget s.pins.perst die = 0)
    (hd : 2 ≤ s.rd PWR_STATUS.DAWN_STEP) (hw : width.val = 1 ∨ width.val = 2 ∨ width.val = 4) (hs : speed.val ≠ 0) :
    exec (.linkTrained die width speed) s = .next { (((s.wr HPT_STATUS.LINK_UP 1 die).wr HPT_STATUS.LINK_WIDTH width die).wr
      HPT_STATUS.LINK_SPEED speed die) with pins := { s.pins with training := nset s.pins.training die 0 } } :=
  congrArg Host.Outcome.next (if_neg (by omega))

end

/-! #### Enables (R68, R80 to R83) -/

section
variable {s : State} {die : Fin 2} {ring : Fin 64}

theorem hptCtlEnable_on (h : s.bar0 die 0x04 = .act) :
    exec (.hptCtlEnable die true) s = .next ((s.wr HPT_CTL.ENABLE 1).wr HPT_STATUS.HEADLESS 0 die) :=
  congrArg Host.Outcome.next (viaBar0_act h _)

theorem hptCtlEnable_off (h : s.bar0 die 0x04 = .act) : exec (.hptCtlEnable die false) s = .next (s.wr HPT_CTL.ENABLE 0) :=
  congrArg Host.Outcome.next (viaBar0_act h _)

theorem sqEnable_on (h : s.bar0 die (0x1008 + 0x40 * ring) = .act) (hon : s.on HPT_SQ_CFG.ENABLE ring = false)
    (hcq : s.on HPT_CQ_CFG.ENABLE (s.rd HPT_SQ_CFG.CQ ring) = true)
    (hdom : s.rd HPT_RING_DOMAIN.DOMAIN (s.rd HPT_SQ_CFG.CQ ring) = s.rd HPT_RING_DOMAIN.DOMAIN ring) :
    exec (.sqEnable die ring true) s =
      .next (((s.wr HPT_SQ_CFG.ENABLE 1 ring).wr HPT_SQ_HEAD.HEAD 0 ring).wr HPT_SQ_TAIL.TAIL 0 ring) := by
  refine congrArg Host.Outcome.next ((viaBar0_act h _).trans ((if_neg (by simp [hon])).trans ((if_pos rfl).trans (if_neg ?_))))
  simp [hcq, State.ringDom, hdom]

theorem sqEnable_refused (h : s.bar0 die (0x1008 + 0x40 * ring) = .act) (hon : s.on HPT_SQ_CFG.ENABLE ring = false)
    (hbad : s.on HPT_CQ_CFG.ENABLE (s.rd HPT_SQ_CFG.CQ ring) = false ∨
      s.rd HPT_RING_DOMAIN.DOMAIN (s.rd HPT_SQ_CFG.CQ ring) ≠ s.rd HPT_RING_DOMAIN.DOMAIN ring) :
    exec (.sqEnable die ring true) s = .next (s.wr HPT_STATUS.CFG_REJECT 1) := by
  refine congrArg Host.Outcome.next ((viaBar0_act h _).trans ((if_neg (by simp [hon])).trans ((if_pos rfl).trans (if_pos ?_))))
  simpa [State.ringDom] using hbad

/-- A disabled submission ring has no error, and no fetch or fetched descriptor. -/
theorem sqEnable_off (h : s.bar0 die (0x1008 + 0x40 * ring) = .act) (hon : s.on HPT_SQ_CFG.ENABLE ring = true) :
    exec (.sqEnable die ring false) s = .next (((s.wr HPT_SQ_CFG.ENABLE 0 ring).wr HPT_SQ_STATUS.ERROR 0 ring).withHpt
      { s.hpt with fetching := s.hpt.fetching.filter fun f => f.1 != ring.val,
                   fetched := s.hpt.fetched.filter fun f => f.1 != ring.val }) :=
  congrArg Host.Outcome.next ((viaBar0_act h _).trans ((if_neg (by simp [hon])).trans (if_neg (by simp))))

theorem cqEnable_on (h : s.bar0 die (0x2008 + 0x40 * ring) = .act) (hon : s.on HPT_CQ_CFG.ENABLE ring = false) :
    exec (.cqEnable die ring true) s = .next ((((((s.wr HPT_CQ_CFG.ENABLE 1 ring).wr HPT_CQ_TAIL.TAIL 0 ring).wr
      HPT_CQ_HEAD.HEAD 0 ring).wr HPT_CQ_TAIL.PHASE 1 ring).wr HPT_CQ_SEQ.SEQ 0 ring).withHpt
        { s.hpt with posted := s.hpt.posted.filter fun p => p.c.cq != ring.val, sig := adel s.hpt.sig ring }) :=
  congrArg Host.Outcome.next ((viaBar0_act h _).trans ((if_neg (by simp [hon])).trans (if_pos rfl)))

/-- A completion ring that an enabled submission ring names stays enabled. -/
theorem cqEnable_refused {r : Fin 64} (h : s.bar0 die (0x2008 + 0x40 * ring) = .act) (hon : s.on HPT_CQ_CFG.ENABLE ring = true)
    (hr : s.on HPT_SQ_CFG.ENABLE r = true) (hcq : s.rd HPT_SQ_CFG.CQ r = ring.val) :
    exec (.cqEnable die ring false) s = .next (s.wr HPT_STATUS.CFG_REJECT 1) := by
  refine congrArg Host.Outcome.next ((viaBar0_act h _).trans ((if_neg (by simp [hon])).trans ((if_neg (by simp)).trans (if_pos ?_))))
  exact List.any_eq_true.mpr ⟨r, List.mem_range.mpr r.isLt, by simp [hr, hcq]⟩

/-- The state in which a completion ring is off, and its completions are dropped and counted. -/
def State.cqOff (s : State) (ring : Nat) : State :=
  ((s.wr HPT_CQ_CFG.ENABLE 0 ring).bump HPT_LOST_COMP.COUNT (s.hpt.owed.filter fun c => c.cq == ring).length s.active).withHpt
    { s.hpt with owed := s.hpt.owed.filter fun c => c.cq != ring,
                 accepted := s.hpt.accepted.map fun d => if d.cq == ring then { d with lost := true } else d }

/-- The registers that count what is in execution and what waits follow a ring that is off. -/
def State.cqOffReports (s : State) (ring : Nat) : State :=
  (List.range 64).foldl (fun t r => t.wr HPT_SQ_STATUS.INFLIGHT (t.inflight r) r)
    (((s.wr HPT_INFLIGHT.COUNT s.allInflight).wr HPT_CQ_STATUS.HELD 0 ring).wr HPT_CQ_STATUS.STALL 0 ring)

theorem cqEnable_off (h : s.bar0 die (0x2008 + 0x40 * ring) = .act) (hon : s.on HPT_CQ_CFG.ENABLE ring = true)
    (hfree : ∀ r : Fin 64, s.on HPT_SQ_CFG.ENABLE r = true → s.rd HPT_SQ_CFG.CQ r ≠ ring.val) :
    exec (.cqEnable die ring false) s = .next ((s.cqOff ring).cqOffReports ring) := by
  refine congrArg Host.Outcome.next ((viaBar0_act h _).trans ((if_neg (by simp [hon])).trans ((if_neg (by simp)).trans (if_neg ?_))))
  simpa using fun r hr => hfree ⟨r, hr⟩

/-- What the reports of a ring that goes off may change. -/
def cqOffKey (k : Nat) : Prop := k = HPT_INFLIGHT.COUNT.key 0 0 0 ∨ (∃ r, k = HPT_CQ_STATUS.HELD.key r 0 0) ∨
  (∃ r, k = HPT_CQ_STATUS.STALL.key r 0 0) ∨ ∃ r, k = HPT_SQ_STATUS.INFLIGHT.key r 0 0

theorem reports_cqOff (s : State) (ring : Nat) : Reports cqOffKey s (s.cqOffReports ring) :=
  List.foldlRecOn _ _ (((reports_wr s _ _ _ _ _ (.inl rfl)).wr _ _ _ _ _ (.inr (.inl ⟨_, rfl⟩))).wr _ _ _ _ _ (.inr (.inr (.inl ⟨_, rfl⟩))))
    fun _ ht _ _ => ht.wr _ _ _ _ _ (.inr (.inr (.inr ⟨_, rfl⟩)))

theorem hptKey_of_cqOffKey {k : Nat} (h : cqOffKey k) : hptKey k := by
  rcases h with rfl | ⟨r, rfl⟩ | ⟨r, rfl⟩ | ⟨r, rfl⟩
  all_goals simp only [hptKey, Fld.key, HPT_INFLIGHT.COUNT, HPT_CQ_STATUS.HELD, HPT_CQ_STATUS.STALL, HPT_SQ_STATUS.INFLIGHT]; omega

theorem onlyHpt_cqOff (s : State) (ring : Nat) : OnlyHpt s (s.cqOff ring) := by
  refine ((onlyHpt_wr s _ _ _ _ _ ?_).trans (onlyHpt_wr _ _ _ _ _ _ ?_)).trans (onlyHpt_hpt _ _)
  · simp only [hptKey, Fld.key, HPT_CQ_CFG.ENABLE]
    omega
  · simp only [hptKey, Fld.key, HPT_LOST_COMP.COUNT]
    omega

/-- The reports leave the ring's enable. -/
theorem rd_cqOffReports_enable (s : State) (ring : Nat) :
    ((s.cqOff ring).cqOffReports ring).rd HPT_CQ_CFG.ENABLE ring = 0 := by
  have hk : ¬ cqOffKey (HPT_CQ_CFG.ENABLE.key ring 0 0) := by
    rintro (e | ⟨r, e⟩ | ⟨r, e⟩ | ⟨r, e⟩) <;> exact Fld.key_ne (by decide) _ _ _ _ _ _ e
  rw [(reports_cqOff _ ring).rd hk]
  refine (rd_wr_apart (s.wr HPT_CQ_CFG.ENABLE 0 ring) (by decide) _ _ _ _ _ _ _).trans ?_
  rw [rd_wr_same, Nat.zero_mod]

end

section
variable {s : State} {die : Fin 2} {ring : Fin 16}

theorem tqEnable_on (h : s.bar0 die (0x3008 + 0x40 * ring) = .act) (hon : s.on HPT_TQ_CFG.ENABLE ring = false) :
    exec (.tqEnable die ring true) s = .next (((((((s.wr HPT_TQ_CFG.ENABLE 1 ring).wr HPT_TQ_TAIL.TAIL 0 ring).wr
      HPT_TQ_HEAD.HEAD 0 ring).wr HPT_TQ_TAIL.PHASE 1 ring).wr HPT_TQ_SEQ.SEQ 0 ring).wr HPT_TQ_LOST.COUNT 0 ring).withHpt
        { s.hpt with sig := adel s.hpt.sig (64 + ring), tqLost := nset s.hpt.tqLost ring 0 }) :=
  congrArg Host.Outcome.next ((viaBar0_act h _).trans ((if_neg (by simp [hon])).trans (if_pos rfl)))

theorem tqEnable_off (h : s.bar0 die (0x3008 + 0x40 * ring) = .act) (hon : s.on HPT_TQ_CFG.ENABLE ring = true) :
    exec (.tqEnable die ring false) s = .next (s.wr HPT_TQ_CFG.ENABLE 0 ring) :=
  congrArg Host.Outcome.next ((viaBar0_act h _).trans ((if_neg (by simp [hon])).trans (if_neg (by simp))))

end

/-- The link that has been trained to. -/
theorem linkTrained_rd (s : State) (die : Fin 2) (width : Fin 5) (speed : Fin 6) :
    let t := ((s.wr HPT_STATUS.LINK_UP 1 die).wr HPT_STATUS.LINK_WIDTH width die).wr HPT_STATUS.LINK_SPEED speed die
    t.rd HPT_STATUS.LINK_UP die = 1 ∧ t.rd HPT_STATUS.LINK_WIDTH die = width.val ∧ t.rd HPT_STATUS.LINK_SPEED die = speed.val := by
  refine ⟨?_, ?_, ?_⟩
  · simp (disch := decide) only [rd_wr_apart, rd_wr_same]
    decide
  · simp (disch := decide) only [rd_wr_apart, rd_wr_same]
    exact Nat.mod_eq_of_lt (by simp only [HPT_STATUS.LINK_WIDTH]; omega)
  · simp (disch := decide) only [rd_wr_same]
    exact Nat.mod_eq_of_lt (by simp only [HPT_STATUS.LINK_SPEED]; omega)

theorem rd_withHpt (s : State) (h : Hpt) (f : Fld) (i j k : Nat) : (s.withHpt h).rd f i j k = s.rd f i j k := rfl

/-- A one-bit field that is written with 1, or 0, reads so. -/
theorem rd_wr_one (s : State) {f : Fld} (h : f.w = 1) (i j k : Nat) : (s.wr f 1 i j k).rd f i j k = 1 := by
  rw [rd_wr_same, h]
  rfl

theorem rd_wr_zero (s : State) (f : Fld) (i j k : Nat) : (s.wr f 0 i j k).rd f i j k = 0 := by
  rw [rd_wr_same, Nat.zero_mod]

end Sys2Proof.Machine

open Sys2Proof Sys2Proof.Machine

/-- Settles O13: a reset by its steps, each of which names what it clears; then each enable by its branch. -/
theorem hostSideResetsAndEnables : Obligations.HostSideResetsAndEnables := by
  unfold Obligations.HostSideResetsAndEnables
  refine ⟨⟨fun s die c hc => ?_, fun s die c hc => ?_, fun s die c hc => ?_, fun s die => ?_, fun s die width speed ht hp hd hw hs => ?_⟩,
    fun s die h => ?_, fun s die h => ?_, fun s die ring h hon hcq hdom => ?_, fun s die ring h hon hbad => ?_, fun s die ring h hon => ?_,
    fun s die ring h hon => ?_, fun s die ring r h hon hr hcq => ?_, fun s die ring h hon => ?_, fun s die ring h hon hfree => ?_,
    fun s die ring h hon => ?_⟩
  · obtain ⟨linkDown, pins, saf, hexec⟩ := exec_reset s die hc
    obtain ⟨regs, mem, hpt, hframe⟩ := hostReset_frame s die linkDown
    refine ⟨_, hexec, ?_, fun k => hostReset_regs s die linkDown, fun a => hostReset_loadB s die linkDown, rd_hostReset_headless s die linkDown,
      (rd_hostReset s die linkDown (by decide) _ _ _).trans (rd_resetRegs_count s die linkDown), hostReset_accepted s die linkDown,
      hostReset_active s die linkDown, fun c => hostReset_pba s die linkDown, hostReset_inactive s die linkDown⟩
    rw [hframe]
  · obtain ⟨pins, saf, hexec⟩ := exec_linkDown s die c hc
    exact ⟨_, hexec, rd_hostReset_linkDown s die⟩
  · obtain ⟨regs, mem, hpt, hframe⟩ := hostReset_frame s die false
    refine ⟨_, exec_linkUp s die c hc, rd_hostReset_linkUp s die (by decide), rd_hostReset_linkUp s die (by decide),
      rd_hostReset_linkUp s die (by decide), ?_⟩
    rw [hframe]
  · exact ⟨_, rfl, rfl, nget_nset_same s.pins.perst die 0⟩
  · obtain ⟨hup, hwidth, hspeed⟩ := linkTrained_rd s die width speed
    have honly := ((onlyRegs_wr (l := [HPT_STATUS.LINK_UP.key die 0 0, HPT_STATUS.LINK_WIDTH.key die 0 0, HPT_STATUS.LINK_SPEED.key die 0 0])
      s HPT_STATUS.LINK_UP 1 die 0 0 (by simp)).wr HPT_STATUS.LINK_WIDTH width die 0 0 (by simp)).wr HPT_STATUS.LINK_SPEED speed die 0 0
      (by simp)
    exact ⟨_, linkTrained_eq s die ht hp hd hw hs, hup, hwidth, hspeed, nget_nset_same s.pins.training die 0, rfl, honly.2⟩
  · refine ⟨_, hptCtlEnable_on h, ?_, rd_wr_zero _ _ _ _ _, (onlyRegs_wr s _ _ _ _ _ (by simp)).wr _ _ _ _ _ (by simp)⟩
    rw [rd_wr_apart _ (by decide)]
    exact rd_wr_one s rfl _ _ _
  · exact ⟨_, hptCtlEnable_off h, rd_wr_zero _ _ _ _ _, rd_wr_apart s (by decide) _ _ _ _ _ _ _, onlyRegs_wr s _ _ _ _ _ (by simp)⟩
  · refine ⟨_, sqEnable_on h hon hcq hdom, ?_, ?_, rd_wr_zero _ _ _ _ _,
      ((onlyRegs_wr s _ _ _ _ _ (by simp)).wr _ _ _ _ _ (by simp)).wr _ _ _ _ _ (by simp)⟩
    · rw [rd_wr_apart _ (by decide), rd_wr_apart _ (by decide), rd_wr_one s rfl]
    · rw [rd_wr_apart _ (by decide), rd_wr_zero]
  · exact ⟨_, sqEnable_refused h hon hbad, rd_wr_one s rfl _ _ _, onlyRegs_wr s _ _ _ _ _ (by simp)⟩
  · refine ⟨_, sqEnable_off h hon, ?_, rd_wr_zero _ _ _ _ _, rfl, fun f hf => ?_, ?_⟩
    · refine (rd_wr_apart (s.wr HPT_SQ_CFG.ENABLE 0 ring) (by decide) _ _ _ _ _ _ _).trans (rd_wr_zero _ _ _ _ _)
    · simpa using (List.mem_filter.mp hf).2
    · refine ((onlyHpt_wr s _ _ _ _ _ ?_).trans (onlyHpt_wr _ _ _ _ _ _ ?_)).trans (onlyHpt_hpt _ _)
      all_goals simp only [hptKey, Fld.key, HPT_SQ_CFG.ENABLE, HPT_SQ_STATUS.ERROR]; omega
  · refine ⟨_, cqEnable_on h hon, ?_, ?_, ?_, ?_, ?_, rfl, rfl, ?_⟩
    case refine_6 =>
      refine (((((onlyHpt_wr s _ _ _ _ _ ?_).trans (onlyHpt_wr _ _ _ _ _ _ ?_)).trans (onlyHpt_wr _ _ _ _ _ _ ?_)).trans
        (onlyHpt_wr _ _ _ _ _ _ ?_)).trans (onlyHpt_wr _ _ _ _ _ _ ?_)).trans (onlyHpt_hpt _ _)
      all_goals
        simp only [hptKey, Fld.key, HPT_CQ_CFG.ENABLE, HPT_CQ_TAIL.TAIL, HPT_CQ_HEAD.HEAD, HPT_CQ_TAIL.PHASE, HPT_CQ_SEQ.SEQ]
        omega
    all_goals simp (disch := decide) only [rd_withHpt, rd_wr_apart, rd_wr_one, rd_wr_zero]
  · exact ⟨_, cqEnable_refused h hon hr hcq, rd_wr_one s rfl _ _ _, onlyRegs_wr s _ _ _ _ _ (by simp)⟩
  · refine ⟨_, tqEnable_on h hon, ?_, ?_, ?_, ?_, ?_, ?_, ?_⟩
    case refine_7 =>
      refine ((((((onlyHpt_wr s _ _ _ _ _ ?_).trans (onlyHpt_wr _ _ _ _ _ _ ?_)).trans (onlyHpt_wr _ _ _ _ _ _ ?_)).trans
        (onlyHpt_wr _ _ _ _ _ _ ?_)).trans (onlyHpt_wr _ _ _ _ _ _ ?_)).trans (onlyHpt_wr _ _ _ _ _ _ ?_)).trans (onlyHpt_hpt _ _)
      all_goals
        simp only [hptKey, Fld.key, HPT_TQ_CFG.ENABLE, HPT_TQ_TAIL.TAIL, HPT_TQ_HEAD.HEAD, HPT_TQ_TAIL.PHASE, HPT_TQ_SEQ.SEQ,
          HPT_TQ_LOST.COUNT]
        omega
    all_goals simp (disch := decide) only [rd_withHpt, rd_wr_apart, rd_wr_one, rd_wr_zero]
  · have hhpt := (reports_cqOff (s.cqOff ring) ring).hpt
    refine ⟨_, cqEnable_off h hon hfree, rd_cqOffReports_enable s ring, (congrArg Hpt.owed hhpt :), ?_,
      (onlyHpt_cqOff s ring).trans ((reports_cqOff _ ring).onlyHpt fun _ => hptKey_of_cqOffKey)⟩
    have hacc : ((s.cqOff ring).cqOffReports ring).hpt.accepted = (s.cqOff ring).hpt.accepted := (congrArg Hpt.accepted hhpt :)
    rw [hacc]
    refine (List.map_map ..).trans (List.map_congr_left fun d _ => ?_)
    show Desc.id (if _ then _ else _) = _
    split <;> rfl
  · exact ⟨_, tqEnable_off h hon, rd_wr_zero _ _ _ _ _, onlyRegs_wr s _ _ _ _ _ (by simp)⟩

end

section
/-! TABLE_DMA and the telemetry bindings (R62 to R64, R74, R75). -/
namespace Sys2Proof.Machine

/-! #### What a tenant may touch (R63) -/

/-- What a tenant may touch rests on memory, the stored plans, the profiles and the owners of the players. -/
theorem tenantMay_congr {s t : State} (hmem : t.mem = s.mem) (hpln : t.pln = s.pln) (hprf : t.prf = s.prf)
    (hown : ∀ p, t.rd PRF_PL_OWNER.DOMAIN p = s.rd PRF_PL_OWNER.DOMAIN p) (dom addr : Nat) (write : Bool) :
    t.tenantMay dom addr write = s.tenantMay dom addr write := by
  have hload (a n : Nat) : t.load a n = s.load a n := load_of_mem hmem a n
  have hlisted (base size count : Nat) : t.listed base size count = s.listed base size count := by
    rw [State.listed, State.listed, hmem]
  simp only [State.tenantMay, State.elem, State.port, State.programs, State.progStart, State.progLen, State.chDomain, State.elemAt,
    State.validElems, State.toneReadable, State.presentPorts, State.srcOwner, State.chanDom, hload, hlisted, hpln, hprf, hown]
  rfl

/-- A reported error takes nothing from what a tenant may touch. -/
theorem tenantMay_hptError (s : State) (die b ring a dom addr : Nat) (write : Bool) :
    (s.hptError die b ring a).tenantMay dom addr write = s.tenantMay dom addr write := by
  have hr := reports_hptError s die b ring a
  exact tenantMay_congr hr.mem (congrArg State.pln hr.frame :) (congrArg State.prf hr.frame :)
    (fun p => hr.rd (not_errKey (by decide) _ _ _)) dom addr write

/-! #### TABLE_DMA by its branches -/

theorem poisoned_false (s : State) (id : Nat) : s.poisoned false id = s := by
  unfold State.poisoned
  split <;> rfl

/-- What TABLE_DMA does to the state in which its data have come. -/
def State.tableDma (s : State) (d : Desc) (data : List DWord) (ecc : Option EccHit) : State :=
  if !dmaBodyOk d then s.done d stBadField
  else if d.dom != 0 && !(List.range (dmaLen d / 8)).all (fun i => s.tenantMay d.dom (dmaOff d + 8 * i) (dmaIn d)) then
    s.done d stDomainDenied
  else if dmaIn d then
    let r := s.dmaWords (dmaOff d) (data.take (dmaLen d / 8))
    if data.length < dmaLen d / 8 then r.1.done d stDmaError (some data.length) else r.1.done d stOK (some r.2)
  else match ecc with
    | some _ => (s.eccHit ecc).done d stMemUncorr
    | none => (s.toHost (d.fld 8 8) (s.dmaBytes (dmaOff d) (dmaLen d / 8))).done d stOK (some 0)

theorem tableDma_runs {s : State} {id : Nat} {d : Desc} (h : Runs s id opTableDma d) (data : List DWord) (ecc : Option EccHit) (p : Bool) :
    exec (.tableDma id ⟨data, p⟩ ecc) s = .next ((s.poison p d.ring d.hostAddr).tableDma d data ecc) := by
  have hpoison : s.poisoned p id = s.poison p d.ring d.hostAddr := by rw [State.poisoned, h.1]
  have hruns : Runs (s.poison p d.ring d.hostAddr) id opTableDma d := by
    refine ⟨?_, h.2⟩
    have hr : Reports errKey s (s.poison p d.ring d.hostAddr) := reports_ite (reports_hptError _ _ _ _ _) (reports_refl _ _)
    rw [State.desc, hr.hpt]
    exact h.1
  show execTableDma _ _ _ _ = _
  rw [execTableDma, hpoison]
  exact congrArg Host.Outcome.next (withOp_of_runs hruns _)

/-- A poisoned TLP adds what the Host Port reports of it, and nothing else (R81). -/
theorem reports_poison (s : State) (p : Bool) (ring a : Nat) : Reports errKey s (s.poison p ring a) :=
  reports_ite (reports_hptError _ _ _ _ _) (reports_refl _ _)

theorem tenantMay_poison (s : State) (p : Bool) (ring a dom addr : Nat) (write : Bool) :
    (s.poison p ring a).tenantMay dom addr write = s.tenantMay dom addr write := by
  cases p
  · rfl
  · exact tenantMay_hptError _ _ _ _ _ _ _ _

/-- A descriptor that completes after a poisoned TLP completes as it would have without. -/
theorem done_poison (s : State) (p : Bool) (ring a : Nat) (d : Desc) (st : Nat) :
    Completed d st none s ((s.poison p ring a).done d st) ∧ OnlyHpt s ((s.poison p ring a).done d st) := by
  have hr := reports_poison s p ring a
  have hc := completed_done (s.poison p ring a) d st none
  have hacc : (s.poison p ring a).hpt.accepted = s.hpt.accepted := (congrArg Hpt.accepted hr.hpt :)
  have howed : (s.poison p ring a).hpt.owed = s.hpt.owed := (congrArg Hpt.owed hr.hpt :)
  unfold Completed at hc ⊢
  rw [hacc, howed] at hc
  exact ⟨hc, (hr.onlyHpt fun _ => hptKey_of_errKey).trans (onlyHpt_done _ _ _ _)⟩

section
variable {s : State} {d : Desc} {data : List DWord} {ecc : Option EccHit}

theorem tableDma_badBody (h : dmaBodyOk d = false) : s.tableDma d data ecc = s.done d stBadField := if_pos (by simp [h])

theorem tableDma_denied {i : Nat} (h : dmaBodyOk d = true) (hdom : d.dom ≠ 0) (hi : i < dmaLen d / 8)
    (hmay : s.tenantMay d.dom (dmaOff d + 8 * i) (dmaIn d) = false) : s.tableDma d data ecc = s.done d stDomainDenied := by
  refine (if_neg (by simp [h])).trans (if_pos ?_)
  simp only [Bool.and_eq_true, bne_iff_ne, Bool.not_eq_true', List.all_eq_false]
  exact ⟨hdom, i, List.mem_range.mpr hi, by simp [hmay]⟩

/-- What moves words: the body is valid and the domain may touch them all. -/
theorem tableDma_moves (h : dmaBodyOk d = true)
    (hmay : d.dom = 0 ∨ ∀ i < dmaLen d / 8, s.tenantMay d.dom (dmaOff d + 8 * i) (dmaIn d) = true) : s.tableDma d data ecc =
      if dmaIn d then
        if data.length < dmaLen d / 8 then
          (s.dmaWords (dmaOff d) (data.take (dmaLen d / 8))).1.done d stDmaError (some data.length)
        else (s.dmaWords (dmaOff d) (data.take (dmaLen d / 8))).1.done d stOK (some (s.dmaWords (dmaOff d) (data.take (dmaLen d / 8))).2)
      else match ecc with
        | some _ => (s.eccHit ecc).done d stMemUncorr
        | none => (s.toHost (d.fld 8 8) (s.dmaBytes (dmaOff d) (dmaLen d / 8))).done d stOK (some 0) := by
  refine (if_neg (by simp [h])).trans (if_neg ?_)
  simp only [Bool.and_eq_true, bne_iff_ne, Bool.not_eq_true', List.all_eq_false, not_and, not_exists]
  intro hdom i hi
  simp [(hmay.resolve_left hdom) i (List.mem_range.mp hi)]

end

/-- A word found uncorrectable is counted and raised: nothing is written or put out (R402). -/
theorem uncorrectable_mem_out (s : State) (die group tile addr : Nat) :
    (s.uncorrectable die group tile addr).mem = s.mem ∧ (s.uncorrectable die group tile addr).out = s.out := by
  unfold State.uncorrectable
  split <;> simp [State.raise]

theorem eccHit_mem_out (s : State) (ecc : Option EccHit) (tile : Nat) :
    (s.eccHit ecc tile).mem = s.mem ∧ (s.eccHit ecc tile).out = s.out := by
  cases ecc with
  | none => exact ⟨rfl, rfl⟩
  | some e => exact uncorrectable_mem_out _ _ _ _ _

/-! #### Telemetry bindings (R74, R75) -/

section
variable {s : State} {id : Nat} {d : Desc}

/-- The state with one more binding, whose records have not been formed yet. -/
def State.bind (s : State) (b : Binding) : State :=
  { s with
    hpt := { s.hpt with
      bindings := s.hpt.bindings ++ [b]
      period := s.hpt.period.filter fun c => c.1 / 65536 != b.num }
    cal := { s.cal with span := s.cal.span.filter fun c => c.1 / 128 != b.num } }

/-- A body of TELEMETRY_CFG_CREATE that domain 0 may use takes the lowest free number, if there is one. -/
theorem telemetryCfgCreate_valid (h : Runs s id opTelemetryCfg d) (hop : d.fld 8 1 = 1) (htq : d.fld 9 1 ≤ 15) (hz : d.fld 11 1 = 0)
    (hn : 1 ≤ d.fld 14 2) (hsrc : d.fld 12 2 + d.fld 14 2 ≤ telSources (d.fld 10 1))
    (hper : telPeriodOk (d.fld 10 1) (d.fld 16 4) = true) (hzeros : zeros d.bytes 20 44 = true) (hdom : d.dom = 0)
    (hring : s.rd HPT_RING_DOMAIN.DOMAIN (d.fld 9 1) = 0) : exec (.telemetryCfgCreate id) s =
      .next (match (List.range 64).find? fun n => s.hpt.bindings.all fun b => b.num != n with
        | none => s.done d stNoResource
        | some n => (s.bind ⟨n, d.dom, d.fld 9 1, d.fld 10 1, d.fld 12 2, d.fld 14 2, d.fld 16 4⟩).done d stOK (some n)) := by
  refine congrArg Host.Outcome.next ((withOp_of_runs h _).trans ((if_neg (by omega)).trans ((if_neg ?_).trans ((if_neg ?_).trans ?_))))
  · simp [hper, hzeros]
    omega
  · simp [State.ringDom, hring, hdom]
  · rfl

/-- The lowest number that no binding has. -/
theorem lowest_free {l : List Binding} {n : Nat} (hn : n < 64) (hfree : ∀ b ∈ l, b.num ≠ n)
    (hused : ∀ m < n, ∃ b ∈ l, b.num = m) : ((List.range 64).find? fun n => l.all fun b => b.num != n) = some n := by
  rw [List.find?_range_eq_some]
  refine ⟨by simpa using hfree, List.mem_range.mpr hn, fun m hm => ?_⟩
  simpa using hused m hm

theorem none_free {l : List Binding} (hused : ∀ m < 64, ∃ b ∈ l, b.num = m) :
    ((List.range 64).find? fun n => l.all fun b => b.num != n) = none := by
  simpa using fun m hm => hused m hm

/-- The state without a binding and its waiting records. -/
def State.unbound (s : State) (num : Nat) : State :=
  s.withHpt { s.hpt with
    bindings := s.hpt.bindings.filter fun x => x.num != num
    telq := s.hpt.telq.filter fun r => r.num != num }

theorem telemetryCfgRemove_runs (h : Runs s id opTelemetryCfg d) (hop : d.fld 8 1 = 0) : exec (.telemetryCfgRemove id) s =
    .next (if !zeros d.bytes 20 44 then s.done d stBadField
      else match s.hpt.bindings.find? fun b => b.num == d.fld 11 1 with
        | none => s.done d stBadField
        | some b => if b.dom ≠ d.dom then s.done d stDomainDenied
            else (s.unbound b.num).done d stOK) :=
  congrArg Host.Outcome.next ((withOp_of_runs h _).trans (if_neg (by omega)))

end

end Sys2Proof.Machine

open Sys2Proof Sys2Proof.Machine

/-- Settles O16: the branches of TABLE_DMA, over the state in which its data have come; a poisoned TLP adds a report alone. -/
theorem tableDmaMovesWords : Obligations.TableDmaMovesWords := by
  unfold Obligations.TableDmaMovesWords
  refine ⟨fun s id d data ecc p h hbody => ?_, fun s id d data ecc p i h hbody hdom hi hmay => ?_, fun s id d data h hbody hmay hin => ?_,
    fun s id d data e h hbody hdom hin => ?_, fun s id d data ecc h hbody hmay hin hlen => ?_,
    fun s id d data ecc h hbody hdom hin hlen => ?_, fun s id d data ecc h => ?_⟩
  · refine ⟨_, tableDma_runs h data ecc p, ?_⟩
    rw [tableDma_badBody hbody]
    exact done_poison _ _ _ _ _ _
  · refine ⟨_, tableDma_runs h data ecc p, ?_⟩
    rw [tableDma_denied hbody hdom hi ((tenantMay_poison _ _ _ _ _ _ _).trans hmay)]
    exact done_poison _ _ _ _ _ _
  · refine ⟨_, tableDma_runs h data none false, ?_⟩
    rw [show s.poison false d.ring d.hostAddr = s from rfl, tableDma_moves hbody (hin ▸ hmay), hin]
    exact ⟨completed_done (s.toHost _ _) _ _ _, (onlyHpt_emit s _).trans (onlyHpt_done _ _ _ _), done_mem_out _ _ _ _ List.mem_cons_self⟩
  · refine ⟨_, tableDma_runs h data (some e) false, ?_⟩
    rw [show s.poison false d.ring d.hostAddr = s from rfl, tableDma_moves hbody (.inl hdom), hin]
    obtain ⟨hmem, hout⟩ := eccHit_mem_out s (some e) 0
    refine ⟨(completed_done _ _ _ _).answered, ?_, fun die addr ro bs hb => ?_⟩
    · rw [← hmem]
      exact (congrArg State.mem (onlyHpt_done (s.eccHit (some e)) d stMemUncorr none).1 :)
    · rw [← hout]
      exact done_host_out _ _ _ _ hb
  · refine ⟨_, tableDma_runs h data ecc false, ?_⟩
    rw [show s.poison false d.ring d.hostAddr = s from rfl, tableDma_moves hbody (hin ▸ hmay), hin, if_pos rfl, if_neg (by omega),
      List.take_of_length_le (by omega)]
    exact ⟨completed_done _ _ _ _, onlyHpt_done _ _ _ _⟩
  · refine ⟨_, tableDma_runs h data ecc false, ?_⟩
    rw [show s.poison false d.ring d.hostAddr = s from rfl, tableDma_moves hbody (.inl hdom), hin, if_pos rfl, if_pos hlen,
      List.take_of_length_le (by omega)]
    exact completed_done _ _ _ _
  · have hleft : s.poisoned true id = s.hptError s.active 5 d.ring d.hostAddr := by
      rw [State.poisoned, h]
      rfl
    show execTableDma _ _ _ _ = execTableDma _ _ _ _
    rw [execTableDma, execTableDma, hleft, poisoned_false]

/-- Settles O17: a binding takes the first number that the others leave, or is removed with its records. -/
theorem telemetryBindings : Obligations.TelemetryBindings := by
  unfold Obligations.TelemetryBindings
  refine ⟨fun s id n d h hop htq hz hn hsrc hper hzeros hdom hring hlt hfree hused => ?_,
    fun s id d h hop htq hz hn hsrc hper hzeros hdom hring hused => ?_, fun s id d b h hop hzeros hb hdom => ?_,
    fun s id d h hop hb => ?_, fun s id d b h hop hzeros hb hdom => ?_⟩
  · refine ⟨_, telemetryCfgCreate_valid h hop htq hz hn hsrc hper hzeros hdom hring, ?_⟩
    rw [lowest_free hlt hfree hused, hdom]
    have honly := onlyHpt_done (s.bind ⟨n, 0, d.fld 9 1, d.fld 10 1, d.fld 12 2, d.fld 14 2, d.fld 16 4⟩) d stOK (some n)
    exact ⟨completed_done (s.bind _) _ _ _, done_bindings (s.bind _) _ _ _, memSame_of_mem (congrArg State.mem honly.1 :), honly.2⟩
  · refine ⟨_, telemetryCfgCreate_valid h hop htq hz hn hsrc hper hzeros hdom hring, ?_⟩
    rw [none_free hused]
    exact ⟨completed_done _ _ _ _, onlyHpt_done _ _ _ _, done_bindings _ _ _ _⟩
  · refine ⟨_, telemetryCfgRemove_runs h hop, ?_⟩
    have hnum : b.num = d.fld 11 1 := by simpa using List.find?_some hb
    rw [if_neg (by simp [hzeros]), hb]
    dsimp only
    rw [if_neg (not_not_intro hdom), hnum]
    exact ⟨completed_done (s.unbound (d.fld 11 1)) _ _ _, (onlyHpt_hpt s _).trans (onlyHpt_done _ _ _ _), done_bindings (s.unbound (d.fld 11 1)) d stOK none,
      done_telq (s.unbound (d.fld 11 1)) d stOK none⟩
  · refine ⟨_, telemetryCfgRemove_runs h hop, ?_⟩
    rw [hb, ite_self]
    exact ⟨completed_done _ _ _ _, onlyHpt_done _ _ _ _, done_bindings _ _ _ _⟩
  · refine ⟨_, telemetryCfgRemove_runs h hop, ?_⟩
    rw [if_neg (by simp [hzeros]), hb]
    dsimp only
    rw [if_pos hdom]
    exact ⟨completed_done _ _ _ _, onlyHpt_done _ _ _ _, done_bindings _ _ _ _⟩

end

section
/-! PLAN_LOAD and PLAN_CHECK (R91 to R94). -/
namespace Sys2Proof.Machine

/-! #### A load is refused, or its data is asked for (R92 steps 1 and 2) -/

section
variable {s : State} {id : Nat} {d : Desc}

theorem planLoad_waits (h : Runs s id opPlanLoad d) (hr : s.readSlot = false) : exec (.planLoad id) s = .next s :=
  congrArg Host.Outcome.next ((withOp_of_runs h _).trans (if_pos (by rw [hr, Bool.not_false, Bool.or_true])))

theorem planLoad_runs (h : Runs s id opPlanLoad d) (hl : s.pln.loads.contains id = false) (hr : s.readSlot = true) :
    exec (.planLoad id) s = .next (if !s.plnOn then s.done d stPlnDisabled
      else if !loadBodyOk d then s.done d stBadField
      else { (s.clocksOn 17).emit (.read s.active (d.fld 8 8) (loadLen d)) with
        pln := { (s.clocksOn 17).pln with loads := (s.clocksOn 17).pln.loads ++ [id] } }) :=
  congrArg Host.Outcome.next ((withOp_of_runs h _).trans (if_neg (by simp only [hl, hr]; simp)))

end

/-! #### The checks in their order (R92) -/

section
variable {s : State} {d : Desc} {data : List Byte}

theorem loadStatus_of_head {st : Nat} (h : s.headStatus d data = st) (hst : st ≠ stOK) : (s.loadStatus d data).1 = st := by
  rw [State.loadStatus, if_pos (by rwa [h]), h]

theorem loadStatus_of_ok (h : s.headStatus d data = stOK) : s.loadStatus d data = s.bodyStatus (data.take (loadLen d)) := by
  rw [State.loadStatus, if_neg (not_not_intro h)]

theorem headStatus_short (h : data.length < loadLen d) : s.headStatus d data = stDmaError := if_pos h

theorem headStatus_malformed (hlen : loadLen d ≤ data.length) (h : planWellFormed (data.take (loadLen d)) = false) :
    s.headStatus d data = stBadPlan := (if_neg (by omega)).trans (if_pos (by simp [h]))

theorem headStatus_foreign (hlen : loadLen d ≤ data.length) (hwf : planWellFormed (data.take (loadLen d)) = true)
    (hd : d.dom ≠ 0) (h : (planHdr (data.take (loadLen d))).domain ≠ d.dom) : s.headStatus d data = stDomainDenied :=
  (if_neg (by omega)).trans ((if_neg (by simp [hwf])).trans (if_pos ⟨hd, h⟩))

/-- A well-formed plan that domain 0 loads is busy where its PLAN_ID is stored. -/
theorem headStatus_own (hlen : loadLen d ≤ data.length) (hwf : planWellFormed (data.take (loadLen d)) = true) (hd : d.dom = 0) :
    s.headStatus d data = if (s.pln.plan (planHdr (data.take (loadLen d))).id).isSome then stPlanBusy else stOK :=
  (if_neg (by omega)).trans ((if_neg (by simp [hwf])).trans (if_neg (by simp [hd])))

theorem headStatus_ok (hlen : loadLen d ≤ data.length) (hwf : planWellFormed (data.take (loadLen d)) = true) (hd : d.dom = 0)
    (hfree : s.pln.plan (planHdr (data.take (loadLen d))).id = none) : s.headStatus d data = stOK :=
  (headStatus_own hlen hwf hd).trans (if_neg (by rw [hfree]; simp))

theorem bodyStatus_replay {bs : List Byte} (h : (planHdr bs).serial ≤ s.rd PLN_SERIAL.SERIAL (planHdr bs).domain) :
    s.bodyStatus bs = (stReplay, 0) := if_pos h

theorem bodyStatus_forged {bs : List Byte} (h : s.rd PLN_SERIAL.SERIAL (planHdr bs).domain < (planHdr bs).serial)
    (hkey : ∀ key, aget s.sec.keys (planHdr bs).domain = some key → hmac256 key (bs.take 32 ++ bs.drop 64) ≠ (bs.drop 32).take 32) :
    s.bodyStatus bs = (stAuthFail, 0) := by
  refine (if_neg (by omega)).trans ?_
  cases hk : aget s.sec.keys (planHdr bs).domain with
  | none => rfl
  | some key => exact if_pos (hkey key hk)

end

/-! #### PLAN_CHECK by its branches -/

/-- The bytes of the plan that a PLAN_CHECK looks at: those that stand in LOADING, or those read. -/
def State.checkedBytes (s : State) (d : Desc) (data : List Byte) : List Byte :=
  match s.pln.loading with
  | some l => l.2
  | none => data.take (loadLen d)

/-- The status that the checks of a PLAN_CHECK give, and the plan's slot. -/
def State.checkVerdict (s : State) (d : Desc) (data : List Byte) (half : Bool) : Nat × Nat :=
  if s.pln.loading.isSome then s.bodyStatus (s.checkedBytes d data)
  else if half then (s.headStatus d data, 0) else s.loadStatus d data

/-- The state in which the oldest load is none any more. -/
def State.unload (s : State) : State := { s with pln := { s.pln with loads := s.pln.loads.tail, loading := none } }

/-- The state in which a plan is stored, with its SERIAL kept. -/
def State.storePlan (s : State) (bs : List Byte) (base : Nat) : State :=
  ({ s.unload with pln := { s.unload.pln with plans :=
    s.unload.pln.plans ++ [{ id := (planHdr bs).id, base := base, bytes := bs, energy := s.planEnergy bs }] } } : State).wr
      PLN_SERIAL.SERIAL (planHdr bs).serial (planHdr bs).domain

theorem planCheck_runs {s : State} {id : Nat} {d : Desc} (h : Runs s id opPlanLoad d) (hhead : s.pln.loads.head? = some id)
    (data : List Byte) (half : Bool) (ecc : Option EccHit) : exec (.planCheck id ⟨data, false, half⟩ ecc) s =
      .next (if ecc.isSome then (s.unload.eccHit ecc).done d stMemUncorr
        else if half && s.pln.loading.isSome then s
        else if (s.checkVerdict d data half).1 ≠ stOK then s.unload.done d (s.checkVerdict d data half).1
        else if half then { s with pln := { s.pln with loading := some (id, s.checkedBytes d data) } }
        else (s.storePlan (s.checkedBytes d data) (s.checkVerdict d data half).2).done d stOK (s.checkVerdict d data half).2) := by
  show execPlanCheck _ _ _ _ = _
  rw [execPlanCheck, poisoned_false]
  exact congrArg Host.Outcome.next ((withOp_of_runs h _).trans (if_neg (not_not_intro hhead)))

/-- A stored plan's descriptor completes, and the store holds the plan and its SERIAL (R94). -/
theorem storePlan_done (s : State) (d : Desc) (bs : List Byte) (base : Nat) :
    ∃ t p, (s.storePlan bs base).done d stOK base = t ∧ Completed d stOK (some base) s t ∧
      t.pln.plans = s.pln.plans ++ [p] ∧ p.bytes = bs ∧ p.base = base ∧ p.id = (planHdr p.bytes).id ∧
      t.pln.loads = s.pln.loads.tail ∧ t.pln.loading = none ∧
      t.rd PLN_SERIAL.SERIAL (planHdr p.bytes).domain = (planHdr p.bytes).serial % 2 ^ 32 ∧ MemSame s t := by
  have hpln := done_pln (s.storePlan bs base) d stOK (some base)
  have hmem : ((s.storePlan bs base).done d stOK base).mem = s.mem :=
    (congrArg State.mem (onlyHpt_done (s.storePlan bs base) d stOK (some base)).1 :)
  refine ⟨_, ⟨(planHdr bs).id, base, bs, s.planEnergy bs⟩, rfl, completed_done (s.storePlan bs base) d stOK (some base),
    congrArg Pln.plans hpln, rfl, rfl, rfl, congrArg Pln.loads hpln, congrArg Pln.loading hpln, ?_, memSame_of_mem hmem⟩
  rw [rd_done_other _ _ _ _ (by decide)]
  exact rd_wr_same _ PLN_SERIAL.SERIAL _ _ 0 0

theorem uncorrectable_pln (s : State) (die group tile addr : Nat) : (s.uncorrectable die group tile addr).pln = s.pln := by
  unfold State.uncorrectable
  split <;> simp [State.raise]

end Sys2Proof.Machine

open Sys2Proof Sys2Proof.Machine

/-- Settles O18: a load is refused or asks for its data; its check takes the branch that the statuses of R92, in their order, give. -/
theorem plansAreLoadedAndChecked : Obligations.PlansAreLoadedAndChecked := by
  unfold Obligations.PlansAreLoadedAndChecked
  refine ⟨⟨fun s id d h hl hr hon => ?_, fun s id d h hl hr hon hbody => ?_, fun s id d h hl hr hon hbody => ?_,
      fun s id d h hr => planLoad_waits h hr, fun s id base d data h hhead hnone hst => ?_, fun s id d data h hhead hnone hst => ?_,
      fun s id d data h hhead hnone hst => ?_, fun s id base d bs data h hhead hsome hst => ?_, fun s id d data e half h hhead => ?_⟩,
    fun s d data hlen => loadStatus_of_head (headStatus_short hlen) (by decide),
    fun s d data hlen hwf => loadStatus_of_head (headStatus_malformed hlen hwf) (by decide),
    fun s d data hlen hwf hdom hne => loadStatus_of_head (headStatus_foreign hlen hwf hdom hne) (by decide),
    fun s d data hlen hwf hdom hbusy => loadStatus_of_head ((headStatus_own hlen hwf hdom).trans (if_pos hbusy)) (by decide),
    fun s d data hlen hwf hdom hfree hser => ?_, fun s d data hlen hwf hdom hfree hser hkey => ?_⟩
  · refine ⟨_, planLoad_runs h hl hr, ?_⟩
    rw [if_pos (by simp [State.plnOn, hon])]
    exact ⟨completed_done _ _ _ _, onlyHpt_done _ _ _ _⟩
  · refine ⟨_, planLoad_runs h hl hr, ?_⟩
    rw [if_neg (by simp [State.plnOn, hon]), if_pos (by simp [hbody])]
    exact ⟨completed_done _ _ _ _, onlyHpt_done _ _ _ _⟩
  · refine ⟨_, planLoad_runs h hl hr, ?_⟩
    rw [if_neg (by simp [State.plnOn, hon]), if_neg (by simp [hbody])]
    obtain ⟨regs, pwr, hclk⟩ : ∃ regs pwr, s.clocksOn 17 = { s with regs := regs, pwr := pwr } := ⟨_, _, clocksOn_eq s 17⟩
    have hoff := clockOff_clocksOn s (dom := 17) (by decide) (by decide)
    rw [hclk] at hoff ⊢
    refine ⟨rfl, rfl, rfl, hoff, fun hrun => ?_⟩
    rw [clocksOn_of_running hrun] at hclk
    exact ⟨(congrArg State.regs hclk).symm, (congrArg State.pwr hclk).symm⟩
  · have hv : s.checkVerdict d data false = (stOK, base) := by
      rw [State.checkVerdict, hnone]
      exact hst
    have hbs : s.checkedBytes d data = data.take (loadLen d) := by rw [State.checkedBytes, hnone]
    obtain ⟨t, p, ht, hall⟩ := storePlan_done s d (data.take (loadLen d)) base
    obtain ⟨hc, hplans, hbytes, hrest⟩ := hall
    refine ⟨t, p, (planCheck_runs h hhead data false none).trans ?_, hc, hplans, hbytes, hrest⟩
    rw [hv, hbs, ← ht]
    rfl
  · have hv : s.checkVerdict d data false = s.loadStatus d data := by
      rw [State.checkVerdict, hnone]
      rfl
    refine ⟨_, planCheck_runs h hhead data false none, ?_⟩
    rw [hv, if_neg (by simp), if_neg (by simp), if_pos hst]
    refine ⟨completed_done s.unload _ _ _, (done_pln s.unload _ _ _).trans ?_, memSame_of_mem ?_⟩
    · rw [State.unload, ← hnone]
    · exact (congrArg State.mem (onlyHpt_done s.unload d _ none).1 :)
  · have hv : s.checkVerdict d data true = (stOK, 0) := by
      rw [State.checkVerdict, hnone, hst]
      rfl
    have hbs : s.checkedBytes d data = data.take (loadLen d) := by rw [State.checkedBytes, hnone]
    refine (planCheck_runs h hhead data true none).trans ?_
    rw [hv, hbs, if_neg (by simp), if_neg (by simp [hnone]), if_neg (by simp), if_pos rfl]
    rfl
  · have hv : s.checkVerdict d data false = (stOK, base) := by
      rw [State.checkVerdict, State.checkedBytes, hsome]
      exact hst
    have hbs : s.checkedBytes d data = bs := by rw [State.checkedBytes, hsome]
    obtain ⟨t, p, ht, hall⟩ := storePlan_done s d bs base
    obtain ⟨hc, hplans, hbytes, hbase, hid, hloads, hloading, hserial, hmem⟩ := hall
    refine ⟨t, p, (planCheck_runs h hhead data false none).trans ?_, hc, hplans, hbytes, hbase, hloads, hloading, hmem⟩
    rw [hv, hbs, ← ht]
    rfl
  · refine ⟨_, planCheck_runs h hhead data half (some e), ?_⟩
    rw [if_pos (show (some e).isSome = true from rfl)]
    obtain ⟨hmem, hout⟩ := eccHit_mem_out s.unload (some e) 0
    refine ⟨(completed_done _ _ _ _).answered, (done_pln _ _ _ _).trans (uncorrectable_pln s.unload _ _ _ _), memSame_of_mem ?_⟩
    exact (congrArg State.mem (onlyHpt_done (s.unload.eccHit (some e)) d stMemUncorr none).1 :).trans hmem
  · exact congrArg Prod.fst ((loadStatus_of_ok (headStatus_ok hlen hwf hdom hfree)).trans (bodyStatus_replay hser))
  · exact congrArg Prod.fst ((loadStatus_of_ok (headStatus_ok hlen hwf hdom hfree)).trans (bodyStatus_forged hser hkey))

end

section
/-! Keys, tamper, debug and firmware (R434 to R447). -/
namespace Sys2Proof.Machine

/-! #### What the scheduler leaves when keys go (R440) -/

/-- Between `s` and `t` the Security Unit, the Safety Supervisor, memory and the registers from the Safety Supervisor's up are the same. -/
structure KeepsSec (s t : State) : Prop where
  sec : t.sec = s.sec
  saf : t.saf = s.saf
  mem : t.mem = s.mem
  regs : ∀ k, 0x4000000 ≤ k % 0x80000000 → nget t.regs k = nget s.regs k

section
variable {s t : State}

theorem keepsSec_refl (s : State) : KeepsSec s s := ⟨rfl, rfl, rfl, fun _ _ => rfl⟩

theorem KeepsSec.trans {a b c : State} (h : KeepsSec a b) (g : KeepsSec b c) : KeepsSec a c :=
  ⟨g.sec.trans h.sec, g.saf.trans h.saf, g.mem.trans h.mem, fun k hk => (g.regs k hk).trans (h.regs k hk)⟩

theorem KeepsSec.ite {p : Prop} [Decidable p] {a b : State} (ha : KeepsSec s a) (hb : KeepsSec s b) :
    KeepsSec s (if p then a else b) := by split <;> assumption

theorem KeepsSec.setOrb (h : KeepsSec s t) (o : Orb) : KeepsSec s { t with orb := o } := ⟨h.sec, h.saf, h.mem, h.regs⟩

theorem KeepsSec.wr (h : KeepsSec s t) (f : Fld) (v i j k : Nat) (hk : f.key i j k % 0x80000000 < 0x4000000) :
    KeepsSec s (t.wr f v i j k) :=
  ⟨h.sec, h.saf, h.mem, fun n hn => (nget_nset_other _ _ fun e => by subst e; omega).trans (h.regs n hn)⟩

theorem KeepsSec.done (h : KeepsSec s t) (d : Desc) (st : Nat) (res : Option Nat) : KeepsSec s (t.done d st res) :=
  h.trans ⟨done_sec _ _ _ _, done_saf _ _ _ _, (congrArg State.mem (onlyHpt_done t d st res).1 :),
    fun k hk => (onlyHpt_done t d st res).2 k (by omega)⟩

theorem KeepsSec.withDesc (h : KeepsSec s t) (id st : Nat) : KeepsSec s (t.withDesc id fun d => t.done d st) := by
  unfold State.withDesc
  split
  · exact h.done _ _ _
  · exact h

theorem KeepsSec.rd (h : KeepsSec s t) {f : Fld} (hf : f.avoids 0 0x4000000 = true) (i j k : Nat) : t.rd f i j k = s.rd f i j k := by
  have hk := Fld.key_avoids hf i j k
  rw [State.rd, State.rd, h.regs _ (by omega)]

theorem KeepsSec.noteHol (h : KeepsSec s t) (r : Req) : KeepsSec s (t.noteHol r) := by
  refine (h.trans ?_).wr _ _ _ _ _ (by simp only [Fld.key, ORB_CLASS_STAT.MAX_HOL_US]; omega)
  exact (keepsSec_refl t).setOrb _

theorem KeepsSec.dequeue (h : KeepsSec s t) (p : Req → Bool) : KeepsSec s (t.dequeue p) :=
  KeepsSec.setOrb (List.foldlRecOn _ _ h fun _ hb r _ => hb.noteHol r) _

theorem KeepsSec.cancel (h : KeepsSec s t) (p : Req → Bool) (st : Nat) : KeepsSec s (t.cancel p st) := by
  refine List.foldlRecOn _ _ (KeepsSec.dequeue (KeepsSec.ite (h.wr _ _ _ _ _ ?_) h) p) fun b hb r _ => ?_
  · simp only [Fld.key, ORB_STATUS.GLOBAL_HOLD]
    omega
  · split
    · exact hb.withDesc _ _
    · exact hb

theorem KeepsSec.endDesc (h : KeepsSec s t) (id : Option Nat) (st : Nat) : KeepsSec s (t.endDesc id st) := by
  cases id with
  | none => exact h
  | some id => exact h.withDesc id st

theorem KeepsSec.cancelStart (h : KeepsSec s t) (st : Nat) : KeepsSec s (t.cancelStart st) :=
  ((((h.dequeue _).setOrb _).endDesc _ _).endDesc _ _).endDesc _ _

/-- The end of the keys leaves the vault's own state and the faults to the Security Unit. -/
theorem keepsSec_orbitErase (s : State) : KeepsSec s s.orbitErase := by
  have hc := (keepsSec_refl s).cancel (fun r => match r.origin with | .host _ => true | _ => false) stKeysErased
  show KeepsSec s (match (s.cancel _ _).orb.start with | some st => _ | none => _)
  generalize s.cancel (fun r => match r.origin with | .host _ => true | _ => false) stKeysErased = s1 at hc
  split
  · exact (hc.cancelStart _).ite (hc.setOrb _)
  · exact (hc.setOrb _).ite hc

end

/-! #### Slots of the vault (R435, R439) -/

section
variable (s : State) (slot : Nat)

theorem dropKey_frame : s.dropKey slot = { s with regs := (s.dropKey slot).regs, sec := { s.sec with keys := adel s.sec.keys slot } } := rfl

theorem onlyRegs_dropKey : RegsBut [SEC_KEY_STATUS.LOADED.key 0 0 0, SEC_KEY_KCV.KCV.key slot 0 0] s (s.dropKey slot) :=
  ((onlyRegs_wr s _ _ _ _ _ (by simp)).wr _ _ _ _ _ (by simp)).2

theorem rd_dropKey_other {f : Fld} (hl : f.apart SEC_KEY_STATUS.LOADED = true) (hk : f.apart SEC_KEY_KCV.KCV = true) (i j k : Nat) :
    (s.dropKey slot).rd f i j k = s.rd f i j k :=
  (rd_wr_apart (s.wr SEC_KEY_STATUS.LOADED _) hk _ _ _ _ _ _ _).trans (rd_wr_apart s hl _ _ _ _ _ _ _)

theorem rd_dropKey_loaded : (s.dropKey slot).rd SEC_KEY_STATUS.LOADED = clrBit (s.rd SEC_KEY_STATUS.LOADED) slot % 2 ^ 17 :=
  (rd_wr_apart (s.wr SEC_KEY_STATUS.LOADED _) (by decide) _ _ _ _ _ _ _).trans (rd_wr_same s _ _ _ _ _)

theorem rd_dropKey_kcv : (s.dropKey slot).rd SEC_KEY_KCV.KCV slot = 0 := rd_wr_zero (s.wr SEC_KEY_STATUS.LOADED _) _ _ _ _

/-- A vault all of whose slots have been emptied. -/
def State.dropKeys (s : State) (n : Nat) : State := (List.range n).foldl State.dropKey s

theorem dropKeys_succ (n : Nat) : s.dropKeys (n + 1) = (s.dropKeys n).dropKey n := by
  rw [State.dropKeys, List.range_succ, List.foldl_append]
  rfl

theorem aget_dropKeys {n k : Nat} (h : k < n) : aget (s.dropKeys n).sec.keys k = none := by
  induction n with
  | zero => omega
  | succ n ih =>
    rw [dropKeys_succ, dropKey_frame]
    by_cases hk : k = n
    · exact hk ▸ aget_adel_same _ _
    · exact (aget_adel_other _ hk).trans (ih (by omega))

theorem dropKeys_frame (n : Nat) : ∃ regs keys, s.dropKeys n = { s with regs := regs, sec := { s.sec with keys := keys } } := by
  induction n with
  | zero => exact ⟨_, _, rfl⟩
  | succ n ih =>
    obtain ⟨regs, keys, h⟩ := ih
    rw [dropKeys_succ, dropKey_frame, h]
    exact ⟨_, _, rfl⟩

theorem rd_dropKeys_other {f : Fld} (hl : f.apart SEC_KEY_STATUS.LOADED = true) (hk : f.apart SEC_KEY_KCV.KCV = true) (n i j k : Nat) :
    (s.dropKeys n).rd f i j k = s.rd f i j k := by
  induction n with
  | zero => rfl
  | succ n ih => rw [dropKeys_succ, rd_dropKey_other _ _ hl hk, ih]

end

/-! #### Zeroising (R439, R440) -/

section
variable (s : State)

/-- The vault after zeroising, before the scheduler hears of it. -/
def State.erased (s : State) : State := ((s.dropKeys 17).wr SEC_STATUS.ERASED 1).bump SEC_CNT_ERASE.COUNT

theorem zeroise_eq : s.zeroise = s.erased.orbitErase := rfl

theorem keepsSec_zeroise : KeepsSec s.erased s.zeroise := keepsSec_orbitErase _

theorem zeroise_sec : ∃ keys, s.zeroise.sec = { s.sec with keys := keys } ∧ ∀ k ≤ 16, aget keys k = none := by
  obtain ⟨regs, keys, h⟩ := dropKeys_frame s 17
  have hkeys : (s.dropKeys 17).sec = { s.sec with keys := keys } := congrArg State.sec h
  have herased : s.erased.sec = (s.dropKeys 17).sec := by simp only [State.erased, bump_sec, wr_sec]
  refine ⟨keys, ((keepsSec_zeroise s).sec.trans herased).trans hkeys, fun k hk => ?_⟩
  have := aget_dropKeys s (n := 17) (k := k) (by omega)
  rwa [hkeys] at this

theorem zeroise_saf : s.zeroise.saf = s.saf := by
  obtain ⟨regs, keys, h⟩ := dropKeys_frame s 17
  have herased : s.erased.saf = (s.dropKeys 17).saf := by simp only [State.erased, bump_saf, wr_saf]
  exact ((keepsSec_zeroise s).saf.trans herased).trans (congrArg State.saf h :)

theorem rd_zeroise_other {f : Fld} (hf : f.avoids 0 0x4000000 = true) (hl : f.apart SEC_KEY_STATUS.LOADED = true)
    (hk : f.apart SEC_KEY_KCV.KCV = true) (he : f.apart SEC_STATUS.ERASED = true) (hc : f.apart SEC_CNT_ERASE.COUNT = true) (i j k : Nat) :
    s.zeroise.rd f i j k = s.rd f i j k := by
  rw [(keepsSec_zeroise s).rd hf, State.erased, State.bump, rd_wr_apart _ hc, rd_wr_apart _ he, rd_dropKeys_other _ hl hk]

theorem rd_zeroise_erased : s.zeroise.rd SEC_STATUS.ERASED = 1 := by
  rw [(keepsSec_zeroise s).rd (by decide), State.erased, State.bump, rd_wr_apart _ (by decide), rd_wr_one _ rfl]

theorem rd_zeroise_count : s.zeroise.rd SEC_CNT_ERASE.COUNT = min (s.rd SEC_CNT_ERASE.COUNT + 1) (2 ^ 32 - 1) := by
  rw [(keepsSec_zeroise s).rd (by decide), State.erased, rd_bump_same, rd_wr_apart _ (by decide), rd_dropKeys_other _ (by decide) (by decide)]
  rfl

end

/-! #### Key commands (R435 to R437) -/

/-- The words of a key at zero. -/
def State.zeroKeyWords (s : State) : State := (List.range 8).foldl (fun t i => t.wr SEC_KEY_W.KEY 0 i) s

/-- The registers once a slot holds a key with a check value. -/
def State.loadKeyRegs (s : State) (slot kcv : Nat) : State :=
  let t := (s.zeroKeyWords.wr SEC_KEY_STATUS.LOADED (setBit (s.zeroKeyWords.rd SEC_KEY_STATUS.LOADED) slot)).wr SEC_KEY_KCV.KCV kcv slot
  if slot = 0 then t.wr SEC_STATUS.ERASED 0 else t

section
variable {s : State} {die : Fin 2} {slot : Fin 32}

theorem keyCmd_ok {n : Nat} (hn : n ≤ 16) (hk : s.sec.keyAt ≠ s.now + 1) (f : State → State) :
    s.keyCmd n f = { f s with sec := { (f s).sec with keyAt := s.now + 1 } } :=
  if_neg (by simp [State.keyBusy, hk]; omega)

theorem keyCmd_refused {n : Nat} (h : 16 < n ∨ s.sec.keyAt = s.now + 1) (f : State → State) :
    s.keyCmd n f = s.wr SEC_STATUS.CFG_REJECT 1 := if_pos (by simpa [State.keyBusy] using h)

theorem rd_zeroKeyWords_other (s : State) {f : Fld} (h : f.apart SEC_KEY_W.KEY = true) (i j k : Nat) :
    s.zeroKeyWords.rd f i j k = s.rd f i j k :=
  List.foldlRecOn (motive := fun t : State => t.rd f i j k = s.rd f i j k) _ _ rfl fun _ ht _ _ => (rd_wr_apart _ h _ _ _ _ _ _ _).trans ht

theorem rd_zeroKeyWords (s : State) {i : Nat} (h : i < 8) : s.zeroKeyWords.rd SEC_KEY_W.KEY i = 0 := by
  have hall (n : Nat) (hn : i < n) (h8 : n ≤ 8) : ((List.range n).foldl (fun t i => t.wr SEC_KEY_W.KEY 0 i) s).rd SEC_KEY_W.KEY i = 0 := by
    induction n with
    | zero => omega
    | succ n ih =>
      rw [List.range_succ, List.foldl_append]
      by_cases he : i = n
      · subst he
        exact rd_wr_zero _ _ _ _ _
      · refine (rd_wr_other _ _ ?_).trans (ih (by omega) (by omega))
        simp only [Fld.key, SEC_KEY_W.KEY]
        omega
  exact hall 8 h le_rfl

theorem loadKeyRegs_frame (s : State) (slot kcv : Nat) : ∃ regs, s.loadKeyRegs slot kcv = { s with regs := regs } := by
  have hwords : ∃ regs, s.zeroKeyWords = { s with regs := regs } :=
    List.foldlRecOn (motive := fun t : State => ∃ regs, t = { s with regs := regs }) _ _ ⟨_, rfl⟩ fun t ht i _ => by
      obtain ⟨regs, rfl⟩ := ht
      exact ⟨_, rfl⟩
  obtain ⟨regs, h⟩ := hwords
  rw [State.loadKeyRegs, h]
  split <;> exact ⟨_, rfl⟩

/-- A field apart from ERASED reads as before the vault is said to be whole again. -/
theorem rd_loadKeyRegs (s : State) (slot kcv : Nat) {f : Fld} (he : f.apart SEC_STATUS.ERASED = true) (i j k : Nat) :
    (s.loadKeyRegs slot kcv).rd f i j k = ((s.zeroKeyWords.wr SEC_KEY_STATUS.LOADED
      (setBit (s.zeroKeyWords.rd SEC_KEY_STATUS.LOADED) slot)).wr SEC_KEY_KCV.KCV kcv slot).rd f i j k := by
  unfold State.loadKeyRegs
  dsimp only
  split
  · exact rd_wr_apart _ he _ _ _ _ _ _ _
  · rfl

theorem rd_loadKeyRegs_words (s : State) (slot kcv : Nat) {i : Nat} (h : i < 8) : (s.loadKeyRegs slot kcv).rd SEC_KEY_W.KEY i = 0 := by
  rw [rd_loadKeyRegs _ _ _ (by decide), rd_wr_apart _ (by decide), rd_wr_apart _ (by decide), rd_zeroKeyWords s h]

theorem bit_loadKeyRegs_loaded (s : State) (kcv : Nat) {n : Nat} (h : n ≤ 16) :
    bit ((s.loadKeyRegs n kcv).rd SEC_KEY_STATUS.LOADED) n = true := by
  rw [rd_loadKeyRegs _ _ _ (by decide), rd_wr_apart _ (by decide), rd_wr_same,
    bit_mod_two_pow _ (show n < SEC_KEY_STATUS.LOADED.w from Nat.lt_succ_of_le h), bit_setBit]
  simp

theorem rd_loadKeyRegs_kcv (s : State) (slot kcv : Nat) : (s.loadKeyRegs slot kcv).rd SEC_KEY_KCV.KCV slot = kcv % 2 ^ 32 := by
  rw [rd_loadKeyRegs _ _ _ (by decide), rd_wr_same]
  rfl

/-- A key in slot 0 makes the vault whole again (R440). -/
theorem rd_loadKeyRegs_erased (s : State) (kcv : Nat) : (s.loadKeyRegs 0 kcv).rd SEC_STATUS.ERASED = 0 := rd_wr_zero _ _ _ _ _

theorem leNat_lt (bs : List Byte) : leNat bs < 256 ^ bs.length := by
  induction bs with
  | nil => decide
  | cons b bs ih =>
    have := b.isLt
    rw [leNat, List.length_cons, Nat.pow_succ]
    omega

/-- A field of `n` bytes is below 256 ^ n. -/
theorem field_lt (bs : List Byte) (off n : Nat) : field bs off n < 256 ^ n :=
  (leNat_lt _).trans_le (Nat.pow_le_pow_right (by omega) (List.length_take_le _ _))

theorem keyLoad_eq (h : s.bar0 die 0xD00010 = .act) (hs : slot.val ≤ 16) (hk : s.sec.keyAt ≠ s.now + 1) :
    exec (.keyLoad die slot) s = .next { s.loadKeyRegs slot (field (hmac256 (s.wordBytes SEC_KEY_W.KEY 8) (List.replicate 32 0)) 0 4) with
      sec := { s.sec with keys := aput s.sec.keys slot (s.wordBytes SEC_KEY_W.KEY 8), keyAt := s.now + 1 } } := by
  obtain ⟨regs, hf⟩ := loadKeyRegs_frame s slot (field (hmac256 (s.wordBytes SEC_KEY_W.KEY 8) (List.replicate 32 0)) 0 4)
  refine congrArg Host.Outcome.next ((viaBar0_act h _).trans ((keyCmd_ok hs hk _).trans ?_))
  exact congrArg (fun x : Sec => { s.loadKeyRegs slot (field (hmac256 (s.wordBytes SEC_KEY_W.KEY 8) (List.replicate 32 0)) 0 4) with
    sec := { x with keys := aput x.keys slot (s.wordBytes SEC_KEY_W.KEY 8), keyAt := s.now + 1 } }) (congrArg State.sec hf)

theorem keyErase_eq (h : s.bar0 die 0xD00010 = .act) (hs : slot.val ≤ 16) (hk : s.sec.keyAt ≠ s.now + 1) :
    exec (.keyErase die slot) s = .next { s.dropKey slot with
      sec := { s.sec with keys := adel s.sec.keys slot, keyAt := s.now + 1 } } :=
  congrArg Host.Outcome.next ((viaBar0_act h _).trans (keyCmd_ok hs hk _))

end

/-! #### Tamper (R438, R439) -/

section
variable (s : State) (c : Fin 5)

theorem tamperRefresh_frame : s.tamperRefresh = { s with regs := s.tamperRefresh.regs } := rfl

theorem rd_tamperRefresh_other {f : Fld} (ha : f.apart SEC_STATUS.ALARM = true) (hc : f.apart SAF_CAUSE.BITS = true) (i j k : Nat) :
    s.tamperRefresh.rd f i j k = s.rd f i j k :=
  (rd_wr_apart (s.wr SEC_STATUS.ALARM _) hc _ _ _ _ _ _ _).trans (rd_wr_apart s ha _ _ _ _ _ _ _)

theorem rd_tamperRefresh_alarm : s.tamperRefresh.rd SEC_STATUS.ALARM =
    b2n (s.rd SEC_TAMPER_STATUS.LIVE &&& s.rd SEC_ALARM_CFG.EN != 0) := by
  refine ((rd_wr_apart (s.wr SEC_STATUS.ALARM _) (by decide) _ _ _ _ _ _ _).trans (rd_wr_same s _ _ _ _ _)).trans ?_
  exact Nat.mod_eq_of_lt (by cases (s.rd SEC_TAMPER_STATUS.LIVE &&& s.rd SEC_ALARM_CFG.EN != 0) <;> decide)

/-- The state in which a condition is present (R438). -/
def State.tamperLive (s : State) (c : Nat) : State := (s.wr SEC_TAMPER_STATUS.LIVE (setBit (s.rd SEC_TAMPER_STATUS.LIVE) c)).tamperRefresh

theorem bit_tamperLive : bit ((s.tamperLive c).rd SEC_TAMPER_STATUS.LIVE) c = true := by
  rw [State.tamperLive, rd_tamperRefresh_other _ (by decide) (by decide), rd_wr_same,
    bit_mod_two_pow _ (show c.val < SEC_TAMPER_STATUS.LIVE.w from c.isLt), bit_setBit]
  simp

theorem rd_tamperLive_other {f : Fld} (ha : f.apart SEC_STATUS.ALARM = true) (hc : f.apart SAF_CAUSE.BITS = true)
    (hl : f.apart SEC_TAMPER_STATUS.LIVE = true) (i j k : Nat) : (s.tamperLive c).rd f i j k = s.rd f i j k :=
  (rd_tamperRefresh_other _ ha hc _ _ _).trans (rd_wr_apart s hl _ _ _ _ _ _ _)

/-- An enabled condition that is present raises the alarm. -/
theorem rd_tamperLive_alarm (h : bit (s.rd SEC_ALARM_CFG.EN) c = true) : (s.tamperLive c).rd SEC_STATUS.ALARM = 1 := by
  have hlive : bit ((s.wr SEC_TAMPER_STATUS.LIVE (setBit (s.rd SEC_TAMPER_STATUS.LIVE) c)).rd SEC_TAMPER_STATUS.LIVE) c = true := by
    rw [← bit_tamperLive s c, State.tamperLive, rd_tamperRefresh_other _ (by decide) (by decide)]
  rw [State.tamperLive, rd_tamperRefresh_alarm, rd_wr_apart (g := SEC_ALARM_CFG.EN) s (by decide)]
  generalize (s.wr SEC_TAMPER_STATUS.LIVE (setBit (s.rd SEC_TAMPER_STATUS.LIVE) c)).rd SEC_TAMPER_STATUS.LIVE = live at hlive
  have hne : live &&& s.rd SEC_ALARM_CFG.EN ≠ 0 := fun e => by
    have := congrArg (fun v => v.testBit c) e
    rw [bit_eq_testBit] at hlive h
    simp [Nat.testBit_and, hlive, h] at this
  simp [hne, b2n]

/-- What an enabled condition does before the erasure (R439): its latch, the fault, and debug locked. -/
def State.tamperLatch (s : State) (c : Nat) : State :=
  (((s.tamperLive c).wr SEC_TAMPER_STATUS.LATCHED (setBit ((s.tamperLive c).rd SEC_TAMPER_STATUS.LATCHED) c)).raise (srcModule 13)
    (2 ^ c)).wr SEC_STATUS.DBG_LEVEL 0

/-- The erasure that follows. -/
def State.tamperErase (s : State) (c : Nat) : State :=
  ({ s.tamperLatch c with sec := { s.sec with eraseAt := s.now + 1 } } : State).zeroise

variable {s c}

theorem tamperAlarm_disabled (h : bit (s.rd SEC_TAMPER_STATUS.LIVE) c = false) (hen : bit (s.rd SEC_ALARM_CFG.EN) c = false) :
    exec (.tamperAlarm c) s = .next (s.tamperLive c) :=
  congrArg Host.Outcome.next ((if_neg (by simp [h])).trans (if_pos (by simp [hen])))

theorem tamperAlarm_enabled (h : bit (s.rd SEC_TAMPER_STATUS.LIVE) c = false) (hen : bit (s.rd SEC_ALARM_CFG.EN) c = true) :
    exec (.tamperAlarm c) s = .next (if !s.on SEC_ALARM_CFG.ERASE || decide (s.now + 1 < s.sec.eraseAt + 200 ∧ s.sec.eraseAt ≠ 0) then
      s.tamperLatch c else s.tamperErase c) :=
  congrArg Host.Outcome.next ((if_neg (by simp [h])).trans (if_neg (by simp [hen])))

variable (s c)

/-- What an enabled condition shows, whatever follows. -/
theorem tamperLatch_shows (hen : bit (s.rd SEC_ALARM_CFG.EN) c = true) :
    bit ((s.tamperLatch c).rd SEC_TAMPER_STATUS.LIVE) c = true ∧ bit ((s.tamperLatch c).rd SEC_TAMPER_STATUS.LATCHED) c = true ∧
      (s.tamperLatch c).rd SEC_STATUS.DBG_LEVEL = 0 ∧ (s.tamperLatch c).rd SEC_STATUS.ALARM = 1 ∧
      ∃ o ∈ (s.tamperLatch c).saf.raised, o.source = 333 ∧ o.info = 2 ^ c.val := by
  have hother {f : Fld} (hl : f.apart SEC_TAMPER_STATUS.LATCHED = true) (hd : f.apart SEC_STATUS.DBG_LEVEL = true) :
      (s.tamperLatch c).rd f = (s.tamperLive c).rd f := by
    rw [State.tamperLatch, rd_wr_apart _ hd]
    exact rd_wr_apart (s.tamperLive c) hl _ _ _ _ _ _ _
  refine ⟨?_, ?_, rd_wr_zero _ _ _ _ _, ?_, ?_⟩
  · rw [hother (by decide) (by decide)]
    exact bit_tamperLive s c
  · have hlatch : (s.tamperLatch c).rd SEC_TAMPER_STATUS.LATCHED = setBit ((s.tamperLive c).rd SEC_TAMPER_STATUS.LATCHED) c % 2 ^ 5 := by
      rw [State.tamperLatch, rd_wr_apart _ (by decide)]
      exact rd_wr_same (s.tamperLive c) SEC_TAMPER_STATUS.LATCHED _ _ _ _
    rw [hlatch, bit_mod_two_pow _ c.isLt, bit_setBit]
    simp
  · rw [hother (by decide) (by decide)]
    exact rd_tamperLive_alarm s c hen
  · refine ⟨_, List.mem_append_right _ (List.mem_singleton_self _), rfl, ?_⟩
    exact Nat.mod_eq_of_lt (lt_of_le_of_lt (Nat.pow_le_pow_right (by omega) (show c.val ≤ 4 by omega)) (by decide))

/-- The erasure keeps what the condition shows. -/
theorem tamperErase_shows (hen : bit (s.rd SEC_ALARM_CFG.EN) c = true) :
    bit ((s.tamperErase c).rd SEC_TAMPER_STATUS.LIVE) c = true ∧ bit ((s.tamperErase c).rd SEC_TAMPER_STATUS.LATCHED) c = true ∧
      (s.tamperErase c).rd SEC_STATUS.DBG_LEVEL = 0 ∧ (s.tamperErase c).rd SEC_STATUS.ALARM = 1 ∧
      ∃ o ∈ (s.tamperErase c).saf.raised, o.source = 333 ∧ o.info = 2 ^ c.val := by
  have hother {f : Fld} (hf : f.avoids 0 0x4000000 = true) (hl : f.apart SEC_KEY_STATUS.LOADED = true) (hk : f.apart SEC_KEY_KCV.KCV = true)
      (he : f.apart SEC_STATUS.ERASED = true) (hc : f.apart SEC_CNT_ERASE.COUNT = true) : (s.tamperErase c).rd f = (s.tamperLatch c).rd f :=
    rd_zeroise_other _ hf hl hk he hc _ _ _
  have hsaf : (s.tamperErase c).saf = (s.tamperLatch c).saf := zeroise_saf _
  rw [hother (by decide) (by decide) (by decide) (by decide) (by decide), hother (by decide) (by decide) (by decide) (by decide) (by decide),
    hother (by decide) (by decide) (by decide) (by decide) (by decide), hother (by decide) (by decide) (by decide) (by decide) (by decide), hsaf]
  exact tamperLatch_shows s c hen

end

theorem tamperErase_keys (s : State) (c : Fin 5) : ∀ k ≤ 16, aget (s.tamperErase c).sec.keys k = none := by
  obtain ⟨keys, hsec, hkeys⟩ := zeroise_sec { s.tamperLatch c with sec := { s.sec with eraseAt := s.now + 1 } }
  exact fun k hk => (congrArg (fun x : Sec => aget x.keys k) hsec).trans (hkeys k hk)

theorem rd_tamperErase_count (s : State) (c : Fin 5) :
    (s.tamperErase c).rd SEC_CNT_ERASE.COUNT = min (s.rd SEC_CNT_ERASE.COUNT + 1) (2 ^ 32 - 1) := by
  have hlatch : (s.tamperLatch c).rd SEC_CNT_ERASE.COUNT = s.rd SEC_CNT_ERASE.COUNT := by
    rw [State.tamperLatch, rd_wr_apart _ (by decide)]
    exact (rd_wr_apart (s.tamperLive c) (by decide) _ _ _ _ _ _ _).trans (rd_tamperLive_other s c (by decide) (by decide) (by decide) _ _ _)
  rw [← hlatch]
  exact rd_zeroise_count _

/-! #### Debug access (R446, R447) -/

section
variable (s : State)

theorem rd_dbgFails_count : s.dbgFails.rd SEC_DBG_FAIL.COUNT = min (s.rd SEC_DBG_FAIL.COUNT + 1) (2 ^ 32 - 1) := by
  unfold State.dbgFails
  dsimp only
  split
  · rw [rd_wr_apart _ (by decide), rd_bump_same]
    rfl
  · rw [rd_bump_same]
    rfl

/-- The third failure locks debug out (R446). -/
theorem rd_dbgFails_lockout (h : 2 ≤ s.rd SEC_DBG_FAIL.COUNT) : s.dbgFails.rd SEC_STATUS.DBG_LOCKOUT = 1 := by
  have hcount : 3 ≤ (s.bump SEC_DBG_FAIL.COUNT).rd SEC_DBG_FAIL.COUNT := by
    rw [rd_bump_same]
    exact le_min (by omega) (by decide)
  unfold State.dbgFails
  rw [if_pos hcount]
  exact rd_wr_one _ rfl _ _ _

theorem rd_dbgFails_other {f : Fld} (hc : f.apart SEC_DBG_FAIL.COUNT = true) (hl : f.apart SEC_STATUS.DBG_LOCKOUT = true) (i j k : Nat) :
    s.dbgFails.rd f i j k = s.rd f i j k := by
  unfold State.dbgFails State.bump
  dsimp only
  split
  · rw [rd_wr_apart _ hl, rd_wr_apart _ hc]
  · rw [rd_wr_apart _ hc]

theorem dbgFails_sec : s.dbgFails.sec = s.sec := by
  unfold State.dbgFails
  dsimp only
  split <;> rfl

/-- The state in which the standing nonce is spent. -/
def State.spend (s : State) : State := { s with sec := { s.sec with nonce := none } }

/-- FULL debug zeroises the vault and asks for Eclipse (R447). -/
def State.fullDebug (s : State) : State :=
  if s.spend.zeroise.on SAF_CTL.SW_ECLIPSE then s.spend.zeroise else (s.spend.zeroise.wr SAF_CTL.SW_ECLIPSE 1).raise (srcModule 1) 0

theorem fullDebug_sec : ∃ keys, s.fullDebug.sec = { s.spend.sec with keys := keys } ∧ ∀ k ≤ 16, aget keys k = none := by
  obtain ⟨keys, h, hk⟩ := zeroise_sec s.spend
  refine ⟨keys, ?_, hk⟩
  rw [← h, State.fullDebug]
  generalize s.spend.zeroise = z
  split <;> rfl

theorem on_fullDebug_eclipse : s.fullDebug.on SAF_CTL.SW_ECLIPSE = true := by
  unfold State.fullDebug
  generalize s.spend.zeroise = z
  split
  case isTrue h => exact h
  case isFalse =>
    have h1 : ((z.wr SAF_CTL.SW_ECLIPSE 1).raise (srcModule 1) 0).rd SAF_CTL.SW_ECLIPSE = 1 := rd_wr_one z (f := SAF_CTL.SW_ECLIPSE) rfl 0 0 0
    rw [State.on, h1]
    rfl

variable {s} {die : Fin 2} {l : Fin 4} {n : Nat} {key : List Byte}

theorem dbgLevelRequest_wrong (h : s.bar0 die 0xD000D0 = .act) (hl : l = 1 ∨ l = 2) (hn : s.sec.nonce = some n)
    (hk : aget s.sec.keys 0 = some key) (hr : s.wordBytes SEC_DBG_RESP_W.RESP 4 ≠ dbgResponse key n l) :
    exec (.dbgLevelRequest die l) s = .next s.dbgFails := by
  refine congrArg Host.Outcome.next ((viaBar0_act h _).trans ((if_neg (by rcases hl with rfl | rfl <;> decide)).trans ?_))
  rw [hn, hk]
  exact if_pos hr

theorem dbgLevelRequest_right (h : s.bar0 die 0xD000D0 = .act) (hl : l = 1 ∨ l = 2) (hn : s.sec.nonce = some n)
    (hk : aget s.sec.keys 0 = some key) (hr : s.wordBytes SEC_DBG_RESP_W.RESP 4 = dbgResponse key n l) :
    exec (.dbgLevelRequest die l) s = .next (if s.on SEC_STATUS.DBG_LOCKOUT then s
      else (if l.val = 2 then s.fullDebug else s.spend).wr SEC_STATUS.DBG_LEVEL l) := by
  refine congrArg Host.Outcome.next ((viaBar0_act h _).trans ((if_neg (by rcases hl with rfl | rfl <;> decide)).trans ?_))
  rw [hn, hk]
  exact if_neg (not_not_intro hr)

end

/-! #### Firmware (R443, R444) -/

section
variable (s : State)

theorem clockFrame_clocksOn (dom : Nat) : ClockFrame clockKey s (s.clocksOn dom) :=
  (clockFrame_clockOn s 0 dom).trans (clockFrame_clockOn _ 1 dom)

/-- The clocks leave the registers apart from theirs. -/
theorem rd_clocksOn_other (dom : Nat) {f : Fld} (hp : f.avoids 0x7080000 0x7100000 = true) (hc : f.avoids 0x7800A00 0x7800A60 = true)
    (i j k : Nat) : (s.clocksOn dom).rd f i j k = s.rd f i j k :=
  (clockFrame_clocksOn s dom).rd fun h => h.elim (Fld.key_avoids hp i j k) (Fld.key_avoids hc i j k)

/-- An image without the header's mark or of another key is a bad image. -/
theorem imageResult_bad {bs : List Byte} (h : field bs 0 4 ≠ 0x4B584657 ∨ sha384 ((bs.drop 60).take 97) ≠ Config.fusedKeyHash) :
    s.imageResult bs = 2 := by
  refine if_pos ?_
  rcases h with h | h <;> simp [h]

/-- An image that is OK is none below the fused minimum, and its digest is that of its body. -/
theorem imageResult_ok {bs : List Byte} (h : s.imageResult bs = 0) :
    s.rd SEC_FW_STATUS.MINVER ≤ field bs 5 1 ∧ sha384 ((bs.drop 512).take (field bs 8 4)) = (bs.drop 12).take 48 := by
  unfold State.imageResult at h
  dsimp only at h
  split at h
  · omega
  case isFalse hsound =>
    split at h
    · omega
    case isFalse hmin =>
      simp only [Bool.not_eq_true', Bool.not_eq_false, Bool.and_eq_true, decide_eq_true_eq] at hsound
      exact ⟨by omega, hsound.2⟩

/-- A firmware image has been asked for: the flash's clock runs, and a poisoned TLP is reported (R444, R474, R81). -/
def State.fwAsked (s : State) (p : Bool) : State :=
  (((s.clocksOn 19).emit (.read s.active (s.rd SEC_FW_ADDR_LO.ADDR + 2 ^ 32 * s.rd SEC_FW_ADDR_HI.ADDR) (s.rd SEC_FW_LEN.LEN))).poison p 0
    (s.rd SEC_FW_ADDR_LO.ADDR + 2 ^ 32 * s.rd SEC_FW_ADDR_HI.ADDR)).wr SEC_STATUS.FW_BUSY 1

/-- The result that the checks of R443 give an image as it was read. -/
def State.fwResult (s : State) (data : List Byte) : Nat :=
  if (data.take (s.rd SEC_FW_LEN.LEN)).length = s.rd SEC_FW_LEN.LEN then s.imageResult (data.take (s.rd SEC_FW_LEN.LEN)) else 1

theorem fwWrite_eq {s : State} {die : Fin 2} (h : s.bar0 die 0xD000A0 = .act) (hb : s.on SEC_STATUS.FW_BUSY = false) (data : List Byte)
    (p : Bool) : exec (.fwWrite die ⟨data, p⟩) s = .next { s.fwAsked p with sec := { (s.fwAsked p).sec with
      fwWrite := some (field (data.take (s.rd SEC_FW_LEN.LEN)) 4 2, beNat (((data.take (s.rd SEC_FW_LEN.LEN)).drop 12).take 48),
        s.fwResult data) } } :=
  congrArg Host.Outcome.next ((viaBar0_act h _).trans (if_neg (by simp [hb])))

theorem fwResult_short {data : List Byte} (h : data.length < s.rd SEC_FW_LEN.LEN) : s.fwResult data = 1 := by
  refine if_neg ?_
  rw [List.length_take]
  omega

theorem fwResult_full {data : List Byte} (h : s.rd SEC_FW_LEN.LEN ≤ data.length) :
    s.fwResult data = s.imageResult (data.take (s.rd SEC_FW_LEN.LEN)) := if_pos (by rw [List.length_take]; omega)

/-- An image whose result is OK was read whole. -/
theorem imageResult_of_fwResult {data : List Byte} (h : s.fwResult data = 0) : s.imageResult (data.take (s.rd SEC_FW_LEN.LEN)) = 0 := by
  unfold State.fwResult at h
  split at h
  · exact h
  · omega

theorem rd_fwAsked_busy (p : Bool) : (s.fwAsked p).rd SEC_STATUS.FW_BUSY = 1 := rd_wr_one _ rfl _ _ _

theorem fwAsked_out : (s.fwAsked false).out = .read s.active (s.rd SEC_FW_ADDR_LO.ADDR + 2 ^ 32 * s.rd SEC_FW_ADDR_HI.ADDR)
    (s.rd SEC_FW_LEN.LEN) :: s.out := congrArg _ (clockFrame_clocksOn s 19).out

theorem on_fwAsked_poisoned : (s.fwAsked true).on HPT_ERR_STATUS.POISONED s.active = true := by
  have hact : (s.clocksOn 19).active = s.active := active_of_rd (rd_clocksOn_other s 19 (by decide) (by decide) _ _ _)
  rw [← hact]
  exact (on_of_rd (rd_wr_apart _ (by decide) _ _ _ _ _ _ _)).trans (hptError_on ((s.clocksOn 19).emit _) _ 5 _ _)

theorem fwAsked_mem (p : Bool) : (s.fwAsked p).mem = s.mem :=
  (reports_poison ((s.clocksOn 19).emit _) p _ _).mem.trans (clockFrame_clocksOn s 19).mem

/-- The flash's clock runs on both dies. -/
theorem gated_fwAsked (p : Bool) (die : Fin 2) : (s.fwAsked p).gated die 19 = false := by
  have hoff := clockOff_clocksOn s (dom := 19) (by decide) (by decide)
  obtain ⟨h0, h1⟩ := Bool.or_eq_false_iff.mp hoff
  have hrd : (s.fwAsked p).rd PWR_CLK_GATED.GATED die = (s.clocksOn 19).rd PWR_CLK_GATED.GATED die :=
    (rd_wr_apart _ (by decide) _ _ _ _ _ _ _).trans ((reports_poison ((s.clocksOn 19).emit _) p _ _).rd (not_errKey (by decide) _ _ _))
  rw [State.gated, hrd]
  rcases (show die = 0 ∨ die = 1 by omega) with rfl | rfl
  · exact h0
  · exact h1

/-! The end of a write. -/

/-- A write of firmware has ended. -/
def State.fwEnded (s : State) : State :=
  let t := (s.clocksOn 20).wr SEC_STATUS.FW_BUSY 0
  { t with sec := { t.sec with fwWrite := none } }

/-- A slot of both flash dies holds an image. -/
def State.flashed (s : State) (slot : Nat) (w : FwSlot) : State :=
  { s with flash := { s.flash with fw := aput (aput s.flash.fw slot w) (2 + slot) w } }

theorem fwEnded_flash : s.fwEnded.flash = s.flash :=
  (congrArg State.flash (clockFrame_clocksOn s 20).1 :)

theorem rd_fwEnded_busy : s.fwEnded.rd SEC_STATUS.FW_BUSY = 0 := rd_wr_zero (s.clocksOn 20) SEC_STATUS.FW_BUSY 0 0 0

variable {s} {v g r : Nat}

theorem fwWriteDone_refused (h : s.sec.fwWrite = some (v, g, r)) (hr : r ≠ 0) (ok : Bool) :
    exec (.fwWriteDone ok) s = .next (s.fwEnded.wr SEC_FW_RESULT.RESULT r) := by
  show execFwWriteDone _ _ = _
  rw [execFwWriteDone, h]
  exact congrArg Host.Outcome.next (if_pos hr)

theorem fwWriteDone_written (h : s.sec.fwWrite = some (v, g, 0)) : exec (.fwWriteDone true) s =
    .next ((s.fwEnded.flashed (1 - s.rd SEC_FW_STATUS.BOOT_SLOT) ⟨true, v, g⟩).wr SEC_FW_RESULT.RESULT 0) := by
  show execFwWriteDone _ _ = _
  rw [execFwWriteDone, h]
  rfl

/-- A write that fails leaves what the flash dies keep to chance (assumption 1). -/
theorem fwWriteDone_failed (h : s.sec.fwWrite = some (v, g, 0)) : ∃ free flash, exec (.fwWriteDone false) s =
    .next (({ s.fwEnded with free := free, flash := flash } : State).wr SEC_FW_RESULT.RESULT 4) := by
  show ∃ free flash, execFwWriteDone _ _ = _
  rw [execFwWriteDone, h]
  exact ⟨_, _, rfl⟩

theorem raiseMin_eq {die : Fin 2} (h : s.bar0 die 0xD000A0 = .act) (hb : s.on SEC_STATUS.FW_BUSY = false) :
    exec (.raiseMin die) s = .next (if s.rd SEC_FW_STATUS.MINVER = s.rd SEC_FW_STATUS.VERSION / 256 then s.wr SEC_FW_RESULT.RESULT 0
      else if 64 ≤ s.sec.raises then s.wr SEC_FW_RESULT.RESULT 5
      else { (s.wr SEC_FW_STATUS.MINVER (s.rd SEC_FW_STATUS.VERSION / 256)).wr SEC_FW_RESULT.RESULT 0 with
        sec := { s.sec with raises := s.sec.raises + 1 } }) :=
  congrArg Host.Outcome.next ((viaBar0_act h _).trans (if_neg (by simp [hb])))

theorem aget_aput_same {β : Type} (m : List (Nat × β)) (k : Nat) (x : β) : aget (aput m k x) k = some x :=
  aget_ains_same _ _ _ (aget_adel_same m k)

theorem aget_aput_other {β : Type} (m : List (Nat × β)) {j k : Nat} (x : β) (h : j ≠ k) : aget (aput m k x) j = aget m j :=
  (aget_ains_other _ _ h).trans (aget_adel_other m h)

/-- Both flash dies hold the image in the slot that was not booted. -/
theorem aget_fwSlots {m : List (Nat × FwSlot)} (x : FwSlot) (die : Fin 2) (slot : Nat) :
    aget (aput (aput m slot x) (2 + slot) x) (2 * die.val + slot) = some x := by
  rcases (show die = 0 ∨ die = 1 by omega) with rfl | rfl
  · refine (aget_aput_other _ _ (by simp)).trans ?_
    simpa using aget_aput_same m slot x
  · exact aget_aput_same _ (2 + slot) x

end

end Sys2Proof.Machine

open Sys2Proof Sys2Proof.Machine

/-- Settles O53: the key commands, the alarm and the debug levels by their branches, over what the erasure leaves; then firmware. -/
theorem keysDebugAndFirmware : Obligations.KeysDebugAndFirmware := by
  unfold Obligations.KeysDebugAndFirmware
  refine ⟨⟨fun s die slot h hs hk => ?_, fun s die slot h hs hk => ?_, fun s die slot i h hi hbad => ?_, fun s c hlive => ?_,
      fun s c => ?_, fun s die h => ?_, fun s die n hr => ?_, fun s die l n key h hl hn hkey => ?_, fun s die h => ?_⟩,
    fun s die data p h hb => ?_, fun s die data p i h hb hi => ?_, fun s v g r ok h hr hslot => ?_, fun s die h hb => ?_⟩
  · have hexec := keyLoad_eq h hs hk
    obtain ⟨regs, hf⟩ := loadKeyRegs_frame s slot (field (hmac256 (s.wordBytes SEC_KEY_W.KEY 8) (List.replicate 32 0)) 0 4)
    have hkcv := (rd_loadKeyRegs_kcv s slot _).trans (Nat.mod_eq_of_lt (field_lt (hmac256 (s.wordBytes SEC_KEY_W.KEY 8)
      (List.replicate 32 0)) 0 4))
    generalize hv : field (hmac256 (s.wordBytes SEC_KEY_W.KEY 8) (List.replicate 32 0)) 0 4 = kcv at hexec hf hkcv
    have hrd (f : Fld) (i : Nat) : State.rd { s.loadKeyRegs slot kcv with sec := { s.sec with
        keys := aput s.sec.keys slot (s.wordBytes SEC_KEY_W.KEY 8), keyAt := s.now + 1 } } f i = (s.loadKeyRegs slot kcv).rd f i :=
      rd_congr rfl _ _ _ _
    refine ⟨_, s.wordBytes SEC_KEY_W.KEY 8, hexec, rfl, aget_aput_same _ _ _, fun i hi => ?_, ?_, ?_, fun hz => ?_, ?_⟩
    · rw [hrd]
      exact rd_loadKeyRegs_words s _ _ hi
    · rw [hrd]
      exact bit_loadKeyRegs_loaded s _ hs
    · rw [hrd]
      exact hkcv.trans hv.symm
    · rw [hrd, hz]
      exact rd_loadKeyRegs_erased s _
    · rw [hf]
  · refine ⟨_, keyErase_eq h hs hk, aget_adel_same _ _, ?_, rd_dropKey_kcv s slot, rfl⟩
    refine (congrArg (bit · slot) (rd_dropKey_loaded s slot)).trans ?_
    rw [bit_mod_two_pow _ (by omega), bit_clrBit]
    simp
  · have hreject : exec i s = .next (s.wr SEC_STATUS.CFG_REJECT 1) := by
      rcases hi with rfl | rfl <;> exact congrArg Host.Outcome.next ((viaBar0_act h _).trans (keyCmd_refused hbad _))
    exact ⟨_, hreject, rd_wr_one s rfl _ _ _, onlyRegs_wr s _ _ _ _ _ (by simp)⟩
  · cases hen : bit (s.rd SEC_ALARM_CFG.EN) c with
    | false =>
      refine ⟨_, tamperAlarm_disabled hlive hen, bit_tamperLive s c, ?_⟩
      exact ⟨rd_tamperLive_other s c (by decide) (by decide) (by decide) _ _ _, rfl, rfl⟩
    | true =>
      refine ⟨_, tamperAlarm_enabled hlive hen, ?_⟩
      rw [if_pos rfl]
      split
      case isTrue hno =>
        obtain ⟨hl, hlatch, hlevel, halarm, hraised⟩ := tamperLatch_shows s c hen
        refine ⟨hl, hlatch, hlevel, halarm, hraised, fun hon hz => ?_⟩
        simp [hon, hz] at hno
      case isFalse =>
        obtain ⟨hl, hlatch, hlevel, halarm, hraised⟩ := tamperErase_shows s c hen
        refine ⟨hl, hlatch, hlevel, halarm, hraised, fun hon hz => ⟨tamperErase_keys s c, rd_zeroise_erased _, rd_tamperErase_count s c⟩⟩
  · refine ⟨_, rfl, ?_, ?_, rfl⟩
    · rw [rd_tamperRefresh_other _ (by decide) (by decide), rd_wr_same, bit_mod_two_pow _ (show c.val < SEC_TAMPER_STATUS.LIVE.w from c.isLt),
        bit_clrBit]
      simp
    · rw [rd_tamperRefresh_other _ (by decide) (by decide), rd_wr_apart _ (by decide)]
  · exact ⟨_, congrArg Host.Outcome.next (viaBar0_act h _), rd_wr_one s rfl _ _ _, onlyRegs_wr s _ _ _ _ _ (by simp)⟩
  · exact ⟨_, congrArg Host.Outcome.next (if_neg (by simp [hr])), rfl, rfl, rfl⟩
  · by_cases hresp : s.wordBytes SEC_DBG_RESP_W.RESP 4 = (hmac256 key (leBytes 16 n ++ leBytes 1 l)).take 16
    · rw [if_pos hresp]
      have heq := dbgLevelRequest_right h hl hn hkey hresp
      split
      case isTrue hlock => rwa [if_pos hlock] at heq
      case isFalse hlock =>
        rw [if_neg hlock] at heq
        refine ⟨_, heq, ?_, ?_, fun h2 => ?_, fun h1 => ?_⟩
        · rw [rd_wr_same]
          exact Nat.mod_eq_of_lt l.isLt
        · obtain ⟨keys, hsec, -⟩ := fullDebug_sec s
          rcases hl with rfl | rfl
          · rfl
          · exact (congrArg Sec.nonce hsec :)
        · subst h2
          obtain ⟨keys, hsec, hkeys⟩ := fullDebug_sec s
          refine ⟨fun k hk => ?_, ?_⟩
          · exact (congrArg (fun x : Sec => aget x.keys k) hsec).trans (hkeys k hk)
          · exact (on_of_rd (rd_wr_apart s.fullDebug (by decide) _ _ _ _ _ _ _)).trans (on_fullDebug_eclipse s)
        · subst h1
          rfl
    · rw [if_neg hresp]
      exact ⟨_, dbgLevelRequest_wrong h hl hn hkey hresp, rd_dbgFails_count s, rd_dbgFails_lockout s,
        rd_dbgFails_other s (by decide) (by decide) _ _ _, dbgFails_sec s⟩
  · exact ⟨_, congrArg Host.Outcome.next (viaBar0_act h _), rd_wr_zero s _ _ _ _, onlyRegs_wr s _ _ _ _ _ (by simp)⟩
  · refine ⟨_, _, _, _, fwWrite_eq h hb data p, rd_fwAsked_busy s p, rfl, fwResult_short s, fun img himg => ?_, fun hp => ?_, fun hp => ?_,
      gated_fwAsked s p, memSame_of_mem (fwAsked_mem s p)⟩
    · subst himg
      exact ⟨rfl, fun hfull => ⟨fun hbad => (fwResult_full s hfull).trans (imageResult_bad s hbad),
        fun h0 => imageResult_ok s (imageResult_of_fwResult s h0)⟩⟩
    · subst hp
      exact fwAsked_out s
    · subst hp
      exact on_fwAsked_poisoned s
  · have hreject : exec i s = .next (s.wr SEC_STATUS.CFG_REJECT 1) := by
      rcases hi with rfl | rfl <;> exact congrArg Host.Outcome.next ((viaBar0_act h _).trans (if_pos hb))
    exact ⟨_, hreject, rd_wr_one s rfl _ _ _, onlyRegs_wr s _ _ _ _ _ (by simp)⟩
  · by_cases hr0 : r = 0
    · subst hr0
      cases ok with
      | true =>
        refine ⟨_, fwWriteDone_written h, ?_, rfl, ?_, fun hne => absurd rfl hne, fun _ _ die => ?_⟩
        · exact (rd_wr_apart (s.fwEnded.flashed _ _) (by decide) _ _ _ _ _ _ _).trans (rd_fwEnded_busy s)
        · exact rd_wr_zero _ _ _ _ _
        · exact aget_fwSlots _ die _
      | false =>
        obtain ⟨free, flash, heq⟩ := fwWriteDone_failed h
        refine ⟨_, heq, ?_, rfl, ?_, fun hne => absurd rfl hne, fun _ hok => absurd hok (by decide)⟩
        · exact (rd_wr_apart ({ s.fwEnded with free := free, flash := flash } : State) (by decide) _ _ _ _ _ _ _).trans (rd_fwEnded_busy s)
        · exact rd_wr_same _ SEC_FW_RESULT.RESULT 4 0 0 0
    · refine ⟨_, fwWriteDone_refused h hr0 ok, ?_, rfl, ?_, fun _ => fwEnded_flash s, fun h0 => absurd h0 hr0⟩
      · exact (rd_wr_apart s.fwEnded (by decide) _ _ _ _ _ _ _).trans (rd_fwEnded_busy s)
      · rw [rd_wr_same, if_pos hr0]
        exact Nat.mod_eq_of_lt hr
  · refine ⟨_, raiseMin_eq h hb, ?_⟩
    by_cases hmin : s.rd SEC_FW_STATUS.MINVER = s.rd SEC_FW_STATUS.VERSION / 256
    · rw [if_pos hmin, if_pos hmin]
      exact ⟨rd_wr_zero s _ _ _ _, rfl⟩
    · rw [if_neg hmin, if_neg hmin]
      by_cases hfuse : 64 ≤ s.sec.raises
      · rw [if_pos hfuse, if_pos hfuse]
        exact ⟨rd_wr_same s SEC_FW_RESULT.RESULT 5 0 0 0, rd_wr_apart s (by decide) _ _ _ _ _ _ _⟩
      · rw [if_neg hfuse, if_neg hfuse]
        refine ⟨rd_wr_zero _ SEC_FW_RESULT.RESULT 0 0 0, ?_, rfl⟩
        have hminver := rd_wr_apart (f := SEC_FW_RESULT.RESULT) (g := SEC_FW_STATUS.MINVER) (s.wr SEC_FW_STATUS.MINVER
          (s.rd SEC_FW_STATUS.VERSION / 256)) (by decide) 0 0 0 0 0 0 0
        exact hminver.trans (rd_wr_same s _ _ _ _ _)

end

section
/-! Commands of the host and the blocks that complete with their effect (R264, R332, R361, R364, R370, R371). -/
namespace Sys2Proof.Machine

/-! #### What a clearing leaves of the faults (R370) -/

section
variable (s : State)

theorem dueAgain_saf (ch : Nat) : (s.dueAgain ch).saf = s.saf := by
  unfold State.dueAgain
  split <;> rfl

theorem wake_saf (ch : Nat) : (s.wake ch).saf = s.saf := dueAgain_saf _ _

theorem setGuardBit_saf (f : Fld) (tile i : Nat) (v : Bool) : (s.setGuardBit f tile i v).saf = s.saf := rfl

theorem markSuspended_saf : s.markSuspended.saf = s.saf := by
  unfold State.markSuspended
  dsimp only

theorem setEsc_saf (p : Nat) (v : Bool) : (s.setEsc p v).saf = s.saf := by
  unfold State.setEsc
  dsimp only
  split <;> simp

theorem loadWord_saf (e : Nat) : (s.loadWord e).saf = s.saf := by
  unfold State.loadWord
  dsimp only
  split
  · simp
  · split
    · simp
    · split <;> simp

/-- A fold of steps that leave the faults leaves them. -/
theorem foldl_saf {α : Type} {f : State → α → State} (hf : ∀ t a, (f t a).saf = t.saf) (l : List α) : (l.foldl f s).saf = s.saf :=
  List.foldlRecOn (motive := fun t : State => t.saf = s.saf) _ _ rfl fun t ht a _ => (hf t a).trans ht

theorem tripClear_saf (tile i : Nat) : (s.tripClear tile i).saf = s.saf := by
  unfold State.tripClear
  split
  · rfl
  · split
    · simp
    · dsimp only
      split
      · simp only [setGuardBit_saf, markSuspended_saf]
      · split
        · simp only [wake_saf, chWr_saf, setGuardBit_saf, markSuspended_saf]
        · simp only [chWr_saf, setGuardBit_saf, markSuspended_saf]

theorem pathClear_saf (foreign : Bool) (m : Nat) : (s.pathClear foreign m).saf = s.saf := by
  unfold State.pathClear
  dsimp only
  generalize (if foreign = true then TON_PT_FOREIGN.FOREIGN else TON_PT_LOSS.LOSS) = f
  generalize (if foreign = true then s.ton.lastF else s.ton.lastL) = last
  split
  · rfl
  · split <;> simp

theorem foldClear_saf (tile : Nat) : (s.foldClear tile).saf = s.saf := by
  unfold State.foldClear
  split
  · simp
  · dsimp only
    split
    · exact (foldl_saf _ (fun t ch => wake_saf t ch) _).trans (by simp)
    · simp

theorem pairRefresh_saf : s.pairRefresh.saf = s.saf := by
  unfold State.pairRefresh
  dsimp only
  generalize (s.saf.stale || _ || _) = bad
  cases bad <;> split_ifs <;> simp [State.occur]

theorem startReapply_saf : s.startReapply.2.saf = s.saf := by
  unfold State.startReapply
  split
  · rfl
  · simp [State.enqueue, State.setStat]

/-- A tile that returns restarts its channels, and leaves the faults. -/
theorem returnTile_saf (t : Nat) : (s.returnTile t).saf = s.saf := by
  unfold State.returnTile
  dsimp only
  refine (foldl_saf _ (fun u ch => ?_) _).trans ?_
  · split
    · simp only [wake_saf, chWr_saf]
    · simp only [chWr_saf]
  · rw [wr_saf]
    refine (foldl_saf _ (fun u ch => ?_) _).trans ((foldl_saf _ (fun u w => ?_) _).trans (foldl_saf _ (fun u e => loadWord_saf u e) _))
    · simp only [chWr_saf]
    · simp only [wr_saf]

theorem clearToo_saf (n : Nat) : (s.clearToo n).saf = s.saf := by
  unfold State.clearToo
  split
  · rfl
  · dsimp only
    split
    · exact returnTile_saf _ _
    · exact foldl_saf _ (fun t i => tripClear_saf t _ i) _
    · exact foldl_saf _ (fun t i => tripClear_saf t _ i) _
    · exact foldl_saf _ (fun t i => wr_saf _ _ _ _ _ _) _
    · exact foldl_saf _ (fun t i => pathClear_saf t _ _) _
    · exact foldl_saf _ (fun t i => pathClear_saf t _ _) _
    · exact foldClear_saf _ _
    · exact foldClear_saf _ _
    all_goals simp

theorem safRefresh_saf : s.safRefresh.saf = s.saf := by simp [State.safRefresh]

theorem clearFirst_saf : s.clearFirst.saf = s.saf := by simp [State.clearFirst]

/-- Clearing takes the latches of the sources named, and no others (R370). -/
theorem clearLatched_latches (ns : List Nat) :
    (s.clearLatched ns).2.saf.latches = s.saf.latches.filter fun l => !ns.contains l.source := by
  have hsteps (t : State) (free : List Nat) :
      (ns.foldl State.clearToo (free.foldl (fun t p => t.setEsc p false) t)).safRefresh.pairRefresh.saf = t.saf := by
    rw [pairRefresh_saf, safRefresh_saf, foldl_saf _ (fun t n => clearToo_saf t n), foldl_saf _ (fun t p => setEsc_saf t p false)]
  unfold State.clearLatched
  dsimp only
  split
  · rw [startReapply_saf, hsteps]
  · rw [hsteps]

end

/-! The sources that are latched. -/

section
variable {s : State}

theorem latchOf_isSome {l : Latch} (h : l ∈ s.saf.latches) : (s.latchOf l.source).isSome = true := by
  rw [State.latchOf, List.find?_isSome]
  exact ⟨l, h, by simp⟩

theorem mem_latchedOf {p : Nat → Bool} {n : Nat} : n ∈ s.latchedOf p ↔ n < 384 ∧ p n = true ∧ (s.latchOf n).isSome = true := by
  simp [State.latchedOf]

/-- A clear that no cause holds back takes the latches of the sources it names. -/
theorem safClear_latches {p : Nat → Bool} (h : ∀ n < 384, p n = true → (s.latchOf n).isSome = true → s.causeNow n = false) :
    (s.safClear p).saf.latches = s.saf.latches.filter fun l => !(s.latchedOf p).contains l.source := by
  have hno : ¬ (s.latchedOf p).any s.causeNow = true := by
    simp only [List.any_eq_true, not_exists, not_and, mem_latchedOf]
    rintro n ⟨hn, hp, hl⟩
    simp [h n hn hp hl]
  rw [State.safClear]
  exact (congrArg (fun t : State => t.saf.latches) (if_neg hno)).trans (clearLatched_latches s _)

/-- A source below 384 that a clear names has no latch left. -/
theorem not_named_of_mem_left {p : Nat → Bool} {l : Latch} (hl : l ∈ s.saf.latches.filter fun l => !(s.latchedOf p).contains l.source)
    (hlt : l.source < 384) : p l.source = false := by
  obtain ⟨hmem, hout⟩ := List.mem_filter.mp hl
  by_contra hp
  have hin : l.source ∈ s.latchedOf p := mem_latchedOf.mpr ⟨hlt, by simpa using hp, latchOf_isSome hmem⟩
  simp [hin] at hout

end

/-! #### ECLIPSE_CLEAR (R370 to R372) -/

section
variable {s : State} {id : Nat} {d : Desc}

/-- The sources that an ECLIPSE_CLEAR names. -/
def clearNames (d : Desc) (n : Nat) : Bool := d.fld 8 1 == 1 || (decide (d.fld 12 2 ≤ n) && decide (n < d.fld 12 2 + d.fld 10 2))

/-- What an ECLIPSE_CLEAR asks for beside the clearing: the first-fault record and the history queue emptied. -/
def State.emptied (s : State) (d : Desc) : State :=
  let t := if bit (d.fld 9 1) 0 then s.clearFirst else s
  if bit (d.fld 9 1) 1 then ({ t with saf := { t.saf with hist := [] } } : State).safRefresh else t

/-- An ECLIPSE_CLEAR completes, or waits for the re-application that the clearing started. -/
def clearEnds (r : Option Nat × State) (d : Desc) (count : Nat) : State :=
  match r.1 with
  | none => (r.2.emptied d).done d stOK count
  | some seq => { r.2.emptied d with
      saf := { (r.2.emptied d).saf with clears := (r.2.emptied d).saf.clears ++ [{ desc := d.id, count := count, seq := seq }] } }

/-- What a valid ECLIPSE_CLEAR does in its frame. -/
def State.clearNow (s : State) (d : Desc) : State :=
  match (s.latchedOf (clearNames d)).find? s.causeNow with
  | some n => s.done d stCausePresent n
  | none => clearEnds (s.clearLatched (s.latchedOf (clearNames d))) d (s.latchedOf (clearNames d)).length

theorem eclipseClear_eq (s : State) (d : Desc) : s.eclipseClear d =
    if !clearBodyOk d then s.done d stBadField else (s.reach (s.frameAt d.acc + 1)).clearNow d := rfl

theorem emptied_latches (s : State) (d : Desc) : (s.emptied d).saf.latches = s.saf.latches := by
  have hfirst : (if bit (d.fld 9 1) 0 then s.clearFirst else s).saf = s.saf := by
    split
    · exact clearFirst_saf s
    · rfl
  unfold State.emptied
  generalize (if bit (d.fld 9 1) 0 = true then s.clearFirst else s) = t at hfirst
  dsimp only
  split
  · rw [safRefresh_saf, ← hfirst]
  · rw [hfirst]

theorem clearEnds_latches (r : Option Nat × State) (d : Desc) (count : Nat) : (clearEnds r d count).saf.latches = r.2.saf.latches := by
  refine Eq.trans ?_ (emptied_latches r.2 d)
  unfold clearEnds
  split
  · rw [done_saf]
  · rfl

/-- A valid ECLIPSE_CLEAR that no cause holds back leaves the latches of the sources it does not name. -/
theorem eclipseClear_latches (hbody : clearBodyOk d = true)
    (h : ∀ n < 384, (s.latchOf n).isSome = true → (s.reach (s.frameAt d.acc + 1)).causeNow n = false) :
    (s.eclipseClear d).saf.latches = s.saf.latches.filter fun l => !(s.latchedOf (clearNames d)).contains l.source := by
  have hno : ((s.reach (s.frameAt d.acc + 1)).latchedOf (clearNames d)).find? (s.reach (s.frameAt d.acc + 1)).causeNow = none := by
    rw [List.find?_eq_none]
    intro n hn
    obtain ⟨hlt, -, hl⟩ := mem_latchedOf.mp hn
    simp [h n hlt hl]
  rw [eclipseClear_eq, if_neg (by simp [hbody]), State.clearNow, hno]
  exact (clearEnds_latches _ _ _).trans (clearLatched_latches _ _)

end

/-! #### Frames that are sent (R332) -/

/-- A transmit slot that is queued reads so: the two bits of the slot, and no others, change. -/
theorem bits_slot (w : Nat) {n : Nat} (h : n < 4) : bits ((w - bits w (2 * n) 2 * 4 ^ n + 1 * 4 ^ n) % 2 ^ 8) (2 * n) 2 = 1 := by
  unfold bits
  interval_cases n <;> omega

theorem sendCmd_eq {s : State} {p n len : Nat} (h : s.txState p n ≠ 1) (hlo : 14 ≤ len) (hhi : len ≤ 240) (mode : Nat) :
    s.sendCmd p n len mode = { s.setTx p n 1 with mer := { s.mer with txq := s.mer.txq ++ [⟨p, n, len, mode⟩] } } :=
  if_neg (by omega)

theorem txState_setTx (s : State) (p : Nat) {n : Nat} (h : n < 4) : (s.setTx p n 1).txState p n = 1 := by
  rw [State.txState, State.setTx, rd_wr_same]
  exact bits_slot _ h

/-! #### A reset leaves the die in D0 (R79) -/

theorem d3hot_hostReset (s : State) (die : Fin 2) (linkDown : Bool) : (s.hostReset die linkDown).d3hot die = false := by
  have hmem : (s.hostReset die linkDown).mem = (s.resetEndpoint die linkDown).mem := by
    rw [hostReset_eq]
    split
    · exact clearRings_dropAll_mem _
    · rfl
  have hbyte : (s.hostReset die linkDown).loadB (cfgBase die + 0x44) = memDefault (cfgBase die + 0x44) := by
    refine (memSame_of_mem hmem _).trans ?_
    have hcfg := loadB_clearMem ((s.resetRegs die linkDown).clearMem (msixBase die) (msixBase (die + 1))) (cfgBase die) (cfgBase (die + 1))
      (cfgBase die + 0x44)
    rw [if_pos (by unfold cfgBase; omega)] at hcfg
    have hend : (s.resetEndpoint die linkDown).mem =
        (((s.resetRegs die linkDown).clearMem (msixBase die) (msixBase (die + 1))).clearMem (cfgBase die) (cfgBase (die + 1))).mem := rfl
    exact (memSame_of_mem hend _).trans hcfg
  rw [State.d3hot, load_one, hbyte]
  rcases (show die = 0 ∨ die = 1 by omega) with rfl | rfl <;> decide

/-! #### Commands of the rings, the programs and the faults -/

section
variable {s : State} {die : Fin 2}

theorem eclipseClearSources_eq {id : Nat} {d : Desc} (h : Runs s id opEclipseClear d) (hop : d.fld 8 1 = 0)
    (hw : ∀ w ∈ s.saf.clears, w.desc ≠ id) : exec (.eclipseClearSources id) s = .next (s.eclipseClear d) :=
  congrArg Host.Outcome.next ((withOp_of_runs h _).trans (if_neg (by simpa [State.clearWaits, hop] using hw)))

theorem eclipseClearAll_eq {id : Nat} {d : Desc} (h : Runs s id opEclipseClear d) (hop : d.fld 8 1 = 1)
    (hw : ∀ w ∈ s.saf.clears, w.desc ≠ id) : exec (.eclipseClearAll id) s = .next (s.eclipseClear d) :=
  congrArg Host.Outcome.next ((withOp_of_runs h _).trans (if_neg (by simpa [State.clearWaits, hop] using hw)))

theorem on_of_rd_one {f : Fld} {i j k : Nat} (h : s.rd f i j k = 1) : s.on f i j k = true := by
  rw [State.on, h]
  rfl

theorem progCmd_idle (h : s.lpa.cmd = none) (op p : Nat) :
    s.progCmd op p = { s.wr LPA_PROG_STATUS.BUSY 1 with lpa := { s.lpa with cmd := some (op, p) } } := by
  rw [State.progCmd, h]

theorem inject_eq {n : Nat} (hen : s.on SAF_CTL.INJ_EN = true) (hn : n < 384) (hl : faultListed n = true) (info mode : Nat) :
    s.inject n info mode = { s with saf := { s.saf with raised := s.saf.raised ++ [⟨n, info, 0, s.now + 1, mode⟩] } } :=
  if_neg (by simp [hen, hl]; omega)

/-- The link of a die that loses its data link is a fault (R346). -/
theorem dataLinkLoss_raises (s : State) (die : Fin 2) : ∃ pins saf, exec (.dataLinkLoss die) s =
    .next { s.hostReset die true with pins := pins, saf := saf } ∧ ∃ o ∈ saf.raised, o.source = 205 + 64 * die.val := by
  refine ⟨_, _, rfl, _, List.mem_append_right _ (List.mem_singleton_self _), ?_⟩
  show 192 + 64 * die.val + 13 = _
  omega

end

end Sys2Proof.Machine

open Sys2Proof Sys2Proof.Machine

/-- Settles O59: each command's own effect, from the branch that its conditions choose. -/
theorem hostAndBlockCommandsComplete : Obligations.HostAndBlockCommandsComplete := by
  unfold Obligations.HostAndBlockCommandsComplete
  refine ⟨fun s id d data h hbody hdom => ⟨fun hin => ?_, fun hin hlen => ?_⟩, fun s die => ⟨?_, ?_, ?_, ?_, ?_, ?_, ?_⟩,
    fun s die width speed ht hp hd hw hs => ?_, fun s die v h => ?_, fun s die ring h hon hcq hdom => ?_, fun s die ring h hon => ?_,
    fun s die ring h hon => ?_, fun s die p h hc => ⟨?_, ?_⟩, fun s die p n len h hst hlo hhi => ⟨?_, ?_, ?_⟩,
    fun s die k h hk hcause => ?_, fun s die h hcause => ?_, fun s id d h hbody hw hcause => ⟨fun hop => ?_, fun hop => ?_⟩,
    fun s die n info h hen hn hl => ⟨?_, ?_⟩⟩
  · refine ⟨_, tableDma_runs h data none false, ?_⟩
    rw [show s.poison false d.ring d.hostAddr = s from rfl, tableDma_moves hbody (.inl hdom), hin]
    exact ⟨(completed_done (s.toHost _ _) _ _ _).answered, done_mem_out _ _ _ _ List.mem_cons_self,
      memSame_of_mem (congrArg State.mem (onlyHpt_done (s.toHost _ _) d stOK (some 0)).1 :)⟩
  · refine ⟨_, tableDma_runs h data none false, ?_⟩
    rw [show s.poison false d.ring d.hostAddr = s from rfl, tableDma_moves hbody (.inl hdom), hin, if_pos rfl, if_neg (by omega),
      List.take_of_length_le (by omega)]
    exact ⟨(completed_done _ _ _ _).answered, memSame_of_mem (congrArg State.mem (onlyHpt_done _ d stOK _).1 :)⟩
  · exact ⟨_, rfl, rd_hostReset_headless s die true, (rd_hostReset_linkDown s die).1, nget_nset_same s.pins.perst die 1⟩
  · exact ⟨_, rfl, nget_nset_same s.pins.perst die 0, nget_nset_same s.pins.training die _⟩
  · exact ⟨_, rfl, rd_hostReset_headless s die true, (rd_hostReset_linkDown s die).1, nget_nset_same (s.hostReset die true).pins.training die 1⟩
  · exact ⟨_, rfl, rd_hostReset_headless s die true, (rd_hostReset_linkDown s die).1, nget_nset_same (s.hostReset die true).pins.training die 1⟩
  · obtain ⟨pins, saf, hexec, o, ho, hsrc⟩ := dataLinkLoss_raises s die
    exact ⟨_, o, hexec, rd_hostReset_headless s die true, (rd_hostReset_linkDown s die).1, ho, hsrc⟩
  · exact ⟨_, rfl, rd_hostReset_headless s die false, rd_hostReset_linkUp s die (by decide)⟩
  · exact ⟨_, rfl, rd_hostReset_headless s die false, d3hot_hostReset s die false, rd_hostReset_linkUp s die (by decide)⟩
  · exact ⟨_, linkTrained_eq s die ht hp hd hw (by omega), (linkTrained_rd s die width speed).1, nget_nset_same s.pins.training die 0,
      memSame_of_mem rfl⟩
  · cases v with
    | false =>
      have hrd : (s.wr HPT_CTL.ENABLE 0).rd HPT_CTL.ENABLE = 0 := rd_wr_zero _ _ _ _ _
      exact ⟨_, hptCtlEnable_off h, by rw [State.on, hrd]; rfl, memSame_of_mem rfl⟩
    | true =>
      have hrd : ((s.wr HPT_CTL.ENABLE 1).wr HPT_STATUS.HEADLESS 0 die).rd HPT_CTL.ENABLE = 1 := by
        rw [rd_wr_apart _ (by decide), rd_wr_one s rfl]
      exact ⟨_, hptCtlEnable_on h, on_of_rd_one hrd, memSame_of_mem rfl⟩
  · refine ⟨_, sqEnable_on h hon hcq hdom, on_of_rd_one ?_, rd_wr_zero _ _ _ _ _, memSame_of_mem rfl⟩
    simp (disch := decide) only [rd_wr_apart, rd_wr_one]
  · refine ⟨_, cqEnable_on h hon, on_of_rd_one ?_, ?_, memSame_of_mem rfl⟩
    all_goals simp (disch := decide) only [rd_withHpt, rd_wr_apart, rd_wr_one, rd_wr_zero]
  · refine ⟨_, tqEnable_on h hon, on_of_rd_one ?_, ?_, memSame_of_mem rfl⟩
    all_goals simp (disch := decide) only [rd_withHpt, rd_wr_apart, rd_wr_one, rd_wr_zero]
  · refine ⟨_, congrArg Host.Outcome.next ((viaBar0_act h _).trans (progCmd_idle hc 1 p)), rfl, ?_, memSame_of_mem rfl⟩
    exact rd_wr_one s (f := LPA_PROG_STATUS.BUSY) rfl 0 0 0
  · refine ⟨_, congrArg Host.Outcome.next ((viaBar0_act h _).trans (progCmd_idle hc 2 p)), rfl, ?_, memSame_of_mem rfl⟩
    exact rd_wr_one s (f := LPA_PROG_STATUS.BUSY) rfl 0 0 0
  · exact ⟨_, congrArg Host.Outcome.next ((viaBar0_act h _).trans (sendCmd_eq hst hlo hhi 0)), txState_setTx s p n.isLt, rfl, memSame_of_mem rfl⟩
  · exact ⟨_, congrArg Host.Outcome.next ((viaBar0_act h _).trans (sendCmd_eq hst hlo hhi 1)), txState_setTx s p n.isLt, rfl, memSame_of_mem rfl⟩
  · exact ⟨_, congrArg Host.Outcome.next ((viaBar0_act h _).trans (sendCmd_eq hst hlo hhi 2)), txState_setTx s p n.isLt, rfl, memSame_of_mem rfl⟩
  · have hlatches := safClear_latches (s := s) (p := fun n => n == k.val) fun n _ hp hl => by
      obtain rfl : n = k.val := by simpa using hp
      exact hcause hl
    refine ⟨_, congrArg Host.Outcome.next (viaBar0_act h _), fun l hl hlk => ?_, fun l hl hlk => ?_⟩
    · rw [hlatches] at hl
      simpa [hlk] using not_named_of_mem_left hl (by omega)
    · rw [hlatches, List.mem_filter]
      refine ⟨hl, ?_⟩
      have hout : l.source ∉ s.latchedOf fun n => n == k.val := fun hin => hlk (by simpa using (mem_latchedOf.mp hin).2.1)
      simpa using hout
  · have hlatches := safClear_latches (s := s) (p := fun _ => true) fun n hn _ hl => hcause n hn hl
    refine ⟨_, congrArg Host.Outcome.next (viaBar0_act h _), fun l hl => ?_⟩
    rw [hlatches] at hl
    by_contra hlt
    exact absurd (not_named_of_mem_left hl (by omega)) (by decide)
  · refine ⟨_, eclipseClearSources_eq h hop hw, fun l hl hin => ?_⟩
    rw [eclipseClear_latches hbody hcause] at hl
    have hnot := not_named_of_mem_left hl hin.2.2
    simp [clearNames, hin.1, hin.2.1] at hnot
  · refine ⟨_, eclipseClearAll_eq h hop hw, fun l hl => ?_⟩
    rw [eclipseClear_latches hbody hcause] at hl
    by_contra hlt
    have hnot := not_named_of_mem_left hl (by omega)
    simp [clearNames, hop] at hnot
  · exact ⟨_, congrArg Host.Outcome.next ((viaBar0_act h _).trans (inject_eq hen hn hl info.toNat 1)), rfl, memSame_of_mem rfl⟩
  · exact ⟨_, congrArg Host.Outcome.next ((viaBar0_act h _).trans (inject_eq hen hn hl info.toNat 2)), rfl, memSame_of_mem rfl⟩

end

section
/-! SUPPORT. A list sorted by an order holds what it held; fields that lie in one block of registers. -/
namespace Sys2Proof

theorem insBy_perm {α : Type} (le : α → α → Bool) (x : α) (l : List α) : (insBy le x l).Perm (x :: l) := by
  induction l with
  | nil => exact .refl _
  | cons a l ih =>
    rw [insBy]
    split
    · exact .refl _
    · exact (ih.cons a).trans (.swap x a l)

theorem sortBy_perm {α : Type} (le : α → α → Bool) (l : List α) : (sortBy le l).Perm l := by
  induction l with
  | nil => exact .refl _
  | cons a l ih => exact (insBy_perm le a _).trans (ih.cons a)

/-- Every place of the field lies between two bit addresses of a die's copy. -/
def Fld.within (f : Fld) (lo hi : Nat) : Bool := f.fits && decide (lo ≤ f.bit0) && decide (f.bit0 + f.spread < hi)

theorem Fld.key_within {f : Fld} {lo hi : Nat} (h : f.within lo hi = true) (i j k : Nat) :
    lo ≤ f.key i j k % 0x80000000 ∧ f.key i j k % 0x80000000 < hi := by
  simp only [Fld.within, Bool.and_eq_true, decide_eq_true_eq] at h
  have := Fld.key_mod h.1.1 i j k
  omega

end Sys2Proof
end

section
/-! SUPPORT. The scheduler's queues (R114, R115): what putting a request in and taking requests out changes, and that it changes nothing
but the scheduler, the Host Port and their registers. -/
namespace Sys2Proof.Machine

/-- Nothing but the scheduler, the Host Port, their registers, what the module puts out and the number of free values drawn differs
between `s` and `t`. -/
structure SchedFrame (s t : State) : Prop where
  frame : t = { s with regs := t.regs, hpt := t.hpt, orb := t.orb, out := t.out, free := t.free }
  regs : ∀ k, 0x800000 ≤ k % 0x80000000 → (k % 0x80000000 < 0x1000000 ∨ 0x1800000 ≤ k % 0x80000000) → nget t.regs k = nget s.regs k

section
variable {s t : State}

theorem schedFrame_refl (s : State) : SchedFrame s s := ⟨rfl, fun _ _ _ => rfl⟩

theorem SchedFrame.trans {a b c : State} (h : SchedFrame a b) (g : SchedFrame b c) : SchedFrame a c := by
  refine ⟨?_, fun k hk hk' => (g.regs k hk hk').trans (h.regs k hk hk')⟩
  have h1 := g.frame
  rw [h.frame] at h1
  exact h1

theorem SchedFrame.setOrb (h : SchedFrame s t) (o : Orb) : SchedFrame s { t with orb := o } := h.trans ⟨rfl, fun _ _ _ => rfl⟩

/-- A field of the scheduler's block may be written. -/
theorem SchedFrame.wr (h : SchedFrame s t) {f : Fld} (hf : f.within 0x1000000 0x1800000 = true) (v i j k : Nat) :
    SchedFrame s (t.wr f v i j k) := by
  refine h.trans ⟨rfl, fun n h1 h2 => nget_nset_other _ _ fun e => ?_⟩
  have := Fld.key_within hf i j k
  rw [← e] at this
  omega

theorem SchedFrame.onlyHpt {u : State} (h : SchedFrame s t) (g : OnlyHpt t u) : SchedFrame s u := by
  refine h.trans ⟨?_, fun k hk _ => g.2 k hk⟩
  have h1 := g.1
  exact h1.trans (by rw [h1])

theorem SchedFrame.ite {p : Prop} [Decidable p] {a b : State} (ha : SchedFrame s a) (hb : SchedFrame s b) :
    SchedFrame s (if p then a else b) := by split <;> assumption

theorem SchedFrame.mem (h : SchedFrame s t) : t.mem = s.mem := by rw [h.frame]
theorem SchedFrame.pln (h : SchedFrame s t) : t.pln = s.pln := by rw [h.frame]
theorem SchedFrame.now (h : SchedFrame s t) : t.now = s.now := by rw [h.frame]

/-- Outside the two blocks every register reads on. -/
theorem SchedFrame.rd (h : SchedFrame s t) {f : Fld} (hh : f.avoids 0 0x800000 = true) (ho : f.avoids 0x1000000 0x1800000 = true)
    (i j k : Nat) : t.rd f i j k = s.rd f i j k := by
  have h1 := Fld.key_avoids hh i j k
  have h2 := Fld.key_avoids ho i j k
  rw [State.rd, State.rd, h.regs _ (by omega) (by omega)]

end

/-- A descriptor's completion, if it is in execution, changes the Host Port alone. -/
theorem onlyHpt_withDesc_finish (s : State) (id st : Nat) (res : Option Nat) (exe fl : Nat) :
    OnlyHpt s (s.withDesc id fun d => s.finish d st res exe fl) := by
  unfold State.withDesc
  split
  · exact onlyHpt_finish _ _ _ _ _ _
  · exact onlyHpt_refl s

theorem noteHol_reqs (s : State) (r : Req) : (s.noteHol r).orb.reqs = s.orb.reqs := rfl

theorem SchedFrame.noteHol {s t : State} (h : SchedFrame s t) (r : Req) : SchedFrame s (t.noteHol r) :=
  SchedFrame.wr (SchedFrame.setOrb h _) (by decide) _ _ _ _

/-- Requests that leave their queues are gone, and the others stand in their order. -/
theorem dequeue_reqs (s : State) (p : Req → Bool) : (s.dequeue p).orb.reqs = s.orb.reqs.filter fun r => !p r := by
  refine congrArg (List.filter _) ?_
  exact List.foldlRecOn (motive := fun t : State => t.orb.reqs = s.orb.reqs) _ _ rfl fun t ht r _ => (noteHol_reqs t r).trans ht

theorem SchedFrame.dequeue {s t : State} (h : SchedFrame s t) (p : Req → Bool) : SchedFrame s (t.dequeue p) :=
  SchedFrame.setOrb (List.foldlRecOn _ _ h fun _ hb r _ => hb.noteHol r) _

/-- The state in which requests leave their queues (R115): without any left, a global hold is over. -/
def State.withdrawn (s : State) (p : Req → Bool) : State :=
  (if (s.orb.reqs.filter fun r => !p r).isEmpty then s.wr ORB_STATUS.GLOBAL_HOLD 0 else s).dequeue p

/-- Withdrawing requests ends by completing their descriptors. -/
theorem onlyHpt_cancel (s : State) (p : Req → Bool) (st : Nat) : OnlyHpt (s.withdrawn p) (s.cancel p st) := by
  refine List.foldlRecOn _ _ (onlyHpt_refl _) fun b hb r _ => ?_
  split
  · exact hb.trans (onlyHpt_withDesc_finish b _ st none b.ticks 0)
  · exact hb

theorem cancel_reqs (s : State) (p : Req → Bool) (st : Nat) : (s.cancel p st).orb.reqs = s.orb.reqs.filter fun r => !p r := by
  rw [(onlyHpt_cancel s p st).1, State.withdrawn]
  refine (dequeue_reqs _ p).trans ?_
  split <;> rfl

theorem schedFrame_cancel (s : State) (p : Req → Bool) (st : Nat) : SchedFrame s (s.cancel p st) :=
  SchedFrame.onlyHpt ((SchedFrame.ite ((schedFrame_refl s).wr (by decide) _ _ _ _) (schedFrame_refl s)).dequeue p) (onlyHpt_cancel s p st)

/-- A request put in its queue takes the next number and stands among the requests; nothing but the scheduler changes (R115). -/
theorem enqueue_orb (s : State) (r : Req) : s.enqueue r = { s with orb := (s.enqueue r).orb } := rfl

theorem enqueue_reqs (s : State) (r : Req) : (s.enqueue r).orb.reqs.Perm ({ r with seq := s.orb.nextSeq } :: s.orb.reqs) :=
  (sortBy_perm _ _).trans (List.perm_append_comm)

end Sys2Proof.Machine
end

section
/-! PLAN_COMMIT, PLAN_ABORT and PLAN_FREE (R96 to R99, R109). -/
namespace Sys2Proof.Machine

section
variable {s : State} {id : Nat} {d : Desc}

theorem planCommit_runs (h : Runs s id opPlanCommit d) (hp : s.commitPending id = false) : exec (.planCommit id) s = .next
    (if s.commitStatus d ≠ stOK then s.done d (s.commitStatus d)
      else if (s.commitReq d).strict ∧ (s.commitReq d).creq < s.now + 40 then s.done d stLateReject
      else s.enqueue (s.commitReq d)) :=
  congrArg Host.Outcome.next ((withOp_of_runs h _).trans (if_neg (by simp [hp])))

/-- The requests that a PLAN_ABORT withdraws: the plan's commits from descriptors, of the ring's domain or of any for domain 0. -/
def State.abortable (s : State) (d : Desc) (r : Req) : Bool :=
  match r.origin with
  | .host i => r.plan == d.fld 8 2 && (d.dom == 0 || (s.desc i).any fun x => x.dom == d.dom)
  | _ => false

theorem planAbort_runs (h : Runs s id opPlanAbort d) (hp : d.fld 8 2 ≤ 1023) (hz : zeros d.bytes 10 54 = true)
    (hc : s.pln.cycle = none) : exec (.planAbort id) s = .next
      ((s.cancel (s.abortable d) stAborted).done d stOK (s.orb.reqs.filter (s.abortable d)).length) :=
  congrArg Host.Outcome.next ((withOp_of_runs h _).trans ((if_neg (by simp [hp, hz])).trans (if_neg (by simp [hc]))))

/-- The state without a stored plan. -/
def State.freed (s : State) (plan : Nat) : State := { s with pln := { s.pln with plans := s.pln.plans.filter fun y => y.id != plan } }

theorem planFree_runs {p : Plan} (h : Runs s id opPlanFree d) (hp : d.fld 8 2 ≤ 1023) (hz : zeros d.bytes 10 54 = true)
    (hdom : d.dom = 0) (hs : s.pln.plan (d.fld 8 2) = some p) : exec (.planFree id) s = .next
      (if (s.isLive (d.fld 8 2) || s.pinned (d.fld 8 2)) = true then s.done d stPlanBusy
        else (s.freed (d.fld 8 2)).done d stOK) := by
  refine congrArg Host.Outcome.next ((withOp_of_runs h _).trans ((if_neg (by simp [hp, hz])).trans ?_))
  dsimp only
  rw [hs]
  exact if_neg (by simp [hdom])

end

end Sys2Proof.Machine

open Sys2Proof Sys2Proof.Machine

/-- Settles O19: each command by its branch; what a withdrawal leaves in the queues, and what a completion leaves of all else. -/
theorem commitsAreQueuedAndWithdrawn : Obligations.CommitsAreQueuedAndWithdrawn := by
  unfold Obligations.CommitsAreQueuedAndWithdrawn
  refine ⟨fun s id d h hp hst hlate => ?_, fun s id d h hp hst => ?_, fun s id d h hp hst hs hlate => ?_,
    fun s id d h hp hz hdom hc => ?_, fun s id d p h hp hz hdom hs hl hpin => ?_, fun s id d p h hp hz hdom hs hbusy => ?_⟩
  · have hnot : ¬ ((s.commitReq d).strict = true ∧ (s.commitReq d).creq < s.now + 40) := fun hs => by
      have := hlate hs.1
      omega
    have hreqs := enqueue_reqs s (s.commitReq d)
    refine ⟨_, _, (planCommit_runs h hp).trans ?_, enqueue_orb s (s.commitReq d), hreqs.mem_iff.mpr List.mem_cons_self, hreqs.length_eq,
      rfl, rfl, rfl, rfl, rfl, rfl⟩
    rw [if_neg (not_not.mpr hst), if_neg hnot]
  · exact ⟨_, (planCommit_runs h hp).trans (congrArg _ (if_pos hst)), completed_done s d _ none, onlyHpt_done s d _ none⟩
  · refine ⟨_, (planCommit_runs h hp).trans ?_, completed_done s d _ none, onlyHpt_done s d _ none⟩
    rw [if_neg (not_not.mpr hst), if_pos ⟨hs, hlate⟩]
  · have hdone := onlyHpt_done (s.cancel (s.abortable d) stAborted) d stOK (s.orb.reqs.filter (s.abortable d)).length
    have hanswered := (completed_done (s.cancel (s.abortable d) stAborted) d stOK (s.orb.reqs.filter (s.abortable d)).length).answered
    have hmine (r : Req) : s.abortable d r = match r.origin with | .host _ => r.plan == d.fld 8 2 | _ => false := by
      unfold State.abortable
      cases r.origin <;> simp [hdom]
    refine ⟨_, planAbort_runs h hp hz hc, ?_, ?_, memSame_of_mem (hdone.mem.trans (schedFrame_cancel s _ _).mem)⟩
    · refine (congrArg (fun t : State => t.orb.reqs) hdone.1 :).trans ((cancel_reqs _ _ _).trans (List.filter_congr fun r _ => ?_))
      rw [hmine]
      cases r.origin <;> rfl
    · exact Eq.mp (congrArg (fun l : List Req => Answered d stOK (some l.length) _) (List.filter_congr fun r _ => hmine r)) hanswered
  · exact ⟨_, (planFree_runs h hp hz hdom hs).trans (congrArg _ (if_neg (by simp [hl, hpin]))),
      completed_done (s.freed (d.fld 8 2)) d stOK none, done_pln _ _ _ _,
      memSame_of_mem (onlyHpt_done (s.freed (d.fld 8 2)) d stOK none).mem⟩
  · exact ⟨_, (planFree_runs h hp hz hdom hs).trans (congrArg _ (if_pos (by simpa using hbusy))), completed_done s d _ none,
      onlyHpt_done s d _ none⟩

end

section
/-! SUPPORT. What an admission takes from the scheduler (R115 to R121), and that it leaves the checks of R100 as they were. -/
namespace Sys2Proof.Machine

section
variable {s t : State}

/-! #### The admission of a request in the queues -/

theorem SchedFrame.noteHeld (h : SchedFrame s t) (l : List (Req × Nat)) : SchedFrame s (t.noteHeld l) :=
  List.foldlRecOn _ _ h fun _ hb _ _ => SchedFrame.setOrb hb _

theorem noteHeld_reqs (s : State) (l : List (Req × Nat)) : (s.noteHeld l).orb.reqs = s.orb.reqs :=
  List.foldlRecOn (motive := fun t : State => t.orb.reqs = s.orb.reqs) _ _ rfl fun _ hb _ _ => hb

theorem SchedFrame.debit (h : SchedFrame s t) (b cost : Nat) : SchedFrame s (t.debit b cost) := by
  unfold State.debit
  exact SchedFrame.ite h ((h.setOrb _).setOrb _)

theorem debit_reqs (s : State) (b cost : Nat) : (s.debit b cost).orb.reqs = s.orb.reqs := by
  unfold State.debit
  split <;> rfl

theorem SchedFrame.debits (h : SchedFrame s t) (r : Req) : SchedFrame s (t.debits r) := by
  unfold State.debits
  have h2 := (h.debit r.cls r.tcost).debit 8 r.tcost
  exact SchedFrame.ite h (SchedFrame.ite h2 (h2.debit _ _))

theorem debits_reqs (s : State) (r : Req) : (s.debits r).orb.reqs = s.orb.reqs := by
  unfold State.debits
  dsimp only
  split
  · rfl
  · split <;> simp only [debit_reqs]

theorem SchedFrame.admitReq (h : SchedFrame s t) (r : Req) : SchedFrame s (t.admitReq r) :=
  SchedFrame.debits (((((((h.dequeue _).wr (by decide) _ _ _ _).wr (by decide) _ _ _ _).setOrb _).setOrb _).setOrb _).setOrb _) r

theorem admitReq_reqs (s : State) (r : Req) : (s.admitReq r).orb.reqs = s.orb.reqs.filter fun x => !(x.seq == r.seq) :=
  (debits_reqs _ r).trans (dequeue_reqs s _)

end

/-! #### The checks of R100 -/

/-- The state with another scheduler and Host Port. -/
def State.withSched (s : State) (regs : List (Nat × Nat)) (h : Hpt) (o : Orb) (out : List Out) (free : Nat) : State :=
  { s with regs := regs, hpt := h, orb := o, out := out, free := free }

section
variable (s : State) (regs : List (Nat × Nat)) (h : Hpt) (o : Orb) (out : List Out) (free : Nat)

/-- Light is traced past the scheduler. -/
theorem trace_withSched (ov : List (Nat × Nat)) (n link : Nat) :
    (s.withSched regs h o out free).trace ov n link = s.trace ov n link := by
  induction n generalizing link with
  | zero => rfl
  | succ n ih =>
    have hthrough (e i v : Nat) : (s.withSched regs h o out free).through e i v = s.through e i v := rfl
    have hoptical (e : Nat) : (s.withSched regs h o out free).optical ov e = s.optical ov e := rfl
    simp only [State.trace, hthrough, hoptical, ih]

theorem paths_withSched (ov : List (Nat × Nat)) : (s.withSched regs h o out free).paths ov = s.paths ov := by
  have hfrom : (s.withSched regs h o out free).pathFrom ov = s.pathFrom ov := funext fun p => by
    have hport : (s.withSched regs h o out free).port p = s.port p := rfl
    have hlink (e : Nat) : (s.withSched regs h o out free).link e 0 = s.link e 0 := rfl
    have hoptical (e : Nat) : (s.withSched regs h o out free).optical ov e = s.optical ov e := rfl
    simp only [State.pathFrom, hport, hlink, hoptical, trace_withSched]
  have hports : (s.withSched regs h o out free).presentPorts = s.presentPorts := rfl
  rw [State.paths, State.paths, hfrom, hports]

/-- The checks of a plan against the fabric rest on nothing that the scheduler changes. -/
theorem fabricStatus_withSched (bs : List Byte) : (s.withSched regs h o out free).fabricStatus bs = s.fabricStatus bs := by
  unfold State.fabricStatus
  rw [paths_withSched]
  rfl

theorem standStatus_withSched : (s.withSched regs h o out free).standStatus = s.standStatus := by
  unfold State.standStatus
  rw [paths_withSched]
  rfl

theorem admitStatus_withSched (r : Req) : (s.withSched regs h o out free).admitStatus r = s.admitStatus r := by
  have hbytes (p : Nat) : (s.withSched regs h o out free).planBytes p = s.planBytes p := rfl
  have hgens : (s.withSched regs h o out free).allocGens r = s.allocGens r := rfl
  unfold State.admitStatus
  simp only [fabricStatus_withSched, standStatus_withSched, hbytes, hgens]

end

/-- A request passes its checks at admission as before it left its queue. -/
theorem SchedFrame.admitStatus {s t : State} (h : SchedFrame s t) (r : Req) : t.admitStatus r = s.admitStatus r := by
  rw [h.frame]
  exact admitStatus_withSched s _ _ _ _ _ r

end Sys2Proof.Machine
end

section
/-! COMMIT_ADMIT and REAPPLY_ADMIT (R99, R115, R116, R373). -/
namespace Sys2Proof.Machine

section
variable {s : State} {r : Req}

/-! #### The beginning of a cycle (R99) -/

/-- The players that a request's channels have are stopped, and the channels' loops pause. -/
def State.cleared (s : State) (r : Req) : State :=
  (s.reqChans r).foldl State.pauseLoops
    ((s.prf.players.filter fun p => (s.reqChans r).contains p.ch).foldl (fun t p => t.stopPlayer p stPreempted) s)

theorem moveCtx_eq (s : State) (ch src dst : Nat) : s.moveCtx ch src dst = { s with mem := (s.moveCtx ch src dst).mem } := by
  refine List.foldlRecOn (motive := fun t : State => t = { s with mem := t.mem }) _ _ rfl fun t ht x _ => ?_
  split
  · refine (store_eq_mem t _ 1 dst).trans ?_
    rw [ht]
    rfl
  · exact ht

/-- Pausing loops changes memory, the Loop Array and its count of discarded results. -/
theorem pauseLoops_eq (s : State) (ch : Nat) : s.pauseLoops ch =
    { s with regs := (s.pauseLoops ch).regs, mem := (s.pauseLoops ch).mem, lpa := (s.pauseLoops ch).lpa } := by
  have h : (s.moveCtx ch 1 2).setCclass ch (setBit (s.cclass ch) 4) =
      { s with mem := ((s.moveCtx ch 1 2).setCclass ch (setBit (s.cclass ch) 4)).mem } := by
    refine (store_eq_mem _ _ _ _).trans ?_
    rw [moveCtx_eq s ch 1 2]
    rfl
  unfold State.pauseLoops
  dsimp only
  rw [h]
  rfl

/-- Resuming loops changes the Loop Array alone. -/
theorem resumeLoops_eq (s : State) (ch cls after : Nat) : s.resumeLoops ch cls after = { s with lpa := (s.resumeLoops ch cls after).lpa } := by
  unfold State.resumeLoops State.duskClass
  split_ifs <;> rfl

/-- A player that stops leaves the frame and the scheduler's queues. -/
theorem stopPlayer_keeps (s : State) (p : Player) (st : Nat) : (s.stopPlayer p st).now = s.now ∧ (s.stopPlayer p st).orb = s.orb := by
  have hdesc {t : State} (ht : t.now = s.now ∧ t.orb = s.orb) (id st : Nat) (res : Option Nat) (exe fl : Nat) :
      (t.withDesc id fun d => t.finish d st res exe fl).now = s.now ∧ (t.withDesc id fun d => t.finish d st res exe fl).orb = s.orb := by
    rw [(onlyHpt_withDesc_finish t id st res exe fl).1]
    exact ht
  have hresume {t : State} (ht : t.now = s.now ∧ t.orb = s.orb) (c : Prop) [Decidable c] (ch cls after : Nat) :
      (if c then t.resumeLoops ch cls after else t).now = s.now ∧ (if c then t.resumeLoops ch cls after else t).orb = s.orb := by
    split
    · rw [resumeLoops_eq]
      exact ht
    · exact ht
  unfold State.stopPlayer
  refine hresume (List.foldlRecOn (motive := fun t : State => t.now = s.now ∧ t.orb = s.orb) _ _ ?_
    fun t ht c _ => hdesc ht c stOK none t.ticks 0) _ _ _ _
  exact hdesc (t := (((({ s with prf := { s.prf with players := s.prf.players.filter fun q => q.num != p.num } } : State).wr
    PRF_PL_STATUS.OPEN 0 p.num).wr PRF_PL_STATUS.WAITING 0 p.num).wr PRF_PL_STATUS.STARVED 0 p.num).wr
    PRF_PL_STATUS.JUMP_PENDING 0 p.num) ⟨rfl, rfl⟩ p.desc st _ _ _

theorem cleared_keeps (s : State) (r : Req) : (s.cleared r).now = s.now ∧ (s.cleared r).orb = s.orb := by
  have hplayers := List.foldlRecOn (motive := fun t : State => t.now = s.now ∧ t.orb = s.orb)
    (s.prf.players.filter fun p => (s.reqChans r).contains p.ch) (fun t p => t.stopPlayer p stPreempted) ⟨rfl, rfl⟩
    fun t ht p _ => ⟨(stopPlayer_keeps t p _).1.trans ht.1, (stopPlayer_keeps t p _).2.trans ht.2⟩
  refine List.foldlRecOn (motive := fun t : State => t.now = s.now ∧ t.orb = s.orb) _ _ hplayers fun t ht ch _ => ?_
  rw [pauseLoops_eq]
  exact ht

/-- A re-application names no channel, so none is cleared for it. -/
theorem cleared_reapply (h : r.origin = .reapply) : s.cleared r = s := by
  have hch : s.reqChans r = [] := by rw [State.reqChans, h]
  rw [State.cleared, hch]
  simp

/-- A cycle begins: the registers show it, and it is the one in progress. -/
def State.began (s : State) (c : Cycle) : State :=
  { (s.wr ORB_STATUS.ENGINE_BUSY 1).wr PLN_STATUS.PHASE 1 with pln := { s.pln with cycle := some c } }

theorem rd_began_busy (s : State) (c : Cycle) : (s.began c).rd ORB_STATUS.ENGINE_BUSY = 1 :=
  (rd_wr_apart (f := PLN_STATUS.PHASE) (g := ORB_STATUS.ENGINE_BUSY) (s.wr ORB_STATUS.ENGINE_BUSY 1) (by decide) 1 0 0 0 0 0 0).trans
    (rd_wr_one s rfl _ _ _)

theorem rd_began_phase (s : State) (c : Cycle) : (s.began c).rd PLN_STATUS.PHASE = 1 :=
  rd_wr_same (s.wr ORB_STATUS.ENGINE_BUSY 1) PLN_STATUS.PHASE 1 0 0 0

/-- A request that passes its checks begins its cycle once its channels are cleared, unless it ends a sweep (R314). -/
theorem beginCycle_ok (hst : s.admitStatus r = stOK) (hsweep : r.origin = .reapply ∨ s.cal.sweep = none) : ∃ c : Cycle,
    s.beginCycle r = (s.cleared r).began c ∧
      c.req = r ∧ c.phase = .checked ∧ c.prep = s.now ∧ c.c = max r.creq (s.now + 40) := by
  unfold State.beginCycle
  dsimp only
  rw [if_neg (not_not.mpr hst), if_neg (by rw [hst]; decide)]
  rcases hsweep with h | h
  · simp only [h]
    refine ⟨_, rfl, ?_⟩
    exact ⟨rfl, rfl, rfl, rfl⟩
  · rw [h, if_neg (by split <;> simp)]
    refine ⟨_, rfl, ?_⟩
    exact ⟨rfl, rfl, rfl, rfl⟩

/-! #### The choice -/

theorem planClock_running (h : s.clockOff 17 = false) : s.planClock = s := by
  unfold State.planClock
  split
  · dsimp only
    split
    · exact clocksOn_of_running h
    · simp [State.clockWait, h]
  · rfl

theorem planClock_cycle {c : Cycle} (h : s.pln.cycle = some c) : s.planClock = s := by
  unfold State.planClock
  rw [h]

theorem dequeue_none (s : State) {p : Req → Bool} (h : ∀ r, p r = false) : s.dequeue p = s := by
  simp [State.dequeue, h]

theorem rejectLate_none (h : s.tooLate = []) (hr : s.orb.reqs ≠ []) : s.rejectLate = s := by
  simp [State.rejectLate, State.cancel, h, hr, dequeue_none]

/-- A choice has been made: the heads that it holds know why, and no global hold is on. -/
def State.weighed (s : State) (c : Choice) : State :=
  (s.noteHeld ((s.eligibleHeads s.now).map fun r => (r, s.heldWhy s.now c r))).wr ORB_STATUS.GLOBAL_HOLD 0

theorem schedFrame_weighed (s : State) (c : Choice) : SchedFrame s (s.weighed c) :=
  ((schedFrame_refl s).noteHeld _).wr (by decide) _ _ _ _

theorem weighed_reqs (s : State) (c : Choice) : (s.weighed c).orb.reqs = s.orb.reqs := noteHeld_reqs s _

theorem spoilCycle_none (s : State) : s.spoilCycle none = s := rfl

theorem admitNow_host (s : State) {desc : Nat} (ho : r.origin = .host desc) : s.admitNow r = (s.admitReq r).beginCycle r := by
  rw [State.admitNow, ho]

/-- The request that the choice takes at its frame is admitted, and its cycle begins. -/
theorem commitAdmit_takes {desc f : Nat} (hc : s.pln.cycle = none) (hreqs : s.orb.reqs = [r]) (ho : r.origin = .host desc)
    (hlate : s.tooLate = []) (hhold : s.on LKS_STATUS.HOLD s.active = false) (hen : s.enableWaits = false)
    (hclk : s.clockOff 17 = false) (hf : f = max s.now r.prep) (hch : (s.reach f).choose f (List.range 8) = .take r) :
    exec (.commitAdmit none) s = .next ((((s.reach f).weighed (.take r)).admitReq r).beginCycle r) := by
  have h0 : s.planClock.rejectLate = s := by rw [planClock_running hclk, rejectLate_none hlate (by simp [hreqs])]
  have hreach : s.reach r.prep = s.reach f := by
    rw [State.reach, State.reach, hf, ← max_assoc, max_self]
  have hchoice : (s.reach f).choose (s.reach f).now (List.range 8) = .take r := by
    rw [show (s.reach f).now = f from max_eq_right (by omega)]
    exact hch
  show execCommitAdmit none s = _
  unfold execCommitAdmit
  dsimp only
  rw [h0, hc, hreqs]
  dsimp only [List.foldl_nil]
  rw [hreach, hchoice, if_neg (by simp [State.held_, hhold, hen])]
  exact congrArg Host.Outcome.next ((spoilCycle_none _).trans (admitNow_host _ ho))

/-- The re-application that waits is admitted, and its cycle begins. -/
theorem reapplyAdmit_takes (hc : s.pln.cycle = none) (hfind : s.orb.reqs.find? (fun r => r.origin == .reapply) = some r)
    (hen : s.enableWaits = false) (hclk : s.clockOff 17 = false) :
    ∃ u, SchedFrame (s.reach r.prep) u ∧ exec .reapplyAdmit s = .next ((u.admitReq r).beginCycle r) := by
  show ∃ u, _ ∧ execReapplyAdmit s = _
  unfold execReapplyAdmit
  rw [hc, hfind]
  dsimp only
  rw [if_neg (by simp [hen]), planClock_running hclk]
  exact ⟨_, ((schedFrame_refl (s.reach r.prep)).noteHeld _).wr (f := ORB_STATUS.GLOBAL_HOLD) (by decide) _ _ _ _, rfl⟩

end

end Sys2Proof.Machine

open Sys2Proof Sys2Proof.Machine

/-- Settles O20: a request that the choice takes leaves its queue with the checks of R100 as they were, and its cycle begins. -/
theorem admissionBeginsACycle : Obligations.AdmissionBeginsACycle := by
  unfold Obligations.AdmissionBeginsACycle
  refine ⟨fun s r desc f hc hreqs ho hlate hhold hen hclk hsweep hf hch hst => ?_, fun s r hc hfind hen hclk => ?_,
    fun s c hc => ?_, fun s c hc hlate hreqs => ?_, fun s hen => ?_⟩
  · have ha := (schedFrame_weighed (s.reach f) (.take r)).admitReq r
    have hur : ((s.reach f).weighed (.take r)).orb.reqs = [r] := (weighed_reqs _ _).trans hreqs
    have heq := commitAdmit_takes hc hreqs ho hlate hhold hen hclk hf hch
    generalize (s.reach f).weighed (.take r) = u at ha hur heq
    have hcal : (u.admitReq r).cal.sweep = none := by
      rw [ha.frame]
      exact hsweep
    have hnow : (u.admitReq r).now = f := by
      rw [ha.now]
      show max s.now f = f
      omega
    obtain ⟨c, hbegin, hreq, hphase, hprep, hcc⟩ := beginCycle_ok ((ha.admitStatus r).trans hst) (.inr hcal)
    obtain ⟨hcnow, hcorb⟩ := cleared_keeps (u.admitReq r) r
    refine ⟨_, c, heq.trans (congrArg _ hbegin), hcnow.trans hnow, ?_, rfl, hreq, hphase, hprep.trans hnow, by rw [hcc, hnow],
      rd_began_busy _ c, rd_began_phase _ c⟩
    refine (congrArg Orb.reqs hcorb :).trans ?_
    rw [admitReq_reqs, hur]
    simp
  · obtain ⟨u, hu, heq⟩ := reapplyAdmit_takes hc hfind hen hclk
    have ho : r.origin = .reapply := by simpa using List.find?_some hfind
    have ha := hu.admitReq r
    have hst : (u.admitReq r).admitStatus r = stOK := by rw [State.admitStatus, ho]
    obtain ⟨c, hbegin, hreq, hphase, -, hcc⟩ := beginCycle_ok hst (.inl ho)
    rw [cleared_reapply ho] at hbegin
    refine ⟨_, c, heq.trans (congrArg _ hbegin), ha.now, rfl, hreq, hphase, by rw [hcc, ha.now]; rfl, fun x hx => ?_,
      memSame_of_mem ha.mem⟩
    have hx' : x ∈ (u.admitReq r).orb.reqs := hx
    rw [admitReq_reqs] at hx'
    simpa using (List.mem_filter.mp hx').2
  · show execReapplyAdmit s = _
    unfold execReapplyAdmit
    rw [hc]
  · show execCommitAdmit none s = _
    unfold execCommitAdmit
    dsimp only
    rw [planClock_cycle hc, rejectLate_none hlate hreqs, hc]
  · show execReapplyAdmit s = _
    unfold execReapplyAdmit
    split
    · rw [if_pos hen]
    · rfl

end

section
/-! SUPPORT. What work at the drive tiles changes (R90, R101, R141, R145, R146, R152): their registers, the generators' and what they
keep, and nothing else. -/
namespace Sys2Proof.Machine

/-- A register of the drive tiles, or of the profile unit, on either die. -/
def tileKey (k : Nat) : Prop :=
  0x2000000 ≤ k % 0x80000000 ∧ k % 0x80000000 < 0x2800000 ∨ 0x8000000 ≤ k % 0x80000000 ∧ k % 0x80000000 < 0x10000000

/-- Nothing but the tiles, the profile unit, their registers and the channels' measurements differs between `s` and `t`. -/
structure TileFrame (s t : State) : Prop where
  frame : t = { s with regs := t.regs, drv := t.drv, prf := t.prf, cal := t.cal }
  regs : ∀ k, ¬ tileKey k → nget t.regs k = nget s.regs k

section
variable {s t : State}

theorem tileFrame_refl (s : State) : TileFrame s s := ⟨rfl, fun _ _ => rfl⟩

theorem TileFrame.trans {a b c : State} (h : TileFrame a b) (g : TileFrame b c) : TileFrame a c := by
  refine ⟨?_, fun k hk => (g.regs k hk).trans (h.regs k hk)⟩
  have h1 := g.frame
  rw [h.frame] at h1
  exact h1

theorem TileFrame.ite {p : Prop} [Decidable p] {a b : State} (ha : TileFrame s a) (hb : TileFrame s b) :
    TileFrame s (if p then a else b) := by split <;> assumption

theorem TileFrame.setDrv (h : TileFrame s t) (d : Drv) : TileFrame s { t with drv := d } := h.trans ⟨rfl, fun _ _ => rfl⟩
theorem TileFrame.setPrf (h : TileFrame s t) (p : Prf) : TileFrame s { t with prf := p } := h.trans ⟨rfl, fun _ _ => rfl⟩
theorem TileFrame.setCal (h : TileFrame s t) (c : Cal) : TileFrame s { t with cal := c } := h.trans ⟨rfl, fun _ _ => rfl⟩

/-- A field of the tiles or of the profile unit may be written. -/
theorem TileFrame.wr (h : TileFrame s t) {f : Fld} (hf : (f.within 0x2000000 0x2800000 || f.within 0x8000000 0x10000000) = true)
    (v i j k : Nat) : TileFrame s (t.wr f v i j k) := by
  refine h.trans ⟨rfl, fun n hn => nget_nset_other _ _ fun e => hn (e ▸ ?_)⟩
  rcases Bool.or_eq_true _ _ ▸ hf with hf | hf
  · exact .inl (Fld.key_within hf i j k)
  · exact .inr (Fld.key_within hf i j k)

theorem TileFrame.chWr (h : TileFrame s t) {f : Fld} (hf : f.within 0x8000000 0x10000000 = true) (v ch : Nat) :
    TileFrame s (t.chWr f v ch) := h.wr (by rw [hf, Bool.or_true]) v _ _ _

theorem TileFrame.foldl {α : Type} {f : State → α → State} (hf : ∀ {t} a, TileFrame s t → TileFrame s (f t a)) (h : TileFrame s t)
    (l : List α) : TileFrame s (l.foldl f t) := List.foldlRecOn l f h fun _ hb a _ => hf a hb

theorem TileFrame.mem (h : TileFrame s t) : t.mem = s.mem := by rw [h.frame]
theorem TileFrame.now (h : TileFrame s t) : t.now = s.now := by rw [h.frame]
theorem TileFrame.pln (h : TileFrame s t) : t.pln = s.pln := by rw [h.frame]

/-- The registers of other blocks read on. -/
theorem TileFrame.rd (h : TileFrame s t) {f : Fld} (hp : f.avoids 0x2000000 0x2800000 = true) (hd : f.avoids 0x8000000 0x10000000 = true)
    (i j k : Nat) : t.rd f i j k = s.rd f i j k := by
  have h1 := Fld.key_avoids hp i j k
  have h2 := Fld.key_avoids hd i j k
  rw [State.rd, State.rd, h.regs _ (not_or.mpr ⟨h1, h2⟩)]

/-! #### LIVE, the update queue and the generators -/

theorem TileFrame.override (h : TileFrame s t) (ch n : Nat) : TileFrame s (t.override ch n) := h.wr (by decide) _ _ _ _

theorem TileFrame.setLive (h : TileFrame s t) (ch code f : Nat) : TileFrame s (t.setLive ch code f) := by
  unfold State.setLive
  exact TileFrame.ite (h.override _ _) (((h.override _ _).chWr (by decide) _ _).setDrv _)

theorem TileFrame.withdraw (h : TileFrame s t) (rank ch f : Nat) : TileFrame s (t.withdraw rank ch f) :=
  (h.override ch _).setDrv _

theorem TileFrame.applyDue (h : TileFrame s t) (tile : Nat) (due : List CodeWrite) (ch : Nat) :
    TileFrame s (t.applyDue tile due ch) := by
  unfold State.applyDue
  dsimp only
  split
  · exact h
  · exact TileFrame.ite (h.override _ _) (((h.override _ _).chWr (by decide) _ _).setDrv _)

theorem TileFrame.genCount (h : TileFrame s t) : TileFrame s t.genCount := (h.wr (by decide) _ _ _ _).wr (by decide) _ _ _ _

theorem TileFrame.releaseGen (h : TileFrame s t) (ch : Nat) : TileFrame s (t.releaseGen ch) := (h.setPrf _).genCount

theorem TileFrame.genCode (h : TileFrame s t) (c : Cycle) (ch : Nat) : TileFrame s (t.genCode c ch) := by
  unfold State.genCode
  exact TileFrame.ite h ((TileFrame.ite ((h.setDrv _).applyDue _ _ _) h).withdraw _ _ _)

theorem TileFrame.startGen (h : TileFrame s t) (c : Cycle) (x : Stage) (num cls : Nat) : TileFrame s (t.startGen c x num cls) :=
  (h.setPrf _).genCount

theorem TileFrame.swapOne (h : TileFrame s t) (c : Cycle) (x : Stage) : TileFrame s (t.swapOne c x) := by
  unfold State.swapOne
  split
  · exact h
  · have hkeep := TileFrame.ite (p := x.keep = true) (h.chWr (f := DRV_CH_BANKS.FALLBACK) (by decide)
      ((aget c.early x.ch).getD (t.live x.ch)) x.ch) h
    exact TileFrame.ite hkeep (hkeep.setLive _ _ _)

theorem TileFrame.clearFlags (h : TileFrame s t) (xs : List Stage) : TileFrame s (t.clearFlags xs) :=
  h.foldl (fun _ ht => (ht.chWr (by decide) _ _).chWr (by decide) _ _) xs

theorem TileFrame.dropHold (h : TileFrame s t) (chans : List Nat) : TileFrame s (t.dropHold chans) :=
  h.foldl (fun _ ht => ht.chWr (by decide) _ _) _

theorem TileFrame.clearOrph (h : TileFrame s t) : TileFrame s t.clearOrph :=
  TileFrame.setDrv (h.foldl (fun _ ht => ht.chWr (by decide) _ _) _) _

/-! #### Dither (R152) -/

theorem TileFrame.setDither (h : TileFrame s t) (ch : Nat) (d : DitherSet) : TileFrame s (t.setDither ch d) := by
  have hphase : TileFrame s (t.freezePhase ch) := by
    unfold State.freezePhase
    exact TileFrame.ite h (h.setDrv _)
  exact (((hphase.chWr (by decide) _ _).chWr (by decide) _ _).chWr (by decide) _ _).chWr (by decide) _ _

theorem TileFrame.applyDither (h : TileFrame s t) (pass : Bool) : TileFrame s (t.applyDither pass) := by
  refine TileFrame.setDrv (h.foldl (fun x ht => ?_) _) _
  split
  · exact ht.setDither _ _
  · exact ht

end

end Sys2Proof.Machine
end

section
/-! SUPPORT. What the steps of a commit leave of the Plan Engine (R101 to R107): the frame, the live image and the registers that show a
commit, and beside them what a lemma names. -/
namespace Sys2Proof.Machine

/-- A register of the Plan Engine from PLN_CTL to PLN_CNT_FALLBACK, but for PLN_CNT_COMMIT. -/
def planKey (k : Nat) : Prop :=
  0x800000 ≤ k % 0x80000000 ∧ k % 0x80000000 < 0x800180 ∨ 0x8001A0 ≤ k % 0x80000000 ∧ k % 0x80000000 < 0x8001C0

/-- The field is one of those registers, and it is none of them. -/
def ofPlan (f : Fld) : Bool := f.within 0x800000 0x800180 || f.within 0x8001A0 0x8001C0
@[inherit_doc ofPlan] def offPlan (f : Fld) : Bool := f.avoids 0x800000 0x800180 && f.avoids 0x8001A0 0x8001C0

/-- Between `s` and `t` the frame, the live image, the registers that show a commit and `v` are the same. -/
structure Keeps {α : Type} (v : State → α) (s t : State) : Prop where
  now : t.now = s.now
  live : t.pln.live = s.pln.live
  regs : ∀ k, planKey k → nget t.regs k = nget s.regs k
  view : v t = v s

section
variable {α : Type} {v : State → α} {s t u : State}

theorem keeps_refl (v : State → α) (s : State) : Keeps v s s := ⟨rfl, rfl, fun _ _ => rfl, rfl⟩

theorem Keeps.trans (h : Keeps v s t) (g : Keeps v t u) : Keeps v s u :=
  ⟨g.now.trans h.now, g.live.trans h.live, fun k hk => (g.regs k hk).trans (h.regs k hk), g.view.trans h.view⟩

/-- A step that writes no register. -/
theorem Keeps.step (h : Keeps v s t) (hnow : u.now = t.now) (hlive : u.pln.live = t.pln.live) (hregs : u.regs = t.regs)
    (hv : v u = v t) : Keeps v s u := h.trans ⟨hnow, hlive, fun k _ => by rw [hregs], hv⟩

theorem Keeps.wr (h : Keeps v s t) {f : Fld} (hf : offPlan f = true) {x i j k : Nat} (hv : v (t.wr f x i j k) = v t) :
    Keeps v s (t.wr f x i j k) := by
  simp only [offPlan, Bool.and_eq_true] at hf
  have h1 := Fld.key_avoids hf.1 i j k
  have h2 := Fld.key_avoids hf.2 i j k
  refine h.trans ⟨rfl, rfl, fun n hn => nget_nset_other _ _ fun e => ?_, hv⟩
  subst e
  exact hn.elim h1 h2

theorem Keeps.ite {p : Prop} [Decidable p] {a b : State} (ha : Keeps v s a) (hb : Keeps v s b) : Keeps v s (if p then a else b) := by
  split <;> assumption

theorem Keeps.foldl {β : Type} {f : State → β → State} (hf : ∀ {t} a, Keeps v s t → Keeps v s (f t a)) (h : Keeps v s t)
    (l : List β) : Keeps v s (l.foldl f t) := List.foldlRecOn l f h fun _ hb a _ => hf a hb

/-- Work at the tiles, where `v` does not look at them. -/
theorem Keeps.tiles (h : Keeps v s t) (g : TileFrame t u)
    (hv : ∀ regs drv prf cal, v { t with regs := regs, drv := drv, prf := prf, cal := cal } = v t) : Keeps v s u := by
  refine h.trans ⟨g.now, by rw [g.pln], fun k hk => g.regs k ?_, ?_⟩
  · unfold planKey at hk
    unfold tileKey
    omega
  · rw [g.frame]
    exact hv _ _ _ _

/-- Work of the Host Port, where `v` does not look at it. -/
theorem Keeps.host (h : Keeps v s t) (g : OnlyHpt t u)
    (hv : ∀ regs hpt out free, v { t with regs := regs, hpt := hpt, out := out, free := free } = v t) : Keeps v s u := by
  refine h.trans ⟨by rw [g.1], by rw [g.1], fun k hk => g.2 k ?_, ?_⟩
  · unfold planKey at hk
    omega
  · rw [g.1]
    exact hv _ _ _ _

theorem Keeps.rd (h : Keeps v s t) {f : Fld} (hf : ofPlan f = true) (i j k : Nat) : t.rd f i j k = s.rd f i j k := by
  have hk : planKey (f.key i j k) := (Bool.or_eq_true _ _ ▸ hf : _ ∨ _).imp (Fld.key_within · i j k) (Fld.key_within · i j k)
  rw [State.rd, State.rd, h.regs _ hk]

end

end Sys2Proof.Machine
end

section
/-! The steps of a commit cycle (R90, R101 to R103, R105, R144). -/
namespace Sys2Proof.Machine

/-- What a cycle keeps while its staging is sent and its swap is made: its request, how far it has come, its commit frame, and what
is still to be sent. -/
def Cycle.core (c : Cycle) : Req × Phase × Nat × Nat × List Stage := (c.req, c.phase, c.c, c.sent, c.todo)

/-- Memory, and that of the cycle in progress. -/
def State.stageView (s : State) : List Host.Cell × Option (Req × Phase × Nat × Nat × List Stage) :=
  (s.mem, s.pln.cycle.map Cycle.core)

section
variable {s t : State} {c : Cycle}

/-- A step that only notes something in the cycle. -/
theorem Keeps.note (h : Keeps State.stageView s t) {f : Cycle → Cycle} (hf : ∀ c, (f c).core = c.core) :
    Keeps State.stageView s { t with pln := { t.pln with cycle := t.pln.cycle.map f } } := by
  refine h.step rfl rfl rfl (Prod.ext rfl ?_)
  show (t.pln.cycle.map f).map Cycle.core = _
  rw [Option.map_map]
  exact congrArg (Option.map · t.pln.cycle) (funext hf)

/-- The cycle in progress is still there. -/
theorem Keeps.cycle (h : Keeps State.stageView s t) (hc : s.pln.cycle = some c) :
    ∃ c' : Cycle, t.pln.cycle = some c' ∧ c'.req = c.req ∧ c'.phase = c.phase ∧ c'.c = c.c ∧ c'.sent = c.sent ∧
      c'.todo = c.todo := by
  have hcore : t.pln.cycle.map Cycle.core = some c.core := (congrArg Prod.snd h.view).trans (congrArg (Option.map Cycle.core) hc)
  obtain ⟨c', hc', heq⟩ := Option.map_eq_some_iff.mp hcore
  simp only [Cycle.core, Prod.mk.injEq] at heq
  exact ⟨c', hc', heq⟩

theorem Keeps.memSame (h : Keeps State.stageView s t) : MemSame s t := memSame_of_mem (congrArg Prod.fst h.view)

/-- Work at the tiles takes nothing from memory or the cycle. -/
theorem Keeps.tile {a b : State} (h : Keeps State.stageView s a) (g : TileFrame a b) : Keeps State.stageView s b :=
  h.tiles g fun _ _ _ _ => rfl

theorem Keeps.setTon (h : Keeps State.stageView s t) (x : Ton) : Keeps State.stageView s { t with ton := x } :=
  h.step rfl rfl rfl rfl

/-! #### Staging (R101, R102, R152) -/

/-- A staging write reaches its tile, or waits. -/
theorem Keeps.stageOne (h : Keeps State.stageView s t) (w : Stage) : Keeps State.stageView s (t.stageOne w) := by
  have hnext : TileFrame t (match w.next with | some c => t.chWr DRV_CH_BANKS.NEXT c w.ch | none => t) := by
    split
    · exact (tileFrame_refl t).chWr (by decide) _ _
    · exact tileFrame_refl t
  unfold State.stageOne
  dsimp only
  refine Keeps.ite h (Keeps.ite (h.note fun c => rfl) (Keeps.ite (h.tile ((tileFrame_refl t).override _ _)) ?_))
  refine Keeps.note (h.tile (TileFrame.chWr (TileFrame.chWr ?_ (by decide) _ _) (by decide) _ _)) fun c => rfl
  split
  · exact hnext.chWr (by decide) _ _
  · exact hnext

/-- A dither setting reaches its tile, or waits. -/
theorem Keeps.stageDither (h : Keeps State.stageView s t) (w : Nat × Bool × DitherSet) :
    Keeps State.stageView s (t.stageDither w) := by
  unfold State.stageDither
  refine Keeps.ite (h.note fun c => rfl) ?_
  exact Keeps.step (Keeps.note h (f := fun c => { c with dtook := _ :: c.dtook }) fun c => rfl) rfl rfl rfl rfl

/-- A staging frame before C carries what one frame can, and the rest is still to be sent. -/
theorem sendStaging_early (s : State) (h : s.stageFrame c < c.c) : Keeps State.stageView
    { s.reach (s.stageFrame c) with pln := { s.pln with cycle := some { c with
      todo := (oneFrame Stage.ch c.todo).2, dtodo := (oneFrame (fun x : Nat × Bool × DitherSet => x.1) c.dtodo).2, sent := c.sent + 1 } } }
    (s.sendStaging c) := by
  unfold State.sendStaging
  dsimp only
  rw [if_pos h, if_pos h]
  exact Keeps.foldl (fun _ ht => ht.stageDither _) (Keeps.foldl (fun _ ht => ht.stageOne _) (keeps_refl _ _) _) _

/-- What the cycle is after a staging frame before C. -/
theorem sendStaging_cycle (s : State) (h : s.stageFrame c < c.c) : (s.sendStaging c).now = max s.now (s.stageFrame c) ∧
    MemSame s (s.sendStaging c) ∧ (s.sendStaging c).pln.live = s.pln.live ∧
    (s.sendStaging c).rd PLN_STATUS.PHASE = s.rd PLN_STATUS.PHASE ∧
    ∃ c', (s.sendStaging c).pln.cycle = some c' ∧ c'.req = c.req ∧ c'.phase = c.phase ∧ c'.c = c.c ∧ c'.sent = c.sent + 1 ∧
      c'.todo = (oneFrame Stage.ch c.todo).2 := by
  have hk := sendStaging_early s h
  exact ⟨hk.now, hk.memSame, hk.live, hk.rd (by decide) _ _ _, hk.cycle rfl⟩

/-- Staging begins: the cycle's writes are known, none of them sent. -/
def State.stagingBegun (s : State) (c : Cycle) : State :=
  ({ s.reach (c.c - 16) with drv := { s.drv with dither := [] } } : State).wr PLN_STATUS.PHASE 2

theorem lag_stagingBegun (s : State) (c : Cycle) : (s.stagingBegun c).lag = s.lag := by
  have hactive : (s.stagingBegun c).active = s.active := active_of_rd (rd_wr_apart _ (by decide) _ _ _ _ _ _ _)
  have hlag : (s.stagingBegun c).on LKS_STATUS.LAGGING s.active = s.on LKS_STATUS.LAGGING s.active :=
    on_of_rd (rd_wr_apart _ (by decide) _ _ _ _ _ _ _)
  rw [State.lag, State.lag, hactive, hlag]

/-- Without global Eclipse no commit is ended by it (R108). -/
theorem not_eclipsed (he : s.on SAF_STATUS.GLOBAL_ECLIPSE = false) (f : Nat) :
    ¬ ((s.reach f).eclipse = true ∧ c.req.origin ≠ .reapply) := fun h => absurd (he.symm.trans h.1) (by decide)

theorem commitStaging_begins (hc : s.pln.cycle = some c) (hp : c.phase = .checked) (he : s.on SAF_STATUS.GLOBAL_ECLIPSE = false) :
    ∃ ds, exec .commitStaging s = .next ((s.stagingBegun c).sendStaging { c with
      phase := .staged, stage := (s.stagesOf c.req).map Stage.blank, todo := (s.stagesOf c.req).flatMap Stage.writes, dtodo := ds }) := by
  show ∃ ds, execCommitStaging s = _
  unfold execCommitStaging
  rw [hc]
  dsimp only
  rw [if_pos hp, if_neg (not_eclipsed he _)]
  exact ⟨_, rfl⟩

theorem commitStaging_goes_on (hc : s.pln.cycle = some c) (hp : c.phase ≠ .checked) : exec .commitStaging s = .next
    (if (c.todo.isEmpty && c.dtodo.isEmpty) = true then s else s.sendStaging c) := by
  show execCommitStaging s = _
  unfold execCommitStaging
  rw [hc]
  dsimp only
  rw [if_neg hp]

/-! #### The swap (R101, R103) -/

theorem markSuspended_ton (s : State) : s.markSuspended = { s with ton := s.markSuspended.ton } := rfl

/-- A vector that is signalled, and one more, change the Host Port alone. -/
theorem onlyHpt_lksVec (s : State) : OnlyHpt s s.lksVec := (onlyHpt_signalVec _ _ _).trans (onlyHpt_signalVec _ _ _)

theorem Keeps.lksDone (h : Keeps State.stageView s t) (status : Nat) (res : Option Nat) (exe : Nat) :
    Keeps State.stageView s (t.lksDone status res exe) := by
  unfold State.lksDone
  split
  · exact h
  · have hl : Keeps State.stageView s { t with lks := { t.lks with pending := none } } := h.step rfl rfl rfl rfl
    dsimp only
    split
    · exact hl.host (onlyHpt_withDesc_finish _ _ _ _ _ _) fun _ _ _ _ => rfl
    · exact Keeps.wr (Keeps.wr hl (by decide) rfl) (by decide) rfl

theorem Keeps.endHold (h : Keeps State.stageView s t) (n : Nat) : Keeps State.stageView s (t.endHold n) := by
  unfold State.endHold
  dsimp only
  have hheld := Keeps.wr (Keeps.wr (Keeps.wr h (f := LKS_STATUS.HOLD) (x := 0) (i := 0) (j := 0) (k := 0) (by decide) rfl)
    (f := LKS_STATUS.HOLD) (x := 0) (i := 1) (j := 0) (k := 0) (by decide) rfl)
    (f := LKS_TILE_HOLD.FROZEN) (x := 0) (i := 0) (j := 0) (k := 0) (by decide) rfl
  exact Keeps.ite h (Keeps.step ((hheld.lksDone _ _ _).host (onlyHpt_lksVec _) fun _ _ _ _ => rfl) rfl rfl rfl rfl)

theorem Keeps.dropLost (h : Keeps State.stageView s t) (bs : List (Nat × Nat)) : Keeps State.stageView s (t.dropLost bs) := by
  unfold State.dropLost
  dsimp only
  refine Keeps.foldl (fun b ht => Keeps.ite ht (ht.tile ((tileFrame_refl _).chWr (by decide) _ _))) ?_ bs
  exact h.step rfl rfl rfl rfl

/-- The re-application of a swap (R373, R384): global Eclipse may end, and a hold. -/
theorem Keeps.reapplied (h : Keeps State.stageView s t) (c : Cycle) (p : Prop) [Decidable p] : Keeps State.stageView s
    ((((if p then (t.markSuspended.wr SAF_STATUS.GLOBAL_ECLIPSE 0).occur 513 else t).clearOrph.endHold c.c).bump
      SAF_CNT_REAPPLY.COUNT)) := by
  have hm : Keeps State.stageView s t.markSuspended := markSuspended_ton t ▸ h.setTon _
  have he {m : State} (hm : Keeps State.stageView s m) : Keeps State.stageView s ((m.wr SAF_STATUS.GLOBAL_ECLIPSE 0).occur 513) :=
    (hm.wr (f := SAF_STATUS.GLOBAL_ECLIPSE) (x := 0) (i := 0) (j := 0) (k := 0) (by decide) rfl).step rfl rfl rfl rfl
  exact Keeps.wr (((Keeps.ite (he hm) h).tile (tileFrame_refl _).clearOrph).endHold c.c) (by decide) rfl

/-- The swap of a plan (R26, R31, R38, R104): its holds and lost blocks end, the crossing sets follow, and it is counted. -/
theorem Keeps.planned (h : Keeps State.stageView s t) (bs : List Byte) (f : Nat) (late : Prop) [Decidable late] :
    Keeps State.stageView s
      (let s1 := ((t.dropHold (planChans bs)).dropLost (t.releasedBy bs)).recrossWith (planStates bs) f
       let s2 := s1.bump PLN_CNT_COMMIT.COUNT
       let s3 := if late then s2.bump PLN_CNT_LATE.COUNT else s2
       { s3 with pln := { s3.pln with cycle := s3.pln.cycle.map fun y => { y with released := t.releasedBy bs } } }) := by
  dsimp only
  have h1 : Keeps State.stageView s (((t.dropHold (planChans bs)).dropLost (t.releasedBy bs)).recrossWith (planStates bs) f) :=
    ((h.tile ((tileFrame_refl t).dropHold (planChans bs))).dropLost (t.releasedBy bs)).step rfl rfl rfl rfl
  generalize ((t.dropHold (planChans bs)).dropLost (t.releasedBy bs)).recrossWith (planStates bs) f = u at h1
  have h2 : Keeps State.stageView s (u.bump PLN_CNT_COMMIT.COUNT) := Keeps.wr h1 (by decide) rfl
  exact Keeps.note (Keeps.ite (Keeps.wr h2 (by decide) rfl) h2) fun _ => rfl

/-- What a swap does beside the codes leaves the cycle as it has come. -/
theorem Keeps.swapRest (h : Keeps State.stageView s t) (c : Cycle) : Keeps State.stageView s (t.swapRest c) := by
  unfold State.swapRest
  split
  · exact h.reapplied c _
  · exact h.step rfl rfl rfl rfl
  · have hp := h.planned (t.planBytes c.req.plan) c.c
    dsimp only
    split
    · exact (hp _).step rfl rfl rfl rfl
    · exact hp _

/-- A commit shows that it has swapped at its frame C, and keeps the live image from before (R103). -/
def State.swapShown (s : State) (c : Cycle) (before : List (Nat × LiveEnt)) : State :=
  ((({ s with pln := { s.pln with cycle := some { c with phase := .swapped, before := before } } } : State).wr
    PLN_LAST_C_LO.TICKS (ticksOf c.c)).wr PLN_LAST_C_HI.TICKS (ticksOf c.c / 2 ^ 32)).wr PLN_STATUS.PHASE 3

theorem rd_swapShown_phase (s : State) (c : Cycle) (b : List (Nat × LiveEnt)) : (s.swapShown c b).rd PLN_STATUS.PHASE = 3 :=
  rd_wr_same _ _ _ _ _ _

theorem rd_swapShown_hi (s : State) (c : Cycle) (b : List (Nat × LiveEnt)) :
    (s.swapShown c b).rd PLN_LAST_C_HI.TICKS = ticksOf c.c / 2 ^ 32 :=
  (rd_wr_apart _ (by decide) _ _ _ _ _ _ _).trans ((rd_wr_same _ _ _ _ _ _).trans
    (Nat.mod_eq_of_lt (Nat.div_lt_of_lt_mul (Nat.mod_lt _ (Nat.two_pow_pos 64)))))

theorem rd_swapShown_lo (s : State) (c : Cycle) (b : List (Nat × LiveEnt)) :
    (s.swapShown c b).rd PLN_LAST_C_LO.TICKS = ticksOf c.c % 2 ^ 32 := by
  rw [State.swapShown, rd_wr_apart _ (by decide), rd_wr_apart _ (by decide)]
  exact rd_wr_same _ _ _ _ _ _

theorem commitSwap_swaps (hc : s.pln.cycle = some c) (hp : c.phase = .staged) (he : s.on SAF_STATUS.GLOBAL_ECLIPSE = false)
    (hsent : (c.todo = [] ∧ c.dtodo = []) ∨ c.c ≤ s.stageFrame c) :
    ∃ u, TileFrame (s.reach c.c) u ∧ exec .commitSwap s = .next (((u.swapShown c s.pln.live).occur 480).swapRest c) := by
  have hgo : ¬ (c.phase ≠ .staged || (!(c.todo.isEmpty && c.dtodo.isEmpty) && decide (s.stageFrame c < c.c))) = true := by
    rcases hsent with ⟨h1, h2⟩ | h
    · simp [hp, h1, h2]
    · simp [hp, Nat.not_lt.mpr h]
  show ∃ u, _ ∧ execCommitSwap s = _
  unfold execCommitSwap
  rw [hc]
  dsimp only
  rw [if_neg hgo, if_neg (not_eclipsed he _)]
  refine ⟨_, ?_, rfl⟩
  refine TileFrame.foldl (fun g ht => ?_) (TileFrame.foldl (fun x ht => ht.swapOne _ _) (TileFrame.foldl (fun ch ht => ?_)
    (tileFrame_refl _) _) _) _
  · split
    · exact ht.startGen _ _ _ _
    · exact ht
  · exact TileFrame.ite ((ht.genCode _ _).releaseGen _) ht

/-! #### The dwell and the verify (R90, R103, R105) -/

/-- The channel of the one MAKEBB entry takes its target (R90). -/
theorem makebbTarget_applies {d : Nat} {x : Stage} (hc : s.pln.cycle = some c) (hd : c.dwell = some d) (hp : c.phase = .swapped)
    (he : c.eclipsed = false) (hx : c.stage = [x]) (hk : x.kind = 3) (hn : x.next.isSome = true) : exec .makebbTarget s = .next
      (let t := (s.reach (c.c + d)).setLive x.ch x.target (c.c + d)
       { t with pln := { t.pln with cycle := some { c with phase := .dwelt } } }) := by
  show execMakebbTarget s = _
  unfold execMakebbTarget
  rw [hc]
  dsimp only
  rw [hd]
  dsimp only
  rw [if_neg (not_not.mpr hp), if_neg (by simp [he]), hx, List.filter_cons_of_pos (by simp [hk, hn])]
  rfl

/-- Outside CHANGE LIVE takes the code, and no other register but the count of discarded writes changes (R146). -/
theorem setLive_live {ch : Nat} (h : s.outState ch ≠ stChange) (code f : Nat) : (s.setLive ch code f).live ch = code % 2 ^ 16 ∧
    RegsBut [DRV_CH_LIVE.LIVE.key (ch / 2048) (ch % 2048) 0, DRV_CNT_OVERRIDE.COUNT.key (ch / 2048) 0 0] s (s.setLive ch code f) := by
  have hnot : ¬ s.inChange ch = true := by simpa [State.inChange] using h
  unfold State.setLive
  rw [if_neg hnot]
  exact ⟨rd_wr_same _ _ _ _ _ _, ((onlyRegs_wr s DRV_CNT_OVERRIDE.COUNT _ _ _ _ (by simp)).wr DRV_CH_LIVE.LIVE _ _ _ _ (by simp)).2⟩

/-- Samples of the fast path are registers (R103). -/
theorem foldl_setFast (f : State → Nat → State) (hf : ∀ t m, ∃ raw v, f t m = t.setFast m raw v) (ms : List Nat) (s : State) :
    ms.foldl f s = { s with regs := (ms.foldl f s).regs } :=
  List.foldlRecOn (motive := fun t : State => t = { s with regs := t.regs }) _ _ rfl fun t ht m _ => by
    obtain ⟨raw, v, h⟩ := hf t m
    rw [h]
    exact congrArg (fun x : State => { x with regs := (t.setFast m raw v).regs }) ht

theorem verifySample_samples (raws : List (Fin 1024 × BitVec 12)) (hc : s.pln.cycle = some c)
    (hp : c.phase = .swapped ∧ c.dwell = none ∨ c.phase = .dwelt) (ht : c.todo = []) (hd : c.dtodo = []) :
    ∃ regs codes, codes.map Prod.fst = (s.verifiesOf c.req).map VerifyEnt.monitor ∧
      exec (.verifySample raws) s = .next
        (let u := ({ s.reach c.v with regs := regs } : State).wr PLN_STATUS.PHASE 4
         { u with pln := { u.pln with
          cycle := some { c with phase := .sampled, codes := codes, unarmed := !s.on PWR_STATUS.ARMED } } }) := by
  show ∃ regs codes, _ ∧ execVerifySample raws s = _
  unfold execVerifySample
  rw [hc]
  dsimp only
  rw [if_neg (by rcases hp with ⟨hp, hw⟩ | hp <;> simp_all), foldl_setFast _ (fun t m => ⟨_, _, rfl⟩)]
  refine ⟨_, _, ?_, rfl⟩
  exact (List.map_map ..).trans (List.map_id _)

/-- The first entry that fails is shown beside the count of those that do (R105). -/
theorem rd_vfyShown (s : State) (n valid sample m : Nat) :
    ((((s.wr PLN_VFY_RESULT.FAILED n).wr PLN_VFY_FIRST.VALID valid).wr PLN_VFY_FIRST.SAMPLE sample).wr PLN_VFY_FIRST.MONITOR m).rd
      PLN_VFY_RESULT.FAILED = n % 2 ^ PLN_VFY_RESULT.FAILED.w := by
  rw [rd_wr_apart _ (by decide), rd_wr_apart _ (by decide), rd_wr_apart _ (by decide), rd_wr_same]

/-- The verify entries that are not skipped are counted, and the first that fails is shown (R105). -/
theorem verifyDecision_decides {desc : Nat} (hc : s.pln.cycle = some c) (hp : c.phase = .sampled) (hu : c.unarmed = false)
    (he : c.eclipsed = false) (ho : c.req.origin = .host desc) :
    let es := (s.verifiesOf c.req).filter fun v => (aget c.codes v.monitor).getD 0 != 0
    let bad := es.filter (s.entryFails c.codes)
    ∃ regs, (∀ u : State, u.regs = regs → u.rd PLN_VFY_RESULT.FAILED = bad.length % 2 ^ PLN_VFY_RESULT.FAILED.w) ∧
      exec .verifyDecision s = .next { s.reach (c.v + 6 + s.lag) with regs := regs, pln := { s.pln with
        cycle := some { c with phase := .decided, evaluated := es.length, failed := bad.length } } } := by
  show ∃ regs, _ ∧ execVerifyDecision s = _
  unfold execVerifyDecision
  rw [hc]
  dsimp only
  rw [if_neg (not_not.mpr hp), if_neg (by simp [hu, he, ho])]
  split
  · exact ⟨_, fun u hu => (rd_congr hu _ _ _ _).trans (rd_vfyShown _ _ _ _ _), rfl⟩
  · exact ⟨_, fun u hu => (rd_congr hu _ _ _ _).trans (rd_vfyShown _ _ _ _ _), rfl⟩

end

end Sys2Proof.Machine

open Sys2Proof Sys2Proof.Machine

/-- Settles O21: each step by its branch; what staging and the swap leave of the cycle, and the registers that show it. -/
theorem commitStepsFollowTheTimeline : Obligations.CommitStepsFollowTheTimeline := by
  unfold Obligations.CommitStepsFollowTheTimeline
  refine ⟨fun s c hc hp he hsent hlag hcc => ?_, fun s c hc hp htodo hf => ?_, fun s c hc hp ht hd => ?_,
    fun s c hc hp he hsent => ?_, fun s c d x hc hd hp he hx hk hn hch => ?_, fun s c raws hc hp ht hd => ?_,
    fun s c desc hc hp hu he ho => ?_⟩
  · obtain ⟨ds, heq⟩ := commitStaging_begins hc hp he
    have hlag' : (s.stagingBegun c).lag = 0 := (lag_stagingBegun s c).trans hlag
    obtain ⟨hnow, hmem, hlive, hphase, c', hc', hrest⟩ := sendStaging_cycle (s.stagingBegun c) (c := { c with
      phase := .staged, stage := (s.stagesOf c.req).map Stage.blank, todo := (s.stagesOf c.req).flatMap Stage.writes, dtodo := ds })
      (by simp only [State.stageFrame, hsent, hlag']; omega)
    obtain ⟨hreq, hph, hcc, hs, ht⟩ := hrest
    refine ⟨_, c', heq, hnow.trans ?_, hc', hph, hreq, hcc, hs.trans (by simp [hsent]), ht,
      hphase.trans (rd_wr_same _ _ _ _ _ _), hlive, hmem⟩
    simp only [State.stageFrame, hsent, hlag']
    show max (max s.now (c.c - 16)) _ = _
    omega
  · have hempty : ¬ (c.todo.isEmpty && c.dtodo.isEmpty) = true := by
      rcases htodo with h | h <;> simp [h]
    obtain ⟨hnow, hmem, -, -, c', hc', -, hphase, -, hs, ht⟩ := sendStaging_cycle s hf
    exact ⟨_, c', (commitStaging_goes_on hc hp).trans (congrArg _ (if_neg hempty)), hnow, hc', hphase, hs, ht, hmem⟩
  · exact (commitStaging_goes_on hc hp).trans (congrArg _ (if_pos (by simp [ht, hd])))
  · obtain ⟨u, hu, heq⟩ := commitSwap_swaps hc hp he hsent
    have hk := (keeps_refl State.stageView ((u.swapShown c s.pln.live).occur 480)).swapRest c
    obtain ⟨c', hc', hreq, hph, -⟩ := hk.cycle rfl
    refine ⟨_, c', heq, hk.now.trans hu.now, hc', hph, hreq, ?_, ?_, ?_, hk.live.trans (congrArg Pln.live hu.pln :),
      fun a => (hk.memSame a).trans (memSame_of_mem hu.mem a)⟩
    · exact (hk.rd (by decide) _ _ _).trans (rd_swapShown_phase u c _)
    · exact (hk.rd (by decide) _ _ _).trans (rd_swapShown_lo u c _)
    · exact (hk.rd (by decide) _ _ _).trans (rd_swapShown_hi u c _)
  · obtain ⟨hlive, hregs⟩ := setLive_live (s := s.reach (c.c + d)) hch x.target (c.c + d)
    have ht := (tileFrame_refl (s.reach (c.c + d))).setLive x.ch x.target (c.c + d)
    refine ⟨_, makebbTarget_applies hc hd hp he hx hk hn, ht.now, rfl, hlive, memSame_of_mem ht.mem, hregs⟩
  · obtain ⟨regs, codes, hcodes, heq⟩ := verifySample_samples raws hc hp ht hd
    exact ⟨_, _, heq, rfl, rfl, rfl, hcodes, rfl,
      (rd_wr_same { s.reach c.v with regs := regs } PLN_STATUS.PHASE 4 0 0 0 :), memSame_of_mem rfl⟩
  · obtain ⟨regs, hrd, heq⟩ := verifyDecision_decides hc hp hu he ho
    exact ⟨_, _, heq, rfl, rfl, rfl, rfl, rfl, hrd _ rfl, memSame_of_mem rfl⟩

end

section
/-! A commit resolves, or falls back (R106, R107). -/
namespace Sys2Proof.Machine

section
variable {s t : State} {c : Cycle}

/-! #### What the resolution leaves: the Host Port, and the registers that show the live plan -/

theorem Keeps.setTones (h : Keeps State.hpt s t) (x : Ton) : Keeps State.hpt s { t with ton := x } := h.step rfl rfl rfl rfl
theorem Keeps.setLoops (h : Keeps State.hpt s t) (x : Lpa) : Keeps State.hpt s { t with lpa := x } := h.step rfl rfl rfl rfl

theorem Keeps.store (h : Keeps State.hpt s t) (a n v : Nat) : Keeps State.hpt s (t.store a n v) := by
  rw [store_eq_mem]
  exact h.step rfl rfl rfl rfl

theorem Keeps.work {a b : State} (h : Keeps State.hpt s a) (g : TileFrame a b) : Keeps State.hpt s b := h.tiles g fun _ _ _ _ => rfl

/-! ##### Tone bindings, expectations and foreign lists (R106, R203 to R207) -/

theorem Keeps.unvalid (h : Keeps State.hpt s t) (x : Nat) : Keeps State.hpt s (t.unvalid x) := h.store _ _ _

theorem Keeps.bindCtx (h : Keeps State.hpt s t) (e : Nat) (b : Option ToneBind) (f : Nat) : Keeps State.hpt s (t.bindCtx e b f) := by
  unfold State.bindCtx
  dsimp only
  generalize (if (t.boundTo e).isNone = true ∨ b.isSome = true then 0 else if t.load (toneAddr e + 23) 1 % 2 = 1 then 5 else 1) = n
  have hb : Keeps State.hpt s (t.bump TON_CNT_ABANDON.COUNT n) := Keeps.wr h (by decide) rfl
  generalize t.bump TON_CNT_ABANDON.COUNT n = u at hb
  cases b with
  | some x => exact Keeps.ite (((hb.store _ _ _).store _ _ _).store _ _ _) ((((hb.store _ _ _).store _ _ _).store _ _ _).setTones _)
  | none =>
    exact Keeps.ite ((((hb.store _ _ _).store _ _ _).store _ _ _).unvalid _)
      (((((hb.store _ _ _).store _ _ _).store _ _ _).unvalid _).setTones _)

theorem Keeps.rebind (h : Keeps State.hpt s t) (ts : List ToneEnt) (f : Nat) : Keeps State.hpt s (t.rebind ts f) :=
  Keeps.step (Keeps.foldl (fun _ ht => ht.bindCtx _ _ _) h _) rfl rfl rfl rfl

theorem Keeps.pathTune (h : Keeps State.hpt s t) (m j : Nat) (tone : Option Nat) : Keeps State.hpt s (t.pathTune m j tone) := by
  unfold State.pathTune
  cases tone with
  | some k => exact (h.store _ _ _).store _ _ _
  | none => exact ((h.store _ _ _).store _ _ _).unvalid _

theorem Keeps.expect (h : Keeps State.hpt s t) (m : Nat) (tone : Option Nat) (f : Nat) : Keeps State.hpt s (t.expect m tone f) := by
  have hwr {a : State} (ha : Keeps State.hpt s a) (n x y : Nat) : Keeps State.hpt s
      ((((a.bump TON_CNT_ABANDON.COUNT n).wr TON_PT_CONF.CONF x (m / 32)).wr TON_PT_EXPECT.VALID y m).wr TON_PT_EXPECT.TONE
        (tone.getD 0) m) := by
    have h1 : Keeps State.hpt s (a.bump TON_CNT_ABANDON.COUNT n) := Keeps.wr ha (by decide) rfl
    exact Keeps.wr (Keeps.wr (Keeps.wr h1 (by decide) rfl) (by decide) rfl) (by decide) rfl
  exact (((hwr h _ _ _).pathTune _ _ _).setTones _).setTones _

theorem Keeps.expectAll (h : Keeps State.hpt s t) (vs : List VerifyEnt) (f : Nat) : Keeps State.hpt s (t.expectAll vs f) :=
  Keeps.foldl (fun _ ht => ht.expect _ _ _) h _

theorem Keeps.retune (h : Keeps State.hpt s t) (m j f : Nat) : Keeps State.hpt s (t.retune m j f) := by
  have hb (n : Nat) : Keeps State.hpt s (t.bump TON_CNT_ABANDON.COUNT n) := Keeps.wr h (by decide) rfl
  exact Keeps.ite h (((hb _).pathTune _ _ _).setTones _)

theorem Keeps.formForeign (h : Keeps State.hpt s t) (f : Nat) : Keeps State.hpt s (t.formForeign f) := by
  have hk {a : State} (ha : Keeps State.hpt s a) (n m : Nat) : Keeps State.hpt s (a.wr TON_PT_EXPECT.K n m) :=
    Keeps.wr ha (by decide) rfl
  exact Keeps.foldl (fun _ ht => Keeps.foldl (fun _ hu => hu.retune _ _ _) ht _)
    (Keeps.foldl (fun _ ht => hk ht _ _) (Keeps.foldl (fun _ ht => hk ht _ _) (h.setTones _) _) _) _

/-! ##### Loops, lost blocks and crossing sets (R26, R38, R104) -/

theorem Keeps.dropChange (h : Keeps State.hpt s t) (ch : Nat) : Keeps State.hpt s (t.dropChange ch) := (h.store _ _ _).setLoops _

theorem Keeps.resumeLoops (h : Keeps State.hpt s t) (ch cls after : Nat) : Keeps State.hpt s (t.resumeLoops ch cls after) := by
  rw [resumeLoops_eq]
  exact h.setLoops _

theorem Keeps.resumeOld (h : Keeps State.hpt s t) (chans : List Nat) (after : Nat) : Keeps State.hpt s (t.resumeOld chans after) :=
  Keeps.foldl (fun _ ht => Keeps.ite ht (ht.resumeLoops _ _ _)) h _

theorem Keeps.addLost (h : Keeps State.hpt s t) (bs : List (Nat × Nat)) : Keeps State.hpt s (t.addLost bs) := by
  refine Keeps.foldl (f := fun (t : State) b => _) (fun b ht => ?_) h bs
  exact (ht.work ((tileFrame_refl _).chWr (f := DRV_CH_GATEW.LOSTBLK) (by decide) 1 b.1)).step rfl rfl rfl rfl

theorem Keeps.recross (h : Keeps State.hpt s t) (f : Nat) : Keeps State.hpt s (t.recross f) := h.step rfl rfl rfl rfl

/-! #### The verify passes, or fails -/

/-- The plan becomes the live plan (R106). -/
def State.passShown (s : State) (plan : Nat) : State :=
  (((({ s with pln := { s.pln with live := overlayLive s.pln.live (s.planBytes plan) } } : State).wr PLN_LIVE.VALID 1).wr
    PLN_LIVE.FB 0).wr PLN_LIVE.LIVE_ID plan)

theorem rd_passShown_fb (s : State) (plan : Nat) : (s.passShown plan).rd PLN_LIVE.FB = 0 := by
  rw [State.passShown, rd_wr_apart _ (by decide)]
  exact rd_wr_zero _ _ _ _ _

theorem rd_passShown_valid (s : State) (plan : Nat) : (s.passShown plan).rd PLN_LIVE.VALID = 1 := by
  rw [State.passShown, rd_wr_apart _ (by decide), rd_wr_apart _ (by decide)]
  exact rd_wr_one _ rfl _ _ _

/-- What a plan that passes does beside the live image leaves the Host Port (R104, R106). -/
theorem keeps_resolvePass (s : State) (c : Cycle) (f : Nat) : Keeps State.hpt (s.passShown c.req.plan) (s.resolvePass c f) := by
  refine Keeps.foldl (fun ch ht => Keeps.ite ht ?_) (((((keeps_refl _ _).rebind _ f).expectAll _ f).work
    ((tileFrame_refl _).applyDither true)).formForeign f) _
  split
  · exact (ht.dropChange _).resumeLoops _ _ _
  · exact ht.resumeLoops _ _ _

/-- The bytes of the fallback plan, if the commit names one. -/
def State.fallbackBytes (s : State) (c : Cycle) : List Byte := match c.req.fb with | some p => s.planBytes p | none => []

/-- The live image becomes the fallback state (R106). -/
def State.failShown (s : State) (c : Cycle) (bs : List Byte) : State :=
  let s1 : State := { s with pln := { s.pln with live := overlayLive c.before bs } }
  let s2 := match c.req.fb with | some p => s1.wr PLN_LIVE.LIVE_ID p | none => s1
  ((s2.wr PLN_LIVE.VALID 1).wr PLN_LIVE.FB 1).bump PLN_CNT_FALLBACK.COUNT

theorem rd_failShown_fb (s : State) (c : Cycle) (bs : List Byte) : (s.failShown c bs).rd PLN_LIVE.FB = 1 := by
  rw [State.failShown, rd_bump_other _ _ (by decide)]
  exact rd_wr_one _ rfl _ _ _

theorem rd_failShown_valid (s : State) (c : Cycle) (bs : List Byte) : (s.failShown c bs).rd PLN_LIVE.VALID = 1 := by
  rw [State.failShown, rd_bump_other _ _ (by decide), rd_wr_apart _ (by decide)]
  exact rd_wr_one _ rfl _ _ _

/-- The fallback is counted (R106). -/
theorem rd_failShown_count (s : State) (c : Cycle) (bs : List Byte) :
    (s.failShown c bs).rd PLN_CNT_FALLBACK.COUNT = min (s.rd PLN_CNT_FALLBACK.COUNT + 1) (2 ^ 32 - 1) := by
  rw [State.failShown, rd_bump_same, rd_wr_apart _ (by decide), rd_wr_apart _ (by decide)]
  cases c.req.fb with
  | none => rfl
  | some p => rw [rd_wr_apart _ (by decide)]; rfl

theorem failShown_keeps (s : State) (c : Cycle) (bs : List Byte) : (s.failShown c bs).now = s.now ∧
    (s.failShown c bs).hpt = s.hpt ∧ (s.failShown c bs).pln.live = overlayLive c.before bs := by
  unfold State.failShown
  cases c.req.fb <;> exact ⟨rfl, rfl, rfl⟩

/-- What a commit that falls back does beside the live image leaves the Host Port (R104, R106). -/
theorem keeps_resolveFail (s : State) (c : Cycle) (f : Nat) : ∃ u, TileFrame s u ∧
    Keeps State.hpt (u.failShown c (s.fallbackBytes c)) (s.resolveFail c f) := by
  refine ⟨_, ?_, ((((((((keeps_refl _ _).rebind _ f).expectAll _ f).work ((tileFrame_refl _).applyDither false)).formForeign f).work
    ((tileFrame_refl _).dropHold _)).addLost _).recross f).resumeOld _ f⟩
  have h1 : TileFrame s ((s.reqChans c.req).foldl (fun t ch =>
      if t.hasGen ch then (t.withdraw 3 ch f).releaseGen ch else t) s) :=
    TileFrame.foldl (fun ch ht => TileFrame.ite ((ht.withdraw 3 ch f).releaseGen ch) ht) (tileFrame_refl s) _
  exact TileFrame.ite h1 (TileFrame.foldl (fun x ht => ht.setLive _ _ _) h1 _)

/-! #### The completion and the cycle's end (R99, R107) -/

theorem noteHeld_orb (s : State) (l : List (Req × Nat)) : s.noteHeld l = { s with orb := (s.noteHeld l).orb } :=
  List.foldlRecOn (motive := fun t : State => t = { s with orb := t.orb }) _ _ rfl fun t ht x _ =>
    (congrArg (fun u : State => ({ u with orb := (t.setStat x.1.queue 5 (t.stat x.1.queue 5 ||| x.2)).orb } : State)) ht :)

/-- At the end of a cycle the engine is idle, and what a commit shows stays (R99). -/
theorem endCycle_keeps (s : State) : ∃ u, Keeps State.hpt s u ∧
    s.endCycle = { (u.wr ORB_STATUS.ENGINE_BUSY 0).wr PLN_STATUS.PHASE 0 with pln := { u.pln with cycle := none } } := by
  refine ⟨s.markSuspended.noteEngine, ?_, rfl⟩
  have hm : Keeps State.hpt s s.markSuspended := markSuspended_ton s ▸ (keeps_refl State.hpt s).setTones _
  generalize s.markSuspended = m at hm
  rw [State.noteEngine, noteHeld_orb]
  exact hm.step rfl rfl rfl rfl

/-- The Host Port decides whether a descriptor has been answered. -/
theorem Answered.congr {d : Desc} {st : Nat} {res : Option Nat} {fl : Nat} (h : Answered d st res s fl) (hh : t.hpt = s.hpt) :
    Answered d st res t fl := by
  unfold Answered
  rw [hh]
  exact h

/-- A commit from a descriptor completes, and its cycle ends: the live image and the registers that show it stay (R107). -/
theorem resolved_ends {u r : State} {d : Desc} (hk : Keeps State.hpt u r) (ho : c.req.origin = .host d.id)
    (hd : u.desc d.id = some d) (src st fl res : Nat) :
    let t := (((r.clearFlags c.stage).occur src).endMade c st fl res).endCycle
    t.now = u.now ∧ t.pln.cycle = none ∧ t.pln.live = u.pln.live ∧ t.rd ORB_STATUS.ENGINE_BUSY = 0 ∧
      (∀ f : Fld, ofPlan f = true → f.apart PLN_STATUS.PHASE = true → f.apart ORB_STATUS.ENGINE_BUSY = true → t.rd f = u.rd f) ∧
      Answered d st (some res) t fl := by
  have hocc : Keeps State.hpt u ((r.clearFlags c.stage).occur src) :=
    (hk.work ((tileFrame_refl r).clearFlags c.stage)).step rfl rfl rfl rfl
  generalize (r.clearFlags c.stage).occur src = a at hocc
  have hdesc : a.desc d.id = some d := (congrArg (fun h : Hpt => h.accepted.find? fun x : Desc => x.id == d.id) hocc.view :).trans hd
  have hmade : a.endMade c st fl res = a.finish d st res (ticksOf c.c) fl := by
    rw [State.endMade, ho]
    dsimp only
    rw [State.withDesc, hdesc]
  have hdone : Keeps (fun _ => ()) u (a.finish d st res (ticksOf c.c) fl) :=
    Keeps.host ⟨hocc.now, hocc.live, hocc.regs, rfl⟩ (onlyHpt_finish _ _ _ _ _ _) fun _ _ _ _ => rfl
  have hans := (completed_finish a d st (some res) (ticksOf c.c) fl).answered
  dsimp only
  rw [hmade]
  obtain ⟨w, hw, hend⟩ := endCycle_keeps (a.finish d st res (ticksOf c.c) fl)
  rw [hend]
  have hphase {f : Fld} (hp : f.apart PLN_STATUS.PHASE = true) (i j k : Nat) :
      ((w.wr ORB_STATUS.ENGINE_BUSY 0).wr PLN_STATUS.PHASE 0).rd f i j k = (w.wr ORB_STATUS.ENGINE_BUSY 0).rd f i j k :=
    rd_wr_apart _ hp _ _ _ _ _ _ _
  refine ⟨hw.now.trans hdone.now, rfl, hw.live.trans hdone.live, ?_, fun f hf hp he => ?_, hans.congr hw.view⟩
  · exact (hphase (by decide) _ _ _).trans (rd_wr_same _ _ _ _ _ _)
  · exact ((hphase hp _ _ _).trans (rd_wr_apart _ he _ _ _ _ _ _ _)).trans ((hw.rd hf _ _ _).trans (hdone.rd hf _ _ _))

theorem commitResolve_host {id : Nat} (hc : s.pln.cycle = some c) (hp : c.phase = .decided) (ho : c.req.origin = .host id)
    (hl : c.late = none) (he : c.eclipsed = false) : exec .commitResolve s = .next
      (let f := c.v + 7 + s.lag
       let pass := c.unarmed || c.failed == 0
       (((((if pass then (s.reach f).resolvePass c f else (s.reach f).resolveFail c f).clearFlags c.stage).occur
        (if pass then 481 else 482)).endMade c (if pass then stOK else if c.tileLost then stTileLost else stVerifyFailed)
        (if pass then 0 else 6) (c.evaluated * 2 ^ 16 + c.failed)).endCycle)) := by
  show execCommitResolve s = _
  unfold execCommitResolve
  rw [hc]
  dsimp only
  rw [if_neg (not_not.mpr hp), ho]
  simp only [he, hl, Bool.not_false, Bool.true_and, Option.isSome_none, b2n, Bool.false_eq_true, if_false, Nat.zero_add]

end

end Sys2Proof.Machine

open Sys2Proof Sys2Proof.Machine

/-- Settles O22: the live image and PLN_LIVE follow the verify's result; what a resolution does beside them leaves the descriptor
to complete. -/
theorem commitsResolveOrFallBack : Obligations.CommitsResolveOrFallBack := by
  unfold Obligations.CommitsResolveOrFallBack
  refine ⟨fun s c d hc hp ho hd he hf hl => ?_, fun s c d hc hp ho hd he hu hf ht hl => ?_⟩
  · have heq := commitResolve_host hc hp ho hl he
    simp only [hf, beq_self_eq_true, Bool.or_true, if_true, Nat.add_zero] at heq
    obtain ⟨hnow, hcyc, hlive, hbusy, hrd, hans⟩ :=
      resolved_ends (keeps_resolvePass (s.reach (c.v + 7 + s.lag)) c (c.v + 7 + s.lag)) ho hd 481 stOK 0 (c.evaluated * 2 ^ 16)
    refine ⟨_, heq, hnow, hcyc, hlive, ?_, ?_, ?_, hbusy, hans⟩
    · exact (hrd _ (by decide) (by decide) (by decide)).trans (rd_passShown_valid _ _)
    · exact (hrd _ (by decide) (by decide) (by decide)).trans (rd_passShown_fb _ _)
    · exact (hrd _ (by decide) (by decide) (by decide)).trans (rd_wr_same _ _ _ _ _ _)
  · have heq := commitResolve_host hc hp ho hl he
    simp only [hu, hf, ht, beq_iff_eq, Bool.false_or, if_false, Bool.false_eq_true] at heq
    obtain ⟨u, hu, hk⟩ := keeps_resolveFail (s.reach (c.v + 7 + s.lag)) c (c.v + 7 + s.lag)
    obtain ⟨hunow, huhpt, hulive⟩ := failShown_keeps u c ((s.reach (c.v + 7 + s.lag)).fallbackBytes c)
    have hdesc : (u.failShown c ((s.reach (c.v + 7 + s.lag)).fallbackBytes c)).desc d.id = some d := by
      rw [State.desc, huhpt, hu.frame]
      exact hd
    obtain ⟨hnow, hcyc, hlive, hbusy, hrd, hans⟩ :=
      resolved_ends hk ho hdesc 482 stVerifyFailed 6 (c.evaluated * 2 ^ 16 + c.failed)
    refine ⟨_, heq, hnow.trans (hunow.trans hu.now), hcyc, hlive.trans hulive, ?_, ?_, ?_, hbusy, hans⟩
    · exact (hrd _ (by decide) (by decide) (by decide)).trans (rd_failShown_valid _ _ _)
    · exact (hrd _ (by decide) (by decide) (by decide)).trans (rd_failShown_fb _ _ _)
    · refine (hrd _ (by decide) (by decide) (by decide)).trans ((rd_failShown_count _ _ _).trans ?_)
      rw [hu.rd (by decide) (by decide)]
      rfl

end

section
/-! The enable of the Plan Engine and CHANGE (R111, R141). -/
namespace Sys2Proof.Machine

section
variable {s t : State}

/-! #### The channels take their words and modes (R111, R141, R143) -/

theorem TileFrame.loadWord (h : TileFrame s t) (e : Nat) : TileFrame s (t.loadWord e) := by
  have h1 (cap g ch : Nat) : TileFrame s ((t.chWr DRV_CH_GUARDW.CAP cap ch).chWr DRV_CH_GATEW.GATE g ch) :=
    (h.chWr (by decide) _ _).chWr (by decide) _ _
  have h2 {a : State} (ha : TileFrame s a) (bc dk ch : Nat) :
      TileFrame s ((a.chWr DRV_CH_GUARDW.BLOCK_CODE bc ch).chWr DRV_CH_GATEW.DARK dk ch) :=
    (ha.chWr (by decide) _ _).chWr (by decide) _ _
  have h3 {a : State} (ha : TileFrame s a) (x y ch : Nat) :
      TileFrame s ((a.chWr DRV_CH_GATEW.MONV x ch).chWr DRV_CH_GATEW.MON y ch) :=
    (ha.chWr (by decide) _ _).chWr (by decide) _ _
  unfold State.loadWord
  refine TileFrame.ite (h3 (h2 (h1 _ _ _) _ _ _) _ _ _) ?_
  split
  · exact h3 (h2 (h1 _ _ _) _ _ _) _ _ _
  · exact TileFrame.ite (h3 (h2 (h1 _ _ _) _ _ _) _ _ _) (h3 (h2 (h1 _ _ _) _ _ _) _ _ _)

theorem TileFrame.loadWords (h : TileFrame s t) : TileFrame s t.loadWords :=
  TileFrame.foldl (fun _ ht => ht.loadWord _) (TileFrame.foldl (fun _ ht =>
    ((((ht.chWr (by decide) _ _).chWr (by decide) _ _).chWr (by decide) _ _).chWr (by decide) _ _).chWr (by decide) _ _) h _) _

theorem TileFrame.setSpare (h : TileFrame s t) (ch reason pos : Nat) : TileFrame s (t.setSpare ch reason pos) := by
  have h1 := (h.wr (f := DRV_SPARE.REASON) (by decide) reason (ch / 2048) (ch % 2048 / 32) 0).wr (f := DRV_SPARE.POSITION) (by decide)
    pos (ch / 2048) (ch % 2048 / 32) 0
  exact TileFrame.ite (h1.setDrv _) h1

theorem TileFrame.dueAgain (h : TileFrame s t) (u : Nat) : TileFrame s (t.dueAgain u) := TileFrame.ite (h.setCal _) h

theorem TileFrame.wake (h : TileFrame s t) (ch : Nat) : TileFrame s (t.wake ch) := (h.chWr (by decide) _ _).dueAgain _

theorem TileFrame.abandonMeas (h : TileFrame s t) (p : Meas → Bool) : TileFrame s (t.abandonMeas p) :=
  TileFrame.setCal (TileFrame.foldl (fun _ ht => (ht.setSpare _ _ _).chWr (by decide) _ _) h _) _

theorem TileFrame.startChange (h : TileFrame s t) (ch : Nat) : TileFrame s (t.startChange ch) := by
  have h1 := h.abandonMeas fun m => m.unit == ch
  exact ((((((((TileFrame.ite h1 (h1.setCal _)).chWr (by decide) _ _).chWr (by decide) _ _).chWr (by decide) _ _).chWr (by decide) _ _).chWr
    (by decide) _ _).chWr (by decide) _ _)).setDrv _

theorem TileFrame.takeMode (h : TileFrame s t) (e : Nat) : TileFrame s (t.takeMode e) := by
  unfold State.takeMode
  dsimp only
  have h1 : TileFrame s ((t.chWr DRV_CH_STATE.MODE (b2n (t.elem e).current) (t.elem e).channel).chWr DRV_CH_STATE.RANGE
      (b2n (t.elem e).narrow) (t.elem e).channel) := (h.chWr (by decide) _ _).chWr (by decide) _ _
  exact TileFrame.ite (h1.wake _) (TileFrame.ite (h1.startChange _) (TileFrame.ite (h1.wake _) h1))

theorem TileFrame.unbind (h : TileFrame s t) (ch : Nat) : TileFrame s (t.unbind ch) :=
  ((((TileFrame.ite (h.setSpare ch 0 0) h).chWr (by decide) _ _).chWr (by decide) _ _).chWr (by decide) _ _).dueAgain _

/-- Enabling sets ENABLED and works at the tiles alone. -/
theorem tileFrame_enablePln (s : State) : TileFrame (s.wr PLN_STATUS.ENABLED 1) s.enablePln :=
  TileFrame.setDrv (TileFrame.foldl (fun _ ht => ht.takeMode _) (TileFrame.foldl (fun _ ht => ht.unbind _)
    ((tileFrame_refl _).loadWords.setDrv _) _) _) _

/-! #### Disabling withdraws the Orbit list's commits and those of descriptors (R111) -/

theorem SchedFrame.orbitSkip (h : SchedFrame s t) : SchedFrame s t.orbitSkip := h.wr (by decide) _ _ _ _

theorem SchedFrame.endStart (h : SchedFrame s t) (r : Req) (status entry exe flags : Nat) :
    SchedFrame s (t.endStart r status entry exe flags) := by
  unfold State.endStart
  split
  · exact h
  · exact SchedFrame.ite h ((h.setOrb _).onlyHpt (onlyHpt_withDesc_finish _ _ _ _ _ _))

theorem SchedFrame.joinOff (h : SchedFrame s t) (r : Req) (status : Nat) : SchedFrame s (t.joinOff r status) :=
  SchedFrame.ite (h.setOrb _) ((SchedFrame.orbitSkip (h.setOrb _)).endStart _ _ _ _ _)

/-- Disabling clears ENABLED and works at the scheduler alone. -/
theorem schedFrame_disablePln (s : State) : SchedFrame (s.wr PLN_STATUS.ENABLED 0) s.disablePln := by
  refine SchedFrame.trans ?_ (schedFrame_cancel _ _ _)
  refine List.foldlRecOn _ _ ((schedFrame_refl _).dequeue _) fun t ht r _ => ?_
  split
  · exact ht.orbitSkip.endStart _ _ _ _ _
  · exact ht.joinOff _ _

/-- A write of ENABLE that acts shows in PLN_STATUS; the live image and memory stay. -/
theorem plnEnableApply_acts {v : Bool} (hp : s.pln.enablePending = some v) (hc : s.pln.cycle = none)
    (hv : v = true → s.on PLN_FMAP_STATUS.VALID = true) : ∃ t, exec .plnEnableApply s = .next t ∧ t.on PLN_STATUS.ENABLED = v ∧
      t.pln = { s.pln with enablePending := none } ∧ t.mem = s.mem := by
  show ∃ t, execPlnEnableApply s = _ ∧ _
  unfold execPlnEnableApply
  rw [hp, hc]
  dsimp only
  split
  case isTrue heq => exact ⟨_, rfl, (beq_iff_eq.mp heq).symm, rfl, rfl⟩
  case isFalse =>
    cases v with
    | true =>
      have h := tileFrame_enablePln { s with pln := { s.pln with enablePending := none } }
      refine ⟨_, congrArg Host.Outcome.next ((if_neg (by simp [hv rfl])).trans (if_pos rfl)), ?_, h.pln, h.mem⟩
      exact on_of_rd_one ((h.rd (by decide) (by decide) _ _ _).trans (rd_wr_one _ rfl _ _ _))
    | false =>
      have h := schedFrame_disablePln { s with pln := { s.pln with enablePending := none } }
      refine ⟨_, congrArg Host.Outcome.next ((if_neg (by simp)).trans (if_neg (by simp))), ?_, h.pln, h.mem⟩
      rw [State.on, h.rd (by decide) (by decide), rd_wr_zero]
      rfl

/-- A write of ENABLE waits, unless it would enable the engine without a valid fabric (R111). -/
theorem plnEnableWrite_act {die : Fin 2} (v : Bool) (h : s.bar0 die 0x100000 = .act) : exec (.plnEnableWrite die v) s = .next
    (if (v && !s.on PLN_FMAP_STATUS.VALID) = true then s.plnReject
      else { s.wr PLN_CTL.ENABLE (b2n v) with pln := { s.pln with enablePending := some v } }) :=
  congrArg Host.Outcome.next (viaBar0_act h _)

/-- A write that waited is refused where the fabric is no longer valid. -/
theorem plnEnableApply_refused (hp : s.pln.enablePending = some true) (hc : s.pln.cycle = none)
    (hoff : s.on PLN_STATUS.ENABLED = false) (hv : s.on PLN_FMAP_STATUS.VALID = false) : exec .plnEnableApply s = .next
      ((({ s with pln := { s.pln with enablePending := none } } : State).wr PLN_CTL.ENABLE 0).plnReject) := by
  show execPlnEnableApply s = _
  unfold execPlnEnableApply
  rw [hp, hc]
  dsimp only
  rw [if_neg (by simp [State.plnOn, hoff]), if_pos (by simp [hv])]

/-! #### The end of CHANGE (R141) -/

theorem stateOf_lt (s : State) (ch : Nat) : s.stateOf ch < 8 := by
  unfold State.stateOf
  dsimp only
  split_ifs <;> decide

theorem dueAgain_cal (s : State) (u : Nat) : s.dueAgain u = { s with cal := (s.dueAgain u).cal } := by
  unfold State.dueAgain
  split <;> rfl

/-- A channel that wakes shows the state that is its own. -/
theorem wake_eq (s : State) (ch : Nat) : s.wake ch =
    { s.chWr DRV_CH_STATE.STATE (s.stateOf ch) ch with cal := (s.wake ch).cal } := dueAgain_cal _ ch

theorem changeExpiry_wakes (tile : Fin 8) (ch : Fin 2048) (h : nget s.drv.changeDue (2048 * tile + ch) ≠ 0) :
    exec (.changeExpiry tile ch) s = .next
      { (s.reach (nget s.drv.changeDue (2048 * tile + ch))).wr DRV_CH_STATE.STATE (s.stateOf (2048 * tile + ch)) tile ch with
        drv := { s.drv with changeDue := nset s.drv.changeDue (2048 * tile + ch) 0 }
        cal := ((s.reach (nget s.drv.changeDue (2048 * tile + ch))).wake (2048 * tile + ch)).cal } := by
  show execChangeExpiry tile ch s = _
  unfold execChangeExpiry
  dsimp only
  split
  case h_1 h0 => exact absurd h0 h
  case h_2 =>
    rw [wake_eq (s.reach _), State.chWr, show (2048 * tile.val + ch.val) / 2048 = tile by omega,
      show (2048 * tile.val + ch.val) % 2048 = ch by omega]
    rfl

end

end Sys2Proof.Machine
end

section
/-! Queue samples and token buckets (R123, R125, R136). -/
namespace Sys2Proof.Machine

section
variable {s : State}

/-! #### The sample of a queue (R136) -/

/-- One queue is sampled, if a binding covers it. -/
def State.sampled (s : State) (q : Nat) : State :=
  if (s.bound 1 q).isEmpty then s else s.record 1 q s.ticks (s.queuePayload q)

theorem bound_one {b : Binding} (hb : s.hpt.bindings = [b]) (ht : b.type = 1) (h1 : b.count = 1) (q : Nat) :
    s.bound 1 q = if b.first = q then [b] else [] := by
  have hcov : (b.first ≤ q ∧ q < b.first + b.count) ↔ b.first = q := by omega
  rw [State.bound, hb]
  by_cases hq : b.first = q
  · rw [if_pos hq]
    exact List.filter_eq_self.mpr fun x hx => by simp_all
  · rw [if_neg hq]
    refine List.filter_eq_nil_iff.mpr fun x hx => ?_
    rw [List.mem_singleton.mp hx]
    simp only [ht, BEq.rfl, Bool.true_and, Bool.and_eq_true, decide_eq_true_eq, hcov]
    exact hq

/-- Of the queues, the one that the binding covers is sampled. -/
theorem foldl_sampled {b : Binding} {l : List Nat} (hl : l.Nodup) {s : State} (hb : s.hpt.bindings = [b]) (ht : b.type = 1)
    (h1 : b.count = 1) : l.foldl State.sampled s = if b.first ∈ l then s.sampled b.first else s := by
  induction l generalizing s with
  | nil => rfl
  | cons q l ih =>
    obtain ⟨hq, hl⟩ := List.nodup_cons.mp hl
    rw [List.foldl_cons]
    by_cases he : b.first = q
    · have hb' : (s.sampled q).hpt.bindings = [b] := by
        unfold State.sampled
        split <;> exact hb
      rw [ih hl hb', if_neg (he ▸ hq), he, if_pos List.mem_cons_self]
    · have hs : s.sampled q = s := if_pos (by rw [bound_one hb ht h1, if_neg he]; rfl)
      rw [hs, ih hl hb]
      simp [he]

theorem sampled_one {b : Binding} (hb : s.hpt.bindings = [b]) (ht : b.type = 1) (h1 : b.count = 1) :
    s.sampled b.first = { s with hpt := { s.hpt with telq := s.hpt.telq ++
      [⟨b.num, b.tq, 1, b.first, s.ticks, s.queuePayload b.first⟩] } } := by
  have hbound : s.bound 1 b.first = [b] := (bound_one hb ht h1 _).trans (if_pos rfl)
  have hticks : s.ticks % 2 ^ 64 = s.ticks := Nat.mod_mod _ _
  unfold State.sampled
  rw [if_neg (by simp [hbound]), State.record, hbound, hticks]
  rfl

/-- The interval's counts begin again. -/
def State.restat (s : State) : State :=
  { s with orb := { s.orb with stats :=
    ((List.range 520).filter fun q => !(s.queueOf q).isEmpty).map fun q => (16 * q, (s.queueOf q).length) } }

theorem queueSample_idle (hc : s.pln.cycle = none) :
    exec .queueSample s = .next ((List.range 520).foldl State.sampled (s.once 0 (s.duty 0 20000 0))).restat := by
  show execQueueSample s = _
  have hidle : ¬ (s.once 0 (s.duty 0 Config.framesPerMs 0)).pln.cycle.isSome = true := by
    rw [show (s.once 0 (s.duty 0 Config.framesPerMs 0)).pln.cycle = none from hc]
    decide
  unfold execQueueSample State.restat State.sampled
  rw [show 20000 = Config.framesPerMs from rfl]
  generalize s.once 0 (s.duty 0 Config.framesPerMs 0) = u at *
  generalize List.range 520 = l
  dsimp only
  rw [if_neg hidle]

/-- An event of a key comes at its duty frame (assumption 72). -/
theorem once_duty (s : State) (key m r : Nat) : s.once key (s.duty key m r) =
    { s with now := s.duty key m r, marks := nset s.marks key (s.duty key m r + 1) } := by
  have hle : s.now ≤ s.duty key m r := (le_max_left _ _).trans (Nat.le_add_right _ _)
  rw [State.once, State.reach, max_eq_right hle]

/-- At the next millisecond the one queue that is covered is sampled into a record, and the counts begin again (R136). -/
theorem queueSample_covered {b : Binding} (hb : s.hpt.bindings = [b]) (ht : b.type = 1) (h1 : b.count = 1) (hq : b.first < 520)
    (hc : s.pln.cycle = none) : ∃ stats, exec .queueSample s = .next { s with
      now := s.duty 0 20000 0
      hpt := { s.hpt with telq := s.hpt.telq ++ [⟨b.num, b.tq, 1, b.first, ticksOf (s.duty 0 20000 0),
        ({ s with now := s.duty 0 20000 0 } : State).queuePayload b.first⟩] }
      orb := { s.orb with stats := stats }
      marks := nset s.marks 0 (s.duty 0 20000 0 + 1) } := by
  have honce := once_duty s 0 20000 0
  have hb' : (s.once 0 (s.duty 0 20000 0)).hpt.bindings = [b] := hb
  have hsample := foldl_sampled (List.nodup_range (n := 520)) hb' ht h1
  rw [if_pos (List.mem_range.mpr hq), sampled_one hb' ht h1, honce] at hsample
  rw [queueSample_idle hc, honce, hsample]
  exact ⟨_, rfl⟩

/-! #### The buckets (R121 to R123) -/

theorem aget_map_self {β : Type} (f : Nat → β) {l : List Nat} {b : Nat} (h : b ∈ l) :
    aget (l.map fun k => (k, f k)) b = some (f b) := by
  induction l with
  | nil => exact absurd h List.not_mem_nil
  | cons a l ih =>
    rw [List.map_cons, aget_cons]
    by_cases e : a = b
    · rw [if_pos e, e]
    · rw [if_neg e, ih ((List.mem_cons.mp h).resolve_left fun h => e h.symm)]

/-- A write of the BURST of a class: 0 is refused, and another value clamps the level (R123). -/
theorem bucketBurstWrite_act {die : Fin 2} {b : Fin 10} (v : BitVec 24) (hlo : 1 ≤ b.val) (hhi : b.val ≤ 7)
    (h : s.bar0 die (0x200200 + 16 * b) = .act) : exec (.bucketBurstWrite die b v) s = .next
      (if v.toNat = 0 then s.wr ORB_STATUS.CFG_REJECT 1 else (s.accrue.wr ORB_TB_CFG.BURST v.toNat b).clampBurst b) := by
  have hb : b.val < 8 := by omega
  have h0 : b.val ≠ 0 := by omega
  show execBucketBurstWrite die b v s = _
  unfold execBucketBurstWrite
  rw [if_pos hb, viaBar0_act h, if_neg h0]
  dsimp only
  rw [if_pos hb]

/-- A level that has been taken up to the current frame stands as it is, up to BURST. -/
theorem bktLevel_accrued {b : Nat} {x : Int} (hat : s.orb.levelAt = s.now) (hx : aget s.orb.level b = some x) :
    s.bktLevel b = min ((s.bktBurst b : Int) * 20000) x := by
  rw [State.bktLevel, hx, hat]
  simp

theorem aget_accrue (s : State) {b : Nat} (hb : b < 10) : aget s.accrue.orb.level b = some (s.bktLevel b) :=
  aget_map_self s.bktLevel (List.mem_range.mpr hb)

/-- A level taken up to the current frame is held as it was read. -/
theorem bktLevel_accrue (s : State) {b : Nat} (hb : b < 10) : s.accrue.bktLevel b = s.bktLevel b := by
  rw [bktLevel_accrued rfl (aget_accrue s hb)]
  exact min_eq_right (min_le_left _ _)

theorem bktLevel_clamped (s : State) {b : Nat} (hb : b < 10) : (s.clampBurst b).bktLevel b = s.bktLevel b := by
  have hmax : s.bktLevel b ≤ (s.bktBurst b : Int) * 20000 := min_le_left _ _
  have hburst : (s.clampBurst b).bktBurst b = s.bktBurst b := rfl
  refine (bktLevel_accrued rfl (aget_aput_same _ _ _)).trans ?_
  rw [bktLevel_accrue s hb, hburst, show s.accrue.bktBurst b = s.bktBurst b from rfl]
  omega

/-- A new BURST caps what the bucket holds (R123). -/
theorem bktLevel_newBurst {b v : Nat} (hb : b < 8) (hv : v < 2 ^ ORB_TB_CFG.BURST.w) :
    ((s.accrue.wr ORB_TB_CFG.BURST v b).clampBurst b).bktLevel b = min (v * 20000 : Int) (s.bktLevel b) := by
  have hburst : (s.accrue.wr ORB_TB_CFG.BURST v b).bktBurst b = v :=
    (if_pos hb).trans ((rd_wr_same _ _ _ _ _ _).trans (Nat.mod_eq_of_lt hv))
  rw [bktLevel_clamped _ (by omega), bktLevel_accrued (s := s.accrue.wr ORB_TB_CFG.BURST v b) rfl (aget_accrue s (by omega)), hburst]

/-! #### The greatest delays (R125) -/

/-- A field cleared for every index of a list reads 0 there. -/
theorem rd_foldl_clear {f : Fld} (hf : f.tab = []) {l : List Nat} {k : Nat} (s : State) (h : s.rd f k = 0 ∨ k ∈ l) :
    (l.foldl (fun t i => t.wr f 0 i) s).rd f k = 0 := by
  induction l generalizing s with
  | nil => exact h.resolve_right List.not_mem_nil
  | cons i l ih =>
    refine ih _ ?_
    by_cases e : f.key k 0 0 = f.key i 0 0
    · left
      have hreset : f.reset k 0 0 = f.reset i 0 0 := by simp [Fld.reset, hf]
      rw [State.rd, e, hreset]
      exact rd_wr_zero s f i 0 0
    · rw [rd_wr_other _ _ e]
      exact h.imp_right fun h => (List.mem_cons.mp h).resolve_left fun h => e (by rw [h])

end

end Sys2Proof.Machine

open Sys2Proof Sys2Proof.Machine

/-- Settles O23: ENABLE waits, acts and shows; a channel wakes for its own state; one queue of 520 is covered, and a bucket's level
meets its new BURST. -/
theorem enableQueuesAndBuckets : Obligations.EnableQueuesAndBuckets := by
  unfold Obligations.EnableQueuesAndBuckets
  refine ⟨⟨fun s die v hact hv => ?_, fun s die hact hv => ?_, fun s v hp hc hv => ?_, fun s hp hc hoff hv => ?_, fun s c hc => ?_,
    fun s tile ch hdue => ?_⟩, fun s q b hb ht hf h1 hq hc => ?_, fun s die b v hlo hhi hact hv => ?_, fun s die b hlo hhi hact => ?_,
    fun s die hact => ?_⟩
  · have hvalid : ¬ (v && !s.on PLN_FMAP_STATUS.VALID) = true := by
      cases v
      · simp
      · simp [hv rfl]
    exact ⟨_, (plnEnableWrite_act v hact).trans (congrArg _ (if_neg hvalid)),
      (rd_wr_same s PLN_CTL.ENABLE (b2n v) 0 0 0 :).trans (by cases v <;> rfl), rfl, rfl,
      (onlyRegs_wr s PLN_CTL.ENABLE (b2n v) 0 0 0 (by simp)).2⟩
  · exact ⟨_, (plnEnableWrite_act true hact).trans (congrArg _ (if_pos (by simp [hv]))), plnReject_spec s⟩
  · obtain ⟨t, heq, hon, hpln, hmem⟩ := plnEnableApply_acts hp hc hv
    exact ⟨t, heq, hon, by rw [hpln], by rw [hpln], memSame_of_mem hmem⟩
  · refine ⟨_, plnEnableApply_refused hp hc hoff hv, ?_, rd_wr_one _ rfl _ _ _, rfl, ?_⟩
    · exact (rd_wr_apart _ (by decide) _ _ _ _ _ _ _).trans (rd_wr_zero _ _ _ _ _)
    · exact ((onlyRegs_wr { s with pln := { s.pln with enablePending := none } } PLN_CTL.ENABLE 0 0 0 0 (by simp)).wr
        PLN_STATUS.CFG_REJECT 1 0 0 0 (by simp)).2
  · show execPlnEnableApply s = _
    unfold execPlnEnableApply
    rw [hc]
    split
    case h_1 h => exact absurd h (by simp)
    case h_2 => rfl
  · have htile : (2048 * tile.val + ch.val) / 2048 = tile := by omega
    have hch : (2048 * tile.val + ch.val) % 2048 = ch := by omega
    refine ⟨_, changeExpiry_wakes tile ch hdue, nget_nset_same s.drv.changeDue _ 0, rfl, ?_, rfl, ?_⟩
    · rw [State.outState, State.chRd, htile, hch]
      exact (rd_wr_same (s.reach (nget s.drv.changeDue (2048 * tile + ch))) DRV_CH_STATE.STATE _ _ _ 0 :).trans
        (Nat.mod_eq_of_lt (stateOf_lt s _))
    · exact (onlyRegs_wr (s.reach (nget s.drv.changeDue (2048 * tile + ch))) DRV_CH_STATE.STATE
        (s.stateOf (2048 * tile + ch)) tile ch 0 (List.mem_singleton_self _)).2
  · subst hf
    obtain ⟨stats, heq⟩ := queueSample_covered hb ht h1 hq hc
    exact ⟨_, heq, rfl, rfl, rfl, (nget_nset_same s.marks 0 (s.duty 0 20000 0 + 1) :), rfl⟩
  · have hb : b.val < 8 := by omega
    refine ⟨_, (bucketBurstWrite_act v hlo hhi hact).trans (congrArg _ (if_neg hv)), ?_, bktLevel_newBurst hb v.isLt, rfl, ?_⟩
    · exact (rd_wr_same s.accrue ORB_TB_CFG.BURST _ _ 0 0 :).trans (Nat.mod_eq_of_lt v.isLt)
    · exact (onlyRegs_wr s.accrue ORB_TB_CFG.BURST _ _ 0 0 (List.mem_singleton_self _)).2
  · exact ⟨_, (bucketBurstWrite_act 0 hlo hhi hact).trans (congrArg _ (if_pos rfl)), rd_wr_one _ rfl _ _ _,
      onlyRegs_wr _ _ _ _ _ _ (by simp)⟩
  · exact ⟨_, congrArg Host.Outcome.next (viaBar0_act hact _),
      fun k => rd_foldl_clear (f := ORB_CLASS_STAT.MAX_HOL_US) rfl s (.inr (List.mem_range.mpr k.isLt)),
      onlyRegs_foldl (fun k hk x => onlyRegs_wr x ORB_CLASS_STAT.MAX_HOL_US 0 k 0 0
        (List.mem_map_of_mem (f := fun k => ORB_CLASS_STAT.MAX_HOL_US.key k 0 0) hk)) s⟩

end

section
/-! SUPPORT. What an end of the Host Port's work leaves to the Orbit list, and the list's requests where there are none. -/
namespace Sys2Proof.Machine

section
variable {s t : State}

theorem OnlyHpt.orb (h : OnlyHpt s t) : t.orb = s.orb := by rw [h.1]
theorem OnlyHpt.now (h : OnlyHpt s t) : t.now = s.now := by rw [h.1]

/-- Work of the Host Port leaves every register outside its block. -/
theorem OnlyHpt.rd (h : OnlyHpt s t) {f : Fld} (hf : f.avoids 0 0x800000 = true) (i j k : Nat) : t.rd f i j k = s.rd f i j k := by
  have hk := Fld.key_avoids hf i j k
  rw [State.rd, State.rd, h.2 _ (by omega)]

/-- What is answered with a RESULT is answered. -/
theorem Answered.anyResult {d : Desc} {st r fl : Nat} (h : Answered d st (some r) t fl) : Answered d st none t fl := by
  refine ⟨h.1, h.2.imp_right (.imp_right ?_)⟩
  rintro ⟨pre, c, howed, hcq, hsq, htag, hst, hfl, hacc, -⟩
  exact ⟨pre, c, howed, hcq, hsq, htag, hst, hfl, hacc, nofun⟩

theorem answered_finish (s : State) (d : Desc) (st : Nat) (res : Option Nat) (exe fl : Nat) :
    Answered d st res (s.finish d st res exe fl) fl := (completed_finish s d st res exe fl).answered

/-- The Host Port decides whether a descriptor has completed since. -/
theorem Completed.of_hpt {u : State} {d : Desc} {st fl : Nat} {res : Option Nat} (h : Completed d st res u t fl)
    (hh : u.hpt = s.hpt) : Completed d st res s t fl := by
  unfold Completed at *
  rwa [← hh]

theorem withDesc_eq {id : Nat} {d : Desc} (h : s.desc id = some d) (f : Desc → State) : s.withDesc id f = f d := by
  rw [State.withDesc, h]

/-- Where no request is meant, none leaves its queue. -/
theorem dequeue_of_none {p : Req → Bool} (h : ∀ r ∈ s.orb.reqs, p r = false) : s.dequeue p = s := by
  have hheads : (s.orb.reqs.filter fun r => p r && s.isHead r) = [] := List.filter_eq_nil_iff.mpr fun r hr => by simp [h r hr]
  have hrest : (s.orb.reqs.filter fun r => !p r) = s.orb.reqs := List.filter_eq_self.mpr fun r hr => by simp [h r hr]
  rw [State.dequeue, hheads]
  dsimp only [List.foldl_nil]
  rw [hrest]

/-- Without a request of the list none is dropped. -/
theorem dropOrbit_of_none (h : ∀ r ∈ s.orb.reqs, r.orbital = false) (status : Nat) : s.dropOrbit status = s := by
  have hnone : s.orb.reqs.filter Req.orbital = [] := List.filter_eq_nil_iff.mpr fun r hr => by simp [h r hr]
  rw [State.dropOrbit, hnone, dequeue_of_none h]
  rfl

theorem onlyHpt_endDesc (s : State) (id : Option Nat) (st : Nat) : OnlyHpt s (s.endDesc id st) := by
  unfold State.endDesc
  split
  · exact onlyHpt_withDesc_finish s _ st none s.ticks 0
  · exact onlyHpt_refl s

theorem orbitRunning_of_empty (h : s.orb.active = []) : s.orbitRunning = false := by simp [State.orbitRunning, h]
theorem orbitAhead_of_empty (h : s.orb.active = []) : s.orbitAhead = false := by simp [State.orbitAhead, h]

end

end Sys2Proof.Machine
end

section
/-! ORBIT_LOAD, ORBIT_START and ORBIT_STOP (R130 to R133). -/
namespace Sys2Proof.Machine

section
variable {s : State} {id : Nat} {d : Desc}

/-! #### Loading a list (R130, R131) -/

/-- The list that the data of an ORBIT_LOAD hold. -/
def Desc.orbitList (d : Desc) (data : List Byte) : List OrbitEnt := (words8 (d.fld 16 2) data).map orbitEnt

/-- A load with a status has read its list from host memory, unless it was refused before. -/
def State.listRead (s : State) (d : Desc) (st : Nat) : State :=
  if st = stBadField ∨ st = stKeysErased ∨ st = stOrbitBusy then s else s.emit (.read s.active (d.fld 8 8) (8 * d.fld 16 2))

/-- The state whose shadow list is another. -/
def State.withShadow (s : State) (l : List OrbitEnt) : State := { s with orb := { s.orb with shadow := l } }

/-- Reading a list changes the output alone. -/
theorem onlyHpt_listRead (s : State) (d : Desc) (st : Nat) : OnlyHpt s (s.listRead d st) :=
  onlyHpt_ite (onlyHpt_refl s) (onlyHpt_emit s _)

theorem listRead_hpt (s : State) (d : Desc) (st : Nat) : (s.listRead d st).hpt = s.hpt := by
  unfold State.listRead
  split <;> rfl

theorem listRead_ok (s : State) (d : Desc) : s.listRead d stOK = s.emit (.read s.active (d.fld 8 8) (8 * d.fld 16 2)) := rfl

/-- While no swap is pending, a load is refused, waits for the swap, or completes at once. -/
theorem orbitLoad_runs (h : Runs s id opOrbitLoad d) (hswap : s.orb.swap = none) (data : List Byte) :
    exec (.orbitLoad id ⟨data, false⟩) s = .next
      (let st := s.orbitLoadStatus d data
       let t := (s.listRead d st).withShadow (d.orbitList data)
       if st ≠ stOK then (s.listRead d st).done d st
       else if bit (d.fld 18 1) 0 && s.orbitRunning then { t with orb := { t.orb with swap := some (id, s.now) } }
       else t.done d stOK (orbitLen (d.orbitList data))) := by
  show execOrbitLoad id ⟨data, false⟩ s = _
  unfold execOrbitLoad
  rw [poisoned_false, withOp_of_runs h]
  dsimp only
  rw [hswap]
  rfl

/-- Poisoned data set POISONED, and the load goes on with them (R81). -/
theorem orbitLoad_poisoned (h : s.desc id = some d) (data : List Byte) : exec (.orbitLoad id ⟨data, true⟩) s =
    exec (.orbitLoad id ⟨data, false⟩) (s.hptError s.active 5 d.ring d.hostAddr) := by
  have hpoison : s.poisoned true id = s.hptError s.active 5 d.ring d.hostAddr := by
    rw [State.poisoned, h]
    rfl
  show execOrbitLoad _ _ _ = execOrbitLoad _ _ _
  rw [execOrbitLoad, execOrbitLoad, hpoison, poisoned_false]

/-! #### Starting a list (R132) -/

/-- The shadow list becomes active with its base, from the frame `b` on, and its start is owed (R132). -/
def State.startList (s : State) (st : OrbitStart) (base : Option Nat) (b : Nat) : State :=
  ({ s with orb := { s.orb with
      active := s.orb.shadow, shadow := [], base := base, start := some st, stop := none, swap := none, erased := none
      fresh := !st.join, settled := b, entered := max b s.now } } : State).wr ORB_ORBIT_CYCLES.COUNT 0

/-- The start that an ORBIT_START at frame `b` owes; it asks for its commit at once where `join` holds. -/
def State.startOwed (s : State) (id : Nat) (now join : Bool) (b : Nat) : OrbitStart :=
  ⟨id, s.orb.nextSeq, now, join, if join then none else some b, (orbitStand s.orb.shadow 0).isNone⟩

/-- A start that passes the checks makes the shadow list active, and asks for its first commit at once with NOW or after its time. -/
theorem orbitStart_runs (h : Runs s id opOrbitStart d) {now : Bool} (hnow : d.fld 16 1 = b2n now)
    (hz : zeros d.bytes 17 47 = true) (hk : s.keysErased = false) (hact : s.orb.active = []) (hst : s.orb.start = none)
    (hsh : s.orb.shadow ≠ []) (ht : now = false → s.timeOut (d.fld 8 8) = false) : exec (.orbitStart id) s = .next
      (let b := s.frameAt (d.fld 8 8)
       let join := now || decide (b < s.now)
       let t := s.startList (s.startOwed id now join b) (if now then none else some b) b
       if join then t.issueJoin else t) := by
  have hbit : bit (d.fld 16 1) 0 = now := by rw [hnow]; cases now <;> rfl
  have hbody : ¬ (decide (2 ≤ d.fld 16 1) || !zeros d.bytes 17 47) = true := by rw [hnow, hz]; cases now <;> decide
  have hbusy : ¬ (s.orbitRunning || s.orbitAhead || s.orb.start.isSome) = true := by
    simp [orbitRunning_of_empty hact, orbitAhead_of_empty hact, hst]
  have htime : ¬ (!now && s.timeOut (d.fld 8 8)) = true := by
    cases now
    · simp [ht rfl]
    · simp
  show execOrbitStart id s = _
  unfold execOrbitStart
  rw [withOp_of_runs h]
  dsimp only
  rw [hbit, if_neg (by simp [hst]), if_neg hbody, if_neg (by simp [hk]), if_neg hbusy, if_neg (by simpa using hsh), if_neg htime]
  rfl

theorem plnOn_startList (st : OrbitStart) (base : Option Nat) (b : Nat) : (s.startList st base b).plnOn = s.on PLN_STATUS.ENABLED :=
  on_of_rd (rd_wr_apart _ (by decide) _ _ _ _ _ _ _)

/-- With the Plan Engine enabled a list that starts asks for its first commit at the current frame. -/
theorem issueJoin_asks (st : OrbitStart) (base : Option Nat) (b : Nat) (hon : s.on PLN_STATUS.ENABLED = true) :
    ∃ r ∈ (s.startList st base b).issueJoin.orb.reqs, r.origin = .join ∧ r.prep = s.now ∧
      (s.startList st base b).issueJoin.orb.reqs.length = s.orb.reqs.length + 1 ∧
      (s.startList st base b).issueJoin.orb.active = s.orb.shadow ∧ (s.startList st base b).issueJoin.orb.base = base ∧
      (s.startList st base b).issueJoin = { s with
        regs := (s.startList st base b).issueJoin.regs, orb := (s.startList st base b).issueJoin.orb } := by
  have hask : (s.startList st base b).issueJoin = (s.startList st base b).enqueue (s.startList st base b).joinReq :=
    if_pos (by simp [(plnOn_startList st base b).trans hon])
  have hreqs := enqueue_reqs (s.startList st base b) (s.startList st base b).joinReq
  rw [hask]
  exact ⟨_, hreqs.mem_iff.mpr List.mem_cons_self, rfl, rfl, hreqs.length_eq, rfl, rfl, rfl⟩

/-- The list runs from the frame of the commit that was not made, which is skipped (R111, assumption 30). -/
def State.runsUnmade (s : State) : State :=
  { s.orbitSkip with orb := { s.orb with
      base := some (s.now + 40), settled := s.now + 41, entered := s.now + 41, fresh := false, start := none } }

/-- With the Plan Engine disabled the first commit of a list without a base is skipped, and its start ends. -/
theorem issueJoin_off {st : OrbitStart} (hoff : s.plnOn = false) (hstand : (orbitStand s.orb.active 0).isSome = true)
    (hb : s.orb.base = none) (hst : s.orb.start = some st) (hseq : st.seq ≤ s.orb.nextSeq) (hd : s.desc st.desc = some d) :
    OnlyHpt s.runsUnmade s.issueJoin ∧ Answered d stPlnDisabled none s.issueJoin := by
  have hoff' : ¬ (s.plnOn || (orbitStand s.orb.active 0).isNone) = true := by
    rw [hoff, Option.isNone_eq_false_iff.mpr hstand]
    decide
  have hend : s.issueJoin = s.runsUnmade.finish d stPlnDisabled
      (some ((orbitSpot s.orb.active (s.now + 40) (s.now + 40)).getD (0, s.now + 40, s.now + 40)).1) (ticksOf s.now) 0 := by
    refine (if_neg hoff').trans ?_
    unfold State.joinOff
    rw [hb]
    refine (if_neg (by simp)).trans ?_
    unfold State.endStart
    simp only [State.orbitSkip, bump_orb, hst, Option.map_some]
    rw [if_neg (Nat.not_lt.mpr hseq)]
    exact withDesc_eq (by exact hd) _
  rw [hend]
  exact ⟨onlyHpt_finish _ _ _ _ _ _, (answered_finish _ _ _ _ _ _).anyResult⟩

/-! #### Stopping a list (R133) -/

/-- While no other stop waits, a stop of a running list waits, one before its start cancels the start, and one without a list is
refused. -/
theorem orbitStop_runs (h : Runs s id opOrbitStop d) (hm : d.fld 8 1 < 2) (hz : zeros d.bytes 9 55 = true)
    (hstop : s.orb.stop = none) : exec (.orbitStop id) s = .next
      (if s.orbitRunning then { s with orb := { s.orb with stop := some ⟨id, d.fld 8 1, s.now⟩ } }
        else if s.orbitAhead || s.orb.start.isSome then (s.cancelStart stAborted).done d stOK (some 0)
        else s.done d stNoOrbit) := by
  show execOrbitStop id s = _
  unfold execOrbitStop
  rw [withOp_of_runs h]
  dsimp only
  rw [hstop, if_neg (by simp), if_neg (by simp [hm, hz])]

/-- The list returns to the shadow, and none is active (R133). -/
def State.listReturned (s : State) : State :=
  { s.dequeue Req.orbital with orb := { (s.dequeue Req.orbital).orb with
      shadow := s.orb.active, active := [], base := none, start := none, fresh := false, stop := none, swap := none } }

/-- A start that is cancelled returns its list, and what waited for it completes. -/
theorem onlyHpt_cancelStart (s : State) (st : Nat) : OnlyHpt s.listReturned (s.cancelStart st) :=
  ((onlyHpt_endDesc _ _ _).trans (onlyHpt_endDesc _ _ _)).trans (onlyHpt_endDesc _ _ _)

theorem schedFrame_listReturned (s : State) : SchedFrame s s.listReturned := ((schedFrame_refl s).dequeue _).setOrb _

end

end Sys2Proof.Machine
end

section
/-! A running Orbit list: its start, entries, swap and stop (R128 to R133). -/
namespace Sys2Proof.Machine

section
variable {s : State} {e i : Nat}

/-! #### The list starts to run (R132) -/

/-- As a list that commits something starts to run, nothing but time passes: its first commit completes the start. -/
theorem orbitListStart_reaches {st : OrbitStart} {f : Nat} (hst : s.orb.start = some st) (hat : st.at_ = some f)
    (hidle : st.idle = false) : exec .orbitListStart s = .next (s.reach f) := by
  show execOrbitListStart s = _
  unfold execOrbitListStart
  rw [hst]
  dsimp only
  rw [hat]
  exact congrArg Host.Outcome.next (if_pos (by simp [hidle]))

/-- A start whose list commits nothing completes as the list starts to run, with the entry in force there. -/
theorem orbitListStart_completes {st : OrbitStart} {f : Nat} {d : Desc} (hst : s.orb.start = some st) (hat : st.at_ = some f)
    (hidle : st.idle = true) (hd : s.desc st.desc = some d) : exec .orbitListStart s = .next
      (({ s.reach f with orb := { s.orb with start := none } } : State).finish d stOK
        (some ((s.orb.base.bind fun b => (orbitSpot s.orb.active b f).map (·.1)).getD 0)) (ticksOf f)) := by
  show execOrbitListStart s = _
  unfold execOrbitListStart
  rw [hst]
  dsimp only
  rw [hat]
  refine congrArg Host.Outcome.next ((if_neg (by simp [hidle])).trans ?_)
  exact withDesc_eq (by exact hd) _

/-! #### An entry (R128, R129) -/

/-- An entry that commits its plan asks for the commit, once no request of the list waits. -/
theorem prepEntry_asks {l : List OrbitEnt} {x : OrbitEnt} {fresh : Bool} (hx : l[i]? = some x) (hhold : x.hold = false)
    (hon : s.on PLN_STATUS.ENABLED = true) (hreqs : ∀ r ∈ s.orb.reqs, r.orbital = false) :
    s.prepEntry l i e fresh none = s.enqueue (s.entryReq l i e x.plan false) := by
  have hdrop : (s.eccHit none).dropOrbit stOrbitLateSkip = s := dropOrbit_of_none hreqs _
  have hoff : ¬ (!s.plnOn || (none : Option EccHit).isSome) = true := by simp [State.plnOn, hon]
  unfold State.prepEntry
  rw [hdrop, hx]
  dsimp only
  rw [hhold]
  exact if_neg hoff

/-- At its prep frame such an entry of the running list asks for its commit (R128). -/
theorem orbitEntryPrep_asks {x : OrbitEnt} (hnext : s.nextEdge = some (e, i)) (hedge : (s.reach (e - 40)).edge e = .entry)
    (hx : s.orb.active[i]? = some x) (hhold : x.hold = false) (hon : s.on PLN_STATUS.ENABLED = true)
    (hreqs : ∀ r ∈ s.orb.reqs, r.orbital = false) : exec (.orbitEntryPrep none) s = .next
      (let u := s.reach (e - 40)
       let t := u.enqueue (u.entryReq s.orb.active i e x.plan false)
       { t with orb := { t.orb with settled := e + 1, fresh := false } }) := by
  have hasks := prepEntry_asks (s := s.reach (e - 40)) (e := e) (fresh := s.orb.fresh) hx hhold hon hreqs
  show execOrbitEntryPrep none s = _
  unfold execOrbitEntryPrep
  rw [hnext]
  dsimp only
  rw [hedge]
  dsimp only
  rw [← hasks]
  rfl

/-- An entry that starts ends a cycle where it stands at a cycle boundary (R136). -/
theorem orbitEntryStart_entry (hnext : s.nextStart = some (e, i)) (hedge : s.edge e = .entry) : exec .orbitEntryStart s = .next
    (let t := (s.reach e).cycleDone (s.orb.base.getD 0) e
     { t with orb := { t.orb with entered := e + 1 } }) := by
  show execOrbitEntryStart s = _
  unfold execOrbitEntryStart
  rw [hnext]
  exact congrArg Host.Outcome.next (if_neg (by simp [hedge]))

/-- A cycle boundary changes the count of cycles and shows an event, and no more. -/
theorem cycleDone_frame (s : State) (b e : Nat) :
    s.cycleDone b e = { s with regs := (s.cycleDone b e).regs, sgf := (s.cycleDone b e).sgf } ∧
      RegsBut [ORB_ORBIT_CYCLES.COUNT.key 0 0 0] s (s.cycleDone b e) := by
  unfold State.cycleDone
  split
  · split
    · exact ⟨rfl, (onlyRegs_wr s ORB_ORBIT_CYCLES.COUNT _ 0 0 0 (List.mem_singleton_self _)).2⟩
    · exact ⟨rfl, fun _ _ => rfl⟩
  · exact ⟨rfl, fun _ _ => rfl⟩

/-- At a cycle boundary after the base a cycle is counted (R136). -/
theorem rd_cycleDone {b : Nat} (hc : cycleEdge s.orb.active b e = true) (hb : b < e) :
    (s.cycleDone b e).rd ORB_ORBIT_CYCLES.COUNT = min (s.rd ORB_ORBIT_CYCLES.COUNT + 1) (2 ^ 32 - 1) := by
  unfold State.cycleDone
  rw [if_pos hc, if_pos hb]
  exact rd_bump_same s ORB_ORBIT_CYCLES.COUNT 1 0 0 0

/-! #### The swap (R131) -/

/-- At frame `e` the shadow list becomes active, its cycles count anew, and the events of the swap come. -/
def State.listSwapped (s : State) (e : Nat) : State :=
  (((({ s.reach e with orb := { s.orb with
    active := s.orb.shadow, shadow := [], base := some e, swap := none, entered := e + 1, settled := max s.orb.settled e } } : State).wr
      ORB_ORBIT_CYCLES.COUNT 0).occur 484).occur 485)

/-- The new list has completed no cycle. -/
theorem rd_listSwapped (s : State) (e : Nat) : (s.listSwapped e).rd ORB_ORBIT_CYCLES.COUNT = 0 :=
  (rd_congr rfl _ _ _ _).trans (rd_wr_zero (s.reach e) ORB_ORBIT_CYCLES.COUNT 0 0 0)

/-- A swap that is due acts, and its load completes with the length of the new list. -/
theorem orbitSwap_swaps {id a : Nat} {d : Desc} (hnext : s.nextStart = some (e, i)) (hswap : s.orb.swap = some (id, a))
    (hedge : s.edge e = .swap) (hd : s.desc id = some d) :
    exec .orbitSwap s = .next ((s.listSwapped e).finish d stOK (some (orbitLen s.orb.shadow)) (ticksOf e)) := by
  show execOrbitSwap s = _
  unfold execOrbitSwap
  rw [hnext, hswap]
  refine congrArg Host.Outcome.next ((if_neg (by simp [hedge])).trans ?_)
  exact withDesc_eq (s := s.listSwapped e) hd _

/-! #### The stop (R133) -/

/-- At frame `e` the cycle that ends with the list is counted. -/
def State.lastCycle (s : State) (e : Nat) : State :=
  if cycleEdge s.orb.active (s.orb.base.getD 0) e then (s.reach e).bump ORB_ORBIT_CYCLES.COUNT else s.reach e

/-- No list is active, and nothing waits for one. -/
def State.listEnded (s : State) : State :=
  { s with orb := { s.orb with
      active := [], base := none, start := none, swap := none, stop := none, erased := none, fresh := false } }

theorem lastCycle_keeps (s : State) (e : Nat) : (s.lastCycle e).now = max s.now e ∧ (s.lastCycle e).orb = s.orb ∧
    (s.lastCycle e).hpt = s.hpt ∧ (s.lastCycle e).mem = s.mem := by
  unfold State.lastCycle
  split <;> exact ⟨rfl, rfl, rfl, rfl⟩

/-- A stop for which no request, start or swap of the list waits ends the list, and completes with the cycles made. -/
theorem orbitStopEffect_stops {p : OrbitStop} {d : Desc} (hnext : s.nextStart = some (e, i)) (hedge : s.edge e = .stop)
    (hp : s.orb.stop = some p) (hd : s.desc p.desc = some d) (hst : s.orb.start = none) (hswap : s.orb.swap = none)
    (hreqs : ∀ r ∈ s.orb.reqs, r.orbital = false) : exec .orbitStopEffect s = .next
      (((s.lastCycle e).listEnded.finish d stOK (some ((s.lastCycle e).rd ORB_ORBIT_CYCLES.COUNT)) (ticksOf e)).occur 486) := by
  obtain ⟨-, horb, hhpt, -⟩ := lastCycle_keeps s e
  have hdesc : (s.lastCycle e).listEnded.desc p.desc = some d :=
    (congrArg (fun h : Hpt => h.accepted.find? fun x : Desc => x.id == p.desc) hhpt :).trans hd
  show execOrbitStopEffect s = _
  unfold execOrbitStopEffect
  rw [hnext]
  refine congrArg Host.Outcome.next ((if_neg (by simp [hedge])).trans ?_)
  dsimp only
  rw [show (if cycleEdge (s.reach e).orb.active (s.orb.base.getD 0) e then (s.reach e).bump ORB_ORBIT_CYCLES.COUNT else s.reach e) =
    s.lastCycle e from rfl, dropOrbit_of_none (horb ▸ hreqs), horb, hst]
  dsimp only
  rw [horb, hswap, show (s.reach e).orb.stop = s.orb.stop from rfl, hp]
  exact congrArg (State.occur · 486) (withDesc_eq hdesc _)

end

end Sys2Proof.Machine

open Sys2Proof Sys2Proof.Machine

/-- Settles O24: each command by its branch; a request that is asked for stands among the scheduler's, and a completion leaves the list as
its command has made it. -/
theorem orbitListCommandsAndRuns : Obligations.OrbitListCommandsAndRuns := by
  unfold Obligations.OrbitListCommandsAndRuns
  refine ⟨⟨fun s id d data h hsw hok hno => ?_, fun s id d data h hsw hok h18 hrun => ?_, fun s id d data h hsw hbad => ?_,
    fun s id d data hd => orbitLoad_poisoned hd data, fun s id d h h16 hz hk hact hst hsh ht hlt hon => ?_,
    fun s id d h h16 hz hk hact hst hsh ht hle => ?_, fun s id d h h16 hz hk hact hst hsh => ⟨fun hon => ?_, fun hoff hstand => ?_⟩,
    fun s id d h hm hz hrun hstop => ?_, fun s id d h hm hz hrun hact hstop => ?_, fun s id d h hm hz hact hst hstop => ?_⟩,
    fun s st f hst hat hidle => orbitListStart_reaches hst hat hidle, fun s st f d hst hat hidle hd => ?_,
    fun s e i x hnext hedge hx hhold hon hreqs => ?_, fun s e i hnext hedge => ?_,
    fun s e i id a d hnext hswap hedge hd => ?_, fun s e i p d hnext hedge hp hd hst hswap hreqs => ?_⟩
  · have hwait : ¬ (bit (d.fld 18 1) 0 && s.orbitRunning) = true := by
      rcases hno with h18 | hrun
      · simp [h18, bit]
      · simp [hrun]
    have hdone := onlyHpt_done ((s.listRead d stOK).withShadow (d.orbitList data)) d stOK (orbitLen (d.orbitList data))
    refine ⟨_, (orbitLoad_runs h hsw data).trans (congrArg _ ((if_neg (not_not.mpr hok)).trans (if_neg hwait))), ?_⟩
    rw [hok]
    exact ⟨hdone.orb, (completed_done _ _ _ _).of_hpt (listRead_hpt s d stOK), memSame_of_mem hdone.mem⟩
  · have hwait : (bit (d.fld 18 1) 0 && s.orbitRunning) = true := by simp [h18, hrun, bit]
    refine ⟨_, (orbitLoad_runs h hsw data).trans (congrArg _ ((if_neg (not_not.mpr hok)).trans (if_pos hwait))), ?_⟩
    rw [hok, listRead_ok]
    exact ⟨rfl, rfl⟩
  · exact ⟨_, (orbitLoad_runs h hsw data).trans (congrArg _ (if_pos hbad)), (completed_done _ _ _ _).of_hpt (listRead_hpt s d _),
      (onlyHpt_listRead s d _).trans (onlyHpt_done _ _ _ _)⟩
  · have hjoin : (false || decide (s.frameAt (d.fld 8 8) < s.now)) = true := by simp [hlt]
    obtain ⟨r, hr, horg, hprep, hlen, hactive, hbase, hframe⟩ := issueJoin_asks _ _ _ hon
    exact ⟨_, r, (orbitStart_runs (now := false) h h16 hz hk hact hst hsh fun _ => ht).trans (congrArg _ (if_pos hjoin)), hactive, hbase,
      hr, horg, hprep, hlen, hframe⟩
  · have hwait : ¬ (false || decide (s.frameAt (d.fld 8 8) < s.now)) = true := by simp [hle]
    refine ⟨_, _, (orbitStart_runs (now := false) h h16 hz hk hact hst hsh fun _ => ht).trans (congrArg _ (if_neg hwait)), rfl, rfl,
      rfl, rfl, rfl, if_neg hwait, rfl, rfl, (onlyRegs_wr _ _ _ _ _ _ (List.mem_singleton_self _)).2⟩
  · obtain ⟨r, hr, horg, hprep, hlen, hactive, hbase, hframe⟩ := issueJoin_asks _ _ _ hon
    exact ⟨_, r, (orbitStart_runs (now := true) h h16 hz hk hact hst hsh nofun).trans (congrArg _ (if_pos rfl)), hactive, hbase,
      hr, horg, hprep, hlen, hframe⟩
  · obtain ⟨honly, hans⟩ := issueJoin_off
      (s := s.startList (s.startOwed id true true (s.frameAt (d.fld 8 8))) none (s.frameAt (d.fld 8 8)))
      ((plnOn_startList _ _ _).trans hoff) hstand rfl rfl le_rfl h.1
    refine ⟨_, (orbitStart_runs (now := true) h h16 hz hk hact hst hsh nofun).trans (congrArg _ (if_pos rfl)),
      congrArg Orb.active honly.orb, congrArg Orb.base honly.orb, (congrArg Orb.reqs honly.orb :), ?_, congrArg Orb.start honly.orb, hans⟩
    refine (honly.rd (by decide) _ _ _).trans ((rd_bump_same _ ORB_CNT_SKIP.COUNT 1 0 0 0).trans ?_)
    rw [State.startList, rd_wr_apart _ (by decide)]
    rfl
  · exact (orbitStop_runs h hm hz hstop).trans (congrArg _ (if_pos hrun))
  · have hahead : s.orbitAhead = true := by simp [State.orbitAhead, hact, hrun]
    have hall := (onlyHpt_cancelStart s stAborted).trans (onlyHpt_done (s.cancelStart stAborted) d stOK (some 0))
    exact ⟨_, (orbitStop_runs h hm hz hstop).trans (congrArg _ ((if_neg (by simp [hrun])).trans (if_pos (by simp [hahead])))),
      congrArg Orb.active hall.orb, congrArg Orb.shadow hall.orb, congrArg Orb.base hall.orb, congrArg Orb.start hall.orb,
      (congrArg Orb.reqs hall.orb).trans (dequeue_reqs s _), (completed_done _ _ _ _).answered,
      memSame_of_mem (hall.mem.trans (schedFrame_listReturned s).mem)⟩
  · have hahead : ¬ (s.orbitAhead || s.orb.start.isSome) = true := by simp [orbitAhead_of_empty hact, hst]
    refine ⟨_, (orbitStop_runs h hm hz hstop).trans (congrArg _ ?_), completed_done s d _ none, onlyHpt_done s d _ none⟩
    rw [orbitRunning_of_empty hact, if_neg (by decide), if_neg hahead]
  · have hfin := onlyHpt_finish ({ s.reach f with orb := { s.orb with start := none } } : State) d stOK
      (some ((s.orb.base.bind fun b => (orbitSpot s.orb.active b f).map (·.1)).getD 0)) (ticksOf f) 0
    refine ⟨_, orbitListStart_completes hst hat hidle hd, hfin.now, congrArg Orb.start hfin.orb, (answered_finish _ _ _ _ _ _).anyResult,
      memSame_of_mem hfin.mem⟩
  · have hasked := enqueue_reqs (s.reach (e - 40)) ((s.reach (e - 40)).entryReq s.orb.active i e x.plan false)
    exact ⟨_, _, orbitEntryPrep_asks hnext hedge hx hhold hon hreqs, rfl, hasked.mem_iff.mpr List.mem_cons_self, rfl, rfl, rfl, rfl, rfl,
      hasked.length_eq, rfl, rfl⟩
  · obtain ⟨hframe, hregs⟩ := cycleDone_frame (s.reach e) (s.orb.base.getD 0) e
    refine ⟨_, orbitEntryStart_entry hnext hedge, ?_, ?_, fun hc hb => rd_cycleDone (s := s.reach e) hc hb, ?_, hregs⟩
    all_goals
      dsimp only
      rw [hframe]
      rfl
  · have hfin := onlyHpt_finish (s.listSwapped e) d stOK (some (orbitLen s.orb.shadow)) (ticksOf e) 0
    refine ⟨_, orbitSwap_swaps hnext hswap hedge hd, hfin.now, congrArg Orb.active hfin.orb, congrArg Orb.shadow hfin.orb,
      congrArg Orb.base hfin.orb, congrArg Orb.swap hfin.orb, (hfin.rd (by decide) _ _ _).trans (rd_listSwapped s e),
      answered_finish _ _ _ _ _ _, memSame_of_mem hfin.mem⟩
  · obtain ⟨hnow, horb, -, hmem⟩ := lastCycle_keeps s e
    have hfin := onlyHpt_finish (s.lastCycle e).listEnded d stOK (some ((s.lastCycle e).rd ORB_ORBIT_CYCLES.COUNT)) (ticksOf e) 0
    have hans := answered_finish (s.lastCycle e).listEnded d stOK (some ((s.lastCycle e).rd ORB_ORBIT_CYCLES.COUNT)) (ticksOf e) 0
    have hcount := hfin.rd (f := ORB_ORBIT_CYCLES.COUNT) (by decide) 0 0 0
    refine ⟨_, orbitStopEffect_stops hnext hedge hp hd hst hswap hreqs, hfin.now.trans hnow, congrArg Orb.active hfin.orb,
      congrArg Orb.base hfin.orb, congrArg Orb.stop hfin.orb, (congrArg Orb.reqs hfin.orb :).trans (congrArg Orb.reqs horb :), ?_,
      memSame_of_mem (hfin.mem.trans hmem)⟩
    rw [show State.rd (State.occur _ 486) ORB_ORBIT_CYCLES.COUNT = _ from hcount]
    exact hans.congr rfl

end

section
/-! SUPPORT. Fields of the tiles' registers clear of each other: those whose places interleave, tile by tile or channel by channel,
differ in their offsets within a tile or within a channel's 32 bytes. -/
namespace Sys2Proof

/-- The offset of a field's first place within a tile's registers, in bits. -/
def Fld.tileBit (f : Fld) : Nat := f.bit0 % 0x1000000

/-- How far the field's last place within a tile lies behind its first, in bits. -/
def Fld.tileSpread (f : Fld) : Nat := 8 * (f.s2 * (f.n2 - 1) + f.s3 * (f.n3 - 1))

/-- The field stands in the registers of each tile, at the tiles' stride. -/
def Fld.byTile (f : Fld) : Bool :=
  decide (0 < f.n2) && decide (0 < f.n3) && f.s1 * 8 % 0x1000000 == 0 && decide (f.tileBit + f.tileSpread < 0x1000000)

/-- Two fields share no bit address: they are apart, or their places within a tile, or in the 32 bytes of a channel's registers,
differ. -/
def Fld.clearOf (f g : Fld) : Bool :=
  f.apart g || f.steps 256 && g.steps 256 && f.bit0 % 256 != g.bit0 % 256 ||
    f.byTile && g.byTile && (decide (f.tileBit + f.tileSpread < g.tileBit) || decide (g.tileBit + g.tileSpread < f.tileBit))

theorem Fld.key_byTile {f : Fld} (h : f.byTile = true) (i j k : Nat) :
    f.tileBit ≤ f.key i j k % 0x1000000 ∧ f.key i j k % 0x1000000 ≤ f.tileBit + f.tileSpread := by
  simp only [Fld.byTile, Bool.and_eq_true, decide_eq_true_eq, beq_iff_eq] at h
  obtain ⟨⟨⟨h2, h3⟩, hstep⟩, hlt⟩ := h
  obtain ⟨a, ha⟩ := Nat.dvd_of_mod_eq_zero hstep
  have hj := Nat.mul_le_mul_left f.s2 (Nat.le_sub_one_of_lt (Nat.mod_lt j h2))
  have hk := Nat.mul_le_mul_left f.s3 (Nat.le_sub_one_of_lt (Nat.mod_lt k h3))
  have hkey : f.key i j k = f.bit0 + 8 * (f.s2 * (j % f.n2) + f.s3 * (k % f.n3)) + 0x1000000 * (a * (i % f.n1)) := by
    simp only [Fld.key, Fld.bit0]
    linear_combination (i % f.n1) * ha
  rw [hkey, Nat.add_mul_mod_self_left]
  simp only [Fld.tileBit, Fld.tileSpread] at *
  omega

/-- Fields clear of each other have no key in common. -/
theorem Fld.key_ne_of_clearOf {f g : Fld} (h : f.clearOf g = true) (i j k a b c : Nat) : f.key i j k ≠ g.key a b c := by
  intro e
  simp only [Fld.clearOf, Bool.or_eq_true, Bool.and_eq_true, bne_iff_ne, decide_eq_true_eq] at h
  rcases h with (h | ⟨⟨hf, hg⟩, hne⟩) | ⟨⟨hf, hg⟩, hdis⟩
  · exact Fld.key_ne h i j k a b c e
  · rw [← Fld.key_residue hf i j k, ← Fld.key_residue hg a b c, e] at hne
    exact hne rfl
  · have h1 := Fld.key_byTile hf i j k
    have h2 := Fld.key_byTile hg a b c
    rw [e] at h1
    omega

/-- The field stands in a channel's 32 bytes. -/
def Fld.byChannel (f : Fld) : Bool := f.s2 == 0x20 && f.n2 == 2048

/-- Two channels of a tile have keys of their own. -/
theorem Fld.key_channel_ne {f : Fld} (h : f.byChannel = true) {c ch : Nat} (htile : c / 2048 = ch / 2048) (hne : c ≠ ch) :
    f.key (c / 2048) (c % 2048) 0 ≠ f.key (ch / 2048) (ch % 2048) 0 := by
  simp only [Fld.byChannel, Bool.and_eq_true, beq_iff_eq] at h
  rw [Fld.key, Fld.key, h.1, h.2, htile]
  omega

end Sys2Proof
end

section
/-! SUPPORT. What writes at the tiles leave: register fields clear of those written, and the fields of other channels. -/
namespace Sys2Proof.Machine

/-- The register fields of a list read the same in `t` as in `s`. -/
def SameOf (l : List Fld) (s t : State) : Prop := ∀ f ∈ l, ∀ i j k, t.rd f i j k = s.rd f i j k

/-- Every register field clear of those of a list reads the same in `t` as in `s`. -/
def SameBut (l : List Fld) (s t : State) : Prop := ∀ f, (l.all fun g => f.clearOf g) = true → ∀ i j k, t.rd f i j k = s.rd f i j k

section
variable {l m : List Fld} {s t u : State} {f : Fld}

/-- A write of one field leaves a field clear of it. -/
theorem rd_wr_clear (s : State) {f g : Fld} (h : g.clearOf f = true) (v i j k a b c : Nat) :
    (s.wr f v i j k).rd g a b c = s.rd g a b c := rd_wr_other s v (Fld.key_ne_of_clearOf h a b c i j k)

theorem sameBut_refl (l : List Fld) (s : State) : SameBut l s s := fun _ _ _ _ _ => rfl

theorem sameBut_of_regs (l : List Fld) (h : t.regs = s.regs) : SameBut l s t := fun f _ => rd_congr h f

theorem SameBut.trans (h : SameBut l s t) (g : SameBut l t u) : SameBut l s u :=
  fun f hf i j k => (g f hf i j k).trans (h f hf i j k)

/-- A listed field may be written. -/
theorem SameBut.wr (h : SameBut l s t) (hf : f ∈ l) (v i j k : Nat) : SameBut l s (t.wr f v i j k) :=
  h.trans fun _ hg _ _ _ => rd_wr_clear t (List.all_eq_true.mp hg f hf) _ _ _ _ _ _ _

theorem SameBut.chWr (h : SameBut l s t) (hf : f ∈ l) (v ch : Nat) : SameBut l s (t.chWr f v ch) := h.wr hf v _ _ _

theorem SameBut.on (h : SameBut l s t) (hf : (l.all fun g => f.clearOf g) = true) (i j k : Nat) : t.on f i j k = s.on f i j k :=
  on_of_rd (h f hf i j k)

theorem SameBut.chRd (h : SameBut l s t) (hf : (l.all fun g => f.clearOf g) = true) (ch : Nat) : t.chRd f ch = s.chRd f ch :=
  h f hf _ _ _

theorem SameBut.chOn (h : SameBut l s t) (hf : (l.all fun g => f.clearOf g) = true) (ch : Nat) : t.chOn f ch = s.chOn f ch :=
  h.on hf _ _ _

theorem SameBut.sameOf (h : SameBut l s t) (hm : (m.all fun f => l.all fun g => f.clearOf g) = true) : SameOf m s t :=
  fun f hf => h f (List.all_eq_true.mp hm f hf)

/-- A field that is written with the value it has leaves every register. -/
theorem nget_wr_self {v i j k : Nat} (h : s.rd f i j k = v % 2 ^ f.w) (n : Nat) : nget (s.wr f v i j k).regs n = nget s.regs n := by
  rw [State.wr, nget_nset]
  split
  · next hn => rw [hn, ← h, State.rd, Nat.xor_assoc, Nat.xor_self, Nat.xor_zero]
  · rfl

/-- A write for one channel leaves the field of another channel of its tile. -/
theorem chRd_chWr_other (s : State) (h : f.byChannel = true) (v : Nat) {c ch : Nat} (htile : c / 2048 = ch / 2048) (hne : c ≠ ch) :
    (s.chWr f v c).chRd f ch = s.chRd f ch := rd_wr_other s v (Fld.key_channel_ne h htile.symm hne.symm)

end

end Sys2Proof.Machine
end

section
/-! SUPPORT. The applied codes of a tile (R142): what forming them changes, and the code that each channel takes. -/
namespace Sys2Proof.Machine

/-- The register fields that a tile writes as it forms its applied codes. -/
def formFlds : List Fld := [DRV_SPARE.REASON, DRV_SPARE.POSITION, DRV_CH_STATE.STATE, MON_IN_STATUS.DARK_ARMED, DRV_CH_LIVE.APPLIED,
  DRV_CH_STATE.CLAMPED, DRV_CH_STATE.BLOCKED, DRV_CH_STATE.FOLDED, DRV_CNT_CLAMP.COUNT]

/-- The register fields that decide a channel's applied code, with those of the gate override. -/
def codeFlds : List Fld := [DRV_CH_GUARDW.CAP, DRV_CH_GUARDW.BLOCK_CODE, DRV_CH_STATE.MODE, DRV_CH_LIVE.LIVE, DRV_FOLD_STATUS.FACTOR,
  DRV_CH_DITHER.DMODE, DRV_CH_DITHER.AMP, DRV_CH_DITHER.TONE, DRV_CH_PHASE0.PHASE0, DRV_CH_DINC.INC, DRV_CH_GATEW.GATE,
  DRV_CH_GATEW.TRIP, DRV_CH_GATEW.DARK, DRV_CH_GATEW.ESC, DRV_CH_GATEW.LOSTBLK, DRV_CH_GATEW.ORPH, DRV_CH_GATEW.DKHOLD,
  DRV_STATUS.ORPHAN, SAF_STATUS.GLOBAL_ECLIPSE, SAF_STATUS.SAFE_N_REQ, SAF_CAUSE.BITS]

/-- Nothing but what forming applied codes touches differs between `s` and `t`. -/
structure FormFrame (s t : State) : Prop where
  frame : t = { s with
    regs := t.regs
    mon := t.mon
    cal := t.cal
    drv := { s.drv with acc := t.drv.acc, formed := t.drv.formed, changedAt := t.drv.changedAt, pads := t.drv.pads,
                        backAt := t.drv.backAt } }
  regs : SameBut formFlds s t

section
variable {s t u : State} {ch c tile : Nat}

theorem formFrame_refl (s : State) : FormFrame s s := ⟨rfl, sameBut_refl _ s⟩

theorem FormFrame.trans (h : FormFrame s t) (g : FormFrame t u) : FormFrame s u := by
  refine ⟨?_, h.regs.trans g.regs⟩
  have h1 := g.frame
  rw [h.frame] at h1
  exact h1

theorem FormFrame.ite {p : Prop} [Decidable p] {a b : State} (ha : FormFrame s a) (hb : FormFrame s b) :
    FormFrame s (if p then a else b) := by split <;> assumption

theorem FormFrame.wr {f : Fld} (h : FormFrame s t) (hf : f ∈ formFlds) (v i j k : Nat) : FormFrame s (t.wr f v i j k) :=
  h.trans ⟨rfl, (sameBut_refl _ t).wr hf v i j k⟩

theorem FormFrame.chWr {f : Fld} (h : FormFrame s t) (hf : f ∈ formFlds) (v ch : Nat) : FormFrame s (t.chWr f v ch) := h.wr hf _ _ _ _

theorem FormFrame.setMon (h : FormFrame s t) (m : Mon) : FormFrame s { t with mon := m } :=
  h.trans ⟨rfl, sameBut_of_regs _ rfl⟩

theorem FormFrame.setCal (h : FormFrame s t) (x : Cal) : FormFrame s { t with cal := x } :=
  h.trans ⟨rfl, sameBut_of_regs _ rfl⟩

/-- What forming keeps at the tiles may be set. -/
theorem FormFrame.setDrv (h : FormFrame s t) (acc formed changedAt pads backAt : List (Nat × Nat)) : FormFrame s
    { t with drv := { t.drv with acc := acc, formed := formed, changedAt := changedAt, pads := pads, backAt := backAt } } :=
  h.trans ⟨rfl, sameBut_of_regs _ rfl⟩

theorem FormFrame.now (h : FormFrame s t) : t.now = s.now := by rw [h.frame]
theorem FormFrame.mem (h : FormFrame s t) : t.mem = s.mem := by rw [h.frame]
theorem FormFrame.saf (h : FormFrame s t) : t.saf = s.saf := by rw [h.frame]
theorem FormFrame.lastValid (h : FormFrame s t) : t.drv.lastValid = s.drv.lastValid := by rw [h.frame]
theorem FormFrame.down (h : FormFrame s t) : t.drv.down = s.drv.down := by rw [h.frame]
theorem FormFrame.queue (h : FormFrame s t) : t.drv.queue = s.drv.queue := by rw [h.frame]

theorem FormFrame.codeFlds (h : FormFrame s t) : SameOf codeFlds s t := h.regs.sameOf (by decide)

/-! #### What an applied code rests on -/

/-- The gate word, the tile's state and the faults decide the gate override (R159). -/
theorem blocked_congr (h : SameOf codeFlds s t) (hsaf : t.saf = s.saf) (ch : Nat) : t.blocked ch = s.blocked ch := by
  simp only [SameOf, codeFlds, List.forall_mem_cons] at h
  simp only [State.blocked, State.heldBlock, State.chOn, State.chRd, State.on, State.eclipse, State.lostCmd, State.cause, State.srcBit,
    State.tileLost, hsaf, h]

/-- With them, the channel's code, its dither with its phase, and its tile's factor decide its applied code (R142). -/
theorem appliedOf_congr (h : SameOf codeFlds s t) (hsaf : t.saf = s.saf) (h0 : nget t.drv.acc (2 * ch) = nget s.drv.acc (2 * ch))
    (h1 : nget t.drv.acc (2 * ch + 1) = nget s.drv.acc (2 * ch + 1)) (f : Nat) : t.appliedOf ch f = s.appliedOf ch f := by
  have hblocked := blocked_congr h hsaf ch
  simp only [SameOf, codeFlds, List.forall_mem_cons] at h
  simp only [State.appliedOf, State.phaseAt, State.live, State.chOn, State.chRd, hblocked, h0, h1, h]
  rfl

/-- The tables decide which channels a tile has. -/
theorem tileChans_congr (h : t.mem = s.mem) (tile : Nat) : t.tileChans tile = s.tileChans tile := by
  have helem (e : Nat) : t.elem e = s.elem e := by rw [State.elem, State.elem, load_of_mem h]
  simp only [State.tileChans, State.validElems, State.listed, h, helem]

theorem tile_of_mem_tileChans (h : ch ∈ s.tileChans tile) : ch / 2048 = tile := beq_iff_eq.mp (List.mem_filter.mp h).2

theorem mem_formChans_of_mem_tileChans (h : ch ∈ s.tileChans tile) : ch ∈ s.formChans tile :=
  List.mem_dedup.mpr (List.mem_append_left _ h)

theorem tile_of_mem_formChans (h : ch ∈ s.formChans tile) : ch / 2048 = tile := by
  rcases List.mem_append.mp (List.mem_dedup.mp h) with h | h
  · exact tile_of_mem_tileChans h
  · obtain ⟨x, -, hx⟩ := List.mem_filterMap.mp (List.mem_dedup.mp h)
    dsimp only at hx
    split at hx
    · have := Option.some.inj hx
      omega
    · cases hx

/-! #### One channel's code -/

/-- One channel of a tile that forms its codes: its guard is tracked, and its code formed. -/
def State.formStep (s : State) (ch : Nat) : State := (s.trackGuard ch).formOne ch

theorem FormFrame.trackGuard (h : FormFrame s t) (ch : Nat) : FormFrame s (t.trackGuard ch) := by
  unfold State.trackGuard
  exact FormFrame.ite h (FormFrame.ite (FormFrame.ite (h.setMon _) h)
    (FormFrame.ite (h.setMon _) ((h.setMon _).wr (by simp [formFlds]) _ _ _ _)))

theorem trackGuard_drv (s : State) (ch : Nat) : (s.trackGuard ch).drv = s.drv := by
  unfold State.trackGuard
  dsimp only
  split_ifs <;> rfl

/-- The accumulator keeps its phase, or takes that of the frame; no other channel's does. -/
theorem freezePhase_eq (s : State) (ch : Nat) : ∃ acc, s.freezePhase ch = { s with drv := { s.drv with acc := acc } } ∧
    ∀ k, k / 2 ≠ ch → nget acc k = nget s.drv.acc k := by
  unfold State.freezePhase
  split
  · exact ⟨s.drv.acc, rfl, fun _ _ => rfl⟩
  · exact ⟨_, rfl, fun k hk => (nget_nset_other _ _ (by omega)).trans (nget_nset_other _ _ (by omega))⟩

/-- Forming a code writes four fields of the channel, and sets what its NCO, its output check and its pad keep. -/
theorem formOne_eq (s : State) (ch : Nat) : ∃ acc changedAt pads folded, s.formOne ch =
    { ((((s.chWr DRV_CH_LIVE.APPLIED (s.appliedOf ch s.now).1 ch).chWr DRV_CH_STATE.CLAMPED (b2n (s.appliedOf ch s.now).2) ch).chWr
        DRV_CH_STATE.BLOCKED (b2n (s.blocked ch)) ch).chWr DRV_CH_STATE.FOLDED folded ch) with
      drv := { s.drv with acc := acc, changedAt := changedAt, pads := pads } } ∧
    ∀ k, k / 2 ≠ ch → nget acc k = nget s.drv.acc k := by
  obtain ⟨acc, hfreeze, hacc⟩ := freezePhase_eq s ch
  unfold State.formOne
  rw [hfreeze]
  dsimp only
  split_ifs
  · exact ⟨s.drv.acc, _, _, _, rfl, fun _ _ => rfl⟩
  · exact ⟨acc, _, _, _, rfl, hacc⟩
  · exact ⟨s.drv.acc, _, _, _, rfl, fun _ _ => rfl⟩
  · exact ⟨acc, _, _, _, rfl, hacc⟩

theorem FormFrame.formStep (h : FormFrame s t) (ch : Nat) : FormFrame s (t.formStep ch) := by
  obtain ⟨acc, changedAt, pads, folded, heq, -⟩ := formOne_eq (t.trackGuard ch) ch
  rw [State.formStep, heq]
  exact ((((((h.trackGuard ch).chWr (by simp [formFlds]) _ _).chWr (by simp [formFlds]) _ _).chWr (by simp [formFlds]) _ _).chWr
    (by simp [formFlds]) _ _).setDrv acc _ changedAt pads _)

/-- The code that a channel has just formed, and whether the gate override acts on it. -/
theorem formStep_code (s : State) (ch : Nat) : (s.formStep ch).chRd DRV_CH_LIVE.APPLIED ch = (s.appliedOf ch s.now).1 % 2 ^ 16 ∧
    (s.formStep ch).chRd DRV_CH_STATE.BLOCKED ch = b2n (s.blocked ch) := by
  have hframe := (formFrame_refl s).trackGuard ch
  have hdrv := trackGuard_drv s ch
  have hcode := appliedOf_congr (ch := ch) hframe.codeFlds hframe.saf (by rw [hdrv]) (by rw [hdrv])
  obtain ⟨acc, changedAt, pads, folded, heq, -⟩ := formOne_eq (s.trackGuard ch) ch
  rw [State.formStep, heq, hframe.now, hcode, blocked_congr hframe.codeFlds hframe.saf]
  constructor
  · refine (rd_wr_apart _ (by decide) _ _ _ _ _ _ _).trans ((rd_wr_apart _ (by decide) _ _ _ _ _ _ _).trans
      ((rd_wr_apart _ (by decide) _ _ _ _ _ _ _).trans (rd_wr_same _ _ _ _ _ _)))
  · refine (rd_wr_apart _ (by decide) _ _ _ _ _ _ _).trans ((rd_wr_same _ _ _ _ _ _).trans ?_)
    cases s.blocked ch <;> rfl

/-! #### The other channels of the tile -/

/-- Codes are formed between `s` and `t`, but not that of the channel `ch`. -/
structure CodeKept (ch : Nat) (s t : State) : Prop extends FormFrame s t where
  acc : ∀ k, k / 2 = ch → nget t.drv.acc k = nget s.drv.acc k
  applied : t.chRd DRV_CH_LIVE.APPLIED ch = s.chRd DRV_CH_LIVE.APPLIED ch
  blocked : t.chRd DRV_CH_STATE.BLOCKED ch = s.chRd DRV_CH_STATE.BLOCKED ch

theorem codeKept_refl (ch : Nat) (s : State) : CodeKept ch s s := ⟨formFrame_refl s, fun _ _ => rfl, rfl, rfl⟩

theorem CodeKept.trans (h : CodeKept ch s t) (g : CodeKept ch t u) : CodeKept ch s u :=
  ⟨h.toFormFrame.trans g.toFormFrame, fun k hk => (g.acc k hk).trans (h.acc k hk), g.applied.trans h.applied,
    g.blocked.trans h.blocked⟩

theorem CodeKept.appliedOf (h : CodeKept ch s t) (f : Nat) : t.appliedOf ch f = s.appliedOf ch f :=
  appliedOf_congr h.codeFlds h.saf (h.acc _ (by omega)) (h.acc _ (by omega)) f

/-- A channel's code is its own. -/
theorem codeKept_formStep (s : State) (htile : c / 2048 = ch / 2048) (hne : c ≠ ch) : CodeKept ch s (s.formStep c) := by
  have htrack {f : Fld} (hf : f ∈ [DRV_CH_LIVE.APPLIED, DRV_CH_STATE.BLOCKED]) : (s.trackGuard c).chRd f ch = s.chRd f ch := by
    unfold State.trackGuard
    dsimp only
    have hapart : f.apart MON_IN_STATUS.DARK_ARMED = true := by revert f; decide
    split_ifs
    · rfl
    · rfl
    · rfl
    · rfl
    · exact rd_wr_apart _ hapart _ _ _ _ _ _ _
  obtain ⟨acc, changedAt, pads, folded, heq, hacc⟩ := formOne_eq (s.trackGuard c) c
  have hother {f : Fld} (hf : f ∈ [DRV_CH_LIVE.APPLIED, DRV_CH_STATE.BLOCKED]) : (s.formStep c).chRd f ch = s.chRd f ch := by
    rw [State.formStep, heq, ← htrack hf]
    have step {g : Fld} (u : State) (hg : f.clearOf g = true ∨ f = g ∧ f.byChannel = true) (v : Nat) :
        (u.chWr g v c).chRd f ch = u.chRd f ch := by
      rcases hg with hg | ⟨rfl, hb⟩
      · exact rd_wr_clear _ hg _ _ _ _ _ _ _
      · exact chRd_chWr_other u hb v htile hne
    have hflds : ∀ f ∈ [DRV_CH_LIVE.APPLIED, DRV_CH_STATE.BLOCKED], ∀ g ∈ [DRV_CH_LIVE.APPLIED, DRV_CH_STATE.CLAMPED,
      DRV_CH_STATE.BLOCKED, DRV_CH_STATE.FOLDED], f.clearOf g = true ∨ f = g ∧ f.byChannel = true := by decide
    have hf' := hflds f hf
    simp only [List.forall_mem_cons] at hf'
    obtain ⟨ha, hc, hb, hd, -⟩ := hf'
    exact (step _ hd _).trans ((step _ hb _).trans ((step _ hc _).trans (step _ ha _)))
  refine ⟨(formFrame_refl s).formStep c, fun k hk => ?_, hother (by simp), hother (by simp)⟩
  rw [State.formStep, heq, ← trackGuard_drv s c]
  exact hacc k (by omega)

/-- Of the channels of a tile that form their codes, each takes the code that the state before decides. -/
theorem formSteps_code {l : List Nat} (hnodup : l.Nodup) (htile : ∀ c ∈ l, c / 2048 = ch / 2048) (hch : ch ∈ l) (s : State) :
    (l.foldl State.formStep s).chRd DRV_CH_LIVE.APPLIED ch = (s.appliedOf ch s.now).1 % 2 ^ 16 ∧
      (l.foldl State.formStep s).chRd DRV_CH_STATE.BLOCKED ch = b2n (s.blocked ch) := by
  obtain ⟨l1, l2, rfl⟩ := List.append_of_mem hch
  have hfold (x : List Nat) (hx : ∀ c ∈ x, c / 2048 = ch / 2048 ∧ c ≠ ch) (u : State) : CodeKept ch u (x.foldl State.formStep u) :=
    List.foldlRecOn x _ (codeKept_refl ch u) fun v hv c hc => hv.trans (codeKept_formStep v (hx c hc).1 (hx c hc).2)
  have hne : ch ∉ l1 ∧ ch ∉ l2 := by
    have := List.nodup_middle.mp hnodup
    exact not_or.mp fun h => (List.nodup_cons.mp this).1 (List.mem_append.mpr h)
  have h1 := hfold l1 (fun c hc => ⟨htile c (by simp [hc]), fun e => hne.1 (e ▸ hc)⟩) s
  rw [List.foldl_append, List.foldl_cons]
  have h2 := hfold l2 (fun c hc => ⟨htile c (by simp [hc]), fun e => hne.2 (e ▸ hc)⟩) ((l1.foldl State.formStep s).formStep ch)
  have hcode := formStep_code (l1.foldl State.formStep s) ch
  rw [h1.now, h1.appliedOf, blocked_congr h1.codeFlds h1.saf] at hcode
  exact ⟨h2.applied.trans hcode.1, h2.blocked.trans hcode.2⟩

/-! #### The tile's codes -/

theorem FormFrame.setSpare (h : FormFrame s t) (ch reason pos : Nat) : FormFrame s (t.setSpare ch reason pos) := by
  have h1 := (h.wr (f := DRV_SPARE.REASON) (by simp [formFlds]) reason (ch / 2048) (ch % 2048 / 32) 0).wr (f := DRV_SPARE.POSITION)
    (by simp [formFlds]) pos (ch / 2048) (ch % 2048 / 32) 0
  exact FormFrame.ite (h1.setDrv _ _ _ _ _) h1

theorem FormFrame.wake (h : FormFrame s t) (ch : Nat) : FormFrame s (t.wake ch) := by
  rw [wake_eq]
  exact (h.chWr (by simp [formFlds]) _ _).setCal _

theorem setSpare_drv (s : State) (ch reason pos : Nat) : ∃ pads, (s.setSpare ch reason pos).drv = { s.drv with pads := pads } := by
  unfold State.setSpare
  dsimp only
  split
  · exact ⟨_, rfl⟩
  · exact ⟨_, rfl⟩

theorem wake_drv (s : State) (ch : Nat) : (s.wake ch).drv = s.drv := by rw [wake_eq]; rfl

/-- The end of the hand-backs changes no code but through what forming writes, and no phase. -/
theorem endBacks_frame (s : State) (tile : Nat) : FormFrame s (s.endBacks tile) ∧ (s.endBacks tile).drv.acc = s.drv.acc := by
  refine List.foldlRecOn (motive := fun t => FormFrame s t ∧ t.drv.acc = s.drv.acc) _ _ ⟨formFrame_refl s, rfl⟩
    fun t ⟨hframe, hacc⟩ c _ => ?_
  have h1 := (hframe.setSpare c.1 0 0).setDrv (t.setSpare c.1 0 0).drv.acc (t.setSpare c.1 0 0).drv.formed
    (t.setSpare c.1 0 0).drv.changedAt (t.setSpare c.1 0 0).drv.pads (nset (t.setSpare c.1 0 0).drv.backAt c.1 0)
  have h2 : (t.setSpare c.1 0 0).drv.acc = s.drv.acc := by
    obtain ⟨pads, hdrv⟩ := setSpare_drv t c.1 0 0
    rw [hdrv]
    exact hacc
  dsimp only
  split
  · exact ⟨h1.wake _, (congrArg Drv.acc (wake_drv _ _)).trans h2⟩
  · exact ⟨h1, h2⟩

/-- Each channel of a tile forms its code. -/
def State.formCodes (s : State) (tile : Nat) : State := (s.formChans tile).foldl State.formStep s

/-- A frame whose codes are formed is noted, and counted where a code was clamped. -/
def State.endForm (s : State) (tile f : Nat) (clamped : Bool) : State :=
  let t := if clamped then s.bump DRV_CNT_CLAMP.COUNT 1 tile else s
  { t with drv := { t.drv with formed := nset t.drv.formed tile f } }

/-- A tile that forms its codes ends hand-backs, and forms each channel's code. -/
theorem formTile_eq (h : nget s.drv.formed tile ≠ s.now + 1) : ∃ clamped,
    s.formTile tile = ((s.endBacks tile).formCodes tile).endForm tile ((s.endBacks tile).now + 1) clamped := by
  rw [State.formTile, if_neg h]
  exact ⟨_, rfl⟩

theorem rd_endForm {f : Fld} (hf : f.clearOf DRV_CNT_CLAMP.COUNT = true) (x : Nat) (clamped : Bool) (i j k : Nat) :
    (s.endForm tile x clamped).rd f i j k = s.rd f i j k := by
  cases clamped
  · rfl
  · exact rd_wr_clear s hf _ _ _ _ i j k

theorem formed_endForm (s : State) (tile x : Nat) (clamped : Bool) : nget (s.endForm tile x clamped).drv.formed tile = x := by
  rw [State.endForm]
  exact nget_nset_same _ _ _

theorem FormFrame.endForm (h : FormFrame s t) (tile x : Nat) (clamped : Bool) : FormFrame s (t.endForm tile x clamped) :=
  (FormFrame.ite (h.wr (f := DRV_CNT_CLAMP.COUNT) (by simp [formFlds]) _ _ _ _) h).setDrv _ _ _ _ _

theorem formFrame_formTile (s : State) (tile : Nat) : FormFrame s (s.formTile tile) := by
  by_cases h : nget s.drv.formed tile = s.now + 1
  · rw [State.formTile, if_pos h]
    exact formFrame_refl s
  · obtain ⟨clamped, heq⟩ := formTile_eq h
    rw [heq]
    refine FormFrame.endForm ?_ _ _ _
    exact List.foldlRecOn _ _ (endBacks_frame s tile).1 fun _ hu c _ => hu.formStep c

/-- A tile that has not formed its codes in the frame forms that of each of its channels (R142). -/
theorem formTile_code (h : nget s.drv.formed tile ≠ s.now + 1) (hch : ch ∈ s.tileChans tile) :
    (s.formTile tile).chRd DRV_CH_LIVE.APPLIED ch = (s.appliedOf ch s.now).1 % 2 ^ 16 ∧
      (s.formTile tile).chRd DRV_CH_STATE.BLOCKED ch = b2n (s.blocked ch) ∧ nget (s.formTile tile).drv.formed tile = s.now + 1 := by
  obtain ⟨clamped, heq⟩ := formTile_eq h
  obtain ⟨hframe, hacc⟩ := endBacks_frame s tile
  rw [← tileChans_congr hframe.mem] at hch
  have hsteps := formSteps_code (List.nodup_dedup _)
    (fun c hc => (tile_of_mem_formChans hc).trans (tile_of_mem_tileChans hch).symm) (mem_formChans_of_mem_tileChans hch) (s.endBacks tile)
  rw [hframe.now, appliedOf_congr hframe.codeFlds hframe.saf (by rw [hacc]) (by rw [hacc]), blocked_congr hframe.codeFlds hframe.saf]
    at hsteps
  rw [heq, hframe.now]
  exact ⟨(rd_endForm (by decide) _ _ _ _ _).trans hsteps.1, (rd_endForm (by decide) _ _ _ _ _).trans hsteps.2,
    formed_endForm _ _ _ _⟩

end

end Sys2Proof.Machine
end

section
/-! The clauses of TileLinksAndDither on links, the update queue and ORPHAN (R144 to R146, R148). -/
namespace Sys2Proof.Machine

section
variable {s t : State} {tile : Fin 8} {die : Fin 2} {w : CodeWrite}

theorem regsBut_of_regs (l : List Nat) (h : t.regs = s.regs) : RegsBut l s t := fun _ _ => by rw [h]

theorem RegsBut.wr {l : List Nat} {f : Fld} {v i j k : Nat} (h : RegsBut l s t) (hk : f.key i j k ∈ l) : RegsBut l s (t.wr f v i j k) :=
  fun n hn => ((onlyRegs_wr t f v i j k hk).2 n hn).trans (h n hn)

theorem FormFrame.reformTile (h : FormFrame s t) (tile : Nat) : FormFrame s (t.reformTile tile) :=
  (h.setDrv _ _ _ _ _).trans (formFrame_formTile _ tile)

/-- Codes formed after nothing but time and registers have changed. -/
theorem FormFrame.of_clock {v : State} {n : Nat} {r : List (Nat × Nat)} (h : FormFrame v t) (hv : v = { s with now := n, regs := r }) :
    t = { s with now := t.now, regs := t.regs, drv := t.drv, mon := t.mon, cal := t.cal } := by
  have hframe := h.frame
  rw [hv] at hframe
  rw [h.now, hv, congrArg State.drv hframe]
  exact hframe

/-- A tile that forms its codes anew forms that of each of its channels. -/
theorem reformTile_applied {ch : Nat} (hch : ch ∈ s.tileChans tile) :
    (s.reformTile tile).chRd DRV_CH_LIVE.APPLIED ch = (s.appliedOf ch s.now).1 % 2 ^ 16 := by
  have hnone : nget (nset s.drv.formed tile 0) tile ≠ s.now + 1 := by simp
  have hcode := (formTile_code (s := { s with drv := { s.drv with formed := nset s.drv.formed tile 0 } }) hnone hch).1
  exact hcode.trans (congrArg (fun x : Nat × Bool => x.1 % 2 ^ 16)
    (appliedOf_congr (s := s) (fun _ _ _ _ _ => rfl) rfl rfl rfl s.now))

/-! #### A frame that a link delivers (R148) -/

theorem sameBut_linkBits (s : State) (tile : Nat) : SameBut [DRV_STATUS.LINK_A, DRV_STATUS.LINK_B] s (s.linkBits tile) :=
  ((sameBut_refl _ s).wr (by simp) _ _ _ _).wr (by simp) _ _ _ _

/-- The state in which a tile has had a frame of a die, before it says that it is no orphan. -/
def State.linked (s : State) (tile die : Nat) : State :=
  ({ s with drv := { s.drv with lastValid := nset s.drv.lastValid (2 * tile + die) (s.now + 1) } } : State).linkBits tile

theorem heard_eq (s : State) (tile die : Nat) : s.heard tile die = (s.linked tile die).wr DRV_STATUS.ORPHAN 0 tile := rfl

theorem heard_frame (s : State) (tile die : Nat) : s.heard tile die = { s with
    regs := (s.heard tile die).regs
    drv := { s.drv with lastValid := nset s.drv.lastValid (2 * tile + die) (s.now + 1) } } := rfl

theorem sameBut_linked (s : State) (tile die : Nat) : SameBut [DRV_STATUS.LINK_A, DRV_STATUS.LINK_B] s (s.linked tile die) :=
  (sameBut_of_regs _ rfl).trans (sameBut_linkBits _ tile)

theorem lastValid_heard (s : State) (tile die : Nat) : nget (s.heard tile die).drv.lastValid (2 * tile + die) = s.now + 1 := by
  rw [congrArg (·.drv.lastValid) (heard_frame s tile die)]
  dsimp only
  exact nget_nset_same _ _ _

theorem sameBut_heard (s : State) (tile die : Nat) :
    SameBut [DRV_STATUS.LINK_A, DRV_STATUS.LINK_B, DRV_STATUS.ORPHAN] s (s.heard tile die) :=
  ((((sameBut_of_regs _ rfl).wr (by simp) _ _ _ _).wr (by simp) _ _ _ _).wr (by simp) _ _ _ _)

/-- A tile that was no orphan stays none, so that only what shows its links changes. -/
theorem sameBut_heard_of_not_orphan {tile : Nat} (h : s.on DRV_STATUS.ORPHAN tile = false) (die : Nat) :
    SameBut [DRV_STATUS.LINK_A, DRV_STATUS.LINK_B] s (s.heard tile die) := by
  have hlinked := sameBut_linked s tile die
  have hzero : (s.linked tile die).rd DRV_STATUS.ORPHAN tile = 0 := by
    rw [hlinked _ (by decide)]
    simpa [State.on] using h
  refine hlinked.trans fun f _ i j k => ?_
  rw [heard_eq, State.rd, State.rd, nget_wr_self hzero]

/-- TILE_LINK_RESUME (R148): the link shows, and ORPHAN clears. -/
theorem regsBut_heard (s : State) (tile die : Nat) : RegsBut [DRV_STATUS.ORPHAN.key tile 0 0, DRV_STATUS.LINK_A.key tile 0 0,
    DRV_STATUS.LINK_B.key tile 0 0] s (s.heard tile die) :=
  (((regsBut_of_regs (t := { s with drv := _ }) _ rfl).wr (by simp)).wr (by simp)).wr (by simp)

/-! #### The writes that a frame carries (R144, R145) -/

theorem takeSome_none {α : Type} {p : α → Bool} {l : List α} (h : ∀ a ∈ l, p a = false) (n : Nat) : takeSome p n l = ([], l) := by
  induction l generalizing n with
  | nil => cases n <;> rfl
  | cons a l ih =>
    cases n with
    | zero => rfl
    | succ n => rw [takeSome, if_neg (by simp [h a]), ih fun b hb => h b (List.mem_cons_of_mem _ hb)]

/-- The writes of one rank that a frame carries, and those that stay. -/
def State.carried (s : State) (tile die rank : Nat) : List CodeWrite × List CodeWrite :=
  takeSome (fun w : CodeWrite => w.ch / 2048 == tile && w.rank == rank && (w.die == die || s.rd DRV_STATUS.SRC tile == die))
    (min 128 (4096 - (s.queued tile).length)) s.drv.down

/-- Of a list of writes, those of channels in CHANGE are counted. -/
def State.discard (s : State) (l : List CodeWrite) : State :=
  l.foldl (fun t w => if s.inChange w.ch then t.override w.ch 1 else t) s

/-- Of a list of writes, those that a tile takes in the current frame. -/
def State.arriving (s : State) (l : List CodeWrite) : List CodeWrite :=
  (l.filter fun w => !s.inChange w.ch).map fun w => { w with taken := s.now + 1 }

/-- The state in which a tile has taken writes into its queue, and others still wait. -/
def State.enqueued (s : State) (taken down : List CodeWrite) (delivered : List (Nat × Nat)) : State :=
  { s with drv := { s.drv with down := down, queue := s.drv.queue ++ taken, delivered := delivered } }

theorem discard_frame (s : State) (l : List CodeWrite) : ∃ regs : List (Nat × Nat), s.discard l = { s with regs := regs } := by
  refine List.foldlRecOn (motive := fun t => ∃ regs : List (Nat × Nat), t = { s with regs := regs }) l _
    ⟨s.regs, rfl⟩ fun t ht w _ => ?_
  obtain ⟨regs, ht⟩ := ht
  split
  · exact ⟨(t.override w.ch 1).regs, by rw [ht]; rfl⟩
  · exact ⟨regs, ht⟩

/-- A link frame moves the writes that it carries into the tile's update queue, but for those of channels in CHANGE, and shows how
long the queue was. -/
theorem takeRank_eq (s : State) (tile die rank : Nat) : ∃ delivered depth, s.takeRank tile die rank =
    ((s.discard (s.carried tile die rank).1).enqueued (s.arriving (s.carried tile die rank).1) (s.carried tile die rank).2
      delivered).wr DRV_QUEUE.MAX_DEPTH depth tile := ⟨_, _, rfl⟩

theorem takeRank_frame (s : State) (tile die rank : Nat) : ∃ regs down queue delivered, s.takeRank tile die rank =
    { s with regs := regs, drv := { s.drv with down := down, queue := queue, delivered := delivered } } := by
  obtain ⟨delivered, depth, heq⟩ := takeRank_eq s tile die rank
  obtain ⟨regs, hregs⟩ := discard_frame s (s.carried tile die rank).1
  rw [heq, hregs]
  exact ⟨_, _, _, _, rfl⟩

/-- A frame carries no write of a rank that none waits with. -/
theorem takeRank_none {tile die rank : Nat} (h : ∀ w ∈ s.drv.down, w.rank ≠ rank) : ∃ delivered depth, s.takeRank tile die rank =
    (s.enqueued [] s.drv.down delivered).wr DRV_QUEUE.MAX_DEPTH depth tile := by
  have hcarried : s.carried tile die rank = ([], s.drv.down) := takeSome_none (fun w hw => by simp [h w hw]) _
  obtain ⟨delivered, depth, heq⟩ := takeRank_eq s tile die rank
  rw [hcarried] at heq
  exact ⟨delivered, depth, heq⟩

/-- A frame carries the one write that waits, if its tile is this one and follows the die. -/
theorem takeRank_one {tile die rank : Nat} (hrank : w.rank = rank) (hdown : s.drv.down = [w]) (hqueue : s.drv.queue = [])
    (htile : w.ch / 2048 = tile)
    (hsrc : s.rd DRV_STATUS.SRC tile = die) (hch : s.outState w.ch ≠ stChange) : ∃ delivered depth, s.takeRank tile die rank =
      (s.enqueued [{ w with taken := s.now + 1 }] [] delivered).wr DRV_QUEUE.MAX_DEPTH depth tile := by
  have hcarried : s.carried tile die rank = ([w], []) := by
    rw [State.carried, State.queued, hdown, hqueue]
    simp [takeSome, hrank, htile, hsrc]
  have hin : s.inChange w.ch = false := beq_eq_false_iff_ne.mpr hch
  obtain ⟨delivered, depth, heq⟩ := takeRank_eq s tile die rank
  rw [hcarried, show s.discard [w] = s from if_neg (by simp [hin]), show s.arriving [w] = [{ w with taken := s.now + 1 }] by
    simp [State.arriving, hin]] at heq
  exact ⟨delivered, depth, heq⟩

/-! #### TILE_LINK_FRAME (R142, R144, R145) -/

/-- The state in which a tile has taken what a link frame brings it. -/
def State.linkTaken (s : State) (tile die : Nat) (idle : Bool) : State :=
  let t := s.heard tile die
  if !idle && (t.follows? tile == die || t.inTwilight tile) && !t.frozen tile && !t.lostCmd tile then
    (t.takeRank tile die 3).takeRank tile die 4
  else t

/-- A link frame without a command brings its writes, and the tile forms its codes. -/
theorem exec_tileLinkFrame (s : State) (tile : Fin 8) (die : Fin 2) (idle : Bool) : ∃ open_,
    exec (.tileLinkFrame tile die ⟨idle, .none⟩) s =
      .next (((s.linkTaken tile die idle).wr DRV_STATUS.TWILIGHT open_ tile).formTile tile) := ⟨_, rfl⟩

theorem linkTaken_frame (s : State) (tile die : Nat) (idle : Bool) : ∃ regs down queue delivered, s.linkTaken tile die idle =
    { s with regs := regs, drv := { s.drv with lastValid := nset s.drv.lastValid (2 * tile + die) (s.now + 1), down := down,
                                               queue := queue, delivered := delivered } } := by
  rw [State.linkTaken]
  dsimp only
  split
  · obtain ⟨r, d, q, l, heq⟩ := takeRank_frame (s.heard tile die) tile die 3
    obtain ⟨r', d', q', l', heq'⟩ := takeRank_frame ((s.heard tile die).takeRank tile die 3) tile die 4
    rw [heq', heq, heard_frame]
    exact ⟨_, _, _, _, rfl⟩
  · rw [heard_frame]
    exact ⟨_, _, _, _, rfl⟩

/-- A link frame is noted as valid, and takes no time. -/
theorem tileLinkFrame_delivered (s : State) (tile : Fin 8) (die : Fin 2) (idle : Bool) : ∃ t,
    exec (.tileLinkFrame tile die ⟨idle, .none⟩) s = .next t ∧ nget t.drv.lastValid (2 * tile + die) = s.now + 1 ∧
      t.now = s.now ∧ MemSame s t := by
  obtain ⟨open_, heq⟩ := exec_tileLinkFrame s tile die idle
  obtain ⟨regs, down, queue, delivered, htaken⟩ := linkTaken_frame s tile die idle
  have hform := formFrame_formTile ((s.linkTaken tile die idle).wr DRV_STATUS.TWILIGHT open_ tile) tile
  refine ⟨_, heq, ?_, hform.now.trans ?_, memSame_of_mem (hform.mem.trans ?_)⟩
  · rw [hform.lastValid, wr_drv, htaken]
    dsimp only
    exact nget_nset_same _ _ _
  · rw [wr_now, htaken]
  · rw [wr_mem, htaken]

/-- An idle link frame forms the codes of a tile that is no orphan. -/
theorem tileLinkFrame_forms (die : Fin 2) {ch : Nat} (hch : ch ∈ s.tileChans tile) (hf : nget s.drv.formed tile ≠ s.now + 1)
    (ho : s.on DRV_STATUS.ORPHAN tile = false) : ∃ t, exec (.tileLinkFrame tile die ⟨true, .none⟩) s = .next t ∧
      t.chRd DRV_CH_LIVE.APPLIED ch = (s.appliedOf ch s.now).1 % 2 ^ 16 ∧
      t.chRd DRV_CH_STATE.BLOCKED ch = b2n (s.blocked ch) ∧ nget t.drv.formed tile = s.now + 1 := by
  obtain ⟨open_, heq⟩ := exec_tileLinkFrame s tile die true
  have hsame : SameOf codeFlds s ((s.heard tile die).wr DRV_STATUS.TWILIGHT open_ tile) := fun f hf i j k =>
    (rd_wr_clear _ (show f.clearOf DRV_STATUS.TWILIGHT = true by revert f; decide) _ _ _ _ _ _ _).trans
      ((sameBut_heard_of_not_orphan ho die).sameOf (by decide) f hf i j k)
  have hcode := formTile_code (s := (s.heard tile die).wr DRV_STATUS.TWILIGHT open_ tile) hf hch
  rw [appliedOf_congr (s := s) hsame rfl rfl rfl, blocked_congr (s := s) hsame rfl] at hcode
  exact ⟨_, heq, hcode⟩

theorem linkTaken_carries (hsrc : s.rd DRV_STATUS.SRC tile = die.val) (hfrozen : s.frozen tile = false)
    (hlost : s.lostCmd tile = false) (hdown : s.drv.down = [w]) (hqueue : s.drv.queue = []) (htile : w.ch / 2048 = tile.val)
    (hrank : w.rank = 3 ∨ w.rank = 4) (hch : s.outState w.ch ≠ stChange) :
    (s.linkTaken tile die false).drv.down = [] ∧ (s.linkTaken tile die false).drv.queue = [{ w with taken := s.now + 1 }] := by
  have hheard := sameBut_heard s tile die
  have hsrc1 : (s.heard tile die).rd DRV_STATUS.SRC tile = die := (hheard _ (by decide) _ _ _).trans hsrc
  have hnow1 : (s.heard tile die).now = s.now := rfl
  have hqueue1 : (s.heard tile die).drv.queue = [] := hqueue
  have hch1 : (s.heard tile die).outState w.ch ≠ stChange := by rwa [State.outState, hheard.chRd (by decide)]
  have hlost1 : (s.heard tile die).lostCmd tile = false := by
    rw [← hlost]
    exact congrArg (· || s.tileLost tile) (congrArg (bit · _) (hheard SAF_CAUSE.BITS (by decide) _ _ _))
  have htakes : (!false && ((s.heard tile die).follows? tile == die.val || (s.heard tile die).inTwilight tile) &&
      !(s.heard tile die).frozen tile && !(s.heard tile die).lostCmd tile) = true := by
    rw [hlost1, State.follows?, hsrc1, show (s.heard tile die).frozen tile = false from hfrozen]
    simp
  rw [State.linkTaken, if_pos htakes]
  rcases hrank with hrank | hrank
  · obtain ⟨l3, d3, h3⟩ := takeRank_one (s := s.heard tile die) hrank hdown hqueue htile hsrc1 hch1
    obtain ⟨l4, d4, h4⟩ := takeRank_none (s := (s.heard tile die).takeRank tile die 3) (tile := tile) (die := die) (rank := 4)
      (by rw [h3]; exact fun _ h => nomatch h)
    rw [h4, h3]
    exact ⟨rfl, by simp [State.enqueued, hqueue1, hnow1]⟩
  · obtain ⟨l3, d3, h3⟩ := takeRank_none (s := s.heard tile die) (tile := tile) (die := die) (rank := 3)
      (by rw [show (s.heard tile die).drv.down = [w] from hdown]; simp [hrank])
    have hqueue3 : ((s.heard tile die).takeRank tile die 3).drv.queue = [] := by
      rw [h3]
      simp [State.enqueued, hqueue1]
    obtain ⟨l4, d4, h4⟩ := takeRank_one (s := (s.heard tile die).takeRank tile die 3) (tile := tile) (die := die) hrank
      (by rw [h3]; exact hdown) hqueue3 htile
      (by rw [h3]; exact (rd_wr_clear _ (by decide) _ _ _ _ _ _ _).trans hsrc1)
      (by rw [h3]; exact fun h => hch1 ((rd_wr_clear _ (by decide) _ _ _ _ _ _ _).symm.trans h))
    have hnow : ((s.heard tile die).takeRank tile die 3).now = s.now := by rw [h3]; rfl
    rw [h4]
    exact ⟨rfl, by simp [State.enqueued, hqueue3, hnow]⟩

/-- A link frame of the die that the tile follows carries the one write that waits into the update queue. -/
theorem tileLinkFrame_carries (hsrc : s.rd DRV_STATUS.SRC tile = die.val) (hfrozen : s.frozen tile = false)
    (hlost : s.lostCmd tile = false) (hdown : s.drv.down = [w]) (hqueue : s.drv.queue = []) (htile : w.ch / 2048 = tile.val)
    (hrank : w.rank = 3 ∨ w.rank = 4) (hch : s.outState w.ch ≠ stChange) : ∃ t,
      exec (.tileLinkFrame tile die ⟨false, .none⟩) s = .next t ∧ t.drv.down = [] ∧
      t.drv.queue = [{ w with taken := s.now + 1 }] ∧ MemSame s t := by
  obtain ⟨open_, heq⟩ := exec_tileLinkFrame s tile die false
  obtain ⟨hd, hq⟩ := linkTaken_carries hsrc hfrozen hlost hdown hqueue htile hrank hch
  obtain ⟨regs, down, queue, delivered, htaken⟩ := linkTaken_frame s tile die false
  have hform := formFrame_formTile ((s.linkTaken tile die false).wr DRV_STATUS.TWILIGHT open_ tile) tile
  exact ⟨_, heq, hform.down.trans hd, hform.queue.trans hq, memSame_of_mem (hform.mem.trans (by rw [wr_mem, htaken]))⟩

/-! #### LIVE_UPDATE_APPLY (R145, R146) -/

/-- A queued write alone in its tile's queue leaves it at its frame, and is counted if it came late. -/
def State.unqueue (s : State) (tile : Nat) (w : CodeWrite) : State :=
  (({ s.reach w.due with drv := { s.drv with
      queue := s.drv.queue.filter fun x => !(x.ch / 2048 == tile && decide (x.due ≤ max s.now w.due)) } } : State).bump
    DRV_CNT_LATE.COUNT (b2n w.late) tile).bump DRV_CNT_OVERRIDE.COUNT 0 tile

theorem liveUpdateApply_one (hq : s.queued tile = [w]) : exec (.liveUpdateApply tile none) s =
    .next (((s.unqueue tile w).applyDue tile [w] w.ch).reformTile tile) := by
  have hdue : (((s.reach w.due).queued tile).filter fun x => decide (x.due ≤ (s.reach w.due).now)) = [w] := by
    rw [show (s.reach w.due).queued tile = [w] from hq]
    simp [State.reach]
  have hlate : ([w].filter CodeWrite.late).length = b2n w.late := by cases h : w.late <;> simp [h, b2n]
  show execLiveUpdateApply tile none s = _
  unfold execLiveUpdateApply
  split
  case h_1 hnil => simp [hq] at hnil
  case h_2 w0 l hcons =>
  obtain ⟨rfl, rfl⟩ := List.cons.inj (hq.symm.trans hcons)
  generalize hf : [].foldl (fun m (x : CodeWrite) => min m x.due) w.due = f
  obtain rfl : w.due = f := hf
  simp only [hdue, hlate]
  have hone : sortBy (fun a b => decide (a ≤ b)) ([w].map CodeWrite.due).dedup = [w.due] := rfl
  rw [hone]
  simp [State.applyFrames, State.unqueue, State.eccHit, State.reach]

/-- The one write of a channel and frame takes effect outside CHANGE and Twilight windows. -/
theorem applyDue_one {tile : Nat} (hch : s.outState w.ch ≠ stChange) (htw : s.twilit tile w = false) : s.applyDue tile [w] w.ch =
    (let t := (s.override w.ch 0).chWr DRV_CH_LIVE.LIVE w.code w.ch
     { t with drv := { t.drv with lowAt := nset t.drv.lowAt w.ch (w.due + 1) } }) := by
  have hin : s.inChange w.ch = false := beq_eq_false_iff_ne.mpr hch
  simp [State.applyDue, State.liveValue, hin, htw]

theorem liveUpdateApply_applies (hq : s.queued tile = [w]) (hch : s.outState w.ch ≠ stChange) (htw : s.twilit tile w = false) : ∃ t,
    exec (.liveUpdateApply tile none) s = .next t ∧ t.now = max s.now w.due ∧ t.live w.ch = w.code % 2 ^ 16 ∧
      (w.late = true → t.rd DRV_CNT_LATE.COUNT tile = min (s.rd DRV_CNT_LATE.COUNT tile + 1) (2 ^ DRV_CNT_LATE.COUNT.w - 1)) ∧
      t.queued tile = [] ∧ MemSame s t := by
  have hsame : SameBut [DRV_CNT_LATE.COUNT, DRV_CNT_OVERRIDE.COUNT] s (s.unqueue tile w) :=
    (((sameBut_of_regs _ rfl).wr (by simp) _ _ _ _).wr (by simp) _ _ _ _)
  have happlied := applyDue_one (s := s.unqueue tile w) (w := w) (tile := tile)
    (by rwa [State.outState, hsame.chRd (by decide)]) htw
  have heq := liveUpdateApply_one hq
  rw [happlied] at heq
  have hform := (formFrame_refl _).reformTile (s := ((s.unqueue tile w).applyDue tile [w] w.ch)) tile
  rw [happlied] at hform
  refine ⟨_, heq, hform.now, ?_, fun hlate => ?_, ?_, memSame_of_mem hform.mem⟩
  · exact (hform.regs.chRd (by decide) w.ch).trans (rd_wr_same _ _ _ _ _ _)
  · rw [hform.regs _ (by decide)]
    have hbump := rd_bump_same ({ s.reach w.due with drv := { s.drv with
      queue := s.drv.queue.filter fun x => !(x.ch / 2048 == tile && decide (x.due ≤ max s.now w.due)) } } : State)
      DRV_CNT_LATE.COUNT (b2n w.late) tile 0 0
    rw [hlate] at hbump
    refine Eq.trans ?_ hbump
    rw [← hlate]
    exact (rd_wr_clear _ (by decide) _ _ _ _ _ _ _).trans ((rd_wr_clear _ (by decide) _ _ _ _ _ _ _).trans
      (rd_wr_clear _ (by decide) _ _ _ _ _ _ _))
  · refine (congrArg (List.filter _) hform.queue).trans (List.filter_eq_nil_iff.mpr fun x hx htile => ?_)
    obtain ⟨hx, hleft⟩ := List.mem_filter.mp hx
    have hxw : x ∈ s.queued tile := List.mem_filter.mpr ⟨hx, htile⟩
    rw [hq, List.mem_singleton] at hxw
    subst hxw
    simp [htile] at hleft

/-! #### TILE_ORPHAN (R148) -/

/-- A field that is written with the value it has at some place keeps it there. -/
theorem rd_wr_keep {f : Fld} (htab : f.tab = []) {v i j k : Nat} (h : s.rd f i j k = v % 2 ^ f.w) (a b c : Nat) :
    (s.wr f v a b c).rd f i j k = v % 2 ^ f.w := by
  have hreset (x y z : Nat) : f.reset x y z = f.rst := by rw [Fld.reset, htab]
  rw [State.rd, State.wr, nget_nset, hreset, hreset]
  split
  · rw [Nat.xor_assoc, Nat.xor_self, Nat.xor_zero]
  · rw [← h, State.rd, hreset]

/-- The state of a tile that has had no valid frame for 20,000 frames. -/
def State.orphaned (s : State) (tile : Nat) : State :=
  ((s.reach (max (nget s.drv.lastValid (2 * tile)) (nget s.drv.lastValid (2 * tile + 1)) + 20000)).wr DRV_STATUS.ORPHAN 1
    tile).linkBits tile

/-- The gate words of a tile show that it is an orphan. -/
def State.orphGates (s : State) (tile : Nat) : State :=
  (s.gateChannels.filter fun ch => ch / 2048 == tile).foldl (fun t ch => t.chWr DRV_CH_GATEW.ORPH 1 ch) s

theorem exec_tileOrphan (s : State) (tile : Fin 8) :
    exec (.tileOrphan tile) s = .next (((s.orphaned tile).orphGates tile).reformTile tile) := rfl

theorem sameBut_orphaned (s : State) (tile : Nat) :
    SameBut [DRV_STATUS.ORPHAN, DRV_STATUS.LINK_A, DRV_STATUS.LINK_B] s (s.orphaned tile) :=
  (((sameBut_of_regs _ rfl).wr (by simp) _ _ _ _).wr (by simp) _ _ _ _).wr (by simp) _ _ _ _

theorem orphGates_frame (s : State) (tile : Nat) : (∃ regs : List (Nat × Nat), s.orphGates tile = { s with regs := regs }) ∧
    SameBut [DRV_CH_GATEW.ORPH] s (s.orphGates tile) := by
  refine List.foldlRecOn (motive := fun t : State => (∃ regs : List (Nat × Nat), t = { s with regs := regs }) ∧
    SameBut [DRV_CH_GATEW.ORPH] s t) _ _ ⟨⟨s.regs, rfl⟩, sameBut_refl _ s⟩ fun t ht c _ => ?_
  obtain ⟨⟨regs, hframe⟩, hsame⟩ := ht
  exact ⟨⟨(t.chWr DRV_CH_GATEW.ORPH 1 c).regs, by rw [hframe]; rfl⟩, hsame.chWr (by simp) _ _⟩

/-- The tables and the gate words decide which channels are gates. -/
theorem gateChannels_congr (hmem : t.mem = s.mem) (hgate : ∀ ch, t.chOn DRV_CH_GATEW.GATE ch = s.chOn DRV_CH_GATEW.GATE ch) :
    t.gateChannels = s.gateChannels := by
  have helem (e : Nat) : t.elem e = s.elem e := by rw [State.elem, State.elem, load_of_mem hmem]
  simp only [State.gateChannels, State.validElems, State.listed, hmem, helem, hgate]

theorem mem_tileChans_of_gate {ch tile : Nat} (h : ch ∈ s.gateChannels) (htile : ch / 2048 = tile) : ch ∈ s.tileChans tile := by
  obtain ⟨e, he, rfl⟩ := List.mem_map.mp (List.mem_filter.mp h).1
  exact List.mem_filter.mpr ⟨List.mem_map_of_mem (List.mem_filter.mp he).1, beq_iff_eq.mpr htile⟩

theorem orph_orphGates {ch tile : Nat} (h : ch ∈ s.gateChannels) (htile : ch / 2048 = tile) :
    (s.orphGates tile).chRd DRV_CH_GATEW.ORPH ch = 1 := by
  obtain ⟨l1, l2, hl⟩ := List.append_of_mem (List.mem_filter.mpr ⟨h, beq_iff_eq.mpr htile⟩ :
    ch ∈ s.gateChannels.filter fun ch => ch / 2048 == tile)
  rw [State.orphGates, hl, List.foldl_append, List.foldl_cons]
  refine List.foldlRecOn (motive := fun t : State => t.chRd DRV_CH_GATEW.ORPH ch = 1) l2 _ (rd_wr_same _ _ _ _ _ _)
    fun t ht c _ => rd_wr_keep (f := DRV_CH_GATEW.ORPH) (v := 1) rfl ht _ _ _

/-- A tile without valid frames becomes an orphan, and applies BLOCK_CODE to its gates. -/
theorem tileOrphan_blocks (s : State) (tile : Fin 8) : ∃ t, exec (.tileOrphan tile) s = .next t ∧ t.rd DRV_STATUS.ORPHAN tile = 1 ∧
    t.now = max s.now (max (nget s.drv.lastValid (2 * tile)) (nget s.drv.lastValid (2 * tile + 1)) + 20000) ∧
    (∀ ch ∈ s.gateChannels, ch / 2048 = tile.val → t.chRd DRV_CH_GATEW.ORPH ch = 1 ∧
      t.chRd DRV_CH_LIVE.APPLIED ch = min (s.chRd DRV_CH_GUARDW.BLOCK_CODE ch) (s.chRd DRV_CH_GUARDW.CAP ch) % 2 ^ 16) ∧
    t = { s with now := t.now, regs := t.regs, drv := t.drv, mon := t.mon, cal := t.cal } := by
  have horph := sameBut_orphaned s tile
  obtain ⟨⟨regs, hframe⟩, hgates⟩ := orphGates_frame (s.orphaned tile) tile
  have hform : FormFrame ((s.orphaned tile).orphGates tile) _ := (formFrame_refl _).reformTile tile
  have hall : (s.orphaned tile).gateChannels = s.gateChannels := gateChannels_congr rfl fun ch => horph.chOn (by decide) ch
  refine ⟨_, exec_tileOrphan s tile, ?_, ?_, fun ch hch htile => ?_, ?_⟩
  · rw [hform.regs _ (by decide), hgates _ (by decide), State.orphaned, sameBut_linkBits _ tile _ (by decide)]
    exact rd_wr_one _ rfl _ _ _
  · rw [hform.now, hframe]
    rfl
  · rw [← hall] at hch
    have horph1 := orph_orphGates hch htile
    have hgate : ((s.orphaned tile).orphGates tile).chOn DRV_CH_GATEW.GATE ch = true :=
      (hgates.chOn (by decide) ch).trans (List.mem_filter.mp hch).2
    have hblocked : ((s.orphaned tile).orphGates tile).blocked ch = true := by
      rw [State.blocked, hgate, State.heldBlock, show ((s.orphaned tile).orphGates tile).chOn DRV_CH_GATEW.ORPH ch = true from
        on_of_rd_one horph1]
      simp
    refine ⟨(hform.regs.chRd (by decide) ch).trans horph1, ?_⟩
    have hmem : ch ∈ ((s.orphaned tile).orphGates tile).tileChans tile := by
      rw [tileChans_congr (s := s.orphaned tile) (by rw [hframe])]
      exact mem_tileChans_of_gate hch htile
    rw [reformTile_applied hmem, State.appliedOf]
    dsimp only
    rw [if_pos hblocked, hgates.chRd (by decide), hgates.chRd (by decide), horph.chRd (by decide), horph.chRd (by decide)]
  · exact hform.of_clock (hframe.trans rfl)

end

end Sys2Proof.Machine
end

section
/-! The clauses of TileLinksAndDither on dither writes and heater fold-back (R151 to R155). -/
namespace Sys2Proof.Machine

section
variable {s t : State} {die : Fin 2} {tile : Fin 8}

/-! #### Dither writes (R151, R152) -/

/-- A write for a channel of a tile is a write at the tile's and the channel's place. -/
theorem chWr_place (s : State) (f : Fld) (v : Nat) (tile : Fin 8) (ch : Fin 2048) :
    s.chWr f v (2048 * tile + ch) = s.wr f v tile ch := by
  rw [State.chWr, show (2048 * tile.val + ch.val) / 2048 = tile by omega, show (2048 * tile.val + ch.val) % 2048 = ch by omega]

theorem chRd_place (s : State) (f : Fld) (tile : Fin 8) (ch : Fin 2048) : s.chRd f (2048 * tile + ch) = s.rd f tile ch := by
  rw [State.chRd, show (2048 * tile.val + ch.val) / 2048 = tile by omega, show (2048 * tile.val + ch.val) % 2048 = ch by omega]

/-- A channel without a binding takes DMODE, AMP and TONE in their ranges; its NCO keeps its phase, or takes one. -/
theorem ditherWrite_takes (ch : Fin 2048) (value : Word) (hact : s.bar0 die (0x01010000 + 0x200000 * tile + 0x20 * ch + 0xC) = .act)
    (hbound : s.ditherBound (2048 * tile + ch) = false) (hmode : value.toNat / 2 ^ 30 < 3) (htone : value.toNat % 128 ≤ 70) : ∃ acc,
      exec (.ditherWrite die tile ch value) s = .next
        { ((s.wr DRV_CH_DITHER.DMODE (value.toNat / 2 ^ 30) tile ch).wr DRV_CH_DITHER.AMP (value.toNat / 256 % 256) tile ch).wr
            DRV_CH_DITHER.TONE (value.toNat % 128) tile ch with drv := { s.drv with acc := acc } } := by
  obtain ⟨acc, hfreeze, -⟩ := freezePhase_eq s (2048 * tile + ch)
  have hbits : bits value.toNat 30 2 = value.toNat / 2 ^ 30 := Nat.mod_eq_of_lt (by omega)
  have htone' : bits value.toNat 0 7 = value.toNat % 128 := by rw [bits, Nat.pow_zero, Nat.div_one]; rfl
  show ∃ acc, execDitherWrite die tile ch value s = _
  unfold execDitherWrite
  rw [viaBar0_act hact]
  dsimp only
  rw [hbound, hbits, htone', if_neg (by simp), if_neg (show ¬ value.toNat / 2 ^ 30 = 3 by omega),
    if_neg (show ¬ 70 < value.toNat % 128 by omega), if_neg (show ¬ (value.toNat / 2 ^ 30 = 3 ∨ 70 < value.toNat % 128) by omega),
    hfreeze, chWr_place, chWr_place, chWr_place]
  split
  · exact ⟨_, rfl⟩
  · exact ⟨acc, rfl⟩

theorem ditherWrite_refused (ch : Fin 2048) (value : Word) (hact : s.bar0 die (0x01010000 + 0x200000 * tile + 0x20 * ch + 0xC) = .act)
    (hbound : s.ditherBound (2048 * tile + ch) = true) : exec (.ditherWrite die tile ch value) s =
      .next (s.wr DRV_STATUS.CFG_REJECT 1 tile) :=
  congrArg Host.Outcome.next ((viaBar0_act hact _).trans (if_pos hbound))

/-! #### The mean of a tile's current (R153, R166) -/

/-- The registers of a tile's current. -/
def ivhvFlds : List Fld := [DRV_IVHV.IMEAN, DRV_IVHV.IPEAK]

theorem setMean_frame (s : State) (tile mean : Nat) : s.setMean tile mean =
    { s with regs := (s.setMean tile mean).regs, drv := { s.drv with foldAt := (s.setMean tile mean).drv.foldAt } } := rfl

theorem foldAt_setMean (s : State) (tile mean : Nat) : nget (s.setMean tile mean).drv.foldAt tile =
    if mean ≤ s.rd DRV_FOLD_CFG.ICAP tile then 0 else if nget s.drv.foldAt tile = 0 then s.now + 1 else nget s.drv.foldAt tile :=
  nget_nset_same _ _ _

theorem sameBut_setMean (s : State) (tile mean : Nat) : SameBut ivhvFlds s (s.setMean tile mean) :=
  (((sameBut_refl _ s).wr (f := DRV_IVHV.IMEAN) (by simp [ivhvFlds]) _ _ _ _).wr (f := DRV_IVHV.IPEAK) (by simp [ivhvFlds]) _ _ _ _).trans
    (sameBut_of_regs _ rfl)

theorem regsBut_setMean (s : State) (tile mean : Nat) {l : List Nat} (hm : DRV_IVHV.IMEAN.key tile 0 0 ∈ l)
    (hp : DRV_IVHV.IPEAK.key tile 0 0 ∈ l) : RegsBut l s (s.setMean tile mean) :=
  ((regsBut_of_regs (t := s) l rfl).wr hm).wr hp

theorem rd_setMean (s : State) (tile : Nat) (mean : BitVec 16) : (s.setMean tile mean.toNat).rd DRV_IVHV.IMEAN tile = mean.toNat :=
  (rd_wr_apart _ (by decide) _ _ _ _ _ _ _).trans ((rd_wr_same s DRV_IVHV.IMEAN _ tile 0 0).trans (Nat.mod_eq_of_lt mean.isLt))

/-! #### FOLDBACK_STEP (R153, R154) -/

/-- The state in which a mean has stood above ICAP for 200 frames, and the counter restarts. -/
def State.foldDue (s : State) (tile : Nat) : State :=
  let t := s.reach (nget s.drv.foldAt tile + 198)
  { t with drv := { t.drv with foldAt := nset t.drv.foldAt tile (t.now + 2) } }

/-- The factor falls, and the step is counted. -/
def State.foldStep (s : State) (tile : Nat) : State :=
  ((s.occur (384 + 32 + tile)).wr DRV_FOLD_STATUS.FACTOR (s.rd DRV_FOLD_STATUS.FACTOR tile * 7 / 8) tile).bump
    DRV_FOLD_STATUS.STEPS 1 tile

/-- The first step of a fold-back raises the tile's fault. -/
def State.foldDown (s : State) (tile : Nat) : State :=
  if s.on DRV_STATUS.FOLD_ACTIVE tile then s.foldStep tile
  else ((s.foldStep tile).wr DRV_STATUS.FOLD_ACTIVE 1 tile).raise (srcTile tile 6) 0

/-- A channel rests at the floor of the fold-back. -/
def State.restOne (s : State) (ch : Nat) : State :=
  let t := (s.chWr DRV_CH_STATE.STATE stRest ch).dueAgain ch
  { t with drv := { t.drv with changeDue := nset t.drv.changeDue ch 0 } }

/-- At the floor the current-mode channels rest, and the fault is raised. -/
def State.foldFloor (s : State) (tile : Nat) : State :=
  (((s.formChans tile).filter fun ch => s.chOn DRV_CH_STATE.MODE ch && s.outState ch != stRest).foldl State.restOne
    ((s.occur (384 + 32 + tile)).wr DRV_STATUS.FOLD_FLOOR 1 tile)).raise (srcTile tile 7) 0

theorem foldbackStep_below (mean : BitVec 16) (h : mean.toNat ≤ s.rd DRV_FOLD_CFG.ICAP tile) :
    exec (.foldbackStep tile mean) s = .next (s.setMean tile mean.toNat) := by
  refine congrArg Host.Outcome.next (if_pos ?_)
  rwa [sameBut_setMean s tile _ _ (by decide)]

theorem foldbackStep_above (mean : BitVec 16) (h : s.rd DRV_FOLD_CFG.ICAP tile < mean.toNat) : exec (.foldbackStep tile mean) s = .next
    (let u := (s.setMean tile mean.toNat).foldDue tile
     if s.rd DRV_FOLD_STATUS.FACTOR tile * 7 / 8 < 0x1000 then u.foldFloor tile else u.foldDown tile) := by
  have hmean := sameBut_setMean s tile mean.toNat
  rw [← hmean DRV_FOLD_CFG.ICAP (by decide)] at h
  rw [← hmean DRV_FOLD_STATUS.FACTOR (by decide)]
  exact congrArg Host.Outcome.next (if_neg (Nat.not_le.mpr h))

theorem rd_foldStep (s : State) (tile : Nat) :
    (s.foldStep tile).rd DRV_FOLD_STATUS.FACTOR tile = s.rd DRV_FOLD_STATUS.FACTOR tile * 7 / 8 % 2 ^ 17 :=
  (rd_wr_apart _ (by decide) _ _ _ _ _ _ _).trans (rd_wr_same _ _ _ _ _ _)

theorem regsBut_foldStep (s : State) (tile : Nat) {l : List Nat} (hf : DRV_FOLD_STATUS.FACTOR.key tile 0 0 ∈ l)
    (hs : DRV_FOLD_STATUS.STEPS.key tile 0 0 ∈ l) : RegsBut l s (s.foldStep tile) :=
  ((regsBut_of_regs (t := s.occur (384 + 32 + tile)) l rfl).wr hf).wr hs

theorem sameBut_foldStep (s : State) (tile : Nat) :
    SameBut [DRV_FOLD_STATUS.FACTOR, DRV_FOLD_STATUS.STEPS] s (s.foldStep tile) :=
  ((sameBut_of_regs _ rfl).wr (by simp) _ _ _ _).wr (by simp) _ _ _ _

/-- A step of the fold-back: the factor, FOLD_ACTIVE, and what else may change. -/
theorem foldDown_spec (s : State) (tile : Nat) : (s.foldDown tile).rd DRV_FOLD_STATUS.FACTOR tile =
      s.rd DRV_FOLD_STATUS.FACTOR tile * 7 / 8 % 2 ^ 17 ∧ (s.foldDown tile).on DRV_STATUS.FOLD_ACTIVE tile = true ∧
    SameBut [DRV_FOLD_STATUS.FACTOR, DRV_FOLD_STATUS.STEPS, DRV_STATUS.FOLD_ACTIVE] s (s.foldDown tile) ∧
    s.foldDown tile = { s with regs := (s.foldDown tile).regs, saf := (s.foldDown tile).saf, sgf := (s.foldDown tile).sgf } ∧
    RegsBut [DRV_FOLD_STATUS.FACTOR.key tile 0 0, DRV_FOLD_STATUS.STEPS.key tile 0 0, DRV_STATUS.FOLD_ACTIVE.key tile 0 0] s
      (s.foldDown tile) := by
  have hstep := regsBut_foldStep s tile (l := [DRV_FOLD_STATUS.FACTOR.key tile 0 0, DRV_FOLD_STATUS.STEPS.key tile 0 0,
    DRV_STATUS.FOLD_ACTIVE.key tile 0 0]) (by simp) (by simp)
  have hsame : SameBut [DRV_FOLD_STATUS.FACTOR, DRV_FOLD_STATUS.STEPS, DRV_STATUS.FOLD_ACTIVE] s (s.foldStep tile) :=
    ((sameBut_of_regs _ rfl).wr (by simp) _ _ _ _).wr (by simp) _ _ _ _
  unfold State.foldDown
  split
  next hon => exact ⟨rd_foldStep s tile, ((sameBut_foldStep s tile).on (by decide) _ _ _).trans hon, hsame, rfl, hstep⟩
  next =>
    exact ⟨(rd_wr_apart _ (by decide) _ _ _ _ _ _ _).trans (rd_foldStep s tile), on_of_rd_one (rd_wr_one _ rfl _ _ _),
      (hsame.wr (f := DRV_STATUS.FOLD_ACTIVE) (by simp) _ _ _ _), rfl, hstep.wr (by simp)⟩

/-- Above ICAP, and above the floor, the factor falls to 7/8 at the end of the 200 frames. -/
theorem foldbackStep_falls (mean : BitVec 16) (hicap : s.rd DRV_FOLD_CFG.ICAP tile < mean.toNat)
    (hfloor : 0x1000 ≤ s.rd DRV_FOLD_STATUS.FACTOR tile * 7 / 8) (hfactor : s.rd DRV_FOLD_STATUS.FACTOR tile ≤ 0x10000) :
    ∃ t, exec (.foldbackStep tile mean) s = .next t ∧
      t.now = max s.now ((if nget s.drv.foldAt tile = 0 then s.now + 1 else nget s.drv.foldAt tile) + 198) ∧
      t.rd DRV_FOLD_STATUS.FACTOR tile = s.rd DRV_FOLD_STATUS.FACTOR tile * 7 / 8 ∧ t.rd DRV_IVHV.IMEAN tile = mean.toNat ∧
      t.on DRV_STATUS.FOLD_ACTIVE tile = true ∧
      t = { s with now := t.now, regs := t.regs, saf := t.saf, sgf := t.sgf, drv := { s.drv with foldAt := t.drv.foldAt } } ∧
      RegsBut [DRV_FOLD_STATUS.FACTOR.key tile 0 0, DRV_FOLD_STATUS.STEPS.key tile 0 0, DRV_IVHV.IMEAN.key tile 0 0,
        DRV_IVHV.IPEAK.key tile 0 0, DRV_STATUS.FOLD_ACTIVE.key tile 0 0] s t := by
  obtain ⟨hfact, hactive, hsame, hframe, hregs⟩ := foldDown_spec ((s.setMean tile mean.toNat).foldDue tile) tile
  have hmean := sameBut_setMean s tile mean.toNat
  refine ⟨_, (foldbackStep_above mean hicap).trans (congrArg _ (if_neg (Nat.not_lt.mpr hfloor))), ?_, ?_, ?_, hactive, ?_, ?_⟩
  · rw [hframe]
    refine (congrArg (fun x => max s.now (x + 198)) (foldAt_setMean s tile mean.toNat)).trans ?_
    rw [if_neg (Nat.not_le.mpr hicap)]
  · refine hfact.trans ?_
    rw [show ((s.setMean tile mean.toNat).foldDue tile).rd DRV_FOLD_STATUS.FACTOR tile = s.rd DRV_FOLD_STATUS.FACTOR tile from
      hmean _ (by decide) _ _ _]
    exact Nat.mod_eq_of_lt (by omega)
  · exact (hsame _ (by decide) _ _ _).trans (rd_setMean s tile mean)
  · rw [hframe]
    rfl
  · intro k hk
    refine (hregs k fun h => hk ?_).trans (regsBut_setMean s tile mean.toNat (by simp) (by simp) k hk)
    simp only [List.mem_cons, List.not_mem_nil, or_false] at h ⊢
    tauto

theorem foldbackStep_resets (mean : BitVec 16) (h : mean.toNat ≤ s.rd DRV_FOLD_CFG.ICAP tile) :
    ∃ t, exec (.foldbackStep tile mean) s = .next t ∧ nget t.drv.foldAt tile = 0 ∧ t.rd DRV_IVHV.IMEAN tile = mean.toNat ∧
      t = { s with regs := t.regs, drv := { s.drv with foldAt := t.drv.foldAt } } ∧
      RegsBut [DRV_IVHV.IMEAN.key tile 0 0, DRV_IVHV.IPEAK.key tile 0 0] s t :=
  ⟨_, foldbackStep_below mean h, (foldAt_setMean s tile mean.toNat).trans (if_pos h), rd_setMean s tile mean,
    setMean_frame s tile mean.toNat, regsBut_setMean s tile mean.toNat (by simp) (by simp)⟩

/-! #### The floor (R154) -/

theorem restOne_keeps (s : State) (ch : Nat) : TileFrame s (s.restOne ch) ∧ SameBut [DRV_CH_STATE.STATE] s (s.restOne ch) := by
  refine ⟨(((tileFrame_refl s).chWr (by decide) _ _).dueAgain _).setDrv _, ?_⟩
  rw [State.restOne, dueAgain_cal]
  exact ((sameBut_refl _ s).chWr (by simp) _ _).trans (sameBut_of_regs _ rfl)

theorem outState_restOne (s : State) (c : Nat) {ch : Nat} (h : s.outState ch = stRest ∨ c = ch) : (s.restOne c).outState ch = stRest := by
  rw [State.restOne, dueAgain_cal]
  rcases h with h | rfl
  · exact rd_wr_keep (f := DRV_CH_STATE.STATE) (v := stRest) rfl h _ _ _
  · exact rd_wr_same _ _ _ _ _ _

/-- Every channel that is sent to rest is at rest after, and every one that was. -/
theorem outState_restAll {l : List Nat} {ch : Nat} (s : State) (h : s.outState ch = stRest ∨ ch ∈ l) :
    (l.foldl State.restOne s).outState ch = stRest := by
  induction l generalizing s with
  | nil => exact h.resolve_right (List.not_mem_nil)
  | cons c l ih =>
    refine ih _ ?_
    by_cases hc : c = ch
    · exact .inl (outState_restOne s c (.inr hc))
    · exact h.imp (fun h => outState_restOne s c (.inl h)) fun h => (List.mem_cons.mp h).resolve_left fun e => hc e.symm

theorem foldFloor_spec (s : State) (tile : Nat) : (s.foldFloor tile).rd DRV_STATUS.FOLD_FLOOR tile = 1 ∧
    (∀ ch ∈ s.tileChans tile, s.chOn DRV_CH_STATE.MODE ch = true → (s.foldFloor tile).outState ch = stRest) ∧
    (∃ o, (s.foldFloor tile).saf.raised = s.saf.raised ++ [o] ∧ o.source = srcTile tile 7) ∧ (s.foldFloor tile).mem = s.mem := by
  have hkeeps := List.foldlRecOn (motive := fun t => TileFrame ((s.occur (384 + 32 + tile)).wr DRV_STATUS.FOLD_FLOOR 1 tile) t ∧
      SameBut [DRV_CH_STATE.STATE] ((s.occur (384 + 32 + tile)).wr DRV_STATUS.FOLD_FLOOR 1 tile) t)
    ((s.formChans tile).filter fun ch => s.chOn DRV_CH_STATE.MODE ch && s.outState ch != stRest) State.restOne
    ⟨tileFrame_refl _, sameBut_refl _ _⟩ fun t ht c _ => ⟨ht.1.trans (restOne_keeps t c).1, ht.2.trans (restOne_keeps t c).2⟩
  obtain ⟨hframe, hsame⟩ := hkeeps
  refine ⟨(hsame DRV_STATUS.FOLD_FLOOR (by decide) _ _ _).trans (rd_wr_one _ rfl _ _ _), fun ch hch hmode => ?_,
    ⟨_, congrArg (·.saf.raised ++ _) hframe.frame, rfl⟩, hframe.mem⟩
  refine outState_restAll _ ?_
  by_cases hrest : s.outState ch = stRest
  · exact .inl ((rd_wr_clear _ (by decide) _ _ _ _ _ _ _).trans hrest)
  · exact .inr (List.mem_filter.mpr ⟨mem_formChans_of_mem_tileChans hch, by simp [hmode, hrest]⟩)

/-- At the floor FOLD_FLOOR is set, the current-mode channels rest, and the fault is raised. -/
theorem foldbackStep_floors (mean : BitVec 16) (hicap : s.rd DRV_FOLD_CFG.ICAP tile < mean.toNat)
    (hfloor : s.rd DRV_FOLD_STATUS.FACTOR tile * 7 / 8 < 0x1000) :
    ∃ t, exec (.foldbackStep tile mean) s = .next t ∧ t.rd DRV_STATUS.FOLD_FLOOR tile = 1 ∧
      (∀ ch ∈ s.tileChans tile, s.chOn DRV_CH_STATE.MODE ch = true → t.outState ch = stRest) ∧
      (∃ o, t.saf.raised = s.saf.raised ++ [o] ∧ o.source = srcTile tile 7) ∧ MemSame s t := by
  obtain ⟨hflag, hrest, hraised, hmem⟩ := foldFloor_spec ((s.setMean tile mean.toNat).foldDue tile) tile
  refine ⟨_, (foldbackStep_above mean hicap).trans (congrArg _ (if_pos hfloor)), hflag, fun ch hch hmode => hrest ch ?_ ?_, hraised,
    memSame_of_mem hmem⟩
  · rwa [tileChans_congr (s := s) (t := (s.setMean tile mean.toNat).foldDue tile) rfl tile]
  · exact ((sameBut_setMean s tile mean.toNat).chOn (by decide) ch).trans hmode

/-! #### FOLD_CLEAR (R155) -/

/-- The registers of a tile's fold-back are as they were before it. -/
def State.unfold (s : State) (tile : Nat) : State :=
  (((s.wr DRV_FOLD_STATUS.FACTOR 0x10000 tile).wr DRV_FOLD_STATUS.STEPS 0 tile).wr DRV_STATUS.FOLD_ACTIVE 0 tile).wr
    DRV_STATUS.FOLD_FLOOR 0 tile

theorem foldClear_above (h : s.rd DRV_FOLD_CFG.ICAP tile < s.rd DRV_IVHV.IMEAN tile) :
    s.foldClear tile = s.wr DRV_STATUS.CLR_REFUSED 1 tile := if_pos h

/-- A clear that is not refused wakes channels at most. -/
theorem foldClear_below (h : ¬ s.rd DRV_FOLD_CFG.ICAP tile < s.rd DRV_IVHV.IMEAN tile) :
    ∃ l : List Nat, s.foldClear tile = l.foldl State.wake (s.unfold tile) := by
  rw [State.foldClear, if_neg h]
  dsimp only
  split
  · exact ⟨_, rfl⟩
  · exact ⟨[], rfl⟩

theorem wakes_keep (l : List Nat) (s : State) :
    (l.foldl State.wake s).mem = s.mem ∧ SameBut [DRV_CH_STATE.STATE] s (l.foldl State.wake s) := by
  refine List.foldlRecOn (motive := fun t : State => t.mem = s.mem ∧ SameBut [DRV_CH_STATE.STATE] s t) l _ ⟨rfl, sameBut_refl _ s⟩
    fun t ht c _ => ?_
  rw [wake_eq]
  exact ⟨ht.1, (ht.2.chWr (by simp) _ _).trans (sameBut_of_regs _ rfl)⟩

theorem exec_foldClear (mean : BitVec 16) (hact : s.bar0 die (0x01000010 + 0x200000 * tile) = .act) :
    exec (.foldClear die tile mean) s = .next ((s.setMean tile mean.toNat).foldClear tile) :=
  congrArg Host.Outcome.next (viaBar0_act hact _)

theorem foldClear_restores (mean : BitVec 16) (hact : s.bar0 die (0x01000010 + 0x200000 * tile) = .act)
    (h : mean.toNat ≤ s.rd DRV_FOLD_CFG.ICAP tile) : ∃ t, exec (.foldClear die tile mean) s = .next t ∧
      t.rd DRV_FOLD_STATUS.FACTOR tile = 0x10000 ∧ t.rd DRV_FOLD_STATUS.STEPS tile = 0 ∧ t.rd DRV_STATUS.FOLD_ACTIVE tile = 0 ∧
      t.rd DRV_STATUS.FOLD_FLOOR tile = 0 ∧ MemSame s t := by
  have hmean : ¬ (s.setMean tile mean.toNat).rd DRV_FOLD_CFG.ICAP tile < (s.setMean tile mean.toNat).rd DRV_IVHV.IMEAN tile := by
    rw [rd_setMean, sameBut_setMean s tile _ _ (by decide)]
    exact Nat.not_lt.mpr h
  obtain ⟨l, heq⟩ := foldClear_below hmean
  obtain ⟨hmem, hsame⟩ := wakes_keep l ((s.setMean tile mean.toNat).unfold tile)
  have hapart {f g : Fld} (u : State) (hf : f.apart g = true) (v : Nat) : (u.wr g v tile).rd f tile = u.rd f tile :=
    rd_wr_apart u hf _ _ _ _ _ _ _
  rw [← heq] at hmem hsame
  refine ⟨_, exec_foldClear mean hact, ?_, ?_, ?_, ?_, memSame_of_mem hmem⟩
  all_goals rw [hsame _ (by decide), State.unfold]
  · rw [hapart _ (by decide), hapart _ (by decide), hapart _ (by decide)]
    exact rd_wr_same _ _ _ _ _ _
  · rw [hapart _ (by decide), hapart _ (by decide), rd_wr_zero]
  · rw [hapart _ (by decide), rd_wr_zero]
  · rw [rd_wr_zero]

theorem foldClear_refused (mean : BitVec 16) (hact : s.bar0 die (0x01000010 + 0x200000 * tile) = .act)
    (h : s.rd DRV_FOLD_CFG.ICAP tile < mean.toNat) : exec (.foldClear die tile mean) s =
      .next ((s.setMean tile mean.toNat).wr DRV_STATUS.CLR_REFUSED 1 tile) := by
  refine (exec_foldClear mean hact).trans (congrArg _ (foldClear_above ?_))
  rwa [rd_setMean, sameBut_setMean s tile _ _ (by decide)]

end

end Sys2Proof.Machine

open Sys2Proof Sys2Proof.Machine

/-- Settles O25, clause by clause: what forming a tile's codes keeps, and the code of each channel; the writes that a link carries and
the one that acts; ORPHAN; then a dither write's fields, and the fold-back by its branches. -/
theorem tileLinksAndDither : Obligations.TileLinksAndDither := by
  unfold Obligations.TileLinksAndDither
  refine ⟨⟨tileLinkFrame_delivered, fun s tile die ch hch hf ho => tileLinkFrame_forms die hch hf ho,
    fun s tile die w hsrc hfrozen hlost hdown hqueue htile hrank hch =>
      tileLinkFrame_carries hsrc hfrozen hlost hdown hqueue htile hrank hch,
    fun s tile w hq hch htw => liveUpdateApply_applies hq hch htw, tileOrphan_blocks, fun s tile die => ?_⟩,
    fun s die tile ch value hact hbound hmode htone => ?_, fun s die tile ch value hact hbound => ?_,
    fun s tile mean => foldbackStep_falls mean, fun s tile mean => foldbackStep_resets mean, fun s tile mean => foldbackStep_floors mean,
    fun s die tile mean => foldClear_restores mean, fun s die tile mean hact hicap => ?_⟩
  · exact ⟨_, rfl, rd_wr_zero _ _ _ _ _, lastValid_heard s tile die, heard_frame s tile die, regsBut_heard s tile die⟩
  · obtain ⟨acc, heq⟩ := ditherWrite_takes ch value hact hbound hmode htone
    have hapart {f g : Fld} (u : State) (hf : f.apart g = true) (v : Nat) : (u.wr g v tile ch).rd f tile ch = u.rd f tile ch :=
      rd_wr_apart u hf _ _ _ _ _ _ _
    refine ⟨_, heq, ?_, ?_, ?_, rfl, (((regsBut_of_regs (t := s) _ rfl).wr (by simp)).wr (by simp)).wr (by simp)⟩
    · exact (hapart _ (by decide) _).trans ((hapart _ (by decide) _).trans ((rd_wr_same _ _ _ _ _ _).trans
        (Nat.mod_eq_of_lt (show _ < 4 by omega))))
    · exact (hapart _ (by decide) _).trans ((rd_wr_same _ _ _ _ _ _).trans (Nat.mod_eq_of_lt (show _ < 256 by omega)))
    · exact (rd_wr_same _ _ _ _ _ _).trans (Nat.mod_eq_of_lt (show _ < 128 by omega))
  · exact ⟨_, ditherWrite_refused ch value hact hbound, rd_wr_one _ rfl _ _ _, onlyRegs_wr _ _ _ _ _ _ (by simp)⟩
  · exact ⟨_, foldClear_refused mean hact hicap, rd_wr_one _ rfl _ _ _, (rd_wr_apart _ (by decide) _ _ _ _ _ _ _).trans
      (sameBut_setMean s tile mean.toNat _ (by decide) _ _ _), rfl, (regsBut_setMean s tile mean.toNat (by simp) (by simp)).wr (by simp)⟩

end

section
/-! The clauses of GuardsAndOutputCheck on guards (R157 to R161, R182). -/
namespace Sys2Proof.Machine

section
variable {s t : State} {tile input ch : Nat} {l : List Fld}

/-! #### Bits of a tile's maps -/

/-- A bit written into a map of 32-bit words reads back. -/
theorem bit_map_write {f : Fld} (hw : f.w = 32) (v : Bool) (b i j : Nat) :
    bit ((s.wr f (if v then setBit (s.rd f i j) (b % 32) else clrBit (s.rd f i j) (b % 32)) i j).rd f i j) (b % 32) = v := by
  rw [rd_wr_same, hw, bit_mod_two_pow _ (Nat.mod_lt _ (by decide))]
  cases v
  · rw [if_neg (by decide), bit_clrBit, beq_self_eq_true]
    exact Bool.and_false _
  · rw [if_pos rfl, bit_setBit, beq_self_eq_true, Bool.or_true]

theorem guardBit_setGuardBit (s : State) {f : Fld} (hw : f.w = 32) (tile input : Nat) (v : Bool) :
    (s.setGuardBit f tile input v).guardBit f tile input = v := bit_map_write hw v input tile (input / 32)

theorem markedFailed_markFailed (s : State) (ch : Nat) (v : Bool) : (s.markFailed ch v).markedFailed ch = v :=
  bit_map_write rfl v ch (ch / 2048) (ch % 2048 / 32)

theorem SameBut.guardBit {f : Fld} (h : SameBut l s t) (hf : (l.all fun g => f.clearOf g) = true) (tile input : Nat) :
    t.guardBit f tile input = s.guardBit f tile input := congrArg (bit · _) (h f hf _ _ _)

theorem SameBut.markedFailed (h : SameBut l s t) (hf : (l.all fun g => DRV_FAILED.FAILED.clearOf g) = true) (ch : Nat) :
    t.markedFailed ch = s.markedFailed ch := congrArg (bit · _) (h _ hf _ _ _)

/-- A write of ones with a single one names a single bit. -/
theorem bits_of_two_pow : ∀ b : Fin 32, ((List.range 32).filter fun i => bit (BitVec.ofNat 32 (2 ^ b.val)).toNat i) = [b.val] := by
  decide

theorem sameBut_wr (s : State) (f : Fld) (v i j k : Nat) : SameBut [f] s (s.wr f v i j k) :=
  (sameBut_refl [f] s).wr (List.mem_singleton_self f) v i j k

theorem SameBut.mono {m : List Fld} (h : SameBut l s t) (hlm : l ⊆ m) : SameBut m s t :=
  fun f hf => h f (List.all_eq_true.mpr fun g hg => List.all_eq_true.mp hf g (hlm hg))

/-! #### A trip (R157) -/

/-- A capture trigger changes the capture's registers, and what the monitors keep. -/
theorem capTrigger_keeps (s : State) (tile f : Nat) :
    s.capTrigger tile f = { s with regs := (s.capTrigger tile f).regs, mon := (s.capTrigger tile f).mon } ∧
    SameBut [MON_CAP_STATUS.BANK0, MON_CAP_STATUS.BANK1, MON_CAP_STATUS.OVERRUN, MON_CAP_STATUS.PENDING] s (s.capTrigger tile f) := by
  have hsame := sameBut_refl [MON_CAP_STATUS.BANK0, MON_CAP_STATUS.BANK1, MON_CAP_STATUS.OVERRUN, MON_CAP_STATUS.PENDING] s
  unfold State.capTrigger
  split
  · refine ⟨rfl, SameBut.trans (hsame.wr ?_ 2 tile 0 0) (sameBut_of_regs _ rfl)⟩
    split <;> simp
  · split_ifs
    · exact ⟨rfl, hsame⟩
    · exact ⟨rfl, hsame.wr (by simp) _ _ _ _⟩
    · exact ⟨rfl, hsame.wr (by simp) _ _ _ _⟩

/-- The state in which an input has latched its trip, and the capture of its tile has had its trigger. -/
def State.latchTrip (s : State) (tile input : Nat) : State :=
  ((s.setGuardBit DRV_GUARD_TRIP.TRIP tile input true).wr MON_IN_STATUS.GUARD (b2n (s.gateOfInput tile input).isSome) tile
    input).tripTrigger tile

theorem tripTrigger_keeps (s : State) (tile : Nat) :
    s.tripTrigger tile = { s with regs := (s.tripTrigger tile).regs, mon := (s.tripTrigger tile).mon } ∧
    SameBut [MON_CAP_STATUS.BANK0, MON_CAP_STATUS.BANK1, MON_CAP_STATUS.OVERRUN, MON_CAP_STATUS.PENDING] s (s.tripTrigger tile) := by
  unfold State.tripTrigger
  split
  · exact capTrigger_keeps s tile s.now
  · exact ⟨rfl, sameBut_refl _ s⟩

theorem latchTrip_frame (s : State) (tile input : Nat) : s.latchTrip tile input =
    { s with regs := (s.latchTrip tile input).regs, mon := (s.latchTrip tile input).mon } := (tripTrigger_keeps _ tile).1

theorem guardBit_latchTrip (s : State) (tile input : Nat) :
    (s.latchTrip tile input).guardBit DRV_GUARD_TRIP.TRIP tile input = true := by
  rw [State.latchTrip, (tripTrigger_keeps _ tile).2.guardBit (by decide)]
  rw [(sameBut_wr _ MON_IN_STATUS.GUARD _ _ _ _).guardBit (by decide), guardBit_setGuardBit s rfl]

/-- A trip of an input of a gate latches in the gate's word too. -/
theorem trip_gate (h : s.gateOfInput tile input = some ch) : s.trip tile input =
    (({ (s.latchTrip tile input).chWr DRV_CH_GATEW.TRIP 1 ch with
        drv := { s.drv with trippedAt := nset s.drv.trippedAt ch (s.now + 2) } } : State).occur (384 + tile)).raise
      (srcTile tile 1) (128 * tile + input) := by
  have hdrv : (s.latchTrip tile input).drv = s.drv := by rw [latchTrip_frame]
  unfold State.trip
  dsimp only
  split
  · next c hc =>
    cases h.symm.trans hc
    rw [← hdrv]
    rfl
  · next hc => cases h.symm.trans hc

theorem trip_spec (h : s.gateOfInput tile input = some ch) : (s.trip tile input).guardBit DRV_GUARD_TRIP.TRIP tile input = true ∧
    (s.trip tile input).chRd DRV_CH_GATEW.TRIP ch = 1 ∧
    (∃ o, (s.trip tile input).saf.raised = s.saf.raised ++ [o] ∧ o.source = srcTile tile 1) ∧ (s.trip tile input).mem = s.mem := by
  have hframe := latchTrip_frame s tile input
  rw [trip_gate h]
  refine ⟨?_, rd_wr_one _ rfl _ _ _, ⟨_, congrArg (·.saf.raised ++ _) hframe, rfl⟩, congrArg (·.mem) hframe⟩
  exact ((sameBut_wr (s.latchTrip tile input) DRV_CH_GATEW.TRIP 1 (ch / 2048) (ch % 2048) 0).guardBit (by decide) tile input).trans
    (guardBit_latchTrip s tile input)

/-- The tables, the gate words' channels and their monitors decide which gate an input guards. -/
theorem gateOfInput_congr (hmem : t.mem = s.mem) (h : SameOf [DRV_CH_GATEW.GATE, DRV_CH_GATEW.MONV, DRV_CH_GATEW.MON] s t)
    (tile input : Nat) : t.gateOfInput tile input = s.gateOfInput tile input := by
  simp only [SameOf, List.forall_mem_cons] at h
  obtain ⟨hgate, hmonv, hmon, -⟩ := h
  simp only [State.gateOfInput, gateChannels_congr hmem fun c => on_of_rd (hgate _ _ _), State.chOn, State.chRd, hmonv, hmon]

end

section
variable {s : State} {die : Fin 2} {tile : Fin 8} {input : Fin 128} {ch f : Nat} {w : Fin 4} {b : Fin 32}

/-- An armed comparator that asserts latches its input's trip and its gate's, and raises the tile's guard trip. -/
theorem guardTrip_latches (harmed : s.darkArmed tile input = true) (htrip : s.guardBit DRV_GUARD_TRIP.TRIP tile input = false)
    (hgate : s.gateOfInput tile input = some ch) : ∃ t, exec (.guardTrip tile input) s = .next t ∧
      t.guardBit DRV_GUARD_TRIP.TRIP tile input = true ∧ t.chRd DRV_CH_GATEW.TRIP ch = 1 ∧
      (∃ o, t.saf.raised = s.saf.raised ++ [o] ∧ o.source = srcTile tile 1) ∧ MemSame s t := by
  have hexec : exec (.guardTrip tile input) s = .next ((s.wr MON_IN_STATUS.DARK_OUT 1 tile input).trip tile input) :=
    congrArg Host.Outcome.next (if_pos (by rw [harmed, htrip]; rfl))
  have hsame := sameBut_wr s MON_IN_STATUS.DARK_OUT 1 tile input 0
  have hgate1 : (s.wr MON_IN_STATUS.DARK_OUT 1 tile input).gateOfInput tile input = some ch := by
    rw [gateOfInput_congr (t := s.wr MON_IN_STATUS.DARK_OUT 1 tile input) (s := s) rfl (hsame.sameOf (by decide)), hgate]
  obtain ⟨hbit, hword, hraised, hmem⟩ := trip_spec hgate1
  exact ⟨_, hexec, hbit, hword, hraised, memSame_of_mem hmem⟩

theorem guardTrip_shows (harmed : s.darkArmed tile input = false) :
    exec (.guardTrip tile input) s = .next (s.wr MON_IN_STATUS.DARK_OUT 1 tile input) :=
  congrArg Host.Outcome.next (if_neg (by simp [harmed]))

/-! #### Persistent trips (R160) -/

/-- The state in which a gate's channel rests under a persistent trip of its input. -/
def State.guardRest (s : State) (tile input ch : Nat) : State :=
  (s.chWr DRV_CH_STATE.STATE stGuardRest ch).setGuardBit DRV_GUARD_PERSIST.PERSIST tile input true

theorem guardPersist_rests (hgate : s.gateOfInput tile input = some ch) (hat : nget s.drv.trippedAt ch = f + 1)
    (htrip : s.chOn DRV_CH_GATEW.TRIP ch = true) (hdark : s.on MON_IN_STATUS.DARK_OUT tile input = true)
    (hpersist : s.guardBit DRV_GUARD_PERSIST.PERSIST tile input = false) : exec (.guardPersist tile input) s = .next
      ((((s.reach (f + 8)).guardRest tile input ch).occur (384 + 40 + tile)).raise (srcTile tile 2) (128 * tile + input)) := by
  refine congrArg Host.Outcome.next ?_
  rw [hgate]
  dsimp only
  rw [hat]
  refine if_neg ?_
  change ¬ (!s.chOn DRV_CH_GATEW.TRIP ch || !s.on MON_IN_STATUS.DARK_OUT tile input ||
    s.guardBit DRV_GUARD_PERSIST.PERSIST tile input) = true
  rw [htrip, hdark, hpersist]
  decide

theorem guardRest_spec (s : State) (tile input ch : Nat) : (s.guardRest tile input ch).outState ch = stGuardRest ∧
    (s.guardRest tile input ch).guardBit DRV_GUARD_PERSIST.PERSIST tile input = true ∧
    RegsBut [DRV_CH_STATE.STATE.key (ch / 2048) (ch % 2048) 0, DRV_GUARD_PERSIST.PERSIST.key tile (input / 32) 0] s
      (s.guardRest tile input ch) :=
  ⟨(rd_wr_clear _ (by decide) _ _ _ _ _ _ _).trans (rd_wr_same _ _ _ _ _ _), guardBit_setGuardBit _ rfl tile input true,
    ((regsBut_of_regs _ rfl).wr (by simp)).wr (by simp)⟩

/-! #### A trip is cleared (R161) -/

/-- The state in which an input's trip has cleared, before its gate's. -/
def State.unlatch (s : State) (tile input : Nat) : State :=
  (s.markSuspended.setGuardBit DRV_GUARD_TRIP.TRIP tile input false).setGuardBit DRV_GUARD_PERSIST.PERSIST tile input false

theorem unlatch_mem (s : State) (tile input : Nat) : (s.unlatch tile input).mem = s.mem := by
  rw [State.unlatch, markSuspended_ton]
  rfl

theorem unlatch_spec (s : State) (tile input : Nat) : (s.unlatch tile input).guardBit DRV_GUARD_TRIP.TRIP tile input = false ∧
    (s.unlatch tile input).guardBit DRV_GUARD_PERSIST.PERSIST tile input = false :=
  ⟨((sameBut_wr _ DRV_GUARD_PERSIST.PERSIST _ _ _ _).guardBit (by decide) tile input).trans
      (guardBit_setGuardBit s.markSuspended rfl tile input false),
    guardBit_setGuardBit _ rfl tile input false⟩

/-- The state in which a gate's word has no trip, nor its channel the frame of one. -/
def State.ungate (s : State) (ch : Nat) : State :=
  { s.chWr DRV_CH_GATEW.TRIP 0 ch with drv := { s.drv with trippedAt := nset s.drv.trippedAt ch 0 } }

theorem ungate_keeps (s : State) (ch : Nat) : (s.ungate ch).mem = s.mem ∧ SameBut [DRV_CH_GATEW.TRIP] s (s.ungate ch) :=
  ⟨rfl, (sameBut_wr s _ _ _ _ _).trans (sameBut_of_regs _ rfl)⟩

/-- A trip that clears leaves at most its gate's word and state to change. -/
theorem tripClear_clears {tile input : Nat} (htrip : s.guardBit DRV_GUARD_TRIP.TRIP tile input = true)
    (hdark : s.on MON_IN_STATUS.DARK_OUT tile input = false) : (s.tripClear tile input).mem = (s.unlatch tile input).mem ∧
    SameBut [DRV_CH_GATEW.TRIP, DRV_CH_STATE.STATE] (s.unlatch tile input) (s.tripClear tile input) := by
  have heq : s.tripClear tile input = match s.gateOfInput tile input with
      | none => s.unlatch tile input
      | some ch => if s.outState ch = stGuardRest then ((s.unlatch tile input).ungate ch).wake ch
          else (s.unlatch tile input).ungate ch := by
    rw [State.tripClear, if_neg (by simp [htrip]), if_neg (by simp [hdark])]
    rfl
  generalize s.unlatch tile input = u at heq
  rw [heq]
  cases s.gateOfInput tile input with
  | none => exact ⟨rfl, sameBut_refl _ u⟩
  | some ch =>
    obtain ⟨hmem, hword⟩ := ungate_keeps u ch
    obtain ⟨hwmem, hstate⟩ := wakes_keep [ch] (u.ungate ch)
    dsimp only
    split
    · exact ⟨hwmem.trans hmem, (hword.mono (by simp)).trans (hstate.mono (by simp))⟩
    · exact ⟨hmem, hword.mono (by simp)⟩

theorem tripClear_refused {tile input : Nat} (htrip : s.guardBit DRV_GUARD_TRIP.TRIP tile input = true)
    (hdark : s.on MON_IN_STATUS.DARK_OUT tile input = true) : s.tripClear tile input = s.wr DRV_STATUS.CLR_REFUSED 1 tile := by
  rw [State.tripClear, if_neg (by simp [htrip]), if_pos hdark]

theorem exec_guardTripClear (hact : s.bar0 die (0x01000030 + 0x200000 * tile + 4 * w) = .act) :
    exec (.guardTripClear die tile w (BitVec.ofNat 32 (2 ^ b.val))) s = .next (s.tripClear tile (32 * w + b)) := by
  refine congrArg Host.Outcome.next ((viaBar0_act hact _).trans ?_)
  rw [bits_of_two_pow]
  rfl

theorem guardTripClear_clears (hact : s.bar0 die (0x01000030 + 0x200000 * tile + 4 * w) = .act)
    (htrip : s.guardBit DRV_GUARD_TRIP.TRIP tile (32 * w + b) = true) (hdark : s.on MON_IN_STATUS.DARK_OUT tile (32 * w + b) = false) :
    ∃ t, exec (.guardTripClear die tile w (BitVec.ofNat 32 (2 ^ b.val))) s = .next t ∧
      t.guardBit DRV_GUARD_TRIP.TRIP tile (32 * w + b) = false ∧ t.guardBit DRV_GUARD_PERSIST.PERSIST tile (32 * w + b) = false ∧
      MemSame s t := by
  obtain ⟨hmem, hsame⟩ := tripClear_clears htrip hdark
  obtain ⟨htrip1, hpersist1⟩ := unlatch_spec s tile (32 * w + b)
  exact ⟨_, exec_guardTripClear hact, (hsame.guardBit (by decide) _ _).trans htrip1, (hsame.guardBit (by decide) _ _).trans hpersist1,
    memSame_of_mem (hmem.trans (unlatch_mem s tile _))⟩

/-! #### Arming (R182) -/

/-- The state in which the arming delay of a guard monitor has begun. -/
def State.arming (s : State) (m : Nat) : State := if nget s.mon.condSince m = 0 then s.startArming m else s

theorem guardArm_arms (hgate : s.gateOfInput tile input = some ch) (hheld : s.heldBlock ch = true)
    (hdark : s.on MON_IN_STATUS.DARK_OUT tile input = false) : exec (.guardArm tile input) s = .next
      (((s.arming (128 * tile + input)).reach (nget (s.arming (128 * tile + input)).mon.armAt (128 * tile + input) - 1)).wr
        MON_IN_STATUS.DARK_ARMED 1 tile input) := by
  refine congrArg Host.Outcome.next ?_
  rw [hgate]
  refine (if_neg (by simp [hheld])).trans ?_
  exact if_neg (by simp [hdark])

/-- A delay that begins now ends ARM_DLY frames from now. -/
theorem reach_startArming (s : State) (tile : Fin 8) (input : Fin 128) :
    max s.now (nget (s.startArming (128 * tile + input)).mon.armAt (128 * tile + input) - 1) =
      s.now + s.rd MON_GUARD_CFG.ARM_DLY tile := by
  have hat : nget (s.startArming (128 * tile + input)).mon.armAt (128 * tile + input) =
      s.now + s.rd MON_GUARD_CFG.ARM_DLY ((128 * tile + input) / 128) + 1 := by
    unfold State.startArming
    dsimp only
    exact nget_nset_same _ _ _
  rw [hat, show (128 * tile.val + input.val) / 128 = tile by omega]
  omega

end

end Sys2Proof.Machine
end

section
/-! The clauses of GuardsAndOutputCheck on the output check, retests and the supply reading (R162 to R166). -/
namespace Sys2Proof.Machine

section
variable {s t : State} {ch : Nat}

/-! #### A channel's visit (R162) -/

/-- The state in which the output check has come to a channel. -/
def State.visit (s : State) (c : Nat) : State :=
  { s with
    now := max s.now (s.nextVisit c)
    drv := { s.drv with visitAt := nset s.drv.visitAt c (max s.now (s.nextVisit c) + 1) } }

/-- The state in which a channel's output check remembers how its last visit ended. -/
def State.setCheck (s : State) (c bad : Nat) : State := { s with drv := { s.drv with checkBad := nset s.drv.checkBad c bad } }

theorem le_nextVisit (s : State) (c : Nat) : s.now ≤ s.nextVisit c := (Nat.le_max_left _ _).trans (Nat.le_add_right _ _)

theorem visit_now (s : State) (c : Nat) : (s.visit c).now = s.nextVisit c := max_eq_right (le_nextVisit s c)

theorem visitAt_visit (s : State) (c : Nat) : nget (s.visit c).drv.visitAt c = (s.visit c).now + 1 := by
  unfold State.visit
  dsimp only
  exact nget_nset_same _ _ _

theorem checkBad_setCheck (s : State) (c bad : Nat) : nget (s.setCheck c bad).drv.checkBad c = bad := by
  unfold State.setCheck
  dsimp only
  exact nget_nset_same _ _ _

/-- A channel's pad is out of its tile's tolerance. -/
def State.padBad (s : State) (tile c : Nat) (m : BitVec 16) : Bool :=
  decide (s.rd DRV_CHK_TOL.TOL tile < ((m.toNat : Int) - s.chRd DRV_CH_LIVE.APPLIED c).natAbs)

/-- A driven channel's pad out of tolerance: the first such visit is remembered, and the next hands the channel over. -/
theorem outputCheckVisit_bad {tile : Fin 8} {c : Fin 2048} {m : BitVec 16} (hen : s.on DRV_CTL.CHK_EN tile = true)
    (hdriven : s.outState (2048 * tile + c) = stDrive ∨ s.outState (2048 * tile + c) = stSpared)
    (hsettled : nget s.drv.changedAt (2048 * tile + c) + 4 ≤ s.nextVisit (2048 * tile + c))
    (htol : s.rd DRV_CHK_TOL.TOL tile < ((m.toNat : Int) - s.rd DRV_CH_LIVE.APPLIED tile c).natAbs) :
    exec (.outputCheckVisit tile c m) s = .next (if nget s.drv.checkBad (2048 * tile + c) = 0
      then (s.visit (2048 * tile + c)).setCheck (2048 * tile + c) 1
      else (((s.visit (2048 * tile + c)).setCheck (2048 * tile + c) 1).setCheck (2048 * tile + c) 0).takeover (2048 * tile + c)) := by
  have hbad : s.padBad tile (2048 * tile + c) m = true := by
    rw [State.padBad, chRd_place]
    exact decide_eq_true htol
  have hnow : ¬ (s.visit (2048 * tile + c)).now < nget s.drv.changedAt (2048 * tile + c) + 4 := by
    rw [visit_now]
    exact Nat.not_lt.mpr hsettled
  have hstate : ¬ (s.outState (2048 * tile + c) ≠ stDrive ∧ s.outState (2048 * tile + c) ≠ stSpared) := by tauto
  refine congrArg Host.Outcome.next ((if_neg (by simp [hen])).trans ((if_neg hnow).trans ((if_neg hstate).trans ?_)))
  change (if (s.padBad tile (2048 * tile + c) m && nget s.drv.checkBad (2048 * tile + c) != 0) = true then
      (((s.visit (2048 * tile + c)).setCheck (2048 * tile + c) (b2n (s.padBad tile (2048 * tile + c) m))).setCheck
        (2048 * tile + c) 0).takeover (2048 * tile + c)
    else (s.visit (2048 * tile + c)).setCheck (2048 * tile + c) (b2n (s.padBad tile (2048 * tile + c) m))) = _
  rw [hbad]
  by_cases h0 : nget s.drv.checkBad (2048 * tile + c) = 0
  · rw [if_pos h0, h0]
    rfl
  · rw [if_neg h0, if_pos (by simp [h0])]
    rfl

/-! #### The spare takes over (R163) -/

/-- The state in which a channel is marked failed, and no takeover in its group runs. -/
def State.failed (s : State) (ch : Nat) : State := (s.endTakeover ch).markFailed ch true

/-- Without a measurement no takeover ends. -/
theorem endTakeover_regs (h : s.cal.meas = []) (ch : Nat) : (s.endTakeover ch).regs = s.regs := by
  rw [State.endTakeover, State.abandonMeas, h]
  rfl

theorem failed_keeps (h : s.cal.meas = []) (ch : Nat) : (s.failed ch).mem = s.mem ∧ (s.failed ch).saf = s.saf ∧
    SameBut [DRV_FAILED.FAILED] s (s.failed ch) := by
  have hframe : TileFrame s (s.endTakeover ch) := (tileFrame_refl s).abandonMeas _
  exact ⟨congrArg (·.mem) hframe.frame, congrArg (·.saf) hframe.frame,
    (sameBut_of_regs _ (endTakeover_regs h ch)).trans (sameBut_wr _ _ _ _ _ _)⟩

theorem spare_reason_place (s : State) (tile : Fin 8) (ch : Fin 2048) :
    (s.spare (2048 * tile + ch)).1 = s.rd DRV_SPARE.REASON tile (ch / 32) := by
  rw [State.spare, show (2048 * tile.val + ch.val) / 2048 = tile by omega, show (2048 * tile.val + ch.val) % 2048 = ch by omega]

/-- What becomes of a failed channel that drives its pad itself. -/
theorem takeover_cases (h : s.outState ch ≠ stSpared) : s.takeover ch =
    if (s.on DRV_CTL.SPARE_AUTO (ch / 2048) && ((s.failed ch).spare ch).1 == 0) = true then
      ((((s.failed ch).occur (384 + 48 + ch / 2048)).chWr DRV_CH_STATE.STATE stSpared ch).setSpare ch 2 (ch % 32)).raise
        (srcTile (ch / 2048) 8) ch
    else (((s.failed ch).occur (384 + 48 + ch / 2048)).chWr DRV_CH_STATE.STATE stFailed ch).raise (srcTile (ch / 2048) 9) ch :=
  if_neg h

theorem setSpare_keeps (s : State) (ch reason pos : Nat) : (s.setSpare ch reason pos).mem = s.mem ∧
    (s.setSpare ch reason pos).saf = s.saf ∧ SameBut [DRV_SPARE.REASON, DRV_SPARE.POSITION] s (s.setSpare ch reason pos) := by
  have hframe : TileFrame s (s.setSpare ch reason pos) := (tileFrame_refl s).setSpare ch reason pos
  refine ⟨congrArg (·.mem) hframe.frame, congrArg (·.saf) hframe.frame, ?_⟩
  have hwr := ((sameBut_refl [DRV_SPARE.REASON, DRV_SPARE.POSITION] s).wr (f := DRV_SPARE.REASON) (by simp) reason (ch / 2048)
    (ch % 2048 / 32) 0).wr (f := DRV_SPARE.POSITION) (by simp) pos (ch / 2048) (ch % 2048 / 32) 0
  unfold State.setSpare
  dsimp only
  split
  · exact hwr.trans (sameBut_of_regs _ rfl)
  · exact hwr

/-- A channel that has failed is marked, goes to its group's idle spare or to FAILED, and a fault is raised. -/
theorem takeover_spec (hmeas : s.cal.meas = []) (h : s.outState ch ≠ stSpared) : (s.takeover ch).markedFailed ch = true ∧
    (s.takeover ch).outState ch = (if s.on DRV_CTL.SPARE_AUTO (ch / 2048) = true ∧ (s.spare ch).1 = 0 then stSpared else stFailed) ∧
    (∃ o, (s.takeover ch).saf.raised = s.saf.raised ++ [o]) ∧ (s.takeover ch).mem = s.mem := by
  obtain ⟨hmem, hsaf, hsame⟩ := failed_keeps hmeas ch
  have hspare : ((s.failed ch).spare ch).1 = (s.spare ch).1 := hsame _ (by decide) _ _ _
  have hmarked : (s.failed ch).markedFailed ch = true := markedFailed_markFailed _ ch true
  rw [takeover_cases h, hspare]
  generalize s.failed ch = u at hmem hsaf hmarked
  have hstate (v : Nat) : ((u.occur (384 + 48 + ch / 2048)).chWr DRV_CH_STATE.STATE v ch).markedFailed ch = true :=
    ((sameBut_wr _ DRV_CH_STATE.STATE v _ _ _).markedFailed (by decide) ch).trans hmarked
  by_cases hidle : s.on DRV_CTL.SPARE_AUTO (ch / 2048) = true ∧ (s.spare ch).1 = 0
  · rw [if_pos (by simp [hidle]), if_pos hidle]
    obtain ⟨hmem2, hsaf2, hsame2⟩ := setSpare_keeps ((u.occur (384 + 48 + ch / 2048)).chWr DRV_CH_STATE.STATE stSpared ch) ch 2
      (ch % 32)
    exact ⟨(hsame2.markedFailed (by decide) ch).trans (hstate _), (hsame2.chRd (by decide) ch).trans (rd_wr_same _ _ _ _ _ _),
      ⟨_, congrArg (·.raised ++ _) (hsaf2.trans hsaf)⟩, hmem2.trans hmem⟩
  · rw [if_neg (by simpa using hidle), if_neg hidle]
    exact ⟨hstate _, rd_wr_same _ _ _ _ _ _, ⟨_, congrArg (·.raised ++ _) hsaf⟩, hmem⟩

/-! #### Retests (R164) -/

/-- A channel whose pad the spare does not drive for it, and which is not marked failed, drives its pad or rests. -/
theorem stateOf_unmarked (hspare : s.spare ch ≠ (2, ch % 32)) (hmark : s.markedFailed ch = false) :
    s.stateOf ch = stDrive ∨ s.stateOf ch = stRest ∨ s.stateOf ch = stGuardRest := by
  unfold State.stateOf
  dsimp only
  split_ifs with _ _ hsp hm
  · exact .inr (.inl rfl)
  · exact .inr (.inr rfl)
  · exact absurd (beq_iff_eq.mp hsp) hspare
  · cases hmark.symm.trans hm
  · exact .inl rfl

theorem outState_wake (s : State) (ch : Nat) : (s.wake ch).outState ch = s.stateOf ch := by
  rw [wake_eq]
  exact (rd_wr_same _ _ _ _ _ _).trans (Nat.mod_eq_of_lt (stateOf_lt s ch))

/-- The state in which a channel's retest ends at a frame, or no retest of it runs. -/
def State.setRetest (s : State) (c due : Nat) : State := { s with drv := { s.drv with retestDue := nset s.drv.retestDue c due } }

theorem retestDue_setRetest (s : State) (c due : Nat) : nget (s.setRetest c due).drv.retestDue c = due := by
  unfold State.setRetest
  dsimp only
  exact nget_nset_same _ _ _

/-- The state in which a spare that stands in for a resting channel is free. -/
def State.freeSpare (s : State) (c : Nat) : State := if s.spare c == (2, c % 32) then s.setSpare c 0 0 else s

theorem freeSpare_spec (s : State) (c : Nat) : (s.freeSpare c).spare c ≠ (2, c % 32) ∧
    (s.freeSpare c).markedFailed c = s.markedFailed c ∧ (s.freeSpare c).mem = s.mem ∧ (s.freeSpare c).now = s.now ∧
    (s.freeSpare c).drv.retestDue = s.drv.retestDue := by
  unfold State.freeSpare
  split
  · obtain ⟨hmem, -, hsame⟩ := setSpare_keeps s c 0 0
    refine ⟨fun h => ?_, hsame.markedFailed (by decide) c, hmem, ((tileFrame_refl s).setSpare c 0 0).now, ?_⟩
    · have hreason : (s.setSpare c 0 0).rd DRV_SPARE.REASON (c / 2048) (c % 2048 / 32) = 0 :=
        (rd_wr_apart _ (by decide) _ _ _ _ _ _ _).trans (rd_wr_zero _ _ _ _ _)
      cases hreason.symm.trans (congrArg Prod.fst h)
    · obtain ⟨pads, hdrv⟩ := setSpare_drv s c 0 0
      rw [hdrv]
  · next h => exact ⟨by simpa using h, rfl, rfl, rfl, rfl⟩

/-- The state in which a channel begins to be handed back. -/
def State.giveBack (s : State) (c : Nat) : State := { s with drv := { s.drv with backAt := nset s.drv.backAt c (s.now + 1) } }

theorem backAt_giveBack (s : State) (c : Nat) : nget (s.giveBack c).drv.backAt c = s.now + 1 := by
  unfold State.giveBack
  dsimp only
  exact nget_nset_same _ _ _

/-- The state in which a channel's retest has ended at frame `f`, and its mark is clear. -/
def State.unmark (s : State) (c f : Nat) : State := ((s.reach f).setRetest c 0).markFailed c false

/-- What a retest that passes at frame `f` makes of its channel. -/
def State.passRetest (s : State) (c f : Nat) : State :=
  if s.outState c = stSpared then (s.unmark c f).giveBack c
  else if s.outState c = stFailed then ((s.unmark c f).freeSpare c).wake c
  else (s.unmark c f).freeSpare c

/-- After a pass the mark is clear; a spared channel has the frame from which it is handed back, and a failed one drives or rests. -/
theorem passRetest_spec (s : State) (c f : Nat) : (s.passRetest c f).now = max s.now f ∧ (s.passRetest c f).markedFailed c = false ∧
    nget (s.passRetest c f).drv.retestDue c = 0 ∧
    (s.outState c = stSpared → (s.passRetest c f).outState c = stSpared ∧
      nget (s.passRetest c f).drv.backAt c = (s.passRetest c f).now + 1) ∧
    (s.outState c = stFailed → (s.passRetest c f).outState c = stDrive ∨ (s.passRetest c f).outState c = stRest ∨
      (s.passRetest c f).outState c = stGuardRest) ∧ (s.passRetest c f).mem = s.mem := by
  have hmark : (s.unmark c f).markedFailed c = false := markedFailed_markFailed _ c false
  have hdue : nget (s.unmark c f).drv.retestDue c = 0 := retestDue_setRetest _ c 0
  unfold State.passRetest
  split
  case isTrue hspared =>
    exact ⟨rfl, hmark, hdue, fun _ => ⟨(rd_wr_clear _ (by decide) _ _ _ _ _ _ _).trans hspared, backAt_giveBack _ c⟩,
      fun h => absurd (hspared.symm.trans h) (by decide), rfl⟩
  case isFalse hspared =>
    obtain ⟨hspare, hfmark, hmem, hnow, hfdue⟩ := freeSpare_spec (s.unmark c f) c
    have hmark1 := hfmark.trans hmark
    have hdue1 := (congrArg (nget · c) hfdue).trans hdue
    split
    case isTrue =>
      obtain ⟨hwmem, hwsame⟩ := wakes_keep [c] ((s.unmark c f).freeSpare c)
      refine ⟨((tileFrame_refl _).wake c).now.trans hnow, (hwsame.markedFailed (by decide) c).trans hmark1, ?_,
        fun h => absurd h hspared, fun _ => ?_, hwmem.trans hmem⟩
      · rw [wake_drv]
        exact hdue1
      · rw [outState_wake]
        exact stateOf_unmarked hspare hmark1
    case isFalse hfailed =>
      exact ⟨hnow, hmark1, hdue1, fun h => absurd h hspared, fun h => absurd h hfailed, hmem⟩

variable {tile : Fin 8} {c : Fin 2048} {f : Nat}

theorem failedRetest_starts {die : Fin 2} {g : Fin 64} {b : Fin 32} (hact : s.bar0 die (0x01000200 + 0x200000 * tile + 4 * g) = .act)
    (hmark : s.markedFailed (2048 * tile + 32 * g + b) = true) (hdue : nget s.drv.retestDue (2048 * tile + 32 * g + b) = 0) :
    exec (.failedRetest die tile g (BitVec.ofNat 32 (2 ^ b.val))) s = .next
      (s.setRetest (2048 * tile + 32 * g + b) (s.now + 128)) := by
  refine congrArg Host.Outcome.next ((viaBar0_act hact _).trans ?_)
  rw [bits_of_two_pow]
  dsimp only
  rw [List.map_cons, List.map_nil, List.filter_cons_of_pos (by rw [hmark, hdue]; rfl)]
  rfl

theorem retestDone_fails (hdue : nget s.drv.retestDue (2048 * tile + c) = f + 1) : exec (.retestDone tile c false) s =
    .next (((s.reach (f + 1)).setRetest (2048 * tile + c) 0).wr DRV_STATUS.CLR_REFUSED 1 tile) := by
  refine congrArg Host.Outcome.next ?_
  dsimp only
  rw [hdue]
  rfl

theorem retestDone_passes (hdue : nget s.drv.retestDue (2048 * tile + c) = f + 1) :
    exec (.retestDone tile c true) s = .next (s.passRetest (2048 * tile + c) (f + 1)) := by
  have hspare : (s.unmark (2048 * tile + c) (f + 1)).spare (2048 * tile + c) = s.spare (2048 * tile + c) :=
    Prod.ext (rd_wr_clear _ (by decide) _ _ _ _ _ _ _) (rd_wr_clear _ (by decide) _ _ _ _ _ _ _)
  refine congrArg Host.Outcome.next ?_
  rw [State.passRetest, State.freeSpare, hspare]
  dsimp only
  rw [hdue]
  rfl

end

end Sys2Proof.Machine

open Sys2Proof Sys2Proof.Machine

/-- Settles O26, clause by clause: the branches of a guard's trip, of its persistence, its clear and its arming; then a visit of the
output check, the takeover, a retest's start and its end, and the reading of the supply. -/
theorem guardsAndOutputCheck : Obligations.GuardsAndOutputCheck := by
  unfold Obligations.GuardsAndOutputCheck
  refine ⟨⟨fun s tile input ch => guardTrip_latches, fun s tile input harmed => ?_,
    fun s tile input ch f hgate hat htrip hdark hpersist => ?_, fun s die tile w b => guardTripClear_clears,
    fun s die tile w b hact htrip hdark => ?_, fun s tile input ch hgate hheld hdark hcond => ?_,
    fun s tile input ch hgate hheld hdark hcond => ?_⟩,
    fun s tile ch m hen hdriven hsettled htol hfirst => ?_, fun s tile ch m hen hdriven hsettled htol hsecond hmeas => ?_,
    fun s die tile g b hact hmark hdue => ?_, fun s tile ch f hdue => ?_, fun s tile ch f hdue => ?_,
    fun s die tile hready => ?_⟩
  · exact ⟨_, guardTrip_shows harmed, rd_wr_one _ rfl _ _ _, onlyRegs_wr _ _ _ _ _ _ (by simp)⟩
  · obtain ⟨hrest, hbit, hregs⟩ := guardRest_spec (s.reach (f + 8)) tile input ch
    exact ⟨_, guardPersist_rests hgate hat htrip hdark hpersist, rfl, hrest, hbit, ⟨_, rfl, rfl⟩, rfl, hregs⟩
  · exact ⟨_, (exec_guardTripClear hact).trans (congrArg _ (tripClear_refused htrip hdark)), rd_wr_one _ rfl _ _ _,
      onlyRegs_wr _ _ _ _ _ _ (by simp)⟩
  · refine ⟨_, guardArm_arms hgate hheld hdark, rd_wr_one _ rfl _ _ _, ?_⟩
    rw [State.arming, if_neg hcond]
    exact ⟨rfl, rfl, (regsBut_of_regs (t := s.reach _) _ rfl).wr (by simp)⟩
  · refine ⟨_, guardArm_arms hgate hheld hdark, rd_wr_one _ rfl _ _ _, ?_⟩
    rw [State.arming, if_pos hcond]
    exact ⟨reach_startArming s tile input, rfl, (regsBut_of_regs (t := (s.startArming _).reach _) _ rfl).wr (by simp)⟩
  · exact ⟨_, (outputCheckVisit_bad hen hdriven hsettled htol).trans (congrArg _ (if_pos hfirst)), visit_now s _,
      checkBad_setCheck _ _ _, visitAt_visit s _, rfl⟩
  · obtain ⟨hmarked, hstate, hraised, hmem⟩ := takeover_spec (s := ((s.visit (2048 * tile + ch)).setCheck (2048 * tile + ch) 1).setCheck
      (2048 * tile + ch) 0) (ch := 2048 * tile + ch) hmeas (hdriven.trans_ne (by decide))
    refine ⟨_, (outputCheckVisit_bad hen (.inl hdriven) hsettled htol).trans (congrArg _ (if_neg hsecond)), hmarked, ?_, hraised,
      memSame_of_mem hmem⟩
    rw [hstate, ← spare_reason_place, show (2048 * tile.val + ch.val) / 2048 = tile by omega]
    rfl
  · exact ⟨_, failedRetest_starts hact hmark hdue, retestDue_setRetest s _ _, rfl⟩
  · obtain ⟨hnow, hmark, hdue0, hspared, hfailed, hmem⟩ := passRetest_spec s (2048 * tile + ch) (f + 1)
    exact ⟨_, retestDone_passes hdue, hnow, hmark, hdue0, hspared, hfailed, memSame_of_mem hmem⟩
  · exact ⟨_, retestDone_fails hdue, rd_wr_one _ rfl _ _ _, retestDue_setRetest _ _ _, rfl,
      (regsBut_of_regs (t := (s.reach _).setRetest _ 0) _ rfl).wr (by simp)⟩
  · exact ⟨_, congrArg Host.Outcome.next (readIvhv_eq s die hready tile), rfl, rd_wr_zero _ _ _ _ _, rfl,
      (regsBut_of_regs (t := s.emit _) _ rfl).wr (by simp)⟩

end

section
/-! The refutations of FastSamplesAreCorrected and SystemCalibration. Both speak of every state: also of one whose latest sample lists a
monitor that the module does not have, and of one whose register file holds a result wider than its field. -/
namespace Sys2Proof.Machine

/-! #### A monitor beyond the module's 1,024 (R13, R173) -/

/-- A state whose latest sample lists monitor 1,024, which the module does not have. -/
def strayMonitor : State :=
  { State.reset with
    now := 1
    samples := [{ frame := 0, vals := [(1024, { code := 0, flags := 0, u := 0 })], absent := [], ring := [] }] }

/-- A register's index of the tile wraps at 8, so that monitor 1,024 has the registers of monitor 0: after the raw code 5 of monitor 0
has been written there, it stands as it was. -/
theorem strayMonitor_raw {t : State} (h : exec (.fastSample [(0, 5)] []) strayMonitor = .next t) : t.mRd MON_IN_FAST.RAW 0 = 0 := by
  cases h
  decide +kernel

/-! #### A result wider than its field (R185) -/

section
variable {s : State} {die : Fin 2} {tile : Fin 8}

theorem exec_syscalApply (hact : s.bar0 die (monAddr tile 0x200) = .act) (hidle : ∀ c ∈ s.mon.cal, c.tile ≠ tile.val) (i : Fin 128)
    (r : Fin 4) : exec (.syscalApply die tile i r) s = .next (s.calApply tile) := by
  have hnone : ¬ s.mon.cal.any (fun c => c.tile == tile.val) = true := by simpa using hidle
  exact congrArg Host.Outcome.next ((viaBar0_act hact _).trans (if_neg hnone))

theorem rd_wrF (s : State) (f g : Fld) (v i j k a b c : Nat) : (s.wrF f v i j k).rd g a b c = (s.wr f v i j k).rd g a b c := rfl

/-- STEP 3 writes as much of the gain as its field holds. -/
theorem rd_gain_calApply {i : Fin 128} {r : Fin 4} (hdark : s.on MON_SYSCAL_STATUS.DARK_DONE tile = true)
    (href : s.on MON_SYSCAL_STATUS.REF_DONE tile = true) (htag : nget s.mon.refOk tile = 4 * i + r + 1) :
    (s.calApply tile).rd MON_IN_CF_FAST.GAIN tile i r = s.rd MON_SYSCAL_RES_FAST.GAIN tile % 2 ^ 16 := by
  unfold State.calApply
  rw [htag, hdark, href, if_neg (by simp), show (4 * i.val + r.val + 1 - 1) / 4 = i by omega,
    show (4 * i.val + r.val + 1 - 1) % 4 = r by omega]
  rw [rd_wr_clear _ (by decide), rd_wrF, rd_wr_clear _ (by decide), rd_wrF, rd_wr_clear _ (by decide), rd_wrF,
    rd_wr_clear _ (by decide), rd_wrF, rd_wr_same]
  rfl

end

/-- A state whose register file holds a fast gain of 17 bits as the result of system calibration. -/
def wideGain : State :=
  let s := (((State.reset.wr HPT_STATUS.READY 1).wr HPT_STATUS.ACTIVE 1).wr MON_SYSCAL_STATUS.DARK_DONE 1).wr MON_SYSCAL_STATUS.REF_DONE 1
  { s with regs := nset s.regs (MON_SYSCAL_RES_FAST.GAIN.key 0 0 0) 0x10000, mon := { s.mon with refOk := [(0, 1)] } }

theorem wideGain_wide : 2 ^ 16 ≤ wideGain.rd MON_SYSCAL_RES_FAST.GAIN := by decide +kernel

end Sys2Proof.Machine

open Sys2Proof Sys2Proof.Machine

/-- Refutes O27, in its clause on the raw code: where the latest sample lists a monitor 1,024, FAST_SAMPLE writes that monitor's old raw
code over the new one of monitor 0. The statement lacks the hypothesis that the samples list none but the module's 1,024 monitors. -/
theorem not_fastSamplesAreCorrected : ¬ Obligations.FastSamplesAreCorrected := by
  unfold Obligations.FastSamplesAreCorrected
  intro h
  obtain ⟨t, x, hexec, -, -, -, -, hcorrected, -⟩ := h strayMonitor [(0, 5)] [] (by decide)
  obtain ⟨hraw, -⟩ := hcorrected 0 5 _ _ rfl rfl rfl
  exact absurd (hraw.symm.trans (strayMonitor_raw hexec)) (by decide)

/-- Refutes O29, in its clause on SYSCAL_APPLY: where the register file holds a gain of 17 bits, the coefficient takes its low 16. The
statement lacks the hypothesis that the results read within the widths of their fields. -/
theorem not_systemCalibration : ¬ Obligations.SystemCalibration := by
  unfold Obligations.SystemCalibration
  rintro ⟨-, -, -, happly, -⟩
  have hdark : wideGain.on MON_SYSCAL_STATUS.DARK_DONE (0 : Fin 8) = true := by decide +kernel
  have href : wideGain.on MON_SYSCAL_STATUS.REF_DONE (0 : Fin 8) = true := by decide +kernel
  have hact : wideGain.bar0 (0 : Fin 2) (monAddr (0 : Fin 8) 0x200) = .act := by decide +kernel
  have hidle : ∀ c ∈ wideGain.mon.cal, c.tile ≠ (0 : Fin 8).val := by decide +kernel
  obtain ⟨t, hexec, hgain, -⟩ := happly wideGain 0 0 0 0 0 0 hact hidle hdark href rfl
  cases (exec_syscalApply hact hidle 0 0).symm.trans hexec
  rw [rd_gain_calApply hdark href rfl] at hgain
  exact absurd (hgain ▸ wideGain_wide) (Nat.not_le.mpr (Nat.mod_lt _ (by decide)))

end

section
/-! SUPPORT. Capture banks (R187 to R190): the status field of a bank, the bank that starts to fill, a trigger, and a bank stored. -/
namespace Sys2Proof.Machine

section
variable {s t : State}

/-- The register fields that a change of a capture's banks writes. -/
def capFlds : List Fld := [MON_CAP_STATUS.BANK0, MON_CAP_STATUS.BANK1, MON_CAP_STATUS.PENDING]

theorem bankFld_cases (b : Nat) : bankFld b = MON_CAP_STATUS.BANK0 ∨ bankFld b = MON_CAP_STATUS.BANK1 := by
  unfold bankFld
  split
  · exact .inl rfl
  · exact .inr rfl

/-- The status fields of different banks share no bit. -/
theorem bankFld_clearOf {b c : Nat} (h : bankFld c ≠ bankFld b) : (bankFld c).clearOf (bankFld b) = true := by
  rcases bankFld_cases c with hc | hc <;> rcases bankFld_cases b with hb | hb <;> rw [hc, hb] at h ⊢
  · exact absurd rfl h
  · decide
  · decide
  · exact absurd rfl h

/-- A fact about the status fields of both banks holds of any bank's. -/
theorem bankFld_ind {p : Fld → Prop} (h : ∀ f ∈ [MON_CAP_STATUS.BANK0, MON_CAP_STATUS.BANK1], p f) (b : Nat) : p (bankFld b) := by
  rcases bankFld_cases b with hb | hb
  · exact hb ▸ h _ (by simp)
  · exact hb ▸ h _ (by simp)

theorem rd_wr_bankFld (s : State) (b tile : Nat) {v : Nat} (hv : v < 4) : (s.wr (bankFld b) v tile).rd (bankFld b) tile = v := by
  rw [rd_wr_same, bankFld_ind (p := fun f => f.w = 2) (by decide) b]
  exact Nat.mod_eq_of_lt hv

theorem bankFld_mem (b : Nat) : bankFld b ∈ capFlds := bankFld_ind (by decide) b

/-- Fields clear of those of both banks are clear of any bank's. -/
theorem rd_wr_bank_clear {f : Fld} (h : (capFlds.all fun g => f.clearOf g) = true) (b v tile i j k : Nat) :
    (s.wr (bankFld b) v tile).rd f i j k = s.rd f i j k :=
  (sameBut_refl capFlds s).wr (bankFld_mem b) v tile 0 0 f h i j k

/-! #### The bank that starts to fill (R188) -/

/-- The settings of a tile's capture that were written come into force. -/
def State.settleCapture (s : State) (tile : Nat) : State :=
  ((((s.settleF MON_CAP_CTL.COUNT tile).settleF MON_CAP_CTL.DECIM tile).settleF MON_CAP_PRE.PRE tile).settleF
    MON_CAP_LIST0.INPUTS tile).settleF MON_CAP_LIST1.INPUTS tile

/-- A tile's bank as it starts to fill, under the settings written. -/
def State.newFill (s : State) (tile b : Nat) : Filling :=
  { tile := tile, bank := b
    inputs := (List.range (2 ^ s.rd MON_CAP_CTL.COUNT tile)).map fun k =>
      bits (s.rd MON_CAP_LIST0.INPUTS tile + 2 ^ 32 * s.rd MON_CAP_LIST1.INPUTS tile) (8 * k) 7
    decim := s.rd MON_CAP_CTL.DECIM tile
    pre := min (s.rd MON_CAP_PRE.PRE tile) (capDepth (2 ^ s.rd MON_CAP_CTL.COUNT tile) - 1)
    skip := 0, kept := [], hit := s.on MON_CAP_STATUS.PENDING tile, hitAt := 0, trig := none, left := 0 }

/-- The state in which a tile's bank has started to fill. -/
def State.startFill (s : State) (tile b : Nat) : State :=
  let u := ((s.settleCapture tile).wr (bankFld b) (if s.on MON_CAP_STATUS.PENDING tile then 2 else 1) tile).wr
    MON_CAP_STATUS.PENDING 0 tile
  { u with mon := { s.mon with fill := s.newFill tile b :: s.mon.fill } }

theorem startFill_regs (s : State) (tile b : Nat) : (s.startFill tile b).regs =
    (((s.settleCapture tile).wr (bankFld b) (if s.on MON_CAP_STATUS.PENDING tile then 2 else 1) tile).wr
      MON_CAP_STATUS.PENDING 0 tile).regs := rfl

theorem startFill_mem (s : State) (tile b : Nat) : (s.startFill tile b).mem = s.mem := by
  simp only [State.startFill, State.settleCapture, wr_mem, settleF_mem]

theorem fillNext_starts {tile b : Nat} (hen : s.on MON_CAP_CTL.EN tile = true) (hnone : ∀ x ∈ s.mon.fill, x.tile ≠ tile)
    (hfree : [0, 1].find? (fun b => s.rd (bankFld b) tile == 0) = some b) : s.fillNext tile = s.startFill tile b := by
  have hany : s.mon.fill.any (fun x => x.tile == tile) = false := by simpa using hnone
  unfold State.fillNext
  rw [if_neg (by rw [hen, hany]; decide), hfree]
  rfl

theorem fillNext_disabled {tile : Nat} (hen : s.on MON_CAP_CTL.EN tile = false) : s.fillNext tile = s := by
  unfold State.fillNext
  exact if_pos (by rw [hen]; rfl)

/-- The next bank to fill is a free one. -/
theorem fillNext_cases (s : State) (tile : Nat) :
    s.fillNext tile = s ∨ ∃ b, s.rd (bankFld b) tile = 0 ∧ s.fillNext tile = s.startFill tile b := by
  unfold State.fillNext
  split
  · exact .inl rfl
  · split
    · exact .inl rfl
    · next b hb => exact .inr ⟨b, beq_iff_eq.mp (List.find?_some (p := fun b => s.rd (bankFld b) tile == 0) hb), rfl⟩

theorem startFill_frame (s : State) (tile b : Nat) : s.startFill tile b =
    { s with regs := (s.startFill tile b).regs, held := (s.startFill tile b).held, mon := (s.startFill tile b).mon } := by
  simp [State.startFill, State.settleCapture]

theorem rd_startFill_bank {tile b : Nat} (h : s.on MON_CAP_STATUS.PENDING tile = false) :
    (s.startFill tile b).rd (bankFld b) tile = 1 := by
  rw [rd_congr (startFill_regs s tile b), h,
    rd_wr_clear _ (bankFld_ind (p := fun f => f.clearOf MON_CAP_STATUS.PENDING = true) (by decide) b)]
  exact rd_wr_bankFld _ b tile (by decide)

theorem regsBut_startFill (s : State) (tile b : Nat) :
    RegsBut [(bankFld b).key tile 0 0, MON_CAP_STATUS.PENDING.key tile 0 0] s (s.startFill tile b) :=
  fun n hn => (congrArg (nget · n) (startFill_regs s tile b)).trans
    ((((regsBut_of_regs (t := s.settleCapture tile) _ rfl).wr (by simp)).wr (by simp)) n hn)

theorem sameBut_startFill (s : State) (tile b : Nat) : SameBut capFlds s (s.startFill tile b) :=
  (((sameBut_of_regs (t := s.settleCapture tile) _ rfl).wr (bankFld_mem b) _ _ _ _).wr (f := MON_CAP_STATUS.PENDING) (by simp [capFlds])
    _ _ _ _).trans (sameBut_of_regs _ rfl)

/-- The next bank to fill changes no memory and none but the capture's status fields; a bank that is not free keeps its status. -/
theorem fillNext_keeps (s : State) (tile : Nat) : (s.fillNext tile).mem = s.mem ∧ SameBut capFlds s (s.fillNext tile) ∧
    ∀ b, s.rd (bankFld b) tile ≠ 0 → (s.fillNext tile).rd (bankFld b) tile = s.rd (bankFld b) tile := by
  rcases fillNext_cases s tile with heq | ⟨b, hfree, heq⟩
  · rw [heq]
    exact ⟨rfl, sameBut_refl _ s, fun _ _ => rfl⟩
  · rw [heq]
    refine ⟨startFill_mem s tile b, sameBut_startFill s tile b, fun c hc => ?_⟩
    have hne : bankFld c ≠ bankFld b := fun e => hc (e ▸ hfree)
    have hpending : (bankFld c).clearOf MON_CAP_STATUS.PENDING = true :=
      bankFld_ind (p := fun f => f.clearOf MON_CAP_STATUS.PENDING = true) (by decide) c
    rw [rd_congr (startFill_regs s tile b), rd_wr_clear _ hpending, rd_wr_clear _ (bankFld_clearOf hne)]
    exact rd_congr rfl _ _ _ _

/-! #### A trigger (R189) -/

/-- The state in which a trigger has come at frame `f` to the bank of a tile that fills. -/
def State.hitFill (s : State) (tile b f : Nat) : State :=
  { s.wr (bankFld b) 2 tile with
    mon := { s.mon with fill := s.mon.fill.map fun x => if x.tile == tile then { x with hit := true, hitAt := f } else x } }

theorem capTrigger_hits {tile : Nat} {b : Filling} (hfind : s.mon.fill.find? (fun b => b.tile == tile && !b.hit) = some b) (f : Nat) :
    s.capTrigger tile f = s.hitFill tile b.bank f := by
  unfold State.capTrigger
  rw [hfind]
  rfl

theorem hitFill_fill {tile b f : Nat} {x : Filling} (hx : x ∈ (s.hitFill tile b f).mon.fill) (htile : x.tile = tile) :
    x.hit = true ∧ x.hitAt = f := by
  obtain ⟨y, -, rfl⟩ := List.mem_map.mp hx
  by_cases hy : y.tile = tile
  · simp [hy]
  · rw [if_neg (by simpa using hy)] at htile
    exact absurd htile hy

theorem rd_hitFill (s : State) (tile b f : Nat) : (s.hitFill tile b f).rd (bankFld b) tile = 2 := rd_wr_bankFld s b tile (by decide)

theorem regsBut_hitFill (s : State) (tile b f : Nat) : RegsBut [(bankFld b).key tile 0 0] s (s.hitFill tile b f) :=
  (regsBut_of_regs (t := s) _ rfl).wr (by simp)

/-- The state in which a tile's time trigger is armed for the frame before `f`, or for none. -/
def State.armCapture (s : State) (tile f : Nat) : State := { s with mon := { s.mon with capTime := nset s.mon.capTime tile f } }

@[simp] theorem armCapture_regs (s : State) (tile f : Nat) : (s.armCapture tile f).regs = s.regs := rfl

theorem capTime_armCapture (s : State) (tile f : Nat) : nget (s.armCapture tile f).mon.capTime tile = f := by
  unfold State.armCapture
  dsimp only
  exact nget_nset_same _ _ _

/-! #### A bank that is full (R188) -/

theorem storeBytes_eq_mem (s : State) (a : Nat) (bs : List Byte) : s.storeBytes a bs = { s with mem := (s.storeBytes a bs).mem } := by
  induction bs generalizing s a with
  | nil => rfl
  | cons b bs ih => exact ih (s.storeB a b) (a + 1)

/-- Bytes that are stored leave those outside their place. -/
theorem loadB_storeBytes_other (s : State) {a x : Nat} (bs : List Byte) (h : x < a ∨ a + bs.length ≤ x) :
    (s.storeBytes a bs).loadB x = s.loadB x := by
  induction bs generalizing s a with
  | nil => rfl
  | cons b bs ih =>
    rw [List.length_cons] at h
    rw [State.storeBytes, ih _ (by omega)]
    exact loadB_storeB_other s _ (by omega)

theorem leBytes_length (n v : Nat) : (leBytes n v).length = n := by
  induction n generalizing v with
  | zero => rfl
  | succ n ih => exact congrArg (· + 1) (ih (v / 256))

/-- The words of a bank as bytes, filled up to the bank's 4,096 words. -/
def bankBytes (data : List Nat) : List Byte := (data ++ List.replicate (4096 - data.length) 0).flatMap fun w => leBytes 2 w

theorem bankBytes_length {data : List Nat} (h : data.length ≤ 4096) : (bankBytes data).length = 8192 := by
  have hlen (l : List Nat) : (l.flatMap fun w => leBytes 2 w).length = 2 * l.length := by
    rw [List.length_flatMap, List.map_congr_left fun w _ => leBytes_length 2 w, List.map_const', List.sum_replicate, smul_eq_mul]
    exact Nat.mul_comm _ _
  rw [bankBytes, hlen, List.length_append, List.length_replicate]
  omega

/-- Samples before the trigger's that a bank holds when it is full. -/
def Filling.preValid (b : Filling) : Nat := min b.pre (b.kept.length - 1 - (capDepth b.inputs.length - 1 - b.pre))

/-- The samples of a full bank, the oldest first. -/
def Filling.data (b : Filling) : List Nat :=
  ((b.kept.take (b.preValid + 1 + (capDepth b.inputs.length - 1 - b.pre))).reverse).flatten

/-- The samples of a bank fit its 4,096 words. -/
theorem data_length {b : Filling} (hkept : ∀ r ∈ b.kept, r.length = b.inputs.length) (hpre : b.pre < capDepth b.inputs.length) :
    b.data.length ≤ 4096 := by
  have hrow : ∀ r ∈ (b.kept.take (b.preValid + 1 + (capDepth b.inputs.length - 1 - b.pre))).reverse, r.length = b.inputs.length :=
    fun r hr => hkept r (List.mem_of_mem_take (List.mem_reverse.mp hr))
  have hcount : b.preValid + 1 + (capDepth b.inputs.length - 1 - b.pre) ≤ capDepth b.inputs.length := by
    have : b.preValid ≤ b.pre := Nat.min_le_left _ _
    omega
  have hsize : capDepth b.inputs.length * b.inputs.length ≤ 4096 :=
    (Nat.mul_le_mul_left _ (Nat.le_max_left _ 1)).trans (Nat.div_mul_le_self 4096 _)
  rw [Filling.data, List.length_flatten, List.map_congr_left hrow, List.map_const', List.sum_replicate, smul_eq_mul,
    List.length_reverse, List.length_take]
  exact (Nat.mul_le_mul_right _ ((Nat.min_le_left _ _).trans hcount)).trans hsize

/-- The registers of a tile that show a full bank. -/
def State.showFull (s : State) (tile : Nat) (b : Filling) (stamp : Nat) : State :=
  (((s.wr (bankFld b.bank) 3 tile).wr MON_CAP_STAMP_LO.TICKS stamp tile b.bank).wr MON_CAP_STAMP_HI.TICKS (stamp / 2 ^ 32) tile
    b.bank).wr MON_CAP_INFO.PRE_VALID b.preValid tile b.bank

/-- The state in which a full bank is stamped and stored, and fills no longer. -/
def State.storeFull (s : State) (tile : Nat) (b : Filling) (stamp : Nat) : State :=
  let u := ((s.showFull tile b stamp).storeBytes (monAddr tile (0x20000 + 0x2000 * b.bank)) (bankBytes b.data)).occur (384 + 16 + tile)
  { u with mon := { u.mon with fill := u.mon.fill.filter fun x => x.tile != tile } }

theorem captureBankFull_stores {tile : Fin 8} {b : Filling} {stamp : Nat}
    (hfind : s.mon.fill.find? (fun b => b.tile == tile.val) = some b) (htrig : b.trig = some stamp) (hleft : b.left = 0) :
    exec (.captureBankFull tile) s = .next ((s.storeFull tile b stamp).fillNext tile) := by
  refine congrArg Host.Outcome.next ?_
  rw [hfind]
  dsimp only
  rw [htrig, hleft]
  rfl

theorem storeFull_regs (s : State) (tile : Nat) (b : Filling) (stamp : Nat) :
    (s.storeFull tile b stamp).regs = (s.showFull tile b stamp).regs := by
  unfold State.storeFull
  rw [storeBytes_eq_mem]
  rfl

theorem rd_storeFull_bank (s : State) (tile : Nat) (b : Filling) (stamp : Nat) :
    (s.storeFull tile b stamp).rd (bankFld b.bank) tile = 3 := by
  have hclear := bankFld_ind (p := fun f => f.clearOf MON_CAP_STAMP_LO.TICKS = true ∧ f.clearOf MON_CAP_STAMP_HI.TICKS = true ∧
    f.clearOf MON_CAP_INFO.PRE_VALID = true) (by decide) b.bank
  obtain ⟨hlo, hhi, hpre⟩ := hclear
  rw [rd_congr (storeFull_regs s tile b stamp), State.showFull, rd_wr_clear _ hpre, rd_wr_clear _ hhi, rd_wr_clear _ hlo]
  exact rd_wr_bankFld s b.bank tile (by decide)

/-- The two halves of the banks' stamps alternate word by word. -/
theorem stamp_key_ne (i j a b : Nat) : MON_CAP_STAMP_LO.TICKS.key i j 0 ≠ MON_CAP_STAMP_HI.TICKS.key a b 0 := fun e => by
  have hlo := Fld.key_residue (f := MON_CAP_STAMP_LO.TICKS) (d := 64) (by decide) i j 0
  have hhi := Fld.key_residue (f := MON_CAP_STAMP_HI.TICKS) (d := 64) (by decide) a b 0
  rw [e, hhi] at hlo
  exact absurd hlo (by decide)

theorem rd_storeFull_stamp (s : State) (tile : Nat) (b : Filling) (stamp : Nat) :
    (s.storeFull tile b stamp).rd MON_CAP_STAMP_LO.TICKS tile b.bank = stamp % 2 ^ 32 ∧
    (s.storeFull tile b stamp).rd MON_CAP_STAMP_HI.TICKS tile b.bank = stamp / 2 ^ 32 % 2 ^ 32 := by
  rw [rd_congr (storeFull_regs s tile b stamp), rd_congr (storeFull_regs s tile b stamp), State.showFull]
  rw [rd_wr_clear _ (by decide), rd_wr_other _ _ (stamp_key_ne _ _ _ _), rd_wr_same, rd_wr_clear _ (by decide), rd_wr_same]
  exact ⟨rfl, rfl⟩

theorem captureBankFull_spec {tile : Fin 8} {b : Filling} {stamp : Nat}
    (hfind : s.mon.fill.find? (fun b => b.tile == tile.val) = some b) (htrig : b.trig = some stamp) (hleft : b.left = 0)
    (hkept : ∀ r ∈ b.kept, r.length = b.inputs.length) (hpre : b.pre < capDepth b.inputs.length) :
    ∃ t, exec (.captureBankFull tile) s = .next t ∧ t.rd (bankFld b.bank) tile = 3 ∧
      t.rd MON_CAP_STAMP_LO.TICKS tile b.bank = stamp % 2 ^ 32 ∧ t.rd MON_CAP_STAMP_HI.TICKS tile b.bank = stamp / 2 ^ 32 % 2 ^ 32 ∧
      ∀ a, a < monAddr tile (0x20000 + 0x2000 * b.bank) ∨ monAddr tile (0x20000 + 0x2000 * b.bank) + 8192 ≤ a → t.loadB a = s.loadB a := by
  obtain ⟨hmem, hsame, hbank⟩ := fillNext_keeps (s.storeFull tile b stamp) tile
  have hfull := rd_storeFull_bank s tile b stamp
  obtain ⟨hlo, hhi⟩ := rd_storeFull_stamp s tile b stamp
  refine ⟨_, captureBankFull_stores hfind htrig hleft, (hbank b.bank (by rw [hfull]; decide)).trans hfull,
    (hsame _ (by decide) _ _ _).trans hlo, (hsame _ (by decide) _ _ _).trans hhi, fun a ha => ?_⟩
  rw [memSame_of_mem hmem a]
  exact loadB_storeBytes_other (s.showFull tile b stamp) _ (by rwa [bankBytes_length (data_length hkept hpre)])

/-! #### Enabling and disabling (R188) -/

theorem captureEnable_starts {die : Fin 2} {tile : Fin 8} (hact : s.bar0 die (monAddr tile 0x300) = .act)
    (hnone : ∀ b ∈ s.mon.fill, b.tile ≠ tile.val) (hfree : s.rd MON_CAP_STATUS.BANK0 tile = 0)
    (hpend : s.on MON_CAP_STATUS.PENDING tile = false) :
    ∃ t b, exec (.captureEnable die tile true) s = .next t ∧ t.rd MON_CAP_CTL.EN tile = 1 ∧ t.rd MON_CAP_STATUS.BANK0 tile = 1 ∧
      t.mon.fill = b :: s.mon.fill ∧ b.tile = tile.val ∧ b.bank = 0 ∧ b.inputs.length = 2 ^ s.rd MON_CAP_CTL.COUNT tile ∧
      b.kept = [] ∧ b.hit = false ∧ t = { s with regs := t.regs, held := t.held, mon := t.mon } ∧
      RegsBut [MON_CAP_CTL.EN.key tile 0 0, MON_CAP_STATUS.BANK0.key tile 0 0, MON_CAP_STATUS.PENDING.key tile 0 0] s t := by
  have hclear {f : Fld} (hf : f.clearOf MON_CAP_CTL.EN = true) : (s.wr MON_CAP_CTL.EN 1 tile).rd f tile = s.rd f tile :=
    rd_wr_clear s hf _ _ _ _ _ _ _
  have hpend1 : (s.wr MON_CAP_CTL.EN 1 tile).on MON_CAP_STATUS.PENDING tile = false := (on_of_rd (hclear (by decide))).trans hpend
  have hlower : (s.wr MON_CAP_CTL.EN 1 tile).rd (bankFld 0) tile = 0 := (hclear (by decide)).trans hfree
  refine ⟨_, _, (congrArg Host.Outcome.next (viaBar0_act hact _)).trans (congrArg Host.Outcome.next
    (fillNext_starts (s := s.wr MON_CAP_CTL.EN 1 tile) (b := 0) (on_of_rd_one (rd_wr_one s rfl _ _ _)) hnone
      (List.find?_cons_of_pos (beq_iff_eq.mpr hlower)))), ?_, rd_startFill_bank hpend1, rfl, rfl, rfl, ?_, rfl, hpend1, ?_, ?_⟩
  · exact (sameBut_startFill _ _ _ _ (by decide) _ _ _).trans (rd_wr_one s rfl _ _ _)
  · rw [State.newFill, List.length_map, List.length_range, hclear (by decide)]
  · exact startFill_frame _ tile 0
  · exact fun n hn => (regsBut_startFill _ tile 0 n fun h => hn (List.mem_of_mem_tail h)).trans
      ((onlyRegs_wr s MON_CAP_CTL.EN 1 tile 0 0 List.mem_cons_self).2 n hn)

/-- The state in which a tile's capture is off and the banks that filled are free. -/
def State.freeFills (s : State) (tile : Nat) : State :=
  (s.mon.fill.filter fun b => b.tile == tile).foldl (fun t b => t.wr (bankFld b.bank) 0 tile) (s.wr MON_CAP_CTL.EN 0 tile)

/-- The state in which a tile's capture is off and its filling banks are abandoned. -/
def State.abandonFills (s : State) (tile : Nat) : State :=
  let u := (s.freeFills tile).wr MON_CAP_STATUS.PENDING 0 tile
  { u with mon := { u.mon with fill := u.mon.fill.filter fun b => b.tile != tile } }

theorem captureEnable_disables {die : Fin 2} {tile : Fin 8} (hact : s.bar0 die (monAddr tile 0x300) = .act) :
    exec (.captureEnable die tile false) s = .next (s.abandonFills tile) :=
  congrArg Host.Outcome.next (viaBar0_act hact _)

theorem abandonFills_spec (s : State) (tile : Nat) : (s.abandonFills tile).rd MON_CAP_CTL.EN tile = 0 ∧
    (s.abandonFills tile).rd MON_CAP_STATUS.PENDING tile = 0 ∧ (∀ b ∈ (s.abandonFills tile).mon.fill, b.tile ≠ tile) ∧
    s.abandonFills tile = { s with regs := (s.abandonFills tile).regs, mon := (s.abandonFills tile).mon } ∧
    RegsBut [MON_CAP_CTL.EN.key tile 0 0, MON_CAP_STATUS.PENDING.key tile 0 0, MON_CAP_STATUS.BANK0.key tile 0 0,
      MON_CAP_STATUS.BANK1.key tile 0 0] s (s.abandonFills tile) := by
  have honly : OnlyRegs [MON_CAP_CTL.EN.key tile 0 0, MON_CAP_STATUS.PENDING.key tile 0 0, MON_CAP_STATUS.BANK0.key tile 0 0,
      MON_CAP_STATUS.BANK1.key tile 0 0] s (s.freeFills tile) := by
    refine OnlyRegs.trans (onlyRegs_wr s MON_CAP_CTL.EN 0 tile 0 0 (by simp)) (onlyRegs_foldl (fun b _ u => ?_) _)
    exact onlyRegs_wr u _ _ _ _ _ (bankFld_ind (p := fun f => f.key tile 0 0 ∈ _) (by simp) b.bank)
  have hsame : SameBut capFlds (s.wr MON_CAP_CTL.EN 0 tile) (s.freeFills tile) :=
    List.foldlRecOn _ _ (sameBut_refl _ _) fun u hu b _ => hu.wr (bankFld_mem b.bank) _ _ _ _
  obtain ⟨hframe, hregs⟩ := honly
  refine ⟨?_, rd_wr_zero _ _ _ _ _, fun b hb => ?_, ?_, RegsBut.wr hregs (by simp)⟩
  · exact (rd_wr_clear _ (by decide) _ _ _ _ _ _ _).trans ((hsame _ (by decide) _ _ _).trans (rd_wr_zero _ _ _ _ _))
  · simpa using (List.mem_filter.mp hb).2
  · unfold State.abandonFills
    rw [hframe]
    rfl

/-! #### A time that is armed (R190) -/

theorem captureTimeArm_eq {die : Fin 2} {tile : Fin 8} {hi : Word} (hact : s.bar0 die (monAddr tile 0x314) = .act)
    (htrig : s.rd MON_CAP_CTL.TRIG tile = 2)
    (hrange : s.timeOut (s.rd MON_CAP_TIME_LO.TICKS tile + 2 ^ 32 * hi.toNat) = false) : exec (.captureTimeArm die tile hi) s =
      .next (if tickDiff (s.rd MON_CAP_TIME_LO.TICKS tile + 2 ^ 32 * hi.toNat) s.ticks < 0 then
        ((s.wr MON_CAP_TIME_HI.TICKS hi.toNat tile).wr MON_CAP_STATUS.LATE 1 tile).capTrigger tile s.now
      else (s.wr MON_CAP_TIME_HI.TICKS hi.toNat tile).armCapture tile
        (fastAt (s.frameAt (s.rd MON_CAP_TIME_LO.TICKS tile + 2 ^ 32 * hi.toNat)) + 1)) :=
  congrArg Host.Outcome.next ((viaBar0_act hact _).trans ((if_neg (not_not.mpr htrig)).trans
    (if_neg (Bool.eq_false_iff.mp hrange))))

theorem capTrigger_capTime (s : State) (tile f : Nat) : (s.capTrigger tile f).mon.capTime = s.mon.capTime := by
  unfold State.capTrigger
  split
  · rfl
  · split_ifs <;> rfl

theorem captureTimeTrigger_hits {tile : Fin 8} {f : Nat} {b : Filling} (hat : nget s.mon.capTime tile = f + 1)
    (htrig : s.rd MON_CAP_CTL.TRIG tile = 2) (hfind : s.mon.fill.find? (fun b => b.tile == tile.val && !b.hit) = some b) :
    exec (.captureTimeTrigger tile) s = .next (((s.reach f).armCapture tile 0).hitFill tile b.bank f) := by
  refine congrArg Host.Outcome.next ?_
  rw [hat]
  exact (if_pos htrig).trans (capTrigger_hits (s := (s.reach f).armCapture tile 0) hfind f)

/-! #### Releasing a bank (R188) -/

theorem captureRelease_frees {die : Fin 2} {tile : Fin 8} (hact : s.bar0 die (monAddr tile 0x320) = .act)
    (hfull : s.rd MON_CAP_STATUS.BANK1 tile = 3) (hoff : s.on MON_CAP_CTL.EN tile = false) :
    exec (.captureRelease die tile 2) s = .next (s.wr MON_CAP_STATUS.BANK1 0 tile) := by
  have hoff1 : (s.wr MON_CAP_STATUS.BANK1 0 tile).on MON_CAP_CTL.EN tile = false :=
    (on_of_rd (rd_wr_clear s (by decide) _ _ _ _ _ _ _)).trans hoff
  have hfree : (if bit (2 : BitVec 2).toNat 1 && s.rd (bankFld 1) tile == 3 then s.wr (bankFld 1) 0 tile else s) =
      s.wr MON_CAP_STATUS.BANK1 0 tile := if_pos (Bool.and_eq_true_iff.mpr ⟨by decide, beq_iff_eq.mpr hfull⟩)
  exact congrArg Host.Outcome.next ((viaBar0_act hact _).trans ((congrArg (State.fillNext · tile) hfree).trans
    (fillNext_disabled hoff1)))

end

end Sys2Proof.Machine

open Sys2Proof Sys2Proof.Machine

/-- Settles O30, clause by clause: the start of the lower bank and the abandoning of what fills, each kind of trigger, the storing of a
full bank and its release. -/
theorem captureSequences : Obligations.CaptureSequences := by
  unfold Obligations.CaptureSequences
  refine ⟨fun s die tile hact hnone hfree hpend => ?_, fun s die tile hact => ?_, fun s die tile b hact htrig hfind hbank => ?_,
    fun s die tile hact htrig => ?_, fun s die tile hi v hact htrig hv hrange hlater => ?_,
    fun s die tile hi v hact htrig hv hrange hpast => ?_, fun s tile f b hat htrig hfind hbank => ?_,
    fun s tile b stamp hfind _ htrig hleft hkept hpre => captureBankFull_spec hfind htrig hleft hkept hpre,
    fun s die tile hact hfull hoff => ?_⟩
  · exact captureEnable_starts hact hnone hfree hpend
  · exact ⟨_, captureEnable_disables hact, abandonFills_spec s tile⟩
  · exact ⟨_, congrArg Host.Outcome.next ((viaBar0_act hact _).trans ((if_pos htrig).trans (capTrigger_hits hfind s.now))),
      rd_hitFill s tile b.bank s.now, fun x hx htile => hitFill_fill hx htile, rfl, regsBut_hitFill s tile b.bank s.now⟩
  · exact congrArg Host.Outcome.next ((viaBar0_act hact _).trans (if_neg htrig))
  · subst hv
    refine ⟨_, (captureTimeArm_eq hact htrig hrange).trans (congrArg _ (if_neg (not_lt.mpr hlater))), ?_, capTime_armCapture _ _ _,
      rfl, ?_⟩
    · rw [rd_congr (armCapture_regs _ _ _), rd_wr_same]
      exact Nat.mod_eq_of_lt hi.isLt
    · exact fun n hn => (congrArg (nget · n) (armCapture_regs _ _ _)).trans ((onlyRegs_wr s _ _ _ _ _ (by simp)).2 n hn)
  · subst hv
    obtain ⟨hframe, hsame⟩ := capTrigger_keeps ((s.wr MON_CAP_TIME_HI.TICKS hi.toNat tile).wr MON_CAP_STATUS.LATE 1 tile) tile s.now
    refine ⟨_, (captureTimeArm_eq hact htrig hrange).trans (congrArg _ (if_pos hpast)), (hsame _ (by decide) _ _ _).trans
      (rd_wr_one _ rfl _ _ _), capTrigger_capTime _ _ _, hframe⟩
  · exact ⟨_, captureTimeTrigger_hits hat htrig hfind, rfl, capTime_armCapture (s.reach f) tile 0, rd_hitFill _ tile b.bank f, rfl,
      (regsBut_of_regs (t := s) _ rfl).wr (by simp)⟩
  · exact ⟨_, captureRelease_frees hact hfull hoff, rd_wr_zero _ _ _ _ _, onlyRegs_wr _ _ _ _ _ _ (by simp)⟩

end

section
/-! SUPPORT. The registers of the monitors' inputs: fields of one input and of another, and what a write at one input leaves. -/
namespace Sys2Proof

/-- The field stands in an input's 128 bytes. -/
def Fld.byInput (f : Fld) : Bool := f.s2 == 0x80 && f.n2 == 128

/-- Two inputs of a tile have keys of their own. -/
theorem Fld.key_input_ne {f : Fld} (h : f.byInput = true) (tile k : Nat) {i j : Nat} (hi : i < 128) (hj : j < 128) (hne : j ≠ i) :
    f.key tile j k ≠ f.key tile i k := by
  simp only [Fld.byInput, Bool.and_eq_true, beq_iff_eq] at h
  rw [Fld.key, Fld.key, h.1, h.2, Nat.mod_eq_of_lt hi, Nat.mod_eq_of_lt hj]
  omega

namespace Machine

theorem input_div (tile : Nat) {i : Nat} (hi : i < 128) : (128 * tile + i) / 128 = tile := by omega
theorem input_mod (tile : Nat) {i : Nat} (hi : i < 128) : (128 * tile + i) % 128 = i := by omega

section
variable {s t : State}

/-- A monitor's field is that of its tile's input. -/
theorem mRd_input (s : State) (f : Fld) (tile : Nat) {i : Nat} (hi : i < 128) : s.mRd f (128 * tile + i) = s.rd f tile i := by
  rw [State.mRd, input_div tile hi, input_mod tile hi]

theorem mOn_input (s : State) (f : Fld) (tile : Nat) {i : Nat} (hi : i < 128) : s.mOn f (128 * tile + i) = s.on f tile i := by
  rw [State.mOn, mRd_input s f tile hi, State.on]

theorem mWr_input (s : State) (f : Fld) (v tile : Nat) {i : Nat} (hi : i < 128) : s.mWr f v (128 * tile + i) = s.wr f v tile i := by
  rw [State.mWr, input_div tile hi, input_mod tile hi]

theorem rangeOf_input (s : State) (tile : Nat) {i : Nat} (hi : i < 128) :
    s.rangeOf (128 * tile + i) = s.eff MON_IN_CFG.RANGE tile i := by
  rw [State.rangeOf, input_div tile hi, input_mod tile hi]

theorem SameBut.mWr {l : List Fld} {f : Fld} (h : SameBut l s t) (hf : f ∈ l) (v m : Nat) : SameBut l s (t.mWr f v m) := h.wr hf v _ _ _

/-- The registers and what waits for a boundary decide the value in force of a field. -/
theorem eff_congr {f : Fld} {i j k : Nat} (hheld : nget t.held (f.key i j k) = nget s.held (f.key i j k))
    (hrd : t.rd f i j k = s.rd f i j k) : t.eff f i j k = s.eff f i j k := by
  rw [State.eff, State.eff, hheld, hrd]

/-- What was written is in force once nothing waits. -/
theorem eff_of_held_zero {f : Fld} {i j k : Nat} (h : nget s.held (f.key i j k) = 0) : s.eff f i j k = s.rd f i j k := by
  rw [State.eff, h]

end

end Machine
end Sys2Proof
end

section
/-! The ranges of the monitors' inputs (R169). -/
namespace Sys2Proof.Machine

section
variable {s t : State}

/-- The register fields that the abandoning of a fine block writes. -/
def blockFlds : List Fld := [MON_IN_STATUS.BUSY, MON_IN_STATUS.OVERRUN, MON_IN_STATUS.PENDING]

/-- Abandoning a block changes its monitor's status, the blocks and their figures. -/
theorem abandonBlock_keeps (s : State) (m : Nat) :
    (∃ regs blocks span, s.abandonBlock m = { s with regs := regs, mon := { s.mon with blocks := blocks, span := span } }) ∧
    SameBut blockFlds s (s.abandonBlock m) := by
  have hbase : SameBut blockFlds s ({ s with mon := { s.mon with
      blocks := s.mon.blocks.filter fun x => x.mon != m, span := adel s.mon.span m } } : State) := sameBut_of_regs _ rfl
  have hbusy := hbase.mWr (f := MON_IN_STATUS.BUSY) (by simp [blockFlds]) 0 m
  unfold State.abandonBlock
  dsimp only
  split
  · exact ⟨⟨_, _, _, rfl⟩, sameBut_of_regs _ rfl⟩
  · split_ifs
    · exact ⟨⟨_, _, _, rfl⟩, hbase⟩
    · exact ⟨⟨_, _, _, rfl⟩, hbusy.mWr (by simp [blockFlds]) 1 m⟩
    · exact ⟨⟨_, _, _, rfl⟩, hbusy.mWr (by simp [blockFlds]) 1 m⟩

/-- The state in which an input's written range is in force, and its samples settle from frame `f`. -/
def State.newRange (s : State) (tile input f : Nat) : State :=
  { (s.settleF MON_IN_CFG.RANGE tile input).wr MON_IN_STATUS.SETTLING 1 tile input with
    mon := { s.mon with
      settle := nset s.mon.settle (128 * tile + input) 5
      rangeAt := nset s.mon.rangeAt (128 * tile + input) (f + 1) } }

theorem applyRange_cases (s : State) (tile input f : Nat) : s.applyRange tile input f =
    if s.rangeOf (128 * tile + input) = s.rd MON_IN_CFG.RANGE tile input then s.settleF MON_IN_CFG.RANGE tile input
    else if (s.newRange tile input f).mon.blocks.any fun b => b.mon == 128 * tile + input && !b.vals.isEmpty then
      (s.newRange tile input f).abandonBlock (128 * tile + input)
    else s.newRange tile input f := rfl

/-- What a range that takes effect changes: the registers of its input, what waits there, and what the monitors keep. -/
theorem applyRange_frame (s : State) (tile input f : Nat) : ∃ regs mon, s.applyRange tile input f =
    { s with regs := regs, held := nset s.held (MON_IN_CFG.RANGE.key tile input 0) 0, mon := mon } := by
  rw [applyRange_cases]
  split_ifs
  · exact ⟨_, _, rfl⟩
  · obtain ⟨⟨regs, blocks, span, heq⟩, -⟩ := abandonBlock_keeps (s.newRange tile input f) (128 * tile + input)
    rw [heq]
    exact ⟨_, _, rfl⟩
  · exact ⟨_, _, rfl⟩

theorem applyRange_held (s : State) (tile input f : Nat) :
    (s.applyRange tile input f).held = nset s.held (MON_IN_CFG.RANGE.key tile input 0) 0 := by
  obtain ⟨regs, mon, heq⟩ := applyRange_frame s tile input f
  rw [heq]

theorem newRange_settle (s : State) (tile input f : Nat) :
    (s.newRange tile input f).mon.settle = nset s.mon.settle (128 * tile + input) 5 := rfl

/-- The mark that an input's samples settle, and how many still do. -/
def State.settling (s : State) (tile input : Nat) : Nat × Nat :=
  (s.rd MON_IN_STATUS.SETTLING tile input, nget s.mon.settle (128 * tile + input))

theorem settling_abandonBlock (s : State) (m tile input : Nat) : (s.abandonBlock m).settling tile input = s.settling tile input := by
  obtain ⟨⟨regs, blocks, span, heq⟩, hsame⟩ := abandonBlock_keeps s m
  rw [State.settling, hsame _ (by decide), heq]
  rfl

theorem settling_newRange (s : State) (tile input f : Nat) : (s.newRange tile input f).settling tile input = (1, 5) := by
  rw [State.settling, newRange_settle, nget_nset_same]
  exact congrArg (·, 5) (rd_wr_one (s.settleF MON_IN_CFG.RANGE tile input) rfl _ _ _)

theorem settling_applyRange {tile input : Nat} (h : s.rangeOf (128 * tile + input) ≠ s.rd MON_IN_CFG.RANGE tile input) (f : Nat) :
    (s.applyRange tile input f).settling tile input = (1, 5) := by
  rw [applyRange_cases, if_neg h]
  split_ifs
  · rw [settling_abandonBlock, settling_newRange]
  · exact settling_newRange s tile input f

/-- An input's range takes effect without the settling of another. -/
theorem settling_applyRange_other {tile i j : Nat} (hi : i < 128) (hj : j < 128) (hne : j ≠ i) (f : Nat) :
    (s.applyRange tile j f).settling tile i = s.settling tile i := by
  have hnew : (s.newRange tile j f).settling tile i = s.settling tile i := by
    rw [State.settling, newRange_settle, nget_nset_other _ _ (by omega)]
    exact congrArg (·, _) (rd_wr_other (s.settleF MON_IN_CFG.RANGE tile j) _ (Fld.key_input_ne rfl tile 0 hj hi hne.symm))
  rw [applyRange_cases]
  split_ifs
  · rfl
  · rw [settling_abandonBlock, hnew]
  · exact hnew

/-- No range that takes effect is written. -/
theorem range_applyRange (s : State) (tile j f : Nat) : ∀ a b c, (s.applyRange tile j f).rd MON_IN_CFG.RANGE a b c =
    s.rd MON_IN_CFG.RANGE a b c := by
  have hnew : ∀ a b c, (s.newRange tile j f).rd MON_IN_CFG.RANGE a b c = s.rd MON_IN_CFG.RANGE a b c := fun _ _ _ =>
    rd_wr_clear (s.settleF MON_IN_CFG.RANGE tile j) (by decide) _ _ _ _ _ _ _
  intro a b c
  rw [applyRange_cases]
  split_ifs
  · rfl
  · rw [(abandonBlock_keeps _ _).2 _ (by decide), hnew]
  · exact hnew a b c

/-- The waiting ranges of the inputs of a list take effect. -/
def State.applyRanges (s : State) (tile f : Nat) (l : List Nat) : State := l.foldl (fun t i => t.applyRange tile i f) s

/-- What ranges that take effect leave of an input that is not among them. -/
theorem applyRanges_others (tile f : Nat) {i : Nat} (hi : i < 128) {l : List Nat} (hl : ∀ j ∈ l, j < 128 ∧ j ≠ i) (s : State) :
    (s.applyRanges tile f l).settling tile i = s.settling tile i ∧
    nget (s.applyRanges tile f l).held (MON_IN_CFG.RANGE.key tile i 0) = nget s.held (MON_IN_CFG.RANGE.key tile i 0) := by
  refine List.foldlRecOn (motive := fun t : State => t.settling tile i = s.settling tile i ∧
    nget t.held (MON_IN_CFG.RANGE.key tile i 0) = nget s.held (MON_IN_CFG.RANGE.key tile i 0)) l _ ⟨rfl, rfl⟩ fun t ⟨hset, hheld⟩ j hj => ?_
  obtain ⟨hlt, hne⟩ := hl j hj
  refine ⟨(settling_applyRange_other hi hlt hne f).trans hset, ?_⟩
  rw [applyRange_held, nget_nset_other _ _ (Fld.key_input_ne rfl tile 0 hlt hi hne.symm), hheld]

theorem applyRanges_frame (s : State) (tile f : Nat) (l : List Nat) :
    (∃ regs held mon, s.applyRanges tile f l = { s with regs := regs, held := held, mon := mon }) ∧
    ∀ a b c, (s.applyRanges tile f l).rd MON_IN_CFG.RANGE a b c = s.rd MON_IN_CFG.RANGE a b c := by
  refine List.foldlRecOn (motive := fun t : State => (∃ regs held mon, t = { s with regs := regs, held := held, mon := mon }) ∧
    ∀ a b c, t.rd MON_IN_CFG.RANGE a b c = s.rd MON_IN_CFG.RANGE a b c) l _ ⟨⟨_, _, _, rfl⟩, fun _ _ _ => rfl⟩
    fun t ⟨⟨regs, held, mon, heq⟩, hrange⟩ j _ => ?_
  obtain ⟨regs1, mon1, heq1⟩ := applyRange_frame t tile j f
  exact ⟨⟨regs1, nset t.held (MON_IN_CFG.RANGE.key tile j 0) 0, mon1, by rw [heq1, heq]⟩,
    fun a b c => (range_applyRange t tile j f a b c).trans (hrange a b c)⟩

/-- Each of the inputs takes the range that was written; where that differs from the one in force, its samples settle. -/
theorem applyRanges_spec (tile f : Nat) {l : List Nat} (hnodup : l.Nodup) (hl : ∀ j ∈ l, j < 128) {i : Nat} (hi : i ∈ l) (s : State) :
    (s.applyRanges tile f l).rangeOf (128 * tile + i) = s.rd MON_IN_CFG.RANGE tile i ∧
    (s.rangeOf (128 * tile + i) ≠ s.rd MON_IN_CFG.RANGE tile i → (s.applyRanges tile f l).settling tile i = (1, 5)) := by
  have hlt := hl i hi
  obtain ⟨l1, l2, rfl⟩ := List.append_of_mem hi
  have hnot : i ∉ l1 ++ l2 := (List.nodup_cons.mp (List.nodup_middle.mp hnodup)).1
  have hothers (l : List Nat) (h : l = l1 ∨ l = l2) : ∀ j ∈ l, j < 128 ∧ j ≠ i := by
    intro j hj
    rcases h with rfl | rfl
    · exact ⟨hl j (by simp [hj]), fun e => hnot (by simp [← e, hj])⟩
    · exact ⟨hl j (by simp [hj]), fun e => hnot (by simp [← e, hj])⟩
  have hsplit : s.applyRanges tile f (l1 ++ i :: l2) = (((s.applyRanges tile f l1).applyRange tile i f).applyRanges tile f l2) := by
    rw [State.applyRanges, List.foldl_append, List.foldl_cons]
    rfl
  obtain ⟨-, hrd⟩ := applyRanges_frame s tile f (l1 ++ i :: l2)
  obtain ⟨-, hrd1⟩ := applyRanges_frame s tile f l1
  obtain ⟨-, hheld1⟩ := applyRanges_others tile f hlt (hothers l1 (.inl rfl)) s
  obtain ⟨hset2, hheld2⟩ := applyRanges_others tile f hlt (hothers l2 (.inr rfl)) ((s.applyRanges tile f l1).applyRange tile i f)
  refine ⟨?_, fun hne => ?_⟩
  · rw [rangeOf_input _ tile hlt, eff_of_held_zero, hrd]
    rw [hsplit, hheld2, applyRange_held, nget_nset_same]
  · rw [hsplit, hset2]
    refine settling_applyRange ?_ f
    rwa [hrd1, rangeOf_input _ tile hlt, eff_congr hheld1 (hrd1 _ _ _), ← rangeOf_input _ tile hlt]

/-- RANGE_APPLY with no commit cycle in progress, where a range of an input waits. -/
theorem rangeApply_applies {tile : Fin 8} {i : Fin 128} (hcycle : s.pln.cycle = none)
    (hwaits : nget s.held (MON_IN_CFG.RANGE.key tile i 0) ≠ 0) : i.val ∈ s.rangesWaiting tile ∧ exec (.rangeApply tile) s = .next
      ((s.reach (fastAt s.now)).applyRanges tile (s.reach (fastAt s.now)).now (s.rangesWaiting tile)) := by
  have hmem : i.val ∈ s.rangesWaiting tile := List.mem_filter.mpr ⟨List.mem_range.mpr i.isLt, by simpa using hwaits⟩
  have hsome : ¬ (s.pln.cycle.isSome || (s.rangesWaiting tile).isEmpty) = true := by
    simpa [hcycle] using List.ne_nil_of_mem hmem
  exact ⟨hmem, congrArg Host.Outcome.next (if_neg hsome)⟩

theorem reach_fastAt (s : State) : (s.reach (fastAt s.now)).now = s.now + (4 - s.now % 4) % 4 := by
  rw [State.reach, fastAt, nextAt, Nat.zero_add]
  exact max_eq_right (Nat.le_add_right _ _)

theorem rangeApply_waits {tile : Fin 8} (h : s.pln.cycle ≠ none) : exec (.rangeApply tile) s = .next s :=
  congrArg Host.Outcome.next (if_pos (by rw [Option.isSome_iff_ne_none.mpr h]; rfl))

end

end Sys2Proof.Machine
end

section
/-! SUPPORT. The fine path's slots (R174 to R180): what the end of a slot leaves, and what a block and its result change. -/
namespace Sys2Proof.Machine

section
variable {s t u : State}

/-- The work of a slot leaves the memory, the clock, and the modulators' slots and zeroes. -/
structure SlotKept (s t : State) : Prop where
  mem : t.mem = s.mem
  now : t.now = s.now
  slotAt : t.mon.slotAt = s.mon.slotAt
  zero : t.mon.zero = s.mon.zero

theorem slotKept_refl (s : State) : SlotKept s s := ⟨rfl, rfl, rfl, rfl⟩

theorem SlotKept.trans (h : SlotKept s t) (g : SlotKept t u) : SlotKept s u :=
  ⟨g.mem.trans h.mem, g.now.trans h.now, g.slotAt.trans h.slotAt, g.zero.trans h.zero⟩

theorem SlotKept.wr (h : SlotKept s t) (f : Fld) (v i j k : Nat) : SlotKept s (t.wr f v i j k) := h.trans ⟨rfl, rfl, rfl, rfl⟩
theorem SlotKept.mWr (h : SlotKept s t) (f : Fld) (v m : Nat) : SlotKept s (t.mWr f v m) := h.trans ⟨rfl, rfl, rfl, rfl⟩
theorem SlotKept.wrF (h : SlotKept s t) (f : Fld) (v i j k : Nat) : SlotKept s (t.wrF f v i j k) := h.trans ⟨rfl, rfl, rfl, rfl⟩
theorem SlotKept.settleF (h : SlotKept s t) (f : Fld) (i j k : Nat) : SlotKept s (t.settleF f i j k) := h.trans ⟨rfl, rfl, rfl, rfl⟩
theorem SlotKept.raise (h : SlotKept s t) (a b c : Nat) : SlotKept s (t.raise a b c) := h.trans ⟨rfl, rfl, rfl, rfl⟩
theorem SlotKept.occur (h : SlotKept s t) (n : Nat) : SlotKept s (t.occur n) := h.trans ⟨rfl, rfl, rfl, rfl⟩
theorem SlotKept.record (h : SlotKept s t) (a b c : Nat) (p : List Byte) : SlotKept s (t.record a b c p) := h.trans ⟨rfl, rfl, rfl, rfl⟩

/-- What the monitors keep beside their modulators' slots and zeroes may change. -/
theorem SlotKept.setMon (h : SlotKept s t) {m : Mon} (hslot : m.slotAt = t.mon.slotAt := by rfl) (hzero : m.zero = t.mon.zero := by rfl) :
    SlotKept s { t with mon := m } := h.trans ⟨rfl, rfl, hslot, hzero⟩

theorem SlotKept.ite {p : Prop} [Decidable p] {a b : State} (ha : SlotKept s a) (hb : SlotKept s b) : SlotKept s (if p then a else b) := by
  split
  · exact ha
  · exact hb

theorem SlotKept.foldl {α : Type} {f : State → α → State} (hf : ∀ {t} a, SlotKept s t → SlotKept s (f t a)) (h : SlotKept s t)
    (l : List α) : SlotKept s (l.foldl f t) := List.foldlRecOn l f h fun _ ht a _ => hf a ht

/-! #### The operations of a slot -/

theorem SlotKept.abandonBlock (h : SlotKept s t) (m : Nat) : SlotKept s (t.abandonBlock m) := by
  obtain ⟨⟨regs, blocks, span, heq⟩, -⟩ := abandonBlock_keeps t m
  rw [heq]
  exact h.trans ⟨rfl, rfl, rfl, rfl⟩

theorem SlotKept.settleFine (h : SlotKept s t) (tile input : Nat) : SlotKept s (t.settleFine tile input) :=
  h.foldl (fun _ hu => (hu.settleF _ _ _ _).settleF _ _ _ _) _

theorem SlotKept.openBlock (h : SlotKept s t) (m f : Nat) (triggered : Bool) : SlotKept s (t.openBlock m f triggered) :=
  (SlotKept.ite ((h.settleF _ _ _ _).mWr _ _ _) (h.settleF _ _ _ _)).setMon

theorem SlotKept.slotBegin (h : SlotKept s t) (m scan st : Nat) : SlotKept s (t.slotBegin m scan st) := by
  unfold State.slotBegin
  dsimp only
  split
  · exact .ite (h.openBlock _ _ _) h
  · exact .ite (.ite (h.openBlock _ _ _) h) (.ite ((h.mWr _ _ _).openBlock _ _ _) h)

theorem SlotKept.beginSlot (h : SlotKept s t) (tile m e : Nat) : SlotKept s (t.beginSlot tile m e) :=
  .ite h (.ite (h.settleFine _ _) ((h.settleFine _ _).slotBegin _ _ _))

theorem SlotKept.spanBegin (h : SlotKept s t) (m : Nat) : SlotKept s (t.spanBegin m) := .ite (h.setMon) h

theorem SlotKept.refBit (h : SlotKept s t) (f latch : Fld) (tile b : Nat) (bad : Bool) : SlotKept s (t.refBit f latch tile b bad) :=
  .ite (((h.wr _ _ _ _ _).wr _ _ _ _ _).raise _ _ _) (h.wr _ _ _ _ _)

theorem SlotKept.refSlot (h : SlotKept s t) (tile m e : Nat) (f : Int) : SlotKept s (t.refSlot tile m e f) :=
  .ite ((h.wr _ _ _ _ _).refBit _ _ _ _ _) (((h.wr _ _ _ _ _).refBit _ _ _ _ _).refBit _ _ _ _ _)

theorem SlotKept.fineResult (h : SlotKept s t) (b : FineBlock) (e : Nat) : SlotKept s (t.fineResult b e) := by
  unfold State.fineResult
  dsimp only
  refine .ite (.mWr (.setMon (.occur (.record ?shown _ _ _ _) _)) _ _ _) (.setMon (.occur (.record ?shown _ _ _ _) _))
  exact .mWr (.mWr (.mWr (.mWr (.mWr (.mWr h _ _ _) _ _ _) _ _ _) _ _ _) _ _ _) _ _ _

theorem SlotKept.inputSlot (h : SlotKept s t) (m e : Nat) (f : Int) (ovr : Bool) : SlotKept s (t.inputSlot m e f ovr) := by
  unfold State.inputSlot
  dsimp only
  split
  · exact .setMon h
  · split
    · exact .setMon h
    · exact .ite (.abandonBlock (.setMon h) _) (.ite (.fineResult (.setMon h) _ _) (.setMon h))

theorem SlotKept.calApply (h : SlotKept s t) (tile : Nat) : SlotKept s (t.calApply tile) :=
  .ite (.wr h _ _ _ _ _) (.wr (.wrF (.wrF (.wrF (.wrF h _ _ _ _ _) _ _ _ _ _) _ _ _ _ _) _ _ _ _ _) _ _ _ _ _)

theorem SlotKept.calStart (h : SlotKept s t) (c : SysCal) : SlotKept s (t.calStart c) := by
  have hshown : SlotKept s (((t.wr MON_SYSCAL_STATUS.INPUT c.input c.tile).wr MON_SYSCAL_STATUS.RANGE c.range c.tile).wr
    MON_SYSCAL_STATUS.REF_DONE 0 c.tile) := .wr (.wr (.wr h _ _ _ _ _) _ _ _ _ _) _ _ _ _ _
  have hreset := SlotKept.ite (p := c.step = 1) (hshown.wr MON_SYSCAL_STATUS.DARK_DONE 0 c.tile 0 0) hshown
  unfold State.calStart
  dsimp only
  exact .ite (.calApply h _) (.ite (.wr (.setMon hreset) _ _ _ _ _) (.ite (.wr (.setMon hreset) _ _ _ _ _)
    (.setMon (.wr (.setMon hreset) _ _ _ _ _))))

theorem SlotKept.calNext (h : SlotKept s t) (tile : Nat) : SlotKept s (t.calNext tile) := by
  unfold State.calNext
  split
  · exact h
  · exact .calStart (.setMon (.wr h _ _ _ _ _)) _

theorem SlotKept.calEnd (h : SlotKept s t) (tile : Nat) : SlotKept s (t.calEnd tile) :=
  .calNext (.setMon (.wr h _ _ _ _ _)) _

theorem SlotKept.scanEnd (h : SlotKept s t) (tile m : Nat) : SlotKept s (t.scanEnd tile m) := by
  unfold State.scanEnd
  dsimp only
  generalize (List.range 8).map (fun k => 8 * m + k) = inputs
  refine .ite (.calEnd (.wr (.setMon ?dropped) _ _ _ _ _) _) (.setMon ?dropped)
  exact .foldl (fun _ hu => .ite (.setMon (.wr hu _ _ _ _ _)) hu) (.foldl (fun _ hu => .settleF hu _ _ _ _) h _) _

/-! #### The end of a slot -/

/-- The frame at which the next slot of a modulator ends. -/
def State.slotFrame (s : State) (tile m : Nat) : Nat := nextAt (max (max s.now 1) (nget s.mon.slotAt (16 * tile + m))) 4000 0

/-- The state before the slot that ends at frame `e`: the slot has begun with the end of the one before, or begins now. -/
def State.slotBegun (s : State) (tile m e : Nat) : State :=
  if nget s.mon.slotAt (16 * tile + m) + 4000 == e + 1 then s else s.beginSlot tile m (e - 4000)

/-- The state at the end `e` of a modulator's slot. -/
def State.slotEnded (s : State) (tile m e : Nat) : State :=
  { (s.slotBegun tile m e).reach e with mon := { (s.slotBegun tile m e).mon with
    slotAt := nset (s.slotBegun tile m e).mon.slotAt (16 * tile + m) (e + 1) } }

/-- The state in which slot 9 has replaced a modulator's zero. -/
def State.setZero (s : State) (q z : Nat) : State := { s with mon := { s.mon with zero := nset s.mon.zero q z } }

/-- A slot's result over the modulator's zero, and whether it was saturated (R176). -/
def State.overZero (s : State) (q : Nat) (filtered : Int) : Int × Bool := sat24 (filtered - toS 24 (nget s.mon.zero q))

/-- What the slot of a modulator that ends at frame `e` does with its filtered value. -/
def State.slotTaken (u s : State) (tile m e : Nat) (filtered : Int) : State :=
  let slot := (e / 4000 + 9) % 10
  let idle := nget s.mon.idle (16 * tile + m) != 0
  if slot < 8 then if idle then u
    else u.inputSlot (128 * tile + 8 * m + slot) e (s.overZero (16 * tile + m) filtered).1 (s.overZero (16 * tile + m) filtered).2
  else if slot = 8 then if idle then u else u.refSlot tile m e (s.overZero (16 * tile + m) filtered).1
  else (if idle then u else u.setZero (16 * tile + m) (ofS 24 filtered)).scanEnd tile m

theorem exec_fineSlotEnd (s : State) (tile : Fin 8) (m : Fin 16) (v : List (BitVec 24)) : exec (.fineSlotEnd tile m v) s =
    .next (((((s.slotEnded tile m (s.slotFrame tile m)).slotTaken s tile m (s.slotFrame tile m) (slotFilter v)).beginSlot tile m
      (s.slotFrame tile m)).spanBegin (128 * tile + 8 * m + ((s.slotFrame tile m / 4000 + 9) % 10 + 1) % 10))) := rfl

end

end Sys2Proof.Machine
end

section
/-! The clauses of RangesLossAndFineResults on the fine path (R175 to R179). -/
namespace Sys2Proof.Machine

section
variable {s t u : State} {tile m e : Nat}

/-! #### The clock, the slots and the zero (R175, R176) -/

theorem le_slotFrame (s : State) (tile m : Nat) : s.now ≤ s.slotFrame tile m :=
  ((Nat.le_max_left _ 1).trans (Nat.le_max_left _ _)).trans (Nat.le_add_right _ _)

theorem slotKept_slotBegun (s : State) (tile m e : Nat) : SlotKept s (s.slotBegun tile m e) :=
  .ite (slotKept_refl s) ((slotKept_refl s).beginSlot _ _ _)

theorem slotEnded_spec (h : s.now ≤ e) : (s.slotEnded tile m e).now = e ∧ (s.slotEnded tile m e).mem = s.mem ∧
    nget (s.slotEnded tile m e).mon.slotAt (16 * tile + m) = e + 1 := by
  have hbegun := slotKept_slotBegun s tile m e
  refine ⟨max_eq_right (hbegun.now.trans_le h), hbegun.mem, ?_⟩
  unfold State.slotEnded
  dsimp only
  exact nget_nset_same _ _ _

theorem slotTaken_keeps (u s : State) (tile m e : Nat) (x : Int) : (u.slotTaken s tile m e x).mem = u.mem ∧
    (u.slotTaken s tile m e x).now = u.now ∧ (u.slotTaken s tile m e x).mon.slotAt = u.mon.slotAt := by
  have hkept {v w : State} (h : SlotKept v w) (hv : v.mem = u.mem ∧ v.now = u.now ∧ v.mon.slotAt = u.mon.slotAt) :
      w.mem = u.mem ∧ w.now = u.now ∧ w.mon.slotAt = u.mon.slotAt :=
    ⟨h.mem.trans hv.1, h.now.trans hv.2.1, h.slotAt.trans hv.2.2⟩
  have hself := slotKept_refl u
  unfold State.slotTaken
  dsimp only
  split_ifs
  · exact ⟨rfl, rfl, rfl⟩
  · exact hkept (hself.inputSlot _ _ _ _) ⟨rfl, rfl, rfl⟩
  · exact ⟨rfl, rfl, rfl⟩
  · exact hkept (hself.refSlot _ _ _ _) ⟨rfl, rfl, rfl⟩
  · exact hkept (hself.scanEnd _ _) ⟨rfl, rfl, rfl⟩
  · exact hkept ((slotKept_refl _).scanEnd _ _) ⟨rfl, rfl, rfl⟩

/-- Slot 9 of a modulator that runs replaces its zero. -/
theorem slotTaken_zero (u : State) {x : Int} (hslot : e / 4000 % 10 = 0) (hidle : nget s.mon.idle (16 * tile + m) = 0) :
    nget (u.slotTaken s tile m e x).mon.zero (16 * tile + m) = ofS 24 x := by
  have hset : nget (u.setZero (16 * tile + m) (ofS 24 x)).mon.zero (16 * tile + m) = ofS 24 x := by
    unfold State.setZero
    dsimp only
    exact nget_nset_same _ _ _
  unfold State.slotTaken
  dsimp only
  rw [if_neg (by omega), if_neg (by omega), hidle, if_neg (by decide), ((slotKept_refl _).scanEnd tile m).zero]
  exact hset

theorem fineSlotEnd_ends (s : State) (tile : Fin 8) (m : Fin 16) (v : List (BitVec 24)) : ∃ t,
    exec (.fineSlotEnd tile m v) s = .next t ∧ t.now = s.slotFrame tile m ∧
    nget t.mon.slotAt (16 * tile + m) = s.slotFrame tile m + 1 ∧ MemSame s t ∧
    (s.slotFrame tile m / 4000 % 10 = 0 → nget s.mon.idle (16 * tile + m) = 0 →
      nget t.mon.zero (16 * tile + m) = ofS 24 (slotFilter v)) := by
  obtain ⟨hnow, hmem, hslot⟩ := slotEnded_spec (m := m) (le_slotFrame s tile m)
  obtain ⟨hmem1, hnow1, hslot1⟩ := slotTaken_keeps (s.slotEnded tile m (s.slotFrame tile m)) s tile m (s.slotFrame tile m) (slotFilter v)
  have hkept := ((slotKept_refl ((s.slotEnded tile m (s.slotFrame tile m)).slotTaken s tile m (s.slotFrame tile m)
    (slotFilter v))).beginSlot tile m (s.slotFrame tile m)).spanBegin
    (128 * tile + 8 * m + ((s.slotFrame tile m / 4000 + 9) % 10 + 1) % 10)
  refine ⟨_, exec_fineSlotEnd s tile m v, (hkept.now.trans hnow1).trans hnow, ?_, memSame_of_mem ((hkept.mem.trans hmem1).trans hmem),
    fun hzero hidle => ?_⟩
  · rw [hkept.slotAt, hslot1, hslot]
  · rw [hkept.zero, slotTaken_zero _ hzero hidle]

/-! #### The result of a block (R177, R179) -/

/-- The mean of a block's slot results, rounded. -/
def FineBlock.mean (b : FineBlock) : Int := (b.vals.sum + (b.vals.length : Int) / 2) / (b.vals.length : Int)

/-- The corrected result of a block, before it is saturated. -/
def State.fineValue (s : State) (b : FineBlock) : Int :=
  ((b.mean - toS 24 (s.eff MON_IN_CF_FOFF.FOFF (b.mon / 128) (b.mon % 128) (s.rangeOf b.mon))) *
    (s.eff MON_IN_CF_FGAIN.FGAIN (b.mon / 128) (b.mon % 128) (s.rangeOf b.mon) : Nat) + 2 ^ 21) / 2 ^ 22

/-- The registers that show a block's result. -/
def State.showFine (s : State) (b : FineBlock) : State :=
  (((((s.mWr MON_IN_FINE.VALUE (ofS 24 (sat24 (s.fineValue b)).1) b.mon).mWr MON_IN_FINE.SEQ (s.mRd MON_IN_FINE.SEQ b.mon + 1) b.mon).mWr
    MON_IN_FINE.TRIGGERED (b2n b.triggered) b.mon).mWr MON_IN_FINE.OVR (b2n (b.ovr || (sat24 (s.fineValue b)).2)) b.mon).mWr
    MON_IN_FINE.SUSPECT (b2n b.suspect) b.mon).mWr MON_IN_FINE_RAW.RAW (ofS 24 b.mean) b.mon

theorem ofS_lt (w : Nat) (x : Int) : ofS w x < 2 ^ w := by
  have hpos : (0 : Int) < 2 ^ w := by positivity
  have hnonneg := Int.emod_nonneg x hpos.ne'
  have hlt := Int.emod_lt_of_pos x hpos
  rw [ofS, ← Int.ofNat_lt, Int.toNat_of_nonneg hnonneg]
  exact_mod_cast hlt

theorem mRd_mWr_clear (s : State) {f g : Fld} (h : g.clearOf f = true) (v m n : Nat) : (s.mWr f v m).mRd g n = s.mRd g n :=
  rd_wr_clear s h _ _ _ _ _ _ _

theorem mRd_mWr_same (s : State) (f : Fld) (v m : Nat) : (s.mWr f v m).mRd f m = v % 2 ^ f.w := rd_wr_same s f v _ _ _

theorem showFine_shows (s : State) (b : FineBlock) : (s.showFine b).mRd MON_IN_FINE_RAW.RAW b.mon = ofS 24 b.mean ∧
    (s.showFine b).mRd MON_IN_FINE.VALUE b.mon = ofS 24 (sat24 (s.fineValue b)).1 ∧
    (s.showFine b).mRd MON_IN_FINE.SEQ b.mon = (s.mRd MON_IN_FINE.SEQ b.mon + 1) % 16 := by
  unfold State.showFine
  refine ⟨?_, ?_, ?_⟩
  · rw [mRd_mWr_same]
    exact Nat.mod_eq_of_lt (ofS_lt 24 _)
  · iterate 5 rw [mRd_mWr_clear _ (by decide)]
    rw [mRd_mWr_same]
    exact Nat.mod_eq_of_lt (ofS_lt 24 _)
  · iterate 4 rw [mRd_mWr_clear _ (by decide)]
    rw [mRd_mWr_same]
    rfl

/-- The state in which a monitor has no block. -/
def State.endBlock (s : State) (m : Nat) : State :=
  { s with mon := { s.mon with blocks := s.mon.blocks.filter fun x => x.mon != m, span := adel s.mon.span m } }

theorem fineResult_cases (s : State) (b : FineBlock) (e : Nat) : ∃ source stamp payload event,
    s.fineResult b e = if b.triggered then
      ((((s.showFine b).record 2 source stamp payload).occur event).endBlock b.mon).mWr MON_IN_STATUS.BUSY 0 b.mon
    else (((s.showFine b).record 2 source stamp payload).occur event).endBlock b.mon := ⟨_, _, _, _, rfl⟩

/-- A block's result takes its registers, but for the mark of a triggered block, and ends the monitor's blocks. -/
theorem fineResult_keeps (s : State) (b : FineBlock) (e : Nat) : SameBut [MON_IN_STATUS.BUSY] (s.showFine b) (s.fineResult b e) ∧
    (s.fineResult b e).mon.blocks = s.mon.blocks.filter fun x => x.mon != b.mon := by
  obtain ⟨source, stamp, payload, event, heq⟩ := fineResult_cases s b e
  have hended : SameBut [MON_IN_STATUS.BUSY] (s.showFine b)
      ((((s.showFine b).record 2 source stamp payload).occur event).endBlock b.mon) := sameBut_of_regs _ rfl
  rw [heq]
  split
  · exact ⟨hended.mWr (by simp) _ _, rfl⟩
  · exact ⟨hended, rfl⟩

/-! #### The slot that completes a block -/

/-- The state in which the calibration steps that take an input's slots have taken one that ends at frame `e`. -/
def State.calTaken (s : State) (m e : Nat) (f : Int) : State :=
  { s with mon := { s.mon with cal := s.mon.cal.map fun c =>
    if 128 * c.tile + c.input = m ∧ c.since ≤ e - 4000 ∧ c.slots.length < 50 then { c with slots := c.slots ++ [f] } else c } }

/-- The slot that a block lacked completes it. -/
theorem inputSlot_completes {m e : Nat} {f : Int} {b : FineBlock} (ovr : Bool) (hmode : s.eff MON_IN_CFG.FMODE (m / 128) (m % 128) ≠ 0)
    (hfind : s.mon.blocks.find? (fun b => b.mon == m && b.need != 0) = some b) (hrange : nget s.mon.rangeAt m = 0)
    (hneed : b.need = b.vals.length + 1) : ∃ suspect sat, s.inputSlot m e f ovr =
      (s.calTaken m e f).fineResult { b with vals := b.vals ++ [f], suspect := suspect, ovr := sat } e := by
  unfold State.inputSlot
  dsimp only
  rw [if_neg hmode, hfind]
  dsimp only
  rw [if_neg (by simp [hrange]), if_pos (by simp [hneed])]
  exact ⟨_, _, rfl⟩

theorem openBlock_keeps (s : State) (m f : Nat) (triggered : Bool) : SameBut blockFlds s (s.openBlock m f triggered) ∧
    ∀ y ∈ (s.openBlock m f triggered).mon.blocks, y ∈ s.mon.blocks ∨ y.mon = m := by
  have hsettled : SameBut blockFlds s (s.settleF MON_IN_CFG.ODR (m / 128) (m % 128)) := sameBut_of_regs _ rfl
  have hblocks {b : FineBlock} (hb : b.mon = m) {l : List FineBlock} : ∀ y ∈ b :: l.filter fun x => x.mon != m, y ∈ l ∨ y.mon = m := by
    intro y hy
    rcases List.mem_cons.mp hy with rfl | hy
    · exact .inr hb
    · exact .inl (List.mem_filter.mp hy).1
  cases triggered
  · exact ⟨hsettled.trans (sameBut_of_regs _ rfl), hblocks rfl⟩
  · exact ⟨(hsettled.mWr (f := MON_IN_STATUS.BUSY) (by simp [blockFlds]) 1 m).trans (sameBut_of_regs _ rfl), hblocks rfl⟩

/-- What the begin of an input's slot changes: the marks of a triggered block, and that input's blocks. -/
theorem slotBegin_keeps (s : State) (m scan st : Nat) : SameBut blockFlds s (s.slotBegin m scan st) ∧
    ∀ y ∈ (s.slotBegin m scan st).mon.blocks, y ∈ s.mon.blocks ∨ y.mon = m := by
  have hself : SameBut blockFlds s s ∧ ∀ y ∈ s.mon.blocks, y ∈ s.mon.blocks ∨ y.mon = m := ⟨sameBut_refl _ s, fun _ => .inl⟩
  unfold State.slotBegin
  dsimp only
  split
  · split_ifs
    · exact openBlock_keeps s m _ true
    · exact hself
  · split_ifs
    · exact openBlock_keeps s m 0 false
    · exact hself
    · obtain ⟨hsame, hblocks⟩ := openBlock_keeps (s.mWr MON_IN_STATUS.PENDING 0 m) m 0 true
      exact ⟨(hself.1.mWr (by simp [blockFlds]) 0 m).trans hsame, hblocks⟩
    · exact hself

theorem settleFine_held (s : State) (tile input : Nat) : ∃ held, s.settleFine tile input = { s with held := held } := by
  refine List.foldlRecOn (motive := fun t : State => ∃ held, t = { s with held := held }) (List.range 4) _ ⟨_, rfl⟩ fun t ⟨_, ht⟩ r _ => ?_
  rw [ht]
  exact ⟨_, rfl⟩

theorem beginSlot_keeps (s : State) (tile m e : Nat) : SameBut blockFlds s (s.beginSlot tile m e) ∧
    ∀ y ∈ (s.beginSlot tile m e).mon.blocks, y ∈ s.mon.blocks ∨ y.mon = 128 * tile + 8 * m + e / 4000 % 10 := by
  have hregs (i : Nat) : SameBut blockFlds s (s.settleFine tile i) := by
    obtain ⟨held, heq⟩ := settleFine_held s tile i
    exact sameBut_of_regs _ (by rw [heq])
  have hmon (i : Nat) : (s.settleFine tile i).mon = s.mon := by
    obtain ⟨held, heq⟩ := settleFine_held s tile i
    rw [heq]
  unfold State.beginSlot
  dsimp only
  split_ifs
  · exact ⟨sameBut_refl _ s, fun _ => .inl⟩
  · exact ⟨hregs _, fun y hy => .inl (by rwa [hmon] at hy)⟩
  · obtain ⟨hsame, hblocks⟩ := slotBegin_keeps (s.settleFine tile (8 * m + e / 4000 % 10)) (128 * tile + 8 * m + e / 4000 % 10)
      (secIndex e / 40000) e
    exact ⟨(hregs _).trans hsame, fun y hy => hmon (8 * m + e / 4000 % 10) ▸ hblocks y hy⟩

theorem spanBegin_span (s : State) (m : Nat) : ∃ span, s.spanBegin m = { s with mon := { s.mon with span := span } } := by
  unfold State.spanBegin
  split
  · exact ⟨_, rfl⟩
  · exact ⟨_, rfl⟩

/-- What an input's slot that completes a block shows. -/
theorem inputSlot_shows {m e : Nat} {f : Int} {b : FineBlock} (ovr : Bool) (hmode : s.eff MON_IN_CFG.FMODE (m / 128) (m % 128) ≠ 0)
    (hfind : s.mon.blocks.find? (fun b => b.mon == m && b.need != 0) = some b) (hrange : nget s.mon.rangeAt m = 0)
    (hneed : b.need = b.vals.length + 1) : ∃ c : FineBlock, c.mon = m ∧ c.vals = b.vals ++ [f] ∧
      (s.inputSlot m e f ovr).mRd MON_IN_FINE_RAW.RAW m = ofS 24 c.mean ∧
      (s.inputSlot m e f ovr).mRd MON_IN_FINE.VALUE m = ofS 24 (sat24 (s.fineValue c)).1 ∧
      (s.inputSlot m e f ovr).mRd MON_IN_FINE.SEQ m = (s.mRd MON_IN_FINE.SEQ m + 1) % 16 ∧
      ∀ y ∈ (s.inputSlot m e f ovr).mon.blocks, y.mon ≠ m := by
  have hmon : b.mon = m :=
    beq_iff_eq.mp (Bool.and_eq_true_iff.mp (List.find?_some (p := fun b : FineBlock => b.mon == m && b.need != 0) hfind)).1
  obtain ⟨suspect, sat, hcompletes⟩ := inputSlot_completes (e := e) (f := f) ovr hmode hfind hrange hneed
  rw [hcompletes]
  generalize hc : ({ b with vals := b.vals ++ [f], suspect := suspect, ovr := sat } : FineBlock) = c
  have hcmon : c.mon = m := by rw [← hc, hmon]
  obtain ⟨hsame, hblocks⟩ := fineResult_keeps (s.calTaken m e f) c e
  obtain ⟨hraw, hvalue, hseq⟩ := showFine_shows (s.calTaken m e f) c
  rw [hcmon] at hraw hvalue hseq
  refine ⟨c, hcmon, by rw [← hc], (hsame _ (by decide) _ _ _).trans hraw, (hsame _ (by decide) _ _ _).trans hvalue,
    (hsame _ (by decide) _ _ _).trans hseq, fun y hy => ?_⟩
  rw [hblocks] at hy
  simpa [hcmon] using (List.mem_filter.mp hy).2

/-- The slot that completes a block of n results gives their mean, corrected, and one more SEQ. -/
theorem fineSlotEnd_completes {tile : Fin 8} {md : Fin 16} {v : List (BitVec 24)} {k x : Nat} {b : FineBlock}
    (hbegun : nget s.mon.slotAt (16 * tile + md) + 4000 = s.slotFrame tile md + 1) (hslot : s.slotFrame tile md / 4000 % 10 = k + 1)
    (hk : k < 8) (hx : x = 128 * tile + 8 * md + k) (hidle : nget s.mon.idle (16 * tile + md) = 0)
    (hmode : s.eff MON_IN_CFG.FMODE tile (8 * md + k) = 1) (hrange : nget s.mon.rangeAt x = 0)
    (hfind : s.mon.blocks.find? (fun b => b.mon == x && b.need != 0) = some b) (hneed : b.need = b.vals.length + 1) :
    ∃ c : FineBlock, c.mon = x ∧ c.vals = b.vals ++ [(s.overZero (16 * tile + md) (slotFilter v)).1] ∧
      ∃ t, exec (.fineSlotEnd tile md v) s = .next t ∧ t.mRd MON_IN_FINE_RAW.RAW x = ofS 24 c.mean ∧
        t.mRd MON_IN_FINE.VALUE x = ofS 24 (sat24 (s.fineValue c)).1 ∧
        t.mRd MON_IN_FINE.SEQ x = (s.mRd MON_IN_FINE.SEQ x + 1) % 16 ∧ (∀ y ∈ t.mon.blocks, y.mon ≠ x) ∧ MemSame s t := by
  have htile : x / 128 = tile := by omega
  have hinput : x % 128 = 8 * md + k := by omega
  obtain ⟨t, hexec, -, -, hmem, -⟩ := fineSlotEnd_ends s tile md v
  -- The slot had begun, so that nothing but its end has come.
  have hbegun : s.slotBegun tile md (s.slotFrame tile md) = s := if_pos (beq_iff_eq.mpr hbegun)
  have hended : s.slotEnded tile md (s.slotFrame tile md) = { s.reach (s.slotFrame tile md) with mon := { s.mon with
      slotAt := nset s.mon.slotAt (16 * tile + md) (s.slotFrame tile md + 1) } } := by rw [State.slotEnded, hbegun]
  have hstep := (exec_fineSlotEnd s tile md v).symm.trans hexec
  rw [hended] at hstep
  generalize s.slotFrame tile md = e at *
  generalize hu : ({ s.reach e with mon := { s.mon with slotAt := nset s.mon.slotAt (16 * tile + md) (e + 1) } } : State) = u at *
  obtain ⟨c, hc, hvals, hraw, hvalue, hseq, hblocks⟩ := inputSlot_shows (s := u) (m := x) (e := e)
    (f := (s.overZero (16 * tile + md) (slotFilter v)).1) (b := b) (s.overZero (16 * tile + md) (slotFilter v)).2
    (by rw [htile, hinput, ← hu]; exact hmode.trans_ne Nat.one_ne_zero) (by rw [← hu]; exact hfind) (by rw [← hu]; exact hrange) hneed
  have htaken : u.slotTaken s tile md e (slotFilter v) = u.inputSlot x e (s.overZero (16 * tile + md) (slotFilter v)).1
      (s.overZero (16 * tile + md) (slotFilter v)).2 := by
    unfold State.slotTaken
    dsimp only
    rw [show (e / 4000 + 9) % 10 = k by omega, if_pos hk, hidle, if_neg (by decide), hx]
  rw [htaken] at hstep
  generalize u.inputSlot x e _ _ = w at *
  -- What begins with the end of the slot leaves the input's result.
  obtain ⟨hsame, hkept⟩ := beginSlot_keeps w tile md e
  obtain ⟨span, hspan⟩ := spanBegin_span (w.beginSlot tile md e) (128 * tile + 8 * md + ((e / 4000 + 9) % 10 + 1) % 10)
  rw [hspan] at hstep
  have ht := Host.Outcome.next.inj hstep
  have hrd {f : Fld} (hf : (blockFlds.all fun g => f.clearOf g) = true) : t.mRd f x = w.mRd f x := by
    rw [← ht]
    exact hsame f hf _ _ _
  refine ⟨c, hc, hvals, t, hexec, (hrd (by decide)).trans hraw, (hrd (by decide)).trans (hvalue.trans ?_),
    (hrd (by decide)).trans (hseq.trans ?_), fun y hy => ?_, hmem⟩
  · rw [← hu]; rfl
  · rw [← hu]; rfl
  · rw [← ht] at hy
    rcases hkept y hy with hy | hy
    · exact hblocks y hy
    · omega

end

end Sys2Proof.Machine
end

section
/-! The clauses of RangesLossAndFineResults on the triggers of the fine path (R178) and on the LOSS comparators (R183). -/
namespace Sys2Proof.Machine

section
variable {s t : State} {die : Fin 2} {tile : Fin 8} {i : Fin 128} {w : Fin 4} {b : Fin 32}

/-! #### A trigger (R178) -/

/-- The tile and the input of a bit of a word of the trigger registers. -/
theorem input_word {x : Nat} (hx : x = 128 * tile + 32 * w + b) : x / 128 = tile ∧ x % 128 = 32 * w + b := by omega

theorem exec_fineTrigger (hact : s.bar0 die (monAddr tile (0x20 + 4 * w)) = .act) :
    exec (.fineTrigger die tile w (BitVec.ofNat 32 (2 ^ b.val))) s = .next (s.fineTrigger (128 * tile + 32 * w + b) s.now) := by
  refine congrArg Host.Outcome.next ((viaBar0_act hact _).trans ?_)
  rw [bits_of_two_pow]
  rfl

theorem fineTrigger_untriggered {m : Nat} (f : Nat) (hmode : s.eff MON_IN_CFG.FMODE (m / 128) (m % 128) ≠ 2) :
    s.fineTrigger m f = s := if_pos hmode

theorem fineTrigger_starts {m : Nat} (f : Nat) (hmode : s.eff MON_IN_CFG.FMODE (m / 128) (m % 128) = 2)
    (hnone : ∀ y ∈ s.mon.blocks, y.mon ≠ m) (hpending : s.mOn MON_IN_STATUS.PENDING m = false) :
    s.fineTrigger m f = s.startBlock m f := by
  have hany : s.mon.blocks.any (fun b => b.mon == m) = false := by simpa using hnone
  rw [State.fineTrigger, if_neg (not_not_intro hmode), hany, hpending]
  rfl

/-- A trigger while a block runs is kept; one more is lost. -/
theorem fineTrigger_waits {m : Nat} (f : Nat) (hmode : s.eff MON_IN_CFG.FMODE (m / 128) (m % 128) = 2)
    (hruns : ∃ y ∈ s.mon.blocks, y.mon = m) : s.fineTrigger m f =
      if s.mOn MON_IN_STATUS.PENDING m then s.mWr MON_IN_STATUS.OVERRUN 1 m else s.mWr MON_IN_STATUS.PENDING 1 m := by
  have hany : s.mon.blocks.any (fun b => b.mon == m) = true := by simpa using hruns
  rw [State.fineTrigger, if_neg (not_not_intro hmode), if_pos hany]

theorem fineTrigger_marks {m : Nat} (f : Nat) (hmode : s.eff MON_IN_CFG.FMODE (m / 128) (m % 128) = 2)
    (hruns : ∃ y ∈ s.mon.blocks, y.mon = m) :
    (if s.mOn MON_IN_STATUS.PENDING m then (s.fineTrigger m f).mRd MON_IN_STATUS.OVERRUN m = 1
      else (s.fineTrigger m f).mRd MON_IN_STATUS.PENDING m = 1) ∧
    OnlyRegs [MON_IN_STATUS.OVERRUN.key (m / 128) (m % 128) 0, MON_IN_STATUS.PENDING.key (m / 128) (m % 128) 0] s (s.fineTrigger m f) := by
  rw [fineTrigger_waits f hmode hruns]
  split
  · exact ⟨mRd_mWr_same s _ 1 m, onlyRegs_wr s _ 1 _ _ _ (by simp)⟩
  · exact ⟨mRd_mWr_same s _ 1 m, onlyRegs_wr s _ 1 _ _ _ (by simp)⟩

/-! #### A LOSS comparator asserts (R183) -/

/-- The registers that hold a channel's gate conditions, and the faults present, decide whether its gate is held. -/
theorem heldBlock_congr (h : SameOf codeFlds s t) (hsaf : t.saf = s.saf) (ch : Nat) : t.heldBlock ch = s.heldBlock ch := by
  simp only [SameOf, codeFlds, List.forall_mem_cons] at h
  simp only [State.heldBlock, State.chOn, State.chRd, State.on, State.eclipse, State.lostCmd, State.cause, State.srcBit, State.tileLost,
    hsaf, h]

/-- The comparator's output does not decide whether it is armed. -/
theorem lossArmed_wr_out (s : State) (v i j tile input : Nat) :
    (s.wr MON_IN_STATUS.LOSS_OUT v i j).lossArmed tile input = s.lossArmed tile input := by
  have hsame := sameBut_wr s MON_IN_STATUS.LOSS_OUT v i j 0
  have hgate : (s.wr MON_IN_STATUS.LOSS_OUT v i j).gateOfInput tile input = s.gateOfInput tile input :=
    gateOfInput_congr (s := s) (t := s.wr MON_IN_STATUS.LOSS_OUT v i j) rfl (hsame.sameOf (by decide)) tile input
  have hheld (ch : Nat) : (s.wr MON_IN_STATUS.LOSS_OUT v i j).heldBlock ch = s.heldBlock ch :=
    heldBlock_congr (hsame.sameOf (by decide)) rfl ch
  simp only [State.lossArmed, hsame.on (f := MON_IN_CFG.LOSS_EN) (by decide), hgate, hheld,
    hsame.chOn (f := DRV_CH_GATEW.TRIP) (by decide)]

/-- The state in which a LOSS comparator is asserted, and the count of its frames begins, goes on or ends. -/
def State.lossOut (s : State) (tile input : Nat) : State :=
  (s.wr MON_IN_STATUS.LOSS_OUT 1 tile input).trackLoss (128 * tile + input)

theorem lossOut_frame (s : State) (tile input : Nat) : ∃ lossAt, s.lossOut tile input =
    { s.wr MON_IN_STATUS.LOSS_OUT 1 tile input with mon := { s.mon with lossAt := lossAt } } := ⟨_, rfl⟩

theorem lossOut_regs (s : State) (tile input : Nat) : (s.lossOut tile input).regs = (s.wr MON_IN_STATUS.LOSS_OUT 1 tile input).regs := rfl

theorem rd_lossOut (s : State) (tile input : Nat) : (s.lossOut tile input).rd MON_IN_STATUS.LOSS_OUT tile input = 1 :=
  (rd_congr (lossOut_regs s tile input) _ _ _ _).trans (rd_wr_one s rfl _ _ _)

/-- The count runs while the comparator is armed. -/
theorem lossAt_lossOut (s : State) (tile : Nat) {input : Nat} (hi : input < 128) :
    nget (s.lossOut tile input).mon.lossAt (128 * tile + input) = if !s.lossArmed tile input then 0
      else if nget s.mon.lossAt (128 * tile + input) = 0 then s.now + 1 else nget s.mon.lossAt (128 * tile + input) := by
  have hout : (s.wr MON_IN_STATUS.LOSS_OUT 1 tile input).mOn MON_IN_STATUS.LOSS_OUT (128 * tile + input) = true := by
    rw [mOn_input _ _ _ hi]
    exact on_of_rd_one (rd_wr_one s rfl _ _ _)
  unfold State.lossOut State.trackLoss
  dsimp only
  rw [nget_nset_same, hout, input_div tile hi, input_mod tile hi, lossArmed_wr_out, Bool.true_and]
  rfl

/-- The state in which an input's LOSS trip has latched, and its tile's capture has had its trigger. -/
def State.lossLatch (s : State) (tile input : Nat) : State := (s.wr MON_IN_STATUS.LOSS_TRIP 1 tile input).tripTrigger tile

theorem lossLatch_spec (s : State) (tile input : Nat) : (∃ regs mon, s.lossLatch tile input = { s with regs := regs, mon := mon }) ∧
    (s.lossLatch tile input).rd MON_IN_STATUS.LOSS_TRIP tile input = 1 ∧
    (s.lossLatch tile input).rd MON_IN_STATUS.LOSS_OUT tile input = s.rd MON_IN_STATUS.LOSS_OUT tile input := by
  obtain ⟨hframe, hsame⟩ := tripTrigger_keeps (s.wr MON_IN_STATUS.LOSS_TRIP 1 tile input) tile
  exact ⟨⟨_, _, hframe⟩, (hsame _ (by decide) _ _ _).trans (rd_wr_one s rfl _ _ _),
    (hsame _ (by decide) _ _ _).trans (rd_wr_clear s (by decide) _ _ _ _ _ _ _)⟩

/-- The state in which a LOSS comparator has been asserted through its QUAL frames. -/
def State.lossQualified (s : State) (tile input : Nat) : State :=
  (s.lossOut tile input).reach (nget (s.lossOut tile input).mon.lossAt (128 * tile + input) - 1 +
    (max 1 (s.rd MON_IN_LOSSQ.QUAL tile input) - 1))

theorem exec_lossTrip_armed (harmed : s.lossArmed tile i = true) (htrip : s.on MON_IN_STATUS.LOSS_TRIP tile i = false) :
    exec (.lossTrip tile i) s = .next ((((s.lossQualified tile i).lossLatch tile i).occur (384 + 8 + tile)).raise (srcTile tile 3)
      (128 * tile + i)) := congrArg Host.Outcome.next (if_neg (by simp [harmed, htrip]))

theorem exec_lossTrip_unarmed (harmed : s.lossArmed tile i = false) : exec (.lossTrip tile i) s = .next (s.lossOut tile i) :=
  congrArg Host.Outcome.next (if_pos (by simp [harmed]))

/-- An armed comparator trips once it has been asserted through QUAL frames. -/
theorem lossTrip_trips (harmed : s.lossArmed tile i = true) (htrip : s.on MON_IN_STATUS.LOSS_TRIP tile i = false) :
    ∃ t o, exec (.lossTrip tile i) s = .next t ∧
      t.now = max s.now ((if nget s.mon.lossAt (128 * tile + i) = 0 then s.now + 1 else nget s.mon.lossAt (128 * tile + i)) - 1 +
        (max 1 (s.rd MON_IN_LOSSQ.QUAL tile i) - 1)) ∧
      t.rd MON_IN_STATUS.LOSS_OUT tile i = 1 ∧ t.rd MON_IN_STATUS.LOSS_TRIP tile i = 1 ∧
      t.saf.raised = s.saf.raised ++ [o] ∧ o.source = srcTile tile 3 ∧ o.info = 128 * tile.val + i.val ∧ MemSame s t := by
  obtain ⟨lossAt, hout⟩ := lossOut_frame s tile i
  have hat := lossAt_lossOut s tile i.isLt
  rw [harmed, if_neg (by decide)] at hat
  have hnow : (s.lossQualified tile i).now = max s.now ((if nget s.mon.lossAt (128 * tile + i) = 0 then s.now + 1
      else nget s.mon.lossAt (128 * tile + i)) - 1 + (max 1 (s.rd MON_IN_LOSSQ.QUAL tile i) - 1)) := by
    rw [State.lossQualified, hat]
    rfl
  have hkept : (s.lossQualified tile i).saf = s.saf ∧ (s.lossQualified tile i).mem = s.mem ∧
      (s.lossQualified tile i).rd MON_IN_STATUS.LOSS_OUT tile i = 1 := ⟨rfl, rfl, rd_lossOut s tile i⟩
  have hinfo : (128 * tile.val + i.val) % 2 ^ 16 = 128 * tile + i := Nat.mod_eq_of_lt (by omega)
  rw [exec_lossTrip_armed harmed htrip]
  generalize s.lossQualified tile i = u at hnow hkept ⊢
  obtain ⟨hsaf, hmem, hshown⟩ := hkept
  obtain ⟨⟨regs, mon, hframe⟩, hlatched, hkeeps⟩ := lossLatch_spec u tile i
  exact ⟨_, _, rfl, (congrArg State.now hframe).trans hnow, hkeeps.trans hshown, hlatched,
    (congrArg (·.saf.raised ++ _) hframe).trans (congrArg (·.raised ++ _) hsaf), rfl, hinfo,
    memSame_of_mem ((congrArg State.mem hframe).trans hmem)⟩

/-- A comparator that is not armed only shows its output. -/
theorem lossTrip_shows (harmed : s.lossArmed tile i = false) : ∃ t, exec (.lossTrip tile i) s = .next t ∧
    t.rd MON_IN_STATUS.LOSS_OUT tile i = 1 ∧ nget t.mon.lossAt (128 * tile + i) = 0 ∧
    t = { s with regs := t.regs, mon := { s.mon with lossAt := t.mon.lossAt } } ∧
    RegsBut [MON_IN_STATUS.LOSS_OUT.key tile i 0] s t := by
  have hat := lossAt_lossOut s tile i.isLt
  rw [harmed, if_pos (by decide)] at hat
  obtain ⟨-, hregs⟩ := onlyRegs_wr (l := [MON_IN_STATUS.LOSS_OUT.key tile i 0]) s MON_IN_STATUS.LOSS_OUT 1 tile i 0 (by simp)
  exact ⟨_, exec_lossTrip_unarmed harmed, rd_lossOut s tile i, hat, rfl, hregs⟩

/-! #### A LOSS trip is cleared -/

theorem exec_lossTripClear (hact : s.bar0 die (inputAddr tile i 0x1C) = .act) (htrip : s.on MON_IN_STATUS.LOSS_TRIP tile i = true) :
    exec (.lossTripClear die tile i) s = .next (if s.on MON_IN_STATUS.LOSS_OUT tile i then s.wr MON_STATUS.CLR_REFUSED 1 tile
      else s.wr MON_IN_STATUS.LOSS_TRIP 0 tile i) :=
  congrArg Host.Outcome.next ((viaBar0_act hact _).trans (if_neg (by simp [htrip])))

end

/-! #### The statement's clauses on the ranges, and on a block's result -/

theorem rangesWaiting_spec (s : State) (tile : Nat) : (s.rangesWaiting tile).Nodup ∧ ∀ j ∈ s.rangesWaiting tile, j < 128 :=
  ⟨List.nodup_range.filter _, fun _ hj => List.mem_range.mp (List.mem_filter.mp hj).1⟩

/-- A waiting range comes into force at a frame of fast samples, and 5 samples settle. -/
theorem rangeApply_spec {s : State} {tile : Fin 8} {i : Fin 128} (hcycle : s.pln.cycle = none)
    (hwaits : nget s.held (MON_IN_CFG.RANGE.key tile i 0) ≠ 0) : ∃ t, exec (.rangeApply tile) s = .next t ∧
      t.now = s.now + (4 - s.now % 4) % 4 ∧ t.rangeOf (128 * tile + i) = s.rd MON_IN_CFG.RANGE tile i ∧
      (s.rangeOf (128 * tile + i) ≠ s.rd MON_IN_CFG.RANGE tile i →
        t.rd MON_IN_STATUS.SETTLING tile i = 1 ∧ nget t.mon.settle (128 * tile + i) = 5) ∧
      t = { s with now := t.now, regs := t.regs, held := t.held, mon := t.mon } := by
  obtain ⟨hmem, hexec⟩ := rangeApply_applies hcycle hwaits
  obtain ⟨hnodup, hlt⟩ := rangesWaiting_spec s tile
  have hnow := reach_fastAt s
  rw [hexec]
  generalize s.rangesWaiting tile = l at *
  obtain ⟨⟨regs, held, mon, hframe⟩, -⟩ := applyRanges_frame (s.reach (fastAt s.now)) tile (s.reach (fastAt s.now)).now l
  obtain ⟨hrange, hsettle⟩ := applyRanges_spec tile (s.reach (fastAt s.now)).now hnodup hlt hmem (s.reach (fastAt s.now))
  refine ⟨_, rfl, (congrArg State.now hframe).trans hnow, hrange, fun hne => Prod.ext_iff.mp (hsettle hne), ?_⟩
  rw [hframe]
  rfl

/-- The mean over one more slot's result. -/
theorem FineBlock.mean_append {b c : FineBlock} {f : Int} (hvals : c.vals = b.vals ++ [f]) (hneed : b.need = b.vals.length + 1) :
    c.mean = (b.vals.sum + f + (b.need / 2 : Nat)) / b.need := by
  rw [FineBlock.mean, hvals, hneed, List.sum_append, List.sum_singleton, List.length_append, List.length_singleton]
  rfl

end Sys2Proof.Machine

open Sys2Proof Sys2Proof.Machine

/-- Settles O28, clause by clause: the waiting ranges by induction on their list, a slot's end by what each operation of the fine path
leaves, and the rest from the cases of the trigger and of the comparator. -/
theorem rangesLossAndFineResults : Obligations.RangesLossAndFineResults := by
  unfold Obligations.RangesLossAndFineResults
  refine ⟨⟨?_, ?_, ?_, ?_, ?_, ?_, ?_⟩, ?_, ?_, ?_, ?_⟩
  · intro s tile i hcycle hwaits
    exact rangeApply_spec hcycle hwaits
  · intro s tile hcycle
    exact rangeApply_waits hcycle
  · intro s tile m v e he
    subst he
    exact fineSlotEnd_ends s tile m v
  · intro s tile md v e k x b f mean he hbegun hslot hk hx hidle hmode hrange hfind _ hneed hf hmean
    subst he
    obtain ⟨c, hc, hvals, t, hexec, hraw, hvalue, hseq, hblocks, hmem⟩ :=
      fineSlotEnd_completes (v := v) hbegun hslot hk hx hidle hmode hrange hfind hneed
    have hcmean : c.mean = mean := by
      rw [FineBlock.mean_append hvals hneed, hmean, hf]
      rfl
    have hfine : s.fineValue c = ((mean - toS 24 (s.eff MON_IN_CF_FOFF.FOFF tile (8 * md + k) (s.rangeOf x))) *
        (s.eff MON_IN_CF_FGAIN.FGAIN tile (8 * md + k) (s.rangeOf x) : Nat) + 2 ^ 21) / 2 ^ 22 := by
      rw [State.fineValue, hc, hcmean, show x / 128 = tile by omega, show x % 128 = 8 * md + k by omega]
    refine ⟨t, hexec, hcmean ▸ hraw, ?_, hseq, hblocks, hmem⟩
    rw [hvalue, hfine]
    rfl
  · intro s die tile w b x hact hx hmode hnone hpending
    obtain ⟨hdiv, hmod⟩ := input_word hx
    rw [exec_fineTrigger hact, ← hx, fineTrigger_starts s.now (by rw [hdiv, hmod, hmode]) hnone hpending]
    exact ⟨_, rfl, rfl, rfl, rfl, rfl, rfl⟩
  · intro s die tile w b x hact hx hmode
    obtain ⟨hdiv, hmod⟩ := input_word hx
    rw [exec_fineTrigger hact, ← hx, fineTrigger_untriggered s.now (by rwa [hdiv, hmod])]
  · intro s die tile w b x hact hx hmode hruns
    obtain ⟨hdiv, hmod⟩ := input_word hx
    obtain ⟨hmark, honly⟩ := fineTrigger_marks s.now (m := x) (by rw [hdiv, hmod, hmode]) hruns
    rw [hdiv, hmod] at honly
    rw [exec_fineTrigger hact, ← hx]
    exact ⟨_, rfl, hmark, honly⟩
  · intro s tile i harmed htrip
    exact lossTrip_trips harmed htrip
  · intro s tile i harmed
    exact lossTrip_shows harmed
  · intro s die tile i hact htrip hout
    rw [exec_lossTripClear hact htrip, if_neg (by simp [hout])]
    exact ⟨_, rfl, rd_wr_zero s _ _ _ _, onlyRegs_wr s _ 0 _ _ _ (by simp)⟩
  · intro s die tile i hact htrip hout
    rw [exec_lossTripClear hact htrip, if_pos hout]
    exact ⟨_, rfl, rd_wr_one s rfl _ _ _, onlyRegs_wr s _ 1 _ _ _ (by simp)⟩
end

section
/-! SUPPORT. The tone context table (R200 to R203, R211): what a store and a publication change of it. -/
namespace Sys2Proof.Machine

section
variable {s t u : State}

/-! #### Numbers beside and within a store -/

/-- A store leaves the numbers clear of its place. -/
theorem load_store_other (s : State) {a n b m : Nat} (v : Nat) (h : b + m ≤ a ∨ a + n ≤ b) : (s.store a n v).load b m = s.load b m :=
  load_congr fun _ _ _ => loadB_store_other s v (by omega)

/-- The two bytes of a number just stored. -/
theorem load_store_low (s : State) (a v : Nat) : (s.store a 2 v).load a 1 = v % 256 :=
  (load_store_other (s.storeB a (BitVec.ofNat 8 v)) (a := a + 1) (n := 1) (v / 256) (.inl le_rfl)).trans
    (load_store_same s a 1 v)

@[inherit_doc load_store_low] theorem load_store_high (s : State) (a v : Nat) : (s.store a 2 v).load (a + 1) 1 = v / 256 % 256 :=
  load_store_same (s.storeB a (BitVec.ofNat 8 v)) (a + 1) 1 (v / 256)

theorem Window.flags_lt (w : Window) : w.flags < 256 := by
  have hb (b : Bool) : b2n b ≤ 1 := by cases b <;> decide
  have := hb (!w.gap)
  have := hb w.gap
  have := hb w.mixed
  have := hb w.sat
  have := hb w.settle
  unfold Window.flags
  omega

/-! #### A publication (R201, R202) -/

/-- The sums of a window are written, or its gap is counted. -/
def State.putSums (s : State) (c : Nat) (w : Window) : State :=
  if w.gap then s.bump TON_CNT_GAP.COUNT
  else (s.store (toneAddr c) 4 (ofS 32 (rndDiv w.si 16000))).store (toneAddr c + 4) 4 (ofS 32 (rndDiv w.sq 16000))

/-- The entry of a context that publishes. -/
def State.putWindow (s : State) (c b : Nat) (w : Window) : State :=
  ((s.putSums c w).store (toneAddr c + 8) 8 (ticksOf b)).store (toneAddr c + 16) 2
    (w.flags + 256 * ((s.load (toneAddr c + 17) 1 + 1) % 16))

/-- A publication is its entry, and its telemetry records. -/
theorem formed_publishTone (s : State) (c b f : Nat) (w : Window) : Formed (s.putWindow c b w) (s.publishTone c b f none w) :=
  formed_recordP (formed_refl _) _ _ _ _ _ _

theorem putSums_frame (s : State) (c : Nat) (w : Window) :
    s.putSums c w = { s with regs := (s.putSums c w).regs, mem := (s.putSums c w).mem } := by
  unfold State.putSums
  split
  · rfl
  · rw [store_eq_mem, store_eq_mem s]

theorem putSums_regs (s : State) (c : Nat) (w : Window) : RegsBut [TON_CNT_GAP.COUNT.key 0 0 0] s (s.putSums c w) := by
  unfold State.putSums
  split
  · exact (regsBut_of_regs _ rfl).wr (by simp)
  · rw [store_eq_mem, store_eq_mem s]
    exact regsBut_of_regs _ rfl

theorem putSums_loadB (s : State) {c a : Nat} (w : Window) (h : a < toneAddr c ∨ toneAddr c + 8 ≤ a) :
    (s.putSums c w).loadB a = s.loadB a := by
  unfold State.putSums
  split
  · rfl
  · rw [loadB_store_other _ _ (by omega), loadB_store_other _ _ (by omega)]

/-- The sums of a context's entry, after a window with a gap and after one without. -/
theorem putSums_sums (s : State) (c : Nat) (w : Window) :
    if w.gap then (s.putSums c w).load (toneAddr c) 8 = s.load (toneAddr c) 8
    else (s.putSums c w).load (toneAddr c) 4 = ofS 32 (rndDiv w.si 16000) ∧
      (s.putSums c w).load (toneAddr c + 4) 4 = ofS 32 (rndDiv w.sq 16000) := by
  unfold State.putSums
  split
  · rfl
  · rw [load_store_other _ _ (.inl le_rfl), load_store_same, load_store_same]
    exact ⟨Nat.mod_eq_of_lt (ofS_lt _ _), Nat.mod_eq_of_lt (ofS_lt _ _)⟩

/-- What the publication of a window by context `c` makes of `s` (R202, R211). -/
structure Published (s t : State) (c b : Nat) (w : Window) : Prop where
  frame : t = { s with regs := t.regs, mem := t.mem, hpt := t.hpt }
  regs : RegsBut [TON_CNT_GAP.COUNT.key 0 0 0] s t
  stamp : t.load (toneAddr c + 8) 8 = ticksOf b
  flags : t.load (toneAddr c + 16) 1 = w.flags
  seq : t.load (toneAddr c + 17) 1 = (s.load (toneAddr c + 17) 1 + 1) % 16
  sums : if w.gap then t.load (toneAddr c) 8 = s.load (toneAddr c) 8
    else t.load (toneAddr c) 4 = ofS 32 (rndDiv w.si 16000) ∧ t.load (toneAddr c + 4) 4 = ofS 32 (rndDiv w.sq 16000)
  loadB : ∀ a, a < toneAddr c ∨ toneAddr c + 18 ≤ a → t.loadB a = s.loadB a

theorem Published.now {c b : Nat} {w : Window} (h : Published s t c b w) : t.now = s.now := by rw [h.frame]
theorem Published.ton {c b : Nat} {w : Window} (h : Published s t c b w) : t.ton = s.ton := by rw [h.frame]

theorem published_putWindow (s : State) (c b : Nat) (w : Window) : Published s (s.putWindow c b w) c b w := by
  have hflags := w.flags_lt
  have hsum {a n : Nat} (h : a + n ≤ toneAddr c + 8) : (s.putWindow c b w).load a n = (s.putSums c w).load a n := by
    rw [State.putWindow, load_store_other _ _ (by omega), load_store_other _ _ (by omega)]
  refine ⟨?_, ?_, ?_, ?_, ?_, ?_, fun a ha => ?_⟩
  · rw [State.putWindow, store_eq_mem, store_eq_mem (s.putSums c w), putSums_frame]
  · rw [State.putWindow, store_eq_mem, store_eq_mem (s.putSums c w)]
    exact putSums_regs s c w
  · rw [State.putWindow, load_store_other _ _ (by omega), load_store_same]
    exact Nat.mod_eq_of_lt (Nat.mod_lt _ (by decide))
  · rw [State.putWindow, load_store_low]
    omega
  · rw [State.putWindow, load_store_high]
    omega
  · rw [hsum (by omega), hsum (by omega), hsum (by omega)]
    exact putSums_sums s c w
  · rw [State.putWindow, loadB_store_other _ _ (by omega), loadB_store_other _ _ (by omega), putSums_loadB _ _ (by omega)]

/-- Telemetry records leave what was published. -/
theorem Published.formed {c b : Nat} {w : Window} (h : Published s t c b w) (hf : Formed t u) : Published s u c b w := by
  obtain ⟨p, q, rfl⟩ := hf
  obtain ⟨hframe, hregs, hstamp, hflags, hseq, hsums, hbytes⟩ := h
  refine ⟨?_, hregs, hstamp, hflags, hseq, hsums, hbytes⟩
  rw [hframe]
  rfl

theorem published_publishTone (s : State) (c b f : Nat) (w : Window) : Published s (s.publishTone c b f none w) c b w :=
  (published_putWindow s c b w).formed (formed_publishTone s c b f w)

/-! #### An element context (R200) -/

/-- The state at frame `f`, with the element contexts' windows up to frame `b` done. -/
def State.elemsDone (s : State) (f b : Nat) : State := { s.reach f with ton := { s.ton with doneElem := b + 1 } }

theorem tonePublish_element {e m k b : Nat} (helems : s.boundElems = [(e, m, k)])
    (hb : b = s.windowEnd (max (s.now - 2) s.ton.doneElem) 200) (hlost : s.tileLost (s.elemTile e) = false)
    (hend : b % 1000 = 0 ∨ s.trimAt e (b - 1000) / 256 = 1) :
    exec (.tonePublish true none) s = .next ((s.elemsDone (b + 2) b).publishTone e b (b + 2) none
      (s.window e (s.elemTile e) b (some (m, k)))) := by
  refine congrArg Host.Outcome.next ?_
  dsimp only [Option.map_none, State.eccHit]
  rw [if_pos rfl, ← hb]
  change List.foldl _ _ s.boundElems = _
  rw [helems]
  exact (if_neg (Bool.eq_false_iff.mp hlost)).trans (if_pos hend.symm)

/-! #### The path contexts of a monitor (R207, R211) -/

/-- Nothing of the clock and the demodulator's progress, and no byte but those from `lo` to `hi - 1`, differs between `s` and `t`. -/
structure BytesFrom (lo hi : Nat) (s t : State) : Prop where
  now : t.now = s.now
  donePath : t.ton.donePath = s.ton.donePath
  loadB : ∀ a, a < lo ∨ hi ≤ a → t.loadB a = s.loadB a

theorem BytesFrom.trans {lo hi : Nat} (h : BytesFrom lo hi s t) (g : BytesFrom lo hi t u) : BytesFrom lo hi s u :=
  ⟨g.now.trans h.now, g.donePath.trans h.donePath, fun a ha => (g.loadB a ha).trans (h.loadB a ha)⟩

theorem BytesFrom.mono {lo hi l h : Nat} (hs : BytesFrom lo hi s t) (hl : l ≤ lo) (hh : hi ≤ h) : BytesFrom l h s t :=
  ⟨hs.now, hs.donePath, fun a ha => hs.loadB a (by omega)⟩

theorem bytesFrom_of_mem {lo hi : Nat} (hnow : t.now = s.now) (hdone : t.ton.donePath = s.ton.donePath) (hmem : t.mem = s.mem) :
    BytesFrom lo hi s t := ⟨hnow, hdone, fun a _ => memSame_of_mem hmem a⟩

theorem BytesFrom.store {lo hi : Nat} (h : BytesFrom lo hi s t) {a n : Nat} (v : Nat) (hlo : lo ≤ a) (hhi : a + n ≤ hi) :
    BytesFrom lo hi s (t.store a n v) := by
  refine h.trans ⟨?_, ?_, fun b hb => loadB_store_other t v (by omega)⟩
  · rw [store_eq_mem]
  · rw [store_eq_mem]

theorem Published.bytesFrom {c b : Nat} {w : Window} (h : Published s t c b w) : BytesFrom (toneAddr c) (toneAddr c + 32) s t :=
  ⟨h.now, congrArg Ton.donePath h.ton, fun a ha => h.loadB a (by omega)⟩

/-- A path context that takes a tone, or stands idle, changes its own entry. -/
theorem bytesFrom_pathTune (s : State) (m j : Nat) (tone : Option Nat) :
    BytesFrom (toneAddr (16384 + 4 * m + j)) (toneAddr (16384 + 4 * m + j) + 32) s (s.pathTune m j tone) := by
  have hself : BytesFrom (toneAddr (16384 + 4 * m + j)) (toneAddr (16384 + 4 * m + j) + 32) s s := bytesFrom_of_mem rfl rfl rfl
  cases tone with
  | none => exact ((hself.store _ (by omega) (by omega)).store _ (by omega) (by omega)).store _ (by omega) (by omega)
  | some k => exact (hself.store _ (by omega) (by omega)).store _ (by omega) (by omega)

theorem BytesFrom.ite {lo hi : Nat} {p : Prop} [Decidable p] {a b : State} (ha : BytesFrom lo hi s a) (hb : BytesFrom lo hi s b) :
    BytesFrom lo hi s (if p then a else b) := by
  split
  · exact ha
  · exact hb

theorem bytesFrom_publishForeign (s : State) (m j b f : Nat) :
    BytesFrom (toneAddr (16384 + 4 * m + j)) (toneAddr (16384 + 4 * m + j) + 32) s (s.publishForeign m j b f none) := by
  have htuned {x : State} (hx : BytesFrom (toneAddr (16384 + 4 * m + j)) (toneAddr (16384 + 4 * m + j) + 32) s x) {p : Prop} [Decidable p]
      (tone : Option Nat) : BytesFrom (toneAddr (16384 + 4 * m + j)) (toneAddr (16384 + 4 * m + j) + 32) s
        (if p then x else x.pathTune m j tone) := .ite hx (hx.trans (bytesFrom_pathTune x m j tone))
  unfold State.publishForeign
  dsimp only
  cases s.boundTo (16384 + 4 * m + j) with
  | none => exact htuned (bytesFrom_of_mem rfl rfl rfl) _
  | some x => exact htuned (published_publishTone s _ b f _).bytesFrom _

theorem BytesFrom.wr {lo hi : Nat} (h : BytesFrom lo hi s t) (f : Fld) (v i j k : Nat) : BytesFrom lo hi s (t.wr f v i j k) :=
  h.trans (bytesFrom_of_mem rfl rfl rfl)

/-- A test that fails acts on registers, events and faults alone. -/
theorem BytesFrom.pathFail {lo hi : Nat} (h : BytesFrom lo hi s t) (m kind tone : Nat) : BytesFrom lo hi s (t.pathFail m kind tone) := by
  unfold State.pathFail
  extract_lets f s1 s2
  have h1 : BytesFrom lo hi s s1 := (h.wr _ _ _ _ _).wr _ _ _ _ _
  have h2 : BytesFrom lo hi s s2 := .ite h1 ((((h1.wr _ _ _ _ _).wr _ _ _ _ _).wr _ _ _ _ _).wr _ _ _ _ _)
  exact h2.trans (bytesFrom_of_mem rfl rfl rfl)

/-- A path check acts on registers, on what it counts, and by tests that fail. -/
theorem bytesFrom_evalPath (lo hi : Nat) (s : State) (m b : Nat) : BytesFrom lo hi s (s.evalPath m b) := by
  unfold State.evalPath
  extract_lets c a lossBad bad qual count nl nf ton s1 s2 s3
  have h1 : BytesFrom lo hi s s1 := bytesFrom_of_mem rfl rfl rfl
  have h2 : BytesFrom lo hi s s2 := .ite h1 (h1.wr _ _ _ _ _)
  have h3 : BytesFrom lo hi s s3 := .ite (h2.pathFail _ _ _) h2
  refine .ite (bytesFrom_of_mem rfl rfl rfl) ?_
  clear_value bad
  cases bad with
  | none => exact h3
  | some j => exact .ite (h3.pathFail _ _ _) h3

/-- The state at frame `f`, with the path contexts' windows up to frame `b` done. -/
def State.pathsDone (s : State) (f b : Nat) : State := { s.reach f with ton := { s.ton with donePath := b + 1 } }

theorem tonePublish_path {m b : Nat} (hexpect : s.expecting = [m]) (hb : b = s.windowEnd (max (s.now - 1) s.ton.donePath) 1000) :
    exec (.tonePublish false none) s = .next ((s.pathsDone (b + 1) b).pathWindow m b none) := by
  refine congrArg Host.Outcome.next ?_
  dsimp only [Option.map_none, State.eccHit]
  rw [if_neg Bool.false_ne_true, ← hb]
  change List.foldl _ _ s.expecting = _
  rw [hexpect]
  rfl

/-- The foreign contexts of a monitor change their own entries alone. -/
theorem bytesFrom_foreigns (s : State) (m b f : Nat) : BytesFrom (toneAddr (16384 + 4 * m) + 32) (toneAddr (16384 + 4 * m) + 128) s
    ([1, 2, 3].foldl (fun t j => t.publishForeign m j b f none) s) := by
  have hone (x : State) {j : Nat} (hlow : 1 ≤ j) (hhigh : j ≤ 3) :
      BytesFrom (toneAddr (16384 + 4 * m) + 32) (toneAddr (16384 + 4 * m) + 128) x (x.publishForeign m j b f none) := by
    refine (bytesFrom_publishForeign x m j b f).mono ?_ ?_ <;> · unfold toneAddr; omega
  exact ((hone _ (by decide) (by decide)).trans (hone _ (by decide) (by decide))).trans (hone _ (by decide) (by decide))

/-- After context 0 of a monitor has published, the rest of its window changes the entries of its foreign contexts alone. -/
theorem pathWindow_publishes {m : Nat} (b : Nat) (hlost : s.tileLost (m / 128) = false) :
    ∃ u, Published s u (16384 + 4 * m) b (s.window (16384 + 4 * m) (m / 128) b (some (m, s.rd TON_PT_EXPECT.TONE m))) ∧
      BytesFrom (toneAddr (16384 + 4 * m) + 32) (toneAddr (16384 + 4 * m) + 128) u (s.pathWindow m b none) := by
  refine ⟨_, published_publishTone s _ b (b + 1) _, ?_⟩
  rw [State.pathWindow, if_neg (Bool.eq_false_iff.mp hlost)]
  exact (bytesFrom_foreigns _ m b (b + 1)).trans (bytesFrom_evalPath _ _ _ m b)

end

end Sys2Proof.Machine

open Sys2Proof Sys2Proof.Machine

/-- Settles O31: an element context by what one publication changes, a path context by the entries that the rest of its monitor's
window changes. -/
theorem toneWindowsArePublished : Obligations.ToneWindowsArePublished := by
  unfold Obligations.ToneWindowsArePublished
  refine ⟨fun s e m k b w helems hb hlost hend hw => ?_, fun s m b c w hexpect hb hlost hc hw => ?_⟩
  · subst hw
    have hpub := published_publishTone (s.elemsDone (b + 2) b) e b (b + 2) (s.window e (s.elemTile e) b (some (m, k)))
    refine ⟨_, tonePublish_element helems hb hlost hend, hpub.now, hpub.ton, hpub.stamp, hpub.flags, hpub.seq, hpub.sums, hpub.loadB,
      ?_, hpub.regs⟩
    rw [hpub.frame]
    rfl
  · subst hc hw
    obtain ⟨u, hpub, hrest⟩ := pathWindow_publishes (s := s.pathsDone (b + 1) b) (m := m) b hlost
    have hkept {a n : Nat} (h : a + n ≤ toneAddr (16384 + 4 * m) + 32) :
        ((s.pathsDone (b + 1) b).pathWindow m b none).load a n = u.load a n := load_congr fun x _ _ => hrest.loadB x (by omega)
    refine ⟨_, tonePublish_path hexpect hb, hrest.now.trans hpub.now, hrest.donePath.trans hpub.bytesFrom.donePath,
      (hkept (by omega)).trans hpub.stamp, (hkept (by omega)).trans hpub.flags, fun hgap => ?_, fun a ha => ?_⟩
    · obtain ⟨hi, hq⟩ := (if_neg (Bool.eq_false_iff.mp hgap)).mp hpub.sums
      exact ⟨(hkept (by omega)).trans hi, (hkept (by omega)).trans hq⟩
    · exact (hrest.loadB a (by omega)).trans (hpub.loadB a (by omega))

end

section
/-! The refutation of PathChecksAndRingGaps. It speaks of every state: also of one whose register file holds a QUAL wider than its field.
The count of a run that has raised is 16 because no QUAL of 4 bits is above 15 (R208, R214). -/
namespace Sys2Proof.Machine

/-- A state whose register file holds 17 as QUAL: tile 0 is armed, monitor 0 guards port 0, receives no light, and has failed loss in
15 windows. -/
def wideQual : State :=
  let s := (State.reset.storeB portBase 1).wr DRV_STATUS.ARMED 1
  { s with regs := nset s.regs (TON_PT_CFG.QUAL.key 0 0 0) 16, ton := { s.ton with failL := [(0, 15)] } }

theorem wideQual_qual : wideQual.rd TON_PT_CFG.QUAL = 17 := by decide +kernel

theorem wideQual_evaluated : wideQual.pathSuspended 0 = false ∧ wideQual.clean 16384 = true := by decide +kernel

theorem wideQual_dark : wideQual.power 16384 < (wideQual.load (toneAddr 16384 + 24) 2 : Int) ^ 2 := by decide +kernel

/-- The 16th failing window in a row raises, though QUAL asks for 17. -/
theorem wideQual_raises : ((wideQual.evalPath 0 1000).saf.raised.map fun o => o.source) = [srcTile 0 4] := by decide +kernel

end Sys2Proof.Machine

open Sys2Proof Sys2Proof.Machine

/-- Refutes O32, in its clause on a window that fails loss: where the register file holds a QUAL of 17, the 16th failing window in a row
raises the fault, and the statement says that it raises nothing. The statement lacks the hypothesis that QUAL reads within its 4 bits. -/
theorem not_pathChecksAndRingGaps : ¬ Obligations.PathChecksAndRingGaps := by
  unfold Obligations.PathChecksAndRingGaps
  rintro ⟨⟨-, hloss, -⟩, -⟩
  obtain ⟨hsuspended, hclean⟩ := wideQual_evaluated
  obtain ⟨-, hquiet⟩ := hloss wideQual 0 1000 16384 (by decide) rfl hsuspended rfl (by decide) hclean rfl wideQual_dark
  have hbelow : ¬ (nget wideQual.ton.failL 0 ≠ 16 ∧ max 1 (wideQual.rd TON_PT_CFG.QUAL) ≤ nget wideQual.ton.failL 0 + 1) := by
    rw [wideQual_qual]
    decide
  obtain ⟨hsaf, -⟩ := (if_neg hbelow).mp hquiet
  exact absurd ((congrArg (fun x : Saf => x.raised.map fun o => o.source) hsaf).symm.trans wideQual_raises) (by decide)

end

section
/-! SUPPORT. What a core's work tells the performance counters (R449 to R455): it changes the counters and what is kept of them. -/
namespace Sys2Proof.Machine

/-- A performance counter of a core. -/
def coreKey (die core k : Nat) : Prop := ∃ c : Fin 6, k = PMC_CNT.COUNT.key die core c

theorem coreKey_count (die core c : Nat) : coreKey die core (PMC_CNT.COUNT.key die core c) := by
  refine ⟨⟨c % 6, Nat.mod_lt c (by decide)⟩, ?_⟩
  simp only [Fld.key, PMC_CNT.COUNT, Nat.mod_mod]

theorem pmcKey_of_coreKey {die core k : Nat} (h : coreKey die core k) : pmcKey k := by
  obtain ⟨c, rfl⟩ := h
  exact pmcKey_count die core c

/-- A register outside the performance counters' block is no counter of a core. -/
theorem not_pmcKey {f : Fld} (h : f.avoids 0x7080000 0x7100000 = true) (i j k : Nat) : ¬ pmcKey (f.key i j k) := Fld.key_avoids h i j k

/-- Nothing but register fields with a key in `K` and what the performance counters keep differs between `s` and `t`. -/
structure CountFrame (K : Nat → Prop) (s t : State) : Prop where
  frame : t = { s with regs := t.regs, pmc := t.pmc }
  regs : ∀ k, ¬ K k → nget t.regs k = nget s.regs k

section
variable {K : Nat → Prop} {s t : State}

theorem countFrame_refl (K : Nat → Prop) (s : State) : CountFrame K s s := ⟨rfl, fun _ _ => rfl⟩

theorem CountFrame.trans {a b c : State} (h : CountFrame K a b) (g : CountFrame K b c) : CountFrame K a c := by
  refine ⟨?_, fun k hk => (g.regs k hk).trans (h.regs k hk)⟩
  have h1 := g.frame
  rw [h.frame] at h1
  exact h1

theorem CountFrame.mono {L : Nat → Prop} (h : CountFrame K s t) (hKL : ∀ k, K k → L k) : CountFrame L s t :=
  ⟨h.frame, fun k hk => h.regs k fun hK => hk (hKL k hK)⟩

theorem CountFrame.ite {p : Prop} [Decidable p] {a b : State} (ha : CountFrame K s a) (hb : CountFrame K s b) :
    CountFrame K s (if p then a else b) := by split <;> assumption

theorem CountFrame.setPmc (h : CountFrame K s t) (p : Pmc) : CountFrame K s { t with pmc := p } := h.trans ⟨rfl, fun _ _ => rfl⟩

theorem CountFrame.wr (h : CountFrame K s t) {f : Fld} {i j k : Nat} (hk : K (f.key i j k)) (v : Nat) : CountFrame K s (t.wr f v i j k) :=
  h.trans ⟨rfl, fun _ hn => nget_nset_other _ _ fun e => hn (e ▸ hk)⟩

theorem CountFrame.mem (h : CountFrame K s t) : t.mem = s.mem := by rw [h.frame]
theorem CountFrame.now (h : CountFrame K s t) : t.now = s.now := by rw [h.frame]
theorem CountFrame.lpa (h : CountFrame K s t) : t.lpa = s.lpa := by rw [h.frame]
theorem CountFrame.saf (h : CountFrame K s t) : t.saf = s.saf := by rw [h.frame]
theorem CountFrame.mig (h : CountFrame K s t) : t.mig = s.mig := by rw [h.frame]

/-- A register outside the performance counters' block reads as before. -/
theorem CountFrame.rd (h : CountFrame K s t) (hK : ∀ k, K k → pmcKey k) {f : Fld} (hf : f.avoids 0x7080000 0x7100000 = true)
    (i j k : Nat) : t.rd f i j k = s.rd f i j k := by
  rw [State.rd, State.rd, h.regs _ fun hk => not_pmcKey hf i j k (hK _ hk)]

end

section
variable {s t : State} {die core : Nat}

theorem CountFrame.pmcIncr (h : CountFrame (coreKey die core) s t) (k n : Nat) : CountFrame (coreKey die core) s (t.pmcIncr die core k n) := by
  have h1 (v : Nat) : CountFrame (coreKey die core) s (t.wr PMC_CNT.COUNT v die core k) := h.wr (coreKey_count _ _ _) v
  have h2 (v u : Nat) : CountFrame (coreKey die core) s ((t.wr PMC_CNT.COUNT v die core k).wr PMC_CNT.COUNT u die core (k + 1)) :=
    (h1 v).wr (coreKey_count _ _ _) u
  exact .ite (h1 _) (.ite (.ite (h1 _) (.ite (h2 _ _) ((h2 _ _).setPmc _))) ((h1 _).setPmc _))

theorem CountFrame.pmcAdd (h : CountFrame (coreKey die core) s t) (ev : Nat) (cls : Option Nat) (n : Nat) (edge : Bool) :
    CountFrame (coreKey die core) s (t.pmcAdd die core ev cls n edge) :=
  .ite h (List.foldlRecOn _ _ h fun _ hu _ _ => .ite (hu.pmcIncr _ _) hu)

theorem CountFrame.pmcSlot (h : CountFrame (coreKey die core) s t) (ev cls n : Nat) (busy : Bool) :
    CountFrame (coreKey die core) s (t.pmcSlot die core ev cls n busy) := by
  have h1 := h.pmcAdd ev (some cls) n (nget t.pmc.cls (64 * die + core) != ev + 1)
  exact .setPmc (.ite (h1.pmcAdd _ _ _ _) h1) _

/-- A sample taken changes no register. -/
theorem CountFrame.pmcEvent {K : Nat → Prop} (h : CountFrame K s t) (kind : Nat) (j : Job) (word addr : Nat) (off discard : Bool)
    (latency : Nat) : CountFrame K s (t.pmcEvent kind j word addr off discard latency) :=
  .ite h (.ite (h.setPmc _) (h.setPmc _))

end

end Sys2Proof.Machine
end

section
/-! SUPPORT. The jobs that run on the cores (R224, R244): which one a core runs after one is replaced or goes. -/
namespace Sys2Proof.Machine

section
variable {s t : State} {die core : Nat} {r : Run}

/-- The job that a core runs is one of those that run, and it is that core's. -/
theorem mem_of_running (h : s.running die core = some r) : r ∈ s.lpa.runs ∧ r.job.die = die ∧ r.job.core = core := by
  have hp := List.find?_some h
  simp only [Bool.and_eq_true, beq_iff_eq] at hp
  exact ⟨List.mem_of_find?_eq_some h, hp⟩

theorem running_congr (h : t.lpa.runs = s.lpa.runs) (die core : Nat) : t.running die core = s.running die core := by
  rw [State.running, State.running, h]

/-- After a job is replaced by another of its core, that core runs the new one where it ran any. -/
theorem running_setRun_same (s : State) (r : Run) :
    (s.setRun r).running r.job.die r.job.core = (s.running r.job.die r.job.core).map fun _ => r := by
  simp only [State.running, State.setRun, List.find?_map]
  have hp : ((fun x : Run => x.job.die == r.job.die && x.job.core == r.job.core) ∘ fun x : Run =>
      if (x.job.die == r.job.die && x.job.core == r.job.core) = true then r else x) =
      fun x : Run => x.job.die == r.job.die && x.job.core == r.job.core := by
    funext x
    simp only [Function.comp]
    split <;> simp_all
  rw [hp]
  cases hf : s.lpa.runs.find? fun x : Run => x.job.die == r.job.die && x.job.core == r.job.core with
  | none => rfl
  | some x => rw [Option.map_some, if_pos (List.find?_some hf)]; rfl

/-- Another core runs what it ran. -/
theorem running_setRun_other (s : State) (r : Run) (h : ¬ (die = r.job.die ∧ core = r.job.core)) :
    (s.setRun r).running die core = s.running die core := by
  simp only [State.running, State.setRun, List.find?_map]
  have hp : ((fun x : Run => x.job.die == die && x.job.core == core) ∘ fun x : Run =>
      if (x.job.die == r.job.die && x.job.core == r.job.core) = true then r else x) =
      fun x : Run => x.job.die == die && x.job.core == core := by
    funext x
    simp only [Function.comp]
    split
    case isTrue hx => simp only [Bool.and_eq_true, beq_iff_eq] at hx; simp [hx]
    case isFalse => rfl
  rw [hp]
  cases hf : s.lpa.runs.find? fun x : Run => x.job.die == die && x.job.core == core with
  | none => rfl
  | some x =>
    have hx := List.find?_some hf
    simp only [Bool.and_eq_true, beq_iff_eq] at hx
    rw [Option.map_some, if_neg (by simpa [hx] using h)]

/-- The state without the job of a core. -/
def State.freeCore (s : State) (die core : Nat) : State :=
  { s with lpa := { s.lpa with runs := s.lpa.runs.filter fun x => !(x.job.die == die && x.job.core == core) } }

theorem running_freeCore_same (s : State) (die core : Nat) : (s.freeCore die core).running die core = none := by
  refine List.find?_eq_none.mpr fun x hx => ?_
  simpa only [Bool.not_eq_true', Bool.not_eq_true] using (List.mem_filter.mp hx).2

theorem running_freeCore_other (s : State) {d c : Nat} (h : ¬ (d = die ∧ c = core)) :
    (s.freeCore die core).running d c = s.running d c := by
  simp only [State.running, State.freeCore, List.find?_filter]
  refine congrArg (List.find? · s.lpa.runs) (funext fun x => ?_)
  by_cases hx : x.job.die = d ∧ x.job.core = c
  · have : (d == die && c == core) = false := by simpa only [Bool.and_eq_false_iff, beq_eq_false_iff_ne, ne_eq, not_and_or] using h
    simp [hx, this]
  · have : (x.job.die == d && x.job.core == c) = false := by simpa using hx
    simp [this]

end

end Sys2Proof.Machine
end

section
/-! SUPPORT. An instruction of the LIS on the core it names (R244, R253): what it does before its own effect. -/
namespace Sys2Proof.Machine

/-- The job after its instruction's cycles, at the next instruction. -/
def Run.next (r : Run) (n : Nat) : Run := { r with pc := r.pc + 1, cycles := r.cycles + n }

section
variable {s : State} {a : LisAt} {r : Run} {w word cut : Nat}

/-- On a core with nothing to run an instruction does nothing. -/
theorem lis_idle (h : s.running a.die a.core = none) (word cut : Nat) (f : State → Run → State) : s.lis a word cut f = s := by
  rw [State.lis, h]

/-- An instruction that its job has come to counts its cycles, and then acts where its guard lets it; else its job only goes on. -/
theorem lis_runs (h : LisReady s a r w) (hw : w / 2 ^ cut = word / 2 ^ cut) (f : State → Run → State) :
    ∃ u, CountFrame (coreKey a.die a.core) s u ∧ s.lis a word cut f =
      if (r.pred a.pg != a.pn) = true then f u (r.next (lisCycles (opOf w))) else u.setRun (r.next (lisCycles (opOf w))) := by
  obtain ⟨hrun, addr, hfetch⟩ := h
  rw [State.lis, hrun]
  dsimp only
  rw [hfetch]
  dsimp only
  rw [if_neg (not_not.mpr hw)]
  have h1 := (countFrame_refl (coreKey a.die a.core) s).pmcAdd evInstr (some r.job.cls) 1 true
  have h2 := CountFrame.ite (p := (r.pred a.pg != a.pn) = true) (h1.pmcAdd evActed (some r.job.cls) 1 true) h1
  have h3 (ev n off : _) := (h2.pmcSlot ev r.job.cls n true).pmcEvent 0 r.job w addr off false n
  have h4 (ev n off : _) := CountFrame.ite (p := opOf w = 0x28 ∨ opOf w = 0x29)
    (((h3 ev n off).pmcAdd evImgRead (some r.job.cls) 1 true).pmcEvent 1 r.job w addr off false n) (h3 ev n off)
  exact ⟨_, h4 _ _ _, rfl⟩

end

/-- A job that only goes on, or changes as an instruction says, has run one instruction (R244). -/
theorem lisRan_setRun {s u : State} {a : LisAt} {r r' : Run} (hu : CountFrame (coreKey a.die a.core) s u)
    (hrun : s.running a.die a.core = some r) (hjob : r'.job = r.job) (n : Nat) :
    LisRan s (u.setRun { r' with pc := r.pc + 1, cycles := r.cycles + n }) a n r r' := by
  obtain ⟨-, hdie, hcore⟩ := mem_of_running hrun
  have hu' (die core : Nat) : u.running die core = s.running die core := running_congr (congrArg Lpa.runs hu.lpa) die core
  refine ⟨?_, fun die core hne => ?_, ?_, fun k _ hk => hu.regs k fun ⟨c, hc⟩ => hk c hc⟩
  · have := running_setRun_same u { r' with pc := r.pc + 1, cycles := r.cycles + n }
    dsimp only at this
    rwa [show r'.job.die = a.die by rw [hjob, hdie], show r'.job.core = a.core by rw [hjob, hcore], hu', hrun] at this
  · rw [running_setRun_other _ _ (by dsimp only; rwa [hjob, hdie, hcore]), hu']
  · rw [hu.frame]
    rfl

end Sys2Proof.Machine
end

section
/-! SUPPORT. The instructions of the LIS and their words (R251, R252). -/
namespace Sys2Proof.Machine

/-- The word of an encoding fits 32 bits, and the command runs it on the core it names. -/
def RunsWord (i : Instr) (a : LisAt) (w : Nat) : Prop :=
  w < 2 ^ 32 ∧ ∃ word cut f, w / 2 ^ cut = word / 2 ^ cut ∧ ∀ s, exec i s = .next (s.lis a word cut f)

theorem runsWord_of_lisWord {i : Instr} {a : LisAt} {op fields cut w : Nat} {f : State → Run → State}
    (hexec : ∀ s, exec i s = .next (s.lis a (lisWord op a fields) cut f)) (hop : op < 64)
    (h : fields < 2 ^ 23 ∧ w = lisWord op a fields) : RunsWord i a w := by
  obtain ⟨hfields, hw⟩ := h
  refine ⟨?_, _, _, _, by rw [hw], hexec⟩
  rw [hw, lisWord, b2n]
  split <;> omega

/-- The command of a LIS instruction is that instruction on the core it names, on the word of its encoding. -/
theorem exec_of_lisOf {i : Instr} {a : LisAt} {w : Nat} (h : lisOf i = some (a, w)) : RunsWord i a w := by
  cases i <;> cases h
  case lisAsr rd ra sh rnd =>
    refine runsWord_of_lisWord (fun _ => rfl) (by decide) ?_
    cases rnd <;> simp only [lisWord, b2n, fmtR, if_true, Bool.false_eq_true, if_false] <;> omega
  all_goals
    refine runsWord_of_lisWord (fun _ => rfl) (by decide) ?_
    simp only [lisWord, b2n, fmtR, fmtC, fmtI, fmtCI, fmtH, fmtM, fmtK]
    omega

theorem opOf_lisWord (a : LisAt) {op fields : Nat} (hop : op < 64) (h : fields < 2 ^ 23) : opOf (lisWord op a fields) = op := by
  unfold opOf bits lisWord b2n
  split <;> omega

theorem lisOf_nop {a b : LisAt} {w : Nat} (h : lisOf (.lisNop b) = some (a, w)) : b = a ∧ w = lisWord 0x00 b 0 := by
  obtain ⟨rfl, rfl⟩ := Prod.mk.inj (Option.some.inj h)
  exact ⟨rfl, by simp [lisWord, b2n]⟩

theorem lisOf_end {a b : LisAt} {w : Nat} (h : lisOf (.lisEnd b) = some (a, w)) : b = a ∧ w = lisWord 0x01 b 0 := by
  obtain ⟨rfl, rfl⟩ := Prod.mk.inj (Option.some.inj h)
  exact ⟨rfl, by simp [lisWord, b2n]⟩

/-- An instruction's opcode is the top of its word (R251). -/
theorem opOf_eq {w : Nat} (h : w < 2 ^ 32) : opOf w = w / 2 ^ 26 := Nat.mod_eq_of_lt (by omega)

end Sys2Proof.Machine
end

section
/-! END (R220, R244): what the commit of a job writes, and that its core is free. -/
namespace Sys2Proof.Machine

theorem takesJob_of_mem {s t : State} (h : t.mem = s.mem) (x : Nat) : t.takesJob x = s.takesJob x := by
  rw [State.takesJob, State.takesJob, State.ctxState, State.ctxState, load_of_mem h]

theorem isProbe_of_mem {s t : State} (h : t.mem = s.mem) (x : Nat) : t.isProbe (t.ctxProg x) = s.isProbe (s.ctxProg x) := by
  simp only [State.isProbe, State.ctxProg, load_of_mem h]

@[simp] theorem store_lpa (s : State) (a n v : Nat) : (s.store a n v).lpa = s.lpa := by rw [store_eq_mem]

theorem setCtxK_frame (s : State) (die x k v : Nat) (apart : Bool) : ∃ mem probeK,
    s.setCtxK die x k v apart = { s with mem := mem, lpa := { s.lpa with probeK := probeK } } := by
  unfold State.setCtxK
  split
  · exact ⟨_, s.lpa.probeK, store_eq_mem _ _ _ _⟩
  · dsimp only
    split
    · exact ⟨_, _, rfl⟩
    · exact ⟨_, _, store_eq_mem _ _ _ _⟩

/-- Committing a job's words leaves all but memory and the words that the dies hold apart. -/
theorem commitK_frame (s : State) (r : Run) : ∃ mem probeK,
    s.commitK r = { s with mem := mem, lpa := { s.lpa with probeK := probeK } } := by
  refine List.foldlRecOn (motive := fun t : State => ∃ (mem : List Host.Cell) (probeK : List (Nat × Nat)),
    t = { s with mem := mem, lpa := { s.lpa with probeK := probeK } }) r.k _ ⟨s.mem, s.lpa.probeK, rfl⟩ ?_
  rintro t ⟨mem, probeK, rfl⟩ w -
  split
  · exact ⟨_, _, rfl⟩
  · obtain ⟨mem', probeK', h⟩ := setCtxK_frame { s with mem := mem, lpa := { s.lpa with probeK := probeK } } r.job.die r.job.ctx w.1 w.2
      (s.isProbe (s.ctxProg r.job.ctx))
    exact ⟨mem', probeK', h⟩

/-- A job's one word, stored unless a host value waits there (R236, R246). -/
theorem commitK_one {s : State} {r : Run} {k v : Nat} (hk : r.k = [(k, v)]) (hhost : nget s.lpa.hostK (8 * r.job.ctx + k) = 0)
    (hprobe : s.isProbe (s.ctxProg r.job.ctx) = false) : s.commitK r = s.store (ctxAddr r.job.ctx + 24 + 4 * k) 4 v := by
  simp [State.commitK, hk, hhost, hprobe, State.setCtxK]

/-- What a context shows of a job that has committed: the count of its runs, PFLAGS, and no overruns. -/
def State.showRun (s : State) (x n flags : Nat) : State :=
  ((s.store (ctxAddr x + 12) 4 n).store (ctxAddr x + 10) 1 0).setPflags x flags

section
variable (s : State) (x n flags : Nat)

theorem load_showRun_other {b m : Nat} (h : b + m ≤ ctxAddr x + 10 ∨ ctxAddr x + 16 ≤ b) : (s.showRun x n flags).load b m = s.load b m := by
  rw [State.showRun, State.setPflags, load_store_other _ _ (by omega), load_store_other _ _ (by omega), load_store_other _ _ (by omega)]

theorem loadB_showRun_other {b : Nat} (h : b < ctxAddr x + 10 ∨ ctxAddr x + 16 ≤ b) : (s.showRun x n flags).loadB b = s.loadB b := by
  rw [State.showRun, State.setPflags, loadB_store_other _ _ (by omega), loadB_store_other _ _ (by omega), loadB_store_other _ _ (by omega)]

theorem load_showRun_runs : (s.showRun x n flags).load (ctxAddr x + 12) 4 = n % 2 ^ 32 := by
  rw [State.showRun, State.setPflags, load_store_other _ _ (by omega), load_store_other _ _ (by omega), load_store_same]
  rfl

theorem load_showRun_overruns : (s.showRun x n flags).load (ctxAddr x + 10) 1 = 0 := by
  rw [State.showRun, State.setPflags, load_store_other _ _ (by omega), load_store_same]
  rfl

theorem load_showRun_flags : (s.showRun x n flags).load (ctxAddr x + 11) 1 = flags % 256 := load_store_same _ _ _ _

end

/-- RUNS of a context after one more run (R220). -/
def State.runsAfter (s : State) (x : Nat) : Nat := min (s.load (ctxAddr x + 12) 4 + 1) 0xFFFFFFFF

theorem runsAfter_mod (s : State) (x : Nat) : s.runsAfter x % 2 ^ 32 = min (s.load (ctxAddr x + 12) 4 + 1) 0xFFFFFFFF :=
  Nat.mod_eq_of_lt (by unfold State.runsAfter; omega)

/-- PFLAGS of a context after a job's run (R220). -/
def Run.flags (r : Run) : Nat := (if r.done = true then 1 else 0) + (if r.job.stolen ≠ 0 then 16 else 0)

theorem Run.flags_mod (r : Run) : r.flags % 256 = (if r.done = true then 1 else 0) + (if r.job.stolen ≠ 0 then 16 else 0) :=
  Nat.mod_eq_of_lt (by unfold Run.flags; split <;> split <;> omega)

/-- The jobs that have ended, those of a context's period marked as committed. -/
def markFin (r : Run) (l : List Run) : List Run :=
  l.map fun e => if e.job.ctx == r.job.ctx && e.job.s == r.job.s then { e with fin := true } else e

/-- A commit marks the job, and leaves the jobs that wait and run (R220). -/
theorem commitJob_lpa (s : State) (r : Run) : ∃ probeK last, (s.commitJob r).lpa = { s.lpa with
    probeK := probeK, last := last, ended := markFin r s.lpa.ended } := by
  have hk : ∃ probeK, (if s.isProbe (s.ctxProg r.job.ctx) then s else s.commitK r).lpa = { s.lpa with probeK := probeK } := by
    split
    · exact ⟨_, rfl⟩
    · obtain ⟨mem, probeK, h⟩ := commitK_frame s r
      exact ⟨probeK, by rw [h]⟩
  obtain ⟨probeK, hk⟩ := hk
  unfold State.commitJob
  cases r.sat <;> simp only [State.setPflags, store_lpa, bump_lpa, hk, Bool.false_eq_true, if_true, if_false] <;> exact ⟨_, _, rfl⟩

/-- The commit of a job whose program is no probe: its words, and then what its context shows of it (R220). -/
theorem commitJob_mem {s : State} {r : Run} (hprobe : s.isProbe (s.ctxProg r.job.ctx) = false) :
    (s.commitJob r).mem = ((s.commitK r).showRun r.job.ctx (s.runsAfter r.job.ctx) r.flags).mem := by
  have hflags : b2n (r.done && !false) + 16 * b2n (r.job.stolen != 0) = r.flags := by
    simp only [b2n, Run.flags, Bool.not_false, Bool.and_true, bne_iff_ne, ne_eq]
    split <;> split <;> rfl
  unfold State.commitJob
  simp only [hprobe, Bool.false_eq_true, if_false, hflags]
  split <;> rfl

/-- The job has committed while it ran on a die that was active then (R220). -/
def State.committed (s : State) (r : Run) : Bool :=
  s.lpa.ended.any fun e => e.job.ctx == r.job.ctx && e.job.s == r.job.s && e.fin

/-- The state in which a job is among those ended. -/
def State.hasEnded (s : State) (r : Run) : State :=
  { s with lpa := { s.lpa with ended := { r with fin := s.committed r } :: s.lpa.ended } }

/-- The words of a job that has ended, committed where its program is a probe (R256). -/
def State.endWords (s : State) (r : Run) : State :=
  if (s.hasEnded r).isProbe ((s.hasEnded r).ctxProg r.job.ctx) then (s.hasEnded r).commitK r else s.hasEnded r

/-- The end of a job by its branches: a context that takes no job, the active die's commit, and the other die. -/
theorem endJob_eq (s : State) (r : Run) : s.endJob r =
    if !(s.hasEnded r).takesJob r.job.ctx then s.hasEnded r
    else if (s.endWords r).isActive r.job.die && !s.committed r then (s.endWords r).commitJob r else s.endWords r := rfl

/-- A job that ends is the first of those ended, and leaves what waits and runs (R220). -/
theorem endJob_lpa (s : State) (r : Run) : ∃ probeK last fin rest, (s.endJob r).lpa = { s.lpa with
    probeK := probeK, last := last, ended := { r with fin := fin } :: rest } := by
  have hw : ∃ probeK, (s.endWords r).lpa = { s.lpa with probeK := probeK, ended := { r with fin := s.committed r } :: s.lpa.ended } := by
    unfold State.endWords
    split
    · obtain ⟨mem, probeK, h⟩ := commitK_frame (s.hasEnded r) r
      exact ⟨probeK, by rw [h]; rfl⟩
    · exact ⟨_, rfl⟩
  obtain ⟨probeK, hw⟩ := hw
  rw [endJob_eq]
  split
  · exact ⟨s.lpa.probeK, s.lpa.last, _, _, rfl⟩
  · split
    · obtain ⟨probeK', last, h⟩ := commitJob_lpa (s.endWords r) r
      refine ⟨probeK', last, true, markFin r s.lpa.ended, h.trans ?_⟩
      rw [hw]
      simp [markFin]
    · exact ⟨probeK, s.lpa.last, _, _, hw⟩

section
variable {s : State} {r : Run} (hprobe : s.isProbe (s.ctxProg r.job.ctx) = false)
include hprobe

theorem endWords_eq : s.endWords r = s.hasEnded r :=
  if_neg (by rw [isProbe_of_mem (t := s.hasEnded r) (s := s) rfl, hprobe]; decide)

/-- On a die that is not active the end of a job changes no byte (R220). -/
theorem endJob_inactive (hact : s.isActive r.job.die = false) : (s.endJob r).mem = s.mem := by
  rw [endJob_eq, endWords_eq hprobe]
  split
  · rfl
  · have hact' : (s.hasEnded r).isActive r.job.die = false := hact
    rw [if_neg (by simp [hact'])]
    rfl

/-- On the active die a job that ends commits at once (R220). -/
theorem endJob_active (hact : s.isActive r.job.die = true) (htakes : s.takesJob r.job.ctx = true) (hfin : s.committed r = false) :
    s.endJob r = (s.hasEnded r).commitJob r := by
  have htakes' : (s.hasEnded r).takesJob r.job.ctx = true := (takesJob_of_mem rfl _).trans htakes
  have hact' : (s.hasEnded r).isActive r.job.die = true := hact
  rw [endJob_eq, endWords_eq hprobe, if_neg (by simp [htakes']), if_pos (by simp [hact', hfin])]

end

/-- What an END does in time (R220): its core is free, its job has ended, and the performance counters take it. -/
def State.endAct (s : State) (word : Nat) (r : Run) : State :=
  let t := ((((s.freeCore r.job.die r.job.core).endJob r).pmcAdd r.job.die r.job.core evJobEnd (some r.job.cls) 1).pmcSlot
    r.job.die r.job.core evBack r.job.cls 2).pmcEvent 2 r.job word (s.progStart (s.ctxProg r.job.ctx)) false false r.cycles
  if r.sat then t.pmcAdd r.job.die r.job.core evSatCommit (some r.job.cls) 1 else t

theorem countFrame_endAct (s : State) (word : Nat) (r : Run) :
    CountFrame pmcKey ((s.freeCore r.job.die r.job.core).endJob r) (s.endAct word r) := by
  have h1 := (countFrame_refl (coreKey r.job.die r.job.core) ((s.freeCore r.job.die r.job.core).endJob r)).pmcAdd evJobEnd
    (some r.job.cls) 1 true
  have h2 := (h1.pmcSlot evBack r.job.cls 2 true).pmcEvent 2 r.job word (s.progStart (s.ctxProg r.job.ctx)) false false r.cycles
  exact .mono (.ite (h2.pmcAdd evSatCommit (some r.job.cls) 1 true) h2) fun _ => pmcKey_of_coreKey

/-- An END in time frees its core, and its job is the first of those ended. -/
theorem endAct_lists (s : State) (word : Nat) (r : Run) :
    (s.endAct word r).lpa.runs = (s.freeCore r.job.die r.job.core).lpa.runs ∧
    ((s.endAct word r).lpa.ended.head?.map fun e => (e.job, e.cand, e.done, e.k)) = some (r.job, r.cand, r.done, r.k) := by
  obtain ⟨probeK, last, fin, rest, h⟩ := endJob_lpa (s.freeCore r.job.die r.job.core) r
  rw [(countFrame_endAct s word r).lpa, h]
  exact ⟨rfl, rfl⟩

/-- An END that acts before its period's end (R220, R244). -/
theorem lisEnd_ends {s : State} {a : LisAt} {r : Run} (h : LisReady s a r (lisWord 0x01 a 0)) (hg : (r.pred a.pg != a.pn) = true)
    (hnow : s.now < r.job.s + classPeriod r.job.cls) : ∃ u, CountFrame (coreKey a.die a.core) s u ∧
      exec (.lisEnd a) s = .next (u.endAct (lisWord 0x01 a 0) (r.next 1)) := by
  obtain ⟨u, hu, hlis⟩ := lis_runs (cut := 23) h rfl fun s r =>
    if s.now < r.job.s + classPeriod r.job.cls then s.endAct (lisWord 0x01 a 0) r else s.setRun { r with pc := r.pc - 1 }
  rw [opOf_lisWord a (by decide) (by decide), if_pos hg, if_pos (by rw [hu.now]; exact hnow)] at hlis
  exact ⟨u, hu, congrArg Host.Outcome.next hlis⟩

/-- What a context shows after the active die's job has ended there (R220). -/
theorem endJob_shows {s : State} {r : Run} (hprobe : s.isProbe (s.ctxProg r.job.ctx) = false) (hact : s.isActive r.job.die = true)
    (htakes : s.takesJob r.job.ctx = true) (hfin : s.committed r = false) :
    (s.endJob r).load (ctxAddr r.job.ctx + 12) 4 = min (s.load (ctxAddr r.job.ctx + 12) 4 + 1) 0xFFFFFFFF ∧
    (s.endJob r).load (ctxAddr r.job.ctx + 11) 1 = (if r.done = true then 1 else 0) + (if r.job.stolen ≠ 0 then 16 else 0) ∧
    ∀ k v : Nat, r.k = [(k, v)] → v < 2 ^ 32 → nget s.lpa.hostK (8 * r.job.ctx + k) = 0 →
      (s.endJob r).load (ctxAddr r.job.ctx + 24 + 4 * k) 4 = v := by
  have hprobe' : (s.hasEnded r).isProbe ((s.hasEnded r).ctxProg r.job.ctx) = false := (isProbe_of_mem rfl _).trans hprobe
  rw [endJob_active hprobe hact htakes hfin]
  have hload := load_of_mem (commitJob_mem hprobe')
  refine ⟨?_, ?_, fun k v hk hv hhost => ?_⟩
  · rw [hload, load_showRun_runs, runsAfter_mod, load_of_mem (t := s.hasEnded r) (s := s) rfl]
  · rw [hload, load_showRun_flags, Run.flags_mod]
  · rw [hload, load_showRun_other _ _ _ _ (by omega), commitK_one (s := s.hasEnded r) hk hhost hprobe', load_store_same]
    exact Nat.mod_eq_of_lt hv

end Sys2Proof.Machine

open Sys2Proof Sys2Proof.Machine

/-- Settles O35, clause by clause: NOP and a guard that is off only let the job go on; END is the commit of its job, with its core free;
and a core with nothing to run meets no instruction. -/
theorem lisEndAndGuards : Obligations.LisEndAndGuards := by
  unfold Obligations.LisEndAndGuards
  refine ⟨fun b s a w r hlis h hg => ?_, fun s a w r hlis h hg hnow => ?_, fun i s a w r hlis h hg => ?_, fun i s a w hlis h => ?_⟩
  · obtain ⟨rfl, rfl⟩ := lisOf_nop hlis
    obtain ⟨u, hu, hrun⟩ := lis_runs (cut := 23) h rfl fun s r => s.setRun r
    rw [if_pos hg, opOf_lisWord b (by decide) (by decide)] at hrun
    exact ⟨_, congrArg Host.Outcome.next hrun, lisRan_setRun hu h.1 rfl 1⟩
  · obtain ⟨-, rfl⟩ := lisOf_end hlis
    obtain ⟨u, hu, hexec⟩ := lisEnd_ends h hg hnow
    obtain ⟨-, hdie, hcore⟩ := mem_of_running h.1
    obtain ⟨hruns, hended⟩ := endAct_lists u (lisWord 0x01 a 0) (r.next 1)
    have hload := load_of_mem (countFrame_endAct u (lisWord 0x01 a 0) (r.next 1)).mem
    have hmem : (u.freeCore r.job.die r.job.core).mem = s.mem := hu.mem
    have hactive : (u.freeCore r.job.die r.job.core).isActive r.job.die = s.isActive a.die := by
      rw [hdie]
      exact on_of_rd (hu.rd (fun _ => pmcKey_of_coreKey) (f := HPT_STATUS.ACTIVE) (by decide) _ _ _)
    refine ⟨_, hexec, ?_, hended, fun die core hne => ?_, fun hprobe => ?_⟩
    · rw [running_congr hruns, ← hdie, ← hcore]
      exact running_freeCore_same u _ _
    · rw [running_congr hruns, ← running_congr (congrArg Lpa.runs hu.lpa)]
      exact running_freeCore_other u (by rwa [← hdie, ← hcore] at hne)
    · have hprobe' := (isProbe_of_mem hmem r.job.ctx).trans hprobe
      refine ⟨fun hact => memSame_of_mem ?_, fun hact htakes hfin => ?_⟩
      · rw [(countFrame_endAct _ _ _).mem]
        exact (endJob_inactive (r := r.next 1) hprobe' (hactive.trans hact)).trans hmem
      · have hfin' : (u.freeCore r.job.die r.job.core).committed (r.next 1) = false := by
          refine List.any_eq_false.mpr fun e he => ?_
          simp only [Bool.and_eq_true, beq_iff_eq, and_assoc]
          exact hfin e (by rwa [← hu.lpa])
        obtain ⟨hrun, hflags, hword⟩ := endJob_shows (r := r.next 1) hprobe' (hactive.trans hact) ((takesJob_of_mem hmem _).trans htakes) hfin'
        simp only [hload, ← load_of_mem hmem]
        exact ⟨hrun, hflags, fun k v hk hv hhost => hword k v hk hv (by rwa [← hu.lpa] at hhost)⟩
  · obtain ⟨hlt, word, cut, f, hw, hexec⟩ := exec_of_lisOf hlis
    obtain ⟨u, hu, hlis⟩ := lis_runs h hw f
    refine ⟨_, (hexec s).trans (congrArg Host.Outcome.next (hlis.trans (if_neg (by simp [hg])))), ?_⟩
    rw [← opOf_eq hlt]
    exact lisRan_setRun hu h.1 rfl _
  · obtain ⟨-, word, cut, f, -, hexec⟩ := exec_of_lisOf hlis
    exact (hexec s).trans (congrArg _ (lis_idle h word cut f))

end

section
/-! SUPPORT. Classes, waits and resumptions of the loops (R222, R223, R229): which of the Loop Array's lists they change. -/
namespace Sys2Proof.Machine

/-- The head of a class's wait list leaves it, and joins the changes. -/
def State.enterHead (s : State) (cls ch : Nat) : State :=
  let t := s.setWait cls ch false
  { t with lpa := { t.lpa with changes := { ch := ch, cls := cls, after := s.now } :: t.lpa.changes.filter fun c => c.ch != ch } }

/-- What each entry from a wait list keeps, the entries of the heads of both lists keep (R223). -/
theorem promote_rec {P : State → Prop} {s : State} (h : P s) (hstep : ∀ t cls ch, P t → P (t.enterHead cls ch)) : P s.promote := by
  unfold State.promote
  extract_lets one
  have hone (t : State) (cls : Nat) (ht : P t) : P (one t cls) := by
    simp only [one]
    split
    · exact ht
    · split
      · exact ht
      · exact hstep t cls _ ht
  exact hone _ 1 (hone _ 0 h)

/-- Between `s` and `t` nothing but memory and the lists of the Loop Array on classes, waits and resumptions has changed: no job, no
output, no image and no value that waits. -/
structure ListFrame (s t : State) : Prop where
  frame : t = { s with mem := t.mem, lpa := { s.lpa with
    resume := t.lpa.resume, resumeCtx := t.lpa.resumeCtx, changes := t.lpa.changes, ran := t.lpa.ran, since := t.lpa.since,
    swait := t.lpa.swait, twait := t.lpa.twait, waitAt := t.lpa.waitAt, fresh := t.lpa.fresh, duskFrom := t.lpa.duskFrom } }

section
variable {s t : State}

theorem listFrame_refl (s : State) : ListFrame s s := ⟨rfl⟩

theorem ListFrame.trans {a b c : State} (h : ListFrame a b) (g : ListFrame b c) : ListFrame a c := by
  refine ⟨?_⟩
  have h1 := g.frame
  rw [h.frame] at h1
  exact h1

theorem ListFrame.ite {p : Prop} [Decidable p] {a b : State} (ha : ListFrame s a) (hb : ListFrame s b) :
    ListFrame s (if p then a else b) := by split <;> assumption

theorem ListFrame.foldl {α : Type} {f : State → α → State} (hf : ∀ {t} a, ListFrame s t → ListFrame s (f t a)) (h : ListFrame s t)
    (l : List α) : ListFrame s (l.foldl f t) := List.foldlRecOn l f h fun _ ht a _ => hf a ht

theorem ListFrame.store (h : ListFrame s t) (a n v : Nat) : ListFrame s (t.store a n v) :=
  h.trans ⟨by rw [store_eq_mem t a n v]⟩

theorem ListFrame.setCclass (h : ListFrame s t) (ch v : Nat) : ListFrame s (t.setCclass ch v) := h.store _ _ _

theorem ListFrame.lists (h : ListFrame s t) {resume changes : List ClassWait} {resumeCtx ran since waitAt duskFrom : List (Nat × Nat)}
    {swait twait fresh : List Nat} : ListFrame s { t with lpa := { t.lpa with
      resume := resume, resumeCtx := resumeCtx, changes := changes, ran := ran, since := since, swait := swait, twait := twait,
      waitAt := waitAt, fresh := fresh, duskFrom := duskFrom } } := h.trans ⟨rfl⟩

theorem ListFrame.setWait (h : ListFrame s t) (cls ch : Nat) (v : Bool) (at_ : Nat) : ListFrame s (t.setWait cls ch v at_) := by
  have lists {a b : State} (hb : ListFrame a b) (x y : List Nat) (w : List (Nat × Nat)) :
      ListFrame a { b with lpa := { b.lpa with swait := x, twait := y, waitAt := w } } := hb.trans ⟨rfl⟩
  refine h.trans ?_
  by_cases h0 : cls = 0
  · subst h0
    cases v <;> exact lists ((listFrame_refl t).setCclass ch _) _ _ _
  · by_cases h1 : cls = 1
    · subst h1
      cases v <;> exact lists ((listFrame_refl t).setCclass ch _) _ _ _
    · rw [show t.setWait cls ch v at_ = t by simp [State.setWait, h0, h1]]
      exact listFrame_refl t

theorem ListFrame.duskClass (h : ListFrame s t) (ch cls : Nat) : ListFrame s (t.duskClass ch cls).2 := by
  unfold State.duskClass
  split
  · exact h
  · split
    · exact h
    · exact h.lists

/-- Sending a channel to a class (R222, R223). -/
theorem ListFrame.sendTo (h : ListFrame s t) (ch cls : Nat) : ListFrame s (t.sendTo ch cls) := by
  rw [sendTo_eq]
  generalize hu : (t.duskClass ch cls).2.leaveWaits ch = u
  have h1 : ListFrame s u := hu ▸ ((h.duskClass ch cls).lists.setWait 0 ch false _).setWait 1 ch false _
  have h2 := ListFrame.ite (p := (u.classFull (t.duskClass ch cls).1 : Prop)) (h1.setWait (t.duskClass ch cls).1 ch true u.now) h1
  exact .ite h2 h2.lists

/-- The heads of the wait lists enter their classes (R223). -/
theorem ListFrame.promote (h : ListFrame s t) : ListFrame s t.promote :=
  promote_rec (P := ListFrame s) h fun _ cls ch ht => (ht.setWait cls ch false _).lists

theorem ListFrame.enterClass (h : ListFrame s t) (ch cls f : Nat) : ListFrame s (t.enterClass ch cls f) := (h.setCclass _ _).lists

theorem ListFrame.resumeOne (h : ListFrame s t) (x : Nat) : ListFrame s (t.resumeOne x) :=
  .ite h (.ite (h.store _ _ _) (.ite (((h.store _ _ _).store _ _ _).store _ _ _) ((h.store _ _ _).store _ _ _)))

theorem ListFrame.resumeIn (h : ListFrame s t) (ch cls f : Nat) : ListFrame s (t.resumeIn ch cls f) :=
  (ListFrame.foldl (fun x ht => ht.resumeOne x) (((h.lists).setCclass ch _).enterClass ch cls f) _).lists

/-- Loops resume (R104, R229). -/
theorem ListFrame.resumeAt (h : ListFrame s t) (cls f : Nat) : ListFrame s (t.resumeAt cls f) := by
  refine (ListFrame.foldl (fun r ht => ht.resumeOne r.1) (ListFrame.foldl (fun r ht => ?_) h _) _).lists
  exact .ite (ht.setWait _ _ _ _).lists (ht.resumeIn _ _ _)

end

end Sys2Proof.Machine
end

section
/-! SUPPORT. The start of a period (R217 to R219, R227, R229, R236, R237): what phase 0 latches, and the contexts it releases. -/
namespace Sys2Proof.Machine

/-! #### Host values of context words (R236) -/

/-- Host value `k` of a context, if one waits, comes into force. -/
def State.settleWord (s : State) (x k : Nat) : State :=
  match nget s.lpa.hostK (8 * x + k) with
  | 0 => s
  | v + 1 =>
    let t := s.store (ctxAddr x + 24 + 4 * k) 4 v
    { t with lpa := { t.lpa with hostK := nset t.lpa.hostK (8 * x + k) 0, probeK := nset t.lpa.probeK (8 * x + k) 0 } }

/-- Word `k` of a context on a die once no host value waits. -/
def State.settledK (s : State) (die x k : Nat) : Nat :=
  match nget s.lpa.hostK (8 * x + k) with
  | 0 => s.ctxK die x k
  | v + 1 => v % 2 ^ 32

theorem settleK_eq (s : State) (x : Nat) : s.settleK x = (List.range 8).foldl (fun t k => t.settleWord x k) s := rfl

section
variable (s : State) (die x : Nat)

theorem settleWord_frame (k : Nat) : ∃ mem hostK probeK,
    s.settleWord x k = { s with mem := mem, lpa := { s.lpa with hostK := hostK, probeK := probeK } } := by
  unfold State.settleWord
  split
  · exact ⟨_, _, _, rfl⟩
  · dsimp only
    rw [store_eq_mem]
    exact ⟨_, _, _, rfl⟩

/-- The host values of a context coming into force change memory and what waits alone. -/
theorem settleK_frame : ∃ mem hostK probeK,
    s.settleK x = { s with mem := mem, lpa := { s.lpa with hostK := hostK, probeK := probeK } } := by
  rw [settleK_eq]
  refine List.foldlRecOn (motive := fun t : State => ∃ (mem : List Host.Cell) (hostK probeK : List (Nat × Nat)),
    t = { s with mem := mem, lpa := { s.lpa with hostK := hostK, probeK := probeK } }) _ _ ⟨s.mem, s.lpa.hostK, s.lpa.probeK, rfl⟩ ?_
  rintro t ⟨mem, hostK, probeK, rfl⟩ k -
  obtain ⟨mem', hostK', probeK', h⟩ := settleWord_frame { s with mem := mem, lpa := { s.lpa with hostK := hostK, probeK := probeK } } x k
  exact ⟨mem', hostK', probeK', h⟩

theorem ctxK_of_not_apart {s : State} {die x k : Nat} (h : nget s.lpa.probeK (8 * x + k) = 0) :
    s.ctxK die x k = s.load (ctxAddr x + 24 + 4 * k) 4 := by
  unfold State.ctxK
  rw [h, ite_self]

theorem ctxK_congr {s t : State} {die x k : Nat} (hp : nget t.lpa.probeK (8 * x + k) = nget s.lpa.probeK (8 * x + k))
    (hl : t.load (ctxAddr x + 24 + 4 * k) 4 = s.load (ctxAddr x + 24 + 4 * k) 4) : t.ctxK die x k = s.ctxK die x k := by
  unfold State.ctxK
  rw [hp, hl]

/-- What a context word's host value coming into force stores, and that it waits no more. -/
theorem settleWord_some {x k v : Nat} (h : nget s.lpa.hostK (8 * x + k) = v + 1) :
    (s.settleWord x k).mem = (s.store (ctxAddr x + 24 + 4 * k) 4 v).mem ∧
    (s.settleWord x k).lpa.hostK = nset s.lpa.hostK (8 * x + k) 0 ∧
    (s.settleWord x k).lpa.probeK = nset s.lpa.probeK (8 * x + k) 0 := by
  unfold State.settleWord
  rw [h]
  dsimp only
  rw [store_lpa]
  exact ⟨rfl, rfl, rfl⟩

theorem settleWord_none {x k : Nat} (h : nget s.lpa.hostK (8 * x + k) = 0) : s.settleWord x k = s := by
  unfold State.settleWord
  rw [h]

theorem ctxK_settleWord_same (k : Nat) : (s.settleWord x k).ctxK die x k = s.settledK die x k := by
  unfold State.settledK
  split
  case h_1 h => rw [settleWord_none s h]
  case h_2 v h =>
    obtain ⟨hmem, -, hprobe⟩ := settleWord_some s h
    rw [ctxK_of_not_apart (by rw [hprobe, nget_nset_same]), load_of_mem hmem, load_store_same]
    rfl

theorem settleWord_other {j k : Nat} (h : j ≠ k) : (s.settleWord x k).ctxK die x j = s.ctxK die x j ∧
    nget (s.settleWord x k).lpa.hostK (8 * x + j) = nget s.lpa.hostK (8 * x + j) := by
  cases hk : nget s.lpa.hostK (8 * x + k) with
  | zero => rw [settleWord_none s hk]; exact ⟨rfl, rfl⟩
  | succ v =>
    obtain ⟨hmem, hhost, hprobe⟩ := settleWord_some s hk
    have hne : 8 * x + j ≠ 8 * x + k := by omega
    refine ⟨ctxK_congr (by rw [hprobe, nget_nset_other _ _ hne]) ?_, by rw [hhost, nget_nset_other _ _ hne]⟩
    rw [load_of_mem hmem, load_store_other _ _ (by omega)]

theorem settledK_settleWord_other {j k : Nat} (h : j ≠ k) : (s.settleWord x k).settledK die x j = s.settledK die x j := by
  obtain ⟨hk, hhost⟩ := settleWord_other s die x h
  unfold State.settledK
  rw [hhost, hk]

/-- The words of a context on a die after its host values have come into force. -/
theorem ctxK_foldl_settleWord {k : Nat} : ∀ (l : List Nat) (s : State), l.Nodup →
    (l.foldl (fun t k => t.settleWord x k) s).ctxK die x k = if k ∈ l then s.settledK die x k else s.ctxK die x k
  | [], s, _ => by simp
  | a :: l, s, h => by
    obtain ⟨ha, hl⟩ := List.nodup_cons.mp h
    rw [List.foldl_cons, ctxK_foldl_settleWord l _ hl]
    by_cases hk : k = a
    · subst hk
      simp [ha, ctxK_settleWord_same]
    · simp [hk, settledK_settleWord_other s die x hk, (settleWord_other s die x hk).1]

theorem ctxK_settleK {k : Nat} (hk : k < 8) : (s.settleK x).ctxK die x k = s.settledK die x k := by
  rw [settleK_eq, ctxK_foldl_settleWord die x _ s List.nodup_range, if_pos (List.mem_range.mpr hk)]

/-- The WCET stands before the words. -/
theorem ctxWcet_settleK : (s.settleK x).ctxWcet x = s.ctxWcet x := by
  rw [settleK_eq]
  refine List.foldlRecOn (motive := fun t : State => t.ctxWcet x = s.ctxWcet x) _ _ rfl fun t ht k _ => ?_
  rw [← ht]
  cases hk : nget t.lpa.hostK (8 * x + k) with
  | zero => rw [settleWord_none t hk]
  | succ v =>
    obtain ⟨hmem, -, -⟩ := settleWord_some t hk
    exact (load_of_mem hmem _ _).trans (load_store_other _ _ (by omega))

end

/-! #### Phase 0 -/

/-- The phase 0 of a class that comes next: not before now, and after that of the image held. -/
def State.phaseFrame (s : State) (cls : Nat) : Nat :=
  phase0 cls (max s.now (match aget s.lpa.images cls with | some i => i.frame + 1 | none => 0))

theorem phaseFrame_eq {s : State} {cls : Nat} (h : ∀ i, aget s.lpa.images cls = some i → i.frame < s.now) :
    s.phaseFrame cls = s.now + (2 + classPeriod cls - s.now % classPeriod cls) % classPeriod cls := by
  have hmax : max s.now (match aget s.lpa.images cls with | some i => i.frame + 1 | none => 0) = s.now := by
    split
    · rename_i i hi
      exact Nat.max_eq_left (h i hi)
    · exact Nat.max_eq_left (Nat.zero_le _)
  rw [State.phaseFrame, hmax]
  rfl

/-- The state at phase 0 `f` of a class: loops resume, the image is latched, and the contexts that were activated begin. -/
def State.atPhase0 (s : State) (cls f : Nat) : State :=
  let s0 := (s.reach f).occur (452 + cls)
  let t := s0.resumeAt cls f
  let s1 : State := { t with lpa := { t.lpa with
    images := aput t.lpa.images cls (t.latch f), on := nset t.lpa.on cls (b2n (s.on LPA_CTL.ENABLE)) } }
  (s1.beginCtxs cls f).wr LPA_STATUS.ENABLED (b2n (s1.lpa.on.length != 0))

/-- The contexts due at phase 0 `f` of a class that have begun. -/
def State.dueNow (s : State) (cls f : Nat) : List Nat := s.allCtx.filter fun x => s.dueIn x cls f && !s.notBegun x

/-- The job of a context on a die, in the period of a class that starts at `f`. -/
def State.newJob (s : State) (die x cls f : Nat) : Job :=
  { die := die, core := homeCore x, ctx := x, cls := cls, s := f, wcet := s.ctxWcet x, filled := false, stolen := 0
    k := (List.range 8).map fun k => s.ctxK die x k }

/-- The contexts `run` become jobs on the dies, and the contexts `skip` are skipped. -/
def State.release (s : State) (dies due run skip : List Nat) (cls f : Nat) : State :=
  let t := (due.foldl State.settleK s).bump LPA_CNT_SKIP.COUNT skip.length
  ({ t with lpa := { t.lpa with
      jobs := t.lpa.jobs ++ dies.flatMap fun d => run.map fun x => t.newJob d x cls f
      skipped := t.lpa.skipped ++ skip.map fun x => (x, f + classPeriod cls) } } : State).promote

/-- PERIOD_RELEASE is phase 0, and with ENABLE 1 the release of the contexts due. -/
theorem exec_periodRelease (s : State) (cls : Fin 4) : exec (.periodRelease cls) s = .next (
    if !s.on LPA_CTL.ENABLE then s.atPhase0 cls (s.phaseFrame cls)
    else
      let u := s.atPhase0 cls (s.phaseFrame cls)
      let due := u.dueNow cls (s.phaseFrame cls)
      u.release ([0, 1].filter s.dieRuns) due (due.filter fun x => !u.skips x cls) (due.filter fun x => u.skips x cls) cls (s.phaseFrame cls)) := by
  show execPeriodRelease cls s = _
  unfold execPeriodRelease State.release State.atPhase0
  rfl

section
variable (s : State) (cls f : Nat)

theorem atPhase0_now : (s.atPhase0 cls f).now = max s.now f := by
  have h := (listFrame_refl ((s.reach f).occur (452 + cls))).resumeAt cls f
  rw [State.atPhase0, State.wr, State.beginCtxs, h.frame]
  rfl

theorem atPhase0_on : nget (s.atPhase0 cls f).lpa.on cls = b2n (s.on LPA_CTL.ENABLE) := nget_nset_same _ _ _

theorem atPhase0_jobs : (s.atPhase0 cls f).lpa.jobs = s.lpa.jobs := by
  have h := (listFrame_refl ((s.reach f).occur (452 + cls))).resumeAt cls f
  rw [State.atPhase0, State.wr, State.beginCtxs, h.frame]
  rfl

theorem image_of_aget {s : State} {cls : Nat} {i : Image} (h : aget s.lpa.images cls = some i) : s.image cls = i := by
  rw [State.image, h, Option.getD_some]

/-- The image of phase 0 is latched once the loops have resumed (R219). -/
theorem atPhase0_images : aget (s.atPhase0 cls f).lpa.images cls =
    some ((((s.reach f).occur (452 + cls)).resumeAt cls f).latch f) := aget_aput_same _ _ _

end

theorem ctxState_of_mem {s t : State} (h : t.mem = s.mem) (x : Nat) : t.ctxState x = s.ctxState x := load_of_mem h _ _

theorem follows_of_mem {s t : State} (h : t.mem = s.mem) (x : Nat) : t.follows x = s.follows x := by
  rw [State.follows, State.follows, load_of_mem h]

/-! #### A phase 0 at which no loop resumes -/

theorem resumeAt_nil {s : State} (cls f : Nat) (h : s.lpa.resume = []) (hc : s.lpa.resumeCtx = []) : s.resumeAt cls f = s := by
  unfold State.resumeAt
  simp only [h, hc, List.filter_nil, sortBy, List.foldl_nil]
  rw [← hc, ← h]

/-- A context that was activated before `f` begins at phase 0 `f` of the class in which it runs (R237). -/
def State.starts (s : State) (cls f : Nat) (b : Nat × Nat) : Bool :=
  decide (b.2 < f) && if s.follows b.1 then s.runsIn (b.1 / 3) cls else s.ownClass b.1 == cls

/-- What a phase 0 changes where no loop resumes: the clock, the image, ENABLED and the contexts that begin. -/
structure Latched (s : State) (cls f : Nat) (u : State) : Prop where
  now : u.now = max s.now f
  mem : u.mem = s.mem
  pln : u.pln = s.pln
  lpa : u.lpa = { s.lpa with images := u.lpa.images, on := u.lpa.on, begun := s.lpa.begun.filter fun b => !s.starts cls f b }
  on : nget u.lpa.on cls = b2n (s.on LPA_CTL.ENABLE)
  tone : (u.image cls).tone = (s.listed toneBase 32 20480).map fun c =>
    (c, (s.load (toneAddr c) 4, s.load (toneAddr c + 4) 4, s.load (toneAddr c + 16) 2))
  regs : ∀ f i j k, LPA_STATUS.ENABLED.key 0 0 0 ≠ f.key i j k → u.rd f i j k = s.rd f i j k

theorem latched_atPhase0 {s : State} (cls f : Nat) (h : s.lpa.resume = []) (hc : s.lpa.resumeCtx = []) :
    Latched s cls f (s.atPhase0 cls f) := by
  have hr : ((s.reach f).occur (452 + cls)).resumeAt cls f = (s.reach f).occur (452 + cls) := resumeAt_nil cls f h hc
  refine ⟨atPhase0_now s cls f, ?_, ?_, ?_, atPhase0_on s cls f, ?_, fun g i j k hk => ?_⟩
  case refine_4 => rw [image_of_aget (atPhase0_images s cls f), hr]; rfl
  all_goals
    unfold State.atPhase0
    dsimp only
    rw [hr]
  case refine_5 => exact rd_wr_other _ _ hk.symm
  all_goals rfl

section
variable {s u : State} {cls f : Nat} (h : Latched s cls f u)
include h

theorem Latched.jobs : u.lpa.jobs = s.lpa.jobs := by rw [h.lpa]

theorem Latched.settledK (die x k : Nat) : u.settledK die x k = s.settledK die x k := by
  have hhost : u.lpa.hostK = s.lpa.hostK := by rw [h.lpa]
  have hprobe : u.lpa.probeK = s.lpa.probeK := by rw [h.lpa]
  rw [State.settledK, State.settledK, State.ctxK, State.ctxK, load_of_mem h.mem, hhost, hprobe]

theorem Latched.duskAsked : u.duskAsked = s.duskAsked :=
  on_of_rd (h.regs PWR_CTL.DUSK_REQ 0 0 0 (by decide))

theorem Latched.allCtx : u.allCtx = s.allCtx := by rw [State.allCtx, State.listed, h.mem]; rfl

theorem Latched.dueIn (x : Nat) : u.dueIn x cls f = s.dueIn x cls f := by
  obtain ⟨hclass, hpaused⟩ := sameClass_of_mem h.mem (x / 3)
  have hdiv : u.ctxDiv x = s.ctxDiv x := by rw [State.ctxDiv, load_of_mem h.mem]; rfl
  have hown : u.ownClass x = s.ownClass x := by rw [State.ownClass, State.ownClass, h.duskAsked, load_of_mem h.mem]
  rw [State.dueIn, State.dueIn, ctxState_of_mem h.mem, follows_of_mem h.mem, hclass, hpaused, hdiv, hown]

theorem Latched.toneBound (ch : Nat) : u.toneBound ch = s.toneBound ch := by
  simp only [State.toneBound, State.elemAt, State.validElems, State.listed, elem_of_mem h.mem, h.mem, h.pln]

/-- A context activated before `f` whose class it is has begun. -/
theorem Latched.begun {x : Nat} (hdue : s.dueIn x cls f = true) (hb : ∀ b ∈ s.lpa.begun, b.1 = x → b.2 < f) : u.notBegun x = false := by
  rw [State.notBegun, h.lpa]
  refine List.any_eq_false.mpr fun b hmem hx => ?_
  obtain ⟨hmem, hstart⟩ := List.mem_filter.mp hmem
  obtain rfl : b.1 = x := by simpa using hx
  have hown : (if s.follows b.1 then s.runsIn (b.1 / 3) cls else s.ownClass b.1 == cls) = true := by
    simp only [State.dueIn, Bool.and_eq_true] at hdue
    obtain ⟨-, hdue⟩ := hdue
    split at hdue
    · rw [if_pos ‹_›, State.runsIn, hdue]
    · rw [if_neg ‹_›]
      exact (Bool.and_eq_true _ _ ▸ hdue).1
  simp [State.starts, hb b hmem rfl, hown] at hstart

/-- A context activated at `f` or later has not. -/
theorem Latched.notBegun {x : Nat} (hb : ∃ b ∈ s.lpa.begun, b.1 = x ∧ f ≤ b.2) : u.notBegun x = true := by
  obtain ⟨b, hmem, rfl, hf⟩ := hb
  rw [State.notBegun, h.lpa]
  refine List.any_eq_true.mpr ⟨b, List.mem_filter.mpr ⟨hmem, ?_⟩, by simp⟩
  simp [State.starts, Nat.not_lt.mpr hf]

theorem Latched.dueNow {x : Nat} (hx : s.allCtx = [x]) (hdue : s.dueIn x cls f = true) (hb : ∀ b ∈ s.lpa.begun, b.1 = x → b.2 < f) :
    u.dueNow cls f = [x] := by
  simp [State.dueNow, h.allCtx, hx, h.dueIn, hdue, h.begun hdue hb]

theorem Latched.dueNow_nil {x : Nat} (hx : s.allCtx = [x]) (hb : ∃ b ∈ s.lpa.begun, b.1 = x ∧ f ≤ b.2) : u.dueNow cls f = [] := by
  simp [State.dueNow, h.allCtx, hx, h.notBegun hb]

theorem Latched.not_skips {x : Nat} (ht : x % 3 = 0 → s.toneBound (x / 3) = none) : u.skips x cls = false := by
  rw [State.skips, h.toneBound]
  by_cases hx : x % 3 = 0
  · simp [ht hx]
  · simp [hx]

/-- A slot 0 whose tone result is not clean is skipped (R227). -/
theorem Latched.skips {x : Nat} {b : ToneBind} (hx : x % 3 = 0) (hb : s.toneBound (x / 3) = some b)
    (hflags : s.load (toneAddr b.elem + 16) 2 % 32 ≠ 1) : u.skips x cls = true := by
  unfold State.skips
  rw [h.toneBound, hb, h.tone]
  have hnone {β : Type} (g : Nat → β) (l : List Nat) (h : b.elem ∉ l) : aget (l.map fun c => (c, g c)) b.elem = none := by
    induction l with
    | nil => rfl
    | cons a l ih =>
      rw [List.map_cons, aget_cons, if_neg fun e => h (by simp [e])]
      exact ih fun hm => h (List.mem_cons_of_mem _ hm)
  by_cases hm : b.elem ∈ s.listed toneBase 32 20480
  · simp [hx, aget_map_self _ hm, hflags]
  · simp [hx, hnone _ _ hm]

end

/-! #### The release of the contexts due -/

theorem foldl_settleK_frame (s : State) (l : List Nat) : ∃ mem hostK probeK,
    l.foldl State.settleK s = { s with mem := mem, lpa := { s.lpa with hostK := hostK, probeK := probeK } } := by
  refine List.foldlRecOn (motive := fun t : State => ∃ (mem : List Host.Cell) (hostK probeK : List (Nat × Nat)),
    t = { s with mem := mem, lpa := { s.lpa with hostK := hostK, probeK := probeK } }) _ _ ⟨s.mem, s.lpa.hostK, s.lpa.probeK, rfl⟩ ?_
  rintro t ⟨mem, hostK, probeK, rfl⟩ x -
  obtain ⟨mem', hostK', probeK', h⟩ := settleK_frame { s with mem := mem, lpa := { s.lpa with hostK := hostK, probeK := probeK } } x
  exact ⟨mem', hostK', probeK', h⟩

/-- What a release adds to the jobs and to the contexts skipped, and what it leaves (R224, R227). -/
structure Released (s : State) (dies due run skip : List Nat) (cls f : Nat) (t : State) : Prop where
  now : t.now = s.now
  on : t.lpa.on = s.lpa.on
  begun : t.lpa.begun = s.lpa.begun
  jobs : t.lpa.jobs = s.lpa.jobs ++ dies.flatMap fun d => run.map fun x => (due.foldl State.settleK s).newJob d x cls f
  skipped : t.lpa.skipped = s.lpa.skipped ++ skip.map fun x => (x, f + classPeriod cls)
  count : t.rd LPA_CNT_SKIP.COUNT = min (s.rd LPA_CNT_SKIP.COUNT + skip.length) (2 ^ 32 - 1)

theorem released_release (s : State) (dies due run skip : List Nat) (cls f : Nat) :
    Released s dies due run skip cls f (s.release dies due run skip cls f) := by
  obtain ⟨mem, hostK, probeK, hs⟩ := foldl_settleK_frame s due
  unfold State.release
  dsimp only
  generalize hj : (dies.flatMap fun d => run.map fun x =>
    ((due.foldl State.settleK s).bump LPA_CNT_SKIP.COUNT skip.length).newJob d x cls f) = jobs
  have h (t : State) := (listFrame_refl t).promote.frame
  rw [h]
  refine ⟨?_, ?_, ?_, ?_, ?_, ?_⟩
  case refine_6 =>
    refine (rd_bump_same _ _ _ _ _ _).trans ?_
    rw [hs]
    rfl
  case refine_4 =>
    rw [← hj]
    simp only [bump_lpa]
    rw [hs]
    rfl
  all_goals
    simp only [bump_lpa, bump_now]
    rw [hs]

/-- The job of a context whose host values have come into force: it takes K0 to K7 as they stand there, a waiting host value first. -/
theorem newJob_settleK (s : State) (die x cls f : Nat) : (s.settleK x).newJob die x cls f =
    { die := die, core := homeCore x, ctx := x, cls := cls, s := f, wcet := s.ctxWcet x, filled := false, stolen := 0
      k := (List.range 8).map fun k => s.settledK die x k } := by
  rw [State.newJob, ctxWcet_settleK, List.map_congr_left fun k hk => ctxK_settleK s die x (List.mem_range.mp hk)]

end Sys2Proof.Machine
end

section
/-! The clauses on the start of a period of PeriodsAndCores, one by one (R217, R219, R227, R229, R237). -/
namespace Sys2Proof.Machine

section
variable {s : State} {cls : Fin 4}

/-- With ENABLE 0 the image is latched and nothing is released (R229). -/
theorem periodRelease_off (hi : ∀ i, aget s.lpa.images cls = some i → i.frame < s.now) (hen : s.on LPA_CTL.ENABLE = false) :
    ∃ t i, exec (.periodRelease cls) s = .next t ∧ t.now = s.now + (2 + classPeriod cls - s.now % classPeriod cls) % classPeriod cls ∧
      aget t.lpa.images cls = some i ∧ i.frame = t.now ∧ t.lpa.jobs = s.lpa.jobs ∧ nget t.lpa.on cls = 0 := by
  have hexec := exec_periodRelease s cls
  have hnow := atPhase0_now s cls (s.phaseFrame cls)
  rw [if_pos (by rw [hen]; rfl)] at hexec
  rw [phaseFrame_eq hi, Nat.max_eq_right (Nat.le_add_right _ _)] at hnow
  refine ⟨_, _, hexec, phaseFrame_eq hi ▸ hnow, atPhase0_images _ _ _, ?_, atPhase0_jobs _ _ _, ?_⟩
  · rw [phaseFrame_eq hi, hnow]
    rfl
  · rw [atPhase0_on, hen]
    rfl

variable {x f : Nat} (hi : ∀ i, aget s.lpa.images cls = some i → i.frame < s.now) (hen : s.on LPA_CTL.ENABLE = true)
  (hf : f = s.now + (2 + classPeriod cls - s.now % classPeriod cls) % classPeriod cls) (hr : s.lpa.resume = []) (hc : s.lpa.resumeCtx = [])
include hi hen hf hr hc

/-- With ENABLE 1 and no loop that resumes, the contexts due at phase 0 are released, those without a clean tone result skipped. -/
theorem periodRelease_on : ∃ u, Latched s cls f u ∧ u.now = f ∧ exec (.periodRelease cls) s = .next (u.release ([0, 1].filter s.dieRuns)
    (u.dueNow cls f) ((u.dueNow cls f).filter fun x => !u.skips x cls) ((u.dueNow cls f).filter fun x => u.skips x cls) cls f) := by
  have hexec := exec_periodRelease s cls
  rw [phaseFrame_eq hi, ← hf, if_neg (by rw [hen]; decide)] at hexec
  have hu := latched_atPhase0 cls f hr hc
  exact ⟨_, hu, hu.now.trans (by omega), hexec⟩

variable (hx : s.allCtx = [x])
include hx

/-- A context due becomes a job on its home core of each die that runs (R217, R224). -/
theorem periodRelease_releases (hdue : s.dueIn x cls f = true) (ht : x % 3 = 0 → s.toneBound (x / 3) = none)
    (hb : ∀ b ∈ s.lpa.begun, b.1 = x → b.2 < f) : ∃ t, exec (.periodRelease cls) s = .next t ∧ t.now = f ∧ nget t.lpa.on cls = 1 ∧
    t.lpa.jobs = s.lpa.jobs ++ ([0, 1].filter fun d => s.rd LKS_STATUS.ROLE d != 0).map fun d =>
      ⟨d, homeCore x, x, cls, f, s.ctxWcet x, false, 0, (List.range 8).map fun k => s.settledK d x k⟩ := by
  obtain ⟨u, hu, hnow, hexec⟩ := periodRelease_on hi hen hf hr hc
  simp only [hu.dueNow hx hdue hb, List.filter_singleton, hu.not_skips ht, Bool.not_false, cond_true, cond_false] at hexec
  have hrel := released_release u ([0, 1].filter s.dieRuns) [x] [x] [] cls f
  refine ⟨_, hexec, hrel.now.trans hnow, ?_, ?_⟩
  · exact (congrArg (nget · cls) hrel.on).trans (hu.on.trans (by rw [hen]; rfl))
  · have hjob (d : Nat) : ([x].foldl State.settleK u).newJob d x cls f =
        ⟨d, homeCore x, x, cls, f, s.ctxWcet x, false, 0, (List.range 8).map fun k => s.settledK d x k⟩ := by
      rw [List.foldl_cons, List.foldl_nil, newJob_settleK]
      simp only [hu.settledK, State.ctxWcet, load_of_mem hu.mem]
    rw [hrel.jobs, hu.jobs, List.map_eq_flatMap]
    simp only [List.map_cons, List.map_nil, hjob]
    rfl

/-- A context activated at this phase 0 or later is not released (R237). -/
theorem periodRelease_notBegun (hb : ∃ b ∈ s.lpa.begun, b.1 = x ∧ f ≤ b.2) : ∃ t, exec (.periodRelease cls) s = .next t ∧ t.now = f ∧
    t.lpa.jobs = s.lpa.jobs ∧ t.notBegun x = true := by
  obtain ⟨u, hu, hnow, hexec⟩ := periodRelease_on hi hen hf hr hc
  rw [hu.dueNow_nil hx hb, List.filter_nil, List.filter_nil] at hexec
  have hrel := released_release u ([0, 1].filter s.dieRuns) [] [] [] cls f
  refine ⟨_, hexec, hrel.now.trans hnow, hrel.jobs.trans (by simp [hu.jobs]), ?_⟩
  rw [State.notBegun, hrel.begun]
  exact hu.notBegun hb

/-- A tone-bound slot 0 without a clean tone result is skipped and counted (R227). -/
theorem periodRelease_skips {b : ToneBind} (hdue : s.dueIn x cls f = true) (h0 : x % 3 = 0) (ht : s.toneBound (x / 3) = some b)
    (hflags : s.load (toneAddr b.elem + 16) 2 % 32 ≠ 1) (hb : ∀ b ∈ s.lpa.begun, b.1 = x → b.2 < f) :
    ∃ t, exec (.periodRelease cls) s = .next t ∧ t.lpa.jobs = s.lpa.jobs ∧ (x, f + classPeriod cls) ∈ t.lpa.skipped ∧
      t.rd LPA_CNT_SKIP.COUNT = min (s.rd LPA_CNT_SKIP.COUNT + 1) (2 ^ 32 - 1) := by
  obtain ⟨u, hu, -, hexec⟩ := periodRelease_on hi hen hf hr hc
  simp only [hu.dueNow hx hdue hb, List.filter_singleton, hu.skips h0 ht hflags, Bool.not_true, cond_true, cond_false] at hexec
  have hrel := released_release u ([0, 1].filter s.dieRuns) [x] [] [x] cls f
  refine ⟨_, hexec, hrel.jobs.trans (by simp [hu.jobs]), ?_, hrel.count.trans ?_⟩
  · rw [hrel.skipped]
    simp
  · rw [hu.regs LPA_CNT_SKIP.COUNT 0 0 0 (by decide)]
    rfl

end

/-- ENABLE only stands for the next phase 0 (R229). -/
theorem lpaEnable_sets {s : State} {die : Fin 2} (v : Bool) (h : s.bar0 die 0x300000 = .act) : ∃ t, exec (.lpaEnable die v) s = .next t ∧
    t.rd LPA_CTL.ENABLE = (if v then 1 else 0) ∧ OnlyRegs [LPA_CTL.ENABLE.key 0 0 0] s t := by
  refine ⟨_, congrArg Host.Outcome.next (viaBar0_act h _), ?_, onlyRegs_wr s _ _ _ _ _ (List.mem_singleton.mpr rfl)⟩
  rw [rd_wr_same]
  cases v <;> rfl

end Sys2Proof.Machine
end

section
/-! The clauses on the cores of PeriodsAndCores, one by one (R224, R225, R232, R245, R265, R428). -/
namespace Sys2Proof.Machine

section
variable {s t : State}

theorem CountFrame.pmcAddOn (h : CountFrame pmcKey s t) (die core ev : Nat) (cls : Option Nat) (n : Nat) (edge : Bool) :
    CountFrame pmcKey s (t.pmcAdd die core ev cls n edge) :=
  h.trans (((countFrame_refl _ t).pmcAdd ev cls n edge).mono fun _ => pmcKey_of_coreKey)

theorem CountFrame.pmcSlotOn (h : CountFrame pmcKey s t) (die core ev cls n : Nat) (busy : Bool) :
    CountFrame pmcKey s (t.pmcSlot die core ev cls n busy) :=
  h.trans (((countFrame_refl _ t).pmcSlot ev cls n busy).mono fun _ => pmcKey_of_coreKey)

end

theorem mem_coreQueue {s : State} {die core : Nat} {j : Job} (h : j ∈ s.coreQueue die core) :
    j ∈ s.lpa.jobs ∧ j.die = die ∧ j.core = core := by
  have h1 := List.mem_filter.mp ((sortBy_perm _ _).mem_iff.mp h)
  simpa using h1

/-! #### Dispatch (R224, R244, R245, R265) -/

/-- A job as its core starts it: at its program's start, with every register 0 and P0 set (R245). -/
def Job.start (j : Job) : Run :=
  { job := j, pc := 0, v := List.replicate 16 0, p := [true, false, false, false], k := [], cand := none, done := false, sat := false
    cycles := 9, snap := none, fin := false }

/-- A job has left its queue and runs. -/
def State.startJob (s : State) (j : Job) : State :=
  { s with lpa := { s.lpa with jobs := s.lpa.jobs.filter fun x => x != j, runs := j.start :: s.lpa.runs } }

/-- A job whose program's word `w` cannot be read has left its queue and ended. -/
def State.spoilJob (s : State) (die core w : Nat) (j : Job) : State :=
  let t := (((s.spoil die w).uncorrectable die 4 0 w).pmcAdd die core evJobDiscard (some j.cls) 1)
  { t with lpa := { t.lpa with jobs := t.lpa.jobs.filter fun x => x != j, ended := { j.start with pc := 0xFFFF } :: t.lpa.ended } }

/-- The counters take a job's start. -/
def State.countStart (s : State) (die core : Nat) (j : Job) : State :=
  ((s.pmcAdd die core evJobStart (some j.cls) 1).pmcSlot die core evFront j.cls 1).pmcSlot die core evBack j.cls 6

theorem countFrame_countStart (s : State) (die core : Nat) (j : Job) : CountFrame (coreKey die core) s (s.countStart die core j) :=
  (((countFrame_refl _ s).pmcAdd evJobStart (some j.cls) 1 true).pmcSlot evFront j.cls 1 true).pmcSlot evBack j.cls 6 true

/-- The program store's unreadable words and the memory decide which word a job meets. -/
theorem badWord_congr {s t : State} (hm : t.mem = s.mem) (hmig : t.mig = s.mig) (die x : Nat) : t.badWord die x = s.badWord die x := by
  have hhas (p w : Nat) : t.progHas p w = s.progHas p w := by
    rw [State.progHas, State.progHas, State.progStart, State.progStart, State.progLen, State.progLen, load_of_mem hm, load_of_mem hm]
  have hprog : t.ctxProg x = s.ctxProg x := by rw [State.ctxProg, State.ctxProg, load_of_mem hm]
  simp only [State.badWord, hhas, hprog, hmig]

/-- A word that a job has met stays unreadable. -/
theorem badWord_spoil {s : State} {die x w : Nat} (h : s.badWord die x = some w) : (s.spoil die w).badWord die x = some w := by
  obtain ⟨b, hb, rfl⟩ := Option.map_eq_some_iff.mp h
  have hp := List.find?_some hb
  simp only [Bool.and_eq_true] at hp
  have hhead : ((die == die) && (s.spoil die b.2).progHas ((s.spoil die b.2).ctxProg x) b.2) = true := by
    rw [beq_self_eq_true, Bool.true_and]
    exact hp.2
  exact congrArg (Option.map Prod.snd) (List.find?_cons_of_pos hhead)

theorem restart_lpa (s : State) (die dom : Nat) : (s.restart die dom).lpa = s.lpa := by rw [(clockFrame_restart s die dom).1]
theorem restart_saf (s : State) (die dom : Nat) : (s.restart die dom).saf = s.saf := by rw [(clockFrame_restart s die dom).1]
theorem restart_mig (s : State) (die dom : Nat) : (s.restart die dom).mig = s.mig := by rw [(clockFrame_restart s die dom).1]

theorem badWord_restart (s : State) (d dom die x : Nat) : (s.restart d dom).badWord die x = s.badWord die x :=
  badWord_congr (clockFrame_restart s d dom).mem (restart_mig s d dom) die x

/-- What a job ended by a word of its program changes, beside the performance counters. -/
theorem countFrame_spoilJob (s : State) (die core w : Nat) (j : Job) : CountFrame (coreKey die core)
    { (s.spoil die w).uncorrectable die 4 0 w with lpa := { s.lpa with
      jobs := s.lpa.jobs.filter fun x => x != j, ended := { j.start with pc := 0xFFFF } :: s.lpa.ended } }
    ((s.spoilJob die core w j).countStart die core j) := by
  have hadd := (countFrame_refl (coreKey die core) ((s.spoil die w).uncorrectable die 4 0 w)).pmcAdd evJobDiscard (some j.cls) 1 true
  refine CountFrame.trans ?_ (countFrame_countStart _ die core j)
  refine ⟨?_, hadd.regs⟩
  unfold State.spoilJob
  dsimp only
  rw [hadd.frame]
  rfl

section
variable {s : State} {die : Fin 2} {core : Fin 64} {j : Job} {l : List Job}

section
variable (hrun : s.running die core = none) (hq : s.coreQueue die core = j :: l) (hf : j.filled = true)
include hrun hq hf

theorem exec_jobDispatch_starts (hbad : s.badWord die j.ctx = none) : exec (.jobDispatch die core none) s =
    .next (((s.restart die (core / 8)).startJob j).countStart die core j) := by
  show execJobDispatch die core none s = _
  unfold execJobDispatch
  rw [hrun, hq]
  dsimp only
  rw [if_neg (by simp [hf]), badWord_restart, hbad]
  rfl

theorem exec_jobDispatch_spoils {w : Nat} (hbad : s.badWord die j.ctx = some w) : exec (.jobDispatch die core none) s =
    .next (((s.restart die (core / 8)).spoilJob die core w j).countStart die core j) := by
  show execJobDispatch die core none s = _
  unfold execJobDispatch
  rw [hrun, hq]
  dsimp only
  rw [if_neg (by simp [hf]), badWord_restart, hbad]
  rfl

end

/-- The head of a core's queue starts once its prefetch is complete (R224, R245). -/
theorem jobDispatch_starts (hrun : s.running die core = none) (hq : s.coreQueue die core = j :: l) (hf : j.filled = true)
    (hbad : s.badWord die j.ctx = none) : ∃ t, exec (.jobDispatch die core none) s = .next t ∧ t.running die core = some j.start ∧
    t.lpa.jobs = s.lpa.jobs.filter (fun x => x != j) ∧ MemSame s t ∧
    (s.gated die (core / 8) = false → t = { s with regs := t.regs, lpa := t.lpa, pmc := t.pmc } ∧
      ∀ k, (∀ c : Fin 6, k ≠ PMC_CNT.COUNT.key die core c) → nget t.regs k = nget s.regs k) := by
  have hexec := exec_jobDispatch_starts hrun hq hf hbad
  have hcount := countFrame_countStart ((s.restart die (core / 8)).startJob j) die core j
  have hclock := clockFrame_restart s die (core / 8)
  obtain ⟨-, hdie, hcore⟩ := mem_coreQueue (s := s) (hq ▸ List.mem_cons_self)
  refine ⟨_, hexec, ?_, ?_, memSame_of_mem (hcount.mem.trans hclock.mem), fun hg => ?_⟩
  · rw [running_congr (congrArg Lpa.runs hcount.lpa)]
    exact List.find?_cons_of_pos (by simp [Job.start, hdie, hcore])
  · rw [hcount.lpa, ← restart_lpa s die (core / 8)]
    rfl
  · have hs : s.restart die (core / 8) = s := if_pos (by rw [hg]; rfl)
    rw [hs] at hcount ⊢
    have hframe := hcount.frame
    rw [← hcount.lpa] at hframe
    exact ⟨hframe, fun k hk => hcount.regs k fun ⟨c, hc⟩ => hk c hc⟩

/-- A word of its program that cannot be read ends the job, unpublished, and the word stays so (R265, R402). -/
theorem jobDispatch_spoils {w : Nat} (hrun : s.running die core = none) (hq : s.coreQueue die core = j :: l) (hf : j.filled = true)
    (hbad : s.badWord die j.ctx = some w) : ∃ t o, exec (.jobDispatch die core none) s = .next t ∧ t.running die core = none ∧
    j ∉ t.lpa.jobs ∧ (t.lpa.ended.head?.map fun e => (e.job, e.pc)) = some (j, 0xFFFF) ∧ t.badWord die j.ctx ≠ none ∧
    t.saf.raised = s.saf.raised ++ [o] ∧ o.source = srcDie die 4 ∧ MemSame s t := by
  have hexec := exec_jobDispatch_spoils hrun hq hf hbad
  generalize hs' : s.restart die (core / 8) = s' at hexec
  have hmem : s'.mem = s.mem := hs' ▸ (clockFrame_restart s die (core / 8)).mem
  have hlpa : s'.lpa = s.lpa := hs' ▸ restart_lpa s die (core / 8)
  have hsaf : s'.saf = s.saf := hs' ▸ restart_saf s die (core / 8)
  have hbad' : s'.badWord die j.ctx = some w := (hs' ▸ badWord_restart s die (core / 8) die j.ctx).trans hbad
  have h := countFrame_spoilJob s' die core w j
  have hraise : ∃ o, ((s'.spoilJob die core w j).countStart die core j).saf.raised = s.saf.raised ++ [o] ∧ o.source = srcDie die 4 := by
    rw [h.saf, ← hsaf]
    exact ⟨_, rfl, rfl⟩
  obtain ⟨o, ho, hsource⟩ := hraise
  refine ⟨_, o, hexec, ?_, ?_, ?_, ?_, ho, hsource, memSame_of_mem (h.mem.trans hmem)⟩
  · rw [running_congr (congrArg Lpa.runs h.lpa), ← hrun]
    exact running_congr (congrArg Lpa.runs hlpa) _ _
  · rw [h.lpa]
    exact fun h => by simpa using (List.mem_filter.mp h).2
  · rw [h.lpa]
    rfl
  · rw [badWord_congr (s := s'.spoil die w) h.mem h.mig, badWord_spoil hbad']
    simp

/-- A job whose prefetch is not complete does not start (R428). -/
theorem jobDispatch_waits (hq : s.coreQueue die core = j :: l) (hf : j.filled = false) : exec (.jobDispatch die core none) s = .next s := by
  show execJobDispatch die core none s = _
  unfold execJobDispatch
  rw [hq]
  cases s.running die core with
  | none => exact congrArg _ (if_pos (by rw [hf]; rfl))
  | some r => rfl

/-! #### Stealing and prefetch (R225, R428) -/

/-- One job of a queue is replaced by another. -/
def State.swapJob (s : State) (j j' : Job) : State :=
  { s with lpa := { s.lpa with jobs := s.lpa.jobs.map fun x => if x == j then j' else x } }

theorem mem_swapJob {s : State} {j j' : Job} (h : j ∈ s.lpa.jobs) (hne : j' ≠ j) :
    j' ∈ (s.swapJob j j').lpa.jobs ∧ j ∉ (s.swapJob j j').lpa.jobs ∧ (s.swapJob j j').lpa.jobs.length = s.lpa.jobs.length := by
  refine ⟨List.mem_map.mpr ⟨j, h, by simp⟩, fun hj => ?_, List.length_map _⟩
  obtain ⟨x, -, hx⟩ := List.mem_map.mp hj
  split at hx
  · exact hne hx
  · next hxj => exact hxj (by simp [hx])

/-- The counts of a job stolen (R225, R450). -/
def State.countSteal (s : State) (die core v cls : Nat) (far : Bool) : State :=
  let t := if s.isActive die then s.bump (if far then LPA_CNT_STEAL_REMOTE.COUNT else LPA_CNT_STEAL_LOCAL.COUNT) else s
  ((t.pmcAdd die core (if far then evStealRemote else evStealLocal) none 1).pmcAdd die v evStolen none 1).pmcSlot die core evFront cls
    (if far then 8 else 2) false

/-- A register outside the performance counters that a steal counts in. -/
theorem countSteal_spec (s : State) (die core v cls : Nat) (far : Bool) : (s.countSteal die core v cls far).mem = s.mem ∧
    (s.countSteal die core v cls far).lpa = s.lpa ∧
    (s.isActive die = true → far = false → (s.countSteal die core v cls far).rd LPA_CNT_STEAL_LOCAL.COUNT =
      min (s.rd LPA_CNT_STEAL_LOCAL.COUNT + 1) (2 ^ 32 - 1)) ∧
    (s.isActive die = true → far = true → (s.countSteal die core v cls far).rd LPA_CNT_STEAL_REMOTE.COUNT =
      min (s.rd LPA_CNT_STEAL_REMOTE.COUNT + 1) (2 ^ 32 - 1)) := by
  unfold State.countSteal
  dsimp only
  have h (t : State) := (((countFrame_refl pmcKey t).pmcAddOn die core (if far then evStealRemote else evStealLocal) none 1 true).pmcAddOn
    die v evStolen none 1 true).pmcSlotOn die core evFront cls (if far then 8 else 2) false
  refine ⟨?_, ?_, fun hact hfar => ?_, fun hact hfar => ?_⟩
  · rw [(h _).mem]
    split <;> rfl
  · rw [(h _).lpa]
    split <;> rfl
  · rw [(h _).rd (fun _ hk => hk) (f := LPA_CNT_STEAL_LOCAL.COUNT) (by decide), if_pos hact, hfar]
    exact rd_bump_same _ _ _ _ _ _
  · rw [(h _).rd (fun _ hk => hk) (f := LPA_CNT_STEAL_REMOTE.COUNT) (by decide), if_pos hact, hfar]
    exact rd_bump_same _ _ _ _ _ _

theorem exec_jobSteal {v : Nat} {far : Bool} (hrun : s.running die core = none) (hq : s.coreQueue die core = [])
    (hv : s.victim die core = some (v, far)) (hlast : (s.coreQueue die v).getLast? = some j) : exec (.jobSteal die core) s = .next
    ((s.swapJob j { j with core := core.val, filled := false, stolen := if far then 2 else 1 }).countSteal die core v j.cls far) := by
  show execJobSteal die core s = _
  unfold execJobSteal
  rw [hrun, hq, if_neg (by simp), hv]
  dsimp only
  rw [hlast]
  rfl

/-- A core with an empty queue takes its victim's last job (R225). -/
theorem jobSteal_steals {v : Nat} {far : Bool} (hrun : s.running die core = none) (hq : s.coreQueue die core = [])
    (hv : s.victim die core = some (v, far)) (hlast : (s.coreQueue die v).getLast? = some j) (hne : v ≠ core) :
    ∃ t, exec (.jobSteal die core) s = .next t ∧
      { j with core := core.val, filled := false, stolen := if far then 2 else 1 } ∈ t.lpa.jobs ∧ j ∉ t.lpa.jobs ∧
      t.lpa.jobs.length = s.lpa.jobs.length ∧ MemSame s t ∧
      (s.isActive die = true → far = false →
        t.rd LPA_CNT_STEAL_LOCAL.COUNT = min (s.rd LPA_CNT_STEAL_LOCAL.COUNT + 1) (2 ^ 32 - 1)) ∧
      (s.isActive die = true → far = true →
        t.rd LPA_CNT_STEAL_REMOTE.COUNT = min (s.rd LPA_CNT_STEAL_REMOTE.COUNT + 1) (2 ^ 32 - 1)) := by
  obtain ⟨hj, -, hcore⟩ := mem_coreQueue (List.mem_of_getLast? hlast)
  have hne' : { j with core := core.val, filled := false, stolen := if far then 2 else 1 } ≠ j := fun e =>
    hne (hcore.symm.trans (congrArg Job.core e).symm)
  obtain ⟨hin, hout, hlen⟩ := mem_swapJob hj hne'
  obtain ⟨hmem, hlpa, hlocal, hremote⟩ := countSteal_spec
    (s.swapJob j { j with core := core.val, filled := false, stolen := if far then 2 else 1 }) die core v j.cls far
  rw [← hlpa] at hin hout hlen
  exact ⟨_, exec_jobSteal hrun hq hv hlast, hin, hout, hlen, memSame_of_mem hmem, hlocal, hremote⟩

/-- The wait for a prefetch is at most the cycles since the job's period began (R428). -/
theorem prefetchWait_spec (s : State) (die core : Nat) (j : Job) : (s.prefetchWait die core j).mem = s.mem ∧
    (s.prefetchWait die core j).lpa = s.lpa ∧
    (s.prefetchWait die core j).rd BMX_CNT_PF_WAIT.COUNT die ≤ s.rd BMX_CNT_PF_WAIT.COUNT die + 30 * (s.now - j.s) := by
  unfold State.prefetchWait
  split
  · exact ⟨rfl, rfl, Nat.le_add_right _ _⟩
  · dsimp only
    generalize hn : (s.draw 32).1 % (30 * (s.now - j.s) + 1) = n
    have hle : n ≤ 30 * (s.now - j.s) := hn ▸ Nat.le_of_lt_succ (Nat.mod_lt _ (Nat.succ_pos _))
    have h := ((countFrame_refl pmcKey ((s.draw 32).2.bump BMX_CNT_PF_WAIT.COUNT n die)).pmcAddOn die core evPfWait (some j.cls) n
      true).pmcSlotOn die core evFront j.cls n false
    refine ⟨h.mem, h.lpa, ?_⟩
    rw [h.rd (fun _ hk => hk) (f := BMX_CNT_PF_WAIT.COUNT) (by decide), rd_bump_same]
    exact (Nat.min_le_left _ _).trans (Nat.add_le_add_left hle _)

/-- The prefetch of the first job of a queue that lacks it completes (R428). -/
theorem prefetchFill_fills (hfind : (s.coreQueue die core).find? (fun j => !j.filled) = some j) :
    ∃ t, exec (.prefetchFill die core) s = .next t ∧ { j with filled := true } ∈ t.lpa.jobs ∧ j ∉ t.lpa.jobs ∧
      t.lpa.jobs.length = s.lpa.jobs.length ∧ t.rd BMX_CNT_PF_WAIT.COUNT die ≤ s.rd BMX_CNT_PF_WAIT.COUNT die + 30 * (s.now - j.s) ∧
      MemSame s t := by
  obtain ⟨hmem, hlpa, hwait⟩ := prefetchWait_spec s die core j
  obtain ⟨hj, -, -⟩ := mem_coreQueue (List.mem_of_find?_eq_some hfind)
  have hfilled : j.filled = false := by simpa using List.find?_some hfind
  have hne : { j with filled := true } ≠ j := fun e => Bool.noConfusion ((congrArg Job.filled e).trans hfilled)
  have hexec : exec (.prefetchFill die core) s = .next ((s.prefetchWait die core j).swapJob j { j with filled := true }) := by
    show execPrefetchFill die core s = _
    unfold execPrefetchFill
    rw [hfind]
    rfl
  obtain ⟨hin, hout, hlen⟩ := mem_swapJob (s := s.prefetchWait die core j) (hlpa ▸ hj) hne
  exact ⟨_, hexec, hin, hout, hlen.trans (by rw [hlpa]), hwait, memSame_of_mem hmem⟩

/-! #### The WCET (R232) -/

/-- A job carried past its WCET is stopped, publishes nothing and faults its core (R232). -/
theorem jobWcetStop_stops {r : Run} (hrun : s.running die core = some r) : ∃ t o, exec (.jobWcetStop die core) s = .next t ∧
    t.rd LPA_CORE_STATUS.FAULT core = 1 ∧ r ∉ t.lpa.runs ∧
    t.lpa.ended = { r with done := false, cand := none, pc := 0xFFFF } :: s.lpa.ended ∧
    t.saf.raised = s.saf.raised ++ [o] ∧ o.source = srcDie die 0 ∧ o.info = core.val ∧ MemSame s t := by
  generalize hs1 : ({ s with lpa := { s.lpa with
    runs := s.lpa.runs.filter fun x => x != r, ended := { r with done := false, cand := none, pc := 0xFFFF } :: s.lpa.ended } } : State) = s1
  have h := ((countFrame_refl (coreKey die core) s1).pmcAdd evJobDiscard (some r.job.cls) 1 true).pmcEvent 2 r.job 0 0 false true r.cycles
  generalize hs2 : ((s1.pmcAdd die core evJobDiscard (some r.job.cls) 1).pmcEvent 2 r.job 0 0 false true r.cycles) = s2 at h
  have hexec : exec (.jobWcetStop die core) s = .next ((s2.wr LPA_CORE_STATUS.FAULT 1 core).raise (srcDie die 0) core die) := by
    show execJobWcetStop die core s = _
    unfold execJobWcetStop
    rw [hrun]
    dsimp only
    rw [hs1, hs2]
  have hraise : ∃ o, ((s2.wr LPA_CORE_STATUS.FAULT 1 core).raise (srcDie die 0) core die).saf.raised = s.saf.raised ++ [o] ∧
      o.source = srcDie die 0 ∧ o.info = core.val % 2 ^ 16 := by
    rw [show s.saf = s2.saf by rw [h.saf, ← hs1]]
    exact ⟨_, rfl, rfl, rfl⟩
  obtain ⟨o, ho, hsource, hinfo⟩ := hraise
  refine ⟨_, o, hexec, rd_wr_same _ _ _ _ _ _, ?_, ?_, ho, hsource, hinfo.trans (Nat.mod_eq_of_lt (by omega)),
    memSame_of_mem (h.mem.trans (by rw [← hs1]))⟩
  · have hruns : s2.lpa.runs = s.lpa.runs.filter fun x => x != r := by rw [h.lpa, ← hs1]
    intro (hr : r ∈ s2.lpa.runs)
    rw [hruns] at hr
    obtain ⟨-, hne⟩ := List.mem_filter.mp hr
    exact bne_iff_ne.mp hne rfl
  · exact (congrArg Lpa.ended h.lpa).trans (by rw [← hs1])

end

end Sys2Proof.Machine

open Sys2Proof Sys2Proof.Machine

/-- Settles O36, clause by clause: phase 0 of a class with ENABLE 0, a context due, one that has not begun and one that is skipped; then
dispatch, a steal, a prefetch and a stop of a core. -/
theorem periodsAndCores : Obligations.PeriodsAndCores := by
  unfold Obligations.PeriodsAndCores
  refine ⟨⟨fun s cls hi hen => periodRelease_off hi hen, fun s cls x f hi hen hf hr hc hx hdue ht hb => ?_,
    fun s cls x f hi hen hf hr hc hx hb => periodRelease_notBegun hi hen hf hr hc hx hb,
    fun s cls x f b hi hen hf hr hc hx hdue h0 ht _ hflags hb => periodRelease_skips hi hen hf hr hc hx hdue h0 ht hflags hb,
    fun s die v h => lpaEnable_sets v h⟩,
    fun s die core j l hrun hq hf hbad => jobDispatch_starts hrun hq hf hbad,
    fun s die core j l w hrun hq hf hbad => jobDispatch_spoils hrun hq hf hbad,
    fun s die core j l hq hf => jobDispatch_waits hq hf,
    fun s die core v far j hrun hq hv hlast hne => jobSteal_steals hrun hq hv hlast hne,
    fun s die core j hfind => prefetchFill_fills hfind, fun s die core r hrun => jobWcetStop_stops hrun⟩
  exact periodRelease_releases hi hen hf hr hc hx hdue ht hb

end

section
/-! SUPPORT. The end of a period (R220, R221, R227, R228, R230): what is published, what overruns and what is combined. -/
namespace Sys2Proof.Machine

theorem le_nextAt (f m r : Nat) : f ≤ nextAt f m r := Nat.le_add_right _ _

/-- The frame at which a class's period ends next. -/
def State.endFrame (s : State) (cls : Nat) : Nat := phase0 cls (max s.now (nget s.marks (4 + cls)))

theorem now_le_endFrame (s : State) (cls : Nat) : s.now ≤ s.endFrame cls := (Nat.le_max_left _ _).trans (le_nextAt _ _ _)

/-- The state at the end of a class's period, before anything is published. -/
def State.atEnd (s : State) (cls : Nat) : State := s.once (4 + cls) (s.endFrame cls)

theorem atEnd_now (s : State) (cls : Nat) : (s.atEnd cls).now = s.endFrame cls := Nat.max_eq_right (now_le_endFrame s cls)

@[simp] theorem atEnd_lpa (s : State) (cls : Nat) : (s.atEnd cls).lpa = s.lpa := rfl

/-- In a class without ENABLE nothing is combined (R229). -/
theorem exec_candidatePublish_off {s : State} {cls : Fin 4} (h : nget ((s.atEnd cls).publishAll (s.endFrame cls)).lpa.on cls = 0) :
    exec (.candidatePublish cls) s = .next (((s.atEnd cls).publishAll (s.endFrame cls)).loopRecords cls (s.endFrame cls)) :=
  congrArg Host.Outcome.next (if_pos h)

/-- The channels of a class that have run in it for a whole period at its end. -/
def State.combines (s : State) (cls f : Nat) : List Nat := s.loopChannels.filter fun ch =>
  s.chClass ch == cls && !s.chPaused ch && decide (nget s.lpa.since ch + classPeriod cls ≤ f + 1)

theorem exec_candidatePublish_on {s t : State} {cls : Fin 4} (ht : (s.atEnd cls).publishAll (s.endFrame cls) = t)
    (h : nget t.lpa.on cls ≠ 0) : exec (.candidatePublish cls) s = .next
      ((((t.combines cls (s.endFrame cls)).foldl (fun t ch => t.combine ch cls (s.endFrame cls)) t).promote.loopRecords cls
        (s.endFrame cls)).regate) := by
  subst ht
  exact congrArg Host.Outcome.next (if_neg h)

/-- The records of a period's end are formed; nothing but the list of what was published goes (R241). -/
theorem loopRecords_frame (s : State) (cls f : Nat) : ∃ hpt pubs,
    s.loopRecords cls f = { s with hpt := hpt, lpa := { s.lpa with pubs := pubs } } := by
  obtain ⟨p, q, h⟩ : Formed { s with lpa := { s.lpa with pubs := s.lpa.pubs.filter fun p => p.2 != cls } } (s.loopRecords cls f) :=
    List.foldlRecOn _ _ (formed_refl _) fun _ ht _ _ => formed_recordP ht _ _ _ _ _ _
  exact ⟨_, _, h⟩

/-! #### What is published -/

/-- A job's period ends at frame `f` or before. -/
def Job.due (f : Nat) (j : Job) : Bool := decide (j.s + classPeriod j.cls ≤ f)

/-- The state without the jobs and the skipped contexts whose period has ended. -/
def State.withoutDue (s : State) (f : Nat) : State :=
  { s with lpa := { s.lpa with
    jobs := s.lpa.jobs.filter fun j => !j.due f
    runs := s.lpa.runs.filter fun r => !r.job.due f
    ended := s.lpa.ended.filter fun r => !r.job.due f
    skipped := s.lpa.skipped.filter fun x => decide (f < x.2) } }

/-- The contexts skipped show it (R227). -/
def State.showSkips (s : State) (l : List (Nat × Nat)) : State := l.foldl (fun t x => t.setPflags x.1 4) s

/-- With no job on a core the end of a period is that of the jobs that wait, of those that have ended and of the contexts skipped. -/
theorem publishAll_eq {s : State} (f : Nat) (h : s.lpa.runs = []) : s.publishAll f =
    ((s.lpa.jobs.filter fun j => j.due f) ++ (s.lpa.ended.filter fun r => r.job.due f && r.pc == 0xFFFF).map (·.job)).foldl State.overrun
      ((sortBy (fun a b => decide (a.job.ctx ≤ b.job.ctx))
        (s.lpa.ended.filter fun r => r.job.due f && r.pc != 0xFFFF && r.job.die == s.active)).foldl State.publishJob
        ((s.withoutDue f).showSkips (s.lpa.skipped.filter fun x => decide (x.2 ≤ f)))) := by
  unfold State.publishAll
  rw [h]
  simp only [List.filter_nil, List.map_nil, List.append_nil, List.foldl_nil]
  unfold State.withoutDue
  rw [h]
  rfl

/-- The end of a period in which no job ran and no context was skipped. -/
theorem publishAll_idle {s : State} (f : Nat) (hj : s.lpa.jobs = []) (hr : s.lpa.runs = []) (he : s.lpa.ended = []) (hs : s.lpa.skipped = []) :
    s.publishAll f = s := by
  rw [publishAll_eq f hr, hj, he, hs]
  have keep {α : Type} {l : List α} (p : α → Bool) (h : l = []) : l.filter p = l := by rw [h]; rfl
  show s.withoutDue f = s
  rw [State.withoutDue, keep _ hj, keep _ hr, keep _ he, keep _ hs]

/-- Contexts that show that they were skipped change bytes of PFLAGS alone. -/
theorem showSkips_frame (s : State) (l : List (Nat × Nat)) : s.showSkips l = { s with mem := (s.showSkips l).mem } ∧
    ∀ a, (∀ x, a ≠ ctxAddr x + 11) → (s.showSkips l).loadB a = s.loadB a := by
  refine List.foldlRecOn (motive := fun t : State => t = { s with mem := t.mem } ∧ ∀ a, (∀ x, a ≠ ctxAddr x + 11) → t.loadB a = s.loadB a)
    l _ ⟨rfl, fun _ _ => rfl⟩ ?_
  rintro t ⟨ht, hb⟩ x -
  refine ⟨?_, fun a ha => (loadB_store_other t 4 ?_).trans (hb a ha)⟩
  · rw [State.setPflags, store_eq_mem, ht]
  · have := ha x.1
    omega

/-! #### One job -/

theorem commitJob_now (s : State) (r : Run) : (s.commitJob r).now = s.now := by
  have hk : (if s.isProbe (s.ctxProg r.job.ctx) then s else s.commitK r).now = s.now := by
    split
    · rfl
    · obtain ⟨mem, probeK, h⟩ := commitK_frame s r
      rw [h]
  have hstore (t : State) (a n v : Nat) : (t.store a n v).now = t.now := by rw [store_eq_mem]
  unfold State.commitJob
  cases r.sat <;> simp only [State.setPflags, hstore, bump_now, hk, Bool.false_eq_true, if_true, if_false]

/-- The state after a job's candidate stands in its context, committed now where it has not (R220). -/
def State.withCand (s : State) (r : Run) (c : Nat) : State :=
  (if r.fin then s else s.commitJob r).store (ctxAddr r.job.ctx + 4) 2 c

/-- The candidate of a job whose program is no probe, published with DONE 0 (R220, R247). -/
theorem publishJob_eq {s : State} {r : Run} {c : Nat} (htakes : s.takesJob r.job.ctx = true) (hprobe : s.isProbe (s.ctxProg r.job.ctx) = false)
    (hc : r.cand = some c) (hd : r.done = false) : ∃ pubs, s.publishJob r =
      { s.withCand r c with lpa := { (s.withCand r c).lpa with pubs := pubs } } := by
  unfold State.publishJob
  simp only [htakes, hprobe, hc, hd, Bool.not_true, Bool.false_eq_true, if_false, Bool.false_and]
  exact ⟨_, rfl⟩

theorem withCand_now (s : State) (r : Run) (c : Nat) : (s.withCand r c).now = s.now := by
  unfold State.withCand
  rw [store_eq_mem]
  split
  · rfl
  · exact commitJob_now s r

/-- A candidate leaves what waits, and marks what has ended. -/
theorem withCand_lpa {s : State} (r : Run) (c : Nat) (h : s.lpa.ended = []) :
    (s.withCand r c).lpa.on = s.lpa.on ∧ (s.withCand r c).lpa.ended = [] := by
  unfold State.withCand
  rw [store_lpa]
  split
  · exact ⟨rfl, h⟩
  · obtain ⟨probeK, last, hl⟩ := commitJob_lpa s r
    rw [hl, h]
    exact ⟨rfl, rfl⟩

/-- What a context holds after its candidate has come (R220): a job that had committed wrote the rest then. -/
theorem withCand_shows {s : State} {r : Run} (c : Nat) (hprobe : s.isProbe (s.ctxProg r.job.ctx) = false) (hk : r.k = []) :
    (s.withCand r c).load (ctxAddr r.job.ctx + 4) 2 = c % 2 ^ 16 ∧
    (if r.fin = true then ∀ a, a < ctxAddr r.job.ctx + 4 ∨ ctxAddr r.job.ctx + 6 ≤ a → (s.withCand r c).loadB a = s.loadB a
    else (s.withCand r c).load (ctxAddr r.job.ctx + 10) 1 = 0 ∧
      (s.withCand r c).load (ctxAddr r.job.ctx + 12) 4 = min (s.load (ctxAddr r.job.ctx + 12) 4 + 1) 0xFFFFFFFF ∧
      ∀ a, a < ctxAddr r.job.ctx ∨ ctxAddr r.job.ctx + 64 ≤ a → (s.withCand r c).loadB a = s.loadB a) := by
  refine ⟨load_store_same _ _ _ _, ?_⟩
  unfold State.withCand
  split
  · exact fun a ha => loadB_store_other _ _ ha
  · have hmem : (s.commitJob r).mem = (s.showRun r.job.ctx (s.runsAfter r.job.ctx) r.flags).mem := by
      rw [commitJob_mem hprobe, State.commitK, hk]
      rfl
    refine ⟨?_, ?_, fun a ha => ?_⟩
    · rw [load_store_other _ _ (by omega), load_of_mem hmem, load_showRun_overruns]
    · rw [load_store_other _ _ (by omega), load_of_mem hmem, load_showRun_runs, runsAfter_mod]
    · rw [loadB_store_other _ _ (by omega), memSame_of_mem hmem, loadB_showRun_other _ _ _ _ (by omega)]

/-- The state in which a job overruns (R230): it is raised, and on the active die counted and shown. -/
def State.showOverrun (s : State) (j : Job) : State :=
  let n := min 255 (s.load (ctxAddr j.ctx + 10) 1 + 1)
  let t := (((s.raise (srcDie j.die 1) j.ctx j.die).store (ctxAddr j.ctx + 10) 1 n).setPflags j.ctx (2 + 16 * b2n (j.stolen != 0))).bump
    LPA_CNT_OVR.COUNT
  if s.on LPA_FIRST_OVR.VALID then t
  else ((t.wr LPA_FIRST_OVR.VALID 1).wr LPA_FIRST_OVR.CLASS j.cls).wr LPA_FIRST_OVR.CONTEXT j.ctx

/-- Below OVR_LIMIT an overrun of a running context of the active die is shown, and no more. -/
theorem overrun_eq {s : State} {j : Job} (hact : s.isActive j.die = true) (hrun : s.ctxState j.ctx = 1)
    (hlim : min 255 (s.load (ctxAddr j.ctx + 10) 1 + 1) < max 1 (s.rd LPA_OVR_LIMIT.LIMIT)) : s.overrun j = s.showOverrun j := by
  unfold State.overrun
  dsimp only
  rw [if_neg (by simp [hact, hrun]), if_pos hlim]
  rfl

theorem showOverrun_lpa (s : State) (j : Job) : (s.showOverrun j).lpa = s.lpa := by
  unfold State.showOverrun
  dsimp only
  split <;> simp [State.setPflags, State.raise]

theorem showOverrun_raised (s : State) (j : Job) : ∃ o, (s.showOverrun j).saf.raised = s.saf.raised ++ [o] ∧ o.source = srcDie j.die 1 := by
  have hsaf : (s.showOverrun j).saf = (s.raise (srcDie j.die 1) j.ctx j.die).saf := by
    have hstore (t : State) (a n v : Nat) : (t.store a n v).saf = t.saf := by rw [store_eq_mem]
    unfold State.showOverrun
    dsimp only
    split <;> simp [State.setPflags, hstore]
  exact ⟨_, by rw [hsaf]; rfl, rfl⟩

theorem load_showOverrun (s : State) (j : Job) : (s.showOverrun j).load (ctxAddr j.ctx + 10) 1 = min 255 (s.load (ctxAddr j.ctx + 10) 1 + 1) := by
  have hmem : (s.showOverrun j).mem = ((((s.raise (srcDie j.die 1) j.ctx j.die).store (ctxAddr j.ctx + 10) 1
      (min 255 (s.load (ctxAddr j.ctx + 10) 1 + 1))).setPflags j.ctx (2 + 16 * b2n (j.stolen != 0))).mem) := by
    unfold State.showOverrun
    dsimp only
    split <;> rfl
  rw [load_of_mem hmem, State.setPflags, load_store_other _ _ (by omega), load_store_same]
  exact Nat.mod_eq_of_lt (by omega)

theorem showOverrun_counts (s : State) (j : Job) :
    (s.showOverrun j).rd LPA_CNT_OVR.COUNT = min (s.rd LPA_CNT_OVR.COUNT + 1) (2 ^ 32 - 1) := by
  have hregs (t : State) (a n v : Nat) : (t.store a n v).regs = t.regs := by rw [store_eq_mem]
  have hbump : ((((s.raise (srcDie j.die 1) j.ctx j.die).store (ctxAddr j.ctx + 10) 1
      (min 255 (s.load (ctxAddr j.ctx + 10) 1 + 1))).setPflags j.ctx (2 + 16 * b2n (j.stolen != 0))).bump LPA_CNT_OVR.COUNT).rd
      LPA_CNT_OVR.COUNT = min (s.rd LPA_CNT_OVR.COUNT + 1) (2 ^ 32 - 1) := by
    rw [rd_bump_same, rd_congr (s := s) (by rw [State.setPflags, hregs, hregs]; rfl)]
    rfl
  unfold State.showOverrun
  dsimp only
  split
  · exact hbump
  · rw [rd_wr_apart _ (by decide), rd_wr_apart _ (by decide), rd_wr_apart _ (by decide), hbump]

theorem showOverrun_first {s : State} (j : Job) (h : s.on LPA_FIRST_OVR.VALID = false) :
    (s.showOverrun j).rd LPA_FIRST_OVR.CONTEXT = j.ctx % 2 ^ 16 := by
  unfold State.showOverrun
  dsimp only
  rw [h]
  exact rd_wr_same _ _ _ _ _ _

end Sys2Proof.Machine
end

section
/-! The clauses on candidates and overruns of CandidatesOutputsAndClasses, one by one (R220, R227, R230). -/
namespace Sys2Proof.Machine

section
variable {s : State} {cls : Fin 4} (hr : s.lpa.runs = []) (hon : nget s.lpa.on cls = 0)
include hr hon

/-- A job that ended in time publishes its candidate, and commits now where it has not (R220). -/
theorem candidatePublish_publishes {r : Run} {c : Nat} (hj : s.lpa.jobs = []) (he : s.lpa.ended = [r]) (hdie : r.job.die = s.active)
    (hpc : r.pc ≠ 0xFFFF) (hdue : r.job.s + classPeriod r.job.cls ≤ s.endFrame cls) (hstate : s.ctxState r.job.ctx = 1)
    (hprobe : s.isProbe (s.ctxProg r.job.ctx) = false) (hk : r.k = []) (hc : r.cand = some c) (hd : r.done = false)
    (hs : s.lpa.skipped = []) : ∃ t, exec (.candidatePublish cls) s = .next t ∧ t.now = s.endFrame cls ∧
      t.load (ctxAddr r.job.ctx + 4) 2 = c % 2 ^ 16 ∧ t.lpa.ended = [] ∧
      (if r.fin = true then ∀ a, a < ctxAddr r.job.ctx + 4 ∨ ctxAddr r.job.ctx + 6 ≤ a → t.loadB a = s.loadB a
      else t.load (ctxAddr r.job.ctx + 10) 1 = 0 ∧ t.load (ctxAddr r.job.ctx + 12) 4 = min (s.load (ctxAddr r.job.ctx + 12) 4 + 1) 0xFFFFFFFF ∧
        ∀ a, a < ctxAddr r.job.ctx ∨ ctxAddr r.job.ctx + 64 ≤ a → t.loadB a = s.loadB a) := by
  have hduer : r.job.due (s.endFrame cls) = true := decide_eq_true hdue
  generalize hu : (s.atEnd cls).withoutDue (s.endFrame cls) = u
  have hmem : u.mem = s.mem := hu ▸ rfl
  have hnow : u.now = s.endFrame cls := hu ▸ atEnd_now s cls
  have huon : u.lpa.on = s.lpa.on := hu ▸ rfl
  have hended : u.lpa.ended = [] := by
    subst hu
    simp [State.withoutDue, he, hduer]
  have hall : (s.atEnd cls).publishAll (s.endFrame cls) = u.publishJob r := by
    have hactive : r.job.die = (s.atEnd cls).active := hdie
    rw [publishAll_eq _ (by exact hr), hu]
    simp [hj, he, hs, hduer, hpc, hactive, State.showSkips, sortBy, insBy]
  have hprobe' := (isProbe_of_mem hmem r.job.ctx).trans hprobe
  have htakes : u.takesJob r.job.ctx = true := by
    rw [takesJob_of_mem hmem, State.takesJob, hstate]
    rfl
  obtain ⟨pubs, hpub⟩ := publishJob_eq htakes hprobe' hc hd
  obtain ⟨hwon, hwended⟩ := withCand_lpa r c hended
  have hexec := exec_candidatePublish_off (s := s) (cls := cls) (by rw [hall, hpub]; exact (congrArg (nget · cls) (hwon.trans huon)).trans hon)
  obtain ⟨hpt, pubs', hrec⟩ := loopRecords_frame (u.publishJob r) cls (s.endFrame cls)
  rw [hall, hrec, hpub] at hexec
  have hshow := withCand_shows c hprobe' hk
  have hbytes (a : Nat) : u.loadB a = s.loadB a := memSame_of_mem hmem a
  simp only [load_of_mem hmem, hbytes] at hshow
  exact ⟨_, hexec, (withCand_now u r c).trans hnow, hshow.1, hwended, hshow.2⟩

/-- A context skipped shows it at its period's end (R227). -/
theorem candidatePublish_shows_skip {x e : Nat} (hj : s.lpa.jobs = []) (he : s.lpa.ended = []) (hs : s.lpa.skipped = [(x, e)])
    (hle : e ≤ s.endFrame cls) : ∃ t, exec (.candidatePublish cls) s = .next t ∧ t.pflags x = 4 ∧ t.lpa.skipped = [] ∧
      ∀ a, a ≠ ctxAddr x + 11 → t.loadB a = s.loadB a := by
  have hall : (s.atEnd cls).publishAll (s.endFrame cls) = ((s.atEnd cls).withoutDue (s.endFrame cls)).setPflags x 4 := by
    rw [publishAll_eq _ (by exact hr)]
    simp [hj, he, hs, hle, State.showSkips, sortBy]
  have hexec := exec_candidatePublish_off (s := s) (cls := cls) (by rw [hall, State.setPflags, store_lpa]; exact hon)
  obtain ⟨hpt, pubs', hrec⟩ := loopRecords_frame (((s.atEnd cls).withoutDue (s.endFrame cls)).setPflags x 4) cls (s.endFrame cls)
  rw [hall, hrec] at hexec
  generalize hu : (s.atEnd cls).withoutDue (s.endFrame cls) = u at hexec
  refine ⟨_, hexec, ?_, ?_, fun a ha => ?_⟩
  · exact (load_of_mem rfl _ _).trans (load_store_same u (ctxAddr x + 11) 1 4)
  · have hskipped : u.lpa.skipped = [] := by
      subst hu
      simp [State.withoutDue, hs, hle]
    exact (congrArg Lpa.skipped (store_lpa u (ctxAddr x + 11) 1 4)).trans hskipped
  · have hbytes : u.loadB a = s.loadB a := by
      subst hu
      rfl
    exact (loadB_store_other u 4 (by omega)).trans hbytes

/-- A job still queued at its period's end overruns (R230). -/
theorem candidatePublish_overruns {j : Job} (hj : s.lpa.jobs = [j]) (he : s.lpa.ended = []) (hact : s.isActive j.die = true)
    (hdue : j.s + classPeriod j.cls ≤ s.endFrame cls) (hstate : s.ctxState j.ctx = 1)
    (hlim : s.load (ctxAddr j.ctx + 10) 1 + 1 < max 1 (s.rd LPA_OVR_LIMIT.LIMIT)) (hn : s.load (ctxAddr j.ctx + 10) 1 < 255) :
    ∃ t o, exec (.candidatePublish cls) s = .next t ∧ t.lpa.jobs = [] ∧
      t.load (ctxAddr j.ctx + 10) 1 = s.load (ctxAddr j.ctx + 10) 1 + 1 ∧
      t.rd LPA_CNT_OVR.COUNT = min (s.rd LPA_CNT_OVR.COUNT + 1) (2 ^ 32 - 1) ∧ t.saf.raised = s.saf.raised ++ [o] ∧
      o.source = srcDie j.die 1 ∧ (s.on LPA_FIRST_OVR.VALID = false → t.rd LPA_FIRST_OVR.CONTEXT = j.ctx % 2 ^ 16) := by
  have hduej : j.due (s.endFrame cls) = true := decide_eq_true hdue
  obtain ⟨hframe, hbytes⟩ := showSkips_frame ((s.atEnd cls).withoutDue (s.endFrame cls))
    (s.lpa.skipped.filter fun x => decide (x.2 ≤ s.endFrame cls))
  generalize hu : ((s.atEnd cls).withoutDue (s.endFrame cls)).showSkips
    (s.lpa.skipped.filter fun x => decide (x.2 ≤ s.endFrame cls)) = u at hframe hbytes
  have hregs : u.regs = s.regs := by rw [hframe]; rfl
  have hsaf : u.saf = s.saf := by rw [hframe]; rfl
  have huon : u.lpa.on = s.lpa.on := by rw [hframe]; rfl
  have hjobs : u.lpa.jobs = [] := by
    rw [hframe]
    simp [State.withoutDue, hj, hduej]
  have hload (o : Nat) (ho : o < 11) : u.load (ctxAddr j.ctx + o) 1 = s.load (ctxAddr j.ctx + o) 1 :=
    load_congr fun b h1 h2 => hbytes b fun y => by simp only [ctxAddr] at *; omega
  have hall : (s.atEnd cls).publishAll (s.endFrame cls) = u.overrun j := by
    rw [publishAll_eq _ (by exact hr)]
    simp only [atEnd_lpa, hj, he, hu, hduej, List.filter_singleton, cond_true, List.filter_nil, List.map_nil, List.append_nil, sortBy,
      List.foldl_cons, List.foldl_nil]
  have hover : u.overrun j = u.showOverrun j := by
    refine overrun_eq ?_ ((hload 3 (by decide)).trans hstate) ?_
    · rw [← hact]
      exact on_of_rd (rd_congr hregs _ _ _ _)
    · rw [hload 10 (by decide), rd_congr hregs]
      omega
  have hexec := exec_candidatePublish_off (s := s) (cls := cls) (by rw [hall, hover, showOverrun_lpa, huon, hon])
  obtain ⟨hpt, pubs, hrec⟩ := loopRecords_frame (u.showOverrun j) cls (s.endFrame cls)
  rw [hall, hover, hrec] at hexec
  obtain ⟨o, ho, hsource⟩ := showOverrun_raised u j
  refine ⟨_, o, hexec, ?_, ?_, ?_, ho.trans (by rw [hsaf]), hsource, fun hv => ?_⟩
  · exact (congrArg Lpa.jobs (showOverrun_lpa u j)).trans hjobs
  · refine (load_showOverrun u j).trans ?_
    rw [hload 10 (by decide)]
    omega
  · exact (showOverrun_counts u j).trans (by rw [rd_congr hregs])
  · exact showOverrun_first j ((on_of_rd (rd_congr hregs _ _ _ _)).trans hv)

end

end Sys2Proof.Machine
end

section
/-! SUPPORT. The Output Combiner (R221, R227, R228): a channel's output, and what else a combine changes. -/
namespace Sys2Proof.Machine

/-- The heads of the wait lists entering their classes change CCLASS of channels and lists alone (R223). -/
theorem classFrame_promote (s : State) : ClassFrame (fun _ => True) s s.promote :=
  promote_rec (P := ClassFrame (fun _ => True) s) (classFrame_refl _ s) fun t cls ch ht =>
    (ht.trans ((classFrame_setWait t cls ch false _).mono fun _ _ => trivial)).setLpa _

/-- The two bytes of a channel's last output are no CCLASS. -/
theorem ClassFrame.load_out {P : Nat → Prop} {s t : State} (h : ClassFrame P s t) (ch : Nat) :
    t.load (ctxAddr (3 * ch) + 56) 2 = s.load (ctxAddr (3 * ch) + 56) 2 :=
  load_congr fun b h1 h2 => h.2 b fun c _ => by simp only [cclassAddr, ctxAddr] at *; omega

/-- The slots of a channel that take part in its combine (R221, R237). -/
def State.joined (s : State) (ch : Nat) : List Nat := (slots ch).filter fun x => s.ctxState x != 0 && !s.notBegun x

/-- The candidate of slot 0 as the plausibility model takes it (R221). -/
def State.rawCand (s : State) (ch cls : Nat) : Nat :=
  if s.ctxState (3 * ch) = 3 then (aget (s.image cls).pred ch).getD (s.liveTarget ch) else s.load (ctxAddr (3 * ch) + 4) 2

/-- The candidate of slot 0 after the plausibility model (R228). -/
def State.plausCand (s : State) (ch cls : Nat) : Nat :=
  plaus (s.rawCand ch cls) ((aget (s.image cls).pred ch).getD (s.liveTarget ch)) (s.load (ctxAddr (3 * ch) + 56) 2)
    ((s.settleP ch).load (ctxAddr (3 * ch) + 18) 2) ((s.settleP ch).load (ctxAddr (3 * ch) + 16) 2) (s.lpa.fresh.contains ch)

/-- A channel's output (R221): the lowest of the candidates of the slots `act`. -/
def State.combined (s : State) (ch cls : Nat) (act : List Nat) : Nat :=
  match (act.filter fun x => x % 3 != 0).map fun x => s.load (ctxAddr x + 4) 2 with
  | [] => s.plausCand ch cls
  | o :: t => if act.contains (3 * ch) then min (s.plausCand ch cls) (t.foldl min o) else t.foldl min o

/-- The count of a channel's clips after a combine (R228). -/
def State.clipCount (s : State) (ch : Nat) (clip : Bool) : Nat := if clip then min 255 (s.load (ctxAddr (3 * ch) + 21) 1 + 1) else 0

/-- What slot 0 shows of its candidate's clip (R228). -/
def State.showClip (s : State) (ch : Nat) (lock clip : Bool) : State :=
  if !lock then s.settleP ch
  else
    let t := ((s.settleP ch).store (ctxAddr (3 * ch) + 21) 1 (s.clipCount ch clip)).setPflags (3 * ch)
      (if clip then setBit (s.pflags (3 * ch)) 3 else clrBit (s.pflags (3 * ch)) 3)
    let t1 := if clip then t.bump LPA_CNT_CLIP.COUNT else t
    let pq := (s.settleP ch).load (ctxAddr (3 * ch) + 20) 1
    if clip && pq != 0 && decide (pq ≤ s.clipCount ch clip) && s.ctxState (3 * ch) == 1 then
      (((t1.openLoop (3 * ch)).raise (srcDie s.active 3) (3 * ch)).raise (srcDie s.active 2) (3 * ch))
    else t1

/-- A channel's output waits to be sent, and its period counts. -/
def State.putOut (s : State) (ch cls f out n : Nat) : State :=
  let t := s.store (ctxAddr (3 * ch) + 56) 2 out
  { t with lpa := { t.lpa with
      outs := t.lpa.outs ++ [{ ch := ch, code := out, apply := f - classPeriod cls + classApply cls, cls := cls }]
      fresh := t.lpa.fresh.filter fun c => c != ch
      ran := nset t.lpa.ran ch n } }

/-- The state after a channel's output has been put out, before the channel may go to a slower class. -/
def State.withOutput (s : State) (ch cls f : Nat) : State :=
  (s.showClip ch ((s.joined ch).contains (3 * ch)) ((s.joined ch).contains (3 * ch) && s.plausCand ch cls != s.rawCand ch cls)).putOut
    ch cls f (s.combined ch cls (s.joined ch)) (nget s.lpa.ran ch + 1)

/-- The combine of a channel by its branches: no slot that runs, and a stay of the longest that Settle and Track allow (R221, R222). -/
theorem combine_cases (s : State) (ch cls f : Nat) : s.combine ch cls f =
    if !((s.joined ch).any fun x => s.ctxState x == 1 || s.ctxState x == 3) then s
    else if cls = 0 ∧ max 1 (s.rd LPA_DWELL.SETTLE_MAX) ≤ nget s.lpa.ran ch + 1 then (s.withOutput ch cls f).sendTo ch 1
    else if cls = 1 ∧ s.rd LPA_DWELL.TRACK_DWELL ≠ 0 ∧ s.rd LPA_DWELL.TRACK_DWELL ≤ nget s.lpa.ran ch + 1 then
      (s.withOutput ch cls f).sendTo ch 2
    else s.withOutput ch cls f := by
  unfold State.combine
  rfl

/-- A combine puts out the channel's output, and may send the channel to a slower class (R221 to R223). -/
theorem combine_eq {s : State} {ch : Nat} (cls f : Nat) (h : ((s.joined ch).any fun x => s.ctxState x == 1 || s.ctxState x == 3) = true) :
    s.combine ch cls f = s.withOutput ch cls f ∨ ∃ c, s.combine ch cls f = (s.withOutput ch cls f).sendTo ch c := by
  rw [combine_cases, if_neg (by rw [h]; decide)]
  split
  · exact .inr ⟨1, rfl⟩
  · split
    · exact .inr ⟨2, rfl⟩
    · exact .inl rfl

section
variable {s : State} {ch : Nat} (hP : ∀ k < 3, nget s.lpa.hostP (4 * ch + k) = 0)
include hP

/-- Without a host value that waits a channel's fields stand as they are (R236). -/
theorem settleP_none : s.settleP ch = s := by
  have h0 := hP 0 (by decide)
  have h1 := hP 1 (by decide)
  have h2 := hP 2 (by decide)
  simp only [State.settleP, List.foldl_cons, List.foldl_nil, h0, h1, h2]

theorem showClip_lpa (lock clip : Bool) : (s.showClip ch lock clip).lpa = s.lpa := by
  unfold State.showClip
  rw [settleP_none hP]
  dsimp only
  split
  · rfl
  · have ht (v w : Nat) : (if clip then (((s.store (ctxAddr (3 * ch) + 21) 1 v).setPflags (3 * ch) w).bump LPA_CNT_CLIP.COUNT)
        else ((s.store (ctxAddr (3 * ch) + 21) 1 v).setPflags (3 * ch) w)).lpa = s.lpa := by
      split <;> simp [State.setPflags]
    split
    · simp only [State.raise, State.openLoop, State.setCtxState, wr_lpa, store_lpa]
      exact ht _ _
    · exact ht _ _

/-- A channel's combine puts out its output for the class's apply frame (R221). -/
theorem combine_out (cls f : Nat) (h : ((s.joined ch).any fun x => s.ctxState x == 1 || s.ctxState x == 3) = true) :
    ∃ o, (s.combine ch cls f).lpa.outs = s.lpa.outs ++ [o] ∧ o.ch = ch ∧ o.cls = cls ∧ o.apply = f - classPeriod cls + classApply cls ∧
      o.code = s.combined ch cls (s.joined ch) ∧ (s.combine ch cls f).load (ctxAddr (3 * ch) + 56) 2 = o.code % 2 ^ 16 := by
  have houts : (s.withOutput ch cls f).lpa.outs = s.lpa.outs ++
      [{ ch := ch, code := s.combined ch cls (s.joined ch), apply := f - classPeriod cls + classApply cls, cls := cls }] := by
    rw [State.withOutput, State.putOut]
    dsimp only
    rw [store_lpa, showClip_lpa hP]
  have hload : (s.withOutput ch cls f).load (ctxAddr (3 * ch) + 56) 2 = s.combined ch cls (s.joined ch) % 2 ^ 16 :=
    (load_of_mem rfl _ _).trans (load_store_same _ (ctxAddr (3 * ch) + 56) 2 _)
  refine ⟨{ ch := ch, code := s.combined ch cls (s.joined ch), apply := f - classPeriod cls + classApply cls, cls := cls },
    ?_, rfl, rfl, rfl, rfl, ?_⟩
  · obtain h | ⟨c, h⟩ := combine_eq cls f h
    · rw [h, houts]
    · rw [h, ((listFrame_refl (s.withOutput ch cls f)).sendTo ch c).frame]
      exact houts
  · obtain h | ⟨c, h⟩ := combine_eq cls f h
    · rw [h, hload]
    · rw [h, (classFrame_sendTo _ ch c).load_out ch, hload]

/-- With DEV_MAX 0 the candidate of slot 0 is limited by STEP_MAX alone (R228). -/
theorem plausCand_eq (cls : Nat) (hstate : s.ctxState (3 * ch) = 1) (hdev : s.load (ctxAddr (3 * ch) + 18) 2 = 0) : ∃ pred,
    s.plausCand ch cls = plaus (s.load (ctxAddr (3 * ch) + 4) 2) pred (s.load (ctxAddr (3 * ch) + 56) 2) 0
      (s.load (ctxAddr (3 * ch) + 16) 2) (s.lpa.fresh.contains ch) := by
  unfold State.plausCand State.rawCand
  rw [settleP_none hP, hdev, hstate, if_neg (by decide)]
  exact ⟨_, rfl⟩

end

theorem combined_single (s : State) (ch cls : Nat) : s.combined ch cls [3 * ch] = s.plausCand ch cls := by
  simp [State.combined]

theorem combined_pair (s : State) (ch cls : Nat) : s.combined ch cls [3 * ch, 3 * ch + 1] =
    min (s.plausCand ch cls) (s.load (ctxAddr (3 * ch + 1) + 4) 2) := by
  simp [State.combined]

/-- The plausibility model with DEV_MAX 0, after a channel's first period (R228). -/
theorem plaus_step (cand pred last step : Nat) : ((plaus cand pred last 0 step false : Nat) : Int) =
    if (step : Int) = 0 then (cand : Int) else max 0 (max ((last : Int) - step) (min ((last : Int) + step) cand)) := by
  by_cases h : step = 0
  · simp [plaus, h]
  · simp only [plaus, clampI, h, if_true, Bool.false_eq_true, or_self, if_false, Int.natCast_eq_zero]
    split <;> try split
    all_goals omega

/-- STEP_MAX 0 limits nothing (R228). -/
theorem plaus_free (cand pred last : Nat) (first : Bool) : plaus cand pred last 0 0 first = cand := by
  simp [plaus]

end Sys2Proof.Machine
end

section
/-! The clauses on outputs and class changes of CandidatesOutputsAndClasses, one by one (R221 to R223, R227, R228). -/
namespace Sys2Proof.Machine

section
variable {s : State} {cls : Fin 4} {ch : Nat} (hj : s.lpa.jobs = []) (hr : s.lpa.runs = []) (he : s.lpa.ended = [])
  (hon : nget s.lpa.on cls = 1) (hloops : s.loopChannels = [ch]) (hclass : s.chClass ch = cls) (hpaused : s.chPaused ch = false)
  (hsince : nget s.lpa.since ch + classPeriod cls ≤ s.endFrame cls + 1) (hP : ∀ k < 3, nget s.lpa.hostP (4 * ch + k) = 0)
  (hs : s.lpa.skipped = [])
include hj hr he hon hloops hclass hpaused hsince hP hs

/-- The channel of a class puts out its output at its period's end (R221). -/
theorem candidatePublish_combines (h : ((s.joined ch).any fun x => s.ctxState x == 1 || s.ctxState x == 3) = true) :
    ∃ t o, exec (.candidatePublish cls) s = .next t ∧ t.lpa.outs = s.lpa.outs ++ [o] ∧ o.ch = ch ∧ o.cls = cls.val ∧
      o.apply = s.endFrame cls - classPeriod cls + classApply cls ∧ o.code = (s.atEnd cls).combined ch cls (s.joined ch) ∧
      t.load (ctxAddr (3 * ch) + 56) 2 = o.code % 2 ^ 16 := by
  have hall : (s.atEnd cls).publishAll (s.endFrame cls) = s.atEnd cls := publishAll_idle _ hj hr he hs
  have hexec := exec_candidatePublish_on hall (by rw [atEnd_lpa, hon]; decide)
  have hchans : (s.atEnd cls).combines cls (s.endFrame cls) = [ch] := by
    show s.combines cls (s.endFrame cls) = [ch]
    simp [State.combines, hloops, hclass, hpaused, hsince]
  rw [hchans, List.foldl_cons, List.foldl_nil] at hexec
  obtain ⟨o, houts, hch, hcls, happly, hcode, hload⟩ := combine_out (s := s.atEnd cls) hP cls (s.endFrame cls) h
  generalize (s.atEnd cls).combine ch cls (s.endFrame cls) = u at hexec houts hload
  obtain ⟨hpt, pubs, hrec⟩ := loopRecords_frame u.promote cls (s.endFrame cls)
  generalize hv : u.promote.loopRecords cls (s.endFrame cls) = v at hexec hrec
  have hregate := clockFrame_regate v
  refine ⟨_, o, hexec, ?_, hch, hcls, happly, hcode, ?_⟩
  · have hpromote : u.promote.lpa.outs = u.lpa.outs := by rw [(listFrame_refl u).promote.frame]
    rw [hregate.1, hrec]
    exact hpromote.trans houts
  · have hmem : v.mem = u.promote.mem := by rw [hrec]
    rw [load_of_mem (hregate.mem.trans hmem), (classFrame_promote u).load_out, hload]

variable (h0 : s.ctxState (3 * ch) = 1) (h2 : s.ctxState (3 * ch + 2) = 0) (hb : s.lpa.begun = [])
  (hdev : s.load (ctxAddr (3 * ch) + 18) 2 = 0)
include h0 h2 hb hdev

/-- A channel with slot 0 alone: its candidate, clipped into the last output ± STEP_MAX (R221, R228). -/
theorem candidatePublish_slot0 (h1 : s.ctxState (3 * ch + 1) = 0) (hfresh : s.lpa.fresh = []) : ∃ t o, exec (.candidatePublish cls) s = .next t ∧
    t.lpa.outs = s.lpa.outs ++ [o] ∧ o.ch = ch ∧ o.cls = cls.val ∧ o.apply = s.endFrame cls - classPeriod cls + classApply cls ∧
    (o.code : Int) = (if (s.load (ctxAddr (3 * ch) + 16) 2 : Int) = 0 then (s.load (ctxAddr (3 * ch) + 4) 2 : Int)
      else max 0 (max ((s.load (ctxAddr (3 * ch) + 56) 2 : Int) - s.load (ctxAddr (3 * ch) + 16) 2)
        (min ((s.load (ctxAddr (3 * ch) + 56) 2 : Int) + s.load (ctxAddr (3 * ch) + 16) 2) (s.load (ctxAddr (3 * ch) + 4) 2)))) ∧
    t.load (ctxAddr (3 * ch) + 56) 2 = o.code % 2 ^ 16 := by
  have hjoined : s.joined ch = [3 * ch] := by simp [State.joined, slots, State.notBegun, hb, h0, h1, h2]
  obtain ⟨t, o, hexec, houts, hch, hcls, happly, hcode, hload⟩ :=
    candidatePublish_combines hj hr he hon hloops hclass hpaused hsince hP hs (by simp [hjoined, h0])
  obtain ⟨pred, hplaus⟩ := plausCand_eq (s := s.atEnd cls) hP cls h0 hdev
  refine ⟨t, o, hexec, houts, hch, hcls, happly, ?_, hload⟩
  rw [hcode, hjoined, combined_single, hplaus, atEnd_lpa, hfresh]
  exact plaus_step _ _ _ _

/-- The lowest candidate of a channel's slots goes out (R221). -/
theorem candidatePublish_lowest (h1 : s.ctxState (3 * ch + 1) = 1) (hstep : s.load (ctxAddr (3 * ch) + 16) 2 = 0) :
    ∃ t o, exec (.candidatePublish cls) s = .next t ∧ t.lpa.outs = s.lpa.outs ++ [o] ∧
      o.code = min (s.load (ctxAddr (3 * ch) + 4) 2) (s.load (ctxAddr (3 * ch + 1) + 4) 2) := by
  have hjoined : s.joined ch = [3 * ch, 3 * ch + 1] := by simp [State.joined, slots, State.notBegun, hb, h0, h1, h2]
  obtain ⟨t, o, hexec, houts, -, -, -, hcode, -⟩ :=
    candidatePublish_combines hj hr he hon hloops hclass hpaused hsince hP hs (by simp [hjoined, h0])
  obtain ⟨pred, hplaus⟩ := plausCand_eq (s := s.atEnd cls) hP cls h0 hdev
  refine ⟨t, o, hexec, houts, ?_⟩
  have hstep' : (s.atEnd cls).load (ctxAddr (3 * ch) + 16) 2 = 0 := hstep
  rw [hcode, hjoined, combined_pair, hplaus, hstep', plaus_free]
  rfl

end

/-- 24 frames before its apply frame an output goes to the tiles (R221). -/
theorem combinedOutputSend_sends {s : State} {o : OutWrite} (ho : s.lpa.outs = [o]) (hnow : s.now + 24 ≤ o.apply)
    (hon : nget s.lpa.on o.cls ≠ 0) : exec .combinedOutputSend s = .next { s with
      now := o.apply - 24, lpa := { s.lpa with outs := [] },
      drv := { s.drv with down := s.drv.down ++ [⟨o.ch, o.code, o.apply, 4, s.active, 0⟩] } } := by
  have hmax : max s.now (o.apply - 24) = o.apply - 24 := Nat.max_eq_right (by omega)
  have hdue : o.apply ≤ o.apply - 24 + 24 := by omega
  show execCombinedOutputSend s = _
  unfold execCombinedOutputSend State.reach
  rw [ho]
  simp only [List.foldl_nil, hmax, List.filter_cons, List.filter_nil, ho, hdue, decide_true, Bool.true_and, bne_iff_ne.mpr hon, if_true,
    Bool.not_true, Bool.false_eq_true, if_false, sortBy, insBy, List.map_cons, List.map_nil]
  rfl

theorem promote_nil {s : State} (hs : s.lpa.swait = []) (ht : s.lpa.twait = []) : s.promote = s := by
  simp [State.promote, hs, ht]

/-- An output of a channel that is not of class `cls`. -/
def OutWrite.ofOther (ch cls : Nat) (o : OutWrite) : Bool := o.ch == ch && o.cls != cls

/-- The state at frame `f` without a channel's change to class `cls` and its unsent outputs of other classes, which are counted. -/
def State.discardOuts (s : State) (ch cls f : Nat) : State :=
  let t := (s.reach f).bump LPA_CNT_DISCARD.COUNT (s.lpa.outs.filter (OutWrite.ofOther ch cls)).length
  { t with lpa := { t.lpa with
    outs := t.lpa.outs.filter fun o => !o.ofOther ch cls, changes := t.lpa.changes.filter fun x => x.ch != ch } }

/-- CLASS_CHANGE of a channel that does not resume (R222). -/
theorem exec_classChange {s : State} {ch : Fin 16384} {c : ClassWait} (hc : s.lpa.changes.find? (fun c => c.ch == ch.val) = some c)
    (hres : ∀ r ∈ s.lpa.resume, r.ch ≠ ch.val) : exec (.classChange ch) s =
      .next ((s.discardOuts ch c.cls (phase0 c.cls (max s.now c.after))).enterClass ch c.cls (phase0 c.cls (max s.now c.after))).promote := by
  have hany : (s.lpa.resume.any fun r => r.ch == ch.val) = false := List.any_eq_false.mpr fun r hr => by simpa using hres r hr
  show execClassChange ch s = _
  unfold execClassChange
  rw [hc]
  exact congrArg (fun t : State => Host.Outcome.next t.promote) (if_neg (by exact hany ▸ Bool.false_ne_true))

/-- A class change takes effect at the first phase 0 of the new class (R222, R223). -/
theorem classChange_changes {s : State} {ch : Fin 16384} {c : ClassWait} (hc : s.lpa.changes.find? (fun c => c.ch == ch.val) = some c)
    (hsw : s.lpa.swait = []) (htw : s.lpa.twait = []) (hres : ∀ r ∈ s.lpa.resume, r.ch ≠ ch.val) :
    ∃ t, exec (.classChange ch) s = .next t ∧ t.now = phase0 c.cls (max s.now c.after) ∧ t.chClass ch = c.cls % 4 ∧
      nget t.lpa.ran ch = 0 ∧ nget t.lpa.since ch = t.now + 1 ∧ (∀ x ∈ t.lpa.changes, x.ch ≠ ch.val) ∧
      t.lpa.outs = s.lpa.outs.filter (fun o => !(o.ch == ch.val && o.cls != c.cls)) ∧
      (∀ a, a ≠ ctxAddr (3 * ch) + 58 → t.loadB a = s.loadB a) ∧
      t = { s with now := t.now, regs := t.regs, mem := t.mem, lpa := t.lpa } ∧ RegsBut [LPA_CNT_DISCARD.COUNT.key 0 0 0] s t := by
  have hexec := exec_classChange hc hres
  generalize hf : phase0 c.cls (max s.now c.after) = f at hexec
  have hle : s.now ≤ f := hf ▸ (Nat.le_max_left _ _).trans (le_nextAt _ _ _)
  generalize hu : s.discardOuts ch c.cls f = u at hexec
  have hnow : u.now = f := hu ▸ Nat.max_eq_right hle
  have hmem : u.mem = s.mem := hu ▸ rfl
  have hframe : u = { s with now := u.now, regs := u.regs, lpa := u.lpa } := hu ▸ rfl
  have hregs : RegsBut [LPA_CNT_DISCARD.COUNT.key 0 0 0] s u := by
    intro k hk
    subst hu
    exact nget_nset_other _ _ fun e => hk (List.mem_singleton.mpr e)
  have houts : u.lpa.outs = s.lpa.outs.filter (fun o => !(o.ch == ch.val && o.cls != c.cls)) := hu ▸ rfl
  have hchanges : u.lpa.changes = s.lpa.changes.filter fun x => x.ch != ch.val := hu ▸ rfl
  have hwaits : u.lpa.swait = [] ∧ u.lpa.twait = [] := hu ▸ ⟨hsw, htw⟩
  have henter : u.enterClass ch c.cls f = { u with
      mem := (u.setCclass ch (u.cclass ch / 4 * 4 + c.cls % 4)).mem
      lpa := { u.lpa with ran := nset u.lpa.ran ch 0, since := nset u.lpa.since ch (f + 1) } } := by
    unfold State.enterClass State.setCclass
    dsimp only
    rw [store_eq_mem]
  rw [promote_nil (by rw [henter]; exact hwaits.1) (by rw [henter]; exact hwaits.2), henter] at hexec
  refine ⟨_, hexec, hnow, ?_, nget_nset_same u.lpa.ran ch 0, (nget_nset_same u.lpa.since ch (f + 1)).trans
    (congrArg (· + 1) hnow.symm), fun x hx => ?_, houts, fun a ha => ?_, ?_, hregs⟩
  · refine ((sameClass_of_mem (s := u.setCclass ch (u.cclass ch / 4 * 4 + c.cls % 4)) rfl ch).1).trans ?_
    rw [State.chClass, cclass_setCclass, if_pos rfl]
    omega
  · have hx' := List.mem_filter.mp (hchanges ▸ hx)
    simpa using hx'.2
  · refine (loadB_store_other u _ (by omega)).trans ?_
    exact memSame_of_mem hmem a
  · rw [hframe]

end Sys2Proof.Machine

open Sys2Proof Sys2Proof.Machine

/-- Settles O37, clause by clause: a candidate, a skip and an overrun at a period's end; the combine of one slot and of two; an output
sent and a class changed. -/
theorem candidatesOutputsAndClasses : Obligations.CandidatesOutputsAndClasses := by
  unfold Obligations.CandidatesOutputsAndClasses
  refine ⟨⟨fun s cls r c x hj hr he hx hdie hpc hdue hon hstate hprobe hk hc hd hs => ?_,
    fun s cls x e hj hr he hon hs hle => candidatePublish_shows_skip hr hon hj he hs hle,
    fun s cls j x hj hr he hx hact hdue hon hstate hlim hn _ => ?_,
    fun s cls ch f last step cand hj hr he hf hon hl hc hp hsince h0 h1 h2 hP hfresh hb hs hdev hstep hlast hcand => ?_,
    fun s cls ch f hj hr he hf hon hl hc hp hsince h0 h1 h2 hP hdev hstep hb hs => ?_⟩,
    fun s o ho hnow hon => combinedOutputSend_sends ho hnow hon, fun s ch c hc hsw htw hres => classChange_changes hc hsw htw hres⟩
  · subst hx
    exact candidatePublish_publishes hr hon hj he hdie hpc hdue hstate hprobe hk hc hd hs
  · subst hx
    exact candidatePublish_overruns hr hon hj he hact hdue hstate hlim hn
  · subst hf hstep hlast hcand
    exact candidatePublish_slot0 hj hr he hon hl hc hp hsince hP hs h0 h2 hb hdev h1 hfresh
  · subst hf
    exact candidatePublish_lowest hj hr he hon hl hc hp hsince hP hs h0 h2 hb hdev h1 hstep

end

section
/-! SUPPORT. The check of a CTX_WRITE (R238) looks at nothing of the Host Port: what the Host Port has reported meanwhile leaves it. -/
namespace Sys2Proof.Machine

/-! #### Writing and activating contexts (R236, R237) -/

/-- The bytes of a context that a write under a mask stores at once: PROG, MODE and INIT. -/
def State.maskedBytes (s : State) (x mask : Nat) (e : List Byte) : State :=
  let t := if bit mask 0 then (s.store (ctxAddr x) 2 (field e 0 2 % 4096)).store (ctxAddr x + 2) 1 (field e 2 1 % 32) else s
  if bit mask 1 then t.store (ctxAddr x + 6) 2 (field e 6 2) else t

/-- The host values of a channel's fields that wait, after a write under a mask. -/
def maskedP (l : List (Nat × Nat)) (x mask : Nat) (e : List Byte) : List (Nat × Nat) :=
  if bit mask 2 && x % 3 == 0 then
    [(0, 16, 2), (1, 18, 2), (2, 20, 1)].foldl (fun l w => nset l (4 * (x / 3) + w.1) (field e w.2.1 w.2.2 + 1)) l
  else l

/-- The host values of a context's words that wait, after a write under a mask. -/
def maskedK (l : List (Nat × Nat)) (x mask : Nat) (e : List Byte) : List (Nat × Nat) :=
  (List.range 8).foldl (fun l k => if bit mask (4 + k) then nset l (8 * x + k) (field e (24 + 4 * k) 4 + 1) else l) l

/-- A write of a context's fields stores some at once and lets the others wait. -/
theorem ctxFields_eq (s : State) (x mask : Nat) (e : List Byte) : s.ctxFields x mask e =
    let t := s.maskedBytes x mask e
    { t with lpa := { t.lpa with hostP := maskedP t.lpa.hostP x mask e, hostK := maskedK t.lpa.hostK x mask e } } := by
  unfold State.ctxFields maskedP
  dsimp only
  split <;> rfl

/-- The bytes and the OPEN bit of a context that is activated, in STATE `st` (R237). -/
def State.activated (s : State) (x st : Nat) : State :=
  let t := (((((s.store (ctxAddr x + 8) 2 (s.load (progAddr (s.ctxProg x) + 8) 2)).wr LPA_OPEN_LOOP.OPEN
    (clrBit (s.rd LPA_OPEN_LOOP.OPEN (x / 32)) (x % 32)) (x / 32)).setCtxState x st).store (ctxAddr x + 4) 2
    (if x % 3 = 0 then s.liveTarget (x / 3) else s.load (ctxAddr x + 6) 2)).store (ctxAddr x + 10) 1 0)
  if x % 3 = 0 then t.store (ctxAddr x + 21) 1 0 else t

/-- The STATE in which a context is activated (R237). -/
def State.startState (s : State) (x : Nat) : Nat := if s.tileLost (x / 3 / 2048) then 4 else if s.chPaused (x / 3) then 2 else 1

/-- Activating a context writes its bytes, and notes when it begins and, where its channel's loops pause, when it resumes. -/
theorem activateOne_eq (s : State) (x : Nat) : s.activateOne x =
    let t := s.activated x (s.startState x)
    { t with lpa := { t.lpa with
      begun := (x, t.now) :: t.lpa.begun.filter fun b => b.1 != x
      resumeCtx := ((t.lpa.resume.filter fun r => r.ch == x / 3 && !t.follows x && s.startState x != 1).map fun r => (x, r.after)) ++
        t.lpa.resumeCtx.filter fun r => r.1 != x
      fresh := if x % 3 = 0 then x / 3 :: t.lpa.fresh.filter fun c => c != x / 3 else t.lpa.fresh } } := rfl

/-! #### Two states that differ in the Host Port alone -/

section
variable {s t : State} (h : OnlyHpt s t)
include h

theorem OnlyHpt.lpa : t.lpa = s.lpa := by rw [h.1]
theorem OnlyHpt.pln : t.pln = s.pln := by rw [h.1]
theorem OnlyHpt.saf : t.saf = s.saf := by rw [h.1]

/-- The same store in both leaves them alike outside the Host Port. -/
theorem OnlyHpt.store_both (a n v : Nat) : OnlyHpt (s.store a n v) (t.store a n v) := by
  have hmem : (t.store a n v).mem = (s.store a n v).mem := by
    induction n generalizing s t a v with
    | zero => exact h.mem
    | succ n ih =>
      refine ih ?_ _ _
      obtain ⟨hframe, hregs⟩ := h
      refine ⟨?_, hregs⟩
      rw [State.storeB, State.storeB, hframe]
  obtain ⟨hframe, hregs⟩ := h
  refine ⟨?_, ?_⟩
  · rw [store_eq_mem t, store_eq_mem s, hmem, hframe]
  · rw [store_eq_mem t, store_eq_mem s]
    exact hregs

theorem OnlyHpt.setLpa_both {l l' : Lpa} (hl : l' = l) : OnlyHpt { s with lpa := l } { t with lpa := l' } := by
  obtain ⟨hframe, hregs⟩ := h
  refine ⟨?_, hregs⟩
  rw [hl, hframe]

/-- The same write of a register in both. -/
theorem OnlyHpt.wr_both (f : Fld) (v i j k : Nat) : OnlyHpt (s.wr f v i j k) (t.wr f v i j k) := by
  obtain ⟨hframe, hregs⟩ := h
  refine ⟨?_, fun n hn => ?_⟩
  · rw [State.wr, State.wr, hframe]
  · simp only [State.wr, nget_nset]
    split
    · rfl
    · exact hregs n hn

theorem OnlyHpt.load : t.load = s.load := funext fun a => funext fun n => load_of_mem h.mem a n
theorem OnlyHpt.ctxState : t.ctxState = s.ctxState := funext fun x => ctxState_of_mem h.mem x
theorem OnlyHpt.follows : t.follows = s.follows := funext fun x => follows_of_mem h.mem x
theorem OnlyHpt.elem : t.elem = s.elem := funext fun e => elem_of_mem h.mem e
theorem OnlyHpt.ctxProg : t.ctxProg = s.ctxProg := by unfold State.ctxProg; rw [h.load]
theorem OnlyHpt.isProbe : t.isProbe = s.isProbe := by unfold State.isProbe; rw [h.load]
theorem OnlyHpt.ctxWcet : t.ctxWcet = s.ctxWcet := by unfold State.ctxWcet; rw [h.load]
theorem OnlyHpt.ctxDiv : t.ctxDiv = s.ctxDiv := by unfold State.ctxDiv; rw [h.load]
theorem OnlyHpt.chPaused : t.chPaused = s.chPaused := by unfold State.chPaused State.cclass; rw [h.load]

theorem OnlyHpt.listed : t.listed = s.listed := by unfold State.listed; rw [h.mem]

theorem OnlyHpt.elemAt : t.elemAt = s.elemAt := by
  unfold State.elemAt State.validElems
  rw [h.listed, h.elem]

theorem OnlyHpt.liveTarget : t.liveTarget = s.liveTarget := by unfold State.liveTarget; rw [h.pln]
theorem OnlyHpt.tileLost : t.tileLost = s.tileLost := by unfold State.tileLost; rw [h.saf]

theorem OnlyHpt.loopChannels : t.loopChannels = s.loopChannels := by
  unfold State.loopChannels State.hasLoops
  rw [h.listed, h.ctxState]

theorem OnlyHpt.ownClass : t.ownClass = s.ownClass := by
  have hd : t.duskAsked = s.duskAsked := on_of_rd (h.rd (f := PWR_CTL.DUSK_REQ) (by decide) 0 0 0)
  unfold State.ownClass
  rw [hd, h.load]

theorem OnlyHpt.ctxWritable : t.ctxWritable = s.ctxWritable := by
  unfold State.ctxWritable State.chDomain
  rw [h.elemAt, h.elem]

theorem OnlyHpt.progAfter : t.progAfter = s.progAfter := by
  unfold State.progAfter
  rw [h.ctxProg, h.load]

theorem OnlyHpt.progOk : t.progOk = s.progOk := by
  unfold State.progOk
  rw [h.load, h.isProbe, h.rd (f := LPA_ADMIT_CFG.WCET_MAX) (by decide)]

/-! #### Admission (R233) -/

theorem OnlyHpt.followLoad : t.followLoad = s.followLoad := by
  unfold State.followLoad
  rw [h.ctxState, h.follows, h.ctxWcet]

theorem OnlyHpt.fixedLoad : t.fixedLoad = s.fixedLoad := by
  unfold State.fixedLoad State.allCtx
  rw [h.listed, h.ctxState, h.follows, h.ownClass, h.ctxDiv, h.ctxWcet]

theorem OnlyHpt.loopLoad : t.loopLoad = s.loopLoad := by
  unfold State.loopLoad
  rw [h.fixedLoad, h.loopChannels, h.elemAt, h.elem, h.followLoad, h.rd (f := LPA_CAPS.SETTLE_CAP) (by decide),
    h.rd (f := LPA_CAPS.TRACK_CAP) (by decide)]

theorem OnlyHpt.admitFails : t.admitFails = s.admitFails := by
  unfold State.admitFails State.loopUse
  rw [h.loopLoad, h.rd (f := LPA_ADMIT_CFG.PCT) (by decide)]

/-! #### The check of a CTX_WRITE (R238) -/

omit h in
theorem onlyHpt_ite_both {p : Prop} [Decidable p] {a b c e : State} (ha : OnlyHpt a c) (hb : OnlyHpt b e) :
    OnlyHpt (if p then a else b) (if p then c else e) := by split <;> assumption

theorem OnlyHpt.maskedBytes (x mask : Nat) (e : List Byte) : OnlyHpt (s.maskedBytes x mask e) (t.maskedBytes x mask e) := by
  have h1 := onlyHpt_ite_both (p := (bit mask 0 : Prop)) ((h.store_both (ctxAddr x) 2 (field e 0 2 % 4096)).store_both (ctxAddr x + 2) 1
    (field e 2 1 % 32)) h
  exact onlyHpt_ite_both (h1.store_both (ctxAddr x + 6) 2 (field e 6 2)) h1

theorem OnlyHpt.ctxFields (x mask : Nat) (e : List Byte) : OnlyHpt (s.ctxFields x mask e) (t.ctxFields x mask e) := by
  have h1 := h.maskedBytes x mask e
  rw [ctxFields_eq, ctxFields_eq]
  dsimp only
  rw [h1.lpa]
  exact h1.setLpa_both rfl

theorem OnlyHpt.startState (x : Nat) : t.startState x = s.startState x := by
  unfold State.startState
  rw [h.tileLost, h.chPaused]

theorem OnlyHpt.activated (x st : Nat) : OnlyHpt (s.activated x st) (t.activated x st) := by
  unfold State.activated
  rw [h.load, h.ctxProg, h.rd (f := LPA_OPEN_LOOP.OPEN) (by decide), h.liveTarget]
  have h1 := ((((h.store_both (ctxAddr x + 8) 2 (s.load (progAddr (s.ctxProg x) + 8) 2)).wr_both LPA_OPEN_LOOP.OPEN
    (clrBit (s.rd LPA_OPEN_LOOP.OPEN (x / 32)) (x % 32)) (x / 32) 0 0).store_both (ctxAddr x + 3) 1 st).store_both (ctxAddr x + 4) 2
    (if x % 3 = 0 then s.liveTarget (x / 3) else s.load (ctxAddr x + 6) 2)).store_both (ctxAddr x + 10) 1 0
  exact onlyHpt_ite_both (h1.store_both (ctxAddr x + 21) 1 0) h1

theorem OnlyHpt.activateOne (x : Nat) : OnlyHpt (s.activateOne x) (t.activateOne x) := by
  have h1 := h.activated x (s.startState x)
  have hlpa := h1.lpa
  have hnow := h1.now
  have hfollows := h1.follows
  rw [activateOne_eq, activateOne_eq, h.startState]
  generalize s.activated x (s.startState x) = a at *
  generalize t.activated x (s.startState x) = b at *
  refine h1.setLpa_both ?_
  rw [hlpa, hnow, hfollows]

theorem OnlyHpt.activateAll (b : CtxBody) (data : List Byte) : OnlyHpt (s.activateAll b data) (t.activateAll b data) := by
  unfold State.activateAll
  induction List.range b.count generalizing s t with
  | nil => exact h
  | cons i l ih => exact ih ((h.ctxFields _ _ _).activateOne _)

/-- What R238 refuses does not depend on the Host Port's state. -/
theorem OnlyHpt.ctxRefusal (d : Desc) (data : List Byte) : t.ctxRefusal d data = s.ctxRefusal d data := by
  unfold State.ctxRefusal
  dsimp only
  rw [h.elemAt, h.elem, h.progAfter, h.ctxWritable, h.ctxState, h.ctxProg, h.load, h.progOk, (h.activateAll (ctxBody d) data).admitFails]

end

end Sys2Proof.Machine
end

section
/-! SUPPORT. The commands of the loop contexts (R235 to R239): how each ends, and what it does where R238 lets it. -/
namespace Sys2Proof.Machine

section
variable {s : State} {id op : Nat} {d : Desc} (h : Runs s id op d)
include h

theorem Runs.poisoned (p : Bool) : s.poisoned p id = s.poison p d.ring d.hostAddr := by rw [State.poisoned, h.1]

/-- A poisoned TLP among the data of a descriptor's read is noted by the Host Port alone (R81). -/
theorem Runs.reports_poisoned (p : Bool) : Reports errKey s (s.poisoned p id) := by
  rw [h.poisoned]
  exact reports_poison _ _ _ _

theorem Runs.onlyHpt_poisoned (p : Bool) : OnlyHpt s (s.poisoned p id) := (h.reports_poisoned p).onlyHpt fun _ => hptKey_of_errKey

theorem Runs.after_poisoned (p : Bool) : Runs (s.poisoned p id) id op d := by
  refine ⟨?_, h.2⟩
  rw [State.desc, (h.reports_poisoned p).hpt]
  exact h.1

/-- A descriptor completes after other work as it would have at once, where that work leaves the Host Port. -/
theorem Runs.completed_after (p : Bool) {t : State} (ht : t.hpt = (s.poisoned p id).hpt) (st : Nat) (res : Option Nat) :
    Completed d st res s (t.done d st res) := by
  have hpt := (h.reports_poisoned p).hpt
  have hc := completed_done t d st res
  unfold Completed at hc ⊢
  rw [ht, hpt] at hc
  exact hc

end

section
variable {s : State} {id : Nat} {d : Desc} (h : Runs s id opCtxWrite d) {p : Bool} {data : List Byte} {q : Nat → Bool}
  {f : State → CtxBody → State} (hq : q (ctxBody d).op = true)
include h hq

/-- A CTX_WRITE that R238 refuses completes with its status and RESULT and nothing else. -/
theorem ctxCommand_refused {st r : Nat} (href : s.ctxRefusal d data = some (st, r)) :
    Completed d st (some r) s (s.ctxCommand id ⟨data, p⟩ q f) ∧ OnlyHpt s (s.ctxCommand id ⟨data, p⟩ q f) := by
  have hu := h.onlyHpt_poisoned p
  have hdone : s.ctxCommand id ⟨data, p⟩ q f = (s.poisoned p id).done d st (some r) := by
    unfold State.ctxCommand
    dsimp only
    rw [withOp_of_runs (h.after_poisoned p), if_neg (by simp [hq]), hu.ctxRefusal, href]
  rw [hdone]
  exact ⟨h.completed_after p rfl st (some r), hu.trans (onlyHpt_done _ _ _ _)⟩

/-- A CTX_WRITE that R238 does not refuse is done, and completes with its number of contexts. -/
theorem ctxCommand_accepted (href : s.ctxRefusal d data = none) : s.ctxCommand id ⟨data, p⟩ q f =
    (f (s.poisoned p id) (ctxBody d)).done d stOK (some (ctxBody d).count) := by
  unfold State.ctxCommand
  dsimp only
  rw [withOp_of_runs (h.after_poisoned p), if_neg (by simp [hq]), (h.onlyHpt_poisoned p).ctxRefusal, href]

end

/-- The one context of a batch of one. -/
theorem firstBad_one (b : CtxBody) (p : Nat → Bool) (h : b.count = 1) : b.firstBad p = if p 0 then some 0 else none := by
  rw [CtxBody.firstBad, h]
  cases hp : p 0 <;> simp [hp, List.range_succ]

/-- What R238 refuses of a DEACTIVATE of one context. -/
theorem ctxRefusal_deactivate {s : State} {d : Desc} (data : List Byte) (hok : ctxBodyOk d = true) (hop : (ctxBody d).op = 2)
    (hcount : (ctxBody d).count = 1) : s.ctxRefusal d data =
      if s.ctxWritable d.dom (ctxBody d).first 0 = false then some (stDomainDenied, 0)
      else if s.elemAt ((ctxBody d).first / 3) = none then some (stCtxUnbound, 0) else none := by
  obtain ⟨-, ⟨-, hmask⟩, -⟩ : _ ∧ (_ ∧ (ctxBody d).mask = 0) ∧ _ := by simpa [ctxBodyOk, hop] using hok
  unfold State.ctxRefusal
  simp only [hok, hop, hcount, hmask, firstBad_one _ _ hcount]
  cases s.ctxWritable d.dom (ctxBody d).first 0 <;> cases s.elemAt ((ctxBody d).first / 3) <;> simp

/-- A slot 0 without FOLLOW is not activated (R238). -/
theorem ctxRefusal_activate_unfollowed {s : State} {d : Desc} (data : List Byte) (hok : ctxBodyOk d = true) (hop : (ctxBody d).op = 1)
    (hcount : (ctxBody d).count = 1) (hmask : (ctxBody d).mask = 0) (h0 : (ctxBody d).first % 3 = 0)
    (hfollow : bit (s.load (ctxAddr (ctxBody d).first + 2) 1) 0 = false) : s.ctxRefusal d data = some (stBadField, 0) := by
  have hbit : bit 0 0 = false := by decide
  unfold State.ctxRefusal
  simp [hok, hop, hmask, h0, firstBad_one _ _ hcount, State.progAfter, hbit, hfollow]

/-! #### Writing (R236, R237) -/

theorem field_take (bs : List Byte) {off n k : Nat} (h : off + n ≤ k) : field (bs.take k) off n = field bs off n := by
  rw [field, field, List.drop_take, List.take_take, Nat.min_eq_left (by omega)]

theorem store_hpt (s : State) (a n v : Nat) : (s.store a n v).hpt = s.hpt := by rw [store_eq_mem]

/-- A write of INIT and K0 of one context (R236, R237). -/
theorem ctxFields_init_k0 (s : State) (x : Nat) (data : List Byte) : ∃ l,
    s.ctxFields x 18 (ctxData data 0) = { s.store (ctxAddr x + 6) 2 (field data 6 2) with lpa := l } ∧
    nget l.hostK (8 * x) = field data 24 4 + 1 := by
  have h6 : field (ctxData data 0) 6 2 = field data 6 2 := field_take data (by decide)
  have h24 : field (ctxData data 0) 24 4 = field data 24 4 := field_take data (by decide)
  have hbytes : s.maskedBytes x 18 (ctxData data 0) = s.store (ctxAddr x + 6) 2 (field data 6 2) := by
    rw [← h6]
    rfl
  have hk (l : List (Nat × Nat)) : maskedK l x 18 (ctxData data 0) = nset l (8 * x) (field data 24 4 + 1) := by
    rw [← h24]
    rfl
  rw [ctxFields_eq, hbytes]
  refine ⟨_, rfl, ?_⟩
  dsimp only
  rw [hk, nget_nset_same]

/-! #### Activating (R237) -/

/-- A write of no field leaves all as it is. -/
theorem ctxFields_none (s : State) (x : Nat) (e : List Byte) : s.ctxFields x 0 e = s := by
  rw [ctxFields_eq]
  rfl

/-- Nothing but memory and registers differs between `s` and `t`. -/
structure StoreFrame (s t : State) : Prop where
  frame : t = { s with regs := t.regs, mem := t.mem }

section
variable {s t : State}

theorem storeFrame_refl (s : State) : StoreFrame s s := ⟨rfl⟩

theorem StoreFrame.trans {a b c : State} (h : StoreFrame a b) (g : StoreFrame b c) : StoreFrame a c := by
  refine ⟨?_⟩
  have h1 := g.frame
  rw [h.frame] at h1
  exact h1

theorem StoreFrame.store (h : StoreFrame s t) (a n v : Nat) : StoreFrame s (t.store a n v) := h.trans ⟨by rw [store_eq_mem t a n v]⟩
theorem StoreFrame.wr (h : StoreFrame s t) (f : Fld) (v i j k : Nat) : StoreFrame s (t.wr f v i j k) := h.trans ⟨rfl⟩

theorem StoreFrame.ite {p : Prop} [Decidable p] {a b : State} (ha : StoreFrame s a) (hb : StoreFrame s b) :
    StoreFrame s (if p then a else b) := by split <;> assumption

theorem StoreFrame.hpt (h : StoreFrame s t) : t.hpt = s.hpt := by rw [h.frame]
theorem StoreFrame.lpa (h : StoreFrame s t) : t.lpa = s.lpa := by rw [h.frame]
theorem StoreFrame.now (h : StoreFrame s t) : t.now = s.now := by rw [h.frame]

end

theorem storeFrame_activated (s : State) (x st : Nat) : StoreFrame s (s.activated x st) := by
  have h := (((((storeFrame_refl s).store (ctxAddr x + 8) 2 (s.load (progAddr (s.ctxProg x) + 8) 2)).wr LPA_OPEN_LOOP.OPEN
    (clrBit (s.rd LPA_OPEN_LOOP.OPEN (x / 32)) (x % 32)) (x / 32) 0 0).store (ctxAddr x + 3) 1 st).store (ctxAddr x + 4) 2
    (if x % 3 = 0 then s.liveTarget (x / 3) else s.load (ctxAddr x + 6) 2)).store (ctxAddr x + 10) 1 0
  exact .ite (h.store _ _ _) h

/-- The last store of an activation, of the clip count of a slot 0, leaves the other bytes. -/
theorem loadB_activated (s : State) (x st : Nat) {a : Nat} (ha : a ≠ ctxAddr x + 21) : (s.activated x st).loadB a =
    (((((s.store (ctxAddr x + 8) 2 (s.load (progAddr (s.ctxProg x) + 8) 2)).wr LPA_OPEN_LOOP.OPEN
      (clrBit (s.rd LPA_OPEN_LOOP.OPEN (x / 32)) (x % 32)) (x / 32)).setCtxState x st).store (ctxAddr x + 4) 2
      (if x % 3 = 0 then s.liveTarget (x / 3) else s.load (ctxAddr x + 6) 2)).store (ctxAddr x + 10) 1 0).loadB a := by
  unfold State.activated
  dsimp only
  split
  · exact loadB_store_other _ _ (by omega)
  · rfl

theorem load_lt (s : State) (a n : Nat) : s.load a n < 256 ^ n := by
  induction n generalizing a with
  | zero => exact Nat.one_pos
  | succ n ih =>
    have h1 := (s.loadB a).isLt
    have h2 := ih (a + 1)
    rw [State.load, pow_succ]
    omega

/-- What a context holds once it has been activated (R237). -/
theorem activated_shows (s : State) (x st : Nat) : (s.activated x st).ctxState x = st % 256 ∧
    (s.activated x st).load (ctxAddr x + 8) 2 = s.load (progAddr (s.ctxProg x) + 8) 2 ∧
    (s.activated x st).load (ctxAddr x + 4) 2 = (if x % 3 = 0 then s.liveTarget (x / 3) % 2 ^ 16 else s.load (ctxAddr x + 6) 2) ∧
    (s.activated x st).load (ctxAddr x + 10) 1 = 0 ∧
    ∀ a, a < ctxAddr x ∨ ctxAddr x + 64 ≤ a → (s.activated x st).loadB a = s.loadB a := by
  have hload {a n : Nat} (ha : a + n ≤ ctxAddr x + 21) := load_congr (a := a) (n := n) fun b hb hn =>
    loadB_activated s x st (a := b) (by omega)
  have hwr (t : State) (f : Fld) (v i j k a n : Nat) : (t.wr f v i j k).load a n = t.load a n :=
    load_of_mem (t := t.wr f v i j k) (s := t) rfl a n
  refine ⟨?_, ?_, ?_, ?_, fun a ha => ?_⟩
  · rw [State.ctxState, hload (by omega), load_store_other _ _ (by omega), load_store_other _ _ (by omega)]
    exact load_store_same _ _ _ _
  · rw [hload (by omega), load_store_other _ _ (by omega), load_store_other _ _ (by omega), State.setCtxState,
      load_store_other _ _ (by omega), hwr, load_store_same]
    exact Nat.mod_eq_of_lt (load_lt _ _ 2)
  · rw [hload (by omega), load_store_other _ _ (by omega), load_store_same]
    split
    · rfl
    · exact Nat.mod_eq_of_lt (load_lt _ _ 2)
  · rw [hload (by omega), load_store_same]
    rfl
  · rw [loadB_activated s x st (by omega), loadB_store_other _ _ (by omega), loadB_store_other _ _ (by omega), State.setCtxState,
      loadB_store_other _ _ (by omega), loadB_wr, loadB_store_other _ _ (by omega)]

/-- An activated context is no longer in open loop (R231, R237). -/
theorem activated_open (s : State) (x st : Nat) : bit ((s.activated x st).rd LPA_OPEN_LOOP.OPEN (x / 32)) (x % 32) = false := by
  have hregs (t : State) (a n v : Nat) : (t.store a n v).regs = t.regs := by rw [store_eq_mem]
  have hrd : (s.activated x st).rd LPA_OPEN_LOOP.OPEN (x / 32) = clrBit (s.rd LPA_OPEN_LOOP.OPEN (x / 32)) (x % 32) % 2 ^ 32 := by
    refine Eq.trans (rd_congr ?_ _ _ _ _) (rd_wr_same (s.store (ctxAddr x + 8) 2 (s.load (progAddr (s.ctxProg x) + 8) 2))
      LPA_OPEN_LOOP.OPEN _ (x / 32) 0 0)
    unfold State.activated State.setCtxState
    dsimp only
    split <;> simp only [hregs]
  rw [hrd, bit_mod_two_pow _ (Nat.mod_lt _ (by decide)), bit_clrBit]
  simp

end Sys2Proof.Machine
end

section
/-! SUPPORT. DEACTIVATE and SET_CLASS (R222, R223, R237): what stops, and the channels that a class has. -/
namespace Sys2Proof.Machine

/-! #### Stopping contexts -/

/-- A context is INACTIVE, and no longer in open loop. -/
def State.stopCtx (s : State) (x : Nat) : State := (s.setCtxState x 0).wr LPA_OPEN_LOOP.OPEN
  (clrBit (s.rd LPA_OPEN_LOOP.OPEN (x / 32)) (x % 32)) (x / 32)

theorem storeFrame_stopAll (l : List Nat) (s : State) : StoreFrame s (l.foldl State.stopCtx s) :=
  List.foldlRecOn l _ (storeFrame_refl s) fun _ ht _ _ => (ht.store _ _ _).wr _ _ _ _ _

theorem ctxState_stopCtx (s : State) (y x : Nat) : (s.stopCtx y).ctxState x = if x = y then 0 else s.ctxState x := by
  have hmem : (s.stopCtx y).ctxState x = (s.store (ctxAddr y + 3) 1 0).ctxState x := ctxState_of_mem rfl x
  rw [hmem, State.ctxState]
  split
  case isTrue h => subst h; exact load_store_same _ _ _ _
  case isFalse h => exact load_store_other _ _ (by simp only [ctxAddr]; omega)

/-- The contexts of a list are INACTIVE once each has been stopped. -/
theorem ctxState_stopAll {x : Nat} (l : List Nat) (s : State) (h : x ∈ l ∨ s.ctxState x = 0) : (l.foldl State.stopCtx s).ctxState x = 0 := by
  induction l generalizing s with
  | nil => exact h.resolve_left List.not_mem_nil
  | cons y l ih =>
    refine ih _ ?_
    rw [ctxState_stopCtx]
    by_cases hx : x = y
    · exact .inr (if_pos hx)
    · rw [if_neg hx]
      exact h.imp_left fun hm => (List.mem_cons.mp hm).resolve_left hx

/-- The contexts of a batch. -/
def CtxBody.has (b : CtxBody) (x : Nat) : Bool := decide (b.first ≤ x) && decide (x < b.first + b.count)

/-- The state without the jobs of a batch's contexts, and what waits for them. -/
def State.withoutJobs (s : State) (b : CtxBody) : State :=
  { s with lpa := { s.lpa with
    jobs := s.lpa.jobs.filter fun j => !b.has j.ctx
    runs := s.lpa.runs.filter fun r => !b.has r.job.ctx
    ended := s.lpa.ended.filter fun r => !b.has r.job.ctx
    skipped := s.lpa.skipped.filter fun x => !b.has x.1
    begun := s.lpa.begun.filter fun x => !b.has x.1 } }

theorem exec_deactivate (s : State) (id : Nat) (r : HostRead (List Byte)) : exec (.deactivate id r) s =
    .next (s.ctxCommand id r (fun op => op == 2) fun s b => ((b.ctxs.foldl State.stopCtx s).withoutJobs b).promote) := rfl

/-- CCLASS of channels is no STATE of a context. -/
theorem ClassFrame.ctxState {P : Nat → Prop} {s t : State} (h : ClassFrame P s t) (x : Nat) : t.ctxState x = s.ctxState x :=
  load_congr fun b h1 h2 => h.2 b fun ch _ => by simp only [cclassAddr, ctxAddr] at *; omega

/-! #### The channels of a class -/

/-- A byte of a context's entry that is not INIT reads 0 where it is not listed. -/
theorem listed_of_ctxState {s : State} {x : Nat} (hx : x < 49152) (h : s.ctxState x ≠ 0) : x ∈ s.listed ctxBase 64 49152 := by
  have hdef : memDefault (ctxAddr x + 3) = 0 := by
    have h64 : (ctxAddr x + 3 - ctxBase) % 64 = 3 := by simp only [ctxAddr]; omega
    rw [memDefault, if_pos (by simp only [ctxAddr]; omega), h64]
    rfl
  have hmem : ∃ v, (ctxAddr x + 3, v) ∈ s.mem := by
    by_contra hne
    have hnone (m : List Host.Cell) (hm : ∀ v, (ctxAddr x + 3, v) ∉ m) : aget m (ctxAddr x + 3) = none := by
      induction m with
      | nil => rfl
      | cons c m ih =>
        obtain ⟨a, v⟩ := c
        rw [aget_cons, if_neg fun e => hm v (by simp [e]), ih fun w hw => hm w (List.mem_cons_of_mem _ hw)]
    refine h ?_
    rw [State.ctxState, load_one, State.loadB, hnone s.mem (fun v hv => hne ⟨v, hv⟩), hdef]
    rfl
  obtain ⟨v, hv⟩ := hmem
  refine List.mem_dedup.mpr (List.mem_map.mpr ⟨(ctxAddr x + 3, v), List.mem_filter.mpr ⟨hv, ?_⟩, ?_⟩)
  · have h1 : ctxBase ≤ ctxAddr x + 3 ∧ ctxAddr x + 3 < ctxBase + 64 * 49152 := by
      simp only [ctxAddr]
      omega
    simp [h1]
  · simp only [ctxAddr]
    omega

/-- The channels with loops are those of which a context is not INACTIVE. -/
theorem mem_loopChannels {s : State} {ch : Nat} : ch ∈ s.loopChannels ↔ ch < 16384 ∧ s.hasLoops ch = true := by
  refine ⟨fun h => ⟨loopChannels_lt h, (List.mem_filter.mp h).2⟩, fun ⟨hlt, h⟩ => List.mem_filter.mpr ⟨List.mem_dedup.mpr ?_, h⟩⟩
  obtain ⟨x, hx, hstate⟩ := List.any_eq_true.mp h
  have hx3 : x / 3 = ch ∧ x < 49152 := by
    simp only [List.mem_cons, List.not_mem_nil, or_false] at hx
    omega
  exact List.mem_map.mpr ⟨x, listed_of_ctxState hx3.2 (by simpa using hstate), hx3.1⟩

section
variable {s t : State} (hstate : ∀ x, t.ctxState x = s.ctxState x) (hclass : SameClass s t)
include hstate

theorem loopChannels_perm : t.loopChannels.Perm s.loopChannels := by
  refine (List.perm_ext_iff_of_nodup ((List.nodup_dedup _).filter _) ((List.nodup_dedup _).filter _)).mpr fun ch => ?_
  rw [← State.loopChannels, ← State.loopChannels, mem_loopChannels, mem_loopChannels]
  simp only [State.hasLoops, hstate]

include hclass

theorem classCount_congr (cls : Nat) : t.classCount cls = s.classCount cls := by
  have hruns : (fun ch => t.runsIn ch cls) = fun ch => s.runsIn ch cls := funext fun ch => by
    rw [State.runsIn, State.runsIn, (hclass ch).1, (hclass ch).2]
  unfold State.classCount
  rw [hruns]
  exact ((loopChannels_perm hstate).filter _).length_eq

/-- With no class change on its way, the channels in a class decide whether it is full (R223). -/
theorem classFull_congr {cls : Nat} (hcap : t.classCap cls = s.classCap cls) (hs : s.lpa.changes = []) (ht : t.lpa.changes = []) :
    t.classFull cls = s.classFull cls := by
  have hin : t.inClass cls = s.inClass cls := by
    rw [State.inClass, State.inClass, classCount_congr hstate hclass, hs, ht]
    rfl
  rw [State.classFull, State.classFull, hcap]
  cases s.classCap cls with
  | none => rfl
  | some n => rw [hin]

end

/-! #### Sending a channel to a class that has room -/

/-- Leaving a wait list leaves both empty where they are. -/
theorem setWait_waits {s : State} (cls ch at_ : Nat) (hs : s.lpa.swait = []) (ht : s.lpa.twait = []) :
    (s.setWait cls ch false at_).lpa.swait = [] ∧ (s.setWait cls ch false at_).lpa.twait = [] := by
  have hlpa (v : Nat) : (s.setCclass ch v).lpa = s.lpa := store_lpa _ _ _ _
  by_cases h0 : cls = 0
  · simp [State.setWait, h0, hlpa, hs, ht]
  · by_cases h1 : cls = 1 <;> simp [State.setWait, h0, h1, hlpa, hs, ht]

/-- A channel of another class joins the changes to a class that has room, while no Dusk is asked for (R222, R223). -/
theorem sendTo_changes {s : State} {ch cls : Nat} (hdusk : s.duskAsked = false) (hfull : s.classFull cls = false) (hc : s.lpa.changes = [])
    (hs : s.lpa.swait = []) (ht : s.lpa.twait = []) (hne : s.chClass ch ≠ cls) : (s.sendTo ch cls).lpa.changes = [⟨ch, cls, s.now⟩] ∧
    (s.sendTo ch cls).lpa.swait = [] ∧ (s.sendTo ch cls).lpa.twait = [] := by
  have hclass : s.duskClass ch cls = (cls, s) := if_pos (by rw [hdusk]; rfl)
  obtain ⟨hw0s, hw0t⟩ := setWait_waits (s := s.withoutChange ch) 0 ch (s.withoutChange ch).now hs ht
  obtain ⟨hws, hwt⟩ := setWait_waits 1 ch ((s.withoutChange ch).setWait 0 ch false).now hw0s hw0t
  have hchanges : (s.leaveWaits ch).lpa.changes = [] := by
    rw [(leaveWaits_lists s ch).1, State.withoutChange, hc]
    rfl
  have hleave := classFrame_leaveWaits s ch
  have hcap : (s.leaveWaits ch).classCap cls = s.classCap cls := by
    rw [State.classCap, State.classCap, rd_congr hleave.regs, rd_congr hleave.regs]
  have hroom : (s.leaveWaits ch).classFull cls = false :=
    (classFull_congr hleave.ctxState (sameClass_leaveWaits s ch) hcap hc hchanges).trans hfull
  rw [sendTo_eq, hclass]
  unfold State.joinClass
  simp only [hroom, Bool.false_eq_true, if_false, hne, false_and, hchanges, true_and]
  exact ⟨hws, hwt⟩

end Sys2Proof.Machine
end

section
/-! The clauses of ContextCommands, one by one (R223, R235 to R239). -/
namespace Sys2Proof.Machine

section
variable {s : State} {id : Nat} {d : Desc} {data : List Byte} (hr : Runs s id opCtxWrite d)
include hr

/-- CTX_WRITE, ACTIVATE, DEACTIVATE and SET_CLASS where R238 refuses them. -/
theorem ctxCommands_refuse {p : Bool} {st r : Nat} {i : Instr} (href : s.ctxRefusal d data = some (st, r))
    (hi : (i = .ctxWrite id ⟨data, p⟩ ∧ ((ctxBody d).op = 0 ∨ 3 < (ctxBody d).op)) ∨ (i = .activate id ⟨data, p⟩ ∧ (ctxBody d).op = 1) ∨
      (i = .deactivate id ⟨data, p⟩ ∧ (ctxBody d).op = 2) ∨ (i = .setClass id ⟨data, p⟩ ∧ (ctxBody d).op = 3)) :
    ∃ t, exec i s = .next t ∧ Completed d st (some r) s t ∧ OnlyHpt s t := by
  obtain ⟨rfl, hop⟩ | ⟨rfl, hop⟩ | ⟨rfl, hop⟩ | ⟨rfl, hop⟩ := hi
  · have hq : ((ctxBody d).op == 0 || decide (3 < (ctxBody d).op)) = true := by simpa using hop
    exact ⟨_, rfl, ctxCommand_refused hr (q := fun op => op == 0 || decide (3 < op)) hq href⟩
  · exact ⟨_, rfl, ctxCommand_refused hr (q := fun op => op == 1) (beq_iff_eq.mpr hop) href⟩
  · exact ⟨_, rfl, ctxCommand_refused hr (q := fun op => op == 2) (beq_iff_eq.mpr hop) href⟩
  · exact ⟨_, rfl, ctxCommand_refused hr (q := fun op => op == 3) (beq_iff_eq.mpr hop) href⟩

variable (href : s.ctxRefusal d data = none)
include href

/-- A WRITE of INIT and K0 of one context (R236, R237). -/
theorem ctxWrite_writes (p : Bool) {x : Nat} (hop : (ctxBody d).op = 0) (hcount : (ctxBody d).count = 1) (hx : (ctxBody d).first = x)
    (hmask : (ctxBody d).mask = 18) : ∃ t, exec (.ctxWrite id ⟨data, p⟩) s = .next t ∧ t.load (ctxAddr x + 6) 2 = field data 6 2 ∧
      nget t.lpa.hostK (8 * x) = field data 24 4 + 1 ∧ Completed d stOK (some 1) s t ∧
      (∀ a, a < ctxAddr x + 6 ∨ ctxAddr x + 8 ≤ a → t.loadB a = s.loadB a) := by
  have hexec : exec (.ctxWrite id ⟨data, p⟩) s = .next (((s.poisoned p id).ctxFields x 18 (ctxData data 0)).done d stOK (some 1)) := by
    refine congrArg Host.Outcome.next ((ctxCommand_accepted hr (q := fun op => op == 0 || decide (3 < op)) (by simp [hop]) href).trans ?_)
    rw [hcount, hx, hmask, List.range_one, List.foldl_cons, List.foldl_nil, Nat.add_zero]
  have hu := hr.onlyHpt_poisoned p
  obtain ⟨l, hfields, hk⟩ := ctxFields_init_k0 (s.poisoned p id) x data
  generalize ht : (s.poisoned p id).ctxFields x 18 (ctxData data 0) = t at hexec hfields
  have hmem : t.mem = ((s.poisoned p id).store (ctxAddr x + 6) 2 (field data 6 2)).mem := by rw [hfields]
  have hhpt : t.hpt = (s.poisoned p id).hpt := by rw [hfields]; exact store_hpt _ _ _ _
  have hlpa : t.lpa = l := by rw [hfields]
  have hdone := onlyHpt_done t d stOK (some 1)
  refine ⟨_, hexec, ?_, ?_, hr.completed_after p hhpt _ _, fun a ha => ?_⟩
  · rw [load_of_mem (hdone.mem.trans hmem), load_store_same]
    exact Nat.mod_eq_of_lt (field_lt data 6 2)
  · rw [hdone.lpa, hlpa, hk]
  · rw [memSame_of_mem (hdone.mem.trans hmem) a, loadB_store_other _ _ ha]
    exact memSame_of_mem hu.mem a

/-- An ACTIVATE of one context whose tile and loops run (R237). -/
theorem activate_runs (p : Bool) {x : Nat} (hop : (ctxBody d).op = 1) (hcount : (ctxBody d).count = 1) (hx : (ctxBody d).first = x)
    (hmask : (ctxBody d).mask = 0) (htile : s.tileLost (x / 3 / 2048) = false) (hpaused : s.chPaused (x / 3) = false) :
    ∃ t, exec (.activate id ⟨data, p⟩) s = .next t ∧ t.ctxState x = 1 ∧ (x, s.now) ∈ t.lpa.begun ∧
      t.load (ctxAddr x + 8) 2 = s.load (progAddr (s.ctxProg x) + 8) 2 ∧
      t.load (ctxAddr x + 4) 2 = (if x % 3 = 0 then s.liveTarget (x / 3) % 2 ^ 16 else s.load (ctxAddr x + 6) 2) ∧
      t.load (ctxAddr x + 10) 1 = 0 ∧ bit (t.rd LPA_OPEN_LOOP.OPEN (x / 32)) (x % 32) = false ∧ Completed d stOK (some 1) s t ∧
      (∀ a, a < ctxAddr x ∨ ctxAddr x + 64 ≤ a → t.loadB a = s.loadB a) := by
  have hu := hr.onlyHpt_poisoned p
  have hhpt (t : State) (ht : t = (s.poisoned p id).activateOne x) : t.hpt = (s.poisoned p id).hpt := by
    rw [ht, activateOne_eq]
    exact (storeFrame_activated _ _ _).hpt
  have hexec : exec (.activate id ⟨data, p⟩) s = .next (((s.poisoned p id).activateOne x).done d stOK (some 1)) := by
    refine congrArg Host.Outcome.next ((ctxCommand_accepted hr (q := fun op => op == 1) (beq_iff_eq.mpr hop) href).trans ?_)
    have hone : (s.poisoned p id).activateAll (ctxBody d) data = (s.poisoned p id).activateOne x := by
      rw [State.activateAll, hcount, hx, hmask]
      exact congrArg (State.activateOne · x) (ctxFields_none _ _ _)
    rw [hcount, hone]
  have hdone := onlyHpt_done ((s.poisoned p id).activateOne x) d stOK (some 1)
  have hcompleted := hr.completed_after p (hhpt _ rfl) stOK (some 1)
  generalize s.poisoned p id = u at hu hexec hdone hcompleted
  have hstart : s.startState x = 1 := by simp [State.startState, htile, hpaused]
  obtain ⟨hstate, hwcet, hcand, hovr, hbytes⟩ := activated_shows u x 1
  have hopen := activated_open u x 1
  have hframe := storeFrame_activated u x 1
  have hmem : (u.activateOne x).mem = (u.activated x 1).mem := by rw [activateOne_eq, hu.startState, hstart]
  have hregs : (u.activateOne x).regs = (u.activated x 1).regs := by rw [activateOne_eq, hu.startState, hstart]
  have hload := load_of_mem (hdone.mem.trans hmem)
  refine ⟨_, hexec, (hload _ _).trans hstate, ?_, (hload _ _).trans (hwcet.trans ?_), (hload _ _).trans (hcand.trans ?_),
    (hload _ _).trans hovr, ?_, hcompleted, fun a ha => (memSame_of_mem (hdone.mem.trans hmem) a).trans ((hbytes a ha).trans ?_)⟩
  · rw [hdone.lpa, activateOne_eq, hu.startState, hstart]
    dsimp only
    rw [hframe.now, hu.now]
    exact List.mem_cons_self
  · rw [hu.load, hu.ctxProg]
  · rw [hu.load, hu.liveTarget]
  · rw [hdone.rd (f := LPA_OPEN_LOOP.OPEN) (by decide), rd_congr hregs]
    exact hopen
  · exact memSame_of_mem hu.mem a

/-- A DEACTIVATE stops the contexts and drops their jobs (R237). -/
theorem deactivate_stops (p : Bool) (hop : (ctxBody d).op = 2) : ∃ t, exec (.deactivate id ⟨data, p⟩) s = .next t ∧
    Completed d stOK (some (ctxBody d).count) s t ∧ ∀ x, (ctxBody d).first ≤ x → x < (ctxBody d).first + (ctxBody d).count →
      t.ctxState x = 0 ∧ (∀ j ∈ t.lpa.jobs, j.ctx ≠ x) ∧ (∀ r ∈ t.lpa.runs, r.job.ctx ≠ x) ∧ ∀ r ∈ t.lpa.ended, r.job.ctx ≠ x := by
  have hexec : exec (.deactivate id ⟨data, p⟩) s = _ := exec_deactivate s id ⟨data, p⟩
  rw [ctxCommand_accepted hr (q := fun op => op == 2) (beq_iff_eq.mpr hop) href] at hexec
  generalize hb : ctxBody d = b at *
  have hstop := storeFrame_stopAll b.ctxs (s.poisoned p id)
  generalize hu : b.ctxs.foldl State.stopCtx (s.poisoned p id) = u at hexec hstop
  have hpromote := (listFrame_refl (u.withoutJobs b)).promote
  have hdone := onlyHpt_done (u.withoutJobs b).promote d stOK (some b.count)
  have hhpt : (u.withoutJobs b).promote.hpt = (s.poisoned p id).hpt := by
    rw [hpromote.frame]
    exact hstop.hpt
  refine ⟨_, hexec, hr.completed_after p hhpt _ _, fun x hlo hhi => ?_⟩
  have hhas : b.has x = true := by simp [CtxBody.has, hlo, hhi]
  have hmem : x ∈ b.ctxs := List.mem_map.mpr ⟨x - b.first, List.mem_range.mpr (by omega), by omega⟩
  have gone {α : Type} (c : α → Nat) (l : List α) : ∀ a ∈ l.filter (fun a => !b.has (c a)), c a ≠ x := fun a ha e => by
    have h1 := (List.mem_filter.mp ha).2
    rw [e, hhas] at h1
    exact absurd h1 (by decide)
  have hjobs : (u.withoutJobs b).promote.lpa.jobs = u.lpa.jobs.filter fun j => !b.has j.ctx := by rw [hpromote.frame]; rfl
  have hruns : (u.withoutJobs b).promote.lpa.runs = u.lpa.runs.filter fun r => !b.has r.job.ctx := by rw [hpromote.frame]; rfl
  have hended : (u.withoutJobs b).promote.lpa.ended = u.lpa.ended.filter fun r => !b.has r.job.ctx := by rw [hpromote.frame]; rfl
  rw [hdone.lpa, hjobs, hruns, hended]
  refine ⟨?_, gone Job.ctx _, gone (fun r : Run => r.job.ctx) _, gone (fun r : Run => r.job.ctx) _⟩
  rw [ctxState_of_mem hdone.mem, (classFrame_promote _).ctxState]
  refine (ctxState_of_mem (t := u.withoutJobs b) (s := u) rfl x).trans ?_
  rw [← hu]
  exact ctxState_stopAll _ _ (.inl hmem)

/-- A SET_CLASS of one channel to a class that has room (R222, R223). -/
theorem setClass_sends (p : Bool) {ch : Nat} (hop : (ctxBody d).op = 3) (hcount : (ctxBody d).count = 1) (hx : (ctxBody d).first = 3 * ch)
    (hdusk : s.duskAsked = false) (hfull : s.classFull (ctxBody d).ncls = false) (hc : s.lpa.changes = []) (hs : s.lpa.swait = [])
    (ht : s.lpa.twait = []) (hne : s.chClass ch ≠ (ctxBody d).ncls) : ∃ t, exec (.setClass id ⟨data, p⟩) s = .next t ∧
      t.lpa.changes = [⟨ch, (ctxBody d).ncls, s.now⟩] ∧ Completed d stOK (some 1) s t := by
  have hu := hr.onlyHpt_poisoned p
  have hctxs : (ctxBody d).ctxs = [3 * ch] := by simp [CtxBody.ctxs, hcount, hx]
  have hexec : exec (.setClass id ⟨data, p⟩) s = .next (((s.poisoned p id).sendTo ch (ctxBody d).ncls).promote.done d stOK (some 1)) := by
    refine congrArg Host.Outcome.next ((ctxCommand_accepted hr (q := fun op => op == 3) (beq_iff_eq.mpr hop) href).trans ?_)
    rw [hctxs, hcount, List.foldl_cons, List.foldl_nil, Nat.mul_div_cancel_left ch (by decide)]
  have hsend := (listFrame_refl (s.poisoned p id)).sendTo ch (ctxBody d).ncls
  have hcompleted (t : State) (h : ListFrame (s.poisoned p id) t) := hr.completed_after p (t := t) (by rw [h.frame]) stOK (some 1)
  have hclass := sameClass_of_mem hu.mem
  have hcap : (s.poisoned p id).classCap (ctxBody d).ncls = s.classCap (ctxBody d).ncls := by
    rw [State.classCap, State.classCap, hu.rd (f := LPA_CAPS.SETTLE_CAP) (by decide), hu.rd (f := LPA_CAPS.TRACK_CAP) (by decide)]
  have hlpa := hu.lpa
  obtain ⟨hchanges, hsw, htw⟩ := sendTo_changes (s := s.poisoned p id) (ch := ch) (cls := (ctxBody d).ncls)
    ((on_of_rd (hu.rd (f := PWR_CTL.DUSK_REQ) (by decide) 0 0 0)).trans hdusk)
    ((classFull_congr (ctxState_of_mem hu.mem) hclass hcap hc (hlpa ▸ hc)).trans hfull) (hlpa ▸ hc) (hlpa ▸ hs) (hlpa ▸ ht)
    ((hclass ch).1 ▸ hne)
  rw [promote_nil hsw htw] at hexec
  refine ⟨_, hexec, ?_, hcompleted _ hsend⟩
  rw [(onlyHpt_done _ _ _ _).lpa, hchanges, hu.now]

end

/-- CTX_READ returns the entries of the contexts asked for (R239). -/
theorem ctxRead_returns {s : State} {id first count : Nat} {d : Desc} (hr : Runs s id opCtxRead d) (hfirst : first = d.fld 8 4)
    (hcount : count = d.fld 12 2) (h1 : 1 ≤ count) (h2 : count ≤ 1024) (h3 : first + count ≤ 49152) (h4 : d.fld 16 8 % 8 = 0)
    (h5 : zeros d.bytes 14 2 = true) (h6 : zeros d.bytes 24 40 = true)
    (hread : ((List.range count).all fun i => s.ctxReadable d.dom (first + i)) = true) :
    ∃ t, exec (.ctxRead id) s = .next t ∧ Completed d stOK (some count) s t ∧ OnlyHpt s t ∧
      ∃ pre, t.out = pre ++ .host s.active (d.fld 16 8) false ((List.range count).flatMap fun i => s.ctxEntry (first + i)) :: s.out := by
  subst hfirst hcount
  have hexec : exec (.ctxRead id) s = .next ((s.toHost (d.fld 16 8) ((List.range (d.fld 12 2)).flatMap fun i =>
      s.ctxEntry (d.fld 8 4 + i))).done d stOK (some (d.fld 12 2))) := by
    show execCtxRead id s = _
    unfold execCtxRead
    rw [withOp_of_runs hr]
    dsimp only
    rw [if_neg (by simp [h4, h5, h6]; omega), if_neg (by rw [List.all_map]; simpa using hread), List.flatMap_map]
  generalize (List.range (d.fld 12 2)).flatMap (fun i => s.ctxEntry (d.fld 8 4 + i)) = bytes at hexec ⊢
  obtain ⟨free, owed, hrep⟩ := finish_reports (s.toHost (d.fld 16 8) bytes) d stOK (some (d.fld 12 2)) (s.toHost (d.fld 16 8) bytes).ticks 0
  obtain ⟨pre, hout, -⟩ := hrep.out
  exact ⟨_, hexec, (completed_done _ _ _ _).of_hpt rfl, (onlyHpt_emit s _).trans (onlyHpt_done _ _ _ _), pre, hout⟩

end Sys2Proof.Machine

open Sys2Proof Sys2Proof.Machine

/-- Settles O38, clause by clause: the refusals of R238, then WRITE, ACTIVATE, DEACTIVATE, SET_CLASS and CTX_READ where they are done. -/
theorem contextCommands : Obligations.ContextCommands := by
  unfold Obligations.ContextCommands
  exact ⟨fun s id d data p st r i hr href hi => ctxCommands_refuse hr href hi,
    fun s d data hok hop hcount => ctxRefusal_deactivate data hok hop hcount,
    fun s d data hok hop hcount hmask h0 hfollow => ctxRefusal_activate_unfollowed data hok hop hcount hmask h0 hfollow,
    fun s id x d data p hr href hop hcount hx hmask => ctxWrite_writes hr href p hop hcount hx hmask,
    fun s id x d data p hr href hop hcount hx hmask htile hpaused => activate_runs hr href p hop hcount hx hmask htile hpaused,
    fun s id d data p hr href hop => deactivate_stops hr href p hop,
    fun s id ch d data p hr href hop hcount hx hdusk hfull hc hs ht hne => setClass_sends hr href p hop hcount hx hdusk hfull hc hs ht hne,
    fun s id first count d hr hfirst hcount h1 h2 h3 h4 h5 h6 hread => ctxRead_returns hr hfirst hcount h1 h2 h3 h4 h5 h6 hread⟩

end
